-- ==== Sys2Proof/Word.lean ====
section
/-!
DEFINITION. Words and bytes (R6, R7 of spec/00_scope.md).
-/
namespace Sys2Proof

/-- A 32-bit register word (R7). -/
abbrev Word := BitVec 32

/-- One byte of a memory, a packet or a record (R6). -/
abbrev Byte := BitVec 8

end Sys2Proof
end

