-- ==== Sys2Proof/Syntax.lean ====
section
/-!
DEFINITION. The commands of the block: one constructor for each row of spec/opcode_table.json, with the row's operands. `t` is the
instant of a command in nanoseconds of the raw TCXO since power-on (notes/assumptions/1.md); a happening that the part schedules itself
(a tick, a deadline, a latch) has no `t`, since its instant follows from the state.
-/
namespace Sys2Proof

/-- The two twins. -/
inductive Twin where
  | a | b
deriving DecidableEq, Repr

/-- Who makes an access (R7): each has its own latch and hold for every 64-bit register. -/
inductive Requester where
  | pcie | i2c | relay
  | core (w : Twin) (c : Fin 16)
deriving DecidableEq, Repr

/-- The path on which a control write reaches a twin's registers: the mirror aperture, a private aperture, or a core's own twin (R27). -/
inductive Via where
  | mirror
  | priv (w : Twin)
  | core (w : Twin) (c : Fin 16)
deriving DecidableEq, Repr

/-- An upset of one replica of a Curve Store point (R251, R262): the replica of a lane then holds this value, with good parity or bad. -/
structure Upset where
  lane : Fin 8
  value : BitVec 20
  good : Bool
deriving DecidableEq, Repr

/-- A lane's read of a curve point (R262), and the upsets that the point has had since it was last written or read. -/
structure LaneRead where
  point : Fin 1024
  lane : Fin 8
  upsets : List Upset
deriving DecidableEq, Repr

/-- A host write that the Thallus forwards to the twins: a register word at a twin offset, or a bulk write at a BAR2 offset. -/
inductive Forwarded where
  | word (off : Nat) (v : Word)
  | bulk (off : Nat) (bytes : List Byte)
deriving DecidableEq, Repr

/-- An access to a twin's aperture: a read, or a write of a word. -/
inductive Access where
  | read
  | write (v : Word)
deriving DecidableEq, Repr

/-- A word to be written with its byte enables: bit `i` of `be` for byte `i` (R421, R435). -/
structure LaneWord where
  be : BitVec 4
  data : Word
deriving DecidableEq, Repr

/-- An access of a far initiator (R436): a read, or a write of the bytes that its data phase enables. -/
inductive FarAccess where
  | read
  | write (v : LaneWord)
deriving DecidableEq, Repr

/-- What one twin's stream holds at the close of a block (R347): whether the block is whole, and the CRC of the symbols it holds. -/
inductive BlockSide where
  | incomplete (crc : Word)
  | whole (crc : Word)
deriving DecidableEq, Repr

/-- How a far target ends a Rhizoid data phase (R435). -/
inductive RzResponse where
  | ready (data : Word)
  | error
  | retry
deriving DecidableEq, Repr

/-- How a bank access meets an ECC error (R404): where the word lies and whether it can be corrected. -/
inductive EccSite where
  | bank (n : Fin 96) (off : Nat)
  | lmem (c : Fin 16) (off : Nat)
  | dram (off : Nat) (req : Fin 7)
deriving DecidableEq, Repr

/-- An agent that accesses a bank (R399): the owners of Table 15-1, with the core's number for a core. -/
inductive BankAgent where
  | host | sorus | netDma | compositor | testEngine
  | core (c : Fin 16)
deriving DecidableEq, Repr

/-- A slice (R194): a strand port's, or that of an output universe entry. -/
inductive SliceKey where
  | port (p : Fin 128)
  | univ (u : Fin 16384)
deriving DecidableEq, Repr

/-- The result that a far or outside part gives to a check: good or failed. -/
abbrev Passed := Bool

inductive Instr where
  -- resets and start (chapters 1, 4, 21)
  | powerOnReset (t : Nat)
  | powerOnResetEnd (t : Nat)
  | resetNAssert (t : Nat)
  | resetNRelease (t : Nat)
  | devRst (t : Nat) (src : Requester) (key : Byte) (ctxRst : Bool)
  | ctxRst (t : Nat) (src : Requester) (key : Byte)
  | contextReset
  | rejLoaded (t : Nat)
  | twinStartComplete (t : Nat) (w : Twin)
  | twinStartTimeout
  -- accesses through the apertures (chapter 1)
  | mirrorWrite (t : Nat) (req : Requester) (off : Nat) (v : Word)
  | mirrorTimeout (t : Nat) (req : Requester) (w : Twin) (wr : Forwarded)
  | mirrorRead (t : Nat) (req : Requester) (off : Nat)
  | notwinRead (t : Nat) (target : Option Twin) (off : Nat)
  | deadAcc (t : Nat) (w : Twin) (acc : Access) (off : Nat)
  | bulkWrite (t : Nat) (off : Nat) (bytes : List Byte)
  | xtwinAcc (t : Nat) (w : Twin) (c : Fin 16) (acc : Access) (off : Nat)
  | coreThallusWrite (t : Nat) (w : Twin) (c : Fin 16) (addr : Nat) (v : Word)
  -- device control (chapter 1)
  | rstSet (t : Nat) (src : Requester) (ta tb : Bool) (force : Bool)
  | rstClear (t : Nat) (src : Requester) (ta tb : Bool)
  | isoSet (t : Nat) (src : Requester) (ta tb : Bool) (force : Bool)
  | isoClear (t : Nat) (src : Requester) (ta tb : Bool)
  | swap (t : Nat) (src : Requester) (force : Bool)
  | roleSwap
  | outHold (t : Nat) (src : Requester) (on : Bool)
  | outSafe (t : Nat) (src : Requester) (on : Bool)
  | wdogCtlWrite (t : Nat) (src : Requester) (v : Word)
  | wdogKick (t : Nat) (src : Requester) (v : Word)
  | wdogExpired
  -- the tick and the frame (chapter 2)
  | tick
  | computeDeadline
  | stripeComplete (t : Nat) (w : Twin) (stripe : Nat)
  | patchDone (t : Nat) (w : Twin)
  | sliceReady (t : Nat) (w : Twin) (key : SliceKey)
  | emissionStart (key : SliceKey)
  | sorediumLatch
  | frameRecord (w : Twin)
  | tgenCommit (t : Nat) (src : Requester) (cancel : Bool)
  | tgenCancel (t : Nat) (src : Requester)
  | tgenPhaseWrite (t : Nat) (src : Requester) (v : BitVec 64)
  -- time bases (chapter 3)
  | tbMeasSubmit (t : Nat) (src : Requester) (n : Fin 4) (newSrc invalid : Bool)
  | tbMeasInvalid (t : Nat) (src : Requester) (n : Fin 4)
  | tbMeasNewSrc (t : Nat) (src : Requester) (n : Fin 4)
  | tbHoldover (t : Nat) (n : Fin 4)
  | tbHoldLong (n : Fin 4)
  | tbSlewEnd (n : Fin 4)
  | ltcFrame (t : Nat) (hh mm ss ff : Byte)
  | ltcLoss (t : Nat)
  | wclkMeasurement (t : Nat) (hz : Nat) (rate : Int)
  | tbModeWrite (t : Nat) (src : Requester) (n : Fin 4) (mode : Fin 4)
  | tbSet (t : Nat) (src : Requester) (n : Fin 4)
  | tb3TrimWrite (t : Nat) (src : Requester) (v : Word)
  -- grafts (chapter 4)
  | graftGo (t : Nat) (via : Via)
  | graftArmed (t : Nat) (w : Twin)
  | graftCancel (t : Nat) (via : Via)
  | graftCatchupDone (t : Nat) (w : Twin)
  -- network (chapter 5)
  | netLinkUp (t : Nat) (n : Fin 4)
  | netLinkDown (t : Nat) (n : Fin 4) (hiBer : Bool)
  | netRxFrame (t t0 : Nat) (n : Fin 4) (good : Bool) (bytes : List Byte)
  | joinReport (t : Nat) (w : Twin) (n : Fin 4)
  | sacnSrcLoss (t : Nat) (w : Twin)
  | sacnSyncLoss (t : Nat) (w : Twin)
  | stFlowLoss (t : Nat) (w : Twin) (f : Fin 8)
  | netRxfree (t : Nat) (via : Via) (slot : Nat)
  | netTxTail (t : Nat) (via : Via) (n : Fin 4) (v : Word)
  | netTxDone (t : Nat) (n : Fin 4)
  | netWakeMatch (t : Nat) (n : Fin 4) (i : Fin 32) (bytes : List Byte)
  -- layers (chapter 6)
  | layerCmt (t : Nat) (via : Via) (v : Word)
  | layerRelay (t : Nat) (src : Requester) (v : Word)
  | layerDamagedClear (t : Nat) (via : Via) (l : Fin 16) (mask : Fin 16)
  -- colour (chapter 8) and curves (chapter 9)
  | colrCmt (t : Nat) (via : Via) (v : Word)
  | colrZoneForce (t : Nat) (via : Via) (v : Word)
  | zoneCold (w : Twin) (z : Fin 4096)
  | zoneRampEnd (w : Twin) (z : Fin 4096)
  | curvScrub (t : Nat) (w : Twin) (bad : List Upset)
  | curvParityRetry (t : Nat) (w : Twin) (slot : Fin 256) (pt : LaneRead)
  -- Proren (chapter 10)
  | strdEnum (t : Nat) (via : Via) (p : Fin 128)
  | prnEnum (p : Fin 128)
  | enumReply (t : Nat) (p : Fin 128) (bytes : List Byte)
  | enumCountWaitEnd (p : Fin 128)
  | enumEchoTimeout (p : Fin 128)
  | prnEnumDone (t : Nat) (p : Fin 128)
  | strdFull (t : Nat) (via : Via) (p : Fin 128)
  | prnStatus (t : Nat) (p : Fin 128) (slot : Nat) (bytes : List Byte)
  | prnSlotMiss (t : Nat) (p : Fin 128) (slot : Nat)
  | prnUpErr (t : Nat) (p : Fin 128)
  | prnNodeWake (t : Nat) (p : Fin 128)
  | prnUpLock (t : Nat) (p : Fin 128)
  | prnUpLockLoss (t : Nat) (p : Fin 128)
  | holdKeepalive
  | streamAbsent (t : Nat) (p : Fin 128)
  -- DMX and RDM (chapter 11)
  | rdmSubmit (t : Nat) (via : Via) (v : Word)
  | rdmRequestStart (t : Nat) (w : Twin) (p : Fin 128)
  | rdmResponse (t : Nat) (p : Fin 128) (good : Bool) (bytes : List Byte)
  | rdmResponseTimeout (p : Fin 128)
  | rdmDisc (t : Nat) (via : Via) (p : Fin 128)
  | rdmDiscPeriod (w : Twin) (p : Fin 128)
  | rdmDiscDone (t : Nat) (w : Twin) (p : Fin 128)
  -- health (chapter 12)
  | hlthPost (t : Nat) (via : Via) (v : Word)
  | hlthNoReport (t : Nat) (w : Twin) (fixture : Nat)
  | diagVoid (w : Twin)
  -- the Peristome (chapter 13)
  | periBlockClose (t : Nat) (stream : Fin 132) (block : Nat) (sa sb : BlockSide) (busy : Bool) (back : Nat)
  | periArbDecide
  | periResume
  | digestCompare (t : Nat) (arrA arrB : Bool)
  | healthFlag (t : Nat) (w : Twin) (bit : Fin 12)
  | hbLoss (t : Nat) (w : Twin)
  | heartbeat (t : Nat) (w : Twin)
  | resyncCopyDone (t : Nat)
  | resyncFail (t : Nat)
  -- Sorus (chapter 14)
  | sorusPush (t : Nat) (via : Via) (v : Word)
  | sorusRel (t : Nat) (via : Via) (v : Word)
  | sorusDone (t : Nat) (w : Twin) (c : Fin 16)
  | dropPkt (t : Nat) (via : Via) (q : Fin 64)
  | winDropPkt (t : Nat) (via : Via) (q : Fin 64)
  | sorusPop (t : Nat) (via : Via) (q : Fin 64)
  | winHdrPop (t : Nat) (via : Via) (q : Fin 64)
  | mirrorPop (t : Nat) (req : Requester) (win : Bool) (q : Fin 64)
  | sorusDispatch (t : Nat) (w : Twin)
  | sorusPreempt (t : Nat) (w : Twin)
  -- banks and memory (chapter 15)
  | bankOwnerWrite (t : Nat) (via : Via) (n : Fin 96) (v : Word)
  | bankStateWrite (t : Nat) (via : Via) (n : Fin 96) (v : Word)
  | bankGrant (t : Nat) (w : Twin) (n : Fin 96)
  | bankReady (t : Nat) (w : Twin) (n : Fin 96)
  | bankAccessFault (t : Nat) (w : Twin) (n : Fin 96) (agent : BankAgent)
  | memEccError (t : Nat) (w : Twin) (site : EccSite) (correctable : Bool)
  | bankTestWindow (t : Nat) (w : Twin) (march rerun : Passed)
  | bankTestAbort (t : Nat) (w : Twin) (n : Fin 96)
  | lmemScrub (t : Nat) (w : Twin) (c : Fin 16)
  | dramScrub (t : Nat) (w : Twin)
  | dramAccessDenied (t : Nat) (w : Twin) (agent : BankAgent) (acc : Access) (off : Nat)
  -- host, mailbox, management (chapter 16)
  | hostRelay (t : Nat) (w : Twin) (c : Fin 16) (v : Word)
  | mbxWrite (t : Nat) (portB : Bool) (src : Requester) (word : Nat) (v : LaneWord)
  | mbxRead (t : Nat) (portB : Bool) (src : Requester) (word : Nat)
  | mgmtWrite (t : Nat) (addr : Nat) (words : List Word) (pecOk : Passed)
  | mgmtRead (t : Nat) (addr : Nat) (count : Nat)
  | mgmtTimeout (t : Nat)
  | mgmtWake (t : Nat)
  | perst (t : Nat) (asserted : Bool)
  | msixRelease (t : Nat) (en bme fmask : Bool)
  | flashRead (t : Nat) (src : Requester) (ch : Fin 2) (len : Nat)
  | flashProgram (t : Nat) (src : Requester) (ch : Fin 2) (len : Nat)
  | flashErase4k (t : Nat) (src : Requester) (ch : Fin 2)
  | flashErase64k (t : Nat) (src : Requester) (ch : Fin 2)
  | flashReadSfdp (t : Nat) (src : Requester) (ch : Fin 2) (len : Nat)
  | flashCopy (t : Nat) (src : Requester) (ch : Fin 2) (len : Nat)
  | flashCmdDone (t : Nat) (ch : Fin 2)
  | flashTimeout (t : Nat) (ch : Fin 2)
  -- the Rhizoid bus (chapter 16)
  | rzOutboundWrite (t : Nat)
  | rzOutboundRead (t : Nat) (req : Requester) (addr : Nat)
  | rzLockedRead (t : Nat) (w : Twin) (c : Fin 16) (addr : Nat)
  | rzLockTimeout
  | rzInbound (t : Nat) (far : Fin 2) (addr : Nat) (acc : FarAccess)
  | rzRequest (t : Nat) (far : Fin 2)
  | rzGrantLost (t : Nat)
  | rzCrossing (t : Nat) (far : Fin 2)
  | rzPhaseTimeout (t : Nat)
  | rzLinePoll (t : Nat) (lines : Byte)
  | rzPrefetchExpire (t : Nat)
  | rzTargetResponse (t : Nat) (r : RzResponse)
  | rzpSemRead (t : Nat) (src : Requester) (n : Fin 32)
  | rzpSemWrite (t : Nat) (src : Requester) (n : Fin 32) (v : Word)
  -- the control channel (chapter 16)
  | ctlHello (t : Nat) (n : Fin 4) (msg : List Byte)
  | ctlRead (t : Nat) (n : Fin 4) (msg : List Byte)
  | ctlWrite (t : Nat) (n : Fin 4) (msg : List Byte)
  | ctlClose (t : Nat) (n : Fin 4) (msg : List Byte)
  | ctlSessionTimeout (t : Nat)
  | ctlKeyData (t : Nat) (via : Via) (v : Word)
  | ctlKeyClear (t : Nat) (via : Via) (v : Word)
  -- power (chapter 17)
  | pwrReqRun (t : Nat) (src : Requester) (v : Word)
  | pwrReqDim (t : Nat) (src : Requester) (v : Word)
  | pwrReqNap (t : Nat) (src : Requester) (v : Word)
  | pwrReqDark (t : Nat) (src : Requester) (v : Word)
  | powerOffSequencing (t : Nat) (src : Requester) (key : Byte) (answers : Bool)
  | pwrStateChange
  | sleepSequence (t : Nat)
  | sleepStepTimeout (t : Nat)
  | sleepRetry
  | pwrOppWrite (t : Nat) (src : Requester) (v : Word)
  | oppRaiseSettle (t : Nat) (pgA pgB : Bool)
  | oppLowerSettle
  | oppPgTimeout (pgA pgB : Bool)
  | pwrAlarm
  | napWake (t : Nat) (source : Fin 8)
  | darkWake (t : Nat) (source : Fin 8)
  | wakePgTimeout (t : Nat) (rail : Fin 16)
  | wakePllTimeout (t : Nat)
  | brownoutWarn (t : Nat) (rail : Fin 16) (high : Bool)
  | railReset (t : Nat) (rail : Fin 16)
  | railRecover (t : Nat) (w : Twin)
  | dieSensorOvertemp (t : Nat) (w : Twin)
  -- update and replacement (chapter 18)
  | bootAct (t : Nat) (src : Requester) (v : Word)
  | fwTrial (t : Nat)
  | inPlaceRestart (t : Nat)
  | inPlaceRebuildDone (t : Nat)
  | bootVerify (t : Nat) (src : Requester) (v : Word)
  | bootVerifyDone (t : Nat)
  | updHealthConfirm (t : Nat) (via : Via) (v : Word)
  | trialExpired (t : Nat)
  | trialStartTimeout (t : Nat)
  | bootRecordWrite (t : Nat)
  | settingsWrite (t : Nat) (w : Twin)
  | otpProgram (t : Nat) (src : Requester) (v : Word)
  | otpRevoke (t : Nat) (src : Requester) (v : Word)
  | rejBootWrite (t : Nat) (src : Requester) (v : Word)
  | pkgExport (t : Nat) (via : Via) (v : Word)
  | pkgImport (t : Nat) (via : Via) (v : Word)
  | pkgDone (t : Nat) (w : Twin)
  -- calibration (chapter 19)
  | calAll (t : Nat) (src : Requester)
  | calUnit (t : Nat) (src : Requester) (unit : Nat)
  | calPeriod
  | calRun (t : Nat)
  | calUnitDone (t : Nat) (ok : Passed) (code : Nat)
  | calStrandApply (p : Fin 128)
  -- events (chapter 20)
  | eventRaise (t : Nat) (src : Option Twin) (n : Fin 256) (data : Word) (late : Nat)
  | evtSoft (t : Nat) (via : Via) (v : Word)
  | evtLogTail (t : Nat) (src : Requester) (v : Word)
  | evtPendClear (t : Nat) (src : Requester) (g : Fin 8) (v : Word)
  -- balls and plain registers
  | tapInstruction (t : Nat) (code : Nat)
  | registerWrite (t : Nat) (req : Requester) (addr : Nat) (v : Word)
deriving DecidableEq, Repr

end Sys2Proof
end

