-- ==== Sys2Proof/Decode.lean ====
section
/-!
DEFINITION. The commands that a word spells. No row of spec/opcode_table.json gives bits (every row's "fields" is empty), so a word spells no
command.
-/
namespace Sys2Proof

/-- The command of a word of `nbits` bits, by the table's bits: none, since no row gives any. -/
def decodeTableWord (_nbits _w : Nat) : Option Instr := none

end Sys2Proof
end

