-- ==== Sys2Proof/Config.lean ====
section
/-!
DEFINITION. What an implementation fixes and the free values: constants without a body, so that no proof can see a value of them. A
statement that mentions one of them holds whatever it is. notes/assumptions/6.md, 7.md and 16.md list them.
-/
namespace Sys2Proof

/-- A free value of `w` bits: what the spec leaves open or calls undefined. The step applies it to the counter `State.free`, which it
advances, so that two readings are not forced to agree. -/
opaque Config.freeValue : Nat → Nat

/-- Whether a signature of an image or a firmware slot verifies with the public key of an OTP slot (R110, R477): the bytes signed, the
key's slot, the key programmed there (empty for slot 0, whose key the spec does not give) and the two signature values. ECDSA P-384 over
SHA-384 is a standard outside the spec. -/
opaque Config.signatureOk : List Byte → Nat → List Byte → List Byte → Bool

/-- The HMAC-SHA-256 tag of a control-channel message under a key (R446): a standard outside the spec, whose tags have 32 bytes. The first argument is the key. -/
opaque Config.hmacSha256 : List Byte → List Byte → Vector Byte 32

/-- The servo's rate after a valid measurement, in units of 2^-40 (R84): the spec names the time constants TC and TC/4 and gives no figure for
them. The arguments are the base, the code of its state, the history of (offset in 1/16 ns, raw instant at which it held) and the rate in
force. -/
opaque Config.servoRate : Nat → Nat → List (Int × Nat) → Int → Int

/-- The delay in ns of a join report, derived from the query's stamp and the station address (R149): the spec gives its bounds and no
formula. -/
opaque Config.joinDelay : Nat → List Byte → Nat → Nat

/-- The factory trim code of a unit in the Thallus OTP (R496): the spec gives no figure. -/
opaque Config.factoryCode : Nat → Nat

/-- The 64-bit digest of a twin's control state (R342): the spec gives what it covers and the CRC of R109, and not how the covered fields are
laid out as bytes. -/
opaque Config.digest : List (Nat × Nat) → Nat

end Sys2Proof
end

