-- ==== Sys2Proof/Machine/Reg.lean ====
section
/-!
DEFINITION. The home address of every register of the spec (BAR0 byte address; the heading line of each register
gives it), and the place of every field in its register (R5: bit 0 is the least significant bit). A register of a twin lies in that
twin's private aperture (Table 1-4). The registers of a DMX, RDM or pixel port (chapter 11) share the offsets of the Proren registers of
the same port (chapter 10): the model gives them a home of their own, 0x80 above, inside the port's block.
-/
namespace Sys2Proof

/-- The private aperture of a twin (Table 1-4). -/
def Twin.base : Twin → Nat
  | .a => 0x10000000
  | .b => 0x20000000

/-- The other twin. -/
def Twin.other : Twin → Twin
  | .a => .b
  | .b => .a

/-- 0 for Twin A, 1 for Twin B: the code of every field that names a twin. -/
def Twin.code : Twin → Nat
  | .a => 0
  | .b => 1

namespace Machine

/-- A field of a register: most and least significant bit. A 64-bit register counts its bits from the low word. -/
structure Fld where
  hi : Nat
  lo : Nat
deriving DecidableEq, Repr


/-! Registers of 01_thallus_and_twins.md. -/

def Reg.DEV_ID : Nat := 0x0
def Reg.DEV_STAT : Nat := 0x4
def Reg.DEV_CTL : Nat := 0x8
def Reg.TWIN_CTL : Nat := 0x10
def Reg.OUT_CTL : Nat := 0x14
def Reg.WDOG_CTL : Nat := 0x18
def Reg.WDOG_KICK : Nat := 0x1C
def Reg.MIRROR_STAT : Nat := 0x20
def Reg.TWIN_ID (w : Twin) : Nat := w.base + 0x0
def Reg.TWIN_ROLE (w : Twin) : Nat := w.base + 0x4

/-! Registers of 02_frame_tick.md. -/

def Reg.TGEN_CTL : Nat := 0x3800
def Reg.TGEN_STAT : Nat := 0x3804
def Reg.TGEN_RATE : Nat := 0x3808
def Reg.TGEN_CDL : Nat := 0x380C
def Reg.TGEN_LOFS : Nat := 0x3810
def Reg.TGEN_NUM : Nat := 0x3814
def Reg.TGEN_LIVE_RATE : Nat := 0x3818
def Reg.TGEN_LIVE_CDL : Nat := 0x381C
def Reg.TGEN_LIVE_LOFS : Nat := 0x3820
def Reg.TGEN_TICK_TS : Nat := 0x3828
def Reg.TGEN_LATCH_TS : Nat := 0x3830
def Reg.TICK_FR_NEWEST (w : Twin) : Nat := w.base + 0x10000
def Reg.TICK_PEAK (w : Twin) : Nat := w.base + 0x10004
def Reg.TICK_STALE_CNT (w : Twin) : Nat := w.base + 0x10008
def Reg.TICK_DROP_CNT (w : Twin) : Nat := w.base + 0x1000C
def Reg.TICK_EVT_CTL (w : Twin) : Nat := w.base + 0x10010
def Reg.TICK_STALE_PORT (w : Twin) (n : Nat) : Nat := w.base + 0x10020 + n * 0x4

/-! Registers of 03_time_bases.md. -/

def Reg.TB_CTL (n : Nat) : Nat := 0x3000 + n * 0x100
def Reg.TB_STAT (n : Nat) : Nat := 0x3004 + n * 0x100
def Reg.TB_NOW (n : Nat) : Nat := 0x3008 + n * 0x100
def Reg.TB_RATE (n : Nat) : Nat := 0x3010 + n * 0x100
def Reg.TB_THRESH (n : Nat) : Nat := 0x3014 + n * 0x100
def Reg.TB_STEP_CTL (n : Nat) : Nat := 0x3018 + n * 0x100
def Reg.TB_SLEW (n : Nat) : Nat := 0x301C + n * 0x100
def Reg.TB_TIMEOUT (n : Nat) : Nat := 0x3020 + n * 0x100
def Reg.TB_MEAS_AT (n : Nat) : Nat := 0x3024 + n * 0x100
def Reg.TB_MEAS_OFS (n : Nat) : Nat := 0x3028 + n * 0x100
def Reg.TB_MEAS_CTL (n : Nat) : Nat := 0x3030 + n * 0x100
def Reg.TB_OFS_LAST (n : Nat) : Nat := 0x3034 + n * 0x100
def Reg.TB_HOLD_AGE (n : Nat) : Nat := 0x3038 + n * 0x100
def Reg.TB_RATE_AVG (n : Nat) : Nat := 0x303C + n * 0x100
def Reg.TB_SET (n : Nat) : Nat := 0x3040 + n * 0x100
def Reg.TB_STEP_LAST (n : Nat) : Nat := 0x3048 + n * 0x100
def Reg.TB_STEP_TS (n : Nat) : Nat := 0x3050 + n * 0x100
def Reg.TB2_LTC_CTL : Nat := 0x3280
def Reg.TB2_LTC_TC : Nat := 0x3284
def Reg.TB2_WCLK : Nat := 0x3288
def Reg.TB3_TRIM : Nat := 0x3380
def Reg.TGEN_SRC : Nat := 0x3840
def Reg.TGEN_SRC_STAT : Nat := 0x3844
def Reg.TGEN_PHASE : Nat := 0x3848

/-! Registers of 04_rejor_image.md. -/

def Reg.REJ_BOOT : Nat := 0x6800
def Reg.REJ_LOAD_STAT : Nat := 0x6804
def Reg.REJ_LOAD_ERR_AT : Nat := 0x6808
def Reg.REJ_LOAD_ID : Nat := 0x680C
def Reg.REJ_GRAFT_CTL (w : Twin) : Nat := w.base + 0xD0800
def Reg.REJ_GRAFT_TICK (w : Twin) : Nat := w.base + 0xD0804
def Reg.REJ_GRAFT_OFS (w : Twin) : Nat := w.base + 0xD0808
def Reg.REJ_GRAFT_STAT (w : Twin) : Nat := w.base + 0xD080C
def Reg.REJ_GRAFT_ERR_AT (w : Twin) : Nat := w.base + 0xD0810
def Reg.REJ_GRAFT_APPLIED (w : Twin) : Nat := w.base + 0xD0814
def Reg.REJ_IMAGE (w : Twin) : Nat := w.base + 0xD0818
def Reg.REJ_GRAFT_CNT (w : Twin) : Nat := w.base + 0xD081C

/-! Registers of 05_network_ingest.md. -/

def Reg.NET_LINK (w : Twin) (n : Nat) : Nat := w.base + 0x30000 + n * 0x100
def Reg.NET_RX_FRAMES (w : Twin) (n : Nat) : Nat := w.base + 0x30008 + n * 0x100
def Reg.NET_RX_BYTES (w : Twin) (n : Nat) : Nat := w.base + 0x30010 + n * 0x100
def Reg.NET_RX_ERR (w : Twin) (n : Nat) : Nat := w.base + 0x30018 + n * 0x100
def Reg.NET_RX_DROP (w : Twin) (n : Nat) : Nat := w.base + 0x3001C + n * 0x100
def Reg.NET_RX_MISC (w : Twin) (n : Nat) : Nat := w.base + 0x30020 + n * 0x100
def Reg.NET_TX_FRAMES (w : Twin) (n : Nat) : Nat := w.base + 0x30028 + n * 0x100
def Reg.NET_TX_BYTES (w : Twin) (n : Nat) : Nat := w.base + 0x30030 + n * 0x100
def Reg.NET_TX_TAIL (w : Twin) (n : Nat) : Nat := w.base + 0x30040 + n * 0x100
def Reg.NET_TX_HEAD (w : Twin) (n : Nat) : Nat := w.base + 0x30044 + n * 0x100
def Reg.NET_SLOWQ (w : Twin) : Nat := w.base + 0x30400
def Reg.NET_RXFREE (w : Twin) : Nat := w.base + 0x30404
def Reg.NET_POOL (w : Twin) : Nat := w.base + 0x30408
def Reg.SACN_CNT_BAD (w : Twin) : Nat := w.base + 0x30800
def Reg.SACN_CNT_DUP (w : Twin) : Nat := w.base + 0x30804
def Reg.SACN_CNT_MISC (w : Twin) : Nat := w.base + 0x30808
def Reg.SACN_SEL (w : Twin) : Nat := w.base + 0x30810
def Reg.SACN_U_STAT (w : Twin) : Nat := w.base + 0x30814
def Reg.SACN_U_TS (w : Twin) : Nat := w.base + 0x30818
def Reg.SACN_U_PKTS (w : Twin) : Nat := w.base + 0x30820
def Reg.ST_STAT (w : Twin) (f : Nat) : Nat := w.base + 0x30A00 + f * 0x20
def Reg.ST_RTP (w : Twin) (f : Nat) : Nat := w.base + 0x30A04 + f * 0x20
def Reg.ST_CNT_FRM (w : Twin) (f : Nat) : Nat := w.base + 0x30A08 + f * 0x20
def Reg.ST_CNT_RATE (w : Twin) (f : Nat) : Nat := w.base + 0x30A0C + f * 0x20
def Reg.ST_CNT_PKT (w : Twin) (f : Nat) : Nat := w.base + 0x30A10 + f * 0x20
def Reg.ST_FRZ_TS (w : Twin) (f : Nat) : Nat := w.base + 0x30A18 + f * 0x20
def Reg.NWAKE_STAT (n : Nat) : Nat := 0x2800 + n * 0x4

/-! Registers of 06_layers_and_commit.md. -/

def Reg.LAYER_RELAY : Nat := 0x40
def Reg.LAYER_CMT (w : Twin) : Nat := w.base + 0x40000
def Reg.LAYER_PEND (w : Twin) : Nat := w.base + 0x40004
def Reg.LAYER_LATE_TS (w : Twin) : Nat := w.base + 0x40008
def Reg.LAYER_LATE_TICK (w : Twin) : Nat := w.base + 0x40010
def Reg.LAYER_GUARD (w : Twin) : Nat := w.base + 0x40014
def Reg.LAYER_CNT (w : Twin) : Nat := w.base + 0x40018
def Reg.LAYER_DISCARD (w : Twin) : Nat := w.base + 0x4001C
def Reg.LAYER_BYTES (w : Twin) : Nat := w.base + 0x40020
def Reg.LAYER_EVT_CTL (w : Twin) : Nat := w.base + 0x40024
def Reg.LAYER_CHG (w : Twin) (n : Nat) : Nat := w.base + 0x40040 + n * 0x4
def Reg.LAYER_SLOT (w : Twin) (n : Nat) : Nat := w.base + 0x40100 + n * 0x40
def Reg.LAYER_MODE (w : Twin) (n : Nat) : Nat := w.base + 0x40104 + n * 0x40
def Reg.LAYER_OPACITY (w : Twin) (n : Nat) : Nat := w.base + 0x40108 + n * 0x40
def Reg.LAYER_WIN_POS (w : Twin) (n : Nat) : Nat := w.base + 0x4010C + n * 0x40
def Reg.LAYER_WIN_SIZE (w : Twin) (n : Nat) : Nat := w.base + 0x40110 + n * 0x40
def Reg.LAYER_LIVE_SLOT (w : Twin) (n : Nat) : Nat := w.base + 0x40120 + n * 0x40
def Reg.LAYER_LIVE_MODE (w : Twin) (n : Nat) : Nat := w.base + 0x40124 + n * 0x40
def Reg.LAYER_LIVE_OPACITY (w : Twin) (n : Nat) : Nat := w.base + 0x40128 + n * 0x40
def Reg.LAYER_LIVE_WIN_POS (w : Twin) (n : Nat) : Nat := w.base + 0x4012C + n * 0x40
def Reg.LAYER_LIVE_WIN_SIZE (w : Twin) (n : Nat) : Nat := w.base + 0x40130 + n * 0x40
def Reg.LAYER_GEN01 (w : Twin) (n : Nat) : Nat := w.base + 0x40134 + n * 0x40
def Reg.LAYER_GEN23 (w : Twin) (n : Nat) : Nat := w.base + 0x40138 + n * 0x40
def Reg.LAYER_STAT (w : Twin) (n : Nat) : Nat := w.base + 0x4013C + n * 0x40

/-! Registers of 07_mapping_and_patch.md. -/

def Reg.MAP_USED (w : Twin) : Nat := w.base + 0x50000
def Reg.MAP_FIXT_USED (w : Twin) : Nat := w.base + 0x50004
def Reg.MAP_PATCH_USED (w : Twin) : Nat := w.base + 0x50008
def Reg.MAP_OUT_USED (w : Twin) : Nat := w.base + 0x5000C
def Reg.MAP_TIME (w : Twin) : Nat := w.base + 0x50010
def Reg.MAP_RD_SEL (w : Twin) : Nat := w.base + 0x50020
def Reg.MAP_RD_DATA (w : Twin) (n : Nat) : Nat := w.base + 0x50100 + n * 0x4
def Reg.MAP_PORT_CHG (w : Twin) (n : Nat) : Nat := w.base + 0x50080 + n * 0x4
def Reg.MAP_PORT_LEN (w : Twin) (n : Nat) : Nat := w.base + 0x51000 + n * 0x4
def Reg.MAP_PORT_CRC (w : Twin) (n : Nat) : Nat := w.base + 0x51200 + n * 0x4

/-! Registers of 08_colour_pipeline.md. -/

def Reg.COLR_GM (w : Twin) : Nat := w.base + 0x60000
def Reg.COLR_FADER (w : Twin) : Nat := w.base + 0x60004
def Reg.COLR_CMT (w : Twin) : Nat := w.base + 0x60008
def Reg.COLR_LIVE_GM (w : Twin) : Nat := w.base + 0x6000C
def Reg.COLR_LIVE_FADER (w : Twin) : Nat := w.base + 0x60010
def Reg.COLR_STAT (w : Twin) : Nat := w.base + 0x60014
def Reg.COLR_LATE_TS (w : Twin) : Nat := w.base + 0x60018
def Reg.COLR_LATE_TICK (w : Twin) : Nat := w.base + 0x60020
def Reg.COLR_CLIP (w : Twin) : Nat := w.base + 0x60024
def Reg.COLR_EVT_CTL (w : Twin) : Nat := w.base + 0x60028
def Reg.COLR_ZONE_CFG (w : Twin) : Nat := w.base + 0x60030
def Reg.COLR_ZONE_THETA (w : Twin) : Nat := w.base + 0x60034
def Reg.COLR_ZONE_SEL (w : Twin) : Nat := w.base + 0x60040
def Reg.COLR_ZONE_STAT (w : Twin) : Nat := w.base + 0x60044
def Reg.COLR_ZONE_AGE (w : Twin) : Nat := w.base + 0x60048
def Reg.COLR_ZONE_FORCE (w : Twin) : Nat := w.base + 0x6004C
def Reg.COLR_GRP_LVL (w : Twin) (n : Nat) : Nat := w.base + 0x60400 + n * 0x4
def Reg.COLR_GRP_SRC (w : Twin) (n : Nat) : Nat := w.base + 0x60800 + n * 0x4
def Reg.COLR_LIVE_GRP (w : Twin) (n : Nat) : Nat := w.base + 0x60C00 + n * 0x4

/-! Registers of 09_curve_store.md. -/

def Reg.CURV_CFG (w : Twin) : Nat := w.base + 0x70000
def Reg.CURV_COUNT (w : Twin) : Nat := w.base + 0x70004
def Reg.CURV_SEL (w : Twin) : Nat := w.base + 0x70008
def Reg.CURV_INFO (w : Twin) : Nat := w.base + 0x7000C
def Reg.CURV_CRC (w : Twin) : Nat := w.base + 0x70010
def Reg.CURV_PT_SEL (w : Twin) : Nat := w.base + 0x70014
def Reg.CURV_PT_DATA (w : Twin) : Nat := w.base + 0x70018
def Reg.CURV_SCRUB (w : Twin) : Nat := w.base + 0x7001C
def Reg.CURV_PASS (w : Twin) : Nat := w.base + 0x70020
def Reg.CURV_EVT_CTL (w : Twin) : Nat := w.base + 0x70024
def Reg.CURV_AVAIL (w : Twin) (n : Nat) : Nat := w.base + 0x70040 + n * 0x4

/-! Registers of 10_proren_link.md. -/

def Reg.STRD_CTL (w : Twin) (p : Nat) : Nat := w.base + 0x80000 + p * 0x100
def Reg.STRD_PSTAT (w : Twin) (p : Nat) : Nat := w.base + 0x80004 + p * 0x100
def Reg.STRD_NODES (w : Twin) (p : Nat) : Nat := w.base + 0x80008 + p * 0x100
def Reg.STRD_DELAY (w : Twin) (p : Nat) : Nat := w.base + 0x8000C + p * 0x100
def Reg.STRD_TURN (w : Twin) (p : Nat) : Nat := w.base + 0x80010 + p * 0x100
def Reg.STRD_STATIC (w : Twin) (p : Nat) : Nat := w.base + 0x80014 + p * 0x100
def Reg.STRD_TX_CNT (w : Twin) (p : Nat) : Nat := w.base + 0x80018 + p * 0x100
def Reg.STRD_CFG_CNT (w : Twin) (p : Nat) : Nat := w.base + 0x8001C + p * 0x100
def Reg.STRD_UP_ERR (w : Twin) (p : Nat) : Nat := w.base + 0x80020 + p * 0x100
def Reg.STRD_NODE_ERR (w : Twin) (p : Nat) : Nat := w.base + 0x80024 + p * 0x100
def Reg.STRD_POLL (w : Twin) (p : Nat) : Nat := w.base + 0x80028 + p * 0x100
def Reg.STRD_EVT_CTL (w : Twin) (p : Nat) : Nat := w.base + 0x8002C + p * 0x100
def Reg.STRD_ENUM_TS (w : Twin) (p : Nat) : Nat := w.base + 0x80030 + p * 0x100

/-! Registers of 11_dmx_rdm_and_pixel_wire.md. -/

def Reg.STRD_WCTL (w : Twin) (p : Nat) : Nat := w.base + 0x80080 + p * 0x100
def Reg.STRD_WSTAT (w : Twin) (p : Nat) : Nat := w.base + 0x80084 + p * 0x100
def Reg.STRD_WTIME (w : Twin) (p : Nat) : Nat := w.base + 0x80088 + p * 0x100
def Reg.STRD_WTX_CNT (w : Twin) (p : Nat) : Nat := w.base + 0x80098 + p * 0x100
def Reg.STRD_WMISS (w : Twin) (p : Nat) : Nat := w.base + 0x8009C + p * 0x100
def Reg.STRD_RDM_CNT (w : Twin) (p : Nat) : Nat := w.base + 0x800A0 + p * 0x100
def Reg.STRD_RDM_OK (w : Twin) (p : Nat) : Nat := w.base + 0x800A4 + p * 0x100
def Reg.STRD_WEVT_CTL (w : Twin) (p : Nat) : Nat := w.base + 0x800AC + p * 0x100
def Reg.STRD_UID_SEL (w : Twin) (p : Nat) : Nat := w.base + 0x800C0 + p * 0x100
def Reg.STRD_UID_LO (w : Twin) (p : Nat) : Nat := w.base + 0x800C4 + p * 0x100
def Reg.STRD_UID_HI (w : Twin) (p : Nat) : Nat := w.base + 0x800C8 + p * 0x100
def Reg.RDM_CFG (w : Twin) : Nat := w.base + 0x8F000
def Reg.RDM_UID_HI (w : Twin) : Nat := w.base + 0x8F004
def Reg.RDM_UID_LO (w : Twin) : Nat := w.base + 0x8F008
def Reg.RDM_SUBMIT (w : Twin) : Nat := w.base + 0x8F00C
def Reg.RDM_STAT (w : Twin) : Nat := w.base + 0x8F010
def Reg.SACN_TX_CFG (w : Twin) : Nat := w.base + 0x30C00
def Reg.SACN_TX_CID (w : Twin) (n : Nat) : Nat := w.base + 0x30C10 + n * 0x4
def Reg.SACN_TX_NAME (w : Twin) (n : Nat) : Nat := w.base + 0x30C20 + n * 0x4
def Reg.SACN_TX_CNT (w : Twin) : Nat := w.base + 0x30C60
def Reg.SACN_TX_PKTS (w : Twin) : Nat := w.base + 0x30C64

/-! Registers of 12_fixture_health.md. -/

def Reg.HLTH_CFG (w : Twin) : Nat := w.base + 0x8E000
def Reg.HLTH_SEL (w : Twin) : Nat := w.base + 0x8E004
def Reg.HLTH_CH (w : Twin) : Nat := w.base + 0x8E008
def Reg.HLTH_SUM (w : Twin) : Nat := w.base + 0x8E00C
def Reg.HLTH_BLIND_SUM (w : Twin) : Nat := w.base + 0x8E010
def Reg.HLTH_CNT_FLT (w : Twin) : Nat := w.base + 0x8E014
def Reg.HLTH_CNT_DIAG (w : Twin) : Nat := w.base + 0x8E018
def Reg.HLTH_CNT_MISS (w : Twin) : Nat := w.base + 0x8E01C
def Reg.HLTH_DATA (w : Twin) (n : Nat) : Nat := w.base + 0x8E020 + n * 0x4
def Reg.HLTH_POST_VAL (w : Twin) : Nat := w.base + 0x8E040
def Reg.HLTH_POST (w : Twin) : Nat := w.base + 0x8E044
def Reg.HLTH_EVT_CTL (w : Twin) : Nat := w.base + 0x8E048

/-! Registers of 13_twin_redundancy.md. -/

def Reg.PERI_CFG : Nat := 0x1000
def Reg.PERI_IMG : Nat := 0x1004
def Reg.PERI_HEALTH_A : Nat := 0x1008
def Reg.PERI_HEALTH_B : Nat := 0x100C
def Reg.PERI_STAT : Nat := 0x1010
def Reg.PERI_CNT : Nat := 0x1014
def Reg.PERI_UNCMP : Nat := 0x1018
def Reg.PERI_SLIP : Nat := 0x101C
def Reg.PERI_DIG_TICK : Nat := 0x1020
def Reg.PERI_DIG_STAT : Nat := 0x1024
def Reg.PERI_DIG_A : Nat := 0x1028
def Reg.PERI_DIG_B : Nat := 0x1030
def Reg.PERI_ARB_TS : Nat := 0x1040
def Reg.PERI_ARB_INFO : Nat := 0x1048
def Reg.PERI_ARB_CRC_A : Nat := 0x104C
def Reg.PERI_ARB_CRC_B : Nat := 0x1050
def Reg.PERI_ARB_FLAGS : Nat := 0x1054
def Reg.PERI_ARB_DEC_TS : Nat := 0x1058
def Reg.PERI_RESYNC : Nat := 0x1060
def Reg.PERI_RESYNC_TOTAL : Nat := 0x1064
def Reg.TWIN_FAULT (w : Twin) : Nat := w.base + 0x8
def Reg.TWIN_DIGEST (w : Twin) : Nat := w.base + 0x10

/-! Registers of 14_sorus_scheduler.md. -/

def Reg.SORUS_CFG (w : Twin) : Nat := w.base + 0x90000
def Reg.SORUS_CNT (w : Twin) : Nat := w.base + 0x90004
def Reg.SORUS_ERR (w : Twin) : Nat := w.base + 0x90008
def Reg.SORUS_EVT_CTL (w : Twin) : Nat := w.base + 0x9000C
def Reg.SORUS_PUSH (w : Twin) : Nat := w.base + 0x90100
def Reg.SORUS_PUSH_STAT (w : Twin) : Nat := w.base + 0x90104
def Reg.SORUS_REL (w : Twin) : Nat := w.base + 0x90108
def Reg.SORUS_REL_SEQ (w : Twin) : Nat := w.base + 0x9010C
def Reg.SORUS_CMD (w : Twin) : Nat := w.base + 0x90110
def Reg.SORUS_CAUSE (w : Twin) : Nat := w.base + 0x90114
def Reg.SORUS_CUR (w : Twin) : Nat := w.base + 0x90118
def Reg.SORUS_PBODY (w : Twin) (n : Nat) : Nat := w.base + 0x90140 + n * 0x8
def Reg.SORUS_DBODY (w : Twin) (n : Nat) : Nat := w.base + 0x90180 + n * 0x8
def Reg.SORUS_POP (w : Twin) (q : Nat) : Nat := w.base + 0x90400 + q * 0x8
def Reg.SORUS_QSTAT (w : Twin) (q : Nat) : Nat := w.base + 0x91000 + q * 0x20
def Reg.SORUS_QCTL (w : Twin) (q : Nat) : Nat := w.base + 0x91004 + q * 0x20
def Reg.SORUS_QCNT (w : Twin) (q : Nat) : Nat := w.base + 0x91008 + q * 0x20
def Reg.SORUS_QPTR (w : Twin) (q : Nat) : Nat := w.base + 0x91010 + q * 0x20
def Reg.SORUS_WIN_STAT (w : Twin) (q : Nat) : Nat := w.base + 0x92000 + q * 0x80
def Reg.SORUS_WIN_CMD (w : Twin) (q : Nat) : Nat := w.base + 0x92004 + q * 0x80
def Reg.SORUS_WIN_HDR (w : Twin) (q : Nat) : Nat := w.base + 0x92008 + q * 0x80
def Reg.SORUS_WIN_BODY (w : Twin) (q : Nat) (n : Nat) : Nat := w.base + 0x92040 + q * 0x80 + n * 0x8
def Reg.SORUS_FSTAT (w : Twin) (f : Nat) : Nat := w.base + 0x94000 + f * 0x8
def Reg.SORUS_FCNT (w : Twin) (f : Nat) : Nat := w.base + 0x94004 + f * 0x8
def Reg.SORUS_CSTAT (w : Twin) (c : Nat) : Nat := w.base + 0x94800 + c * 0x4

/-! Registers of 15_memory_banks.md. -/

def Reg.BANK_CTL (w : Twin) (n : Nat) : Nat := w.base + 0xA0000 + n * 0x8
def Reg.BANK_STAT (w : Twin) (n : Nat) : Nat := w.base + 0xA0004 + n * 0x8
def Reg.BANK_TEST_CFG (w : Twin) : Nat := w.base + 0xA0400
def Reg.BANK_TEST_CNT (w : Twin) : Nat := w.base + 0xA0404
def Reg.BANK_TEST_PASS (w : Twin) : Nat := w.base + 0xA0408
def Reg.BANK_VIOL (w : Twin) : Nat := w.base + 0xA0410
def Reg.BANK_EVT_CTL (w : Twin) : Nat := w.base + 0xA0414
def Reg.LMEM_ECC (w : Twin) : Nat := w.base + 0xA0420
def Reg.DRAM_SCRUB (w : Twin) : Nat := w.base + 0xA0480
def Reg.DRAM_SCRUB_POS (w : Twin) : Nat := w.base + 0xA0484
def Reg.DRAM_ECC (w : Twin) : Nat := w.base + 0xA0488
def Reg.DRAM_UE_ADDR (w : Twin) : Nat := w.base + 0xA0490
def Reg.DRAM_UE_TS (w : Twin) : Nat := w.base + 0xA0498

/-! Registers of 16_host_and_bridge.md. -/

def Reg.HOST_RELAY_ADDR : Nat := 0x48
def Reg.HOST_RELAY_DATA : Nat := 0x4C
def Reg.MBX_STAT : Nat := 0x50
def Reg.MBX_COLL : Nat := 0x54
def Reg.MGMT_CFG : Nat := 0x5000
def Reg.MGMT_STAT : Nat := 0x5004
def Reg.FLASH_CMD (n : Nat) : Nat := 0x6000 + n * 0x200
def Reg.FLASH_ADDR (n : Nat) : Nat := 0x6004 + n * 0x200
def Reg.FLASH_DST (n : Nat) : Nat := 0x6008 + n * 0x200
def Reg.FLASH_STAT (n : Nat) : Nat := 0x6010 + n * 0x200
def Reg.FLASH_INFO : Nat := 0x6400
def Reg.RZP_CFG : Nat := 0x7000
def Reg.RZP_MBX : Nat := 0x7004
def Reg.RZP_IN : Nat := 0x7008
def Reg.RZP_IN_TGT : Nat := 0x700C
def Reg.RZP_CNT : Nat := 0x7010
def Reg.RZP_SEM (n : Nat) : Nat := 0x7100 + n * 0x4
def Reg.BRDG_HWIN (w : Twin) : Nat := w.base + 0xC0000
def Reg.BRDG_STAT (w : Twin) : Nat := w.base + 0xC0004
def Reg.BRDG_LINE (w : Twin) : Nat := w.base + 0xC0008
def Reg.BRDG_EVT_CTL (w : Twin) : Nat := w.base + 0xC000C
def Reg.BRDG_PF_BASE (w : Twin) (n : Nat) : Nat := w.base + 0xC0020 + n * 0x8
def Reg.BRDG_PF_LIM (w : Twin) (n : Nat) : Nat := w.base + 0xC0024 + n * 0x8
def Reg.BRDG_WLOG_STAT (w : Twin) : Nat := w.base + 0xC0080
def Reg.CTL_KEY_SEL (w : Twin) : Nat := w.base + 0xC0200
def Reg.CTL_KEY_DATA (w : Twin) : Nat := w.base + 0xC0204
def Reg.CTL_STAT (w : Twin) : Nat := w.base + 0xC0208

/-! Registers of 17_power_states.md. -/

def Reg.PWR_CTL : Nat := 0x2000
def Reg.PWR_STAT : Nat := 0x2004
def Reg.PWR_OPP : Nat := 0x2008
def Reg.PWR_CFG : Nat := 0x200C
def Reg.PWR_REFUSE : Nat := 0x2010
def Reg.PWR_REQ_TS : Nat := 0x2018
def Reg.PWR_REFUSE_TS : Nat := 0x2020
def Reg.PWR_FAIL : Nat := 0x2028
def Reg.PWR_BO : Nat := 0x202C
def Reg.PWR_BO_TS : Nat := 0x2030
def Reg.PWR_MON_SEL : Nat := 0x2038
def Reg.PWR_MON : Nat := 0x203C
def Reg.PWR_ALARM : Nat := 0x2040

/-! Registers of 18_update_and_replacement.md. -/

def Reg.BOOT_CTL : Nat := 0x6820
def Reg.BOOT_VERIFY : Nat := 0x6824
def Reg.BOOT_STAT : Nat := 0x6828
def Reg.BOOT_CFG : Nat := 0x682C
def Reg.BOOT_TRIAL : Nat := 0x6830
def Reg.OTP_KEY_CMD : Nat := 0x6838
def Reg.OTP_KEY_STAT : Nat := 0x683C
def Reg.UPD_FW_VER (w : Twin) : Nat := w.base + 0xD0000
def Reg.UPD_STAT (w : Twin) : Nat := w.base + 0xD0004
def Reg.UPD_HEALTH_CONFIRM (w : Twin) : Nat := w.base + 0xD0008
def Reg.UPD_PKG_CMD (w : Twin) : Nat := w.base + 0xD0010
def Reg.UPD_PKG_OFS (w : Twin) : Nat := w.base + 0xD0014
def Reg.UPD_PKG_STAT (w : Twin) : Nat := w.base + 0xD0018

/-! Registers of 19_self_calibration.md. -/

def Reg.CAL_CFG : Nat := 0x4000
def Reg.CAL_CMD : Nat := 0x4004
def Reg.CAL_STAT : Nat := 0x4008
def Reg.CAL_XREF : Nat := 0x400C
def Reg.CAL_SEL : Nat := 0x4010
def Reg.CAL_UNIT_STAT : Nat := 0x4014
def Reg.CAL_LAST : Nat := 0x4018
def Reg.CAL_UNIT_DATA : Nat := 0x4020

/-! Registers of 20_events_and_log.md. -/

def Reg.EVT_ROUTE (n : Nat) : Nat := 0x16000 + n * 0x4
def Reg.EVT_PEND (n : Nat) : Nat := 0x16400 + n * 0x4
def Reg.EVT_PIN_CTL : Nat := 0x16420
def Reg.EVT_LOG_HEAD : Nat := 0x16430
def Reg.EVT_LOG_TAIL : Nat := 0x16434
def Reg.EVT_LOG_STAT : Nat := 0x16438
def Reg.EVT_LOG_CTL : Nat := 0x1643C
def Reg.EVT_QROUTE (w : Twin) (n : Nat) : Nat := w.base + 0xB0000 + n * 0x4
def Reg.EVT_TPEND (w : Twin) (n : Nat) : Nat := w.base + 0xB0400 + n * 0x4
def Reg.EVT_TSTAT (w : Twin) : Nat := w.base + 0xB0420
def Reg.EVT_SOFT (w : Twin) : Nat := w.base + 0xB0424

/-! Fields. -/

def Fld.DEV_ID_PART : Fld := ⟨31, 16⟩
def Fld.DEV_ID_REV_LETTER : Fld := ⟨15, 8⟩
def Fld.DEV_ID_REV_DIGIT : Fld := ⟨7, 4⟩
def Fld.DEV_ID_COMPAT : Fld := ⟨3, 0⟩
def Fld.DEV_STAT_CTX_DROP : Fld := ⟨31, 24⟩
def Fld.DEV_STAT_ROLE_B : Fld := ⟨23, 20⟩
def Fld.DEV_STAT_ROLE_A : Fld := ⟨19, 16⟩
def Fld.DEV_STAT_KEY_ERR : Fld := ⟨15, 8⟩
def Fld.DEV_STAT_REFUSED : Fld := ⟨4, 4⟩
def Fld.DEV_STAT_NOTWIN_RD : Fld := ⟨3, 3⟩
def Fld.DEV_STAT_HOLD_ON : Fld := ⟨2, 2⟩
def Fld.DEV_STAT_SAFE_ON : Fld := ⟨1, 1⟩
def Fld.DEV_STAT_CTX_BUSY : Fld := ⟨0, 0⟩
def Fld.DEV_CTL_KEY : Fld := ⟨15, 8⟩
def Fld.DEV_CTL_DEV_RST : Fld := ⟨1, 1⟩
def Fld.DEV_CTL_CTX_RST : Fld := ⟨0, 0⟩
def Fld.TWIN_CTL_FORCE : Fld := ⟨6, 6⟩
def Fld.TWIN_CTL_SWAP : Fld := ⟨5, 5⟩
def Fld.TWIN_CTL_ISO_B : Fld := ⟨4, 4⟩
def Fld.TWIN_CTL_ISO_A : Fld := ⟨3, 3⟩
def Fld.TWIN_CTL_RST_B : Fld := ⟨1, 1⟩
def Fld.TWIN_CTL_RST_A : Fld := ⟨0, 0⟩
def Fld.OUT_CTL_SAFE : Fld := ⟨1, 1⟩
def Fld.OUT_CTL_HOLD : Fld := ⟨0, 0⟩
def Fld.WDOG_CTL_ACTION : Fld := ⟨17, 16⟩
def Fld.WDOG_CTL_TIMEOUT : Fld := ⟨15, 1⟩
def Fld.WDOG_CTL_EN : Fld := ⟨0, 0⟩
def Fld.WDOG_KICK_KICK : Fld := ⟨31, 0⟩
def Fld.MIRROR_STAT_XTWIN_ACC : Fld := ⟨31, 24⟩
def Fld.MIRROR_STAT_DEAD_ACC : Fld := ⟨23, 16⟩
def Fld.MIRROR_STAT_MISS_B : Fld := ⟨15, 8⟩
def Fld.MIRROR_STAT_MISS_A : Fld := ⟨7, 0⟩
def Fld.TWIN_ID_PART : Fld := ⟨31, 16⟩
def Fld.TWIN_ID_REV_LETTER : Fld := ⟨15, 8⟩
def Fld.TWIN_ID_REV_DIGIT : Fld := ⟨7, 4⟩
def Fld.TWIN_ID_WHICH : Fld := ⟨0, 0⟩
def Fld.TWIN_ROLE_ROLE : Fld := ⟨3, 0⟩
def Fld.TGEN_CTL_CANCEL : Fld := ⟨1, 1⟩
def Fld.TGEN_CTL_COMMIT : Fld := ⟨0, 0⟩
def Fld.TGEN_STAT_REASON : Fld := ⟨7, 4⟩
def Fld.TGEN_STAT_REFUSED : Fld := ⟨1, 1⟩
def Fld.TGEN_STAT_PENDING : Fld := ⟨0, 0⟩
def Fld.TGEN_RATE_DEN : Fld := ⟨31, 20⟩
def Fld.TGEN_RATE_NUM : Fld := ⟨19, 0⟩
def Fld.TGEN_CDL_PERMILLE : Fld := ⟨9, 0⟩
def Fld.TGEN_LOFS_LATCH_OFS : Fld := ⟨31, 0⟩
def Fld.TGEN_NUM_TICK_NO : Fld := ⟨31, 0⟩
def Fld.TGEN_LIVE_RATE_DEN : Fld := ⟨31, 20⟩
def Fld.TGEN_LIVE_RATE_NUM : Fld := ⟨19, 0⟩
def Fld.TGEN_LIVE_CDL_PERMILLE : Fld := ⟨9, 0⟩
def Fld.TGEN_LIVE_LOFS_LATCH_OFS : Fld := ⟨31, 0⟩
def Fld.TGEN_TICK_TS_EPOCH : Fld := ⟨39, 34⟩
def Fld.TGEN_TICK_TS_TB : Fld := ⟨33, 32⟩
def Fld.TGEN_TICK_TS_TS : Fld := ⟨31, 0⟩
def Fld.TGEN_LATCH_TS_EPOCH : Fld := ⟨39, 34⟩
def Fld.TGEN_LATCH_TS_TB : Fld := ⟨33, 32⟩
def Fld.TGEN_LATCH_TS_TS : Fld := ⟨31, 0⟩
def Fld.TICK_FR_NEWEST_TICK_NO : Fld := ⟨31, 0⟩
def Fld.TICK_PEAK_EMIT_USE_PEAK : Fld := ⟨31, 16⟩
def Fld.TICK_PEAK_COMPUTE_PEAK : Fld := ⟨15, 0⟩
def Fld.TICK_STALE_CNT_UNIV_FRAMES : Fld := ⟨31, 16⟩
def Fld.TICK_STALE_CNT_PORT_FRAMES : Fld := ⟨15, 0⟩
def Fld.TICK_DROP_CNT_FRAMES : Fld := ⟨31, 16⟩
def Fld.TICK_DROP_CNT_ITEMS : Fld := ⟨15, 0⟩
def Fld.TICK_EVT_CTL_REC_EN : Fld := ⟨3, 3⟩
def Fld.TICK_EVT_CTL_EMIT_EN : Fld := ⟨2, 2⟩
def Fld.TICK_EVT_CTL_COMP_EN : Fld := ⟨1, 1⟩
def Fld.TICK_EVT_CTL_STALE_EN : Fld := ⟨0, 0⟩
def Fld.TICK_STALE_PORT_MAP : Fld := ⟨31, 0⟩
def Fld.TB_CTL_SET : Fld := ⟨4, 4⟩
def Fld.TB_CTL_MODE : Fld := ⟨1, 0⟩
def Fld.TB_STAT_HOLD_LONG : Fld := ⟨24, 24⟩
def Fld.TB_STAT_REJECTS : Fld := ⟨23, 16⟩
def Fld.TB_STAT_STEP_CNT : Fld := ⟨15, 8⟩
def Fld.TB_STAT_STATE : Fld := ⟨2, 0⟩
def Fld.TB_NOW_WRAP : Fld := ⟨63, 32⟩
def Fld.TB_NOW_TS : Fld := ⟨31, 0⟩
def Fld.TB_RATE_RATE : Fld := ⟨31, 0⟩
def Fld.TB_THRESH_REJECT : Fld := ⟨31, 16⟩
def Fld.TB_THRESH_LOCK_THRESH : Fld := ⟨15, 0⟩
def Fld.TB_STEP_CTL_STEP_LOCKED : Fld := ⟨31, 31⟩
def Fld.TB_STEP_CTL_STEP_THRESH : Fld := ⟨19, 0⟩
def Fld.TB_SLEW_HOLD_WARN : Fld := ⟨31, 16⟩
def Fld.TB_SLEW_SLEW_PPM : Fld := ⟨9, 0⟩
def Fld.TB_TIMEOUT_QUAL_COUNT : Fld := ⟨31, 24⟩
def Fld.TB_TIMEOUT_LOCK_COUNT : Fld := ⟨23, 16⟩
def Fld.TB_TIMEOUT_MEAS_TO : Fld := ⟨15, 0⟩
def Fld.TB_MEAS_AT_TS : Fld := ⟨31, 0⟩
def Fld.TB_MEAS_OFS_OFS : Fld := ⟨63, 0⟩
def Fld.TB_MEAS_CTL_INVALID : Fld := ⟨2, 2⟩
def Fld.TB_MEAS_CTL_NEW_SRC : Fld := ⟨1, 1⟩
def Fld.TB_MEAS_CTL_SUBMIT : Fld := ⟨0, 0⟩
def Fld.TB_OFS_LAST_OFS : Fld := ⟨31, 0⟩
def Fld.TB_HOLD_AGE_AGE : Fld := ⟨31, 0⟩
def Fld.TB_RATE_AVG_RATE : Fld := ⟨31, 0⟩
def Fld.TB_SET_VALUE : Fld := ⟨63, 0⟩
def Fld.TB_STEP_LAST_AMOUNT : Fld := ⟨63, 0⟩
def Fld.TB_STEP_TS_EPOCH : Fld := ⟨39, 34⟩
def Fld.TB_STEP_TS_TB : Fld := ⟨33, 32⟩
def Fld.TB_STEP_TS_TS : Fld := ⟨31, 0⟩
def Fld.TB2_LTC_CTL_LTC_TO : Fld := ⟨23, 16⟩
def Fld.TB2_LTC_CTL_JAM_FRAMES : Fld := ⟨11, 8⟩
def Fld.TB2_LTC_CTL_SRC : Fld := ⟨5, 4⟩
def Fld.TB2_LTC_CTL_FPS : Fld := ⟨2, 0⟩
def Fld.TB2_LTC_TC_HH : Fld := ⟨31, 24⟩
def Fld.TB2_LTC_TC_MM : Fld := ⟨23, 16⟩
def Fld.TB2_LTC_TC_SS : Fld := ⟨15, 8⟩
def Fld.TB2_LTC_TC_FF : Fld := ⟨7, 0⟩
def Fld.TB2_WCLK_PRESENT : Fld := ⟨31, 31⟩
def Fld.TB2_WCLK_FREQ : Fld := ⟨17, 0⟩
def Fld.TB3_TRIM_TRIM : Fld := ⟨31, 0⟩
def Fld.TGEN_SRC_TB : Fld := ⟨1, 0⟩
def Fld.TGEN_SRC_STAT_LAST_D : Fld := ⟨31, 4⟩
def Fld.TGEN_SRC_STAT_WAITING : Fld := ⟨3, 3⟩
def Fld.TGEN_SRC_STAT_PROTONEMA : Fld := ⟨2, 2⟩
def Fld.TGEN_SRC_STAT_CUR : Fld := ⟨1, 0⟩
def Fld.TGEN_PHASE_PHASE : Fld := ⟨63, 0⟩
def Fld.REJ_BOOT_FALLBACK : Fld := ⟨1, 1⟩
def Fld.REJ_BOOT_PRIMARY : Fld := ⟨0, 0⟩
def Fld.REJ_LOAD_STAT_SLOT1_ERR : Fld := ⟨31, 24⟩
def Fld.REJ_LOAD_STAT_SLOT0_ERR : Fld := ⟨23, 16⟩
def Fld.REJ_LOAD_STAT_LOAD_MS : Fld := ⟨15, 4⟩
def Fld.REJ_LOAD_STAT_SRC : Fld := ⟨1, 0⟩
def Fld.REJ_LOAD_ERR_AT_OFFSET : Fld := ⟨31, 0⟩
def Fld.REJ_LOAD_ID_IMAGE_ID : Fld := ⟨31, 0⟩
def Fld.REJ_GRAFT_CTL_AT_TICK : Fld := ⟨2, 2⟩
def Fld.REJ_GRAFT_CTL_CANCEL : Fld := ⟨1, 1⟩
def Fld.REJ_GRAFT_CTL_GO : Fld := ⟨0, 0⟩
def Fld.REJ_GRAFT_TICK_TICK : Fld := ⟨31, 0⟩
def Fld.REJ_GRAFT_OFS_OFS : Fld := ⟨29, 6⟩
def Fld.REJ_GRAFT_STAT_REASON : Fld := ⟨31, 24⟩
def Fld.REJ_GRAFT_STAT_CMT_DROP : Fld := ⟨19, 19⟩
def Fld.REJ_GRAFT_STAT_REFUSED : Fld := ⟨18, 18⟩
def Fld.REJ_GRAFT_STAT_DONE : Fld := ⟨17, 17⟩
def Fld.REJ_GRAFT_STAT_SECTION : Fld := ⟨15, 8⟩
def Fld.REJ_GRAFT_STAT_STATE : Fld := ⟨2, 0⟩
def Fld.REJ_GRAFT_ERR_AT_OFFSET : Fld := ⟨31, 0⟩
def Fld.REJ_GRAFT_APPLIED_TICK : Fld := ⟨31, 0⟩
def Fld.REJ_IMAGE_IMAGE_ID : Fld := ⟨31, 0⟩
def Fld.REJ_GRAFT_CNT_COUNT : Fld := ⟨15, 0⟩
def Fld.NET_LINK_MODE : Fld := ⟨5, 4⟩
def Fld.NET_LINK_HI_BER : Fld := ⟨3, 3⟩
def Fld.NET_LINK_BLOCK_LOCK : Fld := ⟨2, 2⟩
def Fld.NET_LINK_LINK_UP : Fld := ⟨1, 1⟩
def Fld.NET_LINK_CHG : Fld := ⟨0, 0⟩
def Fld.NET_RX_FRAMES_COUNT : Fld := ⟨31, 0⟩
def Fld.NET_RX_BYTES_COUNT : Fld := ⟨63, 0⟩
def Fld.NET_RX_ERR_FCS : Fld := ⟨31, 16⟩
def Fld.NET_RX_ERR_RUNT : Fld := ⟨15, 0⟩
def Fld.NET_RX_DROP_FILTERED : Fld := ⟨31, 16⟩
def Fld.NET_RX_DROP_NOBUF : Fld := ⟨15, 0⟩
def Fld.NET_RX_MISC_TRUNC : Fld := ⟨31, 16⟩
def Fld.NET_RX_MISC_PAUSE : Fld := ⟨15, 0⟩
def Fld.NET_TX_FRAMES_COUNT : Fld := ⟨31, 0⟩
def Fld.NET_TX_BYTES_COUNT : Fld := ⟨63, 0⟩
def Fld.NET_TX_TAIL_TAIL : Fld := ⟨11, 0⟩
def Fld.NET_TX_HEAD_HEAD : Fld := ⟨11, 0⟩
def Fld.NET_SLOWQ_EN : Fld := ⟨31, 31⟩
def Fld.NET_SLOWQ_SLOT_10K : Fld := ⟨16, 16⟩
def Fld.NET_SLOWQ_QUEUE : Fld := ⟨5, 0⟩
def Fld.NET_RXFREE_SLOT : Fld := ⟨15, 0⟩
def Fld.NET_POOL_FREE : Fld := ⟨31, 16⟩
def Fld.NET_POOL_NO_QUEUE : Fld := ⟨15, 0⟩
def Fld.SACN_CNT_BAD_BAD : Fld := ⟨31, 16⟩
def Fld.SACN_CNT_BAD_SEQ : Fld := ⟨15, 0⟩
def Fld.SACN_CNT_DUP_DUP : Fld := ⟨31, 0⟩
def Fld.SACN_CNT_MISC_PREVIEW : Fld := ⟨31, 16⟩
def Fld.SACN_CNT_MISC_SRC_FULL : Fld := ⟨15, 8⟩
def Fld.SACN_CNT_MISC_SYNC_MISMATCH : Fld := ⟨7, 0⟩
def Fld.SACN_SEL_ENTRY : Fld := ⟨13, 0⟩
def Fld.SACN_U_STAT_SLOTS : Fld := ⟨25, 16⟩
def Fld.SACN_U_STAT_PRIO : Fld := ⟨15, 8⟩
def Fld.SACN_U_STAT_SYNC_LOST : Fld := ⟨5, 5⟩
def Fld.SACN_U_STAT_SYNC_WAIT : Fld := ⟨4, 4⟩
def Fld.SACN_U_STAT_LOST : Fld := ⟨3, 3⟩
def Fld.SACN_U_STAT_SOURCES : Fld := ⟨2, 0⟩
def Fld.SACN_U_TS_EPOCH : Fld := ⟨39, 34⟩
def Fld.SACN_U_TS_TB : Fld := ⟨33, 32⟩
def Fld.SACN_U_TS_TS : Fld := ⟨31, 0⟩
def Fld.SACN_U_PKTS_COUNT : Fld := ⟨31, 0⟩
def Fld.ST_STAT_NEW : Fld := ⟨3, 3⟩
def Fld.ST_STAT_STATE : Fld := ⟨2, 0⟩
def Fld.ST_RTP_RTP_TS : Fld := ⟨31, 0⟩
def Fld.ST_CNT_FRM_INCOMPLETE : Fld := ⟨31, 16⟩
def Fld.ST_CNT_FRM_COMPLETE : Fld := ⟨15, 0⟩
def Fld.ST_CNT_RATE_SKIPPED : Fld := ⟨31, 16⟩
def Fld.ST_CNT_RATE_REPEATED : Fld := ⟨15, 0⟩
def Fld.ST_CNT_PKT_LOST : Fld := ⟨31, 16⟩
def Fld.ST_CNT_PKT_BAD : Fld := ⟨15, 0⟩
def Fld.ST_FRZ_TS_EPOCH : Fld := ⟨39, 34⟩
def Fld.ST_FRZ_TS_TB : Fld := ⟨33, 32⟩
def Fld.ST_FRZ_TS_TS : Fld := ⟨31, 0⟩
def Fld.NWAKE_STAT_COUNT : Fld := ⟨15, 8⟩
def Fld.NWAKE_STAT_MATCHED : Fld := ⟨7, 7⟩
def Fld.NWAKE_STAT_ENTRY : Fld := ⟨4, 0⟩
def Fld.LAYER_RELAY_SLOT : Fld := ⟨5, 4⟩
def Fld.LAYER_RELAY_LAYER : Fld := ⟨3, 0⟩
def Fld.LAYER_CMT_MASK : Fld := ⟨15, 0⟩
def Fld.LAYER_PEND_AFTER : Fld := ⟨31, 16⟩
def Fld.LAYER_PEND_NEXT : Fld := ⟨15, 0⟩
def Fld.LAYER_LATE_TS_EPOCH : Fld := ⟨39, 34⟩
def Fld.LAYER_LATE_TS_TB : Fld := ⟨33, 32⟩
def Fld.LAYER_LATE_TS_TS : Fld := ⟨31, 0⟩
def Fld.LAYER_LATE_TICK_TICK : Fld := ⟨31, 0⟩
def Fld.LAYER_GUARD_GUARD : Fld := ⟨31, 0⟩
def Fld.LAYER_CNT_TORN : Fld := ⟨31, 16⟩
def Fld.LAYER_CNT_LATE : Fld := ⟨15, 0⟩
def Fld.LAYER_DISCARD_COUNT : Fld := ⟨31, 0⟩
def Fld.LAYER_BYTES_UNITS : Fld := ⟨31, 0⟩
def Fld.LAYER_EVT_CTL_DISC_EN : Fld := ⟨3, 3⟩
def Fld.LAYER_EVT_CTL_REF_EN : Fld := ⟨2, 2⟩
def Fld.LAYER_EVT_CTL_TORN_EN : Fld := ⟨1, 1⟩
def Fld.LAYER_EVT_CTL_LATE_EN : Fld := ⟨0, 0⟩
def Fld.LAYER_CHG_MAP : Fld := ⟨31, 0⟩
def Fld.LAYER_SLOT_KEEP : Fld := ⟨31, 31⟩
def Fld.LAYER_SLOT_SLOT : Fld := ⟨1, 0⟩
def Fld.LAYER_MODE_FILTER : Fld := ⟨8, 8⟩
def Fld.LAYER_MODE_OP : Fld := ⟨2, 0⟩
def Fld.LAYER_OPACITY_OPACITY : Fld := ⟨15, 0⟩
def Fld.LAYER_WIN_POS_Y : Fld := ⟨31, 16⟩
def Fld.LAYER_WIN_POS_X : Fld := ⟨15, 0⟩
def Fld.LAYER_WIN_SIZE_H : Fld := ⟨31, 16⟩
def Fld.LAYER_WIN_SIZE_W : Fld := ⟨15, 0⟩
def Fld.LAYER_LIVE_SLOT_NONE : Fld := ⟨2, 2⟩
def Fld.LAYER_LIVE_SLOT_SLOT : Fld := ⟨1, 0⟩
def Fld.LAYER_LIVE_MODE_FILTER : Fld := ⟨8, 8⟩
def Fld.LAYER_LIVE_MODE_OP : Fld := ⟨2, 0⟩
def Fld.LAYER_LIVE_OPACITY_OPACITY : Fld := ⟨15, 0⟩
def Fld.LAYER_LIVE_WIN_POS_Y : Fld := ⟨31, 16⟩
def Fld.LAYER_LIVE_WIN_POS_X : Fld := ⟨15, 0⟩
def Fld.LAYER_LIVE_WIN_SIZE_H : Fld := ⟨31, 16⟩
def Fld.LAYER_LIVE_WIN_SIZE_W : Fld := ⟨15, 0⟩
def Fld.LAYER_GEN01_GEN1 : Fld := ⟨31, 16⟩
def Fld.LAYER_GEN01_GEN0 : Fld := ⟨15, 0⟩
def Fld.LAYER_GEN23_GEN3 : Fld := ⟨31, 16⟩
def Fld.LAYER_GEN23_GEN2 : Fld := ⟨15, 0⟩
def Fld.LAYER_STAT_DAMAGED : Fld := ⟨19, 16⟩
def Fld.LAYER_STAT_SRC : Fld := ⟨6, 4⟩
def Fld.LAYER_STAT_SUBST : Fld := ⟨3, 3⟩
def Fld.LAYER_STAT_REFUSED : Fld := ⟨2, 2⟩
def Fld.LAYER_STAT_LATE : Fld := ⟨1, 1⟩
def Fld.LAYER_STAT_TORN : Fld := ⟨0, 0⟩
def Fld.MAP_USED_ENTRIES : Fld := ⟨22, 0⟩
def Fld.MAP_FIXT_USED_ENTRIES : Fld := ⟨18, 0⟩
def Fld.MAP_PATCH_USED_ENTRIES : Fld := ⟨20, 0⟩
def Fld.MAP_OUT_USED_ENTRIES : Fld := ⟨14, 0⟩
def Fld.MAP_TIME_PATCH_DONE : Fld := ⟨31, 16⟩
def Fld.MAP_TIME_MAP_DONE : Fld := ⟨15, 0⟩
def Fld.MAP_RD_SEL_TABLE : Fld := ⟨31, 29⟩
def Fld.MAP_RD_SEL_INDEX : Fld := ⟨22, 0⟩
def Fld.MAP_RD_DATA_DATA : Fld := ⟨31, 0⟩
def Fld.MAP_PORT_CHG_MAP : Fld := ⟨31, 0⟩
def Fld.MAP_PORT_LEN_LEN : Fld := ⟨19, 0⟩
def Fld.MAP_PORT_CRC_CRC : Fld := ⟨31, 0⟩
def Fld.COLR_GM_LEVEL : Fld := ⟨15, 0⟩
def Fld.COLR_FADER_CURVE : Fld := ⟨7, 0⟩
def Fld.COLR_CMT_GO : Fld := ⟨0, 0⟩
def Fld.COLR_LIVE_GM_LEVEL : Fld := ⟨15, 0⟩
def Fld.COLR_LIVE_FADER_CURVE : Fld := ⟨7, 0⟩
def Fld.COLR_STAT_PEND_AFTER : Fld := ⟨4, 4⟩
def Fld.COLR_STAT_PEND_NEXT : Fld := ⟨3, 3⟩
def Fld.COLR_STAT_REFUSED : Fld := ⟨1, 1⟩
def Fld.COLR_STAT_LATE : Fld := ⟨0, 0⟩
def Fld.COLR_LATE_TS_EPOCH : Fld := ⟨39, 34⟩
def Fld.COLR_LATE_TS_TB : Fld := ⟨33, 32⟩
def Fld.COLR_LATE_TS_TS : Fld := ⟨31, 0⟩
def Fld.COLR_LATE_TICK_TICK : Fld := ⟨31, 0⟩
def Fld.COLR_CLIP_MATRIX : Fld := ⟨31, 16⟩
def Fld.COLR_CLIP_GAIN : Fld := ⟨15, 0⟩
def Fld.COLR_EVT_CTL_REF_EN : Fld := ⟨3, 3⟩
def Fld.COLR_EVT_CTL_HOT_EN : Fld := ⟨2, 2⟩
def Fld.COLR_EVT_CTL_COLD_EN : Fld := ⟨1, 1⟩
def Fld.COLR_EVT_CTL_LATE_EN : Fld := ⟨0, 0⟩
def Fld.COLR_ZONE_CFG_HOT : Fld := ⟨31, 16⟩
def Fld.COLR_ZONE_CFG_TAU_SHIFT : Fld := ⟨11, 8⟩
def Fld.COLR_ZONE_CFG_ALPHA_SHIFT : Fld := ⟨2, 0⟩
def Fld.COLR_ZONE_THETA_THETA : Fld := ⟨15, 0⟩
def Fld.COLR_ZONE_SEL_ZONE : Fld := ⟨11, 0⟩
def Fld.COLR_ZONE_STAT_TEST : Fld := ⟨31, 16⟩
def Fld.COLR_ZONE_STAT_RHO : Fld := ⟨15, 5⟩
def Fld.COLR_ZONE_STAT_HOT : Fld := ⟨4, 4⟩
def Fld.COLR_ZONE_STAT_USED : Fld := ⟨3, 3⟩
def Fld.COLR_ZONE_STAT_STATE : Fld := ⟨2, 0⟩
def Fld.COLR_ZONE_AGE_TICKS : Fld := ⟨31, 0⟩
def Fld.COLR_ZONE_FORCE_FORCE : Fld := ⟨31, 31⟩
def Fld.COLR_ZONE_FORCE_TEMP : Fld := ⟨15, 0⟩
def Fld.COLR_GRP_LVL_LEVEL : Fld := ⟨15, 0⟩
def Fld.COLR_GRP_SRC_MODE : Fld := ⟨31, 30⟩
def Fld.COLR_GRP_SRC_ENTRY : Fld := ⟨29, 16⟩
def Fld.COLR_GRP_SRC_SLOT : Fld := ⟨8, 0⟩
def Fld.COLR_LIVE_GRP_MODE : Fld := ⟨17, 16⟩
def Fld.COLR_LIVE_GRP_LEVEL : Fld := ⟨15, 0⟩
def Fld.CURV_CFG_SCRUB_EN : Fld := ⟨8, 8⟩
def Fld.CURV_CFG_SPARE_MIN : Fld := ⟨7, 0⟩
def Fld.CURV_COUNT_WRITING : Fld := ⟨31, 24⟩
def Fld.CURV_COUNT_EMPTY : Fld := ⟨23, 16⟩
def Fld.CURV_COUNT_SPARE : Fld := ⟨15, 8⟩
def Fld.CURV_COUNT_NAMED : Fld := ⟨7, 0⟩
def Fld.CURV_SEL_SLOT : Fld := ⟨7, 0⟩
def Fld.CURV_INFO_REFS : Fld := ⟨31, 16⟩
def Fld.CURV_INFO_FADER : Fld := ⟨4, 4⟩
def Fld.CURV_INFO_STATE : Fld := ⟨2, 0⟩
def Fld.CURV_CRC_CRC : Fld := ⟨31, 0⟩
def Fld.CURV_PT_SEL_REPLICA : Fld := ⟨18, 16⟩
def Fld.CURV_PT_SEL_POINT : Fld := ⟨9, 0⟩
def Fld.CURV_PT_DATA_PAR_ERR : Fld := ⟨31, 31⟩
def Fld.CURV_PT_DATA_POINT : Fld := ⟨19, 0⟩
def Fld.CURV_SCRUB_REPAIRS : Fld := ⟨31, 16⟩
def Fld.CURV_SCRUB_STALLS : Fld := ⟨15, 0⟩
def Fld.CURV_PASS_PASSES : Fld := ⟨31, 0⟩
def Fld.CURV_EVT_CTL_LOW_EN : Fld := ⟨2, 2⟩
def Fld.CURV_EVT_CTL_FAULT_EN : Fld := ⟨1, 1⟩
def Fld.CURV_EVT_CTL_REPAIR_EN : Fld := ⟨0, 0⟩
def Fld.CURV_AVAIL_MAP : Fld := ⟨31, 0⟩
def Fld.STRD_CTL_FULL : Fld := ⟨1, 1⟩
def Fld.STRD_CTL_ENUM : Fld := ⟨0, 0⟩
def Fld.STRD_PSTAT_UP_LOCK : Fld := ⟨7, 7⟩
def Fld.STRD_PSTAT_HUB : Fld := ⟨6, 6⟩
def Fld.STRD_PSTAT_STATIC : Fld := ⟨5, 5⟩
def Fld.STRD_PSTAT_ENUM_FAULT : Fld := ⟨4, 4⟩
def Fld.STRD_PSTAT_STATE : Fld := ⟨2, 0⟩
def Fld.STRD_NODES_ORPHAN : Fld := ⟨28, 16⟩
def Fld.STRD_NODES_COUNT : Fld := ⟨12, 0⟩
def Fld.STRD_DELAY_RT_MAX : Fld := ⟨31, 16⟩
def Fld.STRD_DELAY_D_MAX : Fld := ⟨15, 0⟩
def Fld.STRD_TURN_T_TURN : Fld := ⟨15, 0⟩
def Fld.STRD_STATIC_V : Fld := ⟨31, 16⟩
def Fld.STRD_STATIC_U : Fld := ⟨15, 0⟩
def Fld.STRD_TX_CNT_STATIC : Fld := ⟨31, 16⟩
def Fld.STRD_TX_CNT_DATA : Fld := ⟨15, 0⟩
def Fld.STRD_CFG_CNT_CFG_FRAMES : Fld := ⟨31, 16⟩
def Fld.STRD_CFG_CNT_CFG_PKTS : Fld := ⟨15, 0⟩
def Fld.STRD_UP_ERR_DISCARD : Fld := ⟨31, 16⟩
def Fld.STRD_UP_ERR_SLOT_MISS : Fld := ⟨15, 0⟩
def Fld.STRD_NODE_ERR_DATA_MISS : Fld := ⟨31, 16⟩
def Fld.STRD_NODE_ERR_LOSS : Fld := ⟨15, 0⟩
def Fld.STRD_POLL_LOST_NODE : Fld := ⟨27, 16⟩
def Fld.STRD_POLL_FIRST : Fld := ⟨11, 0⟩
def Fld.STRD_EVT_CTL_UPERR_EN : Fld := ⟨4, 4⟩
def Fld.STRD_EVT_CTL_WAKE_EN : Fld := ⟨3, 3⟩
def Fld.STRD_EVT_CTL_LOST_EN : Fld := ⟨2, 2⟩
def Fld.STRD_EVT_CTL_FAULT_EN : Fld := ⟨1, 1⟩
def Fld.STRD_EVT_CTL_DONE_EN : Fld := ⟨0, 0⟩
def Fld.STRD_ENUM_TS_EPOCH : Fld := ⟨39, 34⟩
def Fld.STRD_ENUM_TS_TB : Fld := ⟨33, 32⟩
def Fld.STRD_ENUM_TS_TS : Fld := ⟨31, 0⟩
def Fld.STRD_WCTL_DISC : Fld := ⟨0, 0⟩
def Fld.STRD_WSTAT_UIDS : Fld := ⟨25, 16⟩
def Fld.STRD_WSTAT_QUEUED : Fld := ⟨15, 8⟩
def Fld.STRD_WSTAT_DISC_OVF : Fld := ⟨7, 7⟩
def Fld.STRD_WSTAT_DISCOVERING : Fld := ⟨6, 6⟩
def Fld.STRD_WSTAT_LISTEN : Fld := ⟨5, 5⟩
def Fld.STRD_WSTAT_PERS : Fld := ⟨2, 0⟩
def Fld.STRD_WTIME_T_PORT : Fld := ⟨21, 0⟩
def Fld.STRD_WTX_CNT_REPEAT : Fld := ⟨31, 16⟩
def Fld.STRD_WTX_CNT_SENT : Fld := ⟨15, 0⟩
def Fld.STRD_WMISS_IDLE : Fld := ⟨15, 0⟩
def Fld.STRD_RDM_CNT_CUT : Fld := ⟨31, 24⟩
def Fld.STRD_RDM_CNT_BAD : Fld := ⟨23, 16⟩
def Fld.STRD_RDM_CNT_TIMEOUT : Fld := ⟨15, 0⟩
def Fld.STRD_RDM_OK_SENT : Fld := ⟨31, 16⟩
def Fld.STRD_RDM_OK_ANSWERED : Fld := ⟨15, 0⟩
def Fld.STRD_WEVT_CTL_REF_EN : Fld := ⟨2, 2⟩
def Fld.STRD_WEVT_CTL_CUT_EN : Fld := ⟨1, 1⟩
def Fld.STRD_WEVT_CTL_DISC_EN : Fld := ⟨0, 0⟩
def Fld.STRD_UID_SEL_INDEX : Fld := ⟨8, 0⟩
def Fld.STRD_UID_LO_DEVICE : Fld := ⟨31, 0⟩
def Fld.STRD_UID_HI_VALID : Fld := ⟨31, 31⟩
def Fld.STRD_UID_HI_MANUF : Fld := ⟨15, 0⟩
def Fld.RDM_CFG_EN : Fld := ⟨8, 8⟩
def Fld.RDM_CFG_QUEUE : Fld := ⟨5, 0⟩
def Fld.RDM_UID_HI_MANUF : Fld := ⟨15, 0⟩
def Fld.RDM_UID_LO_DEVICE : Fld := ⟨31, 0⟩
def Fld.RDM_SUBMIT_TAG : Fld := ⟨31, 16⟩
def Fld.RDM_SUBMIT_BUF : Fld := ⟨13, 8⟩
def Fld.RDM_SUBMIT_PORT : Fld := ⟨6, 0⟩
def Fld.RDM_STAT_REASON : Fld := ⟨15, 8⟩
def Fld.RDM_STAT_REFUSED : Fld := ⟨0, 0⟩
def Fld.SACN_TX_CFG_TTL : Fld := ⟨31, 24⟩
def Fld.SACN_TX_CFG_DSCP : Fld := ⟨23, 18⟩
def Fld.SACN_TX_CFG_RATE : Fld := ⟨16, 8⟩
def Fld.SACN_TX_CFG_KEEP : Fld := ⟨7, 0⟩
def Fld.SACN_TX_CID_CID : Fld := ⟨31, 0⟩
def Fld.SACN_TX_NAME_NAME : Fld := ⟨31, 0⟩
def Fld.SACN_TX_CNT_SYNC : Fld := ⟨31, 16⟩
def Fld.SACN_TX_CNT_LATE : Fld := ⟨15, 0⟩
def Fld.SACN_TX_PKTS_COUNT : Fld := ⟨31, 0⟩
def Fld.HLTH_CFG_REPORT_TO : Fld := ⟨31, 16⟩
def Fld.HLTH_CFG_CONFIRM : Fld := ⟨3, 0⟩
def Fld.HLTH_SEL_CH : Fld := ⟨29, 24⟩
def Fld.HLTH_SEL_FIXTURE : Fld := ⟨17, 0⟩
def Fld.HLTH_CH_WAIT : Fld := ⟨31, 16⟩
def Fld.HLTH_CH_PEND : Fld := ⟨15, 12⟩
def Fld.HLTH_CH_BLIND : Fld := ⟨4, 4⟩
def Fld.HLTH_CH_DUE : Fld := ⟨3, 3⟩
def Fld.HLTH_CH_PART : Fld := ⟨2, 2⟩
def Fld.HLTH_CH_STATE : Fld := ⟨1, 0⟩
def Fld.HLTH_SUM_FAULTY : Fld := ⟨18, 0⟩
def Fld.HLTH_BLIND_SUM_CHANNELS : Fld := ⟨23, 0⟩
def Fld.HLTH_CNT_FLT_SHORT : Fld := ⟨31, 16⟩
def Fld.HLTH_CNT_FLT_OPEN : Fld := ⟨15, 0⟩
def Fld.HLTH_CNT_DIAG_BLIND : Fld := ⟨31, 16⟩
def Fld.HLTH_CNT_DIAG_PROBES : Fld := ⟨15, 0⟩
def Fld.HLTH_CNT_MISS_UNMATCHED : Fld := ⟨31, 24⟩
def Fld.HLTH_CNT_MISS_POST_DROP : Fld := ⟨23, 16⟩
def Fld.HLTH_CNT_MISS_DIAG_MISS : Fld := ⟨15, 0⟩
def Fld.HLTH_DATA_DATA : Fld := ⟨31, 0⟩
def Fld.HLTH_POST_VAL_VAL : Fld := ⟨31, 0⟩
def Fld.HLTH_POST_TYPE : Fld := ⟨31, 28⟩
def Fld.HLTH_POST_CHUNK : Fld := ⟨24, 24⟩
def Fld.HLTH_POST_FIXTURE : Fld := ⟨17, 0⟩
def Fld.HLTH_EVT_CTL_LOSS_EN : Fld := ⟨4, 4⟩
def Fld.HLTH_EVT_CTL_LIMIT_EN : Fld := ⟨3, 3⟩
def Fld.HLTH_EVT_CTL_BLIND_EN : Fld := ⟨2, 2⟩
def Fld.HLTH_EVT_CTL_SHORT_EN : Fld := ⟨1, 1⟩
def Fld.HLTH_EVT_CTL_OPEN_EN : Fld := ⟨0, 0⟩
def Fld.PERI_CFG_ARB_WAIT : Fld := ⟨31, 24⟩
def Fld.PERI_CFG_DIV_HOLD : Fld := ⟨9, 9⟩
def Fld.PERI_CFG_FLAG_SWAP : Fld := ⟨8, 8⟩
def Fld.PERI_CFG_BLOCK : Fld := ⟨1, 0⟩
def Fld.PERI_IMG_SETTLE : Fld := ⟨31, 16⟩
def Fld.PERI_IMG_GRACE_US : Fld := ⟨15, 0⟩
def Fld.PERI_HEALTH_A_FLAGS : Fld := ⟨11, 0⟩
def Fld.PERI_HEALTH_B_FLAGS : Fld := ⟨11, 0⟩
def Fld.PERI_STAT_SETTLE_CNT : Fld := ⟨31, 16⟩
def Fld.PERI_STAT_LAST_OUT : Fld := ⟨11, 9⟩
def Fld.PERI_STAT_ARB_BUSY : Fld := ⟨8, 8⟩
def Fld.PERI_STAT_DEFERRED : Fld := ⟨4, 4⟩
def Fld.PERI_STAT_COMPARING : Fld := ⟨0, 0⟩
def Fld.PERI_CNT_MISMATCH : Fld := ⟨31, 16⟩
def Fld.PERI_CNT_FAILOVER : Fld := ⟨15, 8⟩
def Fld.PERI_CNT_UNDECIDED : Fld := ⟨7, 0⟩
def Fld.PERI_UNCMP_BLOCKS : Fld := ⟨31, 0⟩
def Fld.PERI_SLIP_DEFER_MAX : Fld := ⟨31, 16⟩
def Fld.PERI_SLIP_SLIPS : Fld := ⟨15, 0⟩
def Fld.PERI_DIG_TICK_TICK : Fld := ⟨31, 0⟩
def Fld.PERI_DIG_STAT_MISMATCH : Fld := ⟨1, 1⟩
def Fld.PERI_DIG_STAT_EQUAL : Fld := ⟨0, 0⟩
def Fld.PERI_DIG_A_DIGEST : Fld := ⟨63, 0⟩
def Fld.PERI_DIG_B_DIGEST : Fld := ⟨63, 0⟩
def Fld.PERI_ARB_TS_EPOCH : Fld := ⟨39, 34⟩
def Fld.PERI_ARB_TS_TB : Fld := ⟨33, 32⟩
def Fld.PERI_ARB_TS_TS : Fld := ⟨31, 0⟩
def Fld.PERI_ARB_INFO_BLOCK : Fld := ⟨31, 20⟩
def Fld.PERI_ARB_INFO_OUTCOME : Fld := ⟨19, 17⟩
def Fld.PERI_ARB_INFO_ACTIVE_WAS : Fld := ⟨16, 16⟩
def Fld.PERI_ARB_INFO_STREAM : Fld := ⟨15, 8⟩
def Fld.PERI_ARB_INFO_HELD : Fld := ⟨7, 0⟩
def Fld.PERI_ARB_CRC_A_CRC : Fld := ⟨31, 0⟩
def Fld.PERI_ARB_CRC_B_CRC : Fld := ⟨31, 0⟩
def Fld.PERI_ARB_FLAGS_FLAGS_B : Fld := ⟨27, 16⟩
def Fld.PERI_ARB_FLAGS_FLAGS_A : Fld := ⟨11, 0⟩
def Fld.PERI_ARB_DEC_TS_EPOCH : Fld := ⟨39, 34⟩
def Fld.PERI_ARB_DEC_TS_TB : Fld := ⟨33, 32⟩
def Fld.PERI_ARB_DEC_TS_TS : Fld := ⟨31, 0⟩
def Fld.PERI_RESYNC_PHASE : Fld := ⟨27, 26⟩
def Fld.PERI_RESYNC_TWIN : Fld := ⟨25, 25⟩
def Fld.PERI_RESYNC_COPIED : Fld := ⟨24, 0⟩
def Fld.PERI_RESYNC_TOTAL_TOTAL : Fld := ⟨24, 0⟩
def Fld.TWIN_FAULT_FW_FAULT : Fld := ⟨0, 0⟩
def Fld.TWIN_DIGEST_DIGEST : Fld := ⟨63, 0⟩
def Fld.SORUS_CFG_TICK_EN : Fld := ⟨31, 31⟩
def Fld.SORUS_CFG_TICKQ : Fld := ⟨5, 0⟩
def Fld.SORUS_CNT_OVERFLOW : Fld := ⟨31, 16⟩
def Fld.SORUS_CNT_ABORTED : Fld := ⟨15, 0⟩
def Fld.SORUS_ERR_REFUSED : Fld := ⟨31, 24⟩
def Fld.SORUS_ERR_REL_ERR : Fld := ⟨23, 16⟩
def Fld.SORUS_ERR_PKT_TRUNC : Fld := ⟨15, 8⟩
def Fld.SORUS_ERR_MIRROR_POP : Fld := ⟨7, 0⟩
def Fld.SORUS_EVT_CTL_REF_EN : Fld := ⟨3, 3⟩
def Fld.SORUS_EVT_CTL_UNDER_EN : Fld := ⟨2, 2⟩
def Fld.SORUS_EVT_CTL_FULL_EN : Fld := ⟨1, 1⟩
def Fld.SORUS_EVT_CTL_OVF_EN : Fld := ⟨0, 0⟩
def Fld.SORUS_PUSH_TYPE : Fld := ⟨31, 24⟩
def Fld.SORUS_PUSH_FLOW : Fld := ⟨23, 16⟩
def Fld.SORUS_PUSH_FLOWED : Fld := ⟨15, 15⟩
def Fld.SORUS_PUSH_DL : Fld := ⟨14, 14⟩
def Fld.SORUS_PUSH_MORE : Fld := ⟨13, 13⟩
def Fld.SORUS_PUSH_PRIO_EN : Fld := ⟨12, 12⟩
def Fld.SORUS_PUSH_PRIO : Fld := ⟨11, 8⟩
def Fld.SORUS_PUSH_NEXT : Fld := ⟨7, 7⟩
def Fld.SORUS_PUSH_QUEUE : Fld := ⟨5, 0⟩
def Fld.SORUS_PUSH_STAT_SEQ : Fld := ⟨25, 16⟩
def Fld.SORUS_PUSH_STAT_REASON : Fld := ⟨3, 1⟩
def Fld.SORUS_PUSH_STAT_DONE : Fld := ⟨0, 0⟩
def Fld.SORUS_REL_TYPE : Fld := ⟨31, 24⟩
def Fld.SORUS_REL_FLOW : Fld := ⟨23, 16⟩
def Fld.SORUS_REL_DROP : Fld := ⟨15, 15⟩
def Fld.SORUS_REL_DST : Fld := ⟨11, 6⟩
def Fld.SORUS_REL_SEQ_SEQ : Fld := ⟨9, 0⟩
def Fld.SORUS_CMD_DONE : Fld := ⟨8, 8⟩
def Fld.SORUS_CMD_DROP_PKT : Fld := ⟨7, 7⟩
def Fld.SORUS_CMD_QUEUE : Fld := ⟨5, 0⟩
def Fld.SORUS_CAUSE_PREEMPT : Fld := ⟨4, 4⟩
def Fld.SORUS_CAUSE_DISPATCH : Fld := ⟨3, 3⟩
def Fld.SORUS_CAUSE_DEADLINE : Fld := ⟨2, 2⟩
def Fld.SORUS_CAUSE_JOIN : Fld := ⟨1, 1⟩
def Fld.SORUS_CAUSE_CTX : Fld := ⟨0, 0⟩
def Fld.SORUS_CUR_HDR : Fld := ⟨63, 0⟩
def Fld.SORUS_PBODY_WORD : Fld := ⟨63, 0⟩
def Fld.SORUS_DBODY_WORD : Fld := ⟨63, 0⟩
def Fld.SORUS_POP_HDR : Fld := ⟨63, 0⟩
def Fld.SORUS_QSTAT_OPEN_PKT : Fld := ⟨19, 19⟩
def Fld.SORUS_QSTAT_FULL : Fld := ⟨18, 18⟩
def Fld.SORUS_QSTAT_EMPTY : Fld := ⟨17, 17⟩
def Fld.SORUS_QSTAT_COUNT : Fld := ⟨16, 0⟩
def Fld.SORUS_QCTL_DISP_EN : Fld := ⟨0, 0⟩
def Fld.SORUS_QCNT_OVERFLOW : Fld := ⟨31, 16⟩
def Fld.SORUS_QCNT_ABORTED : Fld := ⟨15, 0⟩
def Fld.SORUS_QPTR_WR : Fld := ⟨48, 32⟩
def Fld.SORUS_QPTR_RD : Fld := ⟨16, 0⟩
def Fld.SORUS_WIN_STAT_UNDERRUN : Fld := ⟨1, 1⟩
def Fld.SORUS_WIN_STAT_EMPTY : Fld := ⟨0, 0⟩
def Fld.SORUS_WIN_CMD_DROP_PKT : Fld := ⟨0, 0⟩
def Fld.SORUS_WIN_HDR_HDR : Fld := ⟨63, 0⟩
def Fld.SORUS_WIN_BODY_WORD : Fld := ⟨63, 0⟩
def Fld.SORUS_FSTAT_OUT : Fld := ⟨30, 20⟩
def Fld.SORUS_FSTAT_NEXT_REL : Fld := ⟨19, 10⟩
def Fld.SORUS_FSTAT_NEXT_SEQ : Fld := ⟨9, 0⟩
def Fld.SORUS_FCNT_FULL : Fld := ⟨31, 16⟩
def Fld.SORUS_FCNT_DROPPED : Fld := ⟨15, 0⟩
def Fld.SORUS_CSTAT_DEPTH : Fld := ⟨20, 16⟩
def Fld.SORUS_CSTAT_QUEUE : Fld := ⟨13, 8⟩
def Fld.SORUS_CSTAT_PRIO : Fld := ⟨7, 4⟩
def Fld.SORUS_CSTAT_STATE : Fld := ⟨1, 0⟩
def Fld.BANK_CTL_CLR : Fld := ⟨31, 31⟩
def Fld.BANK_CTL_STATE : Fld := ⟨11, 10⟩
def Fld.BANK_CTL_CORE : Fld := ⟨7, 4⟩
def Fld.BANK_CTL_OWNER : Fld := ⟨2, 0⟩
def Fld.BANK_STAT_CE : Fld := ⟨31, 24⟩
def Fld.BANK_STAT_WINDOW : Fld := ⟨23, 16⟩
def Fld.BANK_STAT_FAULTY : Fld := ⟨6, 6⟩
def Fld.BANK_STAT_BORROWED : Fld := ⟨5, 5⟩
def Fld.BANK_STAT_MOVING : Fld := ⟨4, 4⟩
def Fld.BANK_STAT_STATE : Fld := ⟨2, 0⟩
def Fld.BANK_TEST_CFG_EN : Fld := ⟨31, 31⟩
def Fld.BANK_TEST_CFG_ABORT_MAX : Fld := ⟨19, 16⟩
def Fld.BANK_TEST_CFG_GAP_US : Fld := ⟨15, 0⟩
def Fld.BANK_TEST_CNT_ABORTS : Fld := ⟨31, 16⟩
def Fld.BANK_TEST_CNT_SKIPPED : Fld := ⟨15, 8⟩
def Fld.BANK_TEST_CNT_TRANSIENT : Fld := ⟨7, 0⟩
def Fld.BANK_TEST_PASS_PASSES : Fld := ⟨31, 0⟩
def Fld.BANK_VIOL_COUNT : Fld := ⟨31, 16⟩
def Fld.BANK_VIOL_BANK : Fld := ⟨6, 0⟩
def Fld.BANK_EVT_CTL_UE_EN : Fld := ⟨4, 4⟩
def Fld.BANK_EVT_CTL_CE_EN : Fld := ⟨3, 3⟩
def Fld.BANK_EVT_CTL_TEST_EN : Fld := ⟨2, 2⟩
def Fld.BANK_EVT_CTL_READY_EN : Fld := ⟨1, 1⟩
def Fld.BANK_EVT_CTL_VIOL_EN : Fld := ⟨0, 0⟩
def Fld.LMEM_ECC_CE : Fld := ⟨31, 16⟩
def Fld.LMEM_ECC_UE : Fld := ⟨15, 0⟩
def Fld.DRAM_SCRUB_EN : Fld := ⟨31, 31⟩
def Fld.DRAM_SCRUB_PASS_MIN : Fld := ⟨15, 0⟩
def Fld.DRAM_SCRUB_POS_PASSES : Fld := ⟨31, 16⟩
def Fld.DRAM_SCRUB_POS_POS : Fld := ⟨15, 0⟩
def Fld.DRAM_ECC_CE : Fld := ⟨31, 16⟩
def Fld.DRAM_ECC_UE : Fld := ⟨15, 0⟩
def Fld.DRAM_UE_ADDR_REQ : Fld := ⟨42, 40⟩
def Fld.DRAM_UE_ADDR_ADDR : Fld := ⟨34, 0⟩
def Fld.DRAM_UE_TS_EPOCH : Fld := ⟨39, 34⟩
def Fld.DRAM_UE_TS_TB : Fld := ⟨33, 32⟩
def Fld.DRAM_UE_TS_TS : Fld := ⟨31, 0⟩
def Fld.HOST_RELAY_ADDR_ADDR : Fld := ⟨31, 0⟩
def Fld.HOST_RELAY_DATA_DATA : Fld := ⟨31, 0⟩
def Fld.MBX_STAT_A_BUSY : Fld := ⟨15, 8⟩
def Fld.MBX_STAT_WR_LOST : Fld := ⟨1, 1⟩
def Fld.MBX_STAT_COLLIDE : Fld := ⟨0, 0⟩
def Fld.MBX_COLL_REQ : Fld := ⟨26, 24⟩
def Fld.MBX_COLL_CORE : Fld := ⟨19, 16⟩
def Fld.MBX_COLL_OFFSET : Fld := ⟨15, 0⟩
def Fld.MGMT_CFG_ADDR : Fld := ⟨14, 8⟩
def Fld.MGMT_CFG_PEC : Fld := ⟨0, 0⟩
def Fld.MGMT_STAT_WAKE_NACK : Fld := ⟨23, 16⟩
def Fld.MGMT_STAT_TIMEOUT : Fld := ⟨15, 8⟩
def Fld.MGMT_STAT_PEC_ERR : Fld := ⟨7, 0⟩
def Fld.FLASH_CMD_LEN_OP : Fld := ⟨27, 0⟩
def Fld.FLASH_ADDR_ADDR : Fld := ⟨31, 0⟩
def Fld.FLASH_DST_DST : Fld := ⟨34, 0⟩
def Fld.FLASH_STAT_REASON : Fld := ⟨7, 5⟩
def Fld.FLASH_STAT_DONE : Fld := ⟨1, 1⟩
def Fld.FLASH_STAT_BUSY : Fld := ⟨0, 0⟩
def Fld.FLASH_INFO_SIZE_LOG2 : Fld := ⟨15, 8⟩
def Fld.FLASH_INFO_MODE : Fld := ⟨1, 0⟩
def Fld.RZP_CFG_EN : Fld := ⟨31, 31⟩
def Fld.RZP_CFG_QM16_LOCK : Fld := ⟨30, 30⟩
def Fld.RZP_CFG_TO : Fld := ⟨27, 16⟩
def Fld.RZP_CFG_POLL_US : Fld := ⟨13, 0⟩
def Fld.RZP_MBX_BASE : Fld := ⟨31, 17⟩
def Fld.RZP_MBX_EN : Fld := ⟨0, 0⟩
def Fld.RZP_IN_BASE : Fld := ⟨31, 24⟩
def Fld.RZP_IN_SIZE : Fld := ⟨20, 18⟩
def Fld.RZP_IN_EN : Fld := ⟨0, 0⟩
def Fld.RZP_IN_TGT_MIB : Fld := ⟨9, 0⟩
def Fld.RZP_CNT_RETRY : Fld := ⟨31, 16⟩
def Fld.RZP_CNT_CROSS : Fld := ⟨15, 8⟩
def Fld.RZP_CNT_LOCK_TO : Fld := ⟨7, 0⟩
def Fld.RZP_SEM_GOT : Fld := ⟨31, 31⟩
def Fld.RZP_SEM_OWNER : Fld := ⟨4, 0⟩
def Fld.BRDG_HWIN_BASE : Fld := ⟨31, 25⟩
def Fld.BRDG_STAT_LOCKED : Fld := ⟨8, 8⟩
def Fld.BRDG_STAT_WQ : Fld := ⟨5, 0⟩
def Fld.BRDG_LINE_MASK : Fld := ⟨31, 24⟩
def Fld.BRDG_LINE_EDGE : Fld := ⟨23, 16⟩
def Fld.BRDG_LINE_PEND : Fld := ⟨15, 8⟩
def Fld.BRDG_LINE_LEVEL : Fld := ⟨7, 0⟩
def Fld.BRDG_EVT_CTL_AUTH_EN : Fld := ⟨4, 4⟩
def Fld.BRDG_EVT_CTL_LOCK_EN : Fld := ⟨3, 3⟩
def Fld.BRDG_EVT_CTL_LINE_EN : Fld := ⟨2, 2⟩
def Fld.BRDG_EVT_CTL_RETRY_EN : Fld := ⟨1, 1⟩
def Fld.BRDG_EVT_CTL_WERR_EN : Fld := ⟨0, 0⟩
def Fld.BRDG_PF_BASE_BASE : Fld := ⟨31, 6⟩
def Fld.BRDG_PF_BASE_EN : Fld := ⟨0, 0⟩
def Fld.BRDG_PF_LIM_LIMIT : Fld := ⟨31, 6⟩
def Fld.BRDG_WLOG_STAT_OVF : Fld := ⟨23, 16⟩
def Fld.BRDG_WLOG_STAT_VALID : Fld := ⟨15, 0⟩
def Fld.CTL_KEY_SEL_CLEAR : Fld := ⟨31, 31⟩
def Fld.CTL_KEY_SEL_VALID : Fld := ⟨11, 8⟩
def Fld.CTL_KEY_SEL_INDEX : Fld := ⟨5, 4⟩
def Fld.CTL_KEY_SEL_WORD : Fld := ⟨2, 0⟩
def Fld.CTL_KEY_DATA_DATA : Fld := ⟨31, 0⟩
def Fld.CTL_STAT_AUTH : Fld := ⟨31, 24⟩
def Fld.CTL_STAT_REPLAY : Fld := ⟨23, 16⟩
def Fld.CTL_STAT_NOSESS : Fld := ⟨15, 8⟩
def Fld.CTL_STAT_SESSIONS : Fld := ⟨5, 0⟩
def Fld.PWR_CTL_KEY : Fld := ⟨15, 8⟩
def Fld.PWR_CTL_FORCE : Fld := ⟨4, 4⟩
def Fld.PWR_CTL_REQ : Fld := ⟨2, 0⟩
def Fld.PWR_STAT_WAKE_FAIL : Fld := ⟨31, 31⟩
def Fld.PWR_STAT_RESTORE_BAD : Fld := ⟨30, 30⟩
def Fld.PWR_STAT_REF_XIN1 : Fld := ⟨29, 29⟩
def Fld.PWR_STAT_WAKE_SRC : Fld := ⟨23, 20⟩
def Fld.PWR_STAT_PHASE : Fld := ⟨19, 16⟩
def Fld.PWR_STAT_HELD : Fld := ⟨15, 12⟩
def Fld.PWR_STAT_OPP_B : Fld := ⟨7, 6⟩
def Fld.PWR_STAT_OPP_A : Fld := ⟨5, 4⟩
def Fld.PWR_STAT_STATE : Fld := ⟨2, 0⟩
def Fld.PWR_OPP_DIM_OPP : Fld := ⟨3, 2⟩
def Fld.PWR_OPP_RUN_OPP : Fld := ⟨1, 0⟩
def Fld.PWR_CFG_ALARM_EN : Fld := ⟨31, 31⟩
def Fld.PWR_CFG_NAP_SAFE : Fld := ⟨30, 30⟩
def Fld.PWR_CFG_RETRY_MAX : Fld := ⟨23, 16⟩
def Fld.PWR_CFG_PG_TO : Fld := ⟨15, 8⟩
def Fld.PWR_CFG_OPP_SETTLE : Fld := ⟨7, 0⟩
def Fld.PWR_REFUSE_TRIES : Fld := ⟨31, 24⟩
def Fld.PWR_REFUSE_REASON : Fld := ⟨11, 8⟩
def Fld.PWR_REFUSE_BLOCK : Fld := ⟨3, 0⟩
def Fld.PWR_REQ_TS_EPOCH : Fld := ⟨39, 34⟩
def Fld.PWR_REQ_TS_TB : Fld := ⟨33, 32⟩
def Fld.PWR_REQ_TS_TS : Fld := ⟨31, 0⟩
def Fld.PWR_REFUSE_TS_EPOCH : Fld := ⟨39, 34⟩
def Fld.PWR_REFUSE_TS_TB : Fld := ⟨33, 32⟩
def Fld.PWR_REFUSE_TS_TS : Fld := ⟨31, 0⟩
def Fld.PWR_FAIL_XIN1_TRIED : Fld := ⟨8, 8⟩
def Fld.PWR_FAIL_DOMAIN : Fld := ⟨7, 4⟩
def Fld.PWR_FAIL_STEP : Fld := ⟨1, 0⟩
def Fld.PWR_BO_COUNT : Fld := ⟨31, 16⟩
def Fld.PWR_BO_RAILS : Fld := ⟨5, 0⟩
def Fld.PWR_BO_TS_EPOCH : Fld := ⟨39, 34⟩
def Fld.PWR_BO_TS_TB : Fld := ⟨33, 32⟩
def Fld.PWR_BO_TS_TS : Fld := ⟨31, 0⟩
def Fld.PWR_MON_SEL_RAIL : Fld := ⟨2, 0⟩
def Fld.PWR_MON_MIN : Fld := ⟨31, 16⟩
def Fld.PWR_MON_NOW : Fld := ⟨15, 0⟩
def Fld.PWR_ALARM_TB3 : Fld := ⟨63, 0⟩
def Fld.BOOT_CTL_KEY : Fld := ⟨15, 8⟩
def Fld.BOOT_CTL_FORCE : Fld := ⟨4, 4⟩
def Fld.BOOT_CTL_SLOT : Fld := ⟨3, 2⟩
def Fld.BOOT_CTL_TWIN : Fld := ⟨1, 1⟩
def Fld.BOOT_CTL_ACT : Fld := ⟨0, 0⟩
def Fld.BOOT_VERIFY_SLOT : Fld := ⟨2, 0⟩
def Fld.BOOT_STAT_VERIFIED : Fld := ⟨31, 27⟩
def Fld.BOOT_STAT_VFY_CODE : Fld := ⟨26, 19⟩
def Fld.BOOT_STAT_VFY_BUSY : Fld := ⟨18, 18⟩
def Fld.BOOT_STAT_ACT_REASON : Fld := ⟨17, 15⟩
def Fld.BOOT_STAT_REC_BAD : Fld := ⟨14, 14⟩
def Fld.BOOT_STAT_FELL_BACK_B : Fld := ⟨13, 12⟩
def Fld.BOOT_STAT_FELL_BACK_A : Fld := ⟨11, 10⟩
def Fld.BOOT_STAT_REVERTED_B : Fld := ⟨9, 9⟩
def Fld.BOOT_STAT_REVERTED_A : Fld := ⟨8, 8⟩
def Fld.BOOT_STAT_TRIAL_B : Fld := ⟨7, 7⟩
def Fld.BOOT_STAT_SLOT_B : Fld := ⟨6, 5⟩
def Fld.BOOT_STAT_TRIAL_A : Fld := ⟨4, 4⟩
def Fld.BOOT_STAT_SLOT_A : Fld := ⟨3, 2⟩
def Fld.BOOT_CFG_CONFIRM_WIN : Fld := ⟨15, 0⟩
def Fld.BOOT_TRIAL_LEFT_B : Fld := ⟨31, 16⟩
def Fld.BOOT_TRIAL_LEFT_A : Fld := ⟨15, 0⟩
def Fld.OTP_KEY_CMD_KEY : Fld := ⟨15, 8⟩
def Fld.OTP_KEY_CMD_SLOT : Fld := ⟨3, 2⟩
def Fld.OTP_KEY_CMD_OP : Fld := ⟨1, 0⟩
def Fld.OTP_KEY_STAT_REFUSED : Fld := ⟨16, 16⟩
def Fld.OTP_KEY_STAT_SLOTS : Fld := ⟨15, 0⟩
def Fld.UPD_FW_VER_VERSION : Fld := ⟨31, 0⟩
def Fld.UPD_STAT_SET_FORMAT : Fld := ⟨31, 16⟩
def Fld.UPD_STAT_CONF_REFUSED : Fld := ⟨2, 2⟩
def Fld.UPD_STAT_PENDING_WRITE : Fld := ⟨1, 1⟩
def Fld.UPD_STAT_MIGRATED : Fld := ⟨0, 0⟩
def Fld.UPD_HEALTH_CONFIRM_VALUE : Fld := ⟨31, 0⟩
def Fld.UPD_PKG_CMD_OP : Fld := ⟨1, 0⟩
def Fld.UPD_PKG_OFS_OFS : Fld := ⟨29, 6⟩
def Fld.UPD_PKG_STAT_LENGTH : Fld := ⟨31, 8⟩
def Fld.UPD_PKG_STAT_HEALTH_SKIP : Fld := ⟨4, 4⟩
def Fld.UPD_PKG_STAT_REASON : Fld := ⟨3, 2⟩
def Fld.UPD_PKG_STAT_STATE : Fld := ⟨1, 0⟩
def Fld.CAL_CFG_ACTIVE_DEFER : Fld := ⟨23, 16⟩
def Fld.CAL_CFG_PERIOD : Fld := ⟨15, 0⟩
def Fld.CAL_CMD_ALL : Fld := ⟨31, 31⟩
def Fld.CAL_CMD_UNIT : Fld := ⟨5, 0⟩
def Fld.CAL_STAT_RUNNING : Fld := ⟨31, 31⟩
def Fld.CAL_STAT_PENDING : Fld := ⟨30, 30⟩
def Fld.CAL_STAT_XREF_BAD : Fld := ⟨29, 29⟩
def Fld.CAL_STAT_FAIL : Fld := ⟨28, 28⟩
def Fld.CAL_STAT_CUR : Fld := ⟨5, 0⟩
def Fld.CAL_XREF_MOHM : Fld := ⟨23, 0⟩
def Fld.CAL_SEL_UNIT : Fld := ⟨5, 0⟩
def Fld.CAL_UNIT_STAT_CAL_COUNT : Fld := ⟨31, 16⟩
def Fld.CAL_UNIT_STAT_FACTORY : Fld := ⟨4, 4⟩
def Fld.CAL_UNIT_STAT_SKIPPED : Fld := ⟨3, 3⟩
def Fld.CAL_UNIT_STAT_DEFERRED : Fld := ⟨2, 2⟩
def Fld.CAL_UNIT_STAT_STALE : Fld := ⟨1, 1⟩
def Fld.CAL_UNIT_STAT_FAIL : Fld := ⟨0, 0⟩
def Fld.CAL_LAST_EPOCH : Fld := ⟨39, 34⟩
def Fld.CAL_LAST_TB : Fld := ⟨33, 32⟩
def Fld.CAL_LAST_TS : Fld := ⟨31, 0⟩
def Fld.CAL_UNIT_DATA_CODE : Fld := ⟨31, 16⟩
def Fld.CAL_UNIT_DATA_VALUE : Fld := ⟨15, 0⟩
def Fld.EVT_ROUTE_LOG : Fld := ⟨31, 31⟩
def Fld.EVT_ROUTE_MSIX_EN : Fld := ⟨30, 30⟩
def Fld.EVT_ROUTE_PINS : Fld := ⟨27, 24⟩
def Fld.EVT_ROUTE_VECTOR : Fld := ⟨7, 0⟩
def Fld.EVT_PEND_PEND : Fld := ⟨31, 0⟩
def Fld.EVT_PIN_CTL_LEVEL : Fld := ⟨7, 4⟩
def Fld.EVT_PIN_CTL_EN : Fld := ⟨3, 0⟩
def Fld.EVT_LOG_HEAD_HEAD : Fld := ⟨31, 0⟩
def Fld.EVT_LOG_TAIL_TAIL : Fld := ⟨31, 0⟩
def Fld.EVT_LOG_STAT_OVF : Fld := ⟨31, 16⟩
def Fld.EVT_LOG_STAT_LATE_DROP : Fld := ⟨15, 0⟩
def Fld.EVT_LOG_CTL_FREEZE : Fld := ⟨0, 0⟩
def Fld.EVT_QROUTE_EN : Fld := ⟨7, 7⟩
def Fld.EVT_QROUTE_QUEUE : Fld := ⟨5, 0⟩
def Fld.EVT_TPEND_PEND : Fld := ⟨31, 0⟩
def Fld.EVT_TSTAT_QDROP : Fld := ⟨15, 0⟩
def Fld.EVT_SOFT_DATA : Fld := ⟨31, 0⟩

end Machine

end Sys2Proof
end

