-- ==== Sys2Proof/Machine/RegTable.lean ====
section
/-!
DEFINITION. The register table: one row for each register heading of the spec, with its home, its reset domain (Table 0-5) and
for each field its bits, its access code (Table 0-6) and its reset value. A reset value that is not a number in the spec (image, entry,
strap, OTP, table, per slot) is 0 here and is given by the operation that the rule names.
-/
namespace Sys2Proof.Machine

/-- Access codes of Table 0-6 (R10). -/
inductive Acc where
  | rw | ro | wo | w1c | w1s | rc | rsvd
deriving DecidableEq, Repr

/-- Reset domains of Table 0-5. -/
inductive Dom where
  | ctx | twin | dev | por
deriving DecidableEq, Repr

/-- Which die holds a register. -/
inductive Die where
  | thallus | twin
deriving DecidableEq, Repr

/-- One line of a register's field table. `reset` lists the value by the first index of the register; one element stands for every
index, none for 0. -/
structure FieldRow where
  hi : Nat
  lo : Nat
  acc : Acc
  reset : List Nat
deriving DecidableEq, Repr

/-- One register heading. `strides` lists (stride, count) for each index. -/
structure RegRow where
  name : String
  die : Die
  base : Nat
  strides : List (Nat × Nat)
  wide : Bool
  dom : Dom
  fields : List FieldRow
deriving DecidableEq, Repr

/-- Registers of chapter 1, part 0. -/
def regRows01_0 : List RegRow := [
  ⟨"DEV_ID", .thallus, 0x0, [], false, .por, [⟨31, 16, .ro, [0x128]⟩, ⟨15, 8, .ro, [0x42]⟩, ⟨7, 4, .ro, []⟩, ⟨3, 0, .ro, [0x1]⟩]⟩,
  ⟨"DEV_STAT", .thallus, 0x4, [], false, .dev, [⟨31, 24, .ro, []⟩, ⟨23, 20, .ro, []⟩, ⟨19, 16, .ro, []⟩, ⟨15, 8, .rc, []⟩, ⟨7, 5, .rsvd, []⟩, ⟨4, 4, .w1c, []⟩, ⟨3, 3, .w1c, []⟩, ⟨2, 2, .ro, []⟩, ⟨1, 1, .ro, []⟩, ⟨0, 0, .ro, []⟩]⟩,
  ⟨"DEV_CTL", .thallus, 0x8, [], false, .dev, [⟨31, 16, .rsvd, []⟩, ⟨15, 8, .wo, []⟩, ⟨7, 2, .rsvd, []⟩, ⟨1, 1, .wo, []⟩, ⟨0, 0, .wo, []⟩]⟩,
  ⟨"TWIN_CTL", .thallus, 0x10, [], false, .dev, [⟨31, 7, .rsvd, []⟩, ⟨6, 6, .wo, []⟩, ⟨5, 5, .wo, []⟩, ⟨4, 4, .rw, []⟩, ⟨3, 3, .rw, []⟩, ⟨2, 2, .rsvd, []⟩, ⟨1, 1, .rw, []⟩, ⟨0, 0, .rw, []⟩]⟩,
  ⟨"OUT_CTL", .thallus, 0x14, [], false, .dev, [⟨31, 2, .rsvd, []⟩, ⟨1, 1, .rw, []⟩, ⟨0, 0, .rw, []⟩]⟩,
  ⟨"WDOG_CTL", .thallus, 0x18, [], false, .dev, [⟨31, 18, .rsvd, []⟩, ⟨17, 16, .rw, []⟩, ⟨15, 1, .rw, [0x3E8]⟩, ⟨0, 0, .rw, []⟩]⟩,
  ⟨"WDOG_KICK", .thallus, 0x1C, [], false, .dev, [⟨31, 0, .wo, []⟩]⟩,
  ⟨"MIRROR_STAT", .thallus, 0x20, [], false, .dev, [⟨31, 24, .rc, []⟩, ⟨23, 16, .rc, []⟩, ⟨15, 8, .rc, []⟩, ⟨7, 0, .rc, []⟩]⟩,
  ⟨"TWIN_ID", .twin, 0x0, [], false, .por, [⟨31, 16, .ro, [0x128]⟩, ⟨15, 8, .ro, [0x42]⟩, ⟨7, 4, .ro, []⟩, ⟨3, 1, .rsvd, []⟩, ⟨0, 0, .ro, []⟩]⟩,
  ⟨"TWIN_ROLE", .twin, 0x4, [], false, .twin, [⟨31, 8, .rsvd, []⟩, ⟨7, 4, .rsvd, []⟩, ⟨3, 0, .ro, []⟩]⟩]

/-- Registers of chapter 2, part 0. -/
def regRows02_0 : List RegRow := [
  ⟨"TGEN_CTL", .thallus, 0x3800, [], false, .dev, [⟨31, 2, .rsvd, []⟩, ⟨1, 1, .wo, []⟩, ⟨0, 0, .wo, []⟩]⟩,
  ⟨"TGEN_STAT", .thallus, 0x3804, [], false, .dev, [⟨31, 8, .rsvd, []⟩, ⟨7, 4, .ro, []⟩, ⟨3, 2, .rsvd, []⟩, ⟨1, 1, .w1c, []⟩, ⟨0, 0, .ro, []⟩]⟩,
  ⟨"TGEN_RATE", .thallus, 0x3808, [], false, .dev, [⟨31, 20, .rw, [0x1]⟩, ⟨19, 0, .rw, [0x3C]⟩]⟩,
  ⟨"TGEN_CDL", .thallus, 0x380C, [], false, .dev, [⟨31, 10, .rsvd, []⟩, ⟨9, 0, .rw, [0x258]⟩]⟩,
  ⟨"TGEN_LOFS", .thallus, 0x3810, [], false, .dev, [⟨31, 0, .rw, []⟩]⟩,
  ⟨"TGEN_NUM", .thallus, 0x3814, [], false, .dev, [⟨31, 0, .ro, []⟩]⟩,
  ⟨"TGEN_LIVE_RATE", .thallus, 0x3818, [], false, .dev, [⟨31, 20, .ro, [0x1]⟩, ⟨19, 0, .ro, [0x3C]⟩]⟩,
  ⟨"TGEN_LIVE_CDL", .thallus, 0x381C, [], false, .dev, [⟨31, 10, .rsvd, []⟩, ⟨9, 0, .ro, [0x258]⟩]⟩,
  ⟨"TGEN_LIVE_LOFS", .thallus, 0x3820, [], false, .dev, [⟨31, 0, .ro, []⟩]⟩,
  ⟨"TGEN_TICK_TS", .thallus, 0x3828, [], true, .dev, [⟨63, 40, .rsvd, []⟩, ⟨39, 34, .ro, []⟩, ⟨33, 32, .ro, []⟩, ⟨31, 0, .ro, []⟩]⟩,
  ⟨"TGEN_LATCH_TS", .thallus, 0x3830, [], true, .dev, [⟨63, 40, .rsvd, []⟩, ⟨39, 34, .ro, []⟩, ⟨33, 32, .ro, []⟩, ⟨31, 0, .ro, []⟩]⟩,
  ⟨"TICK_FR_NEWEST", .twin, 0x10000, [], false, .twin, [⟨31, 0, .ro, [0xFFFFFFFF]⟩]⟩]

/-- Registers of chapter 2, part 1. -/
def regRows02_1 : List RegRow := [
  ⟨"TICK_PEAK", .twin, 0x10004, [], false, .ctx, [⟨31, 16, .rc, []⟩, ⟨15, 0, .rc, []⟩]⟩,
  ⟨"TICK_STALE_CNT", .twin, 0x10008, [], false, .ctx, [⟨31, 16, .rc, []⟩, ⟨15, 0, .rc, []⟩]⟩,
  ⟨"TICK_DROP_CNT", .twin, 0x1000C, [], false, .ctx, [⟨31, 16, .rc, []⟩, ⟨15, 0, .rc, []⟩]⟩,
  ⟨"TICK_EVT_CTL", .twin, 0x10010, [], false, .ctx, [⟨31, 4, .rsvd, []⟩, ⟨3, 3, .rw, []⟩, ⟨2, 2, .rw, [0x1]⟩, ⟨1, 1, .rw, [0x1]⟩, ⟨0, 0, .rw, [0x1]⟩]⟩,
  ⟨"TICK_STALE_PORT", .twin, 0x10020, [(0x4, 4)], false, .twin, [⟨31, 0, .ro, []⟩]⟩]

/-- Registers of chapter 3, part 0. -/
def regRows03_0 : List RegRow := [
  ⟨"TB_CTL", .thallus, 0x3000, [(0x100, 4)], false, .dev, [⟨31, 5, .rsvd, []⟩, ⟨4, 4, .wo, []⟩, ⟨3, 2, .rsvd, []⟩, ⟨1, 0, .rw, [0, 0, 0, 2]⟩]⟩,
  ⟨"TB_STAT", .thallus, 0x3004, [(0x100, 4)], false, .dev, [⟨31, 25, .rsvd, []⟩, ⟨24, 24, .w1c, []⟩, ⟨23, 16, .rc, []⟩, ⟨15, 8, .ro, []⟩, ⟨7, 3, .rsvd, []⟩, ⟨2, 0, .ro, [0, 0, 0, 6]⟩]⟩,
  ⟨"TB_NOW", .thallus, 0x3008, [(0x100, 4)], true, .dev, [⟨63, 32, .ro, []⟩, ⟨31, 0, .ro, []⟩]⟩,
  ⟨"TB_RATE", .thallus, 0x3010, [(0x100, 4)], false, .dev, [⟨31, 0, .ro, []⟩]⟩,
  ⟨"TB_THRESH", .thallus, 0x3014, [(0x100, 4)], false, .dev, [⟨31, 16, .rw, [0x64]⟩, ⟨15, 0, .rw, [0x3E8]⟩]⟩,
  ⟨"TB_STEP_CTL", .thallus, 0x3018, [(0x100, 4)], false, .dev, [⟨31, 31, .rw, [0, 0, 1, 0]⟩, ⟨30, 20, .rsvd, []⟩, ⟨19, 0, .rw, [0x3E8]⟩]⟩,
  ⟨"TB_SLEW", .thallus, 0x301C, [(0x100, 4)], false, .dev, [⟨31, 16, .rw, [0x3C]⟩, ⟨15, 10, .rsvd, []⟩, ⟨9, 0, .rw, [0x64]⟩]⟩,
  ⟨"TB_TIMEOUT", .thallus, 0x3020, [(0x100, 4)], false, .dev, [⟨31, 24, .rw, [0x4]⟩, ⟨23, 16, .rw, [0x8]⟩, ⟨15, 0, .rw, [0xBB8, 0x1F4, 0xBB8, 0]⟩]⟩,
  ⟨"TB_MEAS_AT", .thallus, 0x3024, [(0x100, 4)], false, .dev, [⟨31, 0, .wo, []⟩]⟩,
  ⟨"TB_MEAS_OFS", .thallus, 0x3028, [(0x100, 4)], true, .dev, [⟨63, 0, .wo, []⟩]⟩,
  ⟨"TB_MEAS_CTL", .thallus, 0x3030, [(0x100, 4)], false, .dev, [⟨31, 3, .rsvd, []⟩, ⟨2, 2, .wo, []⟩, ⟨1, 1, .wo, []⟩, ⟨0, 0, .wo, []⟩]⟩,
  ⟨"TB_OFS_LAST", .thallus, 0x3034, [(0x100, 4)], false, .dev, [⟨31, 0, .ro, []⟩]⟩]

/-- Registers of chapter 3, part 1. -/
def regRows03_1 : List RegRow := [
  ⟨"TB_HOLD_AGE", .thallus, 0x3038, [(0x100, 4)], false, .dev, [⟨31, 0, .ro, []⟩]⟩,
  ⟨"TB_RATE_AVG", .thallus, 0x303C, [(0x100, 4)], false, .dev, [⟨31, 0, .ro, []⟩]⟩,
  ⟨"TB_SET", .thallus, 0x3040, [(0x100, 4)], true, .dev, [⟨63, 0, .rw, []⟩]⟩,
  ⟨"TB_STEP_LAST", .thallus, 0x3048, [(0x100, 4)], true, .dev, [⟨63, 0, .ro, []⟩]⟩,
  ⟨"TB_STEP_TS", .thallus, 0x3050, [(0x100, 4)], true, .dev, [⟨63, 40, .rsvd, []⟩, ⟨39, 34, .ro, []⟩, ⟨33, 32, .ro, [0x3]⟩, ⟨31, 0, .ro, []⟩]⟩,
  ⟨"TB2_LTC_CTL", .thallus, 0x3280, [], false, .dev, [⟨31, 24, .rsvd, []⟩, ⟨23, 16, .rw, [0x4]⟩, ⟨15, 12, .rsvd, []⟩, ⟨11, 8, .rw, [0x4]⟩, ⟨7, 6, .rsvd, []⟩, ⟨5, 4, .rw, []⟩, ⟨3, 3, .rsvd, []⟩, ⟨2, 0, .rw, [0x1]⟩]⟩,
  ⟨"TB2_LTC_TC", .thallus, 0x3284, [], false, .dev, [⟨31, 24, .ro, []⟩, ⟨23, 16, .ro, []⟩, ⟨15, 8, .ro, []⟩, ⟨7, 0, .ro, []⟩]⟩,
  ⟨"TB2_WCLK", .thallus, 0x3288, [], false, .dev, [⟨31, 31, .ro, []⟩, ⟨30, 18, .rsvd, []⟩, ⟨17, 0, .ro, []⟩]⟩,
  ⟨"TB3_TRIM", .thallus, 0x3380, [], false, .por, [⟨31, 0, .rw, []⟩]⟩,
  ⟨"TGEN_SRC", .thallus, 0x3840, [], false, .dev, [⟨31, 2, .rsvd, []⟩, ⟨1, 0, .rw, [0x3]⟩]⟩,
  ⟨"TGEN_SRC_STAT", .thallus, 0x3844, [], false, .dev, [⟨31, 4, .ro, []⟩, ⟨3, 3, .ro, []⟩, ⟨2, 2, .ro, [0x1]⟩, ⟨1, 0, .ro, [0x3]⟩]⟩,
  ⟨"TGEN_PHASE", .thallus, 0x3848, [], true, .dev, [⟨63, 0, .rw, []⟩]⟩]

/-- Registers of chapter 4, part 0. -/
def regRows04_0 : List RegRow := [
  ⟨"REJ_BOOT", .thallus, 0x6800, [], false, .por, [⟨31, 2, .rsvd, []⟩, ⟨1, 1, .rw, [0x1]⟩, ⟨0, 0, .rw, []⟩]⟩,
  ⟨"REJ_LOAD_STAT", .thallus, 0x6804, [], false, .dev, [⟨31, 24, .ro, []⟩, ⟨23, 16, .ro, []⟩, ⟨15, 4, .ro, []⟩, ⟨3, 2, .rsvd, []⟩, ⟨1, 0, .ro, [0x3]⟩]⟩,
  ⟨"REJ_LOAD_ERR_AT", .thallus, 0x6808, [], false, .dev, [⟨31, 0, .ro, []⟩]⟩,
  ⟨"REJ_LOAD_ID", .thallus, 0x680C, [], false, .dev, [⟨31, 0, .ro, []⟩]⟩,
  ⟨"REJ_GRAFT_CTL", .twin, 0xD0800, [], false, .twin, [⟨31, 3, .rsvd, []⟩, ⟨2, 2, .rw, []⟩, ⟨1, 1, .wo, []⟩, ⟨0, 0, .wo, []⟩]⟩,
  ⟨"REJ_GRAFT_TICK", .twin, 0xD0804, [], false, .twin, [⟨31, 0, .rw, []⟩]⟩,
  ⟨"REJ_GRAFT_OFS", .twin, 0xD0808, [], false, .twin, [⟨31, 30, .rsvd, []⟩, ⟨29, 6, .rw, []⟩, ⟨5, 0, .rsvd, []⟩]⟩,
  ⟨"REJ_GRAFT_STAT", .twin, 0xD080C, [], false, .twin, [⟨31, 24, .ro, []⟩, ⟨23, 20, .rsvd, []⟩, ⟨19, 19, .w1c, []⟩, ⟨18, 18, .w1c, []⟩, ⟨17, 17, .w1c, []⟩, ⟨16, 16, .rsvd, []⟩, ⟨15, 8, .ro, []⟩, ⟨7, 3, .rsvd, []⟩, ⟨2, 0, .ro, []⟩]⟩,
  ⟨"REJ_GRAFT_ERR_AT", .twin, 0xD0810, [], false, .twin, [⟨31, 0, .ro, []⟩]⟩,
  ⟨"REJ_GRAFT_APPLIED", .twin, 0xD0814, [], false, .twin, [⟨31, 0, .ro, [0xFFFFFFFF]⟩]⟩,
  ⟨"REJ_IMAGE", .twin, 0xD0818, [], false, .twin, [⟨31, 0, .ro, []⟩]⟩,
  ⟨"REJ_GRAFT_CNT", .twin, 0xD081C, [], false, .twin, [⟨31, 16, .rsvd, []⟩, ⟨15, 0, .ro, []⟩]⟩]

/-- Registers of chapter 5, part 0. -/
def regRows05_0 : List RegRow := [
  ⟨"NET_LINK", .twin, 0x30000, [(0x100, 4)], false, .twin, [⟨31, 6, .rsvd, []⟩, ⟨5, 4, .ro, []⟩, ⟨3, 3, .ro, []⟩, ⟨2, 2, .ro, []⟩, ⟨1, 1, .ro, []⟩, ⟨0, 0, .w1c, []⟩]⟩,
  ⟨"NET_RX_FRAMES", .twin, 0x30008, [(0x100, 4)], false, .ctx, [⟨31, 0, .rc, []⟩]⟩,
  ⟨"NET_RX_BYTES", .twin, 0x30010, [(0x100, 4)], true, .ctx, [⟨63, 0, .rc, []⟩]⟩,
  ⟨"NET_RX_ERR", .twin, 0x30018, [(0x100, 4)], false, .ctx, [⟨31, 16, .rc, []⟩, ⟨15, 0, .rc, []⟩]⟩,
  ⟨"NET_RX_DROP", .twin, 0x3001C, [(0x100, 4)], false, .ctx, [⟨31, 16, .rc, []⟩, ⟨15, 0, .rc, []⟩]⟩,
  ⟨"NET_RX_MISC", .twin, 0x30020, [(0x100, 4)], false, .ctx, [⟨31, 16, .rc, []⟩, ⟨15, 0, .rc, []⟩]⟩,
  ⟨"NET_TX_FRAMES", .twin, 0x30028, [(0x100, 4)], false, .ctx, [⟨31, 0, .rc, []⟩]⟩,
  ⟨"NET_TX_BYTES", .twin, 0x30030, [(0x100, 4)], true, .ctx, [⟨63, 0, .rc, []⟩]⟩,
  ⟨"NET_TX_TAIL", .twin, 0x30040, [(0x100, 4)], false, .ctx, [⟨31, 12, .rsvd, []⟩, ⟨11, 0, .rw, []⟩]⟩,
  ⟨"NET_TX_HEAD", .twin, 0x30044, [(0x100, 4)], false, .ctx, [⟨31, 12, .rsvd, []⟩, ⟨11, 0, .ro, []⟩]⟩,
  ⟨"NET_SLOWQ", .twin, 0x30400, [], false, .ctx, [⟨31, 31, .rw, [0x1]⟩, ⟨30, 17, .rsvd, []⟩, ⟨16, 16, .ro, []⟩, ⟨15, 6, .rsvd, []⟩, ⟨5, 0, .rw, [0x3F]⟩]⟩,
  ⟨"NET_RXFREE", .twin, 0x30404, [], false, .ctx, [⟨31, 16, .rsvd, []⟩, ⟨15, 0, .wo, []⟩]⟩]

/-- Registers of chapter 5, part 1. -/
def regRows05_1 : List RegRow := [
  ⟨"NET_POOL", .twin, 0x30408, [], false, .ctx, [⟨31, 16, .ro, [0x8000]⟩, ⟨15, 0, .rc, []⟩]⟩,
  ⟨"SACN_CNT_BAD", .twin, 0x30800, [], false, .ctx, [⟨31, 16, .rc, []⟩, ⟨15, 0, .rc, []⟩]⟩,
  ⟨"SACN_CNT_DUP", .twin, 0x30804, [], false, .ctx, [⟨31, 0, .rc, []⟩]⟩,
  ⟨"SACN_CNT_MISC", .twin, 0x30808, [], false, .ctx, [⟨31, 16, .rc, []⟩, ⟨15, 8, .rc, []⟩, ⟨7, 0, .rc, []⟩]⟩,
  ⟨"SACN_SEL", .twin, 0x30810, [], false, .ctx, [⟨31, 14, .rsvd, []⟩, ⟨13, 0, .rw, []⟩]⟩,
  ⟨"SACN_U_STAT", .twin, 0x30814, [], false, .twin, [⟨31, 26, .rsvd, []⟩, ⟨25, 16, .ro, []⟩, ⟨15, 8, .ro, []⟩, ⟨7, 6, .rsvd, []⟩, ⟨5, 5, .ro, []⟩, ⟨4, 4, .ro, []⟩, ⟨3, 3, .ro, []⟩, ⟨2, 0, .ro, []⟩]⟩,
  ⟨"SACN_U_TS", .twin, 0x30818, [], true, .twin, [⟨63, 40, .rsvd, []⟩, ⟨39, 34, .ro, []⟩, ⟨33, 32, .ro, []⟩, ⟨31, 0, .ro, []⟩]⟩,
  ⟨"SACN_U_PKTS", .twin, 0x30820, [], false, .twin, [⟨31, 0, .ro, []⟩]⟩,
  ⟨"ST_STAT", .twin, 0x30A00, [(0x20, 8)], false, .twin, [⟨31, 4, .rsvd, []⟩, ⟨3, 3, .ro, []⟩, ⟨2, 0, .ro, []⟩]⟩,
  ⟨"ST_RTP", .twin, 0x30A04, [(0x20, 8)], false, .twin, [⟨31, 0, .ro, []⟩]⟩,
  ⟨"ST_CNT_FRM", .twin, 0x30A08, [(0x20, 8)], false, .ctx, [⟨31, 16, .rc, []⟩, ⟨15, 0, .rc, []⟩]⟩,
  ⟨"ST_CNT_RATE", .twin, 0x30A0C, [(0x20, 8)], false, .ctx, [⟨31, 16, .rc, []⟩, ⟨15, 0, .rc, []⟩]⟩]

/-- Registers of chapter 5, part 2. -/
def regRows05_2 : List RegRow := [
  ⟨"ST_CNT_PKT", .twin, 0x30A10, [(0x20, 8)], false, .ctx, [⟨31, 16, .rc, []⟩, ⟨15, 0, .rc, []⟩]⟩,
  ⟨"ST_FRZ_TS", .twin, 0x30A18, [(0x20, 8)], true, .twin, [⟨63, 40, .rsvd, []⟩, ⟨39, 34, .ro, []⟩, ⟨33, 32, .ro, []⟩, ⟨31, 0, .ro, []⟩]⟩,
  ⟨"NWAKE_STAT", .thallus, 0x2800, [(0x4, 4)], false, .por, [⟨31, 16, .rsvd, []⟩, ⟨15, 8, .rc, []⟩, ⟨7, 7, .w1c, []⟩, ⟨6, 5, .rsvd, []⟩, ⟨4, 0, .ro, []⟩]⟩]

/-- Registers of chapter 6, part 0. -/
def regRows06_0 : List RegRow := [
  ⟨"LAYER_RELAY", .thallus, 0x40, [], false, .dev, [⟨31, 6, .rsvd, []⟩, ⟨5, 4, .wo, []⟩, ⟨3, 0, .wo, []⟩]⟩,
  ⟨"LAYER_CMT", .twin, 0x40000, [], false, .ctx, [⟨31, 16, .rsvd, []⟩, ⟨15, 0, .wo, []⟩]⟩,
  ⟨"LAYER_PEND", .twin, 0x40004, [], false, .ctx, [⟨31, 16, .ro, []⟩, ⟨15, 0, .ro, []⟩]⟩,
  ⟨"LAYER_LATE_TS", .twin, 0x40008, [], true, .ctx, [⟨63, 40, .rsvd, []⟩, ⟨39, 34, .ro, []⟩, ⟨33, 32, .ro, []⟩, ⟨31, 0, .ro, []⟩]⟩,
  ⟨"LAYER_LATE_TICK", .twin, 0x40010, [], false, .ctx, [⟨31, 0, .ro, [0xFFFFFFFF]⟩]⟩,
  ⟨"LAYER_GUARD", .twin, 0x40014, [], false, .twin, [⟨31, 0, .ro, [0x7D0]⟩]⟩,
  ⟨"LAYER_CNT", .twin, 0x40018, [], false, .ctx, [⟨31, 16, .rc, []⟩, ⟨15, 0, .rc, []⟩]⟩,
  ⟨"LAYER_DISCARD", .twin, 0x4001C, [], false, .ctx, [⟨31, 0, .rc, []⟩]⟩,
  ⟨"LAYER_BYTES", .twin, 0x40020, [], false, .twin, [⟨31, 0, .ro, []⟩]⟩,
  ⟨"LAYER_EVT_CTL", .twin, 0x40024, [], false, .ctx, [⟨31, 4, .rsvd, []⟩, ⟨3, 3, .rw, [0x1]⟩, ⟨2, 2, .rw, [0x1]⟩, ⟨1, 1, .rw, [0x1]⟩, ⟨0, 0, .rw, [0x1]⟩]⟩,
  ⟨"LAYER_CHG", .twin, 0x40040, [(0x4, 8)], false, .twin, [⟨31, 0, .ro, []⟩]⟩,
  ⟨"LAYER_SLOT", .twin, 0x40100, [(0x40, 16)], false, .ctx, [⟨31, 31, .rw, [0x1]⟩, ⟨30, 2, .rsvd, []⟩, ⟨1, 0, .rw, []⟩]⟩]

/-- Registers of chapter 6, part 1. -/
def regRows06_1 : List RegRow := [
  ⟨"LAYER_MODE", .twin, 0x40104, [(0x40, 16)], false, .ctx, [⟨31, 9, .rsvd, []⟩, ⟨8, 8, .rw, []⟩, ⟨7, 3, .rsvd, []⟩, ⟨2, 0, .rw, []⟩]⟩,
  ⟨"LAYER_OPACITY", .twin, 0x40108, [(0x40, 16)], false, .ctx, [⟨31, 16, .rsvd, []⟩, ⟨15, 0, .rw, []⟩]⟩,
  ⟨"LAYER_WIN_POS", .twin, 0x4010C, [(0x40, 16)], false, .ctx, [⟨31, 16, .rw, []⟩, ⟨15, 0, .rw, []⟩]⟩,
  ⟨"LAYER_WIN_SIZE", .twin, 0x40110, [(0x40, 16)], false, .ctx, [⟨31, 16, .rw, []⟩, ⟨15, 0, .rw, []⟩]⟩,
  ⟨"LAYER_LIVE_SLOT", .twin, 0x40120, [(0x40, 16)], false, .twin, [⟨31, 3, .rsvd, []⟩, ⟨2, 2, .ro, [0x1]⟩, ⟨1, 0, .ro, []⟩]⟩,
  ⟨"LAYER_LIVE_MODE", .twin, 0x40124, [(0x40, 16)], false, .twin, [⟨31, 9, .rsvd, []⟩, ⟨8, 8, .ro, []⟩, ⟨7, 3, .rsvd, []⟩, ⟨2, 0, .ro, []⟩]⟩,
  ⟨"LAYER_LIVE_OPACITY", .twin, 0x40128, [(0x40, 16)], false, .twin, [⟨31, 16, .rsvd, []⟩, ⟨15, 0, .ro, []⟩]⟩,
  ⟨"LAYER_LIVE_WIN_POS", .twin, 0x4012C, [(0x40, 16)], false, .twin, [⟨31, 16, .ro, []⟩, ⟨15, 0, .ro, []⟩]⟩,
  ⟨"LAYER_LIVE_WIN_SIZE", .twin, 0x40130, [(0x40, 16)], false, .twin, [⟨31, 16, .ro, []⟩, ⟨15, 0, .ro, []⟩]⟩,
  ⟨"LAYER_GEN01", .twin, 0x40134, [(0x40, 16)], false, .twin, [⟨31, 16, .ro, []⟩, ⟨15, 0, .ro, []⟩]⟩,
  ⟨"LAYER_GEN23", .twin, 0x40138, [(0x40, 16)], false, .twin, [⟨31, 16, .ro, []⟩, ⟨15, 0, .ro, []⟩]⟩,
  ⟨"LAYER_STAT", .twin, 0x4013C, [(0x40, 16)], false, .twin, [⟨31, 20, .rsvd, []⟩, ⟨19, 16, .w1c, []⟩, ⟨15, 8, .rsvd, []⟩, ⟨7, 7, .rsvd, []⟩, ⟨6, 4, .ro, []⟩, ⟨3, 3, .ro, []⟩, ⟨2, 2, .w1c, []⟩, ⟨1, 1, .w1c, []⟩, ⟨0, 0, .w1c, []⟩]⟩]

/-- Registers of chapter 7, part 0. -/
def regRows07_0 : List RegRow := [
  ⟨"MAP_USED", .twin, 0x50000, [], false, .twin, [⟨31, 23, .rsvd, []⟩, ⟨22, 0, .ro, []⟩]⟩,
  ⟨"MAP_FIXT_USED", .twin, 0x50004, [], false, .twin, [⟨31, 19, .rsvd, []⟩, ⟨18, 0, .ro, []⟩]⟩,
  ⟨"MAP_PATCH_USED", .twin, 0x50008, [], false, .twin, [⟨31, 21, .rsvd, []⟩, ⟨20, 0, .ro, []⟩]⟩,
  ⟨"MAP_OUT_USED", .twin, 0x5000C, [], false, .twin, [⟨31, 15, .rsvd, []⟩, ⟨14, 0, .ro, []⟩]⟩,
  ⟨"MAP_TIME", .twin, 0x50010, [], false, .twin, [⟨31, 16, .ro, []⟩, ⟨15, 0, .ro, []⟩]⟩,
  ⟨"MAP_RD_SEL", .twin, 0x50020, [], false, .ctx, [⟨31, 29, .rw, []⟩, ⟨28, 23, .rsvd, []⟩, ⟨22, 0, .rw, []⟩]⟩,
  ⟨"MAP_RD_DATA", .twin, 0x50100, [(0x4, 64)], false, .twin, [⟨31, 0, .ro, []⟩]⟩,
  ⟨"MAP_PORT_CHG", .twin, 0x50080, [(0x4, 4)], false, .twin, [⟨31, 0, .ro, []⟩]⟩,
  ⟨"MAP_PORT_LEN", .twin, 0x51000, [(0x4, 128)], false, .twin, [⟨31, 20, .rsvd, []⟩, ⟨19, 0, .ro, []⟩]⟩,
  ⟨"MAP_PORT_CRC", .twin, 0x51200, [(0x4, 128)], false, .twin, [⟨31, 0, .ro, []⟩]⟩]

/-- Registers of chapter 8, part 0. -/
def regRows08_0 : List RegRow := [
  ⟨"COLR_GM", .twin, 0x60000, [], false, .ctx, [⟨31, 16, .rsvd, []⟩, ⟨15, 0, .rw, []⟩]⟩,
  ⟨"COLR_FADER", .twin, 0x60004, [], false, .ctx, [⟨31, 8, .rsvd, []⟩, ⟨7, 0, .rw, []⟩]⟩,
  ⟨"COLR_CMT", .twin, 0x60008, [], false, .ctx, [⟨31, 1, .rsvd, []⟩, ⟨0, 0, .wo, []⟩]⟩,
  ⟨"COLR_LIVE_GM", .twin, 0x6000C, [], false, .twin, [⟨31, 16, .rsvd, []⟩, ⟨15, 0, .ro, []⟩]⟩,
  ⟨"COLR_LIVE_FADER", .twin, 0x60010, [], false, .twin, [⟨31, 8, .rsvd, []⟩, ⟨7, 0, .ro, []⟩]⟩,
  ⟨"COLR_STAT", .twin, 0x60014, [], false, .ctx, [⟨31, 5, .rsvd, []⟩, ⟨4, 4, .ro, []⟩, ⟨3, 3, .ro, []⟩, ⟨2, 2, .rsvd, []⟩, ⟨1, 1, .w1c, []⟩, ⟨0, 0, .w1c, []⟩]⟩,
  ⟨"COLR_LATE_TS", .twin, 0x60018, [], true, .ctx, [⟨63, 40, .rsvd, []⟩, ⟨39, 34, .ro, []⟩, ⟨33, 32, .ro, []⟩, ⟨31, 0, .ro, []⟩]⟩,
  ⟨"COLR_LATE_TICK", .twin, 0x60020, [], false, .ctx, [⟨31, 0, .ro, [0xFFFFFFFF]⟩]⟩,
  ⟨"COLR_CLIP", .twin, 0x60024, [], false, .ctx, [⟨31, 16, .rc, []⟩, ⟨15, 0, .rc, []⟩]⟩,
  ⟨"COLR_EVT_CTL", .twin, 0x60028, [], false, .ctx, [⟨31, 4, .rsvd, []⟩, ⟨3, 3, .rw, [0x1]⟩, ⟨2, 2, .rw, [0x1]⟩, ⟨1, 1, .rw, [0x1]⟩, ⟨0, 0, .rw, [0x1]⟩]⟩,
  ⟨"COLR_ZONE_CFG", .twin, 0x60030, [], false, .ctx, [⟨31, 16, .rw, [0x550]⟩, ⟨15, 12, .rsvd, []⟩, ⟨11, 8, .rw, [0x8]⟩, ⟨7, 3, .rsvd, []⟩, ⟨2, 0, .rw, [0x2]⟩]⟩,
  ⟨"COLR_ZONE_THETA", .twin, 0x60034, [], false, .ctx, [⟨31, 16, .rsvd, []⟩, ⟨15, 0, .rw, []⟩]⟩]

/-- Registers of chapter 8, part 1. -/
def regRows08_1 : List RegRow := [
  ⟨"COLR_ZONE_SEL", .twin, 0x60040, [], false, .ctx, [⟨31, 12, .rsvd, []⟩, ⟨11, 0, .rw, []⟩]⟩,
  ⟨"COLR_ZONE_STAT", .twin, 0x60044, [], false, .twin, [⟨31, 16, .ro, []⟩, ⟨15, 5, .ro, []⟩, ⟨4, 4, .ro, []⟩, ⟨3, 3, .ro, []⟩, ⟨2, 0, .ro, []⟩]⟩,
  ⟨"COLR_ZONE_AGE", .twin, 0x60048, [], false, .twin, [⟨31, 0, .ro, [0xFFFFFFFF]⟩]⟩,
  ⟨"COLR_ZONE_FORCE", .twin, 0x6004C, [], false, .ctx, [⟨31, 31, .wo, []⟩, ⟨30, 16, .rsvd, []⟩, ⟨15, 0, .wo, []⟩]⟩,
  ⟨"COLR_GRP_LVL", .twin, 0x60400, [(0x4, 256)], false, .ctx, [⟨31, 16, .rsvd, []⟩, ⟨15, 0, .rw, [0xFFFF]⟩]⟩,
  ⟨"COLR_GRP_SRC", .twin, 0x60800, [(0x4, 256)], false, .ctx, [⟨31, 30, .rw, []⟩, ⟨29, 16, .rw, []⟩, ⟨15, 9, .rsvd, []⟩, ⟨8, 0, .rw, []⟩]⟩,
  ⟨"COLR_LIVE_GRP", .twin, 0x60C00, [(0x4, 256)], false, .twin, [⟨31, 18, .rsvd, []⟩, ⟨17, 16, .ro, []⟩, ⟨15, 0, .ro, [0xFFFF]⟩]⟩]

/-- Registers of chapter 9, part 0. -/
def regRows09_0 : List RegRow := [
  ⟨"CURV_CFG", .twin, 0x70000, [], false, .ctx, [⟨31, 9, .rsvd, []⟩, ⟨8, 8, .rw, [0x1]⟩, ⟨7, 0, .rw, [0x10]⟩]⟩,
  ⟨"CURV_COUNT", .twin, 0x70004, [], false, .twin, [⟨31, 24, .ro, []⟩, ⟨23, 16, .ro, [0xFC]⟩, ⟨15, 8, .ro, []⟩, ⟨7, 0, .ro, []⟩]⟩,
  ⟨"CURV_SEL", .twin, 0x70008, [], false, .ctx, [⟨31, 8, .rsvd, []⟩, ⟨7, 0, .rw, []⟩]⟩,
  ⟨"CURV_INFO", .twin, 0x7000C, [], false, .twin, [⟨31, 16, .ro, []⟩, ⟨15, 5, .rsvd, []⟩, ⟨4, 4, .ro, []⟩, ⟨3, 3, .rsvd, []⟩, ⟨2, 0, .ro, [0x4]⟩]⟩,
  ⟨"CURV_CRC", .twin, 0x70010, [], false, .twin, [⟨31, 0, .ro, []⟩]⟩,
  ⟨"CURV_PT_SEL", .twin, 0x70014, [], false, .ctx, [⟨31, 19, .rsvd, []⟩, ⟨18, 16, .rw, []⟩, ⟨15, 10, .rsvd, []⟩, ⟨9, 0, .rw, []⟩]⟩,
  ⟨"CURV_PT_DATA", .twin, 0x70018, [], false, .twin, [⟨31, 31, .ro, []⟩, ⟨30, 20, .rsvd, []⟩, ⟨19, 0, .ro, []⟩]⟩,
  ⟨"CURV_SCRUB", .twin, 0x7001C, [], false, .ctx, [⟨31, 16, .rc, []⟩, ⟨15, 0, .rc, []⟩]⟩,
  ⟨"CURV_PASS", .twin, 0x70020, [], false, .twin, [⟨31, 0, .ro, []⟩]⟩,
  ⟨"CURV_EVT_CTL", .twin, 0x70024, [], false, .ctx, [⟨31, 3, .rsvd, []⟩, ⟨2, 2, .rw, [0x1]⟩, ⟨1, 1, .rw, [0x1]⟩, ⟨0, 0, .rw, [0x1]⟩]⟩,
  ⟨"CURV_AVAIL", .twin, 0x70040, [(0x4, 8)], false, .twin, [⟨31, 0, .ro, [0xFFFFFFF0, 0xFFFFFFFF, 0xFFFFFFFF, 0xFFFFFFFF, 0xFFFFFFFF, 0xFFFFFFFF, 0xFFFFFFFF, 0xFFFFFFFF]⟩]⟩]

/-- Registers of chapter 10, part 0. -/
def regRows10_0 : List RegRow := [
  ⟨"STRD_CTL", .twin, 0x80000, [(0x100, 128)], false, .ctx, [⟨31, 2, .rsvd, []⟩, ⟨1, 1, .wo, []⟩, ⟨0, 0, .wo, []⟩]⟩,
  ⟨"STRD_PSTAT", .twin, 0x80004, [(0x100, 128)], false, .twin, [⟨31, 8, .rsvd, []⟩, ⟨7, 7, .ro, []⟩, ⟨6, 6, .ro, []⟩, ⟨5, 5, .ro, []⟩, ⟨4, 4, .ro, []⟩, ⟨3, 3, .rsvd, []⟩, ⟨2, 0, .ro, []⟩]⟩,
  ⟨"STRD_NODES", .twin, 0x80008, [(0x100, 128)], false, .twin, [⟨31, 29, .rsvd, []⟩, ⟨28, 16, .ro, []⟩, ⟨15, 13, .rsvd, []⟩, ⟨12, 0, .ro, []⟩]⟩,
  ⟨"STRD_DELAY", .twin, 0x8000C, [(0x100, 128)], false, .twin, [⟨31, 16, .ro, []⟩, ⟨15, 0, .ro, []⟩]⟩,
  ⟨"STRD_TURN", .twin, 0x80010, [(0x100, 128)], false, .twin, [⟨31, 16, .rsvd, []⟩, ⟨15, 0, .ro, []⟩]⟩,
  ⟨"STRD_STATIC", .twin, 0x80014, [(0x100, 128)], false, .twin, [⟨31, 16, .ro, []⟩, ⟨15, 0, .ro, []⟩]⟩,
  ⟨"STRD_TX_CNT", .twin, 0x80018, [(0x100, 128)], false, .ctx, [⟨31, 16, .rc, []⟩, ⟨15, 0, .rc, []⟩]⟩,
  ⟨"STRD_CFG_CNT", .twin, 0x8001C, [(0x100, 128)], false, .ctx, [⟨31, 16, .rc, []⟩, ⟨15, 0, .rc, []⟩]⟩,
  ⟨"STRD_UP_ERR", .twin, 0x80020, [(0x100, 128)], false, .ctx, [⟨31, 16, .rc, []⟩, ⟨15, 0, .rc, []⟩]⟩,
  ⟨"STRD_NODE_ERR", .twin, 0x80024, [(0x100, 128)], false, .ctx, [⟨31, 16, .rc, []⟩, ⟨15, 0, .rc, []⟩]⟩,
  ⟨"STRD_POLL", .twin, 0x80028, [(0x100, 128)], false, .twin, [⟨31, 28, .rsvd, []⟩, ⟨27, 16, .ro, []⟩, ⟨15, 12, .rsvd, []⟩, ⟨11, 0, .ro, []⟩]⟩,
  ⟨"STRD_EVT_CTL", .twin, 0x8002C, [(0x100, 128)], false, .ctx, [⟨31, 5, .rsvd, []⟩, ⟨4, 4, .rw, [0x1]⟩, ⟨3, 3, .rw, [0x1]⟩, ⟨2, 2, .rw, [0x1]⟩, ⟨1, 1, .rw, [0x1]⟩, ⟨0, 0, .rw, [0x1]⟩]⟩]

/-- Registers of chapter 10, part 1. -/
def regRows10_1 : List RegRow := [
  ⟨"STRD_ENUM_TS", .twin, 0x80030, [(0x100, 128)], true, .twin, [⟨63, 40, .rsvd, []⟩, ⟨39, 34, .ro, []⟩, ⟨33, 32, .ro, []⟩, ⟨31, 0, .ro, []⟩]⟩]

/-- Registers of chapter 11, part 0. -/
def regRows11_0 : List RegRow := [
  ⟨"STRD_WCTL", .twin, 0x80080, [(0x100, 128)], false, .ctx, [⟨31, 1, .rsvd, []⟩, ⟨0, 0, .wo, []⟩]⟩,
  ⟨"STRD_WSTAT", .twin, 0x80084, [(0x100, 128)], false, .twin, [⟨31, 26, .rsvd, []⟩, ⟨25, 16, .ro, []⟩, ⟨15, 8, .ro, []⟩, ⟨7, 7, .ro, []⟩, ⟨6, 6, .ro, []⟩, ⟨5, 5, .ro, []⟩, ⟨4, 3, .rsvd, []⟩, ⟨2, 0, .ro, []⟩]⟩,
  ⟨"STRD_WTIME", .twin, 0x80088, [(0x100, 128)], false, .twin, [⟨31, 22, .rsvd, []⟩, ⟨21, 0, .ro, []⟩]⟩,
  ⟨"STRD_WTX_CNT", .twin, 0x80098, [(0x100, 128)], false, .ctx, [⟨31, 16, .rc, []⟩, ⟨15, 0, .rc, []⟩]⟩,
  ⟨"STRD_WMISS", .twin, 0x8009C, [(0x100, 128)], false, .ctx, [⟨31, 16, .rsvd, []⟩, ⟨15, 0, .rc, []⟩]⟩,
  ⟨"STRD_RDM_CNT", .twin, 0x800A0, [(0x100, 128)], false, .ctx, [⟨31, 24, .rc, []⟩, ⟨23, 16, .rc, []⟩, ⟨15, 0, .rc, []⟩]⟩,
  ⟨"STRD_RDM_OK", .twin, 0x800A4, [(0x100, 128)], false, .ctx, [⟨31, 16, .rc, []⟩, ⟨15, 0, .rc, []⟩]⟩,
  ⟨"STRD_WEVT_CTL", .twin, 0x800AC, [(0x100, 128)], false, .ctx, [⟨31, 3, .rsvd, []⟩, ⟨2, 2, .rw, [0x1]⟩, ⟨1, 1, .rw, [0x1]⟩, ⟨0, 0, .rw, [0x1]⟩]⟩,
  ⟨"STRD_UID_SEL", .twin, 0x800C0, [(0x100, 128)], false, .ctx, [⟨31, 9, .rsvd, []⟩, ⟨8, 0, .rw, []⟩]⟩,
  ⟨"STRD_UID_LO", .twin, 0x800C4, [(0x100, 128)], false, .twin, [⟨31, 0, .ro, []⟩]⟩,
  ⟨"STRD_UID_HI", .twin, 0x800C8, [(0x100, 128)], false, .twin, [⟨31, 31, .ro, []⟩, ⟨30, 16, .rsvd, []⟩, ⟨15, 0, .ro, []⟩]⟩,
  ⟨"RDM_CFG", .twin, 0x8F000, [], false, .ctx, [⟨31, 9, .rsvd, []⟩, ⟨8, 8, .rw, [0x1]⟩, ⟨7, 6, .rsvd, []⟩, ⟨5, 0, .rw, [0x3E]⟩]⟩]

/-- Registers of chapter 11, part 1. -/
def regRows11_1 : List RegRow := [
  ⟨"RDM_UID_HI", .twin, 0x8F004, [], false, .dev, [⟨31, 16, .rsvd, []⟩, ⟨15, 0, .rw, []⟩]⟩,
  ⟨"RDM_UID_LO", .twin, 0x8F008, [], false, .dev, [⟨31, 0, .rw, []⟩]⟩,
  ⟨"RDM_SUBMIT", .twin, 0x8F00C, [], false, .ctx, [⟨31, 16, .wo, []⟩, ⟨15, 14, .rsvd, []⟩, ⟨13, 8, .wo, []⟩, ⟨7, 7, .rsvd, []⟩, ⟨6, 0, .wo, []⟩]⟩,
  ⟨"RDM_STAT", .twin, 0x8F010, [], false, .ctx, [⟨31, 16, .rsvd, []⟩, ⟨15, 8, .ro, []⟩, ⟨7, 1, .rsvd, []⟩, ⟨0, 0, .w1c, []⟩]⟩,
  ⟨"SACN_TX_CFG", .twin, 0x30C00, [], false, .ctx, [⟨31, 24, .rw, [0x10]⟩, ⟨23, 18, .rw, []⟩, ⟨17, 17, .rsvd, []⟩, ⟨16, 8, .rw, [0xA]⟩, ⟨7, 0, .rw, [0x50]⟩]⟩,
  ⟨"SACN_TX_CID", .twin, 0x30C10, [(0x4, 4)], false, .dev, [⟨31, 0, .rw, []⟩]⟩,
  ⟨"SACN_TX_NAME", .twin, 0x30C20, [(0x4, 16)], false, .dev, [⟨31, 0, .rw, []⟩]⟩,
  ⟨"SACN_TX_CNT", .twin, 0x30C60, [], false, .ctx, [⟨31, 16, .rc, []⟩, ⟨15, 0, .rc, []⟩]⟩,
  ⟨"SACN_TX_PKTS", .twin, 0x30C64, [], false, .ctx, [⟨31, 0, .rc, []⟩]⟩]

/-- Registers of chapter 12, part 0. -/
def regRows12_0 : List RegRow := [
  ⟨"HLTH_CFG", .twin, 0x8E000, [], false, .ctx, [⟨31, 16, .rw, [0x12C]⟩, ⟨15, 4, .rsvd, []⟩, ⟨3, 0, .rw, [0x2]⟩]⟩,
  ⟨"HLTH_SEL", .twin, 0x8E004, [], false, .ctx, [⟨31, 30, .rsvd, []⟩, ⟨29, 24, .rw, []⟩, ⟨23, 18, .rsvd, []⟩, ⟨17, 0, .rw, []⟩]⟩,
  ⟨"HLTH_CH", .twin, 0x8E008, [], false, .twin, [⟨31, 16, .ro, []⟩, ⟨15, 12, .ro, []⟩, ⟨11, 5, .rsvd, []⟩, ⟨4, 4, .ro, []⟩, ⟨3, 3, .ro, []⟩, ⟨2, 2, .ro, []⟩, ⟨1, 0, .ro, []⟩]⟩,
  ⟨"HLTH_SUM", .twin, 0x8E00C, [], false, .twin, [⟨31, 19, .rsvd, []⟩, ⟨18, 0, .ro, []⟩]⟩,
  ⟨"HLTH_BLIND_SUM", .twin, 0x8E010, [], false, .twin, [⟨31, 24, .rsvd, []⟩, ⟨23, 0, .ro, []⟩]⟩,
  ⟨"HLTH_CNT_FLT", .twin, 0x8E014, [], false, .ctx, [⟨31, 16, .rc, []⟩, ⟨15, 0, .rc, []⟩]⟩,
  ⟨"HLTH_CNT_DIAG", .twin, 0x8E018, [], false, .ctx, [⟨31, 16, .rc, []⟩, ⟨15, 0, .rc, []⟩]⟩,
  ⟨"HLTH_CNT_MISS", .twin, 0x8E01C, [], false, .ctx, [⟨31, 24, .rc, []⟩, ⟨23, 16, .rc, []⟩, ⟨15, 0, .rc, []⟩]⟩,
  ⟨"HLTH_DATA", .twin, 0x8E020, [(0x4, 8)], false, .twin, [⟨31, 0, .ro, []⟩]⟩,
  ⟨"HLTH_POST_VAL", .twin, 0x8E040, [], false, .ctx, [⟨31, 0, .rw, []⟩]⟩,
  ⟨"HLTH_POST", .twin, 0x8E044, [], false, .ctx, [⟨31, 28, .wo, []⟩, ⟨27, 25, .rsvd, []⟩, ⟨24, 24, .wo, []⟩, ⟨23, 18, .rsvd, []⟩, ⟨17, 0, .wo, []⟩]⟩,
  ⟨"HLTH_EVT_CTL", .twin, 0x8E048, [], false, .ctx, [⟨31, 5, .rsvd, []⟩, ⟨4, 4, .rw, [0x1]⟩, ⟨3, 3, .rw, [0x1]⟩, ⟨2, 2, .rw, [0x1]⟩, ⟨1, 1, .rw, [0x1]⟩, ⟨0, 0, .rw, [0x1]⟩]⟩]

/-- Registers of chapter 13, part 0. -/
def regRows13_0 : List RegRow := [
  ⟨"PERI_CFG", .thallus, 0x1000, [], false, .dev, [⟨31, 24, .rw, [0x96]⟩, ⟨23, 10, .rsvd, []⟩, ⟨9, 9, .rw, []⟩, ⟨8, 8, .rw, []⟩, ⟨7, 2, .rsvd, []⟩, ⟨1, 0, .ro, []⟩]⟩,
  ⟨"PERI_IMG", .thallus, 0x1004, [], false, .dev, [⟨31, 16, .ro, []⟩, ⟨15, 0, .ro, []⟩]⟩,
  ⟨"PERI_HEALTH_A", .thallus, 0x1008, [], false, .dev, [⟨31, 12, .rsvd, []⟩, ⟨11, 0, .w1c, []⟩]⟩,
  ⟨"PERI_HEALTH_B", .thallus, 0x100C, [], false, .dev, [⟨31, 12, .rsvd, []⟩, ⟨11, 0, .w1c, []⟩]⟩,
  ⟨"PERI_STAT", .thallus, 0x1010, [], false, .dev, [⟨31, 16, .ro, []⟩, ⟨15, 12, .rsvd, []⟩, ⟨11, 9, .ro, []⟩, ⟨8, 8, .ro, []⟩, ⟨7, 5, .rsvd, []⟩, ⟨4, 4, .ro, []⟩, ⟨3, 1, .rsvd, []⟩, ⟨0, 0, .ro, []⟩]⟩,
  ⟨"PERI_CNT", .thallus, 0x1014, [], false, .dev, [⟨31, 16, .rc, []⟩, ⟨15, 8, .rc, []⟩, ⟨7, 0, .rc, []⟩]⟩,
  ⟨"PERI_UNCMP", .thallus, 0x1018, [], false, .dev, [⟨31, 0, .rc, []⟩]⟩,
  ⟨"PERI_SLIP", .thallus, 0x101C, [], false, .dev, [⟨31, 16, .rc, []⟩, ⟨15, 0, .rc, []⟩]⟩,
  ⟨"PERI_DIG_TICK", .thallus, 0x1020, [], false, .dev, [⟨31, 0, .ro, [0xFFFFFFFF]⟩]⟩,
  ⟨"PERI_DIG_STAT", .thallus, 0x1024, [], false, .dev, [⟨31, 2, .rsvd, []⟩, ⟨1, 1, .w1c, []⟩, ⟨0, 0, .ro, []⟩]⟩,
  ⟨"PERI_DIG_A", .thallus, 0x1028, [], true, .dev, [⟨63, 0, .ro, []⟩]⟩,
  ⟨"PERI_DIG_B", .thallus, 0x1030, [], true, .dev, [⟨63, 0, .ro, []⟩]⟩]

/-- Registers of chapter 13, part 1. -/
def regRows13_1 : List RegRow := [
  ⟨"PERI_ARB_TS", .thallus, 0x1040, [], true, .dev, [⟨63, 40, .rsvd, []⟩, ⟨39, 34, .ro, []⟩, ⟨33, 32, .ro, []⟩, ⟨31, 0, .ro, []⟩]⟩,
  ⟨"PERI_ARB_INFO", .thallus, 0x1048, [], false, .dev, [⟨31, 20, .ro, []⟩, ⟨19, 17, .ro, []⟩, ⟨16, 16, .ro, []⟩, ⟨15, 8, .ro, []⟩, ⟨7, 0, .ro, []⟩]⟩,
  ⟨"PERI_ARB_CRC_A", .thallus, 0x104C, [], false, .dev, [⟨31, 0, .ro, []⟩]⟩,
  ⟨"PERI_ARB_CRC_B", .thallus, 0x1050, [], false, .dev, [⟨31, 0, .ro, []⟩]⟩,
  ⟨"PERI_ARB_FLAGS", .thallus, 0x1054, [], false, .dev, [⟨31, 28, .rsvd, []⟩, ⟨27, 16, .ro, []⟩, ⟨15, 12, .rsvd, []⟩, ⟨11, 0, .ro, []⟩]⟩,
  ⟨"PERI_ARB_DEC_TS", .thallus, 0x1058, [], true, .dev, [⟨63, 40, .rsvd, []⟩, ⟨39, 34, .ro, []⟩, ⟨33, 32, .ro, []⟩, ⟨31, 0, .ro, []⟩]⟩,
  ⟨"PERI_RESYNC", .thallus, 0x1060, [], false, .dev, [⟨31, 28, .rsvd, []⟩, ⟨27, 26, .ro, []⟩, ⟨25, 25, .ro, []⟩, ⟨24, 0, .ro, []⟩]⟩,
  ⟨"PERI_RESYNC_TOTAL", .thallus, 0x1064, [], false, .dev, [⟨31, 25, .rsvd, []⟩, ⟨24, 0, .ro, []⟩]⟩,
  ⟨"TWIN_FAULT", .twin, 0x8, [], false, .twin, [⟨31, 1, .rsvd, []⟩, ⟨0, 0, .w1s, []⟩]⟩,
  ⟨"TWIN_DIGEST", .twin, 0x10, [], true, .twin, [⟨63, 0, .ro, []⟩]⟩]

/-- Registers of chapter 14, part 0. -/
def regRows14_0 : List RegRow := [
  ⟨"SORUS_CFG", .twin, 0x90000, [], false, .twin, [⟨31, 31, .rw, []⟩, ⟨30, 6, .rsvd, []⟩, ⟨5, 0, .rw, []⟩]⟩,
  ⟨"SORUS_CNT", .twin, 0x90004, [], false, .ctx, [⟨31, 16, .rc, []⟩, ⟨15, 0, .rc, []⟩]⟩,
  ⟨"SORUS_ERR", .twin, 0x90008, [], false, .ctx, [⟨31, 24, .rc, []⟩, ⟨23, 16, .rc, []⟩, ⟨15, 8, .rc, []⟩, ⟨7, 0, .rc, []⟩]⟩,
  ⟨"SORUS_EVT_CTL", .twin, 0x9000C, [], false, .ctx, [⟨31, 4, .rsvd, []⟩, ⟨3, 3, .rw, [0x1]⟩, ⟨2, 2, .rw, [0x1]⟩, ⟨1, 1, .rw, [0x1]⟩, ⟨0, 0, .rw, [0x1]⟩]⟩,
  ⟨"SORUS_PUSH", .twin, 0x90100, [], false, .ctx, [⟨31, 24, .wo, []⟩, ⟨23, 16, .wo, []⟩, ⟨15, 15, .wo, []⟩, ⟨14, 14, .wo, []⟩, ⟨13, 13, .wo, []⟩, ⟨12, 12, .wo, []⟩, ⟨11, 8, .wo, []⟩, ⟨7, 7, .wo, []⟩, ⟨6, 6, .rsvd, []⟩, ⟨5, 0, .wo, []⟩]⟩,
  ⟨"SORUS_PUSH_STAT", .twin, 0x90104, [], false, .ctx, [⟨31, 26, .rsvd, []⟩, ⟨25, 16, .ro, []⟩, ⟨15, 4, .rsvd, []⟩, ⟨3, 1, .ro, []⟩, ⟨0, 0, .ro, []⟩]⟩,
  ⟨"SORUS_REL", .twin, 0x90108, [], false, .ctx, [⟨31, 24, .wo, []⟩, ⟨23, 16, .wo, []⟩, ⟨15, 15, .wo, []⟩, ⟨14, 12, .rsvd, []⟩, ⟨11, 6, .wo, []⟩, ⟨5, 0, .rsvd, []⟩]⟩,
  ⟨"SORUS_REL_SEQ", .twin, 0x9010C, [], false, .ctx, [⟨31, 10, .rsvd, []⟩, ⟨9, 0, .rw, []⟩]⟩,
  ⟨"SORUS_CMD", .twin, 0x90110, [], false, .ctx, [⟨31, 9, .rsvd, []⟩, ⟨8, 8, .wo, []⟩, ⟨7, 7, .wo, []⟩, ⟨6, 6, .rsvd, []⟩, ⟨5, 0, .wo, []⟩]⟩,
  ⟨"SORUS_CAUSE", .twin, 0x90114, [], false, .ctx, [⟨31, 5, .rsvd, []⟩, ⟨4, 4, .w1c, []⟩, ⟨3, 3, .w1c, []⟩, ⟨2, 2, .w1c, []⟩, ⟨1, 1, .ro, []⟩, ⟨0, 0, .w1c, []⟩]⟩,
  ⟨"SORUS_CUR", .twin, 0x90118, [], true, .ctx, [⟨63, 0, .ro, []⟩]⟩,
  ⟨"SORUS_PBODY", .twin, 0x90140, [(0x8, 8)], true, .ctx, [⟨63, 0, .rw, []⟩]⟩]

/-- Registers of chapter 14, part 1. -/
def regRows14_1 : List RegRow := [
  ⟨"SORUS_DBODY", .twin, 0x90180, [(0x8, 8)], true, .ctx, [⟨63, 0, .ro, []⟩]⟩,
  ⟨"SORUS_POP", .twin, 0x90400, [(0x8, 64)], true, .ctx, [⟨63, 0, .ro, []⟩]⟩,
  ⟨"SORUS_QSTAT", .twin, 0x91000, [(0x20, 64)], false, .ctx, [⟨31, 20, .rsvd, []⟩, ⟨19, 19, .ro, []⟩, ⟨18, 18, .ro, []⟩, ⟨17, 17, .ro, [0x1]⟩, ⟨16, 0, .ro, []⟩]⟩,
  ⟨"SORUS_QCTL", .twin, 0x91004, [(0x20, 64)], false, .ctx, [⟨31, 1, .rsvd, []⟩, ⟨0, 0, .rw, [0x1]⟩]⟩,
  ⟨"SORUS_QCNT", .twin, 0x91008, [(0x20, 64)], false, .ctx, [⟨31, 16, .rc, []⟩, ⟨15, 0, .rc, []⟩]⟩,
  ⟨"SORUS_QPTR", .twin, 0x91010, [(0x20, 64)], true, .ctx, [⟨63, 49, .rsvd, []⟩, ⟨48, 32, .ro, []⟩, ⟨31, 17, .rsvd, []⟩, ⟨16, 0, .ro, []⟩]⟩,
  ⟨"SORUS_WIN_STAT", .twin, 0x92000, [(0x80, 64)], false, .ctx, [⟨31, 2, .rsvd, []⟩, ⟨1, 1, .w1c, []⟩, ⟨0, 0, .ro, [0x1]⟩]⟩,
  ⟨"SORUS_WIN_CMD", .twin, 0x92004, [(0x80, 64)], false, .ctx, [⟨31, 1, .rsvd, []⟩, ⟨0, 0, .wo, []⟩]⟩,
  ⟨"SORUS_WIN_HDR", .twin, 0x92008, [(0x80, 64)], true, .ctx, [⟨63, 0, .ro, []⟩]⟩,
  ⟨"SORUS_WIN_BODY", .twin, 0x92040, [(0x80, 64), (0x8, 8)], true, .ctx, [⟨63, 0, .ro, []⟩]⟩,
  ⟨"SORUS_FSTAT", .twin, 0x94000, [(0x8, 256)], false, .ctx, [⟨31, 31, .rsvd, []⟩, ⟨30, 20, .ro, []⟩, ⟨19, 10, .ro, []⟩, ⟨9, 0, .ro, []⟩]⟩,
  ⟨"SORUS_FCNT", .twin, 0x94004, [(0x8, 256)], false, .ctx, [⟨31, 16, .rc, []⟩, ⟨15, 0, .rc, []⟩]⟩]

/-- Registers of chapter 14, part 2. -/
def regRows14_2 : List RegRow := [
  ⟨"SORUS_CSTAT", .twin, 0x94800, [(0x4, 16)], false, .ctx, [⟨31, 21, .rsvd, []⟩, ⟨20, 16, .ro, []⟩, ⟨15, 14, .rsvd, []⟩, ⟨13, 8, .ro, []⟩, ⟨7, 4, .ro, []⟩, ⟨3, 2, .rsvd, []⟩, ⟨1, 0, .ro, []⟩]⟩]

/-- Registers of chapter 15, part 0. -/
def regRows15_0 : List RegRow := [
  ⟨"BANK_CTL", .twin, 0xA0000, [(0x8, 96)], false, .twin, [⟨31, 31, .wo, []⟩, ⟨30, 12, .rsvd, []⟩, ⟨11, 10, .rw, []⟩, ⟨9, 8, .rsvd, []⟩, ⟨7, 4, .rw, []⟩, ⟨3, 3, .rsvd, []⟩, ⟨2, 0, .rw, []⟩]⟩,
  ⟨"BANK_STAT", .twin, 0xA0004, [(0x8, 96)], false, .twin, [⟨31, 24, .rc, []⟩, ⟨23, 16, .ro, []⟩, ⟨15, 7, .rsvd, []⟩, ⟨6, 6, .ro, []⟩, ⟨5, 5, .ro, []⟩, ⟨4, 4, .ro, []⟩, ⟨3, 3, .rsvd, []⟩, ⟨2, 0, .ro, []⟩]⟩,
  ⟨"BANK_TEST_CFG", .twin, 0xA0400, [], false, .ctx, [⟨31, 31, .rw, [0x1]⟩, ⟨30, 20, .rsvd, []⟩, ⟨19, 16, .rw, [0x4]⟩, ⟨15, 0, .rw, [0x64]⟩]⟩,
  ⟨"BANK_TEST_CNT", .twin, 0xA0404, [], false, .ctx, [⟨31, 16, .rc, []⟩, ⟨15, 8, .rc, []⟩, ⟨7, 0, .rc, []⟩]⟩,
  ⟨"BANK_TEST_PASS", .twin, 0xA0408, [], false, .twin, [⟨31, 0, .ro, []⟩]⟩,
  ⟨"BANK_VIOL", .twin, 0xA0410, [], false, .ctx, [⟨31, 16, .rc, []⟩, ⟨15, 7, .rsvd, []⟩, ⟨6, 0, .ro, []⟩]⟩,
  ⟨"BANK_EVT_CTL", .twin, 0xA0414, [], false, .ctx, [⟨31, 5, .rsvd, []⟩, ⟨4, 4, .rw, [0x1]⟩, ⟨3, 3, .rw, [0x1]⟩, ⟨2, 2, .rw, [0x1]⟩, ⟨1, 1, .rw, []⟩, ⟨0, 0, .rw, [0x1]⟩]⟩,
  ⟨"LMEM_ECC", .twin, 0xA0420, [], false, .ctx, [⟨31, 16, .rc, []⟩, ⟨15, 0, .rc, []⟩]⟩,
  ⟨"DRAM_SCRUB", .twin, 0xA0480, [], false, .ctx, [⟨31, 31, .rw, [0x1]⟩, ⟨30, 16, .rsvd, []⟩, ⟨15, 0, .rw, [0x3C]⟩]⟩,
  ⟨"DRAM_SCRUB_POS", .twin, 0xA0484, [], false, .twin, [⟨31, 16, .ro, []⟩, ⟨15, 0, .ro, []⟩]⟩,
  ⟨"DRAM_ECC", .twin, 0xA0488, [], false, .ctx, [⟨31, 16, .rc, []⟩, ⟨15, 0, .rc, []⟩]⟩,
  ⟨"DRAM_UE_ADDR", .twin, 0xA0490, [], true, .twin, [⟨63, 43, .rsvd, []⟩, ⟨42, 40, .ro, []⟩, ⟨39, 35, .rsvd, []⟩, ⟨34, 0, .ro, []⟩]⟩]

/-- Registers of chapter 15, part 1. -/
def regRows15_1 : List RegRow := [
  ⟨"DRAM_UE_TS", .twin, 0xA0498, [], true, .twin, [⟨63, 40, .rsvd, []⟩, ⟨39, 34, .ro, []⟩, ⟨33, 32, .ro, []⟩, ⟨31, 0, .ro, []⟩]⟩]

/-- Registers of chapter 16, part 0. -/
def regRows16_0 : List RegRow := [
  ⟨"HOST_RELAY_ADDR", .thallus, 0x48, [], false, .dev, [⟨31, 0, .rw, []⟩]⟩,
  ⟨"HOST_RELAY_DATA", .thallus, 0x4C, [], false, .dev, [⟨31, 0, .wo, []⟩]⟩,
  ⟨"MBX_STAT", .thallus, 0x50, [], false, .dev, [⟨31, 16, .rsvd, []⟩, ⟨15, 8, .rc, []⟩, ⟨7, 2, .rsvd, []⟩, ⟨1, 1, .w1c, []⟩, ⟨0, 0, .w1c, []⟩]⟩,
  ⟨"MBX_COLL", .thallus, 0x54, [], false, .dev, [⟨31, 27, .rsvd, []⟩, ⟨26, 24, .ro, []⟩, ⟨23, 20, .rsvd, []⟩, ⟨19, 16, .ro, []⟩, ⟨15, 0, .ro, []⟩]⟩,
  ⟨"MGMT_CFG", .thallus, 0x5000, [], false, .por, [⟨31, 15, .rsvd, []⟩, ⟨14, 8, .ro, []⟩, ⟨7, 1, .rsvd, []⟩, ⟨0, 0, .rw, []⟩]⟩,
  ⟨"MGMT_STAT", .thallus, 0x5004, [], false, .por, [⟨31, 24, .rsvd, []⟩, ⟨23, 16, .rc, []⟩, ⟨15, 8, .rc, []⟩, ⟨7, 0, .rc, []⟩]⟩,
  ⟨"FLASH_CMD", .thallus, 0x6000, [(0x200, 2)], false, .dev, [⟨31, 28, .rsvd, []⟩, ⟨27, 0, .wo, []⟩]⟩,
  ⟨"FLASH_ADDR", .thallus, 0x6004, [(0x200, 2)], false, .dev, [⟨31, 0, .rw, []⟩]⟩,
  ⟨"FLASH_DST", .thallus, 0x6008, [(0x200, 2)], true, .dev, [⟨63, 35, .rsvd, []⟩, ⟨34, 0, .rw, []⟩]⟩,
  ⟨"FLASH_STAT", .thallus, 0x6010, [(0x200, 2)], false, .dev, [⟨31, 8, .rsvd, []⟩, ⟨7, 5, .ro, []⟩, ⟨4, 2, .rsvd, []⟩, ⟨1, 1, .w1c, []⟩, ⟨0, 0, .ro, []⟩]⟩,
  ⟨"FLASH_INFO", .thallus, 0x6400, [], false, .dev, [⟨31, 16, .rsvd, []⟩, ⟨15, 8, .ro, []⟩, ⟨7, 2, .rsvd, []⟩, ⟨1, 0, .ro, []⟩]⟩,
  ⟨"RZP_CFG", .thallus, 0x7000, [], false, .dev, [⟨31, 31, .rw, []⟩, ⟨30, 30, .rw, []⟩, ⟨29, 28, .rsvd, []⟩, ⟨27, 16, .rw, [0x96]⟩, ⟨15, 14, .rsvd, []⟩, ⟨13, 0, .rw, [0x64]⟩]⟩]

/-- Registers of chapter 16, part 1. -/
def regRows16_1 : List RegRow := [
  ⟨"RZP_MBX", .thallus, 0x7004, [], false, .dev, [⟨31, 17, .rw, []⟩, ⟨16, 1, .rsvd, []⟩, ⟨0, 0, .rw, []⟩]⟩,
  ⟨"RZP_IN", .thallus, 0x7008, [], false, .dev, [⟨31, 24, .rw, []⟩, ⟨23, 21, .rsvd, []⟩, ⟨20, 18, .rw, []⟩, ⟨17, 1, .rsvd, []⟩, ⟨0, 0, .rw, []⟩]⟩,
  ⟨"RZP_IN_TGT", .thallus, 0x700C, [], false, .dev, [⟨31, 10, .rsvd, []⟩, ⟨9, 0, .rw, []⟩]⟩,
  ⟨"RZP_CNT", .thallus, 0x7010, [], false, .dev, [⟨31, 16, .rc, []⟩, ⟨15, 8, .rc, []⟩, ⟨7, 0, .rc, []⟩]⟩,
  ⟨"RZP_SEM", .thallus, 0x7100, [(0x4, 32)], false, .ctx, [⟨31, 31, .ro, []⟩, ⟨30, 5, .rsvd, []⟩, ⟨4, 0, .ro, [0x1F]⟩]⟩,
  ⟨"BRDG_HWIN", .twin, 0xC0000, [], false, .ctx, [⟨31, 25, .rw, []⟩, ⟨24, 0, .rsvd, []⟩]⟩,
  ⟨"BRDG_STAT", .twin, 0xC0004, [], false, .twin, [⟨31, 9, .rsvd, []⟩, ⟨8, 8, .ro, []⟩, ⟨7, 6, .rsvd, []⟩, ⟨5, 0, .ro, []⟩]⟩,
  ⟨"BRDG_LINE", .twin, 0xC0008, [], false, .ctx, [⟨31, 24, .rw, []⟩, ⟨23, 16, .rw, []⟩, ⟨15, 8, .w1c, []⟩, ⟨7, 0, .ro, [0xFF]⟩]⟩,
  ⟨"BRDG_EVT_CTL", .twin, 0xC000C, [], false, .ctx, [⟨31, 5, .rsvd, []⟩, ⟨4, 4, .rw, [0x1]⟩, ⟨3, 3, .rw, [0x1]⟩, ⟨2, 2, .rw, [0x1]⟩, ⟨1, 1, .rw, [0x1]⟩, ⟨0, 0, .rw, [0x1]⟩]⟩,
  ⟨"BRDG_PF_BASE", .twin, 0xC0020, [(0x8, 8)], false, .ctx, [⟨31, 6, .rw, []⟩, ⟨5, 1, .rsvd, []⟩, ⟨0, 0, .rw, []⟩]⟩,
  ⟨"BRDG_PF_LIM", .twin, 0xC0024, [(0x8, 8)], false, .ctx, [⟨31, 6, .rw, []⟩, ⟨5, 0, .rsvd, []⟩]⟩,
  ⟨"BRDG_WLOG_STAT", .twin, 0xC0080, [], false, .twin, [⟨31, 24, .rsvd, []⟩, ⟨23, 16, .rc, []⟩, ⟨15, 0, .w1c, []⟩]⟩]

/-- Registers of chapter 16, part 2. -/
def regRows16_2 : List RegRow := [
  ⟨"CTL_KEY_SEL", .twin, 0xC0200, [], false, .twin, [⟨31, 31, .wo, []⟩, ⟨30, 12, .rsvd, []⟩, ⟨11, 8, .ro, []⟩, ⟨7, 6, .rsvd, []⟩, ⟨5, 4, .rw, []⟩, ⟨3, 3, .rsvd, []⟩, ⟨2, 0, .rw, []⟩]⟩,
  ⟨"CTL_KEY_DATA", .twin, 0xC0204, [], false, .twin, [⟨31, 0, .wo, []⟩]⟩,
  ⟨"CTL_STAT", .twin, 0xC0208, [], false, .ctx, [⟨31, 24, .rc, []⟩, ⟨23, 16, .rc, []⟩, ⟨15, 8, .rc, []⟩, ⟨7, 6, .rsvd, []⟩, ⟨5, 0, .ro, []⟩]⟩]

/-- Registers of chapter 17, part 0. -/
def regRows17_0 : List RegRow := [
  ⟨"PWR_CTL", .thallus, 0x2000, [], false, .dev, [⟨31, 16, .rsvd, []⟩, ⟨15, 8, .wo, []⟩, ⟨7, 5, .rsvd, []⟩, ⟨4, 4, .wo, []⟩, ⟨3, 3, .rsvd, []⟩, ⟨2, 0, .wo, []⟩]⟩,
  ⟨"PWR_STAT", .thallus, 0x2004, [], false, .dev, [⟨31, 31, .ro, []⟩, ⟨30, 30, .w1c, []⟩, ⟨29, 29, .ro, []⟩, ⟨28, 24, .rsvd, []⟩, ⟨23, 20, .ro, []⟩, ⟨19, 16, .ro, []⟩, ⟨15, 12, .ro, []⟩, ⟨11, 8, .rsvd, []⟩, ⟨7, 6, .ro, []⟩, ⟨5, 4, .ro, []⟩, ⟨3, 3, .rsvd, []⟩, ⟨2, 0, .ro, [0x1]⟩]⟩,
  ⟨"PWR_OPP", .thallus, 0x2008, [], false, .dev, [⟨31, 4, .rsvd, []⟩, ⟨3, 2, .rw, []⟩, ⟨1, 0, .rw, []⟩]⟩,
  ⟨"PWR_CFG", .thallus, 0x200C, [], false, .dev, [⟨31, 31, .rw, []⟩, ⟨30, 30, .rw, []⟩, ⟨29, 24, .rsvd, []⟩, ⟨23, 16, .rw, [0x8]⟩, ⟨15, 8, .rw, [0xA]⟩, ⟨7, 0, .rw, [0x32]⟩]⟩,
  ⟨"PWR_REFUSE", .thallus, 0x2010, [], false, .dev, [⟨31, 24, .ro, []⟩, ⟨23, 12, .rsvd, []⟩, ⟨11, 8, .ro, []⟩, ⟨7, 4, .rsvd, []⟩, ⟨3, 0, .ro, []⟩]⟩,
  ⟨"PWR_REQ_TS", .thallus, 0x2018, [], true, .dev, [⟨63, 40, .rsvd, []⟩, ⟨39, 34, .ro, []⟩, ⟨33, 32, .ro, [0x3]⟩, ⟨31, 0, .ro, []⟩]⟩,
  ⟨"PWR_REFUSE_TS", .thallus, 0x2020, [], true, .dev, [⟨63, 40, .rsvd, []⟩, ⟨39, 34, .ro, []⟩, ⟨33, 32, .ro, [0x3]⟩, ⟨31, 0, .ro, []⟩]⟩,
  ⟨"PWR_FAIL", .thallus, 0x2028, [], false, .dev, [⟨31, 9, .rsvd, []⟩, ⟨8, 8, .ro, []⟩, ⟨7, 4, .ro, []⟩, ⟨3, 2, .rsvd, []⟩, ⟨1, 0, .ro, []⟩]⟩,
  ⟨"PWR_BO", .thallus, 0x202C, [], false, .dev, [⟨31, 16, .rc, []⟩, ⟨15, 6, .rsvd, []⟩, ⟨5, 0, .w1c, []⟩]⟩,
  ⟨"PWR_BO_TS", .thallus, 0x2030, [], true, .dev, [⟨63, 40, .rsvd, []⟩, ⟨39, 34, .ro, []⟩, ⟨33, 32, .ro, [0x3]⟩, ⟨31, 0, .ro, []⟩]⟩,
  ⟨"PWR_MON_SEL", .thallus, 0x2038, [], false, .dev, [⟨31, 3, .rsvd, []⟩, ⟨2, 0, .rw, []⟩]⟩,
  ⟨"PWR_MON", .thallus, 0x203C, [], false, .dev, [⟨31, 16, .rc, [0xFFFF]⟩, ⟨15, 0, .ro, []⟩]⟩]

/-- Registers of chapter 17, part 1. -/
def regRows17_1 : List RegRow := [
  ⟨"PWR_ALARM", .thallus, 0x2040, [], true, .dev, [⟨63, 0, .rw, []⟩]⟩]

/-- Registers of chapter 18, part 0. -/
def regRows18_0 : List RegRow := [
  ⟨"BOOT_CTL", .thallus, 0x6820, [], false, .dev, [⟨31, 16, .rsvd, []⟩, ⟨15, 8, .wo, []⟩, ⟨7, 5, .rsvd, []⟩, ⟨4, 4, .wo, []⟩, ⟨3, 2, .wo, []⟩, ⟨1, 1, .wo, []⟩, ⟨0, 0, .wo, []⟩]⟩,
  ⟨"BOOT_VERIFY", .thallus, 0x6824, [], false, .dev, [⟨31, 3, .rsvd, []⟩, ⟨2, 0, .wo, []⟩]⟩,
  ⟨"BOOT_STAT", .thallus, 0x6828, [], false, .dev, [⟨31, 27, .ro, []⟩, ⟨26, 19, .ro, []⟩, ⟨18, 18, .ro, []⟩, ⟨17, 15, .ro, []⟩, ⟨14, 14, .ro, []⟩, ⟨13, 12, .ro, []⟩, ⟨11, 10, .ro, []⟩, ⟨9, 9, .w1c, []⟩, ⟨8, 8, .w1c, []⟩, ⟨7, 7, .ro, []⟩, ⟨6, 5, .ro, []⟩, ⟨4, 4, .ro, []⟩, ⟨3, 2, .ro, []⟩, ⟨1, 0, .rsvd, []⟩]⟩,
  ⟨"BOOT_CFG", .thallus, 0x682C, [], false, .dev, [⟨31, 16, .rsvd, []⟩, ⟨15, 0, .rw, [0x258]⟩]⟩,
  ⟨"BOOT_TRIAL", .thallus, 0x6830, [], false, .dev, [⟨31, 16, .ro, []⟩, ⟨15, 0, .ro, []⟩]⟩,
  ⟨"OTP_KEY_CMD", .thallus, 0x6838, [], false, .por, [⟨31, 16, .rsvd, []⟩, ⟨15, 8, .wo, []⟩, ⟨7, 4, .rsvd, []⟩, ⟨3, 2, .wo, []⟩, ⟨1, 0, .wo, []⟩]⟩,
  ⟨"OTP_KEY_STAT", .thallus, 0x683C, [], false, .por, [⟨31, 17, .rsvd, []⟩, ⟨16, 16, .w1c, []⟩, ⟨15, 0, .ro, []⟩]⟩,
  ⟨"UPD_FW_VER", .twin, 0xD0000, [], false, .twin, [⟨31, 0, .ro, []⟩]⟩,
  ⟨"UPD_STAT", .twin, 0xD0004, [], false, .twin, [⟨31, 16, .ro, []⟩, ⟨15, 3, .rsvd, []⟩, ⟨2, 2, .w1c, []⟩, ⟨1, 1, .ro, []⟩, ⟨0, 0, .ro, []⟩]⟩,
  ⟨"UPD_HEALTH_CONFIRM", .twin, 0xD0008, [], false, .twin, [⟨31, 0, .wo, []⟩]⟩,
  ⟨"UPD_PKG_CMD", .twin, 0xD0010, [], false, .ctx, [⟨31, 2, .rsvd, []⟩, ⟨1, 0, .wo, []⟩]⟩,
  ⟨"UPD_PKG_OFS", .twin, 0xD0014, [], false, .ctx, [⟨31, 30, .rsvd, []⟩, ⟨29, 6, .rw, []⟩, ⟨5, 0, .rsvd, []⟩]⟩]

/-- Registers of chapter 18, part 1. -/
def regRows18_1 : List RegRow := [
  ⟨"UPD_PKG_STAT", .twin, 0xD0018, [], false, .ctx, [⟨31, 8, .ro, []⟩, ⟨7, 5, .rsvd, []⟩, ⟨4, 4, .w1c, []⟩, ⟨3, 2, .ro, []⟩, ⟨1, 0, .ro, []⟩]⟩]

/-- Registers of chapter 19, part 0. -/
def regRows19_0 : List RegRow := [
  ⟨"CAL_CFG", .thallus, 0x4000, [], false, .dev, [⟨31, 24, .rsvd, []⟩, ⟨23, 16, .rw, [0x4]⟩, ⟨15, 0, .rw, []⟩]⟩,
  ⟨"CAL_CMD", .thallus, 0x4004, [], false, .dev, [⟨31, 31, .wo, []⟩, ⟨30, 6, .rsvd, []⟩, ⟨5, 0, .wo, []⟩]⟩,
  ⟨"CAL_STAT", .thallus, 0x4008, [], false, .por, [⟨31, 31, .ro, []⟩, ⟨30, 30, .ro, []⟩, ⟨29, 29, .w1c, []⟩, ⟨28, 28, .w1c, []⟩, ⟨27, 6, .rsvd, []⟩, ⟨5, 0, .ro, []⟩]⟩,
  ⟨"CAL_XREF", .thallus, 0x400C, [], false, .por, [⟨31, 24, .rsvd, []⟩, ⟨23, 0, .ro, []⟩]⟩,
  ⟨"CAL_SEL", .thallus, 0x4010, [], false, .dev, [⟨31, 6, .rsvd, []⟩, ⟨5, 0, .rw, []⟩]⟩,
  ⟨"CAL_UNIT_STAT", .thallus, 0x4014, [], false, .por, [⟨31, 16, .ro, []⟩, ⟨15, 5, .rsvd, []⟩, ⟨4, 4, .ro, [0x1]⟩, ⟨3, 3, .ro, []⟩, ⟨2, 2, .ro, []⟩, ⟨1, 1, .ro, []⟩, ⟨0, 0, .ro, []⟩]⟩,
  ⟨"CAL_LAST", .thallus, 0x4018, [], true, .por, [⟨63, 40, .rsvd, []⟩, ⟨39, 34, .ro, []⟩, ⟨33, 32, .ro, [0x3]⟩, ⟨31, 0, .ro, []⟩]⟩,
  ⟨"CAL_UNIT_DATA", .thallus, 0x4020, [], false, .por, [⟨31, 16, .ro, []⟩, ⟨15, 0, .ro, []⟩]⟩]

/-- Registers of chapter 20, part 0. -/
def regRows20_0 : List RegRow := [
  ⟨"EVT_ROUTE", .thallus, 0x16000, [(0x4, 256)], false, .dev, [⟨31, 31, .rw, []⟩, ⟨30, 30, .rw, [0x1]⟩, ⟨29, 28, .rsvd, []⟩, ⟨27, 24, .rw, []⟩, ⟨23, 8, .rsvd, []⟩, ⟨7, 0, .rw, []⟩]⟩,
  ⟨"EVT_PEND", .thallus, 0x16400, [(0x4, 8)], false, .ctx, [⟨31, 0, .w1c, []⟩]⟩,
  ⟨"EVT_PIN_CTL", .thallus, 0x16420, [], false, .dev, [⟨31, 8, .rsvd, []⟩, ⟨7, 4, .ro, []⟩, ⟨3, 0, .rw, [0xF]⟩]⟩,
  ⟨"EVT_LOG_HEAD", .thallus, 0x16430, [], false, .por, [⟨31, 0, .ro, []⟩]⟩,
  ⟨"EVT_LOG_TAIL", .thallus, 0x16434, [], false, .por, [⟨31, 0, .rw, []⟩]⟩,
  ⟨"EVT_LOG_STAT", .thallus, 0x16438, [], false, .por, [⟨31, 16, .rc, []⟩, ⟨15, 0, .rc, []⟩]⟩,
  ⟨"EVT_LOG_CTL", .thallus, 0x1643C, [], false, .por, [⟨31, 1, .rsvd, []⟩, ⟨0, 0, .rw, []⟩]⟩,
  ⟨"EVT_QROUTE", .twin, 0xB0000, [(0x4, 256)], false, .ctx, [⟨31, 8, .rsvd, []⟩, ⟨7, 7, .rw, []⟩, ⟨6, 6, .rsvd, []⟩, ⟨5, 0, .rw, []⟩]⟩,
  ⟨"EVT_TPEND", .twin, 0xB0400, [(0x4, 8)], false, .ctx, [⟨31, 0, .w1c, []⟩]⟩,
  ⟨"EVT_TSTAT", .twin, 0xB0420, [], false, .ctx, [⟨31, 16, .rsvd, []⟩, ⟨15, 0, .rc, []⟩]⟩,
  ⟨"EVT_SOFT", .twin, 0xB0424, [], false, .ctx, [⟨31, 0, .wo, []⟩]⟩]

/-- Every register of the spec. -/
def regTable : List RegRow :=
  regRows01_0 ++ regRows02_0 ++ regRows02_1 ++ regRows03_0 ++ regRows03_1 ++ regRows04_0 ++ regRows05_0 ++ regRows05_1 ++ regRows05_2 ++ regRows06_0 ++ regRows06_1 ++ regRows07_0 ++ regRows08_0 ++ regRows08_1 ++ regRows09_0 ++ regRows10_0 ++ regRows10_1 ++ regRows11_0 ++ regRows11_1 ++ regRows12_0 ++ regRows13_0 ++ regRows13_1 ++ regRows14_0 ++ regRows14_1 ++ regRows14_2 ++ regRows15_0 ++ regRows15_1 ++ regRows16_0 ++ regRows16_1 ++ regRows16_2 ++ regRows17_0 ++ regRows17_1 ++ regRows18_0 ++ regRows18_1 ++ regRows19_0 ++ regRows20_0

end Sys2Proof.Machine
end

