-- ==== Sys2Proof/Machine/RegLookup.lean ====
section
/-!
DEFINITION. Finding the register at a home address, its reset value and its reset domain (R7 to R11, Table 0-5).
-/
namespace Sys2Proof.Machine

/-- The index of the register of `row` that holds the word at offset `d` from its base, and which word of it (0 low, 1 high). -/
def RegRow.index? (row : RegRow) (d : Nat) : Option (Nat × Nat) :=
  let size := if row.wide then 8 else 4
  let word := fun r i => if r % 4 = 0 && r < size then some (i, r / 4) else none
  match row.strides with
  | [] => word d 0
  | [(s, c)] => if d / s < c then word (d % s) (d / s) else none
  | (s, c) :: (s', c') :: _ =>
    if d / s < c ∧ d % s / s' < c' then word (d % s % s') (d / s) else none

/-- The die and the offset of a home address. A banked copy of a requester's register lies a multiple of 2^32 above its offset. -/
def homeOf (a : Nat) : Die × Nat :=
  let x := a % 0x100000000
  if x < 0x01000000 then (.thallus, x) else (.twin, x % 0x10000000)

/-- The first row of a list that holds the word at a die's offset. -/
def findRow (die : Die) (off : Nat) : List RegRow → Option (RegRow × Nat × Nat)
  | [] => none
  | r :: rest =>
    if r.die = die ∧ r.base ≤ off then
      match r.index? (off - r.base) with
      | some (i, w) => some (r, i, w)
      | none => findRow die off rest
    else findRow die off rest

/-- The register at a home address: its row, its index and which word of it. -/
def rowAt (a : Nat) : Option (RegRow × Nat × Nat) :=
  findRow (homeOf a).1 (homeOf a).2 regTable

/-- The reset value of a field for an index. -/
def FieldRow.resetAt (f : FieldRow) (i : Nat) : Nat :=
  match f.reset with
  | [] => 0
  | [v] => v
  | vs => vs.getD i 0

/-- The events that Table 20-1 marks 'no log'. -/
def noLogEvents : List Nat := [23, 39, 86]

/-- The IRQ_N balls of Table 20-1: bit p for a `pin p` entry. -/
def defaultPins (n : Nat) : Nat :=
  if n ∈ [0, 1, 2, 3, 4, 6, 7, 8, 26, 57, 78, 80] then 1
  else if n ∈ [10, 11, 12, 14, 16, 25, 29] then 2
  else if n ∈ [17, 18, 19, 20, 28] then 4
  else if n ∈ [36, 37, 38, 40, 43, 47, 54] then 8
  else 0

/-- The reset value of EVT_ROUTEn: vector n, MSI-X enabled, and the log and pin routes of Table 20-1 (R510). -/
def routeReset (n : Nat) : Nat :=
  (if n ∈ noLogEvents then 0 else 2 ^ 31) + 2 ^ 30 + defaultPins n * 2 ^ 24 + n

/-- The reset value of one word of a register. -/
def RegRow.resetWord (r : RegRow) (i w : Nat) : Nat :=
  (r.fields.foldl (fun acc f => acc + f.resetAt i * 2 ^ f.lo) 0) / 2 ^ (32 * w) % 2 ^ 32

/-- The reset value of the word at a home address (R9): 0 where no register lies (R8). -/
def resetWord (a : Nat) : Word :=
  if 0x16000 ≤ a ∧ a < 0x16400 then BitVec.ofNat 32 (routeReset ((a - 0x16000) / 4))
  else if a = Reg.TWIN_ID .b then BitVec.ofNat 32 0x01284201
  else if a = Reg.OTP_KEY_STAT then 7
  else
    match rowAt a with
    | none => 0
    | some (r, i, w) => BitVec.ofNat 32 (r.resetWord i w)

/-- The reset domain of the word at a home address (Table 0-5). The registers of TB3 lie in POR where chapter 3 says so. -/
def domainOf (a : Nat) : Option Dom :=
  match rowAt a with
  | none => none
  | some (r, _, _) => if 0x3300 ≤ a ∧ a < 0x3400 then some .por else some r.dom

end Sys2Proof.Machine
end

