-- ==== Sys2Proof/Machine/State.lean ====
section
/-!
DEFINITION. The state of the block as plain data, its faults and refusals, and the state right after power-on.
Registers lie in `State.regs`, one entry for each word that differs from its reset value, keyed by its home address (`Reg.<name>`); bytes
lie in `State.mem`, keyed by the addresses of Machine/Ops.lean. What the spec names beside registers and bytes has a field of its own.
-/
namespace Sys2Proof.Machine

/-- Why a step can stop with a fault: no command of this block faults, since the spec gives every command an effect (R8, R25: an access
to nothing completes). -/
inductive Fault where
  /-- Raised by no command; kept so that the type has an inhabitant. Safe. -/
  | none
deriving DecidableEq, Repr

/-- Why a command is refused. -/
inductive Refusal where
  /-- A row of the table that has no meaning in the model; raised by exec alone. Safe: nothing is claimed of it. -/
  | notModelled (mnemonic : String)
deriving DecidableEq, Repr

/-- The roles of Table 13-1, with the codes of TWIN_ROLE.ROLE (R338). -/
inductive Role where
  | off | active | standby | resync | ready | isolated | diverged
deriving DecidableEq, Repr

/-- The one role state, held in the Thallus (R48). -/
structure Roles where
  a : Role
  b : Role
deriving DecidableEq, Repr

/-- What one ball of a strand port does (Table 11-1, R116, R528, R538): high-impedance, at electrical idle, on one of the Proren pairs, or one of
the single-ended functions. -/
inductive BallFn where
  | hiz
  | idle
  | down
  | up
  | tx
  | de (high : Bool)
  | rx
  | data
  | notData
  | clk
  | low
  | unused
deriving DecidableEq, Repr

/-- The form of the data that leaves on a DMX or pixel port: break, mark after break and mark between slots in µs (R298, R303); bit time and high
times in ns, INVERT, LSB_FIRST and DIFF (R312); CLK in 100 kHz, EDGE, INVERT and LSB_FIRST (R313). -/
inductive WireForm where
  | dmx (brk mab isl : Nat)
  | nrz (tBit t0h t1h : Nat) (invert lsb diff : Bool)
  | clocked (clk : Nat) (falling invert lsb : Bool)
deriving DecidableEq, Repr

/-- What leaves the part at its balls and interfaces in one command: the model's own record, emptied when a command begins. -/
inductive Out where
  /-- an MSI-X message of a vector for an event (R514); 256 for the messages held for a vector and sent as one (R419) -/
  | msix (vector event : Nat)
  /-- a value returned to a read -/
  | readData (v : Word)
  /-- an item header or body returned to a pop -/
  | header (v : BitVec 64)
  /-- bytes returned to a management or control-channel read -/
  | bytes (bs : List Byte)
  /-- a packet on a strand port: the instant of its SOP, whether the running disparity is positive there, and the bytes between SOP and EOP with
  their CRC (R268, R269) -/
  | strand (p at_ : Nat) (plus : Bool) (bytes : List Byte)
  /-- the WAKE pattern on a strand port (R289, R294) -/
  | wake (p at_ : Nat) (plus : Bool)
  /-- ABORT on a strand port: the packet in progress is abandoned (R268, Table 13-5) -/
  | abort (p at_ : Nat) (plus : Bool)
  /-- data of a DMX or pixel port, the instant at which it begins, and its form -/
  | wire (p at_ : Nat) (form : WireForm) (bytes : List Byte)
  /-- an Ethernet frame or its payload on a network port -/
  | net (n : Nat) (bytes : List Byte)
  /-- a membership report of the join engine on a port: family, version, source address, whether it carries the Router Alert option, and its group
  records (R149) -/
  | report (n : Nat) (v6 : Bool) (version : Nat) (src : List Byte) (alert : Bool) (records : List (Nat × List Byte × List (List Byte)))
  /-- an sACN frame on a network port (R316, R320): destination and source address of its Ethernet and of its IP header, TTL or hop limit, DSCP, and
  the bytes of its UDP datagram from port 5568 to port 5568 -/
  | sacn (n : Nat) (mac station dst src : List Byte) (ttl dscp : Nat) (bytes : List Byte)
  /-- a stream is cut at its held block and goes to the idle of Table 13-5, or resumes from a twin's ring (R357) -/
  | cut (stream at_ : Nat)
  | resume (stream at_ : Nat) (from_ : Twin)
  /-- an acknowledge or its absence on the management I2C -/
  | ack (b : Bool)
  /-- a far-bus transaction of the Rhizoid bridge -/
  | rz (kind addr data : Nat)
deriving DecidableEq, Repr

/-- Words latched and held for 64-bit registers (R7): `latch` is the requester's most recent access when that was a read of the low word
of the register at `addr`; `hold` is a high word waiting for its low word. -/
structure Latch where
  req : Requester
  addr : Nat
  word : Word
deriving DecidableEq, Repr

/-- One time base (R74): the exact count in units of 2^-40 ns at the raw instant `at_`, and the rate it runs at, relative to the raw
TCXO, in units of 2^-40. -/
structure TimeBase where
  count : Nat
  at_ : Nat
  rate : Int
  /-- how it ran before: raw instant, exact count and rate of each earlier stretch, the newest first, at most 64 -/
  past : List (Nat × Nat × Int)
  /-- last valid measurement: its offset in 1/16 ns and the raw instant at which it held -/
  last : Option (Int × Nat)
  /-- valid measurements, newest first, at most 64, with the servo rate after each (R87) -/
  hist : List (Int × Nat)
  rates : List Int
  /-- consecutive measurements within LOCK_THRESH in LOCKING -/
  inLock : Nat
  /-- consecutive rejections (R86) -/
  rejRun : Nat
  /-- qualifying measurements in HOLDOVER, newest first (R88) -/
  quals : List (Int × Nat)
  /-- rate the servo returns to when a slew ends -/
  servo : Int
  /-- raw instant at which the predicted offset reaches 0 in SLEWING -/
  slewEnd : Option Nat
  /-- raw instant at which HOLDOVER was entered -/
  holdAt : Nat
  /-- E19 has been raised in the present HOLDOVER -/
  warned : Bool
  /-- raw instant of the last valid measurement -/
  measAt : Nat
deriving DecidableEq, Repr

/-- LTC and word clock of TB2 (R82, R83). -/
structure ShowTime where
  lastFrame : Option Nat
  jamRun : Nat
  ltcAt : Nat
deriving DecidableEq, Repr

/-- A captured timing set (R54). -/
structure TimingSet where
  rate : Word
  permille : Nat
  lofs : Nat
  /-- raw instant of its arrival, and its arrival stamp (R54, R100) -/
  stamp : Nat
  arrival : Nat
deriving DecidableEq, Repr

/-- The instants of one tick (R51, R73): its number, its raw instant, the 64-bit counts of the four bases, the base it is locked to and
the timing in effect from it. -/
structure TickAt where
  k : Nat
  raw : Nat
  counts : List Nat
  base : Fin 4
  num : Nat
  den : Nat
  permille : Nat
  lofs : Nat
  /-- steps of the tick's base made before the tick -/
  steps : Int
  flags : Nat
deriving DecidableEq, Repr

/-- The tick generator (R49, R54, R92 to R97). -/
structure TickGen where
  /-- a tick has fallen since the last device reset -/
  ran : Bool
  /-- raw instant from which tick 0 may fall; none while no image is loaded (R94) -/
  arm : Option Nat
  /-- the base the tick is on -/
  base : Fin 4
  /-- 64-bit count of the base at which the next tick falls -/
  next : Nat
  pend : Option TimingSet
  /-- a software write of TGEN_PHASE waits for the next tick (R97) -/
  phaseWrite : Option (BitVec 64)
  /-- the tick's base has stepped since the last tick (R95), and the sum of the steps of the tick's base in ns -/
  stepped : Bool
  steps : Int
  /-- the compute deadline of the newest tick has passed -/
  dlDone : Bool
  /-- the number of the frame whose latch comes next, and whether the newest latch was deferred -/
  latchK : Nat
  /-- raw instant of tick 0 -/
  zeroAt : Nat
  /-- frame flags of the coming tick, of what has been done at its instant before it (Table 2-5) -/
  early : Nat
  cur : TickAt
  prev : TickAt
deriving DecidableEq, Repr

/-- A measurement chosen for a node (R331, R332): the fixture that the node carries, and the channels measured. -/
structure Pulse where
  port : Nat
  node : Nat
  fixture : Nat
  frame : Nat
  mask : List Nat
deriving DecidableEq, Repr

/-- A complete slice of a frame (R194): its key (a strand port, or 128 + an output universe entry), its bytes, the raw instant of its
completion, the drive of each emitter by map entry (R237), where probe words of PROREN24 begin with their W_P (R272), how
many channels are probed, and the nodes to be
measured (R331). -/
structure Slice where
  key : Nat
  bytes : List Byte
  done : Nat
  drives : List (Nat × List Nat)
  probes : List (Nat × Nat)
  probed : Nat
  pulses : List Pulse
deriving DecidableEq, Repr

/-- A frame in the accounts of one twin, until its record is written (R70, R72). Ports and universes are listed by slice key. -/
structure FrameAcct where
  k : Nat
  tick : TickAt
  /-- raw instant of the latch of the frame before it (R51), and the deferral's rest that delays S on a port (R361) -/
  before : Nat
  rest : List (Nat × Nat)
  /-- the first frame after a whole load, and the slices that a graft at this tick changes (R214) -/
  first : Bool
  touched : List Nat
  /-- level of each master group and whether it fell back (R229) -/
  groups : List (Nat × Bool)
  slices : List Slice
  patched : Option Nat
  /-- completed stripes and the change map (R191) -/
  stripes : List Nat
  changed : Nat
  /-- the compute deadline of the frame has passed -/
  closed : Bool
  dropped : Bool
  /-- a slice was dropped at the compute deadline (MAP_TIME.MAP_DONE), and an output missed its window -/
  mapDrop : Bool
  lateDrop : Bool
  /-- slices whose emission has been decided, those changed (R214), and Proren ports that sent data -/
  settled : List Nat
  chg : List Nat
  data : List Nat
  stale : List Nat
  holdPorts : List Nat
  slipPorts : List Nat
  /-- per network port, the raw instant from which the next sACN frame may start (R318); synchronisation addresses (R320): port, address,
  IPv6 -/
  pace : List (Nat × Nat)
  syncs : List (Nat × Nat × Bool)
  emitUse : Nat
  dropItems : Nat
  commitLate : Nat
  flags : Nat
  latchDefer : Nat
  latchStamp : Nat
  latchRaw : Option Nat
  staleRaised : Bool
  compRaised : Bool
  emitRaised : Bool
deriving DecidableEq, Repr

/-- Device control (chapter 1). -/
structure Dev where
  /-- power-on reset or RESET_N holds the part -/
  inReset : Bool
  /-- raw instant of the last reset release -/
  releasedAt : Nat
  /-- the 5 s of R18 have passed without an ACTIVE twin -/
  fiveSec : Bool
  /-- start sequences complete (R18) -/
  startA : Bool
  startB : Bool
  /-- a twin has been ACTIVE since the last device reset (R18) -/
  everActive : Bool
  /-- raw instant at which Twin B took ACTIVE as the first to complete after 5 s (R18) -/
  firstAt : Option Nat
  /-- a context reset is requested for the next tick (R31) -/
  ctxPend : Bool
  /-- raw instant at which the watchdog count reaches zero, while it runs (R45) -/
  wdogAt : Option Nat
  /-- from a reset until the first latch after it (R39), and the ports that were Proren before it -/
  resetHold : Bool
  wasProren : List Nat
  /-- the strand ports that have emitted a frame since this reset (R68) -/
  emitted : List Nat
  /-- the keepalive generator (R281): each port that it drives, the raw instant of its last HOLD there, and whether that was of the SAFE form -/
  gen : List (Nat × Nat × Bool)
  /-- the running disparity of each Proren line (R267): bit p is 1 for positive -/
  rd : BitVec 128
  /-- enumeration packets released to a port that the generator drives: port, first instant and end (R281) -/
  traffic : List (Nat × Nat × Nat)
  /-- RESET_N low since (R542) -/
  resetLowAt : Option Nat
  /-- a TAP instruction has taken the balls from the show (R545) -/
  tap : Nat
  /-- the level of TEST_EN, which the board ties to VSS (R528): no command moves it -/
  testEn : Bool
  /-- the ports that had a personality of 2 to 4 before a reset, with it (R39) -/
  wasWire : List (Nat × Nat)
  /-- ports at electrical idle since a graft changed their personality, with the raw instant at which that ends (R538) -/
  turning : List (Nat × Nat)
  /-- straps sampled at reset -/
  strap : Nat
  /-- the flash device that the board fits (R431): log2 of its bytes, 0 for none, and whether it gives xSPI Profile 1.0 -/
  flashLog2 : Nat
  flashFast : Bool
deriving DecidableEq, Repr

/-- What waits for a swap at the next tick (R37, R44, R47, R344, R352). -/
inductive SwapThen where
  /-- plain swap: the former ACTIVE twin becomes STANDBY-READY -/
  | ready
  /-- case 3 of R344 -/
  | resync
  /-- flag of R352 or ISO of R47: the former ACTIVE twin becomes ISOLATED -/
  | isolate
  /-- RST of R37 -/
  | reset
  /-- a restart of R482 or R488: the former ACTIVE twin restarts on its new slot -/
  | restart
deriving DecidableEq, Repr

/-- A swap due at the next tick, with the twin that was ACTIVE when it was accepted. Requests accepted for the same tick share it. -/
structure SwapDue where
  from_ : Twin
  then_ : SwapThen
  /-- refused with DEV_STAT.REFUSED when it is not possible at its tick -/
  byHost : Bool
deriving DecidableEq, Repr

/-- A block held by an arbitration (R353, R357). -/
structure Held where
  stream : Nat
  block : Nat
  cut : Nat
  back : Nat
  busy : Bool
deriving DecidableEq, Repr

/-- An arbitration pending (R353). -/
structure Arb where
  tm : Nat
  tdec : Nat
  /-- raw instant of tick k−1, from which a health bit counts -/
  since : Nat
  active : Twin
  held : List Held
deriving DecidableEq, Repr

/-- The covered state of each twin at a tick, as the digest takes it in (R342): none for a twin that forms no digest. -/
structure DigestSnap where
  k : Nat
  a : Option (List (Nat × Nat))
  b : Option (List (Nat × Nat))
deriving DecidableEq, Repr

/-- A block in a ring (R348): its number, what the twin delivered of it by its close, and whether it is held. -/
structure RingBlock where
  block : Nat
  side : BlockSide
  held : Bool
deriving DecidableEq, Repr

/-- The rings of 4 block buffers of a stream in the two twins (R348), the oldest first, and the raw instant at which the stream's
serialisers were paused. -/
structure Ring where
  a : List RingBlock
  b : List RingBlock
  paused : Option Nat
deriving DecidableEq, Repr

/-- The Peristome (chapter 13). -/
structure Peri where
  arb : Option Arb
  /-- resumption of held streams due at, and the streams (R357) -/
  resume : Option (Nat × List Held)
  /-- streams shifted since the previous latch: stream, D_s and cut instant (R358, R359) -/
  shifts : List (Nat × Nat × Nat)
  /-- streams that slip the present frame (R360) -/
  slips : List Nat
  slipRaised : Bool
  /-- no comparison until the other twin returns to STANDBY (R355) -/
  undecided : Bool
  /-- ports released without comparison (R62, R347): port, frame, and the raw instant at which its emission window starts -/
  lagging : List (Nat × Nat × Nat)
  /-- for each twin and health bit, the raw instant at which it was last set (R350); 0 is never -/
  setA : List (Nat × Nat)
  setB : List (Nat × Nat)
  /-- last heartbeats (R351) -/
  hbA : Nat
  hbB : Nat
  /-- health bits whose action at the next tick is due (R352) -/
  dueA : Nat
  dueB : Nat
  /-- MIRROR_MISS of the ACTIVE twin in the interval before the newest tick (R344) -/
  missPrev : Bool
  missNow : Bool
  /-- raw instant at which COPY ended, restarts in this resync, join tick number (R362, R364) -/
  copyEnd : Option Nat
  restarts : Nat
  joinTick : Option Nat
  joined : Bool
  /-- a block of the standby mismatched, or one of its health bits was set, since the last digest comparison (R363) -/
  dirty : Bool
  /-- a digest comparison waits for the arbitration (R356) -/
  digestWait : Option (Bool × Bool)
  /-- what the twins' digests of the newest tick cover, until they are compared (R342, R343) -/
  dig : Option DigestSnap
  /-- what the digests of PERI_DIG_A and PERI_DIG_B cover (R343) -/
  cmpA : Option (List (Nat × Nat))
  cmpB : Option (List (Nat × Nat))
  /-- what each twin's newest digest covers (TWIN_DIGEST) -/
  digA : Option (List (Nat × Nat))
  digB : Option (List (Nat × Nat))
  /-- a brown-out warning on a twin's rail since the newest tick (R352) -/
  boA : Bool
  boB : Bool
  /-- the free value that PERI_RESYNC_TOTAL shows (R362): its place in the sequence of free values -/
  total : Option Nat
  /-- Proren ports that the keepalive generator drives since no twin delivers their stream (R349) -/
  keepalive : List Nat
  /-- the ACTIVE twin took the role by a forced swap and has delivered no block since, and every strand port is parked for it (R44) -/
  forced : Bool
  parked : Bool
  /-- the rings of block buffers by stream (R348) -/
  rings : List (Nat × Ring)
  /-- the twin that was ACTIVE when its rail fell (R471), until a twin is ACTIVE again -/
  lost : Option Twin
deriving DecidableEq, Repr

/-- An item of Sorus (Tables 14-1 and 14-2); the body is its bytes. -/
structure Item where
  typ : Nat
  prio : Nat
  more : Bool
  dl : Bool
  flowed : Bool
  flow : Nat
  seq : Nat
  tick : Nat
  body : List Byte
deriving DecidableEq, Repr

/-- The state of a ring slot (R370, R382). -/
inductive SlotSt where
  | queued
  | popped
  | released (drop : Bool) (dst typ : Nat) (body : List Byte)
  | freed
deriving DecidableEq, Repr

/-- A ring slot between RD and WR: its item, who pushed it, the packet it belongs to (numbered by the requester's own count), whether
that packet is whole (R375), the requester to which the packet is open (R376), and the instant of its push (R373). -/
structure Slot where
  item : Item
  st : SlotSt
  by_ : Nat
  at_ : Nat
  pkt : Nat
  whole : Bool
  openTo : Option Nat
deriving DecidableEq, Repr

/-- One hardware queue (R369): the pointers, the slots from RD to WR, and its window (R379). -/
structure Queue where
  rd : Nat
  wr : Nat
  slots : List Slot
  winHdr : BitVec 64
deriving DecidableEq, Repr

/-- One ordered flow (R381). -/
structure Flow where
  nextSeq : Nat
  nextRel : Nat
  out : Nat
deriving DecidableEq, Repr

/-- An item on a core's stack (R384, R385, R390). -/
structure Running where
  q : Nat
  item : Item
  aborted : Bool
deriving DecidableEq, Repr

/-- Sorus of one twin: queues, flows and cores by number; an unlisted one is as after reset. -/
structure Sorus where
  queues : List (Nat × Queue)
  flows : List (Nat × Flow)
  cores : List (Nat × List Running)
  /-- packets under construction: (requester, queue, packet number, items so far) -/
  building : List (Nat × Nat × Nat × Nat)
  pktCount : Nat
deriving DecidableEq, Repr

/-- Once-per-interval marks of one twin's events: event number and the data given (R393, R515 and the like). -/
structure OnceMarks where
  seen : List (Nat × Nat)
deriving DecidableEq, Repr

/-- A bank in motion: a handover to be granted, with its clearing (R397), a power-state transition to its target, and a STATE write that
waits for the end of the transition (R401). -/
structure BankSt where
  moving : Bool
  clr : Bool
  target : Option Nat
  queued : Option Nat
  /-- the state before NAP (R403) -/
  saved : Option Nat
  /-- accesses of the new owner that wait for the grant (R397), oldest first: the byte address, and the word of a write -/
  held : List (Nat × Option Word)
deriving DecidableEq, Repr

/-- The background test (R405 to R408): the next window and bank, aborts in a row, the window borrowed with the raw instant at which
it ends, and the raw instant of the next window slot. -/
structure BankTest where
  win : Nat
  bank : Nat
  aborts : Nat
  cur : Option (Nat × Nat)
  until_ : Nat
  slotAt : Nat
deriving DecidableEq, Repr

/-- A NAP or DARK request (R456 to R459): its target, the raw instant from which the next attempt may begin at a tick, and the raw instant
at which the present step began. -/
structure SleepReq where
  target : Nat
  from_ : Nat
  stepAt : Nat
deriving DecidableEq, Repr

/-- An OPP change in progress (R454). -/
structure OppChange where
  old : Nat
  new : Nat
  since : Nat
deriving DecidableEq, Repr

/-- A wake from DARK in progress (R466): its source, the stage (1 PG_TM, 2 PLL, 3 PG_DRAM, 4 PG of the twins), whether a retry has been
used, and the twins whose rail has failed. -/
structure WakeSt where
  source : Nat
  stage : Nat
  retried : Bool
  /-- raw instant of the first timeout -/
  retryAt : Nat
  failA : Bool
  failB : Bool
deriving DecidableEq, Repr

/-- What the save area holds beside its validity (Table 17-5): the time bases, the registers, and the tick generator. -/
structure Saved where
  tb0 : TimeBase
  tb1 : TimeBase
  tb2 : TimeBase
  tg : TickGen
  regs : List (Nat × Word)
  before : Nat
deriving DecidableEq, Repr

/-- What waits in NAP for the end of the wake (R461). -/
inductive Deferred where
  | twinCtl (v : Word)
  | graftGo (via : Via)
deriving DecidableEq, Repr

/-- The power controller (chapter 17). -/
structure Power where
  /-- a RUN or DIM request and its arrival (R456) -/
  change : Option (Nat × Nat)
  sleep : Option SleepReq
  /-- strand ports taken by step 1: 0 no, 1 HOLD, 2 SAFE; the frame from which they return (R458) -/
  ports : Nat
  release : Option Nat
  opp : Option OppChange
  /-- an OPP write or change that waits for a tick: its arrival (R453) -/
  oppWait : Option Nat
  /-- setpoint on VSEL_TWA and VSEL_TWB (R452) -/
  vsel : Nat
  /-- state held before the sleep -/
  before : Nat
  /-- compute is stopped (step 6), until the first tick at or after a raw instant (R463) -/
  stopped : Bool
  resumeAt : Option Nat
  wake : Option WakeSt
  saved : Option Saved
  /-- the twin that was ACTIVE at the last entry to DARK (R162, R464) -/
  home : Twin
  /-- twin rails below their reset level (R471) -/
  offA : Bool
  offB : Bool
  deferred : List Deferred
deriving DecidableEq, Repr

/-- Values of an sACN source that wait for synchronisation (R150). -/
structure SacnPend where
  prio : Nat
  data : List Byte
  since : Nat
  force : Bool
deriving DecidableEq, Repr

/-- A tracked sACN source of a universe (R144 to R147): its CID, last accepted sequence number, priority, the TB3 count of its last accepted
packet, its slots and its pending copy. -/
structure SacnSrc where
  cid : Nat
  seq : Nat
  prio : Nat
  heard : Nat
  /-- its slots have entered the merge -/
  live : Bool
  data : List Byte
  pend : Option SacnPend
deriving DecidableEq, Repr

/-- An input universe (R58, R146, R147, R152): its sources and its fill and frozen copies. -/
structure Univ where
  srcs : List SacnSrc
  fill : List Byte
  frozen : List Byte
  lost : Bool
  syncLost : Bool
  stamp : Nat
  pkts : Nat
deriving DecidableEq, Repr

/-- An ST 2110-20 flow (R155 to R159): the frame being received, by RTP timestamp, the last 64 that ended, the next extended sequence
number, whether one is missing from the frame, the pixels received as (line, first, end), the buffers in their three parts, and what
READY holds. -/
structure StFlow where
  st : Nat
  cur : Option Nat
  ended : List Nat
  next : Option Nat
  gap : Bool
  cov : List (Nat × Nat × Nat)
  fill : Nat
  ready : Nat
  frozen : Nat
  readyNew : Bool
  readyRtp : Nat
  readyStamp : Nat
  doneAt : Nat
deriving DecidableEq, Repr

/-- A group record of a membership report (R149): its type, the group and its sources. -/
structure JoinRec where
  typ : Nat
  group : List Byte
  srcs : List (List Byte)
deriving DecidableEq, Repr

/-- A membership report that waits (R149): port, raw instant, family, and its records; none for the port's whole state. -/
structure Report where
  port : Nat
  due : Nat
  v6 : Bool
  /-- it answers a query -/
  answer : Bool
  records : Option (List JoinRec)
deriving DecidableEq, Repr

/-- Network ingest of one twin (chapter 5): universes and flows by entry, pool slots in use, reports that wait, until when an older querier is
present, by 2 × port + family, and the universes that became lost in this tick interval. -/
structure Net where
  univ : List (Nat × Univ)
  flows : List (Nat × StFlow)
  pool : List Nat
  reports : List Report
  older : List (Nat × Nat)
  lost : Nat
deriving DecidableEq, Repr

/-- The values that a captured set of a layer carries beside its slot (R183). -/
structure LayerVals where
  op : Nat
  filter : Bool
  opacity : Nat
  x : Nat
  y : Nat
  w : Nat
  h : Nat
deriving DecidableEq, Repr

/-- A pending set of a layer (R183, R186). -/
structure LayerSet where
  vals : Option LayerVals
  slot : Option Nat
deriving DecidableEq, Repr

/-- What a layer holds beside its registers (R174 to R186): CMT_GEN of each slot, whether a write increments GEN, the untorn latches as
(slot, GEN) with the newest first, the pending sets, the raw instant of the last latch, from which its slot is in use, and the clipped window
of the last frame as lines (first, end). -/
structure Layer where
  cmtGen : List Nat
  closed : List Bool
  untorn : List (Nat × Nat)
  next : Option LayerSet
  after : Option LayerSet
  useFrom : Option Nat
  lines : Option (Nat × Nat)
  /-- the layer's flow was WAITING at the newest tick (R164) -/
  waiting : Bool
deriving DecidableEq, Repr

/-- A commit write captured before tick 0 has been placed (R185): its raw instant, its arrival stamp, and its sets by layer. -/
structure EarlyCommit where
  at_ : Nat
  stamp : Nat
  sets : List (Nat × LayerSet)
deriving DecidableEq, Repr

/-- The layers of one twin: by number, the CRC of each stripe's last completed frame, the commits that missed the cutoff of the next tick,
whether every stripe counts as changed in the present frame, and the commits that wait for tick 0 to be placed. -/
structure Layers where
  layers : List (Nat × Layer)
  crcs : List (Nat × Nat)
  lateNext : Nat
  allChanged : Bool
  early : List EarlyCommit
deriving DecidableEq, Repr
/-- A captured set of masters (R231): the grand master, which a graft may discard (R233), the fader slot, and the registers of the groups
that differ from their reset values. -/
structure MasterSet where
  gm : Option Nat
  fader : Nat
  lvl : List (Nat × Nat)
  src : List (Nat × Nat)
deriving DecidableEq, Repr

/-- The masters of one twin (R228 to R233): the pending sets, the group registers in effect, and the sets captured before tick 0 has been placed,
each with its raw instant and its arrival stamp. -/
structure Masters where
  next : Option MasterSet
  after : Option MasterSet
  lvl : List (Nat × Nat)
  src : List (Nat × Nat)
  early : List (Nat × Nat × MasterSet)
deriving DecidableEq, Repr

/-- A thermal zone (Table 8-3, R237 to R243): temperatures in TEMP, `tf` in 1/4,096 °C, drives in 2^-20; ticks in its state, ticks since a
report, ρ in FRAC, and the temperature from which a ramp starts (none for FLOOR). -/
structure Zone where
  st : Nat
  tf : Option Int
  df : Int
  drep : Int
  age : Option Nat
  ticks : Nat
  rho : Nat
  tfrom : Option Int
  force : Int
  test : Int
  hot : Bool
  /-- its change at the coming tick has been made -/
  fresh : Bool
deriving DecidableEq, Repr

/-- The Curve Store of one twin beside its points (R251 to R263): slots covered by a CURVE section, slots being written, the point that the
scrubber reads next, and the count of EMPTY and SPARE slots when a slot last moved. -/
structure Curves where
  covered : List Nat
  writing : List Nat
  pos : Nat
  spare : Nat
  /-- the replicas that do not hold the point as it was written (R251, R262), by (slot · 1024 + point) · 8 + lane: the value that the replica
  holds, and whether its parity is good -/
  upset : List (Nat × Nat × Bool)
deriving DecidableEq, Repr

/-- A node of a Proren port (R286 to R290): address, round trip, one-way delays and the correction Σ in ns, the delay last sent to it, slots
failed in a row, and what its reply said. -/
structure Node where
  addr : Nat
  rt : Int
  d : Int
  u : Int
  sig : Int
  sent : Int
  fails : Nat
  lost : Bool
  kind : Nat
  chans : Nat
  trd : Nat
  tru : Nat
deriving DecidableEq, Repr

/-- An enumeration in progress (R289): its step (3 COUNT, 6 ECHO, 7 CFG), the raw instant at which the step's wait began, the COUNT replies
as (branch, HOP), the hub's own delays, the addresses with the start of their branch, still to be asked, nodes found, nodes without an
address, and whether it ends in fault. -/
structure EnumRun where
  step : Nat
  at_ : Nat
  counts : List (Nat × Nat)
  hub : Bool
  hubSig : Int
  todo : List (Nat × Nat)
  nodes : List Node
  orphans : Nat
  /-- the addresses that nodes took in step 5: base and end of each branch or chain (R289, R290) -/
  ranges : List (Nat × Nat)
  fault : Bool
deriving DecidableEq, Repr

/-- The POLL sent last on a port (R283, R284). -/
structure Poll where
  at_ : Nat
  first : Nat
  count : Nat
  ncount : Nat
  t0 : Nat
  targets : List Nat
deriving DecidableEq, Repr

/-- A Proren port of one twin (chapter 10): the counts of R279, a requested enumeration, the one in progress, the nodes, RT_MAX and D_MAX in
force (R288), the instant of a loss of lock, the newest POLL, the rotation of the refresh CFG, and nodes to which framed items or a delay
are outstanding (R292). -/
structure Strand where
  u : Nat
  v : Nat
  w : Nat
  enumReq : Bool
  run : Option EnumRun
  nodes : List Node
  orphans : Nat
  /-- the enumerated addresses: base and end of each branch or chain (R290) -/
  ranges : List (Nat × Nat)
  rtMax : Nat
  dMax : Nat
  lockLost : Option Nat
  poll : Option Poll
  targets : List Nat
  rot : Nat
  cfgDue : List (Nat × Nat)
  delayDue : List Nat
deriving DecidableEq, Repr

/-- A submitted RDM request (R305). -/
structure RdmReq where
  buf : Nat
  tag : Nat
deriving DecidableEq, Repr

/-- What an RDM transaction on the line is for: a request, or a discovery step. -/
inductive RdmJob where
  | request (r : RdmReq)
  | step
deriving DecidableEq, Repr

/-- An RDM transaction on the line (R304, R306): the raw instant of its end of request, whether it expects no response, and whether its
response is to be discarded (R310). -/
structure RdmRun where
  job : RdmJob
  ended : Nat
  broadcast : Bool
  discard : Bool
deriving DecidableEq, Repr

/-- Discovery (R309): the ranges still to be searched with the newest first, and the UID to be muted. -/
structure Disc where
  unmuted : Bool
  ranges : List (Nat × Nat)
  mute : Option Nat
deriving DecidableEq, Repr

/-- A DMX port of one twin (chapter 11): requests that enter at the next tick, the queue, the transaction on the line, discovery, the UID
table, the raw instant from which the line has been quiet, whose turn it is, and the TB3 count at which the discovery period began. -/
structure DmxPort where
  entering : List RdmReq
  queue : List RdmReq
  run : Option RdmRun
  disc : Option Disc
  uids : List Nat
  quiet : Nat
  stepTurn : Bool
  since : Nat
  /-- the raw instants between which DE is low: the controller listens for the response of the newest request (R296) -/
  hear : Option (Nat × Nat)
deriving DecidableEq, Repr

/-- sACN output of an output universe (R316, R319): sequence number, frames in a row in which it was sent, and frames since its packet. -/
structure SacnOut where
  seq : Nat
  run : Nat
  since : Nat
deriving DecidableEq, Repr

/-- A health entry (Table 12-2); masks as lists of channels in ascending order. -/
structure HealthEntry where
  state : Nat
  source : Nat
  temp : Nat
  vsup : Nat
  open_ : List Nat
  short : List Nat
  blind : List Nat
  lastTick : Nat
  crcErr : Nat
  fltCnt : Nat
  /-- raw instant of the tick in `lastTick` -/
  heardAt : Nat
deriving DecidableEq, Repr

/-- A channel under diagnosis (R329): confirmed state (0 UNSEEN, 1 OK, 2 OPEN, 3 SHORT), wait and pending counts. -/
structure Channel where
  st : Nat
  wait : Nat
  pend : Nat
deriving DecidableEq, Repr

/-- Fixture health of one twin (chapter 12): reports for the next tick in order, the table, the channels by fixture × 64 + channel, and the
measurements that wait for a result. -/
structure Health where
  /-- STATUS replies that wait for their tick (R286, R322): the raw instant of the EOP, the port, and the bytes -/
  statuses : List (Nat × Nat × List Byte)
  posts : List (Nat × Nat × Nat × Nat)
  entries : List (Nat × HealthEntry)
  chans : List (Nat × Channel)
  pulses : List Pulse
deriving DecidableEq, Repr

/-- A staged graft (R125): its bytes, the refusal that its check found (code, offset, directory index), the raw instant at which it became
ARMED, curve slots that were SPARE with their points (R259), the curve slots that it takes, each with the offset and the index of its
directory entry, and the raw instant at which it took them (R256). -/
structure Graft where
  bytes : List Byte
  bad : Option (Nat × Nat × Nat)
  armedAt : Option Nat
  slots : List (Nat × List Byte)
  takes : List (Nat × Nat × Nat)
  takenAt : Nat
deriving DecidableEq, Repr

/-- A posted write of a bridge (R440): the Rhizoid address, the word, who asked (0 to 15 a core, 16 the host), and whether it came through
the locked alias (R445). -/
structure RzWrite where
  addr : Nat
  data : Word
  req : Nat
  locked : Bool
deriving DecidableEq, Repr

/-- An outbound read that waits for the bus (R440, R445), how many earlier writes of the queue have not left, and the instant of its request. -/
structure RzRead where
  addr : Nat
  req : Nat
  locked : Bool
  after : Nat
  asked : Nat
deriving DecidableEq, Repr

/-- The bridge of one twin (R438 to R441): posted writes and waiting reads in order, and the block held for each prefetch range as
(range, address, raw instant of its fetch, words). -/
structure Bridge where
  writes : List RzWrite
  reads : List RzRead
  held : List (Nat × Nat × Nat × List Word)
deriving DecidableEq, Repr

/-- The outbound transaction on the Rhizoid bus (R435, R444): its command (Table 16-5), its first address, phases transferred with the
words read, the word written, who asked and whether through the locked alias, its reissues, the prefetch range that it fills with the address asked for, and whether it
waits for its reissue. -/
structure RzTxn where
  cmd : Nat
  addr : Nat
  got : List Word
  data : Word
  req : Nat
  locked : Bool
  retries : Nat
  range : Option (Nat × Nat)
  again : Bool
deriving DecidableEq, Repr

/-- The Rhizoid PHY and the semaphores (R437, R442, R443, R445): the transaction on the bus, the far initiator granted with the raw
instant, the one granted last, the lock as (core, raw instant of its address phase, address), the newest line sample, and what each core of the
ACTIVE twin last received, by 32 × core + semaphore. -/
structure Rhizoid where
  txn : Option RzTxn
  grant : Option (Nat × Nat)
  last : Nat
  lock : Option (Nat × Nat × Nat)
  level : Nat
  seen : List (Nat × Word)
deriving DecidableEq, Repr

/-- A session of the control channel (R447, R448): its port and number, key and nonce, the HELLO's stamp, the highest SEQ accepted, those
accepted below it, and the TB3 count of the last accepted message. -/
structure CtlSession where
  port : Nat
  num : Nat
  key : List Byte
  keyIx : Nat
  nonce : List Byte
  stamp : Nat
  high : Nat
  seen : List Nat
  heard : Nat
deriving DecidableEq, Repr

/-- The control channel of one twin (R447): key words by 8 × key + word, sessions, and sessions opened by port. -/
structure Control where
  words : List (Nat × Word)
  sessions : List CtlSession
  opened : List (Nat × Nat)
deriving DecidableEq, Repr

/-- The newest access of a mailbox port (R422, R423): its mailbox clock, the word, and for a write the value and what it replaced. -/
structure MbxAcc where
  clock : Nat
  word : Nat
  wrote : Option (Word × Word)
  src : Option Requester
deriving DecidableEq, Repr

/-- A flash command that waits or runs (R432, R433, R476, R479): its channel (2 for the Thallus's own), operation (7 is a verification of
the slot in `len`, 8 a boot record), operands and bytes. -/
structure FlashJob where
  ch : Nat
  op : Nat
  len : Nat
  addr : Nat
  dst : Nat
  bytes : List Byte
deriving DecidableEq, Repr

/-- The boot record in force (Table 18-2). -/
structure BootRec where
  seq : Nat
  slotA : Nat
  prevA : Nat
  slotB : Nat
  prevB : Nat
  trialA : Bool
  trialB : Bool
  held : Option Nat
deriving DecidableEq, Repr

/-- A calibrated unit (Tables of chapter 19): CAL_COUNT, CAL_LAST, its code (none for the factory code), the place of its reading in the
sequence of free values, and its marks. -/
structure CalUnit where
  count : Nat
  last : Nat
  code : Option Nat
  value : Option Nat
  fail : Bool
  stale : Bool
  deferred : Bool
  skipped : Bool
deriving DecidableEq, Repr

/-- The calibration engine (R497 to R508): the units still to be taken in the run in progress, whether it is a power-up run, how many have
been calibrated in it, whether a unit has been taken, the units of the pending run, runs in a row in which each twin was deferred, the TB3
count at the end of the last run, the units, ports of strand banks whose new codes wait (R505), as (port, code), units that the next run takes
again, and whether the unit in calibration is void (R504). -/
structure Cal where
  run : Option (List Nat)
  powerUp : Bool
  done : Nat
  busy : Bool
  pend : Option (List Nat)
  deferA : Nat
  deferB : Nat
  endAt : Nat
  units : List (Nat × CalUnit)
  apply : List (Nat × Nat)
  again : List Nat
  void : Bool
deriving DecidableEq, Repr

/-- What one twin holds beside its registers and bytes. -/
structure TwinState where
  frames : List FrameAcct
  sorus : Sorus
  once : OnceMarks
  masters : Masters
  zones : List (Nat × Zone)
  /-- forces and releases that wait for a tick (R241) -/
  forces : List (Nat × Option Int)
  curves : Curves
  /-- the last slice that reached the wire, by slice key (R69, R214) -/
  emitted : List (Nat × List Byte)
  /-- the drive that each map entry's emitters last emitted (R238) -/
  drives : List (Nat × List Nat)
  /-- the next frame is the first after a whole load; slices that a graft at the newest tick changed -/
  loadFirst : Bool
  touched : List Nat
  strands : List (Nat × Strand)
  dmx : List (Nat × DmxPort)
  sacnOut : List (Nat × SacnOut)
  /-- sequence numbers of synchronisation packets by address -/
  syncSeq : List (Nat × Nat)
  hlth : Health
  graft : Option Graft
  lay : Layers
  net : Net
  banks : List (Nat × BankSt)
  bankTest : BankTest
  /-- entries that a graft replaced, as (type, instance, index) and bytes, and the number of its tick: the frame before that tick is emitted
  under them until its latch (Table 4-23, R217) -/
  oldEnts : List ((Nat × Nat × Nat) × List Byte)
  oldTick : Nat
  bridge : Bridge
  ctl : Control
  /-- an accepted import that waits for its tick (R493), and the settings half in use (R489) -/
  pkg : Option (List Byte)
  setHalf : Option Nat
deriving DecidableEq, Repr

/-- What one log record says beside its place (Table 20-2): its stamp, event number, source, data, tick number, and whether no tick ran. -/
structure LogRec where
  stamp : Nat
  event : Nat
  source : Nat
  stopped : Bool
  data : Nat
  tick : Nat
deriving DecidableEq, Repr

/-- The log records of the newest clock that wrote one, in their order (R517): its instant, and whether a numbering begins with them. -/
structure LogClock where
  at_ : Nat
  first : Bool
  recs : List LogRec
deriving DecidableEq, Repr

/-- The committed show state of a twin that restarts in place, kept through its restart (R483). -/
structure Handover where
  w : Twin
  tw : TwinState
  regs : List (Nat × Word)
  mem : List Host.Cell
deriving DecidableEq, Repr

/-- Boot and update (chapter 18): the boot record, the raw instants at which each twin's trial count
began (R485) and at which its restart was released (R487), the twin that restarts after a swap (R482), an in-place restart that waits for
its tick as (twin, arrival), its handover record, and whether the rebuild is done (R483). -/
structure Boot where
  rec_ : BootRec
  trialA : Option Nat
  trialB : Option Nat
  startA : Option Nat
  startB : Option Nat
  afterSwap : Option Twin
  inPlace : Option (Twin × Nat)
  hand : Option Handover
  rebuilt : Bool
deriving DecidableEq, Repr

/-- The state of the block. -/
structure State where
  /-- commands waiting, first in, first out -/
  pending : List Instr
  /-- the present instant, in ns of the raw TCXO since power-on -/
  now : Nat
  /-- the model's own: free values taken so far -/
  free : Nat
  /-- the model's own: what left the part in the newest command -/
  out : List Out
  regs : List (Nat × Word)
  /-- the model's own: the registers at the beginning of the present clock, but for what software has cleared in it (R11) -/
  clock : List (Nat × Word)
  mem : List Host.Cell
  latches : List Latch
  holds : List Latch
  dev : Dev
  role : Roles
  swapDue : Option SwapDue
  tb0 : TimeBase
  tb1 : TimeBase
  tb2 : TimeBase
  tb3 : TimeBase
  show_ : ShowTime
  tg : TickGen
  peri : Peri
  a : TwinState
  b : TwinState
  /-- the next log record is the first after a reset or a wake from DARK (R516) -/
  logFirst : Bool
  /-- the model's own: the log records of the present clock (R517) -/
  logCycle : LogClock
  /-- events of the Thallus raised once in this tick interval (R472 and the like) -/
  once : OnceMarks
  /-- PCIe configuration bits (R417, R419): MSI-X Enable, Bus Master Enable, Function Mask -/
  msixEn : Bool
  bme : Bool
  funcMask : Bool
  /-- PERST_N is low (R544) -/
  perst : Bool
  /-- the Thallus main domain is off (DARK), and the events that wait for its return (R519) -/
  mainOff : Bool
  heldEvents : List (Nat × Nat)
  pwr : Power
  /-- strand ports whose next frame is forced full (R280): bit p -/
  fullDue : BitVec 128
  /-- flash commands in order, the running one first (R433) -/
  flash : List FlashJob
  boot : Boot
  rz : Rhizoid
  /-- the newest access of mailbox ports A and B -/
  mbxA : Option MbxAcc
  mbxB : Option MbxAcc
  cal : Cal
deriving DecidableEq, Repr

def TimeBase.reset : TimeBase :=
  { count := 0, at_ := 0, rate := 0, past := [], last := none, hist := [], rates := [], inLock := 0, rejRun := 0, quals := [], servo := 0,
    slewEnd := none, holdAt := 0, warned := false, measAt := 0 }

def TickAt.reset : TickAt :=
  { k := 0, raw := 0, counts := [0, 0, 0, 0], base := 3, num := 60, den := 1, permille := 600, lofs := 0, steps := 0, flags := 0 }

def TickGen.reset : TickGen :=
  { ran := false, arm := none, base := 3, next := 0, pend := none, phaseWrite := none, stepped := false, steps := 0, dlDone := false, latchK := 0, zeroAt := 0, early := 0,
    cur := TickAt.reset, prev := TickAt.reset }

def Peri.reset : Peri :=
  { arb := none, resume := none, shifts := [], slips := [], slipRaised := false, undecided := false, lagging := [], setA := [],
    setB := [], hbA := 0, hbB := 0, dueA := 0, dueB := 0, missPrev := false, missNow := false, copyEnd := none, restarts := 0,
    joinTick := none, joined := false, dirty := false, digestWait := none, dig := none, cmpA := none, cmpB := none, digA := none, digB := none,
    boA := false, boB := false, total := none, keepalive := [], forced := false, parked := false, rings := [], lost := none }

def Sorus.reset : Sorus := { queues := [], flows := [], cores := [], building := [], pktCount := 0 }

def Dev.reset : Dev :=
  { inReset := false, releasedAt := 0, fiveSec := false, startA := false, startB := false, everActive := false, firstAt := none, ctxPend := false, wdogAt := none,
    resetHold := false, wasProren := [], emitted := [], gen := [], rd := 0, traffic := [], resetLowAt := none, tap := 0, testEn := false, wasWire := [],
    turning := [], strap := 0, flashLog2 := 28, flashFast := true }
def Power.reset : Power :=
  { change := none, sleep := none, ports := 0, release := none, opp := none, oppWait := none, vsel := 0, before := 1,
    stopped := false, resumeAt := none, wake := none, saved := none, home := .a, offA := false, offB := false, deferred := [] }

def TwinState.reset : TwinState :=
  { frames := [], sorus := Sorus.reset, once := ⟨[]⟩,
    masters := ⟨none, none, [], [], []⟩, zones := [], forces := [], curves := ⟨[], [], 0, 252, []⟩, emitted := [], drives := [], loadFirst := false, touched := [], strands := [], dmx := [], sacnOut := [], syncSeq := [], hlth := ⟨[], [], [], [], []⟩, graft := none, lay := ⟨[], [], 0, true, []⟩, net := ⟨[], [], [], [], [], 0⟩, banks := [], bankTest := ⟨0, 0, 0, none, 0, 0⟩,
    oldEnts := [], oldTick := 0, bridge := ⟨[], [], []⟩, ctl := ⟨[], [], []⟩, pkg := none, setHalf := none }

def Boot.reset : Boot :=
  { rec_ := ⟨0, 0, 0, 0, 0, false, false, none⟩, trialA := none, trialB := none, startA := none, startB := none,
    afterSwap := none, inPlace := none, hand := none, rebuilt := false }

def Rhizoid.reset : Rhizoid := { txn := none, grant := none, last := 1, lock := none, level := 255, seen := [] }

def Cal.reset : Cal :=
  { run := none, powerUp := false, done := 0, busy := false, pend := none, deferA := 0, deferB := 0, endAt := 0, units := [], apply := [], again := [], void := false }

/-- The block right after a power-on reset, before the load of R121: every register at its reset value (Table 0-5), both twins OFF, no
image in effect, nothing in memory, no command waiting. -/
def State.reset : State :=
  { pending := [], now := 0, free := 0, out := [], regs := [], clock := [], mem := [], latches := [], holds := [], dev := Dev.reset,
    role := ⟨.off, .off⟩, swapDue := none, tb0 := TimeBase.reset, tb1 := TimeBase.reset, tb2 := TimeBase.reset,
    tb3 := TimeBase.reset, show_ := ⟨none, 0, 0⟩, tg := TickGen.reset, peri := Peri.reset, a := TwinState.reset,
    b := TwinState.reset, logFirst := true, logCycle := ⟨0, false, []⟩, once := ⟨[]⟩, msixEn := false, bme := false,
    funcMask := false, perst := false, mainOff := false, heldEvents := [],
    pwr := Power.reset, fullDue := 0, flash := [], boot := Boot.reset, rz := Rhizoid.reset, mbxA := none, mbxB := none,
    cal := Cal.reset }

end Sys2Proof.Machine
end

