-- ==== Sys2Proof/Machine/Ops.lean ====
section
/-!
DEFINITION. The named operations over registers, bytes, time, roles and latches that every meaning uses.
-/
namespace Sys2Proof.Machine

/-! ### Sparse tables in one canonical form -/

/-- The value of key `i`: an unlisted key reads as `d`. -/
def Smap.get {α : Type} (d : α) : List (Nat × α) → Nat → α
  | [], _ => d
  | (j, v) :: rest, i => if i = j then v else if i < j then d else Smap.get d rest i

/-- Writes key `i`. Keys stay strictly rising, and writing the value `d` of an unlisted key removes the entry. -/
def Smap.set {α : Type} [DecidableEq α] (d : α) : List (Nat × α) → Nat → α → List (Nat × α)
  | [], i, v => if v = d then [] else [(i, v)]
  | (j, w) :: rest, i, v =>
    if i = j then (if v = d then rest else (i, v) :: rest)
    else if i < j then (if v = d then (j, w) :: rest else (i, v) :: (j, w) :: rest)
    else (j, w) :: Smap.set d rest i v

/-- The canonical form: every key above `lo`, strictly rising, and no entry equal to what the key reads as unlisted. -/
def Smap.above {α : Type} [DecidableEq α] (d : Nat → α) : Option Nat → List (Nat × α) → Bool
  | _, [] => true
  | lo, (j, v) :: rest =>
    (match lo with | none => true | some l => decide (l < j)) && decide (v ≠ d j) && Smap.above d (some j) rest

/-- The canonical form of a sparse table. -/
def Smap.wf {α : Type} [DecidableEq α] (d : Nat → α) (m : List (Nat × α)) : Bool := Smap.above d none m

/-! ### Bytes -/

/-- Address spaces in `State.mem`. BAR0 bytes lie at their BAR0 address (Table 1-4). -/
def Addr.dram (w : Twin) (off : Nat) : Nat := (match w with | .a => 0x1000000000 | .b => 0x2000000000) + off

/-- Boot flash and far flash, channel `ch` (R431). -/
def Addr.flash (ch off : Nat) : Nat := 0x10000000000 + ch * 0x100000000 + off

/-- Thallus OTP: byte `i` of the key of a slot (R478). -/
def Addr.otp (slot i : Nat) : Nat := 0x20000000000 + slot * 256 + i

/-- The image in effect in a twin: entry bytes of section `ty`, instance `inst` (Table 4-4). A twin's sections span less than 2^42. -/
def Addr.img (w : Twin) (ty inst off : Nat) : Nat :=
  0x100000000000 + (match w with | .a => 0 | .b => 0x40000000000) + (ty * 16 + inst) * 0x400000000 + off

/-- The bytes that a twin's image in effect may take. -/
def Addr.imgSpan : Nat := 0x40000000000

/-- Internal bytes of a twin that no aperture shows, by block and offset. -/
def Addr.inner (w : Twin) (blk off : Nat) : Nat :=
  0x1000000000000 + (match w with | .a => 0 | .b => 0x100000000000) + blk * 0x100000000 + off

/-- What an unlisted byte reads as: erased flash reads 0xFF, the mask bit of an MSI-X table entry 1 (R417, the PCIe default), every other
byte 0 (DESIGN CHOICE, notes/assumptions/4.md). -/
def memDefault (a : Nat) : Byte :=
  if 0x10000000000 ≤ a ∧ a < 0x20000000000 then 0xFF
  else if 0x14000 ≤ a ∧ a < 0x15000 ∧ a % 16 = 12 then 1
  else 0

/-- One byte of memory. -/
def State.rdB (s : State) (a : Nat) : Byte := Smap.get (memDefault a) s.mem a

/-- Writes one byte. -/
def State.wrB (s : State) (a : Nat) (v : Byte) : State := { s with mem := Smap.set (memDefault a) s.mem a v }

/-- `n` bytes from `a` on. -/
def State.rdBytes (s : State) (a : Nat) : Nat → List Byte
  | 0 => []
  | n + 1 => s.rdB a :: s.rdBytes (a + 1) n

/-- Writes a run of bytes from `a` on. -/
def State.wrBytes (s : State) (a : Nat) : List Byte → State
  | [] => s
  | b :: rest => (s.wrB a b).wrBytes (a + 1) rest

/-- The number that bytes spell, least significant first (R6). -/
def leNat : List Byte → Nat
  | [] => 0
  | b :: rest => b.toNat + 256 * leNat rest

/-- The number that bytes spell, most significant first: the Proren wire and network headers (R6). -/
def beNat (bs : List Byte) : Nat := bs.foldl (fun acc b => acc * 256 + b.toNat) 0

/-- `n` bytes of a number, least significant first. -/
def leBytes : Nat → Nat → List Byte
  | 0, _ => []
  | n + 1, v => BitVec.ofNat 8 v :: leBytes n (v / 256)

/-- `n` bytes of a number, most significant first. -/
def beBytes (n v : Nat) : List Byte := (leBytes n v).reverse

/-- A little-endian number of `n` bytes in memory (R6). -/
def State.rdLE (s : State) (a n : Nat) : Nat := leNat (s.rdBytes a n)

/-- A number read as signed on `bits` bits. -/
def toSigned (bits v : Nat) : Int := if v < 2 ^ (bits - 1) then v else (v : Int) - (2 : Int) ^ bits

/-- A signed number as its two's complement on `bits` bits. -/
def ofSigned (bits : Nat) (v : Int) : Nat := (v % (2 : Int) ^ bits).toNat

/-- Ceiling division. -/
def ceilDiv (a b : Nat) : Nat := (a + b - 1) / b

/-- A bit of a number. -/
def bitAt (v i : Nat) : Bool := v / 2 ^ i % 2 = 1

/-- A word after a write of the bytes that are enabled (R421). -/
def mergeBytes (old : Word) (v : LaneWord) : Word :=
  let mask : Word := (List.range 4).foldl (fun m i => if bitAt v.be.toNat i then m ||| ((0xFF : Word) <<< (8 * i)) else m) 0
  (old &&& ~~~mask) ||| (v.data &&& mask)

/-- The CRC-32 of R109 over one more byte: reflected, polynomial 0xEDB88320. -/
def crcByte (c : Nat) (b : Byte) : Nat :=
  (List.range 8).foldl (fun c _ => if c % 2 = 1 then (c / 2) ^^^ 0xEDB88320 else c / 2) (c ^^^ b.toNat)

/-- The CRC-32 of R109: initial value all ones, final complement. -/
def crc32 (bs : List Byte) : Nat := bs.foldl crcByte 0xFFFFFFFF ^^^ 0xFFFFFFFF

/-! ### Registers -/

/-- The word at a home address. -/
def State.reg (s : State) (a : Nat) : Word := Smap.get (resetWord a) s.regs a

/-- Writes the word at a home address. -/
def State.setReg (s : State) (a : Nat) (v : Word) : State := { s with regs := Smap.set (resetWord a) s.regs a v }

/-- The register at `a` as one number: with its high word for a field that reaches it. -/
def State.regNat (s : State) (a : Nat) (f : Fld) : Nat :=
  (s.reg a).toNat + (if 32 ≤ f.hi then (s.reg (a + 4)).toNat * 2 ^ 32 else 0)

/-- A field of the register at `a`. -/
def State.rf (s : State) (a : Nat) (f : Fld) : Nat := s.regNat a f / 2 ^ f.lo % 2 ^ (f.hi - f.lo + 1)

/-- A one-bit field. -/
def State.rb (s : State) (a : Nat) (f : Fld) : Bool := s.rf a f ≠ 0

/-- A number with the field's bits replaced. -/
def putFld (old : Nat) (f : Fld) (v : Nat) : Nat :=
  let w := 2 ^ (f.hi - f.lo + 1)
  old / 2 ^ (f.hi + 1) * 2 ^ (f.hi + 1) + v % w * 2 ^ f.lo + old % 2 ^ f.lo

/-- A field of a written word. -/
def getFld (v : Word) (f : Fld) : Nat := v.toNat / 2 ^ f.lo % 2 ^ (f.hi - f.lo + 1)

/-- Writes a field of the register at `a`. -/
def State.sf (s : State) (a : Nat) (f : Fld) (v : Nat) : State :=
  let n := putFld (s.regNat a f) f v
  let s := s.setReg a (BitVec.ofNat 32 n)
  if 32 ≤ f.hi then s.setReg (a + 4) (BitVec.ofNat 32 (n / 2 ^ 32)) else s

/-- Sets or clears a one-bit field. -/
def State.sb (s : State) (a : Nat) (f : Fld) (v : Bool) : State := s.sf a f (if v then 1 else 0)

/-- Raises a counter field by `n`, saturating at its largest value. -/
def State.bump (s : State) (a : Nat) (f : Fld) (n : Nat := 1) : State :=
  s.sf a f (min (s.rf a f + n) (2 ^ (f.hi - f.lo + 1) - 1))

/-- The word at a home address at the beginning of the present clock, but for what software has cleared in it (R11). -/
def State.clockReg (s : State) (a : Nat) : Word := Smap.get (resetWord a) s.clock a

/-- Sets what `State.clockReg` reads. -/
def State.setClock (s : State) (a : Nat) (v : Word) : State := { s with clock := Smap.set (resetWord a) s.clock a v }

/-- Raises a field that holds the largest value seen. Such a field counts nothing, so a read in the same clock returns it as it then is
(R11). -/
def State.peak (s : State) (a : Nat) (f : Fld) (n : Nat) : State :=
  let s1 := s.sf a f (max (s.rf a f) (min n (2 ^ (f.hi - f.lo + 1) - 1)))
  s1.setClock a (BitVec.ofNat 32 (putFld (s1.clockReg a).toNat f (s1.rf a f)))

/-- A 64-bit register as one number. -/
def State.rd64 (s : State) (a : Nat) : Nat := (s.reg a).toNat + (s.reg (a + 4)).toNat * 2 ^ 32

/-- Writes both words of a 64-bit register. -/
def State.wr64 (s : State) (a v : Nat) : State :=
  (s.setReg a (BitVec.ofNat 32 v)).setReg (a + 4) (BitVec.ofNat 32 (v / 2 ^ 32))

/-- Returns to their reset values the registers that a predicate picks by home address, with the words that requesters have latched or hold
for them: DESIGN CHOICE (notes/assumptions/34.md). -/
def State.resetRegs (s : State) (p : Nat → Bool) : State :=
  { s with regs := s.regs.filter (fun e => !p e.1), clock := s.clock.filter (fun e => !p e.1), holds := s.holds.filter (fun l => !p l.addr),
           latches := s.latches.filter (fun l => !p l.addr) }

/-- Returns to their unlisted values the bytes that a predicate picks by address. -/
def State.resetMem (s : State) (p : Nat → Bool) : State := { s with mem := s.mem.filter (fun e => !p e.1) }

/-- The home address lies in the private aperture of a twin, a banked copy included. -/
def inTwin (w : Twin) (a : Nat) : Bool :=
  let x := a % 0x100000000
  decide (w.base ≤ x ∧ x < w.base + 0x10000000)

/-! ### Twins and roles -/

/-- The codes of TWIN_ROLE.ROLE (Table 13-1). -/
def Role.code : Role → Nat
  | .off => 0
  | .active => 1
  | .standby => 2
  | .resync => 3
  | .ready => 4
  | .isolated => 5
  | .diverged => 6

/-- What a twin holds beside registers and bytes. -/
def State.tw (s : State) : Twin → TwinState
  | .a => s.a
  | .b => s.b

/-- Changes what a twin holds. -/
def State.modTw (s : State) (w : Twin) (f : TwinState → TwinState) : State :=
  match w with
  | .a => { s with a := f s.a }
  | .b => { s with b := f s.b }

/-- The role of a twin. -/
def State.roleOf (s : State) : Twin → Role
  | .a => s.role.a
  | .b => s.role.b

/-- The ACTIVE twin, if there is one (R338). -/
def State.active (s : State) : Option Twin :=
  if s.role.a = .active then some .a else if s.role.b = .active then some .b else none

/-- The twin in STANDBY or STANDBY-READY, if there is one. -/
def State.standby (s : State) : Option Twin :=
  if s.role.a = .standby ∨ s.role.a = .ready then some .a
  else if s.role.b = .standby ∨ s.role.b = .ready then some .b else none

/-- The twin computes the show (Table 13-1). -/
def State.computes (s : State) (w : Twin) : Bool :=
  decide (s.roleOf w = .active ∨ s.roleOf w = .standby ∨ s.roleOf w = .ready)

/-- The twin receives mirror writes (R22). -/
def State.takesMirror (s : State) (w : Twin) : Bool :=
  s.computes w || (decide (s.roleOf w = .resync) && s.peri.joined)

/-- Both twins in order. -/
def twins : List Twin := [.a, .b]

/-- Folds an operation over the twins that a predicate picks. -/
def State.each (s : State) (p : Twin → Bool) (f : Twin → State → State) : State :=
  let s1 := if p .a then f .a s else s
  if p .b then f .b s1 else s1

/-! ### Time -/

/-- The present instant becomes `t`, unless it is already later (notes/assumptions/1.md). At a later instant a new clock has begun (R11, R550). -/
def State.at (s : State) (t : Nat) : State := { s with now := max s.now t, clock := if s.now < t then s.regs else s.clock }

/-- A time base. -/
def State.tb (s : State) (n : Fin 4) : TimeBase :=
  match n with
  | 0 => s.tb0
  | 1 => s.tb1
  | 2 => s.tb2
  | 3 => s.tb3

/-- Replaces a time base. -/
def State.setTb (s : State) (n : Fin 4) (t : TimeBase) : State :=
  match n with
  | 0 => { s with tb0 := t }
  | 1 => { s with tb1 := t }
  | 2 => { s with tb2 := t }
  | 3 => { s with tb3 := t }

/-- The exact count of a base at a raw instant, in units of 2^-40 ns (R74). -/
def TimeBase.exact (b : TimeBase) (x : Nat) : Nat :=
  if b.at_ ≤ x then b.count + (x - b.at_) * ((2 : Int) ^ 40 + b.rate).toNat
  else match b.past.find? (fun g => decide (g.1 ≤ x)) with
    | some g => g.2.1 + (x - g.1) * ((2 : Int) ^ 40 + g.2.2).toNat
    | none => b.count

/-- The raw instant at which the base's count was last `c` ns, at or before the present stretch of its run. -/
def TimeBase.when (b : TimeBase) (c : Nat) : Nat :=
  let e := c * 2 ^ 40
  match ((b.at_, b.count, b.rate) :: b.past).find? (fun g => decide (g.2.1 ≤ e)) with
  | some g => g.1 + ceilDiv (e - g.2.1) (max 1 ((2 : Int) ^ 40 + g.2.2).toNat)
  | none => b.at_

/-- The earlier stretches of a base when its run changes at the raw instant `x`. -/
def TimeBase.pastAt (b : TimeBase) (x : Nat) : List (Nat × Nat × Int) :=
  if b.at_ < x then ((b.at_, b.count, b.rate) :: b.past).take 64 else b.past

/-- The 64-bit count in ns at a raw instant. -/
def TimeBase.ns (b : TimeBase) (x : Nat) : Nat := b.exact x / 2 ^ 40 % 2 ^ 64

/-- The raw instant at which the base's count reaches `c` ns, not before `x` nor before the base's own instant. -/
def TimeBase.rawAt (b : TimeBase) (x c : Nat) : Nat :=
  let e := c * 2 ^ 40
  let x := max x b.at_
  if e ≤ b.exact x then x else x + ceilDiv (e - b.exact x) (max 1 ((2 : Int) ^ 40 + b.rate).toNat)

/-- The base with its count carried to the raw instant `x`, then running at `rate`. -/
def TimeBase.runAt (b : TimeBase) (x : Nat) (rate : Int) : TimeBase :=
  { b with count := b.exact x, at_ := x, rate := rate, past := b.pastAt x }

/-- The base with its count stepped at the raw instant `x` (R91). -/
def TimeBase.stepAt (b : TimeBase) (x c : Nat) : TimeBase :=
  { b with count := c % 2 ^ 64 * 2 ^ 40, at_ := x, past := b.pastAt x }

/-- The 64-bit count of base `n` at the present instant. -/
def State.tbNow (s : State) (n : Fin 4) : Nat := (s.tb n).ns s.now

/-- A stamp as one 40-bit number in the form of R13: TS in [31:0], TB in [33:32], EPOCH in [39:34]. -/
def stampOf (n : Fin 4) (count : Nat) : Nat :=
  count % 2 ^ 32 + n.val * 2 ^ 32 + count / 2 ^ 32 % 64 * 2 ^ 34

/-- The stamp of the present instant on the base the tick is on (R98). -/
def State.stamp (s : State) : Nat := stampOf s.tg.base (s.tbNow s.tg.base)

/-- The base the tick was on at a raw instant, no earlier than the tick before the newest (R98). -/
def State.baseAt (s : State) (x : Nat) : Fin 4 :=
  if !s.tg.ran || decide (s.tg.cur.raw ≤ x) then s.tg.base else if s.tg.cur.raw = s.tg.zeroAt then 3 else s.tg.prev.base

/-- The stamp of a raw instant at or before the present one (R98). -/
def State.stampRaw (s : State) (x : Nat) : Nat := stampOf (s.baseAt x) ((s.tb (s.baseAt x)).ns x)

/-- The stamp position of a stamp (R100): TS and EPOCH as the low 38 bits of a count. -/
def stampPos (stamp : Nat) : Nat := stamp % 2 ^ 32 + stamp / 2 ^ 34 % 64 * 2 ^ 32

/-- The age of a stamp against a count of its base (R100). -/
def stampAge (count stamp : Nat) : Nat := (count % 2 ^ 38 + 2 ^ 38 - stampPos stamp) % 2 ^ 38

/-- The stamp `a` was taken `gap` ns or more before the stamp `b` of the same base, by their ages against a count of it (R100). -/
def stampLeads (count a b gap : Nat) : Bool := decide (stampAge count b + gap ≤ stampAge count a)

/-- The base named in a stamp (R13). -/
def stampBase (stamp : Nat) : Fin 4 := Fin.ofNat 4 (stamp / 2 ^ 32)

/-- The stamp of the present instant on TB3 (R513). -/
def State.stamp3 (s : State) : Nat := stampOf 3 (s.tbNow 3)

/-- The tick number current at the present instant: that of the most recent tick (R21, R50). -/
def State.tickNo (s : State) : Nat := s.tg.cur.k

/-- The period P of a tick's timing as a fraction: numerator in ns, denominator (R49). -/
def TickAt.period (t : TickAt) : Nat × Nat := (t.den * 1000000000, max 1 t.num)

/-- The count of a tick on its base, carried through the steps that the tick's base has made since (R51, R91): the instants of the frame are
counted from it. -/
def State.tickCount (s : State) (t : TickAt) : Nat :=
  ((t.counts.getD t.base.val 0 : Int) + (if t.base = s.tg.base then s.tg.steps - t.steps else 0)).toNat

/-- The raw instant of tick k+1 as the tick generator foresees it. -/
def State.nextTickRaw (s : State) : Nat := (s.tb s.tg.base).rawAt s.tg.cur.raw s.tg.next

/-! ### Free values, outputs -/

/-- Takes a fresh free value. -/
def State.fresh (s : State) : Nat × State := (Config.freeValue s.free, { s with free := s.free + 1 })

/-- Records what leaves the part. -/
def State.emit (s : State) (o : Out) : State := { s with out := s.out ++ [o] }

/-- A command begins: its outputs are its own. -/
def State.begin (s : State) : State := { s with out := [] }

/-- A command begins at an instant. -/
def State.beginAt (s : State) (t : Nat) : State := s.begin.at t

end Sys2Proof.Machine
end

