-- ==== Sys2Proof/Machine/Image.lean ====
section
/-!
DEFINITION. The image in effect (R105): the tables of Table 4-4, which each twin keeps as bytes, and their fields (Tables 4-5 to 4-19).
An all-zero entry is unused (R112).
-/
namespace Sys2Proof.Machine

/-- Size of an entry in bytes (Table 4-4); 0 for a type and instance the part does not know. -/
def entrySize (ty inst : Nat) : Nat :=
  match ty, inst with
  | 1, 0 => 128 | 2, 0 => 64 | 3, 0 => 4 | 4, 0 => 16 | 4, 1 => 8
  | 5, 0 => 64 | 5, 1 => 8 | 5, 2 => 64 | 5, 3 => 160 | 6, 0 => 64 | 7, 0 => 16
  | 8, 0 => 16 | 8, 1 => 64 | 9, 0 => 256 | 9, 1 => 32 | 10, 0 => 4096
  | 11, 0 => 16 | 12, 0 => 64 | 13, 0 => 8 | 13, 1 => 16 | 0x8000, _ => 1
  | _, _ => 0

/-- Number of entries of a table (Table 4-4). -/
def entryCount (ty inst : Nat) : Nat :=
  match ty, inst with
  | 1, 0 => 1 | 2, 0 => 1 | 3, 0 => 96 | 4, 0 => 64 | 4, 1 => 256
  | 5, 0 => 4 | 5, 1 => 16384 | 5, 2 => 8 | 5, 3 => 32 | 6, 0 => 128 | 7, 0 => 1
  | 8, 0 => 1 | 8, 1 => 16 | 9, 0 => 4096 | 9, 1 => 1 | 10, 0 => 256
  | 11, 0 => 4194304 | 12, 0 => 262144 | 13, 0 => 1048576 | 13, 1 => 16384 | 0x8000, _ => 2 ^ 32
  | _, _ => 0

/-- Where an entry of the image in effect lies. -/
def entryAddr (w : Twin) (ty inst idx : Nat) : Nat := Addr.img w ty inst (idx * entrySize ty inst)

/-- A field of `n` bytes at offset `off` of an entry, little-endian (R6). -/
def State.ent (s : State) (w : Twin) (ty inst idx off n : Nat) : Nat := s.rdLE (entryAddr w ty inst idx + off) n

/-- A field that is a byte string in transmission order (R108). -/
def State.entBytes (s : State) (w : Twin) (ty inst idx off n : Nat) : List Byte := s.rdBytes (entryAddr w ty inst idx + off) n

/-! TIME (Tables 4-5, 4-6), POWER (Table 4-7). -/

def State.imgTime (s : State) (w : Twin) (off n : Nat) : Nat := s.ent w 1 0 0 off n
def State.imgPower (s : State) (w : Twin) (off n : Nat) : Nat := s.ent w 2 0 0 off n
def State.boSwap (s : State) (w : Twin) : Bool := bitAt (s.imgPower w 3 1) 0
def State.napEn (s : State) (w : Twin) : Bool := bitAt (s.imgPower w 3 1) 1
def State.darkEn (s : State) (w : Twin) : Bool := bitAt (s.imgPower w 3 1) 2

/-! BANK and SORUS (Tables 4-8 to 4-10). -/

def State.imgBank (s : State) (w : Twin) (n off : Nat) : Nat := s.ent w 3 0 n off 1
/-- Depth of a queue in slots; 0 for an unused queue. -/
def State.qDepth (s : State) (w : Twin) (q : Nat) : Nat :=
  let d := s.ent w 4 0 q 0 1
  if q < 64 ∧ d ≠ 0 then 2 ^ d else 0
def State.qUsed (s : State) (w : Twin) (q : Nat) : Bool := decide (s.qDepth w q ≠ 0)
def State.qWords (s : State) (w : Twin) (q : Nat) : Nat := s.ent w 4 0 q 1 1
def State.qPrio (s : State) (w : Twin) (q : Nat) : Nat := s.ent w 4 0 q 3 1 % 16
def State.qCores (s : State) (w : Twin) (q : Nat) : Nat := s.ent w 4 0 q 8 2
def State.qPreempts (s : State) (w : Twin) (q : Nat) : Bool := decide (s.ent w 4 0 q 10 1 = 1)
def State.flowWindow (s : State) (w : Twin) (f : Nat) : Nat := s.ent w 4 1 f 0 2
def State.flowQueue (s : State) (w : Twin) (f : Nat) : Nat := s.ent w 4 1 f 2 1

/-! NET (Tables 4-11 to 4-14). -/

def State.netMode (s : State) (w : Twin) (n : Nat) : Nat := s.ent w 5 0 n 0 1
def State.netFlag (s : State) (w : Twin) (n i : Nat) : Bool := bitAt (s.ent w 5 0 n 1 1) i
def State.netMaxLen (s : State) (w : Twin) (n : Nat) : Nat := s.ent w 5 0 n 2 2
def State.netMac (s : State) (w : Twin) (n : Nat) : List Byte := s.entBytes w 5 0 n 4 6
def State.netCtlPort (s : State) (w : Twin) (n : Nat) : Nat := s.ent w 5 0 n 10 2
def State.netIp4 (s : State) (w : Twin) (n : Nat) : List Byte := s.entBytes w 5 0 n 12 4
def State.netIp6 (s : State) (w : Twin) (n : Nat) : List Byte := s.entBytes w 5 0 n 20 16

/-! PORT, PERI, LAYER, PROF (Tables 4-15 to 4-19). -/

def State.personality (s : State) (w : Twin) (p : Nat) : Nat := s.ent w 6 0 p 0 1
def State.rdmOn (s : State) (w : Twin) (p : Nat) : Bool := bitAt (s.ent w 6 0 p 1 1) 0
/-- A field of PARAMS of a port, `off` counted from byte 4 of the entry. -/
def State.param (s : State) (w : Twin) (p off n : Nat) : Nat := s.ent w 6 0 p (4 + off) n
def State.canvasW (s : State) (w : Twin) : Nat := s.ent w 8 0 0 0 2
def State.canvasH (s : State) (w : Twin) : Nat := s.ent w 8 0 0 2 2
def State.guardLines (s : State) (w : Twin) : Nat := s.ent w 8 0 0 4 2
/-- A field of a layer entry. -/
def State.layerE (s : State) (w : Twin) (l off n : Nat) : Nat := s.ent w 8 1 l off n

/-- The Peristome block time in ns (Table 4-16). -/
def State.tBlock (s : State) : Nat :=
  match s.rf Reg.PERI_CFG Fld.PERI_CFG_BLOCK with
  | 0 => 64000
  | 1 => 32000
  | _ => 16000

/-- The ports that have a personality in a twin's image. -/
def portsWith (s : State) (w : Twin) (pers : Nat) : List Nat :=
  (List.range 128).filter (fun p => s.personality w p = pers)

end Sys2Proof.Machine
end

