-- ==== Sys2Proof/Machine/Queue.lean ====
section
/-!
DEFINITION. The hardware queues of Sorus (chapter 14): rings, packets and the choice of the next item, with pushes and pops that raise
nothing yet.
-/
namespace Sys2Proof.Machine

/-- Requesters of Sorus by number (R372, R376): cores 0 to 15, the host, the hardware pushers, from 64 on the queue windows, and from 128 on
Sorus itself for the releases of each flow. -/
def reqHost : Nat := 16
def reqMac : Nat := 18
def reqRdm : Nat := 22
def reqEvent : Nat := 23
def reqTick : Nat := 24
def reqWindow (q : Nat) : Nat := 64 + q
def reqFlow (f : Nat) : Nat := 128 + f

/-- The place of a pusher among the pushes of one clock (R373). -/
def pushRank (r : Nat) : Nat :=
  if r = reqTick then 0
  else if reqMac ≤ r ∧ r < reqMac + 4 then 1 + (r - reqMac)
  else if r = reqRdm then 5
  else if r = reqEvent then 6
  else if reqFlow 0 ≤ r then 7 + (r - reqFlow 0)
  else 263 + r

def Queue.empty : Queue := { rd := 0, wr := 0, slots := [], winHdr := 0 }
def Flow.empty : Flow := { nextSeq := 0, nextRel := 0, out := 0 }

def Sorus.queue (o : Sorus) (q : Nat) : Queue := Smap.get Queue.empty o.queues q
def Sorus.setQueue (o : Sorus) (q : Nat) (v : Queue) : Sorus := { o with queues := Smap.set Queue.empty o.queues q v }
def Sorus.flow (o : Sorus) (f : Nat) : Flow := Smap.get Flow.empty o.flows f
def Sorus.setFlow (o : Sorus) (f : Nat) (v : Flow) : Sorus := { o with flows := Smap.set Flow.empty o.flows f v }
def Sorus.core (o : Sorus) (c : Nat) : List Running := Smap.get [] o.cores c
def Sorus.setCore (o : Sorus) (c : Nat) (v : List Running) : Sorus := { o with cores := Smap.set [] o.cores c v }

/-- The header of an item as one 64-bit number (Table 14-1); the idle item is 0. -/
def Item.header (i : Item) (q : Nat) : BitVec 64 :=
  BitVec.ofNat 64 (i.typ % 256 + (i.prio % 16 + (if i.more then 16 else 0) + (if i.dl then 32 else 0) +
    (if i.flowed then 64 else 0)) * 2 ^ 8 + (if i.flowed then i.flow % 256 else 0) * 2 ^ 16 + q % 256 * 2 ^ 24 +
    i.seq % 1024 * 2 ^ 32 + i.tick % 65536 * 2 ^ 48)

/-- USED of R369: slots between RD and WR. -/
def Queue.used (q : Queue) : Nat := q.slots.length

/-- COUNT of R370: items not yet popped. -/
def Queue.count (q : Queue) : Nat := (q.slots.filter (fun s => s.st = .queued)).length

/-- RD advances over every freed slot it reaches (R370). -/
def Queue.trim (q : Queue) (depth : Nat) : Queue :=
  let n := (q.slots.takeWhile (fun s => s.st = .freed)).length
  { q with slots := q.slots.drop n, rd := (q.rd + n) % (2 * max 1 depth) }

/-- A slot whose packet was whole before the clock `now`: an item becomes readable in the clock after its push (R373, R375). -/
def Queue.ready (q : Queue) (now : Nat) (s : Slot) : Bool := s.whole && q.slots.all (fun t => decide (t.pkt ≠ s.pkt) || decide (t.at_ < now))

/-- The slots of one packet that a requester has not popped yet, or every slot of an unopened packet: the index of the slot that a pop by
`r` in the clock `now` takes (R374 to R376). -/
def Queue.next? (q : Queue) (now r : Nat) : Option Nat :=
  let idx := q.slots.zipIdx
  match idx.find? (fun (s, _) => s.st = .queued && s.openTo = some r) with
  | some (_, i) => some i
  | none =>
    let free := idx.filter (fun (s, _) => s.st = .queued && q.ready now s && s.openTo = none)
    let heads := free.filter (fun (s, i) => (free.find? (fun (t, _) => t.pkt = s.pkt)).map (·.2) = some i)
    heads.foldl (fun best (s, i) =>
      match best with
      | none => some i
      | some j => match q.slots[j]? with
        | some t => if t.item.prio < s.item.prio then some i else best
        | none => some i) none

/-- The item that a pop by `r` would take, and its priority: that of the first item of its packet (R375). -/
def Queue.peek (q : Queue) (now r : Nat) : Option Slot := (q.next? now r).bind (fun i => q.slots[i]?)

/-- A pop by `r` in the clock `now` (R370, R374 to R376): the item, and the queue with its slot freed, or held when the item is FLOWED, and the rest of its
packet open to `r`. -/
def Queue.pop (q : Queue) (now depth r : Nat) : Option (Item × Queue) :=
  match q.next? now r with
  | none => none
  | some i =>
    match q.slots[i]? with
    | none => none
    | some sl =>
      let slots := q.slots.zipIdx.map (fun (s, j) =>
        if j = i then { s with st := if s.item.flowed then .popped else .freed }
        else if s.st = .queued ∧ s.pkt = sl.pkt then { s with openTo := some r } else s)
      some (sl.item, { q with slots := slots }.trim depth)

/-- A body cut or padded with zeros to `n` bytes. -/
def fitBody (n : Nat) (b : List Byte) : List Byte := (b ++ List.replicate n 0).take n

/-- Why a push is not stored: the codes of SORUS_PUSH_STAT.REASON; `bank` is a ring whose bank Sorus does not reach, discarded as at a
full queue (R399). -/
inductive PushResult where
  | done (seq : Nat)
  | full | bank | unused | type | flow | window | late
deriving DecidableEq, Repr

def PushResult.code : PushResult → Nat
  | .done _ => 0
  | .full => 1
  | .bank => 1
  | .unused => 2
  | .type => 3
  | .flow => 4
  | .window => 5
  | .late => 6

/-- The slots with a new one: behind every earlier clock's, and among the slots of its own clock in the order of their pushers (R373). An item of
a flow stays in the order of its commands, which gave it its SEQ. -/
def putSlot (slots : List Slot) (x : Slot) : List Slot :=
  let behind : Slot → Bool := fun t => decide (t.at_ = x.at_) && decide (pushRank x.by_ < pushRank t.by_) && !x.item.flowed && !t.item.flowed
  let n := (slots.reverse.takeWhile behind).length
  slots.take (slots.length - n) ++ x :: slots.drop (slots.length - n)

/-- The slot that gives way to a push of a full queue (R373): the last one, when a pusher that comes later in the order pushed it, as a packet of
its own, in the same clock. -/
def Queue.yields (q : Queue) (now by_ : Nat) : Option Slot :=
  q.slots.getLast?.filter (fun t => decide (t.at_ = now) && decide (pushRank by_ < pushRank t.by_) && !t.item.flowed && decide (t.st = .queued) &&
    !t.item.more && decide ((q.slots.filter (fun x => decide (x.pkt = t.pkt))).length = 1))

/-- The tick's compute deadline as a count above the tick's (R52). -/
def TickAt.cdl (t : TickAt) : Nat := ceilDiv (t.permille * t.den * 1000000) (max 1 t.num)

/-- The raw instant of the newest tick's compute deadline. -/
def State.deadlineRaw (s : State) : Nat :=
  let c := s.tg.cur
  (s.tb c.base).rawAt c.raw (s.tickCount c + c.cdl)

/-- The compute deadline of the newest tick has passed, or falls in this clock, in which it comes first (R390). -/
def State.deadlinePast (s : State) : Bool := s.tg.dlDone || (s.tg.ran && decide (s.deadlineRaw ≤ s.now))

/-- Pushes an item to queue `q` on behalf of `by_` (R369, R371, R372, R375, R381, R389). `stampTick` is the whole tick number of the item's
stamp, and `soft` says that software pushed it. Answers the result, whether the packet was cut at its 16th item, and the state. -/
def pushItem (w : Twin) (q by_ : Nat) (soft : Bool) (stampTick : Nat) (item : Item) (s : State) : PushResult × Bool × State :=
  let o := (s.tw w).sorus
  let qu := o.queue q
  let depth := s.qDepth w q
  let fl := o.flow item.flow
  if depth = 0 then (.unused, false, s)
  else if soft && decide (item.typ < 16) then (.type, false, s)
  else if item.flowed && decide (s.flowWindow w item.flow = 0 ∨ s.flowQueue w item.flow ≠ q) then (.flow, false, s)
  else if item.flowed && decide (s.flowWindow w item.flow < fl.out + 1) then (.window, false, s)
  else if item.dl && decide (stampTick ≠ (s.tickNo + 1) % 2 ^ 32) && (decide (stampTick ≠ s.tickNo) || s.deadlinePast) then
    (.late, false, s)
  else if s.rf (Reg.BANK_CTL w (s.ent w 4 0 q 2 1)) Fld.BANK_CTL_OWNER ≠ 1 ∨ s.rf (Reg.BANK_STAT w (s.ent w 4 0 q 2 1)) Fld.BANK_STAT_STATE ≠ 2 then
    (.bank, false, s)
  else if qu.used ≥ depth then (.full, false, s)
  else
    let prev := o.building.find? (fun (b, q', _, _) => b = by_ && q' = q)
    let pkt : Nat := (prev.map (fun (_, _, p, _) => p)).getD o.pktCount
    let n : Nat := (prev.map (fun (_, _, _, n) => n)).getD 0
    let cut := item.more && decide (15 ≤ n)
    let more := item.more && !cut
    let seq := if item.flowed then fl.nextSeq else 0
    let it := { item with more := more, seq := seq, tick := stampTick % 65536, body := fitBody (8 * s.qWords w q) item.body }
    let slots := putSlot qu.slots { item := it, st := .queued, by_ := by_, at_ := s.now, pkt := pkt, whole := false, openTo := none }
    let slots := if more then slots else slots.map (fun sl => if sl.pkt = pkt then { sl with whole := true } else sl)
    let o := o.setQueue q { qu with slots := slots, wr := (qu.wr + 1) % (2 * depth) }
    let o := if item.flowed then o.setFlow item.flow { fl with nextSeq := (fl.nextSeq + 1) % 1024, out := fl.out + 1 } else o
    let rest := o.building.filter (fun (b, q', _, _) => !(b = by_ && q' = q))
    let o := { o with building := if more then rest ++ [(by_, q, pkt, n + 1)] else rest,
                      pktCount := if prev.isSome then o.pktCount else o.pktCount + 1 }
    (.done seq, cut, s.modTw w (fun t => { t with sorus := o }))

end Sys2Proof.Machine
end

