-- ==== Sys2Proof/Machine/Flags.lean ====
section
/-!
DEFINITION. Events and their flags (chapter 20): pending bits, the log, MSI-X messages, pins and the queue route.
-/
namespace Sys2Proof.Machine

/-- Sets a bit of a word register. -/
def State.orReg (s : State) (a v : Nat) : State := s.setReg a (s.reg a ||| BitVec.ofNat 32 v)

/-- The messages of a vector may leave (R419): MSI-X Enable and Bus Master Enable set, neither the function nor the vector masked. -/
def State.msixOpen (s : State) (v : Nat) : Bool :=
  s.msixEn && s.bme && !s.funcMask && !s.perst && !bitAt (s.rdB (0x14000 + 16 * v + 12)).toNat 0

/-- Sends one message of vector `v` for event `n`, or holds it in the pending-bit array (R419). -/
def State.sendMsix (s : State) (v n : Nat) : State :=
  if s.msixOpen v then s.emit (.msix v n)
  else
    let a := 0x15000 + v / 8
    s.wrB a (s.rdB a ||| BitVec.ofNat 8 (2 ^ (v % 8)))

/-- The 16 bytes of a record at an index of the log (R516). -/
def LogRec.bytes (r : LogRec) (first : Bool) (index : Nat) : List Byte :=
  leBytes 5 r.stamp ++ leBytes 1 r.event ++ leBytes 1 (r.source + (if first then 4 else 0) + (if r.stopped then 8 else 0)) ++ leBytes 1 index ++
    leBytes 4 r.data ++ leBytes 4 r.tick

/-- The order of records of one Thallus clock (R517): Thallus events first, then by ascending event number. -/
def LogRec.before (x y : LogRec) : Bool :=
  if x.source = 0 ∧ y.source ≠ 0 then true else if x.source ≠ 0 ∧ y.source = 0 then false else decide (x.event < y.event)

/-- A record takes its place among those of its clock. -/
def LogRec.place (x : LogRec) : List LogRec → List LogRec
  | [] => [x]
  | y :: rest => if x.before y then x :: y :: rest else y :: x.place rest

/-- Where the log holds the record of an index. -/
def logAddr (index : Nat) : Nat := 0x10000 + index % 1024 * 16

/-- Records in order from an index on; the first of them is the first of a numbering where `first` says so. -/
def State.writeRecords (s : State) (first : Bool) (index : Nat) (l : List LogRec) : State :=
  l.zipIdx.foldl (fun x e => x.wrBytes (logAddr (index + e.2)) (e.1.bytes (first && decide (e.2 = 0)) (index + e.2))) s

/-- The records written in the present clock, and whether a numbering begins with them. -/
def State.clockRecords (s : State) : List LogRec × Bool :=
  if s.logCycle.at_ = s.now ∧ s.logCycle.recs ≠ [] then (s.logCycle.recs, s.logCycle.first) else ([], s.logFirst)

/-- Writes one log record (R516, R517): `src` 0 for the Thallus, 1 and 2 for the twins. -/
def State.logRecord (s : State) (src n data stamp : Nat) : State :=
  if s.rb Reg.EVT_LOG_CTL Fld.EVT_LOG_CTL_FREEZE then s.bump Reg.EVT_LOG_STAT Fld.EVT_LOG_STAT_OVF
  else
    let head := s.rf Reg.EVT_LOG_HEAD Fld.EVT_LOG_HEAD_HEAD
    let tail := s.rf Reg.EVT_LOG_TAIL Fld.EVT_LOG_TAIL_TAIL
    let old := s.clockRecords
    let recs := LogRec.place ⟨stamp, n, src, !s.tg.ran, data, s.tickNo⟩ old.1
    let s1 := if (head + 2 ^ 32 - tail) % 2 ^ 32 ≥ 1024 then s.bump Reg.EVT_LOG_STAT Fld.EVT_LOG_STAT_OVF else s
    let s2 := s1.writeRecords old.2 (head + 2 ^ 32 - old.1.length) recs
    { s2 with logFirst := false, logCycle := ⟨s.now, old.2, recs⟩ }.setReg Reg.EVT_LOG_HEAD (BitVec.ofNat 32 (head + 1))

/-- The Thallus side of a raise (R514): the pending bit, the message and the record. -/
def State.accept (s : State) (src n data stamp : Nat) : State :=
  let route := s.reg (Reg.EVT_ROUTE n)
  let s1 := if s.mainOff then { s with heldEvents := s.heldEvents.filter (fun e => e.1 ≠ n) ++ [(n, data)] }
            else s.orReg (Reg.EVT_PEND (n / 32)) (2 ^ (n % 32))
  let s2 := if getFld route Fld.EVT_ROUTE_MSIX_EN = 1 ∧ !s.mainOff then s1.sendMsix (getFld route Fld.EVT_ROUTE_VECTOR) n else s1
  if getFld route Fld.EVT_ROUTE_LOG = 1 then s2.logRecord src n data stamp else s2

/-- Marks an event as raised once in this tick interval. -/
def TwinState.mark (t : TwinState) (n data : Nat) : TwinState := { t with once := ⟨(n, data) :: t.once.seen⟩ }

/-- The event has been marked in this tick interval. -/
def TwinState.marked (t : TwinState) (n : Nat) : Bool := t.once.seen.any (fun e => e.1 = n)

/-- The body of an EVENT item: the record of Table 20-2 with SEQ 0 (R515). -/
def State.eventBody (s : State) (src n data stamp : Nat) : List Byte :=
  leBytes 5 stamp ++ leBytes 1 n ++ leBytes 1 (src + (if s.tg.ran then 0 else 8)) ++ [0] ++ leBytes 4 data ++ leBytes 4 s.tickNo

/-- Counts a refused access to a bank (R399, R415); the event is the caller's. -/
def State.bankViol (s : State) (w : Twin) (n : Nat) : State :=
  (s.bump (Reg.BANK_VIOL w) Fld.BANK_VIOL_COUNT).sf (Reg.BANK_VIOL w) Fld.BANK_VIOL_BANK n

/-- An event takes a twin's queue route (R515). A discarded item is counted and raises E81, one discarded at a full queue raises E72 too
(R371), and one whose ring Sorus does not reach E76 as well (R399); each once in a tick interval (R393, R415, R515). `fuel` bounds the
chain: each of the three is raised at most once. -/
def routeTwin : Nat → Twin → Nat → Nat → Nat → Nat → State → State
  | 0, _, _, _, _, _, s => s
  | fuel + 1, w, src, n, data, stamp, s =>
    let s1 := s.orReg (Reg.EVT_TPEND w (n / 32)) (2 ^ (n % 32))
    let r := s1.reg (Reg.EVT_QROUTE w n)
    if getFld r Fld.EVT_QROUTE_EN = 0 ∨ n = 81 then s1
    else
      let q := getFld r Fld.EVT_QROUTE_QUEUE
      let item : Item := { typ := 4, prio := s1.qPrio w q, more := false, dl := false, flowed := false, flow := 0, seq := 0, tick := 0,
                           body := s1.eventBody src n data stamp }
      let raiseOn := fun (en : Bool) (m d : Nat) (x : State) =>
        if !en || (x.tw w).marked m then x
        else
          let x1 := x.modTw w (·.mark m d)
          let x2 := if x1.roleOf w = .active then x1.accept (w.code + 1) m d stamp else x1
          routeTwin fuel w (w.code + 1) m d stamp x2
      let dropped := fun (x : State) => raiseOn true 81 n (x.bump (Reg.EVT_TSTAT w) Fld.EVT_TSTAT_QDROP)
      let overflow := fun (x : State) =>
        let y := (x.bump (Reg.SORUS_QCNT w q) Fld.SORUS_QCNT_OVERFLOW).bump (Reg.SORUS_CNT w) Fld.SORUS_CNT_OVERFLOW
        raiseOn (y.rb (Reg.SORUS_EVT_CTL w) Fld.SORUS_EVT_CTL_OVF_EN) 72 q y
      if s1.qWords w q < 2 then dropped s1
      else
        match pushItem w q reqEvent false s1.tickNo item s1 with
        | (.done _, _, s2) => s2
        | (.full, _, s2) => dropped (overflow s2)
        | (.bank, _, s2) =>
          let b := s2.ent w 4 0 q 2 1
          dropped (raiseOn (s2.rb (Reg.BANK_EVT_CTL w) Fld.BANK_EVT_CTL_VIOL_EN) 76 b (overflow (s2.bankViol w b)))
        | (_, _, s2) => dropped s2

/-- A twin raises an event of E32 to E255 with a stamp (R511): its own pending bit and queue route, and the Thallus side when it is
ACTIVE. -/
def State.raiseTwinAt (s : State) (w : Twin) (n data stamp : Nat) : State :=
  let s1 := if s.roleOf w = .active then s.accept (w.code + 1) n data stamp else s
  routeTwin 4 w (w.code + 1) n data stamp s1

/-- A twin raises an event at the present instant. -/
def State.raiseTwin (s : State) (w : Twin) (n data : Nat) : State := s.raiseTwinAt w n data s.stamp

/-- A twin raises an event if an enable bit of its block is 1 (R510). -/
def State.raiseIf (s : State) (w : Twin) (ctl : Nat) (en : Fld) (n data : Nat) : State :=
  if s.rb ctl en then s.raiseTwin w n data else s

/-- A twin raises an event at most once in a tick interval. -/
def State.raiseOnce (s : State) (w : Twin) (ctl : Nat) (en : Fld) (n data : Nat) : State :=
  if s.rb ctl en && !(s.tw w).marked n then (s.modTw w (·.mark n data)).raiseTwin w n data else s

/-- The Thallus raises an event of E0 to E31 (R511, R512) with a stamp: its own routes, then the queue routes of both twins. -/
def State.raiseThAt (s : State) (n data stamp : Nat) : State :=
  routeTwin 4 .b 0 n data stamp (routeTwin 4 .a 0 n data stamp (s.accept 0 n data stamp))

/-- The Thallus raises an event at the present instant, on the tick's base, or on TB3 for E9 to E14, and for E15, E16 and E29 to E31 while
no tick runs (R513). -/
def State.raiseTh (s : State) (n data : Nat) : State :=
  let on3 := (9 ≤ n ∧ n ≤ 14) ∨ (!s.tg.ran ∧ (n = 15 ∨ n = 16 ∨ (29 ≤ n ∧ n ≤ 31)))
  s.raiseThAt n data (if on3 then s.stamp3 else s.stamp)

/-- The power controller raises E9 to E14 at most once in a tick interval, or in a millisecond of TB3 while no tick runs (R472). -/
def State.raisePwr (s : State) (n data : Nat) : State :=
  let slot := if s.tg.ran then 0 else s.tbNow 3 / 1000000 + 1
  if s.once.seen.any (fun e => e = (n, slot)) then s
  else { s with once := ⟨(n, slot) :: s.once.seen.filter (fun e => e.1 ≠ n)⟩ }.raiseTh n data

/-- EVT_PIN_CTL.LEVEL (R514): the pins that a pending event drives low. -/
def State.pinLevel (s : State) : Nat :=
  let en := s.rf Reg.EVT_PIN_CTL Fld.EVT_PIN_CTL_EN
  (List.range 8).foldl (fun acc g =>
    let p := (s.reg (Reg.EVT_PEND g)).toNat
    if p = 0 then acc
    else (List.range 32).foldl (fun acc b =>
      if bitAt p b then acc ||| (s.rf (Reg.EVT_ROUTE (32 * g + b)) Fld.EVT_ROUTE_PINS &&& en) else acc) acc) 0

end Sys2Proof.Machine
end

