-- ==== Sys2Proof/Machine/Operands.lean ====
section
/-!
DEFINITION. The operand forms of the commands: how a control write reaches a register of the Thallus (R28) or of a twin (R21, R22, R25,
R27, R33), what a field's access code makes of a read and of a write (R10), and the two-word access of a 64-bit register (R7).
-/
namespace Sys2Proof.Machine

/-- A write to the Thallus control region or the mailbox takes effect: from the host outside a reset (R417, R544), from the management
I2C outside WAKE_FAIL too (R467), from a core only when its twin is ACTIVE (R28). -/
def State.thAllows (s : State) (src : Requester) : Bool :=
  !s.dev.inReset && !s.mainOff && (match src with
    | .core w _ => decide (s.roleOf w = .active)
    | .pcie => !s.perst
    | .i2c => !s.rb Reg.PWR_STAT Fld.PWR_STAT_WAKE_FAIL
    | .relay => true)

/-- Performs a write to the Thallus if it takes effect. -/
def State.thWrite (s : State) (src : Requester) (f : State → State) : State := if s.thAllows src then f s else s

/-- Counts a write that R33 discards. -/
def State.ctxDrop (s : State) : State := s.bump Reg.DEV_STAT Fld.DEV_STAT_CTX_DROP

/-- The twins reached by a write on a path, and the state with what the path counts. Through the mirror aperture: the twins of R22, unless
a context reset is pending (R33) or a twin restarts in place (R484). Through a private aperture: that twin, unless it is OFF or ISOLATED (R25). In NAP neither (R460). From a core: its own twin, whose clock runs. -/
def State.reach (s : State) (via : Via) : List Twin × State :=
  match via with
  | .mirror =>
    if s.dev.inReset || s.mainOff then ([], s)
    else if s.rf Reg.PWR_STAT Fld.PWR_STAT_STATE = 3 then ([], s.bump Reg.MIRROR_STAT Fld.MIRROR_STAT_DEAD_ACC)
    else if s.dev.ctxPend || s.boot.hand.isSome then ([], s.ctxDrop)
    else (twins.filter s.takesMirror, s)
  | .priv w =>
    if s.dev.inReset || s.mainOff then ([], s)
    else if s.roleOf w = .off ∨ s.roleOf w = .isolated ∨ s.rf Reg.PWR_STAT Fld.PWR_STAT_STATE = 3 then ([], s.bump Reg.MIRROR_STAT Fld.MIRROR_STAT_DEAD_ACC)
    else ([w], s)
  | .core w _ =>
    if s.roleOf w = .off ∨ s.dev.inReset ∨ s.rf Reg.PWR_STAT Fld.PWR_STAT_STATE = 3 then ([], s) else ([w], s)

/-- A write that came through the mirror aperture: a core's reaches its own twin there (R27). -/
def throughMirror : Via → Bool
  | .priv _ => false
  | _ => true

/-- Performs a control write in every twin that it reaches. -/
def State.deliver (s : State) (via : Via) (f : Twin → State → State) : State :=
  let (ws, s1) := s.reach via
  ws.foldl (fun x w => f w x) s1

/-- The requester number of Sorus for a path (R372). -/
def sorusReq : Via → Nat
  | .core _ c => c.val
  | _ => reqHost

/-- The home of a banked Sorus register for a requester (R393): each requester has a copy of its own. -/
def banked (r a : Nat) : Nat := a + (r + 1) * 0x100000000

/-! ### Access codes (R10) -/

/-- The part of a field that lies in word `w` of its register, as a field of that word. -/
def FieldRow.inWord (f : FieldRow) (w : Nat) : Option Fld :=
  let lo := max f.lo (32 * w)
  let hi := min f.hi (32 * w + 31)
  if lo ≤ hi then some ⟨hi - 32 * w, lo - 32 * w⟩ else none

/-- What a read of a word returns: WO and RSVD fields read 0 (R10). -/
def RegRow.readWord (r : RegRow) (w : Nat) (v : Word) : Word :=
  BitVec.ofNat 32 (r.fields.foldl (fun acc f =>
    match f.inWord w, f.acc with
    | some _, .wo => acc
    | some _, .rsvd => acc
    | some g, _ => putFld acc g (getFld v g)
    | none, _ => acc) 0)

/-- What a read leaves in the word: RC fields clear (R10), and keep what hardware has counted since the word was `was` (R11). -/
def RegRow.afterRead (r : RegRow) (w : Nat) (was v : Word) : Word :=
  BitVec.ofNat 32 (r.fields.foldl (fun acc f =>
    match f.inWord w, f.acc with
    | some g, .rc => putFld acc g (if getFld was g ≤ getFld v g then getFld v g - getFld was g else 0)
    | _, _ => acc) v.toNat)

/-- What a read finds in the word (R11): an RC field that hardware has counted since the word was `was` shows its value before the count. -/
def RegRow.atRead (r : RegRow) (w : Nat) (was v : Word) : Word :=
  BitVec.ofNat 32 (r.fields.foldl (fun acc f =>
    match f.inWord w, f.acc with
    | some g, .rc => putFld acc g (min (getFld was g) (getFld v g))
    | _, _ => acc) v.toNat)

/-- The W1C bits of a word. -/
def RegRow.w1cBits (r : RegRow) (w : Nat) : Word :=
  BitVec.ofNat 32 (r.fields.foldl (fun acc f =>
    match f.inWord w, f.acc with
    | some g, .w1c => putFld acc g (2 ^ 32 - 1)
    | _, _ => acc) 0)

/-- What a write of `new` leaves in a word that held `old` (R10). -/
def RegRow.writeWord (r : RegRow) (w : Nat) (old new : Word) : Word :=
  BitVec.ofNat 32 (r.fields.foldl (fun acc f =>
    match f.inWord w with
    | none => acc
    | some g =>
      match f.acc with
      | .rw => putFld acc g (getFld new g)
      | .wo => putFld acc g (getFld new g)
      | .w1c => putFld acc g (getFld (old &&& ~~~new) g)
      | .w1s => putFld acc g (getFld (old ||| new) g)
      | _ => acc) old.toNat)

/-- The bits of a word that hardware has set in the present clock. -/
def State.setThisClock (s : State) (a : Nat) : Word := s.reg a &&& ~~~s.clockReg a

/-- Performs a plain write of one word at a home address by its access codes; nothing where no register lies (R8). A W1C bit that hardware
has set in the same clock stays set (R11). -/
def State.plainWrite (s : State) (a : Nat) (v : Word) : State :=
  match rowAt a with
  | none => s
  | some (r, _, w) =>
    let kept := r.w1cBits w &&& s.setThisClock a
    (s.setReg a (r.writeWord w (s.reg a) (v &&& ~~~kept))).setClock a (s.clockReg a &&& ~~~(r.w1cBits w &&& v))

/-- A read has taken the RC fields of a word: they clear but for what hardware has counted in the present clock (R10, R11). -/
def State.clearRead (s : State) (r : RegRow) (w a : Nat) : State :=
  (s.setReg a (r.afterRead w (s.clockReg a) (s.reg a))).setClock a (r.afterRead w (s.clockReg a) (s.clockReg a))

/-- Performs a plain read of one word at a home address: the value, and RC fields cleared. -/
def State.plainRead (s : State) (a : Nat) : Word × State :=
  match rowAt a with
  | none => (0, s)
  | some (r, _, w) => (r.readWord w (r.atRead w (s.clockReg a) (s.reg a)), s.clearRead r w a)

/-- The word at a home address belongs to a 64-bit register: the address of its low word. -/
def wideBase (a : Nat) : Option Nat :=
  match rowAt a with
  | some (r, _, w) => if r.wide then some (a - 4 * w) else none
  | none => none

/-! ### The two words of a 64-bit register (R7) -/

/-- A requester's latch at a register. -/
def findLatch (l : List Latch) (r : Requester) (a : Nat) : Option Word :=
  (l.find? (fun x => x.req = r && x.addr = a)).map (·.word)

/-- The list without a requester's entry at a register. -/
def dropLatch (l : List Latch) (r : Requester) (a : Nat) : List Latch := l.filter (fun x => !(x.req = r && x.addr = a))

/-- A read of the low word latches the high word for the requester. -/
def State.latchHigh (s : State) (r : Requester) (lowAddr : Nat) (high : Word) : State :=
  { s with latches := dropLatch s.latches r lowAddr ++ [⟨r, lowAddr, high⟩] }

/-- Any other access to the register drops the requester's latch. -/
def State.unlatch (s : State) (r : Requester) (lowAddr : Nat) : State := { s with latches := dropLatch s.latches r lowAddr }

/-- A write of the high word is held for the requester. -/
def State.holdHigh (s : State) (r : Requester) (lowAddr : Nat) (v : Word) : State :=
  { s with holds := dropLatch s.holds r lowAddr ++ [⟨r, lowAddr, v⟩] }

/-- A 64-bit access by a requester: its latch at the register is gone, and so is the high word it holds for it (R7). -/
def State.wholeAccess (s : State) (r : Requester) (lowAddr : Nat) : State :=
  { s.unlatch r lowAddr with holds := dropLatch s.holds r lowAddr }

/-- Takes the held high word of a requester. -/
def State.takeHold (s : State) (r : Requester) (lowAddr : Nat) : Option Word × State :=
  (findLatch s.holds r lowAddr, { s with holds := dropLatch s.holds r lowAddr })

end Sys2Proof.Machine
end

