-- ==== Sys2Proof/Machine/Boot.lean ====
section
/-!
DEFINITION. What boots a twin: flash and its layout (Table 18-1), signed images (R110, R477), the boot record (R475), the start of firmware
(R480), the twin reset, and the revert of a trial (R487, R488).
-/
namespace Sys2Proof.Machine

/-! ### Flash (Table 18-1) -/

/-- Bytes of the fitted flash device. -/
def State.flashSize (s : State) : Nat := 2 ^ s.rf Reg.FLASH_INFO Fld.FLASH_INFO_SIZE_LOG2

/-- Bytes of a Rejor slot (R107). -/
def State.rejSize (s : State) : Nat := (s.flashSize - 0x1000000) / 2

/-- The first byte of a Rejor slot. -/
def State.rejBase (s : State) (slot : Nat) : Nat := 0x1000000 + slot * s.rejSize

/-- A byte of flash. -/
def State.flashB (s : State) (a : Nat) : Byte := s.rdB (Addr.flash 0 a)

/-- Where a firmware slot begins: 0 GOLD, 1 A, 2 B. -/
def fwBase (slot : Nat) : Nat := if slot = 0 then 0x10000 else if slot = 1 then 0x410000 else 0x810000

/-! ### Signed files -/

/-- A failure: code of Table 4-20, byte offset, directory index of the section (0xFF for none). -/
abbrev Bad := Nat × Nat × Nat

/-- One condition: the offset at which it is reported, whether it holds, and its code. -/
abbrev Chk := Nat × Bool × Nat

def chkFirst (base sec : Nat) (l : List Chk) : Option Bad := (l.find? (fun c => !c.2.1)).map (fun c => (c.2.2, base + c.1, sec))

/-- A number of `n` bytes of a file, little-endian. -/
def fileN (rd : Nat → Byte) (a n : Nat) : Nat := leNat ((List.range n).map (fun i => rd (a + i)))

/-- Bytes of a file. -/
def fileBytes (rd : Nat → Byte) (a n : Nat) : List Byte := (List.range n).map (fun i => rd (a + i))

/-- DEV_ID.COMPAT. -/
def State.compat (s : State) : Nat := s.rf Reg.DEV_ID Fld.DEV_ID_COMPAT

/-- A key slot can verify (R110, R478): programmed, not revoked, and enabled for configuration (`cfg`) or firmware. -/
def State.keyUsable (s : State) (k : Nat) (cfg : Bool) : Bool :=
  let v := s.rf Reg.OTP_KEY_STAT Fld.OTP_KEY_STAT_SLOTS / 16 ^ k
  decide (k < 4) && bitAt v 0 && !bitAt v 3 && bitAt v (if cfg then 2 else 1)

/-- The key programmed in an OTP slot. -/
def State.keyBytes (s : State) (k : Nat) : List Byte := if k = 0 then [] else s.rdBytes (Addr.otp k 0) 96

/-- Steps 1 to 3 of R120 after the header fields: LENGTH, then the signature. -/
def signatureBad (rd : Nat → Byte) (cfg : Bool) (s : State) : Option Bad :=
  let n := fileN rd 8 4
  let a := n - 128
  let k := fileN rd (a + 4) 1
  chkFirst 0 0xFF [
    (a, fileN rd a 4 = 0x47534A52, 0x01),
    (a + 4, s.keyUsable k cfg, 0x05),
    (a + 5, fileN rd (a + 5) 1 = 1, 0x02),
    (a + 6, fileN rd (a + 6) 26 = 0, 0x0C),
    (0, Config.signatureOk (fileBytes rd 0 (n - 96)) k (s.keyBytes k) (fileBytes rd (a + 32) 96), 0x06)]

/-- The check of a firmware slot (R477, R479): the failure, if any. -/
def fwBad (slot : Nat) (s : State) : Option Bad :=
  let rd : Nat → Byte := fun i => s.flashB (fwBase slot + i)
  let n := fileN rd 8 4
  (chkFirst 0 0xFF [
    (0, fileN rd 0 4 = 0x49574651, 0x01), (4, fileN rd 4 1 = 1, 0x02), (5, fileN rd 5 1 ≠ 0, 0x0C), (5, fileN rd 5 1 ≤ s.compat, 0x03),
    (6, fileN rd 6 2 = 0, 0x0C), (16, fileN rd 16 2 ≠ 0, 0x0C), (18, fileN rd 18 2 = 0, 0x0C),
    (8, n % 64 = 0 ∧ 320 ≤ n ∧ n ≤ 0x400000, 0x04)]).orElse (fun _ => signatureBad rd false s)

/-- SET_FORMAT of a firmware slot. -/
def State.fwFormat (s : State) (slot : Nat) : Nat := fileN (fun i => s.flashB (fwBase slot + i)) 16 2

/-! ### The boot record (R475, Table 18-2) -/

/-- The bytes of a boot record before its CRC. -/
def BootRec.head (r : BootRec) : List Byte :=
  leBytes 4 0x43524251 ++ leBytes 4 r.seq ++ leBytes 1 r.slotA ++ leBytes 1 r.prevA ++ leBytes 1 r.slotB ++ leBytes 1 r.prevB ++
    leBytes 1 ((if r.trialA then 1 else 0) + (if r.trialB then 2 else 0) + (match r.held with | some h => 4 + 8 * h | none => 0)) ++ [0, 0, 0]

/-- The copy in flash, when its MAGIC and CRC are correct. -/
def State.recCopy (s : State) (c : Nat) : Option BootRec :=
  let rd : Nat → Byte := fun i => s.flashB (c * 0x1000 + i)
  if fileN rd 0 4 = 0x43524251 ∧ crc32 (fileBytes rd 0 16) = fileN rd 16 4 then
    let f := fileN rd 12 1
    some { seq := fileN rd 4 4, slotA := fileN rd 8 1, prevA := fileN rd 9 1, slotB := fileN rd 10 1, prevB := fileN rd 11 1,
           trialA := bitAt f 0, trialB := bitAt f 1, held := if bitAt f 2 then some (f / 8 % 2) else none }
  else none

/-- The number of the copy in force, and its record. -/
def State.recInForce (s : State) : Option (Nat × BootRec) :=
  match s.recCopy 0, s.recCopy 1 with
  | some a, some b => if a.seq < b.seq then some (1, b) else some (0, a)
  | some a, none => some (0, a)
  | none, some b => some (1, b)
  | none, none => none

/-- Writes the record (R475): the copy that is not in force takes it, with SEQ one higher. -/
def programRecord (s : State) : State :=
  let (c, seq) := match s.recInForce with | some (c, r) => (1 - c, r.seq + 1) | none => (0, 1)
  let r := { s.boot.rec_ with seq := seq % 2 ^ 32 }
  let a := Addr.flash 0 (c * 0x1000)
  let s1 := s.resetMem (fun x => decide (a ≤ x ∧ x < a + 0x1000))
  let s2 := s1.wrBytes a (r.head ++ leBytes 4 (crc32 r.head))
  { s2 with boot := { s2.boot with rec_ := r } }

def BootRec.slot (r : BootRec) : Twin → Nat
  | .a => r.slotA
  | .b => r.slotB
def BootRec.prev (r : BootRec) : Twin → Nat
  | .a => r.prevA
  | .b => r.prevB
def BootRec.trial (r : BootRec) : Twin → Bool
  | .a => r.trialA
  | .b => r.trialB
/-- The record with the slots and TRIAL bit of one twin. -/
def BootRec.put (r : BootRec) (w : Twin) (slot prev : Nat) (trial : Bool) : BootRec :=
  match w with
  | .a => { r with slotA := slot, prevA := prev, trialA := trial }
  | .b => { r with slotB := slot, prevB := prev, trialB := trial }

def Fld.bootTrial : Twin → Fld
  | .a => Fld.BOOT_STAT_TRIAL_A
  | .b => Fld.BOOT_STAT_TRIAL_B
def Fld.bootSlot : Twin → Fld
  | .a => Fld.BOOT_STAT_SLOT_A
  | .b => Fld.BOOT_STAT_SLOT_B
def Fld.bootFell : Twin → Fld
  | .a => Fld.BOOT_STAT_FELL_BACK_A
  | .b => Fld.BOOT_STAT_FELL_BACK_B
def Fld.bootReverted : Twin → Fld
  | .a => Fld.BOOT_STAT_REVERTED_A
  | .b => Fld.BOOT_STAT_REVERTED_B

/-- The write of a boot record among the flash commands (R476): behind the running command, ahead of every other. One that waits already
serves. -/
def queueRecord (l : List FlashJob) : List FlashJob :=
  let job : FlashJob := { ch := 2, op := 8, len := 0, addr := 0, dst := 0, bytes := [] }
  match l with
  | [] => [job]
  | x :: rest => if rest.any (fun j => decide (j.op = 8)) then l else x :: job :: rest

/-- Changes the record: a write of it is due (R476), and BOOT_STAT shows the TRIAL bits. -/
def State.setRec (s : State) (r : BootRec) : State :=
  let s1 := { s with boot := { s.boot with rec_ := r }, flash := queueRecord s.flash }
  (s1.sb Reg.BOOT_STAT Fld.BOOT_STAT_TRIAL_A r.trialA).sb Reg.BOOT_STAT Fld.BOOT_STAT_TRIAL_B r.trialB

/-- The twin is a Fiddlehead (R485). -/
def State.fiddlehead (s : State) (w : Twin) : Bool := s.boot.rec_.trial w

def Boot.setTrial (b : Boot) (w : Twin) (x : Option Nat) : Boot :=
  match w with
  | .a => { b with trialA := x }
  | .b => { b with trialB := x }
def Boot.setStart (b : Boot) (w : Twin) (x : Option Nat) : Boot :=
  match w with
  | .a => { b with startA := x }
  | .b => { b with startB := x }
def Boot.trial (b : Boot) : Twin → Option Nat
  | .a => b.trialA
  | .b => b.trialB
/-- The raw instant at which the start sequence that runs began. -/
def Boot.start (b : Boot) : Twin → Option Nat
  | .a => b.startA
  | .b => b.startB

/-! ### Twin reset and start -/

def Fld.iso : Twin → Fld
  | .a => Fld.TWIN_CTL_ISO_A
  | .b => Fld.TWIN_CTL_ISO_B

def Fld.rst : Twin → Fld
  | .a => Fld.TWIN_CTL_RST_A
  | .b => Fld.TWIN_CTL_RST_B

def State.started (s : State) : Twin → Bool
  | .a => s.dev.startA
  | .b => s.dev.startB

def State.setStarted (s : State) (w : Twin) (v : Bool) : State :=
  match w with
  | .a => { s with dev := { s.dev with startA := v } }
  | .b => { s with dev := { s.dev with startB := v } }

/-- The byte lies in a twin: its private aperture, its DRAM, its image or its inner memories. -/
def memInTwin (w : Twin) (a : Nat) : Bool :=
  decide ((w.base ≤ a ∧ a < w.base + 0x10000000) ∨ (Addr.dram w 0 ≤ a ∧ a < Addr.dram w 0 + 0x1000000000) ∨
    (Addr.img w 0 0 0 ≤ a ∧ a < Addr.img w 0 0 0 + Addr.imgSpan) ∨ (Addr.inner w 0 0 ≤ a ∧ a < Addr.inner w 0 0 + 0x100000000000))

/-- A twin's newest digest is gone. -/
def Peri.dropDigest (p : Peri) : Twin → Peri
  | .a => { p with digA := none }
  | .b => { p with digB := none }

/-- A twin reset (Table 1-7, R9): the CTX and TWIN registers of the twin, its cores, pipeline, banks and DRAM. The registers of domain DEV
that lie in a twin stay. -/
def State.twinReset (s : State) (w : Twin) : State :=
  let s1 := s.resetRegs (fun a => inTwin w a && (domainOf a = some .ctx || domainOf a = some .twin))
  let s2 := s1.resetMem (memInTwin w)
  let s3 := (s2.modTw w (fun _ => TwinState.reset)).setStarted w false
  { s3 with boot := (s3.boot.setTrial w none).setStart w none, peri := s3.peri.dropDigest w }

/-- Firmware is copied into a twin, checked and started (R480): SLOT, then PREV, then GOLD. A twin without a good slot stays OFF. -/
def startFirmware (w : Twin) (s : State) : State :=
  let r := s.boot.rec_
  let tried := [r.slot w, r.prev w, 0]
  match tried.find? (fun x => decide (x ≤ 2) && (fwBad x s).isNone) with
  | none => { s with boot := s.boot.setStart w none }
  | some x =>
    let s1 := s.sf Reg.BOOT_STAT (Fld.bootSlot w) x
    let s2 := if x = r.slot w then s1 else s1.sf Reg.BOOT_STAT (Fld.bootFell w) (1 + x)
    let s3 := s2.setReg (Reg.UPD_FW_VER w) (BitVec.ofNat 32 (fileN (fun i => s2.flashB (fwBase x + i)) 12 4))
    { s3 with boot := s3.boot.setStart w (some s3.now) }

/-- A twin restarts (R482): twin reset, then firmware. RST holds it in reset (R38). Its role is the caller's. -/
def restartFirmware (w : Twin) (s : State) : State :=
  let s1 := s.twinReset w
  if s1.rb Reg.TWIN_CTL (Fld.rst w) then s1 else startFirmware w s1

/-- The first part of a revert (R488): the record, REVERTED, and E16. A held settings half is released (R490). -/
def revertRecord (w : Twin) (reason : Nat) (s : State) : State :=
  let r := s.boot.rec_
  let s1 := s.setRec { r.put w (r.prev w) (r.prev w) false with held := none }
  let s2 := { s1 with boot := s1.boot.setTrial w none }
  (s2.sb Reg.BOOT_STAT (Fld.bootReverted w) true).raiseTh 16 (reason + 128 * w.code)

end Sys2Proof.Machine
end

