-- ==== Sys2Proof/Machine/Line.lean ====
section
/-!
DEFINITION. The line code of the Proren link (R267 to R269): the 8b10b code of IEEE 802.3 Clause 36, the special characters of Table 10-2, and
what a packet is on the wire. The code tables are Clause 36's, which R267 names and the spec does not print: PRESUMED
(notes/assumptions/42.md). A code is its 10 bits as a number, the first bit on the line first: abcdei, then fghj.
-/
namespace Sys2Proof.Machine

/-! ### The code of a character -/

/-- The 6-bit sub-blocks of D.0 to D.31 at negative disparity. -/
def sixNeg : List Nat :=
  [0b100111, 0b011101, 0b101101, 0b110001, 0b110101, 0b101001, 0b011001, 0b111000] ++
  [0b111001, 0b100101, 0b010101, 0b110100, 0b001101, 0b101100, 0b011100, 0b010111] ++
  [0b011011, 0b100011, 0b010011, 0b110010, 0b001011, 0b101010, 0b011010, 0b111010] ++
  [0b110011, 0b100110, 0b010110, 0b110110, 0b001110, 0b101110, 0b011110, 0b101011]

/-- The 4-bit sub-blocks of D.x.0 to D.x.6 and the two forms of D.x.7 at negative disparity. -/
def fourNeg : List Nat := [0b1011, 0b1001, 0b0101, 0b1100, 0b1101, 0b1010, 0b0110, 0b1110, 0b0111]

/-- The 4-bit sub-blocks of K.x.0 to K.x.7 at negative disparity. -/
def fourNegK : List Nat := [0b1011, 0b0110, 0b1010, 0b1100, 0b1101, 0b0101, 0b1001, 0b0111]

/-- The ones among the `n` low bits. -/
def onesOf (n v : Nat) : Nat := ((List.range n).filter (fun i => bitAt v i)).length

/-- A sub-block of `n` bits at the running disparity `plus`, from its form at negative disparity: it is inverted at positive disparity when it
is unbalanced, or one of those that Clause 36 inverts though they are balanced. -/
def subBlock (n : Nat) (inverts plus : Bool) (v : Nat) : Nat :=
  if plus && (inverts || decide (2 * onesOf n v ≠ n)) then 2 ^ n - 1 - v else v

/-- The running disparity after a sub-block of `n` bits: balanced ones keep it, but for 000111, 111000, 0011 and 1100. -/
def disparityAfter (n : Nat) (plus : Bool) (v : Nat) : Bool :=
  if 2 * onesOf n v = n then
    (if v = 2 ^ (n / 2) - 1 then true else if v = (2 ^ (n / 2) - 1) * 2 ^ (n / 2) then false else plus)
  else decide (n < 2 * onesOf n v)

/-- D.x.7 takes its second form here, so that no run of five begins. -/
def altSeven (plus : Bool) (x : Nat) : Bool := if plus then decide (x = 11 ∨ x = 13 ∨ x = 14) else decide (x = 17 ∨ x = 18 ∨ x = 20)

/-- The code of a character (`k` for a special one) at a running disparity, and the disparity after it. -/
def codeChar (plus k : Bool) (b : Byte) : Nat × Bool :=
  let x := b.toNat % 32
  let y := b.toNat / 32
  let six := if k ∧ x = 28 then subBlock 6 false plus 0b001111 else subBlock 6 (decide (x = 7)) plus (sixNeg.getD x 0)
  let mid := disparityAfter 6 plus six
  let four := if k then subBlock 4 true mid (fourNegK.getD y 0)
    else subBlock 4 (decide (y = 3)) mid (fourNeg.getD (if y = 7 ∧ altSeven mid x then 8 else y) 0)
  (six * 16 + four, disparityAfter 4 mid four)

/-- The codes of characters in a row, and the disparity after them. -/
def codeChars : Bool → List (Bool × Byte) → List Nat × Bool
  | plus, [] => ([], plus)
  | plus, (k, b) :: rest =>
    let c := codeChar plus k b
    let r := codeChars c.2 rest
    (c.1 :: r.1, r.2)

/-! ### Special characters and packets (Table 10-2, R268, R269) -/

def charIdle : List (Bool × Byte) := [(true, 0xBC), (false, 0x50)]
def charSop : Bool × Byte := (true, 0xFB)
def charEop : Bool × Byte := (true, 0xFD)
def charAbort : Bool × Byte := (true, 0xFE)
def charWake : Bool × Byte := (true, 0xFC)

/-- A packet with its CRC, most significant byte first. -/
def withCrc (b : List Byte) : List Byte := b ++ beBytes 4 (crc32 b)

/-- The characters of a packet of these bytes: SOP, the bytes with the CRC, and EOP. -/
def packetChars (bytes : List Byte) : List (Bool × Byte) := charSop :: (bytes.map (fun b => (false, b)) ++ [charEop])

/-- The codes that an output of a strand port puts on the line; IDLE fills what lies between two packets. -/
def Out.codes : Out → List Nat
  | .strand _ _ plus bs => (codeChars plus (packetChars bs)).1
  | .abort _ _ plus => [(codeChar plus charAbort.1 charAbort.2).1]
  | .wake _ _ plus => (codeChars plus (List.replicate 256 charWake)).1
  | _ => []

/-- The running disparity of a port's line becomes `plus`. -/
def State.setRd (s : State) (p : Nat) (plus : Bool) : State :=
  { s with dev := { s.dev with rd := if plus then s.dev.rd ||| BitVec.ofNat 128 (2 ^ p) else s.dev.rd &&& ~~~BitVec.ofNat 128 (2 ^ p) } }

/-- A packet leaves on the ball of a port, its SOP at an instant (R269). -/
def State.emitPkt (s : State) (p at_ : Nat) (b : List Byte) : State :=
  let rd := s.dev.rd.getLsbD p
  (s.setRd p (codeChars rd (packetChars (withCrc b))).2).emit (.strand p at_ rd (withCrc b))

/-- The WAKE pattern leaves (R289, R294): 256 characters. -/
def State.emitWake (s : State) (p : Nat) : State :=
  let rd := s.dev.rd.getLsbD p
  (s.setRd p (codeChars rd (List.replicate 256 charWake)).2).emit (.wake p s.now rd)

/-- The packet in progress on a port is abandoned (R268, Table 13-5): ABORT leaves. How much of the packet had left, and so the disparity at
ABORT, is open here: a free value. -/
def State.emitAbort (s : State) (p : Nat) : State :=
  let (v, s1) := s.fresh
  let rd : Bool := decide (v % 2 = 1)
  (s1.setRd p (codeChar rd charAbort.1 charAbort.2).2).emit (.abort p s1.now rd)

end Sys2Proof.Machine
end

