-- ==== Sys2Proof/Machine/Roles.lean ====
section
/-!
DEFINITION. The roles of the twins (R338 to R341), what a change of role does, health words (R350), a twin reset, and the swap that is
due at a tick (R44).
-/
namespace Sys2Proof.Machine

/-- Sets the frame flags of the present tick interval (Table 2-5). -/
def State.frameFlag (s : State) (f : Nat) : State := { s with tg := { s.tg with cur := { s.tg.cur with flags := s.tg.cur.flags ||| f } } }

/-- Every strand port is driven by the Thallus in SAFE (R43, R468): DEV_STAT.SAFE_ON. -/
def State.safeOn (s : State) : Bool := s.rb Reg.OUT_CTL Fld.OUT_CTL_SAFE || decide (s.pwr.ports = 2)

/-- Every strand port is driven by the Thallus in HOLD (R39, R42, R44, R341): DEV_STAT.HOLD_ON. -/
def State.holdOn (s : State) : Bool :=
  !s.safeOn && (s.rb Reg.OUT_CTL Fld.OUT_CTL_HOLD || s.dev.resetHold || decide (s.pwr.ports = 1) || decide (s.active = none) || s.peri.parked)

/-- The next frame of every strand port is forced full (R280). -/
def State.forceFullAll (s : State) : State := { s with fullDue := BitVec.allOnes 128 }

/-- A strand port is in HOLD or SAFE (R69). -/
def State.portHeld (s : State) : Bool := s.safeOn || s.holdOn

/-- The Peristome releases nothing to any strand port (R42 to R44, R341): HOLD or SAFE but for the time after a reset, when enumeration is
released (R281). -/
def State.portShut (s : State) : Bool :=
  s.safeOn || s.dev.testEn || s.rb Reg.OUT_CTL Fld.OUT_CTL_HOLD || decide (s.pwr.ports = 1) || decide (s.active = none) || s.peri.parked

/-- A HOLD packet (Table 10-6). -/
def holdPkt (safe gen : Bool) : List Byte := [4, BitVec.ofNat 8 ((if safe then 1 else 0) + (if gen then 2 else 0)), 0, 0, 0, 0, 0, 0]

/-- The ports that the Thallus drives with HOLD packets (R39, R42, R43, R68, R116, R349). -/
def State.keepalivePorts (s : State) : List Nat :=
  let ws := match s.active with
    | some w => [w]
    | none => twins
  (List.range 128).filter (fun p =>
    let was := s.dev.wasProren.contains p
    let prn : Bool := ws.any (fun w => decide (s.personality w p = 1)) || (s.dev.resetHold && was) ||
      (s.rb Reg.OUT_CTL Fld.OUT_CTL_HOLD && !s.safeOn && was && ws.all (fun w => decide (s.personality w p = 0)))
    prn && decide (s.dev.tap = 0) && !s.dev.testEn && !s.mainOff && (s.portHeld || s.dev.inReset || s.peri.keepalive.contains p || !s.dev.emitted.contains p))

/-- The first packet boundary of the enumeration traffic on a port at or after an instant (R281). -/
def State.boundary (s : State) (p x : Nat) : Nat :=
  (s.dev.traffic.filter (fun e => decide (e.1 = p))).foldl (fun t e => if e.2.1 < t ∧ t < e.2.2 then e.2.2 else t) x

/-- The generator sends a HOLD on a port now. -/
def genHold (p : Nat) (s : State) : State :=
  let s1 : State := { s with dev := { s.dev with gen := s.dev.gen.filter (fun e => decide (e.1 ≠ p)) ++ [(p, s.now, s.safeOn)] } }
  s1.emitPkt p (s.boundary p s.now) (holdPkt s.safeOn true)

/-- What the generator drives follows the state (R281): a port that it begins to drive, or whose HOLD and SAFE change, has a HOLD at once. -/
def syncGen (s : State) : State :=
  let ps := s.keepalivePorts
  let s1 : State := { s with dev := { s.dev with gen := s.dev.gen.filter (fun e => ps.contains e.1),
                                                 traffic := s.dev.traffic.filter (fun e => decide (s.now < e.2.2)) } }
  (ps.filter (fun p => !s1.dev.gen.any (fun e => decide (e.1 = p) && decide (e.2.2 = s1.safeOn)))).foldl (fun x p => genHold p x) s1

/-- A change from one state to another: where it ends the HOLD or SAFE of the strand ports, their next frame is forced full (R280); the
keepalive generator follows it (R281). -/
def leaveHold (old new : State) : State := syncGen (if old.portHeld && !new.portHeld then new.forceFullAll else new)

/-- What RESYNC begins with (R362): TWIN_FAULT cleared, and the copy under way when the other twin is ACTIVE. -/
def State.beginResync (s : State) (w : Twin) : State :=
  let s1 := s.setReg (Reg.TWIN_FAULT w) 0
  let s2 := { s1 with peri := { s1.peri with copyEnd := none, restarts := 0, joinTick := none, joined := false, dirty := false } }
  let s3 := s2.sf Reg.PERI_RESYNC Fld.PERI_RESYNC_TWIN w.code
  if s3.roleOf w.other = .active then
    let s4 := { s3 with peri := { s3.peri with total := some s3.free }, free := s3.free + 1 }
    ((s4.sf Reg.PERI_RESYNC Fld.PERI_RESYNC_PHASE 1).sf Reg.PERI_RESYNC Fld.PERI_RESYNC_COPIED 0)
  else s3.sf Reg.PERI_RESYNC Fld.PERI_RESYNC_PHASE 0

/-- The twin in RESYNC, if there is one. -/
def State.joining (s : State) : Option Twin :=
  if s.role.a = .resync then some .a else if s.role.b = .resync then some .b else none

/-- Raises what a twin's entry into a role raises (R340): E4, E5, E6. -/
def State.roleEvents (s : State) (old new : Role) : State :=
  if old = new then s
  else match new with
    | .diverged => s.raiseTh 4 0
    | .ready => s.raiseTh 5 0
    | .isolated => s.raiseTh 6 0
    | _ => s

/-- The roles in which a resync runs or settles (R362). -/
def Role.syncing : Role → Bool
  | .resync => true
  | .standby => true
  | _ => false

/-- A trial that ends because its twin enters ISOLATED or DIVERGED (R487): the twin restarts on its previous slot by a twin reset, and is
OFF, or stays ISOLATED under ISO (R38). -/
def revertEntered (w : Twin) (old new : Role) (s : State) : State :=
  if s.fiddlehead w && decide (old ≠ new) && (decide (new = .isolated) || decide (new = .diverged)) then
    let s1 := restartFirmware w (revertRecord w 2 s)
    let r := if s1.rb Reg.TWIN_CTL (Fld.iso w) then Role.isolated else Role.off
    match w with
    | .a => { s1 with role := ⟨r, s1.role.b⟩ }
    | .b => { s1 with role := ⟨s1.role.a, r⟩ }
  else s

/-- The role change (R339, R340, R48): both roles at once. The events follow in ascending number, E7 last, whose data is the twin ACTIVE
after the change. A twin that enters RESYNC starts its resync, and one that waits for an ACTIVE twin starts its copy when there is one. -/
def State.setRoles (s : State) (ra rb : Role) : State :=
  let oa := s.role.a
  let ob := s.role.b
  let before := s.active
  let s1 := { s with role := ⟨ra, rb⟩ }
  let s2 := if ra = .resync ∧ (oa ≠ .resync ∨ (before ≠ s1.active ∧ s1.peri.joined = false)) then s1.beginResync .a else s1
  let s3 := if rb = .resync ∧ (ob ≠ .resync ∨ (before ≠ s1.active ∧ s1.peri.joined = false)) then s2.beginResync .b else s2
  let s4 := if (oa.syncing && !ra.syncing) || (ob.syncing && !rb.syncing) then
      (s3.sf Reg.PERI_RESYNC Fld.PERI_RESYNC_PHASE 0) else s3
  let s5 := if ra = .standby ∨ rb = .standby then { s4 with peri := { s4.peri with undecided := s4.peri.undecided &&
      !((ra = .standby ∧ oa ≠ .standby) ∨ (rb = .standby ∧ ob ≠ .standby)) } } else s4
  let s6 := (s5.roleEvents oa ra).roleEvents ob rb
  let s6 := if s6.active.isSome then { s6 with dev := { s6.dev with everActive := true }, peri := { s6.peri with lost := none } } else s6
  let s7 := if before = s6.active then s6
    else leaveHold s (({ s6 with peri := { s6.peri with forced := false, parked := false } }.frameFlag 32).raiseTh 7
      (match s6.active with | some w => w.code | none => 0xFF))
  revertEntered .b ob rb (revertEntered .a oa ra s7)

/-- One twin changes role. -/
def State.setRole (s : State) (w : Twin) (r : Role) : State :=
  match w with
  | .a => s.setRoles r s.role.b
  | .b => s.setRoles s.role.a r

/-- The roles of two twins, the first being `w`. -/
def State.setRoles2 (s : State) (w : Twin) (rw ro : Role) : State :=
  match w with
  | .a => s.setRoles rw ro
  | .b => s.setRoles ro rw

/-- Isolation of a twin (R41, R47, R354): its ISO bit is set and it is ISOLATED. -/
def State.isolate (s : State) (w : Twin) : State := (s.sb Reg.TWIN_CTL (Fld.iso w) true).setRole w .isolated

/-- Twin reset by RST (R38, R47): an ISOLATED twin stays ISOLATED, and a trial ends (R487). -/
def State.holdReset (s : State) (w : Twin) : State :=
  let s0 := s.sb Reg.TWIN_CTL (Fld.rst w) true
  let s1 := (if s0.fiddlehead w then revertRecord w 2 s0 else s0).twinReset w
  if s1.rb Reg.TWIN_CTL (Fld.iso w) then s1.setRole w .isolated else s1.setRole w .off

/-- Records a health bit of a twin (R350): the flag, the instant, and its action at the next tick (R352). Health words of a twin that is
OFF or ISOLATED are ignored (R351), but for one whose rail fell while it was ACTIVE (R471). -/
def State.setHealth (s : State) (w : Twin) (bit : Nat) : State :=
  if (s.roleOf w = .off ∧ s.peri.lost ≠ some w) ∨ s.roleOf w = .isolated then s
  else
    let m := 2 ^ bit
    let p := s.peri
    let dirty := p.dirty || decide (s.standby = some w)
    let miss := p.missNow || (decide (bit = 8) && decide (s.active = some w))
    match w with
    | .a => { s.orReg Reg.PERI_HEALTH_A m with
        peri := { p with setA := Smap.set 0 p.setA bit (s.now + 1), dueA := p.dueA ||| m, dirty := dirty, missNow := miss } }
    | .b => { s.orReg Reg.PERI_HEALTH_B m with
        peri := { p with setB := Smap.set 0 p.setB bit (s.now + 1), dueB := p.dueB ||| m, dirty := dirty, missNow := miss } }

/-- The health bits of a twin set at or after the raw instant `since` (R353). -/
def State.flagsSince (s : State) (w : Twin) (since : Nat) : Nat :=
  let l := match w with | .a => s.peri.setA | .b => s.peri.setB
  l.foldl (fun acc (b, t) => if since + 1 ≤ t then acc ||| 2 ^ b else acc) 0

/-- A host request refused under R37 or R44. -/
def State.refuse (s : State) : State := s.sb Reg.DEV_STAT Fld.DEV_STAT_REFUSED true

/-- What is stronger when requests share a swap: a reset, then a restart, an isolation, a resync, a plain swap. Under a reset or a restart
the ISO bit decides between OFF and ISOLATED. -/
def SwapThen.rank : SwapThen → Nat
  | .ready => 0
  | .resync => 1
  | .isolate => 2
  | .restart => 3
  | .reset => 4

/-- A swap is due at the next tick (R37, R44, R47, R344, R482); it shares the one that is due already. -/
def State.addSwap (s : State) (d : SwapDue) : State :=
  match s.swapDue with
  | some e =>
    if e.from_ = d.from_ then
      { s with swapDue := some { from_ := e.from_, then_ := if e.then_.rank < d.then_.rank then d.then_ else e.then_, byHost := e.byHost || d.byHost } }
    else { s with swapDue := some d }
  | none => { s with swapDue := some d }

/-- A reset or an isolation that waits for its swap is withdrawn when its bit is cleared before the tick; the swap itself stays due.
DESIGN CHOICE (notes/assumptions/34.md). -/
def State.withdraw (s : State) (w : Twin) : State :=
  match s.swapDue with
  | some d =>
    if d.from_ = w ∧ (d.then_ = .reset ∨ d.then_ = .isolate) then
      let t := if s.rb Reg.TWIN_CTL (Fld.rst w) then SwapThen.reset else if s.rb Reg.TWIN_CTL (Fld.iso w) then .isolate else .ready
      { s with swapDue := some { d with then_ := t } }
    else s
  | none => s

/-- The swap that is due at this tick (R44, R37, R47): made if the standby is STANDBY-READY, the ACTIVE twin has not changed and no
arbitration is pending; otherwise refused, with the request that waited for it. -/
def State.doSwapDue (s : State) : State :=
  match s.swapDue with
  | none => s
  | some d =>
    let s0 := { s with swapDue := none }
    let o := d.from_.other
    if s0.active = some d.from_ ∧ s0.roleOf o = .ready ∧ s0.peri.arb = none then
      match d.then_ with
      | .ready => s0.setRoles2 d.from_ .ready .active
      | .resync => s0.setRoles2 d.from_ .resync .active
      | .isolate => (s0.sb Reg.TWIN_CTL (Fld.iso d.from_) true).setRoles2 d.from_ .isolated .active
      | .reset => (s0.setRoles2 d.from_ .ready .active).holdReset d.from_
      | .restart => { s0.setRoles2 d.from_ .ready .active with boot := { s0.boot with afterSwap := some d.from_ } }
    else
      if !d.byHost then s0
      else
        let s1 := s0.refuse
        if d.then_ = .ready ∨ s0.roleOf d.from_ = .off then s1
        else
          let s2 := s1.sb Reg.TWIN_CTL (Fld.rst d.from_) false
          if s0.roleOf d.from_ = .isolated then s2 else s2.sb Reg.TWIN_CTL (Fld.iso d.from_) false

/-- The part is in NAP (R460). -/
def State.inNap (s : State) : Bool := decide (s.rf Reg.PWR_STAT Fld.PWR_STAT_STATE = 3)

/-- Sorus dispatches nothing: from step 3 of a sleep sequence to the end of the wake (Table 17-3, R463). -/
def State.asleep (s : State) : Bool :=
  decide (3 ≤ s.rf Reg.PWR_STAT Fld.PWR_STAT_STATE) ||
    (decide (3 ≤ s.rf Reg.PWR_STAT Fld.PWR_STAT_PHASE) && decide (s.rf Reg.PWR_STAT Fld.PWR_STAT_PHASE ≤ 9))

/-- A twin takes ACTIVE after a reset (R18): the other, started and OFF, enters RESYNC at the same instant. -/
def State.takeActive (s : State) (w : Twin) : State :=
  let o := w.other
  let ro := if s.roleOf o = .off ∧ s.started o ∧ !s.rb Reg.TWIN_CTL (Fld.rst o) ∧ !s.rb Reg.TWIN_CTL (Fld.iso o) then .resync else s.roleOf o
  s.setRoles2 w .active ro

/-! ### Restart in place (R483) -/

/-- A byte of a twin's DRAM. -/
def memInDram (w : Twin) (a : Nat) : Bool := decide (Addr.dram w 0 ≤ a ∧ a < Addr.dram w 0 + 0x1000000000)

/-- A twin reset with the twin's DRAM held in self-refresh. -/
def State.resetKeepingDram (s : State) (w : Twin) : State :=
  { s.twinReset w with mem := s.mem.filter (fun e => !memInTwin w e.1 || memInDram w e.1) }

/-- The handover record: the committed show state of the twin that restarts. -/
def State.handover (s : State) (w : Twin) : Handover :=
  { w := w, tw := s.tw w, regs := s.regs.filter (fun e => inTwin w e.1),
    mem := s.mem.filter (fun e => memInTwin w e.1 && !memInDram w e.1) }

/-- Steps 1 to 3 of R483: the twin that restarts is OFF from here on, so that every strand port is held; the other waits for it. -/
def inPlaceStart (w : Twin) (s : State) : State :=
  let o := w.other
  let ro := if s.roleOf o = .off ∨ s.roleOf o = .isolated then s.roleOf o else .resync
  startFirmware w ((s.setRoles2 w .off ro).resetKeepingDram w)

/-- The restart in place whose handover record has been written begins at the latch. -/
def inPlaceLatch (s : State) : State :=
  match s.boot.hand with
  | some h => if s.roleOf h.w = .active then inPlaceStart h.w s else s
  | none => s

end Sys2Proof.Machine
end

