-- ==== Sys2Proof/Machine/Sorus.lean ====
section
/-!
DEFINITION. Sorus: pushes, pops, ordered flows, dispatch and the deadline (chapter 14).
-/
namespace Sys2Proof.Machine

/-- The whole tick number that 16 bits of an item's stamp name: the present interval, the next one, or the nearest earlier one (R389). -/
def State.fullTick (s : State) (t16 : Nat) : Nat :=
  let k := s.tickNo
  if t16 = (k + 1) % 65536 then (k + 1) % 2 ^ 32
  else (k + 2 ^ 32 - (k + 65536 - t16) % 65536) % 2 ^ 32

/-- A body as eight 64-bit words, the first word first; missing bytes are 0. -/
def bodyWord (b : List Byte) (n : Nat) : Nat := leNat ((b.drop (8 * n)).take 8)

/-- Puts a body in a requester's SORUS_DBODYn: 0 beyond ITEM_WORDS (R378, R384). -/
def State.setDbody (s : State) (w : Twin) (r : Nat) (b : List Byte) : State :=
  (List.range 8).foldl (fun s n => s.wr64 (banked r (Reg.SORUS_DBODY w n)) (bodyWord b n)) s

/-- The staging body of a requester, as bytes (R372). -/
def State.pbody (s : State) (w : Twin) (r : Nat) : List Byte :=
  (List.range 8).flatMap (fun n => leBytes 8 (s.rd64 (banked r (Reg.SORUS_PBODY w n))))

/-- A push to a full queue is discarded and counted (R371). -/
def pushLost (w : Twin) (q : Nat) (s : State) : State :=
  ((s.bump (Reg.SORUS_QCNT w q) Fld.SORUS_QCNT_OVERFLOW).bump (Reg.SORUS_CNT w) Fld.SORUS_CNT_OVERFLOW).raiseOnce
    w (Reg.SORUS_EVT_CTL w) Fld.SORUS_EVT_CTL_OVF_EN 72 q

/-- A push that comes later in its clock finds the queue full after all (R371, R373): the last slot of the queue is taken back. -/
def giveWay (w : Twin) (q : Nat) (t : Slot) (s : State) : State :=
  let m := 2 * max 1 (s.qDepth w q)
  let s1 := pushLost w q (s.modTw w (fun x =>
    let qu := x.sorus.queue q
    { x with sorus := x.sorus.setQueue q { qu with slots := qu.slots.dropLast, wr := (qu.wr + m - 1) % m } }))
  if t.by_ ≤ reqHost then s1.sf (banked t.by_ (Reg.SORUS_PUSH_STAT w)) Fld.SORUS_PUSH_STAT_REASON 1 else s1

/-- A push in its place among the pushes of its clock (R373). -/
def pushPlaced (w : Twin) (q by_ : Nat) (soft : Bool) (stampTick : Nat) (item : Item) (s : State) : PushResult × Bool × State :=
  let r := pushItem w q by_ soft stampTick item s
  match r.1, ((s.tw w).sorus.queue q).yields s.now by_ with
  | .full, some t => pushItem w q by_ soft stampTick item (giveWay w q t s)
  | _, _ => r

/-- Pushes an item with the counts and events of R371, R372, R375 and R393. Answers whether it was stored. -/
def pushCounted (w : Twin) (q by_ : Nat) (soft : Bool) (stampTick : Nat) (item : Item) (s : State) : PushResult × State :=
  let (r, cut, s1) := pushPlaced w q by_ soft stampTick item s
  let s2 := if cut then s1.bump (Reg.SORUS_ERR w) Fld.SORUS_ERR_PKT_TRUNC else s1
  let ctl := Reg.SORUS_EVT_CTL w
  let s3 := match r with
    | .done _ => s2
    | .full => pushLost w q s2
    | .bank =>
      let b := s2.ent w 4 0 q 2 1
      pushLost w q ((s2.bankViol w b).raiseOnce w (Reg.BANK_EVT_CTL w) Fld.BANK_EVT_CTL_VIOL_EN 76 b)
    | .window =>
      ((s2.bump (Reg.SORUS_ERR w) Fld.SORUS_ERR_REFUSED).bump (Reg.SORUS_FCNT w item.flow) Fld.SORUS_FCNT_FULL).raiseOnce
        w ctl Fld.SORUS_EVT_CTL_FULL_EN 73 item.flow
    | _ => (s2.bump (Reg.SORUS_ERR w) Fld.SORUS_ERR_REFUSED).raiseOnce w ctl Fld.SORUS_EVT_CTL_REF_EN 75 q
  (r, s3)

/-- Changes the Sorus of a twin. -/
def State.modSorus (s : State) (w : Twin) (f : Sorus → Sorus) : State := s.modTw w (fun t => { t with sorus := f t.sorus })

/-- The slot of a flow's item with a sequence number. -/
def Queue.slotOf? (q : Queue) (f seq : Nat) : Option Slot :=
  q.slots.find? (fun sl => sl.item.flowed && sl.item.flow = f && sl.item.seq = seq && sl.st ≠ .freed)

/-- Replaces the state of a flow item's slot. -/
def Queue.markSlot (q : Queue) (f seq : Nat) (st : SlotSt) : Queue :=
  { q with slots := q.slots.map (fun sl =>
      if sl.item.flowed && sl.item.flow = f && sl.item.seq = seq && sl.st ≠ .freed then { sl with st := st } else sl) }

/-- Hands on the released items of a flow in SEQ order (R382): `fuel` is at least OUT. -/
def drainFlow (w : Twin) (f : Nat) : Nat → State → State
  | 0, s => s
  | fuel + 1, s =>
    let o := (s.tw w).sorus
    let q := s.flowQueue w f
    let fl := o.flow f
    match (o.queue q).slotOf? f fl.nextRel with
    | none => s
    | some sl =>
      match sl.st with
      | .released drop dst typ body =>
        let item : Item := { typ := typ, prio := s.qPrio w dst, more := false, dl := sl.item.dl, flowed := false, flow := 0, seq := 0,
                             tick := sl.item.tick, body := fitBody (8 * s.qWords w q) body }
        let s1 := if drop then s.bump (Reg.SORUS_FCNT w f) Fld.SORUS_FCNT_DROPPED else (pushCounted w dst (reqFlow f) false (s.fullTick sl.item.tick) item s).2
        let s2 := s1.modSorus w (fun o =>
          let qu := ((o.queue q).markSlot f fl.nextRel .freed).trim (s.qDepth w q)
          (o.setQueue q qu).setFlow f { fl with nextRel := (fl.nextRel + 1) % 1024, out := fl.out - 1 })
        drainFlow w f fuel s2
      | _ => s

/-- Frees the slot of an item that leaves a queue unpopped, or releases it as dropped when it is FLOWED (R377, R390). -/
def dropSlot (sl : Slot) : Slot :=
  { sl with st := if sl.item.flowed then .released true 0 0 [] else .freed, openTo := none }

/-- Drains every flow of a twin after slots were released as dropped. -/
def drainAll (w : Twin) (s : State) : State :=
  (List.range 256).foldl (fun s f => drainFlow w f ((s.tw w).sorus.flow f).out s) s

/-- Drops slots of a queue that a predicate picks, then drains the flow that uses the queue (R377). -/
def dropSlots (w : Twin) (q : Nat) (p : Slot → Bool) (s : State) : State :=
  let qu := (s.tw w).sorus.queue q
  let flows := (qu.slots.filter (fun sl => p sl && sl.item.flowed)).map (·.item.flow)
  let s1 := s.modSorus w (fun o =>
    o.setQueue q ({ o.queue q with slots := (o.queue q).slots.map (fun sl => if p sl then dropSlot sl else sl) }.trim (s.qDepth w q)))
  flows.dedup.foldl (fun s f => drainFlow w f ((s.tw w).sorus.flow f).out s) s1

/-- Discards the open packet of a requester on a queue (R377). -/
def dropOpenPkt (w : Twin) (q r : Nat) (s : State) : State :=
  dropSlots w q (fun sl => sl.st = .queued && sl.openTo = some r) s

/-- The tick with which a push of a requester is stamped (R389). -/
def State.stampTick (s : State) (w : Twin) (r : Nat) (next : Bool) : Nat :=
  let base := match (if r < 16 then (s.tw w).sorus.core r else []) with
    | top :: _ => if top.item.dl then s.fullTick top.item.tick else s.tickNo
    | [] => s.tickNo
  if next then (base + 1) % 2 ^ 32 else base

/-- A write of SORUS_PUSH in one twin (R372). -/
def pushWrite (r : Nat) (v : Word) (w : Twin) (s : State) : State :=
  let q := getFld v Fld.SORUS_PUSH_QUEUE
  let flowed := getFld v Fld.SORUS_PUSH_FLOWED = 1
  let stamp := s.stampTick w r (getFld v Fld.SORUS_PUSH_NEXT = 1)
  let item : Item :=
    { typ := getFld v Fld.SORUS_PUSH_TYPE,
      prio := if getFld v Fld.SORUS_PUSH_PRIO_EN = 1 then getFld v Fld.SORUS_PUSH_PRIO else s.qPrio w q,
      more := getFld v Fld.SORUS_PUSH_MORE = 1, dl := getFld v Fld.SORUS_PUSH_DL = 1, flowed := flowed,
      flow := if flowed then getFld v Fld.SORUS_PUSH_FLOW else 0, seq := 0, tick := 0, body := s.pbody w r }
  let (res, s1) := pushCounted w q r true stamp item s
  let a := banked r (Reg.SORUS_PUSH_STAT w)
  let s2 := match res with
    | .done n => if flowed then s1.sf a Fld.SORUS_PUSH_STAT_SEQ n else s1
    | _ => s1
  (s2.sf a Fld.SORUS_PUSH_STAT_REASON res.code).sf a Fld.SORUS_PUSH_STAT_DONE 1

/-- A write of SORUS_REL in one twin (R382, R383). -/
def relWrite (r : Nat) (v : Word) (w : Twin) (s : State) : State :=
  let f := getFld v Fld.SORUS_REL_FLOW
  let drop : Bool := getFld v Fld.SORUS_REL_DROP = 1
  let dst := getFld v Fld.SORUS_REL_DST
  let typ := getFld v Fld.SORUS_REL_TYPE
  let seq := s.rf (banked r (Reg.SORUS_REL_SEQ w)) Fld.SORUS_REL_SEQ_SEQ
  let q := s.flowQueue w f
  let o := (s.tw w).sorus
  let ok : Bool := match (o.queue q).slotOf? f seq with
    | some sl => decide (s.flowWindow w f ≠ 0) && decide (sl.st = .popped) && (drop || (s.qUsed w dst && decide (16 ≤ typ)))
    | none => false
  if ok then
    let body := fitBody (8 * s.qWords w q) (s.pbody w r)
    let s1 := s.modSorus w (fun o => o.setQueue q ((o.queue q).markSlot f seq (.released drop dst typ body)))
    drainFlow w f (o.flow f).out s1
  else
    (s.bump (Reg.SORUS_ERR w) Fld.SORUS_ERR_REL_ERR).raiseOnce w (Reg.SORUS_EVT_CTL w) Fld.SORUS_EVT_CTL_REF_EN 75 q

/-- SORUS_CUR of a core shows its top item (R384, R386). -/
def showCur (w : Twin) (c : Nat) (s : State) : State :=
  s.wr64 (banked c (Reg.SORUS_CUR w)) (match (s.tw w).sorus.core c with
    | top :: _ => (top.item.header top.q).toNat
    | [] => 0)

/-- SORUS_CMD.DONE of a core (R386, R387). -/
def coreDone (w : Twin) (c : Nat) (s : State) : State :=
  match (s.tw w).sorus.core c with
  | [] =>
    if s.rb (banked c (Reg.SORUS_CAUSE w)) Fld.SORUS_CAUSE_JOIN then s.sb (banked c (Reg.SORUS_CAUSE w)) Fld.SORUS_CAUSE_JOIN false
    else s
  | top :: rest =>
    showCur w c ((dropOpenPkt w top.q c s).modSorus w (fun o => o.setCore c rest))

/-- A pop by a requester (R374 to R376): the item taken, if any. -/
def popItem (w : Twin) (q r : Nat) (s : State) : Option Item × State :=
  match ((s.tw w).sorus.queue q).pop s.now (s.qDepth w q) r with
  | none => (none, s)
  | some (it, qu) => (some it, s.modSorus w (fun o => o.setQueue q qu))

/-- What a read of SORUS_POPq in one twin returns (R378): the header of the item, or 0. Its body lies in SORUS_DBODYn. -/
def popHeader (q r : Nat) (w : Twin) (s : State) : BitVec 64 × State :=
  match popItem w q r s with
  | (none, s1) => (0, s1.setDbody w r [])
  | (some it, s1) => (it.header q, s1.setDbody w r it.body)

/-- Who makes a 64-bit pop read on a path (R7): the core, or PCIe for a host's, whose row names no requester: DESIGN CHOICE
(notes/assumptions/34.md). -/
def popReader : Via → Requester
  | .core w c => .core w c
  | _ => .pcie

/-- A read of both words of SORUS_POPq in one twin by a requester (R7, R378). -/
def rawPop (req : Requester) (q r : Nat) (w : Twin) (s : State) : State :=
  ((popHeader q r w s).2.unlatch req (Reg.SORUS_POP w q)).emit (.header (popHeader q r w s).1)

/-- What a read of WIN_HDR in one twin returns (R379): the header of the item, or the one before it with UNDERRUN. -/
def windowHeader (q : Nat) (w : Twin) (s : State) : BitVec 64 × State :=
  match popItem w q (reqWindow q) s with
  | (none, s1) =>
    (((s1.tw w).sorus.queue q).winHdr, (s1.sb (Reg.SORUS_WIN_STAT w q) Fld.SORUS_WIN_STAT_UNDERRUN true).raiseOnce w (Reg.SORUS_EVT_CTL w)
      Fld.SORUS_EVT_CTL_UNDER_EN 74 q)
  | (some it, s1) =>
    let h := it.header q
    let s2 := s1.modSorus w (fun o => o.setQueue q { o.queue q with winHdr := h })
    (h, (List.range 8).foldl (fun s n => s.wr64 (Reg.SORUS_WIN_BODY w q n) (bodyWord it.body n)) s2)

/-- A read of both words of WIN_HDR in one twin by a requester (R7, R379). -/
def windowPop (req : Requester) (q : Nat) (w : Twin) (s : State) : State :=
  ((windowHeader q w s).2.unlatch req (Reg.SORUS_WIN_HDR w q)).emit (.header (windowHeader q w s).1)

/-- A pop read through the mirror aperture pops nothing and is counted (R380). -/
def mirrorHeader (win : Bool) (q : Nat) (w : Twin) (s : State) : BitVec 64 × State :=
  (if win then ((s.tw w).sorus.queue q).winHdr else 0, s.bump (Reg.SORUS_ERR w) Fld.SORUS_ERR_MIRROR_POP)

/-- A read that no twin serves (R23): DEV_STAT.NOTWIN_RD and E27. -/
def noTwinRead (s : State) : State := (s.sb Reg.DEV_STAT Fld.DEV_STAT_NOTWIN_RD true).raiseTh 27 0

/-- A pop read of both words through the mirror aperture by a requester: all ones when no twin is ACTIVE (R23), and a dead access in NAP
(R460). -/
def mirrorPopRead (req : Requester) (win : Bool) (q : Nat) (s : State) : State :=
  if s.dev.inReset || s.mainOff then s
  else if s.inNap then (s.bump Reg.MIRROR_STAT Fld.MIRROR_STAT_DEAD_ACC).emit (.header (BitVec.allOnes 64))
  else match s.active with
    | none => (noTwinRead s).emit (.header (BitVec.allOnes 64))
    | some w => ((mirrorHeader win q w s).2.unlatch req (if win then Reg.SORUS_WIN_HDR w q else Reg.SORUS_POP w q)).emit
        (.header (mirrorHeader win q w s).1)

/-- A core is in a system cause (R387, SORUS_CSTAT): a JOIN waits for its DONE, or a CTX for the core's own clear (DEDUCED,
notes/assumptions/50.md). -/
def State.inSysCause (s : State) (w : Twin) (c : Nat) : Bool :=
  s.rb (banked c (Reg.SORUS_CAUSE w)) Fld.SORUS_CAUSE_JOIN || s.rb (banked c (Reg.SORUS_CAUSE w)) Fld.SORUS_CAUSE_CTX

/-- A core is IDLE (R384): its stack is empty and it is in no system cause. -/
def State.coreIdle (s : State) (w : Twin) (c : Nat) : Bool := ((s.tw w).sorus.core c).isEmpty && !s.inSysCause w c

/-- A core is eligible for a queue (R384). -/
def State.eligible (s : State) (w : Twin) (q c : Nat) : Bool :=
  s.qUsed w q && bitAt (s.qCores w q) c && s.rb (Reg.SORUS_QCTL w q) Fld.SORUS_QCTL_DISP_EN

/-- Gives an item of queue `q` to core `c`, on top of its stack, with a cause bit (R384, R385). -/
def giveItem (w : Twin) (q c : Nat) (cause : Fld) (s : State) : State :=
  match popItem w q c s with
  | (none, s1) => s1
  | (some it, s1) =>
    let s2 := s1.modSorus w (fun o => o.setCore c ({ q := q, item := it, aborted := false } :: o.core c))
    ((showCur w c s2).setDbody w c it.body).sb (banked c (Reg.SORUS_CAUSE w)) cause true

/-- The better of two choices (priority, queue, core): higher priority, then lower queue. -/
def betterPick (a : Option (Nat × Nat × Nat)) (b : Nat × Nat × Nat) : Option (Nat × Nat × Nat) :=
  match a with
  | none => some b
  | some x => if x.1 < b.1 then some b else some x

/-- The dispatch that is due (R384): the queue whose readable item has the highest priority and its lowest-numbered IDLE eligible core. -/
def State.dispatchPick (s : State) (w : Twin) : Option (Nat × Nat × Nat) :=
  let o := (s.tw w).sorus
  (List.range 64).foldl (fun best q =>
    match (List.range 16).find? (fun c => s.eligible w q c && s.coreIdle w c && ((o.queue q).peek s.now c).isSome) with
    | none => best
    | some c => match (o.queue q).peek s.now c with
      | some sl => betterPick best (sl.item.prio, q, c)
      | none => best) none

/-- The pre-emption that is due (R385): a queue with DISPATCH = 1, no eligible core IDLE, and the eligible core whose top item has the
lowest priority below the item's. -/
def State.preemptPick (s : State) (w : Twin) : Option (Nat × Nat × Nat) :=
  let o := (s.tw w).sorus
  (List.range 64).foldl (fun best q =>
    let cs := (List.range 16).filter (fun c => s.eligible w q c)
    if !s.qPreempts w q || cs.any (fun c => s.coreIdle w c) then best
    else
      let lower := cs.filterMap (fun c => match o.core c, (o.queue q).peek s.now c with
        | top :: _, some sl => if top.item.prio < sl.item.prio then some (top.item.prio, sl.item.prio, c) else none
        | _, _ => none)
      match lower.foldl (fun (m : Option (Nat × Nat × Nat)) x => match m with
          | none => some x
          | some y => if x.1 < y.1 then some x else some y) none with
      | none => best
      | some (_, p, c) => betterPick best (p, q, c)) none

/-- The abort of frame work at a compute deadline (R390): the items with DL and the deadline's tick, their count, and what it leaves. -/
def sorusAbort (w : Twin) (k : Nat) (s : State) : Nat × State :=
  let o := (s.tw w).sorus
  let hit : Slot → Bool := fun sl => sl.item.dl && decide (sl.item.tick = k % 65536) &&
    (decide (sl.st = .queued) || decide (sl.st = .popped))
  let step := fun (acc : Nat × State) (q : Nat) =>
    let (n, s) := acc
    let inRing := ((o.queue q).slots.filter hit).length
    let onStack := ((List.range 16).map (fun c => ((o.core c).filter (fun r => r.q = q && r.item.dl && r.item.tick = k % 65536 &&
      !r.aborted && !r.item.flowed)).length)).sum
    let m := inRing + onStack
    if m = 0 then (n, s)
    else
      let s1 := dropSlots w q hit s
      (n + m, (s1.bump (Reg.SORUS_QCNT w q) Fld.SORUS_QCNT_ABORTED m))
  let (n, s1) := (List.range 64).foldl step (0, s)
  let s2 := (List.range 16).foldl (fun s c =>
    let st := (s.tw w).sorus.core c
    let late : Running → Bool := fun r => r.item.dl && decide (r.item.tick = k % 65536) && !r.aborted
    if st.any late then
      (s.modSorus w (fun o => o.setCore c (st.map (fun r => if late r then { r with aborted := true } else r)))).sb
        (banked c (Reg.SORUS_CAUSE w)) Fld.SORUS_CAUSE_DEADLINE true
    else s) s1
  let s3 := s2.bump (Reg.SORUS_CNT w) Fld.SORUS_CNT_ABORTED n
  (n, s3.bump (Reg.TICK_DROP_CNT w) Fld.TICK_DROP_CNT_ITEMS n)

/-- The TICK item (R388), before any other push of its clock (`putSlot`, `pushPlaced`). `flags` and `recTick` are those of the newest complete frame record. -/
def tickItem (w : Twin) (k stamp flags recTick : Nat) (s : State) : State :=
  if s.rb (Reg.SORUS_CFG w) Fld.SORUS_CFG_TICK_EN then
    let q := s.rf (Reg.SORUS_CFG w) Fld.SORUS_CFG_TICKQ
    if s.qUsed w q ∧ 2 ≤ s.qWords w q then
      (pushCounted w q reqTick false k
        { typ := 3, prio := s.qPrio w q, more := false, dl := true, flowed := false, flow := 0, seq := 0, tick := 0,
          body := leBytes 4 k ++ leBytes 5 stamp ++ leBytes 1 flags ++ leBytes 4 recTick } s).2
    else s.bump (Reg.SORUS_ERR w) Fld.SORUS_ERR_REFUSED
  else s

/-- A cause bit on every core of a twin (R387). -/
def causeAll (w : Twin) (f : Fld) (s : State) : State :=
  (List.range 16).foldl (fun s c => s.sb (banked c (Reg.SORUS_CAUSE w)) f true) s

/-- Context reset of Sorus in one twin (R392): the registers have been returned already. -/
def sorusContextReset (w : Twin) (s : State) : State :=
  causeAll w Fld.SORUS_CAUSE_CTX (s.modSorus w (fun _ => Sorus.reset))

/-- A queue restarts (R392). -/
def restartQueue (w : Twin) (q : Nat) (s : State) : State :=
  s.modSorus w (fun o => { o.setQueue q Queue.empty with building := o.building.filter (fun (_, q', _, _) => q' ≠ q) })

/-- A flow restarts (R392). -/
def restartFlow (w : Twin) (f : Nat) (s : State) : State := s.modSorus w (fun o => o.setFlow f Flow.empty)

/-! ### The commands -/

/-- SORUS_PUSH (R372). -/
def execSorusPush (t : Nat) (via : Via) (v : Word) (s : State) : Host.Outcome State Fault Refusal :=
  .next ((s.beginAt t).deliver via (pushWrite (sorusReq via) v))

/-- SORUS_REL (R382, R383). -/
def execSorusRel (t : Nat) (via : Via) (v : Word) (s : State) : Host.Outcome State Fault Refusal :=
  .next ((s.beginAt t).deliver via (relWrite (sorusReq via) v))

/-- SORUS_DONE (R386). -/
def execSorusDone (t : Nat) (w : Twin) (c : Fin 16) (s : State) : Host.Outcome State Fault Refusal :=
  .next ((s.beginAt t).deliver (.core w c) (fun w => coreDone w c.val))

/-- DROP_PKT (R377). -/
def execDropPkt (t : Nat) (via : Via) (q : Fin 64) (s : State) : Host.Outcome State Fault Refusal :=
  .next ((s.beginAt t).deliver via (fun w => dropOpenPkt w q.val (sorusReq via)))

/-- WIN_DROP_PKT (R377). -/
def execWinDropPkt (t : Nat) (via : Via) (q : Fin 64) (s : State) : Host.Outcome State Fault Refusal :=
  .next ((s.beginAt t).deliver via (fun w => dropOpenPkt w q.val (reqWindow q.val)))

/-- A pop read on a path: through the mirror it is R380's, from a dead twin all ones (R25). -/
def popVia (via : Via) (win : Bool) (q : Nat) (pop : Twin → State → State) (s : State) : State :=
  match via with
  | .mirror => mirrorPopRead .pcie win q s
  | _ =>
    match s.reach via with
    | ([], s1) => s1.emit (.header (BitVec.allOnes 64))
    | (ws, s1) => ws.foldl (fun x w => pop w x) s1

/-- SORUS_POP (R378). -/
def execSorusPop (t : Nat) (via : Via) (q : Fin 64) (s : State) : Host.Outcome State Fault Refusal :=
  .next (popVia via false q.val (rawPop (popReader via) q.val (sorusReq via)) (s.beginAt t))

/-- WIN_HDR_POP (R379). -/
def execWinHdrPop (t : Nat) (via : Via) (q : Fin 64) (s : State) : Host.Outcome State Fault Refusal :=
  .next (popVia via true q.val (windowPop (popReader via) q.val) (s.beginAt t))

/-- MIRROR_POP (R380). -/
def execMirrorPop (t : Nat) (req : Requester) (win : Bool) (q : Fin 64) (s : State) : Host.Outcome State Fault Refusal :=
  .next (mirrorPopRead req win q.val (s.beginAt t))

/-- SORUS_DISPATCH (R384): nothing while no dispatch is due. -/
def execSorusDispatch (t : Nat) (w : Twin) (s : State) : Host.Outcome State Fault Refusal :=
  let s1 := s.beginAt t
  match (if s1.asleep then none else s1.dispatchPick w) with
  | none => .next s1
  | some (_, q, c) => .next (giveItem w q c Fld.SORUS_CAUSE_DISPATCH s1)

/-- SORUS_PREEMPT (R385): nothing while no pre-emption is due. -/
def execSorusPreempt (t : Nat) (w : Twin) (s : State) : Host.Outcome State Fault Refusal :=
  let s1 := s.beginAt t
  match (if s1.asleep then none else s1.preemptPick w) with
  | none => .next s1
  | some (_, q, c) => .next (giveItem w q c Fld.SORUS_CAUSE_PREEMPT s1)

end Sys2Proof.Machine
end

