-- ==== Sys2Proof/Machine/TimeBases.lean ====
section
/-!
DEFINITION. The time bases TB0 to TB3 (chapter 3): states, measurements, holdover, steps, LTC and word clock.
-/
namespace Sys2Proof.Machine

/-- The state code of a base (Table 3-4). -/
def State.tbState (s : State) (n : Fin 4) : Nat := s.rf (Reg.TB_STAT n.val) Fld.TB_STAT_STATE
def tbOff : Nat := 0
def tbProtonema : Nat := 1
def tbLocking : Nat := 2
def tbLocked : Nat := 3
def tbHoldover : Nat := 4
def tbSlewing : Nat := 5
def tbFree : Nat := 6

/-- TBn_HOLD_AGE: ms in the present HOLDOVER; outside it the last value (R87). -/
def State.holdAge (s : State) (n : Fin 4) : Nat :=
  if s.tbState n = tbHoldover then min ((s.now - (s.tb n).holdAt) / 1000000) (2 ^ 32 - 1)
  else (s.reg (Reg.TB_HOLD_AGE n.val)).toNat

/-- The base enters a state; the age of a HOLDOVER that it leaves is kept (R87). -/
def State.setTbState (s : State) (n : Fin 4) (st : Nat) : State :=
  let s1 := if s.tbState n = tbHoldover ∧ st ≠ tbHoldover then s.setReg (Reg.TB_HOLD_AGE n.val) (BitVec.ofNat 32 (s.holdAge n)) else s
  s1.sf (Reg.TB_STAT n.val) Fld.TB_STAT_STATE st

/-- The base runs at a rate from the present instant on, and TBn_RATE shows it. -/
def State.runTb (s : State) (n : Fin 4) (rate : Int) : State :=
  (s.setTb n ((s.tb n).runAt s.now rate)).setReg (Reg.TB_RATE n.val) (BitVec.ofNat 32 (ofSigned 32 rate))

/-- Parts per million in units of 2^-40, rounded towards zero. -/
def ppm (x : Nat) : Int := (x * 2 ^ 40 / 1000000 : Nat)

/-- A rate held within a bound. -/
def clampRate (bound : Int) (r : Int) : Int := max (-bound) (min bound r)

/-- A step is allowed outside PROTONEMA (R89): the tick is not locked to the base, or STEP_LOCKED is 1. -/
def State.stepAllowed (s : State) (n : Fin 4) : Bool :=
  decide (s.tg.base ≠ n) || s.rb (Reg.TB_STEP_CTL n.val) Fld.TB_STEP_CTL_STEP_LOCKED

/-- The slew is over (R88): the base runs at the servo rate from the raw instant `x` on. -/
def State.slewOver (s : State) (n : Fin 4) (x : Nat) : State :=
  let b := s.tb n
  (s.setTb n { b.runAt x b.servo with slewEnd := none }).setReg (Reg.TB_RATE n.val) (BitVec.ofNat 32 (ofSigned 32 b.servo))

/-- A step of a base to a 64-bit count (R91). The tick's own base carries its next tick with it and realigns (R95). The offset predicted from
here on is 0, so that a slew is over (R88). -/
def State.stepTb (s : State) (n : Fin 4) (count : Nat) : State :=
  let old := s.tbNow n
  let amount : Int := (count : Int) - old
  let s0 := if s.tbState n = tbSlewing then s.slewOver n s.now else s
  let b := s0.tb n
  let s1 := s0.setTb n { b.stepAt s.now count with last := b.last.map (fun _ => (0, s.now)) }
  let cnt := (s.rf (Reg.TB_STAT n.val) Fld.TB_STAT_STEP_CNT + 1) % 256
  let s2 := (s1.sf (Reg.TB_STAT n.val) Fld.TB_STAT_STEP_CNT cnt).wr64 (Reg.TB_STEP_LAST n.val) (ofSigned 64 amount)
  let s3 := s2.wr64 (Reg.TB_STEP_TS n.val) s2.stamp3
  let s4 := if s3.tg.base = n then
      { s3 with tg := { s3.tg with stepped := true, steps := s3.tg.steps + amount, next := ((s3.tg.next : Int) + amount).toNat % 2 ^ 64 } } else s3
  s4.raiseTh 18 n.val

/-- The mean of the servo rates kept, at most 64 (R87). -/
def meanRate (l : List Int) : Int := if l.isEmpty then 0 else l.sum / l.length

/-- Entry into HOLDOVER (R85, R87): the rate held, E17, and the age from 0. -/
def State.enterHoldover (s : State) (n : Fin 4) (rate : Int) : State :=
  let s1 := (s.runTb n rate).setTbState n tbHoldover
  let b := s1.tb n
  let s2 := s1.setTb n { b with holdAt := s1.now, quals := [], inLock := 0, rejRun := 0, slewEnd := none, warned := false }
  (s2.setReg (Reg.TB_RATE_AVG n.val) (BitVec.ofNat 32 (ofSigned 32 rate))).raiseTh 17 n.val

/-- A loss of source (R87): only a base in LOCKING, LOCKED or SLEWING suffers it. -/
def State.lossOfSource (s : State) (n : Fin 4) : State :=
  let st := s.tbState n
  if st = tbLocking ∨ st = tbLocked ∨ st = tbSlewing then
    s.enterHoldover n (toSigned 32 (s.reg (Reg.TB_RATE_AVG n.val)).toNat)
  else s

/-- The raw instant at which a TS of a base fell, in the 2^32 ns up to the present instant. -/
def State.rawOfTs (s : State) (n : Fin 4) (ts : Nat) : Nat :=
  let c := s.tbNow n
  (s.tb n).when (c - (c + 2 ^ 32 - ts % 2 ^ 32) % 2 ^ 32)

/-- The offset predicted in 1/16 ns for the raw instant `x` from one measured at the raw instant `x0` (R86, R88): what the base has advanced
since, less what its source has, which is taken to run at the rate `est`. DEDUCED (notes/assumptions/35.md). -/
def predictOfs (b : TimeBase) (ofs0 : Int) (x0 x : Nat) (est : Int) : Int :=
  ofs0 + ((b.exact x : Int) - b.exact x0 - ((x : Int) - x0) * ((2 : Int) ^ 40 + est)) * 16 / 2 ^ 40

/-- How long a slew takes to remove an offset of `ofs`/16 ns. -/
def State.slewTime (s : State) (n : Fin 4) (ofs : Nat) : Nat :=
  ceilDiv (ofs * 1000000) (16 * max 1 (s.rf (Reg.TB_SLEW n.val) Fld.TB_SLEW_SLEW_PPM))

/-- Begins a slew (R88): SLEW_PPM in the direction that reduces the offset, until the predicted offset reaches 0. -/
def State.slew (s : State) (n : Fin 4) (ofs : Int) : State :=
  let ppmv := max 1 (s.rf (Reg.TB_SLEW n.val) Fld.TB_SLEW_SLEW_PPM)
  let b := s.tb n
  let rate := if 0 < ofs then b.servo - ppm ppmv else b.servo + ppm ppmv
  let s1 := (s.runTb n rate).setTbState n tbSlewing
  s1.setTb n { s1.tb n with slewEnd := some (s1.now + s.slewTime n ofs.natAbs) }

/-- A measurement during the slew (R86, R88): the offset predicted from it for the present instant says when the slew is over. -/
def State.reslew (s : State) (n : Fin 4) : State :=
  let b := s.tb n
  match b.last with
  | none => s
  | some (o, x0) =>
    let p := predictOfs b o x0 s.now b.servo
    let left : Int := if b.rate < b.servo then p else -p
    if left ≤ 0 then s.slewOver n s.now else s.setTb n { b with slewEnd := some (s.now + s.slewTime n left.toNat) }

/-- A slew whose end has passed is over from that instant on. -/
def State.endSlew (s : State) (n : Fin 4) : State :=
  match (s.tb n).slewEnd with
  | some e => if s.tbState n = tbSlewing ∧ e ≤ s.now then s.slewOver n e else s
  | none => s

/-- Keeps a valid measurement, held at the raw instant `x0`: OFS_LAST, the history and the mean rate (R86, R87). -/
def State.keepMeas (s : State) (n : Fin 4) (ofs : Int) (x0 : Nat) (rate : Int) : State :=
  let b := s.tb n
  let rates := (rate :: b.rates).take 64
  let b1 := { b with last := some (ofs, x0), hist := ((ofs, x0) :: b.hist).take 64, rates := rates, rejRun := 0, measAt := s.now }
  let ns : Int := max (-(2 ^ 31 - 1)) (min (2 ^ 31 - 1) (ofs / 16))
  ((s.setTb n b1).setReg (Reg.TB_OFS_LAST n.val) (BitVec.ofNat 32 (ofSigned 32 ns))).setReg (Reg.TB_RATE_AVG n.val)
    (BitVec.ofNat 32 (ofSigned 32 (meanRate rates)))

/-- The servo's rate with one more measurement: the rate that the word clock gives, or the free servo law, held within ±500 ppm. -/
def State.servoNext (s : State) (n : Fin 4) (ofs : Int) (x0 : Nat) (given : Option Int) : Int :=
  clampRate (ppm 500) (match given with
    | some r => r
    | none => Config.servoRate n.val (s.tbState n) ((ofs, x0) :: (s.tb n).hist) (s.tb n).rate)

/-- LOCK_THRESH and REJECT in 1/16 ns. -/
def State.lockBound (s : State) (n : Fin 4) : Int := 16 * s.rf (Reg.TB_THRESH n.val) Fld.TB_THRESH_LOCK_THRESH
def State.rejBound (s : State) (n : Fin 4) : Int := 1600 * s.rf (Reg.TB_THRESH n.val) Fld.TB_THRESH_REJECT

/-- A measurement to be removed by a step where one is allowed (R84, R89). -/
def State.farOff (s : State) (n : Fin 4) (ofs : Int) (phase : Bool) : Bool :=
  phase && decide (16000 * (s.rf (Reg.TB_STEP_CTL n.val) Fld.TB_STEP_CTL_STEP_THRESH : Int) < ofs.natAbs)

/-- The count to which a measurement steps the base. -/
def State.sourceCount (s : State) (n : Fin 4) (ofs : Int) : Nat := (((s.tbNow n : Int) * 16 - ofs) / 16).toNat

/-- A valid measurement in PROTONEMA (R84): the first steps the base onto its source, the second gives the first rate. -/
def State.measProtonema (s : State) (n : Fin 4) (ofs : Int) (x0 : Nat) (given : Option Int) (phase : Bool) : State :=
  match (s.tb n).last with
  | none =>
    let s1 := s.keepMeas n ofs x0 (s.tb n).rate
    let s2 := s1.setTb n { s1.tb n with rates := [] }
    if phase then s2.stepTb n (s.sourceCount n ofs) else s2
  | some _ =>
    let r := s.servoNext n ofs x0 given
    let s1 := ((s.keepMeas n ofs x0 r).runTb n r).setTbState n tbLocking
    s1.setTb n { s1.tb n with servo := r, inLock := 0 }

/-- A valid measurement in LOCKING (R84, R89). -/
def State.measLocking (s : State) (n : Fin 4) (ofs : Int) (x0 : Nat) (given : Option Int) (phase : Bool) : State :=
  let r := s.servoNext n ofs x0 given
  let k := if (ofs.natAbs : Int) ≤ s.lockBound n then (s.tb n).inLock + 1 else 0
  let s1 := (s.keepMeas n ofs x0 r).runTb n r
  let s2 := s1.setTb n { s1.tb n with servo := r, inLock := k }
  if s.farOff n ofs phase && s.stepAllowed n then s2.stepTb n (s.sourceCount n ofs)
  else if k ≠ 0 ∧ s.rf (Reg.TB_TIMEOUT n.val) Fld.TB_TIMEOUT_LOCK_COUNT ≤ k then s2.setTbState n tbLocked
  else s2

/-- A valid measurement in LOCKED. -/
def State.measLocked (s : State) (n : Fin 4) (ofs : Int) (x0 : Nat) (given : Option Int) : State :=
  let r := s.servoNext n ofs x0 given
  let s1 := (s.keepMeas n ofs x0 r).runTb n r
  s1.setTb n { s1.tb n with servo := r }

/-- A valid measurement in SLEWING (R84, R88, R89). During the slew the servo rate stays; after it the base runs at the servo rate that each
measurement gives, and waits for one within LOCK_THRESH (notes/assumptions/35.md). A step that is not made leaves the base slewing. -/
def State.measSlewing (s : State) (n : Fin 4) (ofs : Int) (x0 : Nat) (given : Option Int) (phase : Bool) : State :=
  let slewed := (s.tb n).slewEnd.isNone
  let r := if slewed then s.servoNext n ofs x0 given else (s.tb n).servo
  let s1 := s.keepMeas n ofs x0 r
  let s2 := s1.setTb n { s1.tb n with servo := r }
  let far := s.farOff n ofs phase
  if far && s.stepAllowed n then s2.stepTb n (s.sourceCount n ofs)
  else if !slewed then s2.reslew n
  else if (ofs.natAbs : Int) ≤ s.lockBound n then (s2.runTb n r).setTbState n tbLocked
  else if far then s2.slew n ofs
  else s2.runTb n r

/-- A measurement in HOLDOVER (R88, R89). A measurement that does not qualify counts as the first of the restarted count: DESIGN CHOICE
(notes/assumptions/35.md). -/
def State.measHoldover (s : State) (n : Fin 4) (ofs : Int) (x0 : Nat) (given : Option Int) (phase : Bool) : State :=
  let b := s.tb n
  let est := given.getD (Config.servoRate n.val tbHoldover b.quals b.rate)
  let ok := match b.quals with
    | [] => true
    | (o, t0) :: _ => !phase || decide (((ofs - predictOfs b o t0 x0 est).natAbs : Int) ≤ s.rejBound n)
  let quals := if ok then (ofs, x0) :: b.quals else [(ofs, x0)]
  let s1 := s.setTb n { b with quals := quals, measAt := s.now }
  if s.rf (Reg.TB_TIMEOUT n.val) Fld.TB_TIMEOUT_QUAL_COUNT ≤ quals.length then
    let r := clampRate (ppm 500) (given.getD (Config.servoRate n.val tbHoldover quals b.rate))
    let s2 := s1.keepMeas n ofs x0 r
    let s3 := s2.setTb n { s2.tb n with servo := r, quals := [] }
    if (ofs.natAbs : Int) ≤ s.lockBound n then (s3.runTb n r).setTbState n tbLocked
    else if s.farOff n ofs phase && s.stepAllowed n then ((s3.runTb n r).setTbState n tbSlewing).stepTb n (s.sourceCount n ofs)
    else s3.slew n ofs
  else s1

/-- A measurement in LOCKING, LOCKED or SLEWING is rejected (R86): E21 for the first after a valid one, and after four a loss of source. -/
def State.rejectMeas (s : State) (n : Fin 4) : State :=
  let b := s.tb n
  let s1 := s.bump (Reg.TB_STAT n.val) Fld.TB_STAT_REJECTS
  let s2 := s1.setTb n { s1.tb n with rejRun := b.rejRun + 1 }
  let s3 := if b.rejRun = 0 then s2.raiseTh 21 n.val else s2
  if 4 ≤ b.rejRun + 1 then s3.lossOfSource n else s3

/-- One measurement of a base in SLAVE mode (R84, R86, R88, R89): its offset in 1/16 ns, base minus source, and the TS at which it held.
`given` is the rate when the word clock gives it; `phase` is false for a measurement that carries rate only (R90), which counts as one at
its prediction, within LOCK_THRESH: DESIGN CHOICE (notes/assumptions/35.md). -/
def State.measure (s : State) (n : Fin 4) (ofs : Int) (ts : Nat) (given : Option Int) (phase : Bool) : State :=
  let s := s.endSlew n
  let st := s.tbState n
  let x0 := s.rawOfTs n ts
  if st = tbProtonema then s.measProtonema n ofs x0 given phase
  else if st = tbLocking ∨ st = tbLocked ∨ st = tbSlewing then
    let b := s.tb n
    let pred := match b.last with
      | some (o, t0) => predictOfs b o t0 x0 b.servo
      | none => ofs
    if phase && decide (s.rejBound n < (ofs - pred).natAbs) then s.rejectMeas n
    else if st = tbLocking then s.measLocking n ofs x0 given phase
    else if st = tbLocked then s.measLocked n ofs x0 given
    else s.measSlewing n ofs x0 given phase
  else if st = tbHoldover then s.measHoldover n ofs x0 given phase
  else s

/-- The mode of a base. -/
def State.tbMode (s : State) (n : Fin 4) : Nat := s.rf (Reg.TB_CTL n.val) Fld.TB_CTL_MODE

/-- A submission to TB0 or TB1 in SLAVE mode (R78): NEW_SRC and INVALID are losses of source (R87). In HOLDOVER either bit restarts the
qualifying count, in every state its measurement is dropped, and a write of one of them without SUBMIT acts alike: DESIGN CHOICE
(notes/assumptions/35.md). -/
def submitMeas (n : Fin 4) (newSrc invalid : Bool) (s : State) : State :=
  if n.val ≤ 1 ∧ s.tbMode n = 1 then
    if newSrc || invalid then
      let s1 := s.lossOfSource n
      s1.setTb n { s1.tb n with quals := [] }
    else
      s.measure n (toSigned 64 (s.rd64 (Reg.TB_MEAS_OFS n.val))) (s.reg (Reg.TB_MEAS_AT n.val)).toNat none true
  else s

/-- TB_MEAS_SUBMIT (R78). -/
def execTbMeasSubmit (t : Nat) (src : Requester) (n : Fin 4) (newSrc invalid : Bool) (s : State) :
    Host.Outcome State Fault Refusal :=
  .next ((s.beginAt t).thWrite src (submitMeas n newSrc invalid))

/-- A submission that reports a loss (R87). -/
def submitLoss (t : Nat) (src : Requester) (n : Fin 4) (s : State) : State :=
  (s.beginAt t).thWrite src (submitMeas n false true)

/-- TB_MEAS_INVALID (R87). -/
def execTbMeasInvalid (t : Nat) (src : Requester) (n : Fin 4) (s : State) : Host.Outcome State Fault Refusal :=
  .next (submitLoss t src n s)

/-- TB_MEAS_NEW_SRC (R87). -/
def execTbMeasNewSrc (t : Nat) (src : Requester) (n : Fin 4) (s : State) : Host.Outcome State Fault Refusal :=
  .next (submitLoss t src n s)

/-- Frames in a second as counted, and the real duration of a frame in ns as a fraction (Table 3-3). -/
def ltcFps : Nat → Option (Nat × Nat × Nat)
  | 0 => some (24, 1000000000, 24)
  | 1 => some (25, 1000000000, 25)
  | 2 => some (30, 1001000000000, 30000)
  | 3 => some (30, 1000000000, 30)
  | 4 => some (24, 1001000000000, 24000)
  | 5 => some (30, 1001000000000, 30000)
  | _ => none

/-- TB2 follows LTC (R82). -/
def State.onLtc (s : State) : Bool := decide (s.tbMode 2 = 1) && decide (s.rf Reg.TB2_LTC_CTL Fld.TB2_LTC_CTL_SRC ≠ 2)

/-- LTC_TO frames have passed since the last LTC frame that ran forwards (R83); with a reserved FPS no LTC is there. -/
def State.ltcOver (s : State) : Bool :=
  match ltcFps (s.rf Reg.TB2_LTC_CTL Fld.TB2_LTC_CTL_FPS) with
  | some (_, num, den) => decide ((s.show_.ltcAt * den + s.rf Reg.TB2_LTC_CTL Fld.TB2_LTC_CTL_LTC_TO * num) ≤ s.now * den)
  | none => true

/-- No valid measurement has arrived within MEAS_TO of the last one; of TB2 with LTC, LTC_TO governs (R87, TBn_TIMEOUT). -/
def State.measOver (s : State) (n : Fin 4) : Bool :=
  if n = 2 ∧ s.onLtc = true then s.ltcOver
  else decide ((s.tb n).measAt + s.rf (Reg.TB_TIMEOUT n.val) Fld.TB_TIMEOUT_MEAS_TO * 1000000 ≤ s.now)

/-- TB_HOLDOVER (R87): nothing before the timeout of the base's measurements. -/
def execTbHoldover (t : Nat) (n : Fin 4) (s : State) : Host.Outcome State Fault Refusal :=
  let s1 := s.beginAt t
  if s1.measOver n then .next (s1.lossOfSource n) else .next s1

/-- TB_HOLD_LONG (R87): the age passes HOLD_WARN; E19 once in a HOLDOVER. -/
def execTbHoldLong (n : Fin 4) (s : State) : Host.Outcome State Fault Refusal :=
  let b := s.tb n
  if s.tbState n = tbHoldover ∧ !b.warned then
    let s1 := s.beginAt (b.holdAt + s.rf (Reg.TB_SLEW n.val) Fld.TB_SLEW_HOLD_WARN * 1000000000)
    let s2 := s1.setTb n { s1.tb n with warned := true }
    .next ((s2.sb (Reg.TB_STAT n.val) Fld.TB_STAT_HOLD_LONG true).raiseTh 19 n.val)
  else .next s.begin

/-- TB_SLEW_END (R88): the predicted offset reaches 0, and the base runs at the servo rate. -/
def execTbSlewEnd (n : Fin 4) (s : State) : Host.Outcome State Fault Refusal :=
  match (s.tb n).slewEnd with
  | some e =>
    if s.tbState n = tbSlewing then .next ((s.beginAt e).slewOver n (max s.now e)) else .next s.begin
  | none => .next s.begin

/-! ### Show time (R82, R83) -/

/-- A BCD byte. -/
def bcd (b : Byte) : Nat := b.toNat / 16 * 10 + b.toNat % 16

/-- Frames from 00:00:00:00, drop-frame counting for FPS 2 (Table 3-3, ST 12-1). -/
def ltcFrames (fps : Nat) (code hh mm ss ff : Nat) : Nat :=
  let minutes := hh * 60 + mm
  let n := (minutes * 60 + ss) * fps + ff
  if code = 2 then n - 2 * (minutes - minutes / 10) else n

/-- Frames of a day (ST 12-1). -/
def ltcDay (fps code : Nat) : Nat := ltcFrames fps code 24 0 0 0

/-- LTC_FRAME (R82, R83, R89): a decoded position within one frame of the prediction is a measurement; a run of JAM_FRAMES others, each
its predecessor plus one frame, is a jam. -/
def execLtcFrame (t : Nat) (hh mm ss ff : Byte) (s : State) : Host.Outcome State Fault Refusal :=
  let s0 := s.beginAt t
  let src := s0.rf Reg.TB2_LTC_CTL Fld.TB2_LTC_CTL_SRC
  let code := s0.rf Reg.TB2_LTC_CTL Fld.TB2_LTC_CTL_FPS
  match ltcFps code with
  | none => .next s0
  | some (fps, num, den) =>
    let tc := hh.toNat * 2 ^ 24 + mm.toNat * 2 ^ 16 + ss.toNat * 2 ^ 8 + ff.toNat
    let s1 := s0.setReg Reg.TB2_LTC_TC (BitVec.ofNat 32 tc)
    if s1.tbMode 2 ≠ 1 ∨ src = 2 then .next s1
    else
      let n := ltcFrames fps code (bcd hh) (bcd mm) (bcd ss) (bcd ff)
      let pos := n * num / den
      let now := s1.tbNow 2
      let diff := if now < pos then pos - now else now - pos
      let first : Bool := decide (s1.tbState 2 = tbProtonema) && (s1.tb 2).last.isNone
      let given := if src = 1 then some (s1.tb 2).servo else none
      let follows : Bool := match s1.show_.lastFrame with
        | some m => decide (n = m + 1 ∨ (n = 0 ∧ m + 1 = ltcDay fps code))
        | none => false
      let heard := if follows || s1.show_.lastFrame.any (fun m => decide (m < n)) || s1.show_.lastFrame.isNone then s1.now else s1.show_.ltcAt
      if first || decide (diff * den ≤ num) then
        let s2 := { s1 with show_ := { lastFrame := some n, jamRun := 0, ltcAt := heard } }
        .next (s2.measure 2 (((now : Int) - pos) * 16) (now % 2 ^ 32) given true)
      else
        let run := if s1.show_.jamRun = 0 ∨ follows = true then s1.show_.jamRun + 1 else 1
        if s1.rf Reg.TB2_LTC_CTL Fld.TB2_LTC_CTL_JAM_FRAMES ≤ run then
          let s2 := { s1 with show_ := { lastFrame := some n, jamRun := 0, ltcAt := heard } }
          if s2.stepAllowed 2 then .next (s2.stepTb 2 pos)
          else .next (s2.bump (Reg.TB_STAT 2) Fld.TB_STAT_REJECTS)
        else
          .next ({ s1 with show_ := { lastFrame := some n, jamRun := run, ltcAt := heard } }.bump (Reg.TB_STAT 2)
            Fld.TB_STAT_REJECTS)

/-- LTC_LOSS (R83, R87): LTC absent, stopped or backwards for LTC_TO frames; nothing before that. -/
def execLtcLoss (t : Nat) (s : State) : Host.Outcome State Fault Refusal :=
  let s1 := s.beginAt t
  if s1.onLtc && s1.ltcOver then
    .next ({ s1 with show_ := { s1.show_ with jamRun := 0, lastFrame := none } }.lossOfSource 2)
  else .next s1

/-- WCLK_MEASUREMENT (R82, R90): the measured frequency, and with SRC 1 or 2 the rate of TB2. -/
def execWclkMeasurement (t : Nat) (hz : Nat) (rate : Int) (s : State) : Host.Outcome State Fault Refusal :=
  let s0 := s.beginAt t
  let present : Bool := decide (32000 ≤ hz) && decide (hz ≤ 192000)
  let s1 := (s0.sb Reg.TB2_WCLK Fld.TB2_WCLK_PRESENT present).sf Reg.TB2_WCLK Fld.TB2_WCLK_FREQ (min hz (2 ^ 18 - 1))
  let src := s1.rf Reg.TB2_LTC_CTL Fld.TB2_LTC_CTL_SRC
  if s1.tbMode 2 ≠ 1 ∨ !present then .next s1
  else if src = 2 then .next (s1.measure 2 0 (s1.tbNow 2 % 2 ^ 32) (some rate) false)
  else if src = 1 then
    let r := clampRate (ppm 500) rate
    let s2 := s1.setTb 2 { s1.tb 2 with servo := r }
    let st := s2.tbState 2
    if st = tbLocking ∨ st = tbLocked then .next (s2.runTb 2 r) else .next s2
  else .next s1

/-! ### Mode, set and trim (R76, R85, R90) -/

/-- TBn_CTL.MODE (R84, R85, R93). -/
def State.writeMode (s : State) (n : Fin 4) (mode : Nat) : State :=
  let old := s.tbMode n
  if n = 3 ∨ mode = old ∨ (mode = 0 ∧ s.tg.base = n) then s
  else
    let s1 := s.sf (Reg.TB_CTL n.val) Fld.TB_CTL_MODE mode
    let b := s1.tb n
    let free : State → State := fun x => (x.setTbState n tbFree)
    if mode = 0 then (s1.runTb n 0).setTbState n tbOff
    else if mode = 1 then
      if old = 0 then
        let s2 := (s1.runTb n 0).setTbState n tbProtonema
        s2.setTb n { s2.tb n with last := none, hist := [], rates := [], rejRun := 0, inLock := 0, quals := [], slewEnd := none, servo := 0 }
      else s1.enterHoldover n (toSigned 32 (s1.reg (Reg.TB_RATE n.val)).toNat)
    else if old = 0 then free (s1.runTb n (toSigned 32 (s1.reg (Reg.TB_RATE n.val)).toNat))
    else if old = 1 then free (s1.runTb n b.rate)
    else s1

/-- TB_MODE_WRITE (R85). -/
def execTbModeWrite (t : Nat) (src : Requester) (n : Fin 4) (mode : Fin 4) (s : State) : Host.Outcome State Fault Refusal :=
  .next ((s.beginAt t).thWrite src (fun s => s.writeMode n mode.val))

/-- TBn_CTL.SET (R89, R90): MASTER or MANUAL, or TB2 in SLAVE mode with SRC = 2. -/
def setBaseCount (n : Fin 4) (s : State) : State :=
  let m := s.tbMode n
  let may := n ≠ 3 ∧ (m = 2 ∨ m = 3 ∨ (n = 2 ∧ m = 1 ∧ s.rf Reg.TB2_LTC_CTL Fld.TB2_LTC_CTL_SRC = 2))
  if may ∧ (s.stepAllowed n ∨ s.tbState n = tbProtonema) then s.stepTb n (s.rd64 (Reg.TB_SET n.val)) else s

/-- TB_SET (R90). -/
def execTbSet (t : Nat) (src : Requester) (n : Fin 4) (s : State) : Host.Outcome State Fault Refusal :=
  .next ((s.beginAt t).thWrite src (setBaseCount n))

/-- TBn_RATE written by software: it acts on a base in MASTER or MANUAL alone. -/
def State.writeTbRate (s : State) (n : Fin 4) (v : Word) : State :=
  if n ≠ 3 ∧ (s.tbMode n = 2 ∨ s.tbMode n = 3) then s.runTb n (toSigned 32 v.toNat) else s

/-- TB3_TRIM (R76): the value stored lies within ±200 ppm, and TB3 runs at it. -/
def State.writeTrim (s : State) (v : Word) : State :=
  let r := clampRate (ppm 200) (toSigned 32 v.toNat)
  (s.runTb 3 r).setReg Reg.TB3_TRIM (BitVec.ofNat 32 (ofSigned 32 r))

/-- TB3_TRIM_WRITE (R76). -/
def execTb3TrimWrite (t : Nat) (src : Requester) (v : Word) (s : State) : Host.Outcome State Fault Refusal :=
  .next ((s.beginAt t).thWrite src (fun s => s.writeTrim v))

end Sys2Proof.Machine
end

