-- ==== Sys2Proof/Machine/Banks.lean ====
section
/-!
DEFINITION. On-chip memory banks, core local memories and DRAM (chapter 15).
-/
namespace Sys2Proof.Machine

def BankSt.still : BankSt := { moving := false, clr := false, target := none, queued := none, saved := none, held := [] }

def State.bank (s : State) (w : Twin) (n : Nat) : BankSt := Smap.get BankSt.still (s.tw w).banks n
def State.setBank (s : State) (w : Twin) (n : Nat) (b : BankSt) : State :=
  s.modTw w (fun t => { t with banks := Smap.set BankSt.still t.banks n b })

/-- Owner, core and power state of a bank (R394, Table 15-1). -/
def State.bankOwner (s : State) (w : Twin) (n : Nat) : Nat := s.rf (Reg.BANK_CTL w n) Fld.BANK_CTL_OWNER
def State.bankCore (s : State) (w : Twin) (n : Nat) : Nat := s.rf (Reg.BANK_CTL w n) Fld.BANK_CTL_CORE
def State.bankState (s : State) (w : Twin) (n : Nat) : Nat := s.rf (Reg.BANK_STAT w n) Fld.BANK_STAT_STATE
def State.setBankState (s : State) (w : Twin) (n st : Nat) : State := s.sf (Reg.BANK_STAT w n) Fld.BANK_STAT_STATE st

/-- The first byte of a bank (Table 1-6). -/
def bankAddr (w : Twin) (n : Nat) : Nat := w.base + 0x04000000 + n * 0x100000

/-- The contents of a bank become zero (R402), or are lost (R400). -/
def State.clearBank (s : State) (w : Twin) (n : Nat) : State :=
  s.resetMem (fun a => decide (bankAddr w n ≤ a ∧ a < bankAddr w n + 0x100000))

/-- The code of an agent as a bank's owner (Table 15-1). -/
def ownerCode : BankAgent → Nat
  | .host => 0
  | .sorus => 1
  | .netDma => 2
  | .compositor => 3
  | .testEngine => 4
  | .core _ => 5

/-- The agent is the bank's running owner. -/
def State.ownsBank (s : State) (w : Twin) (n : Nat) (ag : BankAgent) : Bool :=
  decide (s.bankOwner w n = ownerCode ag) && (match ag with | .core c => decide (s.bankCore w n = c.val) | _ => true)

/-- The agent reaches the bank (R399): it owns it, and the bank is ON. During a handover its accesses wait for the grant (R397). -/
def State.reachesBank (s : State) (w : Twin) (n : Nat) (ag : BankAgent) : Bool := s.ownsBank w n ag && decide (s.bankState w n = 2)

/-- An access of the new owner during a handover is held until the grant (R397): a write of a word, or a read, at a byte address. -/
def State.holdAccess (s : State) (w : Twin) (n a : Nat) (v : Option Word) : State :=
  s.setBank w n { s.bank w n with held := (s.bank w n).held ++ [(a, v)] }

/-- The accesses that waited for the grant are served in their order (R397): a read gives its data. -/
def serveHeld (l : List (Nat × Option Word)) (s : State) : State :=
  l.foldl (fun x e => match e.2 with
    | some v => x.wrBytes e.1 (leBytes 4 v.toNat)
    | none => x.emit (.readData (BitVec.ofNat 32 (x.rdLE e.1 4)))) s

/-- A refused write or access (R395, R399, R415): counted, and E76. -/
def State.refuseBank (s : State) (w : Twin) (n : Nat) : State :=
  (s.bankViol w n).raiseOnce w (Reg.BANK_EVT_CTL w) Fld.BANK_EVT_CTL_VIOL_EN 76 n

/-- The bank holds the ring of a used queue (R398). -/
def State.holdsRing (s : State) (w : Twin) (n : Nat) : Bool :=
  (List.range 64).any (fun q => s.qUsed w q && decide (s.ent w 4 0 q 2 1 = n))

/-- The agent that writes on a path. -/
def viaAgent : Via → BankAgent
  | .core _ c => .core c
  | _ => .host

/-- Starts a power-state transition (R400), or keeps the write for the end of the one under way (R401). A window that runs in a bank that
leaves ON has been given back first (R410). -/
def startTransition (w : Twin) (n st : Nat) (s : State) : State :=
  let b := s.bank w n
  match b.target with
  | some _ => s.setBank w n { b with queued := some st }
  | none =>
    let cur := s.bankState w n
    if cur = st then s
    else
      let shown := if cur = 0 then 3 else if st = 2 then 4 else 5
      let s1 := s.setBank w n { b with target := some st }
      let s2 := s1.modTw w (fun t => if t.bankTest.cur.map (·.1) = some n then { t with bankTest := { t.bankTest with until_ := 0 } } else t)
      s2.setBankState w n shown

/-- A write of BANK_CTLn in one twin by an agent (R395 to R398, R400). -/
def bankCtlWrite (ag : BankAgent) (n : Nat) (v : Word) (w : Twin) (s : State) : State :=
  let owner := getFld v Fld.BANK_CTL_OWNER
  let core := getFld v Fld.BANK_CTL_CORE
  let st := getFld v Fld.BANK_CTL_STATE
  let super : Bool := match ag with | .host => true | .core c => decide (c.val = 0) | _ => false
  let entitled : Bool := super || s.ownsBank w n ag
  let bad : Bool := decide (6 ≤ owner) || decide (st = 3) || (s.holdsRing w n && (decide (owner ≠ 1) || decide (st ≠ 2)))
  if !entitled || bad then s.refuseBank w n
  else
    let old := s.bankOwner w n
    let moves : Bool := decide (owner ≠ old) || (decide (owner = 5) && decide (core ≠ s.bankCore w n))
    let s1 := (s.sf (Reg.BANK_CTL w n) Fld.BANK_CTL_OWNER owner).sf (Reg.BANK_CTL w n) Fld.BANK_CTL_CORE core
    let s2 := if moves then
        let b := s1.bank w n
        (s1.setBank w n { b with moving := true, clr := b.clr || decide (getFld v Fld.BANK_CTL_CLR = 1) || decide (old = 4) }).sb
          (Reg.BANK_STAT w n) Fld.BANK_STAT_MOVING true
      else s1
    startTransition w n st (s2.sf (Reg.BANK_CTL w n) Fld.BANK_CTL_STATE st)

/-- BANK_OWNER_WRITE (R397, R398). -/
def execBankOwnerWrite (t : Nat) (via : Via) (n : Fin 96) (v : Word) (s : State) : Host.Outcome State Fault Refusal :=
  .next ((s.beginAt t).deliver via (bankCtlWrite (viaAgent via) n.val v))

/-- BANK_STATE_WRITE (R400, R401). -/
def execBankStateWrite (t : Nat) (via : Via) (n : Fin 96) (v : Word) (s : State) : Host.Outcome State Fault Refusal :=
  .next ((s.beginAt t).deliver via (bankCtlWrite (viaAgent via) n.val v))

/-- BANK_GRANT (R397): the old owner's accesses and any clearing are done, and the new owner's accesses that waited are served. -/
def execBankGrant (t : Nat) (w : Twin) (n : Fin 96) (s : State) : Host.Outcome State Fault Refusal :=
  let s1 := s.beginAt t
  let b := s1.bank w n.val
  if b.moving then
    let s2 := if b.clr then s1.clearBank w n.val else s1
    let s3 := s2.setBank w n.val { b with moving := false, clr := false, held := [] }
    .next (serveHeld b.held (s3.sb (Reg.BANK_STAT w n.val) Fld.BANK_STAT_MOVING false))
  else .next s1

/-- The end of a bank's transition (R400 to R402): a bank that leaves OFF is cleared, one that reaches OFF loses its contents, and one
that reaches ON raises E77. -/
def endTransition (w : Twin) (n : Nat) (s : State) : State :=
  let b := s.bank w n
  match b.target with
  | none => s
  | some st =>
    let fromOff : Bool := decide (s.bankState w n = 3)
    let s1 := if st = 0 ∨ fromOff then s.clearBank w n else s
    let s2 := (s1.setBankState w n st).setBank w n { b with target := none, queued := none }
    let s3 := if st = 2 ∨ (fromOff ∧ st = 1) then s2.raiseOnce w (Reg.BANK_EVT_CTL w) Fld.BANK_EVT_CTL_READY_EN 77 n else s2
    match b.queued with
    | some q => startTransition w n q s3
    | none => s3

/-- BANK_READY (R401). -/
def execBankReady (t : Nat) (w : Twin) (n : Fin 96) (s : State) : Host.Outcome State Fault Refusal :=
  .next (endTransition w n.val (s.beginAt t))

/-- BANK_ACCESS_FAULT (R399): a refused access reads 0 and writes nothing. An access that the rule allows is not refused. -/
def execBankAccessFault (t : Nat) (w : Twin) (n : Fin 96) (agent : BankAgent) (s : State) : Host.Outcome State Fault Refusal :=
  let s1 := s.beginAt t
  if s1.reachesBank w n.val agent then .next s1
  else .next ((s1.refuseBank w n.val).emit (.readData 0))

/-- MEM_ECC_ERROR (R404, R411, R414, R415). -/
def execMemEccError (t : Nat) (w : Twin) (site : EccSite) (correctable : Bool) (s : State) : Host.Outcome State Fault Refusal :=
  let s1 := s.beginAt t
  let code := match site with | .bank n _ => n.val | .lmem _ _ => 0x7E | .dram _ _ => 0x7F
  if correctable then
    let s2 := match site with
      | .bank n _ => s1.bump (Reg.BANK_STAT w n.val) Fld.BANK_STAT_CE
      | .lmem _ _ => s1.bump (Reg.LMEM_ECC w) Fld.LMEM_ECC_CE
      | .dram _ _ => s1.bump (Reg.DRAM_ECC w) Fld.DRAM_ECC_CE
    .next (s2.raiseOnce w (Reg.BANK_EVT_CTL w) Fld.BANK_EVT_CTL_CE_EN 79 code)
  else
    let s2 := match site with
      | .bank _ _ => s1
      | .lmem _ _ => s1.bump (Reg.LMEM_ECC w) Fld.LMEM_ECC_UE
      | .dram off req =>
        (((s1.bump (Reg.DRAM_ECC w) Fld.DRAM_ECC_UE).sf (Reg.DRAM_UE_ADDR w) Fld.DRAM_UE_ADDR_ADDR (off / 8 * 8)).sf
          (Reg.DRAM_UE_ADDR w) Fld.DRAM_UE_ADDR_REQ req.val).wr64 (Reg.DRAM_UE_TS w) s1.stamp
    .next ((s2.setHealth w 1).raiseOnce w (Reg.BANK_EVT_CTL w) Fld.BANK_EVT_CTL_UE_EN 80 code)

/-! ### The background test (R405 to R410) -/

/-- The bank is tested in windows (R405, R410). -/
def State.testable (s : State) (w : Twin) (n : Nat) : Bool :=
  decide (s.bankState w n = 2) && !bitAt (s.imgBank w n 2) 3 && decide (s.bankOwner w n ≠ 4)

/-- The first tested bank at or above `n`. -/
def State.nextTested (s : State) (w : Twin) (n : Nat) : Option Nat := (List.range 96).find? (fun b => n ≤ b && s.testable w b)

/-- Moves the test to the window after (`bank`, `win`): the next bank, or window `win`+1 of the first, or the end of the pass. -/
def advanceTest (w : Twin) (bank win : Nat) (s : State) : State :=
  match s.nextTested w (bank + 1) with
  | some b => s.modTw w (fun t => { t with bankTest := { t.bankTest with bank := b, win := win, aborts := 0 } })
  | none =>
    let next := (s.nextTested w 0).getD 0
    if win + 1 < 256 then s.modTw w (fun t => { t with bankTest := { t.bankTest with bank := next, win := win + 1, aborts := 0 } })
    else
      (s.modTw w (fun t => { t with bankTest := { t.bankTest with bank := next, win := 0, aborts := 0 } })).setReg
        (Reg.BANK_TEST_PASS w) (s.reg (Reg.BANK_TEST_PASS w) + 1)

/-- A march that fails: once and not again is TRANSIENT, twice marks the bank FAULTY (R409). -/
def marchResult (w : Twin) (n : Nat) (march rerun : Passed) (s : State) : State :=
  if march then s
  else if rerun then s.bump (Reg.BANK_TEST_CNT w) Fld.BANK_TEST_CNT_TRANSIENT
  else
    ((s.sb (Reg.BANK_STAT w n) Fld.BANK_STAT_FAULTY true).setHealth w 1).raiseOnce w (Reg.BANK_EVT_CTL w)
      Fld.BANK_EVT_CTL_TEST_EN 78 n

/-- The interval between window starts in ns (R405). -/
def State.windowGap (s : State) (w : Twin) : Nat := max 10 (s.rf (Reg.BANK_TEST_CFG w) Fld.BANK_TEST_CFG_GAP_US) * 1000

/-- The bank that a window slot at this instant tests (R405): none between the slots. -/
def State.windowBank (s : State) (w : Twin) : Option Nat :=
  if s.rb (Reg.BANK_TEST_CFG w) Fld.BANK_TEST_CFG_EN && decide ((s.tw w).bankTest.slotAt ≤ s.now) then
    (s.nextTested w (s.tw w).bankTest.bank).orElse (fun _ => s.nextTested w 0)
  else none

/-- The first bank that the test engine owns, which it marches whole, all the time (R410). -/
def State.engineBank (s : State) (w : Twin) : Option Nat :=
  (List.range 96).find? (fun b => decide (s.bankState w b = 2) && decide (s.bankOwner w b = 4))

/-- BANK_TEST_WINDOW (R405, R406, R409): one window of save, march and restore, which leave the contents as they were. Where no window starts, it
is the result of a march over a whole bank of the test engine (R410), the lowest one: DESIGN CHOICE (notes/assumptions/51.md). -/
def execBankTestWindow (t : Nat) (w : Twin) (march rerun : Passed) (s : State) : Host.Outcome State Fault Refusal :=
  let s1 := s.beginAt t
  match s1.windowBank w with
  | some b =>
    let win := (s1.tw w).bankTest.win
    let s2 := s1.modTw w (fun t => { t with bankTest := { t.bankTest with
      bank := b, cur := some (b, win), until_ := s1.now + 6144, slotAt := s1.now + s1.windowGap w } })
    let s3 := s2.sf (Reg.BANK_STAT w b) Fld.BANK_STAT_WINDOW win
    .next (advanceTest w b win (marchResult w b march rerun s3))
  | none => match s1.engineBank w with
    | some b => .next (marchResult w b march rerun s1)
    | none => .next s1

/-- BANK_TEST_ABORT (R407, R408): an access by the owner to the window borrowed at this instant; the contents are restored, the window is
retried at the next slot, and skipped after ABORT_MAX aborts in a row. In the clock in which the window starts the access comes first, and the
window does not start. -/
def execBankTestAbort (t : Nat) (w : Twin) (n : Fin 96) (s : State) : Host.Outcome State Fault Refusal :=
  let s1 := s.beginAt t
  let bt := (s1.tw w).bankTest
  match bt.cur with
  | some (b, win) =>
    if b = n.val ∧ s1.now + 6144 = bt.until_ then
      .next (s1.modTw w (fun t => { t with bankTest := { bt with win := win, bank := b, cur := none, until_ := 0 } }))
    else if b = n.val ∧ s1.now < bt.until_ then
      let aborts := (if bt.bank = b ∧ bt.win = win then bt.aborts else 0) + 1
      let s2 := s1.bump (Reg.BANK_TEST_CNT w) Fld.BANK_TEST_CNT_ABORTS
      let s3 := s2.modTw w (fun t => { t with bankTest := { bt with win := win, bank := b, aborts := aborts, until_ := 0 } })
      if max 1 (s1.rf (Reg.BANK_TEST_CFG w) Fld.BANK_TEST_CFG_ABORT_MAX) ≤ aborts then
        .next (advanceTest w b win (s3.bump (Reg.BANK_TEST_CNT w) Fld.BANK_TEST_CNT_SKIPPED))
      else .next s3
    else .next s1
  | none => .next s1

/-- LMEM_SCRUB (R411): every word is read; a word that needs correction is a MEM_ECC_ERROR. -/
def execLmemScrub (t : Nat) (_w : Twin) (_c : Fin 16) (s : State) : Host.Outcome State Fault Refusal := .next (s.beginAt t)

/-- DRAM_SCRUB (R414): the scrubber passes one more MiB of the 32 GiB. -/
def execDramScrub (t : Nat) (w : Twin) (s : State) : Host.Outcome State Fault Refusal :=
  let s1 := s.beginAt t
  let a := Reg.DRAM_SCRUB_POS w
  if s1.rb (Reg.DRAM_SCRUB w) Fld.DRAM_SCRUB_EN then
    let pos := s1.rf a Fld.DRAM_SCRUB_POS_POS
    if pos + 1 < 32768 then .next (s1.sf a Fld.DRAM_SCRUB_POS_POS (pos + 1))
    else .next ((s1.sf a Fld.DRAM_SCRUB_POS_POS 0).sf a Fld.DRAM_SCRUB_POS_PASSES (s1.rf a Fld.DRAM_SCRUB_POS_PASSES + 1))
  else .next s1

/-! ### DRAM (R412) -/

/-- The host reaches a DRAM byte through BAR2 (Table 15-4). -/
def dramHost (off : Nat) : Bool := decide (off < 0x700000000 ∨ (0x7C0000000 ≤ off ∧ off < 0x800000000))

/-- A core reaches a DRAM byte: reads the whole space, writes layer memory, the network region and the firmware region. -/
def dramCore (write : Bool) (off : Nat) : Bool :=
  decide (off < 0x800000000) &&
    (!write || decide (off < 0x708000000 ∨ (0x790000000 ≤ off ∧ off < 0x7C0000000)))

/-- DRAM_ACCESS_DENIED (R412): no effect on a write, 0 on a read; a core's access is counted and raises E76. -/
def execDramAccessDenied (t : Nat) (w : Twin) (agent : BankAgent) (acc : Access) (off : Nat) (s : State) :
    Host.Outcome State Fault Refusal :=
  let s1 := s.beginAt t
  let write : Bool := match acc with | .read => false | .write _ => true
  match agent with
  | .core _ => if dramCore write off then .next s1
    else if write then .next (s1.refuseBank w 0x7F) else .next ((s1.refuseBank w 0x7F).emit (.readData 0))
  | .host => if dramHost off ∨ write = true then .next s1 else .next (s1.emit (.readData 0))
  | _ => .next s1

/-! ### Banks and the images, NAP and DARK (R394, R403) -/

/-- Every bank takes the owner, core and power state of its entry (R394): cleared when ON. -/
def loadBanks (w : Twin) (s : State) : State :=
  (List.range 96).foldl (fun s n =>
    let st := s.imgBank w n 2 % 4
    let s1 := (s.clearBank w n).setBank w n BankSt.still
    let s2 := (s1.sf (Reg.BANK_CTL w n) Fld.BANK_CTL_OWNER (s1.imgBank w n 0)).sf (Reg.BANK_CTL w n) Fld.BANK_CTL_CORE (s1.imgBank w n 1)
    (s2.sf (Reg.BANK_CTL w n) Fld.BANK_CTL_STATE st).setBankState w n st) s

/-- Entry to NAP (R403). -/
def napBanks (w : Twin) (s : State) : State :=
  (List.range 96).foldl (fun s n =>
    let st := s.bankState w n
    let s1 := s.setBank w n { s.bank w n with saved := some st }
    if st = 2 then
      if bitAt (s.imgBank w n 2) 2 then s1.setBankState w n 1 else (s1.clearBank w n).setBankState w n 0
    else s1) s

/-- Wake from NAP (R403): each bank returns to its state before NAP; one that went OFF comes back cleared. The banks that reach ON raise E77 with
the lowest of them (R401). -/
def wakeBanks (w : Twin) (s : State) : State :=
  (List.range 96).foldl (fun s n =>
    match (s.bank w n).saved with
    | some st =>
      let s1 := (s.setBank w n { s.bank w n with saved := none }).setBankState w n st
      if st = 2 ∧ s.bankState w n ≠ 2 then s1.raiseOnce w (Reg.BANK_EVT_CTL w) Fld.BANK_EVT_CTL_READY_EN 77 n else s1
    | none => s) s

end Sys2Proof.Machine
end

