-- ==== Sys2Proof/Machine/Peri.lean ====
section
/-!
DEFINITION. The Peristome: block comparison, arbitration, digests, health and resync (chapter 13).
-/
namespace Sys2Proof.Machine

/-! ### Blocks and the start of an arbitration (R345 to R349, R353) -/

/-- ARB_WAIT in ns: values outside 20 to 150 µs act as the nearer bound. -/
def State.arbWait (s : State) : Nat := min 150 (max 20 (s.rf Reg.PERI_CFG Fld.PERI_CFG_ARB_WAIT)) * 1000

/-- The latch grace in ns. -/
def State.grace (s : State) : Nat := s.rf Reg.PERI_IMG Fld.PERI_IMG_GRACE_US * 1000

/-- The window of R353 for the tick interval in force: from tick k−1 on. -/
def State.flagWindow (s : State) : Nat := if s.tg.ran then s.tg.prev.raw else 0

/-- The CRC that a side of a block has. -/
def sideCrc : BlockSide → Word
  | .incomplete c => c
  | .whole c => c

/-- What the cut of a stream puts on the line at B_s (Table 13-5): ABORT on a Proren port with a packet in progress, the idle of any other
stream. Nothing changes on a strand port that the Thallus drives. -/
def cutStream (h : Held) (s : State) : State :=
  let w := (s.active.orElse (fun _ => s.peri.lost)).getD .a
  if h.stream < 128 ∧ s.portHeld then s
  else if h.stream < 128 ∧ s.personality w h.stream = 1 then (if h.busy then s.emitAbort h.stream else s)
  else s.emit (.cut h.stream s.now)

/-- A block of a stream joins the pending arbitration, or begins one (R353). `back` is r_s and `busy` says whether a packet or frame data
is in progress at the cut (Table 13-5). -/
def mismatch (stream block : Nat) (ca cb : Word) (busy : Bool) (back : Nat) (s : State) : State :=
  let h : Held := { stream := stream, block := block, cut := s.now, back := back, busy := busy }
  let p := { s.peri with dirty := true }
  match p.arb with
  | some a =>
    let a' := { a with held := a.held ++ [h] }
    cutStream h ({ s with peri := { p with arb := some a' } }.sf Reg.PERI_ARB_INFO Fld.PERI_ARB_INFO_HELD (min 255 a'.held.length))
  | none =>
    let w := (s.active.orElse (fun _ => s.peri.lost)).getD .a
    let s1 := { s with peri := { p with arb := some { tm := s.now, tdec := s.now + s.arbWait, since := s.flagWindow, active := w,
                                                      held := [h] } } }
    let s2 := (s1.sf Reg.PERI_STAT Fld.PERI_STAT_ARB_BUSY 1).bump Reg.PERI_CNT Fld.PERI_CNT_MISMATCH
    let s3 := s2.wr64 Reg.PERI_ARB_TS s2.stamp
    let s4 := ((((s3.sf Reg.PERI_ARB_INFO Fld.PERI_ARB_INFO_BLOCK (min 4095 block)).sf Reg.PERI_ARB_INFO Fld.PERI_ARB_INFO_OUTCOME 0).sf
      Reg.PERI_ARB_INFO Fld.PERI_ARB_INFO_ACTIVE_WAS w.code).sf Reg.PERI_ARB_INFO Fld.PERI_ARB_INFO_STREAM stream).sf
      Reg.PERI_ARB_INFO Fld.PERI_ARB_INFO_HELD 1
    (cutStream h ((s4.setReg Reg.PERI_ARB_CRC_A ca).setReg Reg.PERI_ARB_CRC_B cb)).raiseTh 0 stream

/-- A block that leaves without comparison (R349); none leaves to a strand port that the Thallus drives. -/
def State.uncompared (s : State) (stream : Nat) : State :=
  if stream < 128 && (s.safeOn || s.holdOn) then s else s.bump Reg.PERI_UNCMP Fld.PERI_UNCMP_BLOCKS

/-! ### The rings (R348) -/

def Ring.empty : Ring := { a := [], b := [], paused := none }
def State.ring (s : State) (stream : Nat) : Ring := ((s.peri.rings.find? (fun e => e.1 = stream)).map (·.2)).getD Ring.empty
def State.setRing (s : State) (stream : Nat) (r : Ring) : State :=
  { s with peri := { s.peri with rings := (stream, r) :: s.peri.rings.filter (fun e => e.1 ≠ stream) } }

/-- A block enters a ring: the oldest released one goes when 4 would be held, but the last released before a held one is kept for R357. -/
def ringPush (l : List RingBlock) (b : RingBlock) : List RingBlock :=
  let l1 := l ++ [b]
  if 4 ≤ l1.length ∧ 2 ≤ (l1.filter (fun x => !x.held)).length then l1.drop 1 else l1

/-- The ring is full: it has no buffer for the next block to enter (Table 13-6). -/
def ringFull (l : List RingBlock) : Bool := decide (4 ≤ l.length)

/-- A block of a stream enters the rings of both twins; `held` says that it waits for an arbitration. With a full ring the stream's
serialisers pause. -/
def ringClose (stream block : Nat) (sa sb : BlockSide) (held : Bool) (s : State) : State :=
  let r := s.ring stream
  let a := ringPush r.a ⟨block, sa, held⟩
  let b := ringPush r.b ⟨block, sb, held⟩
  s.setRing stream { a := a, b := b, paused := if held && (ringFull a || ringFull b) then some s.now else none }

/-- The held blocks of a stream are released, and its serialisers resume where they stopped. -/
def ringResume (stream : Nat) (s : State) : State :=
  let r := s.ring stream
  let free := fun (l : List RingBlock) => (l.map (fun x => { x with held := false })).drop (l.length - 3)
  s.setRing stream { a := free r.a, b := free r.b, paused := none }

/-- A stream is held: from a mismatch on it until it resumes (R353, R357). -/
def State.streamHeld (s : State) (stream : Nat) : Bool :=
  (match s.peri.arb with | some a => a.held.any (fun h => h.stream = stream) | none => false) ||
    (match s.peri.resume with | some (_, l) => l.any (fun h => h.stream = stream) | none => false)

/-- A twin delivers a stream again: the keepalive generator leaves its port (R349), and after a forced swap the ACTIVE twin's first block
ends the parking of the ports (R44). -/
def streamBack (stream : Nat) (w : Twin) (sa sb : BlockSide) (s : State) : State :=
  let whole : BlockSide → Bool := fun x => match x with | .whole _ => true | .incomplete _ => false
  let mine := match w with | .a => whole sa | .b => whole sb
  let p := s.peri
  leaveHold s { s with peri := { p with keepalive := if whole sa || whole sb then p.keepalive.filter (· ≠ stream) else p.keepalive,
                                        forced := p.forced && !mine, parked := p.parked && !mine } }

/-- The comparison of a block (R347). On a port that R62 releases from the ACTIVE twin alone, none is made from the start of its emission window
on. -/
def compareBlock (w : Twin) (stream block : Nat) (sa sb : BlockSide) (busy : Bool) (back : Nat) (s : State) : State :=
  let (mine, other) := match w with | .a => (sa, sb) | .b => (sb, sa)
  let skip : Bool := s.peri.undecided || s.peri.lagging.any (fun x => decide (x.1 = stream ∧ x.2.2 ≤ s.now)) || s.standby.isNone
  if skip then
    match mine with
    | .whole _ => s.uncompared stream
    | .incomplete _ => s
  else
    match mine, other with
    | .whole x, .whole y => if x = y then s else mismatch stream block (sideCrc sa) (sideCrc sb) busy back s
    | .incomplete _, .whole _ => mismatch stream block (sideCrc sa) (sideCrc sb) busy back (s.setHealth w 11)
    | .whole _, .incomplete _ => (s.uncompared stream).setHealth w.other 9
    | .incomplete _, .incomplete _ => s

/-- The close of a block of a stream (R347, R348): nothing closes while the stream's serialisers are paused. -/
def closeBlock (stream block : Nat) (sa sb : BlockSide) (busy : Bool) (back : Nat) (s : State) : State :=
  if (s.ring stream).paused.isSome then s
  else match s.active.orElse (fun _ => s.peri.lost) with
    | none => s
    | some w =>
      let s0 := streamBack stream w sa sb s
      let s1 := if s0.streamHeld stream then s0 else compareBlock w stream block sa sb busy back s0
      ringClose stream block sa sb (s1.streamHeld stream) s1

/-! ### The decision (R354 to R356) -/

/-- A twin is silent: HB_LOSS or STREAM_MISS is among its flags (R353). -/
def silent (flags : Nat) : Bool := bitAt flags 5 || bitAt flags 11

/-- Table 13-4: the outcome code for the flags of the ACTIVE twin and of the standby. -/
def outcome (fa fs : Nat) : Nat :=
  if fa ≠ 0 ∧ fs = 0 then 1
  else if fa = 0 ∧ fs ≠ 0 then 2
  else if fa ≠ 0 then (if silent fa && !silent fs then 1 else if silent fa then 4 else 2)
  else 3

/-- The digest that waits for the end of an arbitration is compared by `compareDigests` below; the end of an arbitration at the instant
`te` with an outcome (R354, R355, R357, R358): the records, and the streams due to resume. The roles are the caller's. -/
def settleArb (a : Arb) (te out : Nat) (s : State) : State :=
  let resumed := a.held.map (fun h => (h.stream, te + 2000 - h.cut + h.back, h.cut))
  let s1 := { s with peri := { s.peri with arb := none, resume := some (te + 2000, a.held), shifts := s.peri.shifts ++ resumed,
                                           undecided := s.peri.undecided || decide (out = 3) } }
  let s2 := ((s1.sf Reg.PERI_STAT Fld.PERI_STAT_ARB_BUSY 0).sf Reg.PERI_STAT Fld.PERI_STAT_LAST_OUT out).sf
    Reg.PERI_ARB_INFO Fld.PERI_ARB_INFO_OUTCOME out
  let s3 := (s2.sf Reg.PERI_ARB_FLAGS Fld.PERI_ARB_FLAGS_FLAGS_A (s2.flagsSince .a a.since)).sf
    Reg.PERI_ARB_FLAGS Fld.PERI_ARB_FLAGS_FLAGS_B (s2.flagsSince .b a.since)
  let s4 := s3.wr64 Reg.PERI_ARB_DEC_TS (s3.stampRaw te)
  if out = 1 then (s4.bump Reg.PERI_CNT Fld.PERI_CNT_FAILOVER).raiseTh 1 0
  else if out = 3 then (s4.bump Reg.PERI_CNT Fld.PERI_CNT_UNDECIDED).raiseTh 2 0
  else s4

/-- The roles that an outcome gives (R354): the Thallus sets the ISO bit of each twin that it isolates. A twin whose rail fell is OFF and stays
OFF (R471). -/
def outcomeRoles (w : Twin) (out : Nat) (s : State) : State :=
  let o := w.other
  match out with
  | 1 =>
    if s.roleOf w = .off then s.setRole o .active
    else (s.sb Reg.TWIN_CTL (Fld.iso w) true).setRoles2 w .isolated .active
  | 2 => s.isolate o
  | 4 =>
    if s.roleOf w = .off then s.isolate o
    else ((s.sb Reg.TWIN_CTL (Fld.iso w) true).sb Reg.TWIN_CTL (Fld.iso o) true).setRoles2 w .isolated .isolated
  | _ => s.setRole o .resync

/-- A change of roles during the arbitration that was not made by it leaves the twin then ACTIVE the winner. -/
def decideArb (a : Arb) (s : State) : State :=
  let w := a.active
  if (s.active = some w ∨ (s.active = none ∧ s.peri.lost = some w)) ∧ s.standby = some w.other then
    let out := outcome (s.flagsSince w a.since) (s.flagsSince w.other a.since)
    outcomeRoles w out (settleArb a a.tdec out s)
  else
    let out := if s.active = some w then 2 else if s.active = some w.other then 1 else 4
    settleArb a a.tdec out s

/-- A write that sets ISO or RST ends the arbitration at this instant (R356): the twin not named wins. The named twins' own change of role
is the caller's. -/
def endArb (na nb : Bool) (s : State) : State :=
  match s.peri.arb with
  | none => s
  | some a =>
    let w := a.active
    let names : Twin → Bool := fun t => match t with | .a => na | .b => nb
    let out := if names w && names w.other then 4 else if names w then 1 else 2
    settleArb a s.now out s

/-! ### Digests (R342 to R344, R363) -/

/-- The covered state of a twin at the newest tick. -/
def DigestSnap.of (d : DigestSnap) : Twin → Option (List (Nat × Nat))
  | .a => d.a
  | .b => d.b

/-- The settling count of R363 at an equal comparison. -/
def settle (o : Twin) (s : State) : State :=
  let s0 := { s with peri := { s.peri with dirty := false } }
  if s.roleOf o = .standby ∧ !s.peri.dirty then
    let n := s.rf Reg.PERI_STAT Fld.PERI_STAT_SETTLE_CNT + 1
    let s1 := s0.sf Reg.PERI_STAT Fld.PERI_STAT_SETTLE_CNT n
    if s1.rf Reg.PERI_IMG Fld.PERI_IMG_SETTLE ≤ n then s1.setRole o .ready else s1
  else s0

/-- The comparison of the digests of the newest tick (R343, R344): `arrA`, `arrB` say which have arrived. Digests differ where what they
cover differs (notes/assumptions/28.md). -/
def compareDigests (arrA arrB : Bool) (s : State) : State :=
  match s.peri.dig, s.active, s.standby with
  | some d, some w, some o =>
    let got : Twin → Option (List (Nat × Nat)) := fun t => match t with
      | .a => if arrA then d.a else none
      | .b => if arrB then d.b else none
    let s1 := { s with peri := { s.peri with dig := none, cmpA := (got .a).orElse (fun _ => s.peri.cmpA),
                                             cmpB := (got .b).orElse (fun _ => s.peri.cmpB) } }
    let equal : Bool := (got w).isSome && decide (got w = got o)
    let s2 := (s1.setReg Reg.PERI_DIG_TICK (BitVec.ofNat 32 d.k)).sb Reg.PERI_DIG_STAT Fld.PERI_DIG_STAT_EQUAL equal
    let diverge : State → State := fun x => (x.sb Reg.PERI_DIG_STAT Fld.PERI_DIG_STAT_MISMATCH true).setRole o .diverged
    if (got o).isNone then diverge (s2.setHealth o 10)
    else if (got w).isNone then s2.setHealth w 10
    else if equal then settle o s2
    else if s2.peri.missPrev && decide (s2.roleOf o = .ready) then
      s2.addSwap { from_ := w, then_ := .resync, byHost := false }
    else diverge s2
  | _, _, _ => { s with peri := { s.peri with dig := none } }

/-- A comparison that falls while an arbitration is pending waits for the decision (R356). -/
def digestCompare (arrA arrB : Bool) (s : State) : State :=
  if s.peri.arb.isSome then { s with peri := { s.peri with digestWait := some (arrA, arrB) } } else compareDigests arrA arrB s

/-- The comparison that waited (R356). -/
def lateDigest (s : State) : State :=
  match s.peri.digestWait with
  | some (x, y) => if s.peri.arb.isSome then s else compareDigests x y { s with peri := { s.peri with digestWait := none } }
  | none => s

/-! ### What health bits do at a tick (R352) -/

/-- Bits 0 to 5, 7 and 11. -/
def actingBits : Nat := 0x8BF

/-- FLAG_ACTION: the bits set since the last tick act on the standby, then on the ACTIVE twin. -/
def flagActions (s : State) : State :=
  let p := s.peri
  let s0 := { s with peri := { p with dueA := 0, dueB := 0, boA := false, boB := false } }
  let due : Twin → Nat := fun t => match t with | .a => p.dueA | .b => p.dueB
  let bo : Twin → Bool := fun t => match t with | .a => p.boA | .b => p.boB
  match s0.standby with
  | none => s0
  | some o =>
    let w := o.other
    if due o &&& actingBits ≠ 0 then s0.isolate o
    else if bitAt (due o) 9 then s0.setRole o .resync
    else if s0.active = some w ∧ s0.roleOf o = .ready then
      if due w &&& actingBits ≠ 0 ∧ s0.rb Reg.PERI_CFG Fld.PERI_CFG_FLAG_SWAP then
        (s0.sb Reg.TWIN_CTL (Fld.iso w) true).setRoles2 w .isolated .active
      else if bo w ∧ s0.boSwap w then s0.setRoles2 w .ready .active
      else s0
    else s0

/-! ### Resync (R362, R364) -/

/-- The registers that a joining twin keeps as its own (R362), by offset. -/
def ownOffset (x : Nat) : Bool :=
  let o := fun (r : Twin → Nat) => r .a - Twin.a.base
  decide (x = o Reg.TWIN_ID ∨ x = o Reg.TWIN_ROLE ∨ x = o Reg.TWIN_FAULT ∨ x = o Reg.TWIN_DIGEST ∨ x = o Reg.TWIN_DIGEST + 4 ∨
    x = o Reg.BANK_TEST_CNT ∨ x = o Reg.BANK_TEST_PASS ∨ x = o Reg.LMEM_ECC ∨ x = o Reg.DRAM_ECC ∨ x = o Reg.DRAM_UE_ADDR ∨
    x = o Reg.DRAM_UE_TS ∨ x = o Reg.DRAM_UE_TS + 4 ∨ x = o Reg.DRAM_SCRUB_POS ∨ x = o Reg.CURV_SCRUB ∨ x = o Reg.CURV_PASS)

/-- A byte address of one twin as that of the other. -/
def crossAddr (w : Twin) (a : Nat) : Nat :=
  let move := fun (f : Twin → Nat) => a - f w + f w.other
  if 0x1000000000000 ≤ a then move (fun t => Addr.inner t 0 0)
  else if 0x100000000000 ≤ a then move (fun t => Addr.img t 0 0 0)
  else if 0x1000000000 ≤ a then move (fun t => Addr.dram t 0)
  else move Twin.base

/-- The joining twin takes the registers of the other twin, but for its own (R362). -/
def copyRegs (w : Twin) (s : State) : State :=
  let o := w.other
  let keep := fun (a : Nat) => ownOffset (a % 0x10000000)
  let src := s.regs.filter (fun e => inTwin o e.1 && !keep e.1)
  let old := s
  let s1 := s.resetRegs (fun a => inTwin w a && !keep a)
  let s2 := src.foldl (fun x e => x.setReg (e.1 - o.base + w.base) e.2) s1
  (List.range 96).foldl (fun x n =>
    (x.sf (Reg.BANK_STAT w n) Fld.BANK_STAT_CE (old.rf (Reg.BANK_STAT w n) Fld.BANK_STAT_CE)).sf
      (Reg.BANK_STAT w n) Fld.BANK_STAT_FAULTY (old.rf (Reg.BANK_STAT w n) Fld.BANK_STAT_FAULTY)) s2

/-- The joining twin takes the bytes of the other twin. -/
def copyMem (w : Twin) (s : State) : State :=
  let src := s.mem.filter (fun e => memInTwin w.other e.1)
  src.foldl (fun x e => x.wrB (crossAddr w.other e.1) e.2) (s.resetMem (memInTwin w))

/-- The join at tick T (R362): the contexts are copied and every core of both twins has a JOIN pre-emption. -/
def joinAt (w : Twin) (s : State) : State :=
  let src := s.tw w.other
  let mine := s.tw w
  let curves := { src.curves with upset := mine.curves.upset.filter (fun e => decide (e.1 < 32768)) }
  let s1 := ((copyMem w (copyRegs w s)).modTw w (fun _ => { src with frames := [], once := mine.once, bankTest := mine.bankTest, graft := none,
                                                                     curves := curves })).sf
    (Reg.REJ_GRAFT_STAT w) Fld.REJ_GRAFT_STAT_STATE 0
  let s2 := causeAll .b Fld.SORUS_CAUSE_JOIN (causeAll .a Fld.SORUS_CAUSE_JOIN s1)
  ({ s2 with peri := { s2.peri with joined := true, joinTick := some s2.tickNo, copyEnd := none } }).sf
    Reg.PERI_RESYNC Fld.PERI_RESYNC_PHASE 2

/-- The curve slots that the other twin is writing are sent at the end of a resync in their state (R260). -/
def sendWriting (w : Twin) (s : State) : State :=
  let o := w.other
  let cs := (s.tw o).curves.writing
  let s1 := cs.foldl (fun x c => x.wrBytes (entryAddr w 10 0 c) (x.entBytes o 10 0 c 0 4096)) s
  s1.modTw w (fun t => { t with curves := { t.curves with writing := cs, covered := (s.tw o).curves.covered,
                                                          upset := t.curves.upset.filter (fun e => !cs.contains (e.1 / 8192)) } })

/-- What a tick does to a resync: the join at the first tick 100 µs or more after the end of COPY, STANDBY at the tick after the join. -/
def resyncTick (s : State) : State :=
  match s.joining with
  | none => s
  | some w =>
    if s.active ≠ some w.other then s
    else if s.peri.joined then
      let s1 := (sendWriting w s).setRole w .standby
      let s2 := { s1 with peri := { s1.peri with joined := false, joinTick := none, dirty := false } }
      (s2.sf Reg.PERI_STAT Fld.PERI_STAT_SETTLE_CNT 0).sf Reg.PERI_RESYNC Fld.PERI_RESYNC_PHASE 3
    else
      match s.peri.copyEnd with
      | some e => if e + 100000 ≤ s.now then joinAt w s else s
      | none => s

/-- A DIVERGED twin enters RESYNC at a tick when DIV_HOLD is 0 (R339). -/
def releaseDiverged (was : Roles) (s : State) : State :=
  if s.rb Reg.PERI_CFG Fld.PERI_CFG_DIV_HOLD then s
  else s.each (fun w => decide (s.roleOf w = .diverged) && decide ((match w with | .a => was.a | .b => was.b) = .diverged))
    (fun w x => x.setRole w .resync)

/-! ### The commands -/

/-- PERI_BLOCK_CLOSE (R347). -/
def execPeriBlockClose (t : Nat) (stream : Fin 132) (block : Nat) (sa sb : BlockSide) (busy : Bool) (back : Nat) (s : State) :
    Host.Outcome State Fault Refusal :=
  .next (closeBlock stream.val block sa sb busy back (s.beginAt t))

/-- HEALTH_FLAG (R350): a bit of bits 0 to 4, which a twin reports, or a bit that the Thallus observes. -/
def execHealthFlag (t : Nat) (w : Twin) (bit : Fin 12) (s : State) : Host.Outcome State Fault Refusal :=
  .next ((s.beginAt t).setHealth w bit.val)

/-- HEARTBEAT (R351): ignored of a twin that is OFF or ISOLATED. -/
def execHeartbeat (t : Nat) (w : Twin) (s : State) : Host.Outcome State Fault Refusal :=
  let s1 := s.beginAt t
  if s1.roleOf w = .off ∨ s1.roleOf w = .isolated then .next s1
  else match w with
    | .a => .next { s1 with peri := { s1.peri with hbA := s1.now } }
    | .b => .next { s1 with peri := { s1.peri with hbB := s1.now } }

/-- HB_LOSS (R350, R351): 30 µs have passed since the twin's last heartbeat. In NAP the twins' clocks
stand still, and no twin is flagged (R460). -/
def execHbLoss (t : Nat) (w : Twin) (s : State) : Host.Outcome State Fault Refusal :=
  let s1 := s.beginAt t
  let last := match w with | .a => s1.peri.hbA | .b => s1.peri.hbB
  if last + 30000 ≤ s1.now ∧ !s1.inNap then .next (s1.setHealth w 5) else .next s1

/-- RESYNC_COPY_DONE (R362). -/
def execResyncCopyDone (t : Nat) (s : State) : Host.Outcome State Fault Refusal :=
  let s1 := s.beginAt t
  match s1.joining with
  | some w =>
    if s1.active = some w.other ∧ s1.rf Reg.PERI_RESYNC Fld.PERI_RESYNC_PHASE = 1 then
      .next { s1 with peri := { s1.peri with copyEnd := some s1.now } }
    else .next s1
  | none => .next s1

/-- RESYNC_FAIL (R364). -/
def execResyncFail (t : Nat) (s : State) : Host.Outcome State Fault Refusal :=
  let s1 := s.beginAt t
  match s1.joining with
  | some w =>
    if s1.active = some w.other ∧ s1.rf Reg.PERI_RESYNC Fld.PERI_RESYNC_PHASE = 1 then
      let n := s1.peri.restarts + 1
      let s2 := { s1 with peri := { s1.peri with restarts := n, copyEnd := none } }.sf Reg.PERI_RESYNC Fld.PERI_RESYNC_COPIED 0
      if 3 ≤ n then .next ((s2.isolate w).raiseTh 8 0) else .next s2
    else .next s1
  | none => .next s1

/-- STREAM_ABSENT (R349): the keepalive generator drives a Proren port that no twin serves. After a forced swap every strand port is parked
in HOLD (R44). -/
def execStreamAbsent (t : Nat) (p : Fin 128) (s : State) : Host.Outcome State Fault Refusal :=
  let s1 := s.beginAt t
  let w := s1.active.getD .a
  let s2 : State := if s1.peri.forced then { s1 with peri := { s1.peri with parked := true } } else s1
  if s2.personality w p.val = 1 ∧ !s2.peri.keepalive.contains p.val then
    .next (leaveHold s1 { s2 with peri := { s2.peri with keepalive := s2.peri.keepalive ++ [p.val] } })
  else .next (leaveHold s1 s2)

end Sys2Proof.Machine
end

