-- ==== Sys2Proof/Machine/Net.lean ====
section
/-!
DEFINITION. Network ports: links, the classifier, frames for software, transmit and joins (chapter 5).
-/
namespace Sys2Proof.Machine

/-! ### Images and frames -/

/-- The used entries of a table of the image in effect: those with a byte that is not 0 (R112), in ascending order. -/
def State.usedEntries (s : State) (w : Twin) (ty inst : Nat) : List Nat :=
  let lo := Addr.img w ty inst 0
  let size := max 1 (entrySize ty inst)
  ((s.mem.filter (fun e => decide (lo ≤ e.1 ∧ e.1 < lo + 0x400000000))).map (fun e => (e.1 - lo) / size)).dedup

def State.modNet (s : State) (w : Twin) (f : Net → Net) : State := s.modTw w (fun t => { t with net := f t.net })

/-- Byte `i` of a frame. -/
def byteAt (b : List Byte) (i : Nat) : Nat := (b.getD i 0).toNat

/-- A field of `n` bytes of a frame, most significant first (R6). -/
def beAt (b : List Byte) (i n : Nat) : Nat := beNat ((b.drop i).take n)

/-- `n` bytes of a frame. -/
def slice (b : List Byte) (i n : Nat) : List Byte := (b.drop i).take n

/-- What the classifier sees of a frame (Table 5-1). -/
structure Parsed where
  tags : Nat
  tci : Nat
  etype : Nat
  v6 : Bool
  src : List Byte
  dst : List Byte
  proto : Nat
  /-- offset of what follows the IP header -/
  body : Nat
  /-- an IP datagram that is whole: not a fragment -/
  ip : Bool
deriving DecidableEq, Repr

/-- The layers of a frame (IEEE 802.3, 802.1Q, IPv4, IPv6; standards outside the spec). A hop-by-hop header, which MLD carries, is
passed. -/
def parse (b : List Byte) : Parsed :=
  let t1 := decide (beAt b 12 2 = 0x8100)
  let t2 := t1 && decide (beAt b 16 2 = 0x8100)
  let off := if t1 then 16 else 12
  let tags := if t2 then 2 else if t1 then 1 else 0
  let et := beAt b off 2
  let p := off + 2
  if et = 0x0800 ∧ byteAt b p / 16 = 4 then
    { tags := tags, tci := if t1 then beAt b 14 2 else 0, etype := et, v6 := false, src := slice b (p + 12) 4, dst := slice b (p + 16) 4,
      proto := byteAt b (p + 9), body := p + byteAt b p % 16 * 4, ip := decide (beAt b (p + 6) 2 % 0x4000 = 0) }
  else if et = 0x86DD ∧ byteAt b p / 16 = 6 then
    let nh := byteAt b (p + 6)
    { tags := tags, tci := if t1 then beAt b 14 2 else 0, etype := et, v6 := true, src := slice b (p + 8) 16, dst := slice b (p + 24) 16,
      proto := if nh = 0 then byteAt b (p + 40) else nh,
      body := if nh = 0 then p + 40 + 8 * (byteAt b (p + 41) + 1) else p + 40, ip := true }
  else
    { tags := tags, tci := if t1 then beAt b 14 2 else 0, etype := et, v6 := false, src := [], dst := [], proto := 256, body := p,
      ip := false }

/-- The base block of a time base in the TIME section (Table 4-6). -/
def State.imgBase (s : State) (w : Twin) (n off len : Nat) : Nat := s.imgTime w (32 + 32 * n + off) len

/-! ### Groups (R148) -/

/-- The sACN group of a universe (R148). -/
def sacnGroup (v6 : Bool) (u : Nat) : List Byte :=
  if v6 then [0xFF, 0x18, 0, 0, 0, 0, 0, 0, 0, 0, 0, 0, 0x83, 0] ++ beBytes 2 u else [239, 255] ++ beBytes 2 u

/-- The multicast station address of a group (IEEE 802.3 mapping of IPv4 and IPv6 groups). -/
def groupMac (g : List Byte) : List Byte :=
  if g.length = 4 then [0x01, 0x00, 0x5E, BitVec.ofNat 8 (byteAt g 1 % 128)] ++ g.drop 2 else [0x33, 0x33] ++ g.drop 12

/-- The flow's group and source (Table 4-13). -/
def State.flowGroup (s : State) (w : Twin) (f : Nat) : List Byte × Bool :=
  let v6 := bitAt (s.ent w 5 2 f 8 1) 1
  (if v6 then s.entBytes w 5 2 f 12 16 else s.entBytes w 5 2 f 12 4, v6)
def State.flowSource (s : State) (w : Twin) (f : Nat) : List Byte :=
  let v6 := bitAt (s.ent w 5 2 f 8 1) 1
  let a := if v6 then s.entBytes w 5 2 f 28 16 else s.entBytes w 5 2 f 28 4
  if a.all (fun b => b = 0) then [] else a
def State.flowOn (s : State) (w : Twin) (f : Nat) : Bool := bitAt (s.ent w 5 2 f 8 1) 0

/-- The groups that the join engine holds on a port: (group, sources), no sources in EXCLUDE mode (R148). -/
def State.groups (s : State) (w : Twin) (n : Nat) : List (List Byte × List (List Byte)) :=
  let es := (s.usedEntries w 5 1).filter (fun e => bitAt (s.ent w 5 1 e 2 1) n)
  let us := es.map (fun e => (sacnGroup (bitAt (s.ent w 5 1 e 3 1) 0) (s.ent w 5 1 e 0 2), ([] : List (List Byte))))
  let ss := (es.filter (fun e => bitAt (s.ent w 5 1 e 3 1) 1)).map (fun e =>
    (sacnGroup (bitAt (s.ent w 5 1 e 3 1) 0) (s.ent w 5 1 e 4 2), ([] : List (List Byte))))
  let fs := ((List.range 8).filter (fun f => s.flowOn w f && decide (s.ent w 5 2 f 0 1 = n))).map (fun f =>
    ((s.flowGroup w f).1, (match s.flowSource w f with | [] => [] | a => [a])))
  (us ++ ss ++ fs).dedup

/-- The station address filter of R136. -/
def State.macPasses (s : State) (w : Twin) (n : Nat) (b : List Byte) : Bool :=
  let d := slice b 0 6
  let ip6 := s.netIp6 w n
  let ptpPort : Bool := decide (s.imgBase w 0 1 1 = n) || decide (s.imgBase w 1 1 1 = n)
  decide (d = s.netMac w n) || decide (d = [0xFF, 0xFF, 0xFF, 0xFF, 0xFF, 0xFF]) ||
    decide (d = [0x01, 0x00, 0x5E, 0x00, 0x00, 0x01]) || decide (d = [0x33, 0x33, 0x00, 0x00, 0x00, 0x01]) ||
    decide (d = [0x33, 0x33, 0xFF] ++ ip6.drop 13) ||
    (ptpPort && (decide (d = [0x01, 0x1B, 0x19, 0, 0, 0]) || decide (d = [0x01, 0x00, 0x5E, 0x00, 0x01, 0x81]) ||
      decide (d = [0x33, 0x33, 0x00, 0x00, 0x01, 0x81]))) ||
    (s.groups w n).any (fun g => decide (groupMac g.1 = d))

/-- The frame goes to the port's own address. -/
def State.ownIp (s : State) (w : Twin) (n : Nat) (p : Parsed) : Bool :=
  if p.v6 then decide (p.dst = s.netIp6 w n) else decide (p.dst = s.netIp4 w n)

/-! ### The classifier (Table 5-1) -/

/-- The ACN packet identifier of an E1.31 root layer. -/
def acnId : List Byte := [0x41, 0x53, 0x43, 0x2D, 0x45, 0x31, 0x2E, 0x31, 0x37, 0, 0, 0]

inductive Consumer where
  | software (cls : Nat)
  | query
  | sacn
  | flow (f : Nat)
  | filtered
deriving DecidableEq, Repr

/-- A PTP message on the port and transport of TB0 or TB1 (Table 3-2): its domain number. -/
def State.ptpMatch (s : State) (w : Twin) (n : Nat) (b : List Byte) (p : Parsed) : Option Nat :=
  let on0 := decide (s.imgBase w 0 1 1 = n)
  let on1 := decide (s.imgBase w 1 1 1 = n)
  if p.etype = 0x88F7 then (if on0 then some (byteAt b (p.body + 4)) else none)
  else if p.ip ∧ p.proto = 17 ∧ (beAt b (p.body + 2) 2 = 319 ∨ beAt b (p.body + 2) 2 = 320) then
    if on0 || (on1 && !p.v6) then some (byteAt b (p.body + 8 + 4)) else none
  else none

/-- Rows 2 to 10 of Table 5-1, tried in order: an MLD message that is no query is ICMPv6, and row 8 takes it. -/
def State.classify (s : State) (w : Twin) (n : Nat) (b : List Byte) : Consumer :=
  let p := parse b
  let udp : Bool := p.ip && decide (p.proto = 17)
  let port := beAt b (p.body + 2) 2
  let igmp := decide (p.etype = 0x0800) && decide (p.proto = 2)
  let icmp6 := p.v6 && decide (p.proto = 58)
  let typ := byteAt b p.body
  if (s.ptpMatch w n b p).isSome then .software 1
  else if (igmp && decide (typ = 0x11)) || (icmp6 && decide (typ = 130)) then .query
  else if udp && decide (port = 5568) && s.netFlag w n 2 && (s.ownIp w n p || (s.groups w n).any (fun g => decide (g.1 = p.dst))) &&
      decide (slice b (p.body + 8 + 4) 12 = acnId) then .sacn
  else
    let f? := if udp then (List.range 8).find? (fun f => s.flowOn w f && decide (s.ent w 5 2 f 0 1 = n) && decide (s.ent w 5 2 f 10 2 = port)
        && decide ((s.flowGroup w f).1 = p.dst) && (match s.flowSource w f with | [] => true | a => decide (a = p.src))) else none
    match f? with
    | some f => .flow f
    | none =>
      if udp && decide (port = s.netCtlPort w n) && s.netFlag w n 4 && s.ownIp w n p then .software 3
      else if p.etype = 0x0806 then .software 4
      else if (decide (p.etype = 0x0800) && decide (p.proto = 1)) || icmp6 then .software 5
      else if igmp then .filtered
      else .software 7

/-! ### Frames for software (R139 to R141) -/

/-- The first DRAM address of the network region (Table 15-4). -/
def netRegion : Nat := 0x700000000

/-- The slots of the receive pool are 10,240 bytes long (R139). -/
def State.slot10k (s : State) (w : Twin) : Bool := (List.range 4).any (fun n => decide (2048 < s.netMaxLen w n))
def State.slotSize (s : State) (w : Twin) : Nat := if s.slot10k w then 10240 else 2048
def State.slotCount (s : State) (w : Twin) : Nat := if s.slot10k w then 6553 else 32768

/-- The lowest number not in a list. -/
def lowestFree : List Nat → Nat
  | l => ((List.range (l.length + 1)).find? (fun i => !l.contains i)).getD l.length

/-- A twin raises an event once in a tick interval for each value of its data (R137, R140, R145, R147, R152, R159). -/
def State.raiseOncePer (s : State) (w : Twin) (n data : Nat) : State :=
  if (s.tw w).once.seen.contains (n, data) then s else (s.modTw w (·.mark n data)).raiseTwin w n data

/-- A twin raises an event once in a tick interval. -/
def State.raiseFirst (s : State) (w : Twin) (n data : Nat) : State :=
  if (s.tw w).marked n then s else (s.modTw w (·.mark n data)).raiseTwin w n data

/-- The number of the frame that a packet belongs to whose last bit arrives now (R57). -/
def State.rxTick (s : State) : Nat := if s.tg.ran then (s.tickNo + 1) % 2 ^ 32 else 0

/-- The stamp of a frame whose first bit after the start-of-frame delimiter lies at the raw instant `t0` (R79, R141): on TB0 or TB1 for a PTP
message on its port in its domain, else on the base that the tick is on then (R98). -/
def State.rxStamp (s : State) (w : Twin) (n : Nat) (b : List Byte) (t0 : Nat) : Nat :=
  let of := fun (k : Nat) (dom : Nat) => decide (s.imgBase w k 1 1 = n) && decide (s.imgBase w k 2 1 = dom)
  match s.ptpMatch w n b (parse b) with
  | some dom => if of 0 dom then stampOf 0 (s.tb0.ns t0) else if of 1 dom then stampOf 1 (s.tb1.ns t0) else s.stampRaw t0
  | none => s.stampRaw t0

/-- A frame for software (R140). `frame` is the frame with its FCS, `keep` the bytes delivered of it. -/
def toSoftware (w : Twin) (n cls : Nat) (trunc : Bool) (t0 : Nat) (frame keep : List Byte) (s : State) : State :=
  let net := (s.tw w).net
  let slot := lowestFree net.pool
  if s.slotCount w ≤ slot then
    (s.bump (Reg.NET_RX_DROP w n) Fld.NET_RX_DROP_NOBUF).raiseFirst w 42 0
  else
    let q := s.rf (Reg.NET_SLOWQ w) Fld.NET_SLOWQ_QUEUE
    if !s.rb (Reg.NET_SLOWQ w) Fld.NET_SLOWQ_EN || !s.qUsed w q || decide (s.qWords w q < 4) then
      s.bump (Reg.NET_POOL w) Fld.NET_POOL_NO_QUEUE
    else
      let p := parse frame
      let d := slice frame 0 6
      let bc := decide (d = [0xFF, 0xFF, 0xFF, 0xFF, 0xFF, 0xFF])
      let flags := (if trunc then 1 else 0) + (if 0 < p.tags then 2 else 0) + (if byteAt frame 0 % 2 = 1 ∧ !bc then 4 else 0) +
        (if bc then 8 else 0) + (if p.v6 then 16 else 0)
      let body := leBytes 2 slot ++ leBytes 1 n ++ leBytes 1 cls ++ leBytes 2 keep.length ++ leBytes 2 (min frame.length 65535) ++
        leBytes 1 flags ++ [0] ++ leBytes 2 p.tci ++ leBytes 5 (s.rxStamp w n frame t0) ++ [0, 0, 0] ++ leBytes 4 s.rxTick ++
        List.replicate 8 0
      let s1 := (s.wrBytes (Addr.dram w (netRegion + slot * s.slotSize w)) keep).modNet w (fun x => { x with pool := slot :: x.pool })
      let item : Item := { typ := 1, prio := s.qPrio w q, more := false, dl := false, flowed := false, flow := 0, seq := 0, tick := 0,
                           body := body }
      match pushCounted w q (reqMac + n) false s.tickNo item s1 with
      | (.done _, s2) => s2
      | (_, s2) => s2.modNet w (fun x => { x with pool := x.pool.filter (fun i => i ≠ slot) })

/-! ### Membership reports (R149) -/

def joinGap : Nat := 1000000000

/-- Unsolicited state reports of a port, each sent twice 1 s apart. -/
def scheduleState (w : Twin) (n : Nat) (records : Option (List JoinRec)) (s : State) : State :=
  s.modNet w (fun x => { x with reports := x.reports ++
    ([false, true].flatMap (fun v6 => [⟨n, s.now, v6, false, records⟩, ⟨n, s.now + joinGap, v6, false, records⟩])) })

/-- The largest delay of an answer in ns that a query gives (RFC 2236, 3376, 2710, 3810). -/
def queryDelay (v6 : Bool) (b : List Byte) (off len : Nat) : Nat :=
  let float := fun (c mant exp : Nat) => if c < mant * exp then c else (c % mant + mant) * 2 ^ (c / mant % exp + 3)
  if v6 then (if len < 28 then beAt b (off + 4) 2 else
      let c := beAt b (off + 4) 2
      if c < 32768 then c else (c % 4096 + 4096) * 2 ^ (c / 4096 % 8 + 3)) * 1000000
  else (if len < 12 then byteAt b (off + 1) else float (byteAt b (off + 1)) 16 8) * 100000000

/-- A query schedules its answer (R149): IGMPv1 queries are ignored; an older querier is remembered for its timeout. An answer for a group that
waits already takes the new query in, at the earlier of the two instants (RFC 3376 section 5.2, RFC 3810 section 6.2). -/
def joinQuery (w : Twin) (n t0 : Nat) (frame : List Byte) (s : State) : State :=
  let p := parse frame
  let off := p.body
  let ipAt := if p.tags = 0 then 14 else 18
  let len := if p.v6 then beAt frame (ipAt + 4) 2 + ipAt + 40 - off else beAt frame (ipAt + 2) 2 + ipAt - off
  let v1 : Bool := !p.v6 && decide (len < 12) && decide (byteAt frame (off + 1) = 0)
  if v1 then s
  else
    let older : Bool := if p.v6 then decide (len < 28) else decide (len < 12)
    let s0 := if older then s.modNet w (fun x => { x with older := Smap.set 0 x.older (2 * n + (if p.v6 then 1 else 0)) (s.now + 260000000000) })
      else s
    let g := if p.v6 then slice frame (off + 8) 16 else slice frame (off + 4) 4
    let stamp := s.rxStamp w n frame t0
    let delay := min (queryDelay p.v6 frame off len) (Config.joinDelay stamp (s.netMac w n) (queryDelay p.v6 frame off len))
    let due := s.now + delay
    let general := g.all (fun b => b = 0)
    let held := (s.groups w n).filter (fun x => decide (x.1.length = (if p.v6 then 16 else 4)))
    let soon : Report → Bool := fun r => r.answer && decide (r.port = n) && decide (r.v6 = p.v6) && decide (r.records = none) && decide (r.due ≤ due)
    if (s0.tw w).net.reports.any soon then s0
    else if general then
      s0.modNet w (fun x => { x with reports := (x.reports.filter (fun r => !(r.answer && decide (r.port = n) && decide (r.v6 = p.v6)))) ++ [⟨n, due, p.v6, true, none⟩] })
    else
      match held.find? (fun x => x.1 = g) with
      | none => s0
      | some (_, mine) =>
        let hdr := if p.v6 then 24 else 8
        let asz := if p.v6 then 16 else 4
        let cnt := if older then 0 else beAt frame (off + hdr + 2) 2
        let asked := (List.range cnt).map (fun i => slice frame (off + hdr + 4 + i * asz) asz)
        let rec_ : JoinRec :=
          if asked = [] then ⟨if mine = [] then 2 else 1, g, mine⟩
          else ⟨1, g, if mine = [] then asked else mine.filter (fun a => asked.contains a)⟩
        let same : Report → Bool := fun r => r.answer && decide (r.port = n) && decide (r.v6 = p.v6) &&
          (match r.records with | some [x] => decide (x.group = g) | _ => false)
        match (s0.tw w).net.reports.find? same with
        | some r =>
          let whole : JoinRec := ⟨if mine = [] then 2 else 1, g, mine⟩
          let old := (r.records.getD []).getD 0 whole
          let merged : JoinRec := if asked = [] ∨ old = whole then whole else { old with srcs := (old.srcs ++ rec_.srcs).dedup }
          s0.modNet w (fun x => { x with reports := x.reports.map (fun y => if same y then { y with due := min y.due due, records := some [merged] } else y) })
        | none =>
          if asked ≠ [] ∧ rec_.srcs = [] then s0
          else s0.modNet w (fun x => { x with reports := x.reports ++ [⟨n, due, p.v6, true, some [rec_]⟩] })

/-- The bytes of a report on the line, FCS included (R149). -/
def reportLength (v6 : Bool) (version : Nat) (records : List JoinRec) : Nat :=
  if v6 then
    (if version = 1 then max 64 (14 + 40 + 8 + 24 + 4) else max 64 (14 + 40 + 8 + 8 + (records.map (fun r => 20 + 16 * r.srcs.length)).sum + 4))
  else
    (if version = 2 then max 64 (14 + 24 + 8 + 4) else max 64 (14 + 24 + 8 + (records.map (fun r => 8 + 4 * r.srcs.length)).sum + 4))

/-- Splits records into reports whose IP length is at most 1,500 bytes. -/
def packReports (v6 : Bool) : Nat → List JoinRec → List JoinRec → List (List JoinRec)
  | _, [], [] => []
  | _, [], cur => [cur]
  | 0, rest, cur => [cur ++ rest]
  | fuel + 1, r :: rest, cur =>
    let ver := if v6 then 2 else 3
    if cur ≠ [] ∧ 1500 + 18 < reportLength v6 ver (cur ++ [r]) then cur :: packReports v6 fuel (r :: rest) []
    else packReports v6 fuel rest (cur ++ [r])

/-- The source address of a port's reports (R149): IPV4_ADDR, or the link-local address of the station address by modified EUI-64. -/
def State.reportSource (s : State) (w : Twin) (n : Nat) (v6 : Bool) : List Byte :=
  if !v6 then s.netIp4 w n
  else
    let m := s.netMac w n
    [0xFE, 0x80, 0, 0, 0, 0, 0, 0, m.getD 0 0 ^^^ 2] ++ slice m 1 2 ++ [0xFF, 0xFE] ++ slice m 3 3

/-- One report leaves: the MAC of this twin counts it, and the ACTIVE twin's stream reaches the ball. -/
def sendReport (w : Twin) (n : Nat) (v6 : Bool) (version : Nat) (records : List JoinRec) (s : State) : State :=
  let len := reportLength v6 version records
  let s1 := s.bump (Reg.NET_TX_FRAMES w n) Fld.NET_TX_FRAMES_COUNT
  let s2 := s1.wr64 (Reg.NET_TX_BYTES w n) ((s1.rd64 (Reg.NET_TX_BYTES w n) + len) % 2 ^ 64)
  if s2.active = some w then s2.emit (.report n v6 version (s2.reportSource w n v6) true (records.map (fun r => (r.typ, r.group, r.srcs)))) else s2

/-- A report that is due is sent: nothing on a port whose link is down. -/
def sendDue (w : Twin) (r : Report) (s : State) : State :=
  if !s.rb (Reg.NET_LINK w r.port) Fld.NET_LINK_LINK_UP then s
  else
    let size := if r.v6 then 16 else 4
    let all := ((s.groups w r.port).filter (fun g => decide (g.1.length = size))).map (fun g =>
      (⟨if g.2 = [] then 2 else 1, g.1, g.2⟩ : JoinRec))
    let recs := (r.records.getD all).filter (fun x => decide (x.group.length = size))
    let old : Bool := decide (s.now < Smap.get 0 (s.tw w).net.older (2 * r.port + (if r.v6 then 1 else 0)))
    if old then recs.foldl (fun x g => sendReport w r.port r.v6 (if r.v6 then 1 else 2) [g] x) s
    else (packReports r.v6 (2 * recs.length + 2) recs []).foldl (fun x l => sendReport w r.port r.v6 (if r.v6 then 2 else 3) l x) s

/-- A report leaves the list of those that wait, and is sent. -/
def joinReport (w : Twin) (r : Report) (s : State) : State :=
  sendDue w r (s.modNet w (fun x => { x with reports := x.reports.erase r }))

/-- JOIN_REPORT (R149): the earliest report of the port that is due. -/
def execJoinReport (t : Nat) (w : Twin) (n : Fin 4) (s : State) : Host.Outcome State Fault Refusal :=
  let s1 := s.beginAt t
  match ((s1.tw w).net.reports.filter (fun r => decide (r.port = n.val) && decide (r.due ≤ s1.now))) with
  | [] => .next s1
  | r :: _ => .next (joinReport w r s1)

/-! ### Links (R134) -/

/-- The twins whose ports run. -/
def State.netTwins (s : State) : List Twin := twins.filter (fun w => decide (s.roleOf w ≠ .off))

/-- The MACs neither send nor receive: from step 4 of a sleep sequence to the end of the wake (Table 17-3, R463). -/
def State.netStopped (s : State) : Bool :=
  decide (3 ≤ s.rf Reg.PWR_STAT Fld.PWR_STAT_STATE) ||
    (decide (5 ≤ s.rf Reg.PWR_STAT Fld.PWR_STAT_PHASE) && decide (s.rf Reg.PWR_STAT Fld.PWR_STAT_PHASE ≤ 9))

def txDesc (w : Twin) (n i : Nat) : Nat := Addr.dram w (netRegion + 0x4000000 + n * 0x10000 + i % 4096 * 16)

/-- The MAC is done with a transmit descriptor: STATUS written, OWN cleared, HEAD advanced (R161). -/
def doneDesc (w : Twin) (n status : Nat) (s : State) : State :=
  let h := s.rf (Reg.NET_TX_HEAD w n) Fld.NET_TX_HEAD_HEAD
  let a := txDesc w n h
  let s1 := (s.wrB (a + 7) (BitVec.ofNat 8 status)).wrB (a + 6) (s.rdB (a + 6) &&& 0xFD)
  s1.sf (Reg.NET_TX_HEAD w n) Fld.NET_TX_HEAD_HEAD ((h + 1) % 4096)

/-- Every queued frame is discarded with status 2 (R134). -/
def discardTx (w : Twin) (n : Nat) : Nat → State → State
  | 0, s => s
  | fuel + 1, s =>
    if s.rf (Reg.NET_TX_HEAD w n) Fld.NET_TX_HEAD_HEAD = s.rf (Reg.NET_TX_TAIL w n) Fld.NET_TX_TAIL_TAIL then s
    else discardTx w n fuel (doneDesc w n 2 s)

/-- A port's link goes down (R134): CHG, E40, and the queued frames are discarded. -/
def linkDown (w : Twin) (n : Nat) (s : State) : State :=
  let a := Reg.NET_LINK w n
  if s.rb a Fld.NET_LINK_LINK_UP then
    discardTx w n 4096 (((s.sb a Fld.NET_LINK_LINK_UP false).sb a Fld.NET_LINK_CHG true).raiseTwin w 40 n)
  else s

/-- NET_LINK_UP (R134, R149). -/
def execNetLinkUp (t : Nat) (n : Fin 4) (s : State) : Host.Outcome State Fault Refusal :=
  .next ((s.beginAt t).netTwins.foldl (fun x w =>
    let a := Reg.NET_LINK w n.val
    if x.netMode w n.val = 0 then x
    else
      let x1 := (x.sb a Fld.NET_LINK_BLOCK_LOCK true).sb a Fld.NET_LINK_HI_BER false
      if x1.rb a Fld.NET_LINK_LINK_UP then x1
      else scheduleState w n.val none (((x1.sb a Fld.NET_LINK_LINK_UP true).sb a Fld.NET_LINK_CHG true).raiseTwin w 40 n.val))
    (s.beginAt t))

/-- NET_LINK_DOWN (R134): block lock lost, or HI_BER set. -/
def execNetLinkDown (t : Nat) (n : Fin 4) (hiBer : Bool) (s : State) : Host.Outcome State Fault Refusal :=
  .next ((s.beginAt t).netTwins.foldl (fun x w =>
    let a := Reg.NET_LINK w n.val
    linkDown w n.val (if hiBer then x.sb a Fld.NET_LINK_HI_BER true else x.sb a Fld.NET_LINK_BLOCK_LOCK false))
    (s.beginAt t))

/-! ### Transmit and the pool (R140, R161) -/

/-- NET_RXFREE (R140): an index that is not in use has no effect. -/
def freeSlot (v : Nat) (w : Twin) (s : State) : State := s.modNet w (fun x => { x with pool := x.pool.filter (fun i => i ≠ v) })

def execNetRxfree (t : Nat) (via : Via) (slot : Nat) (s : State) : Host.Outcome State Fault Refusal :=
  .next ((s.beginAt t).deliver via (freeSlot slot))

/-- A write of NET_TX_TAIL in one twin (R134, R161). -/
def writeTxTail (n : Nat) (v : Word) (w : Twin) (s : State) : State :=
  let s1 := s.sf (Reg.NET_TX_TAIL w n) Fld.NET_TX_TAIL_TAIL (getFld v Fld.NET_TX_TAIL_TAIL)
  if s1.rb (Reg.NET_LINK w n) Fld.NET_LINK_LINK_UP then s1 else discardTx w n 4096 s1

/-- NET_TX_TAIL (R161). -/
def execNetTxTail (t : Nat) (via : Via) (n : Fin 4) (v : Word) (s : State) : Host.Outcome State Fault Refusal :=
  .next ((s.beginAt t).deliver via (writeTxTail n.val v))

/-- A frame with the FCS that the MAC appends (R161). -/
def withFcs (b : List Byte) : List Byte := b ++ leBytes 4 (crc32 b)

/-- The raw instant of the first bit after the start-of-frame delimiter of a frame of `len` bytes, FCS included, that ends at this instant, at
the rate of the port's mode (R79, R133). -/
def State.txStart (s : State) (w : Twin) (n len : Nat) : Nat := s.now - ceilDiv (8 * len) (if s.netMode w n = 2 then 25 else 10)

/-- The reports of a port that were due before a frame began go before it, unless it is a PTP message (R160). -/
def reportsFirst (w : Twin) (n start : Nat) (frame : List Byte) (s : State) : State :=
  if (s.ptpMatch w n frame (parse frame)).isSome then s
  else ((s.tw w).net.reports.filter (fun r => decide (r.port = n) && decide (r.due < start))).foldl (fun x r => joinReport w r x) s

/-- One twin's MAC ends the frame at its HEAD (R161). -/
def txOne (n : Nat) (w : Twin) (s : State) : State :=
  let h := s.rf (Reg.NET_TX_HEAD w n) Fld.NET_TX_HEAD_HEAD
  if h = s.rf (Reg.NET_TX_TAIL w n) Fld.NET_TX_TAIL_TAIL then s
  else
    let a := txDesc w n h
    let len := s.rdLE (a + 4) 2
    if len < 60 ∨ s.netMaxLen w n < len + 4 then doneDesc w n 1 s
    else if !s.rb (Reg.NET_LINK w n) Fld.NET_LINK_LINK_UP then doneDesc w n 2 s
    else
      let frame := s.rdBytes (Addr.dram w (netRegion + s.rdLE a 4 % 0x8000000)) len
      let start := s.txStart w n (len + 4)
      let s0 := reportsFirst w n start frame s
      let s1 := (s0.bump (Reg.NET_TX_FRAMES w n) Fld.NET_TX_FRAMES_COUNT)
      let s2 := s1.wr64 (Reg.NET_TX_BYTES w n) ((s1.rd64 (Reg.NET_TX_BYTES w n) + len + 4) % 2 ^ 64)
      let s3 := if bitAt (s2.rdB (a + 6)).toNat 0 then s2.wrBytes (a + 8) (leBytes 5 (s2.rxStamp w n frame start)) else s2
      let s4 := doneDesc w n 0 s3
      if s4.active = some w then s4.emit (.net n (withFcs frame)) else s4

/-- NET_TX_DONE (R161): in every twin that transmits. -/
def execNetTxDone (t : Nat) (n : Fin 4) (s : State) : Host.Outcome State Fault Refusal :=
  let s1 := s.beginAt t
  if s1.netStopped then .next s1 else .next (s1.each s1.takesMirror (txOne n.val))

end Sys2Proof.Machine
end

