-- ==== Sys2Proof/Machine/Ingest.lean ====
section
/-!
DEFINITION. Ingest: the sACN receiver, the ST 2110-20 receiver, and a received frame (chapter 5).
-/
namespace Sys2Proof.Machine

/-! ### The sACN receiver (R142 to R153) -/

def Univ.empty : Univ := { srcs := [], fill := [], frozen := [], lost := false, syncLost := false, stamp := 0, pkts := 0 }

def State.univ (s : State) (w : Twin) (e : Nat) : Univ := Smap.get Univ.empty (s.tw w).net.univ e
def State.setUniv (s : State) (w : Twin) (e : Nat) (u : Univ) : State :=
  s.modNet w (fun x => { x with univ := Smap.set Univ.empty x.univ e u })

/-- A slot of a universe's values: a slot that nothing supplies is 0. -/
def slotAt (l : List Byte) (i : Nat) : Nat := (l.getD i 0).toNat

/-- The highest current priority of a universe's sources (R146). -/
def Univ.prio (u : Univ) : Nat := ((u.srcs.filter (·.live)).map (·.prio)).foldl max 0

/-- The sources that take part in the merge. -/
def Univ.leaders (u : Univ) : List SacnSrc := u.srcs.filter (fun x => x.live && x.prio = u.prio)

/-- The largest slot count of the taking-part sources. -/
def Univ.slots (u : Univ) : Nat := (u.leaders.map (·.data.length)).foldl max 0

/-- The merge of R146, made again: with no source left the last values stay (R147). -/
def Univ.merge (u : Univ) : Univ :=
  if u.srcs = [] then u
  else
    { u with fill := (List.range u.slots).map (fun i =>
        BitVec.ofNat 8 ((u.leaders.map (fun x => slotAt x.data i)).foldl max 0)) }

/-- TB3 counts in 2,500 ms (R147, R152). -/
def sacnTimeout : Nat := 2500000000

/-- How an E1.31 packet is taken (R142). -/
inductive SacnKind where
  | data | sync | software | bad
deriving DecidableEq, Repr

/-- The flags and length word of a PDU that reaches from offset `i` to the end `n` of the packet. -/
def pduLen (b : List Byte) (i n : Nat) : Bool := decide (beAt b i 2 / 4096 = 7) && decide (beAt b i 2 % 4096 + i = n)

/-- The kind of an E1.31 packet, whose bytes begin with the root layer's preamble (ANSI E1.31-2018 sections 5 to 7). -/
def sacnKind (b : List Byte) : SacnKind :=
  let n := b.length
  let root := beAt b 18 4
  let frame := beAt b 40 4
  if beAt b 0 2 ≠ 0x10 ∨ beAt b 2 2 ≠ 0 ∨ !pduLen b 16 n ∨ !pduLen b 38 n then .bad
  else if root = 8 ∧ frame = 2 then
    (if !pduLen b 112 n ∨ beAt b 114 4 ≠ 1 ∨ n < 120 ∨ n % 2 ≠ 0 ∨ 1144 < n then .bad else .software)
  else if root = 8 ∧ frame = 1 then (if n = 49 then .sync else .bad)
  else if root = 4 ∧ frame = 2 then
    if !pduLen b 115 n ∨ byteAt b 117 ≠ 2 ∨ byteAt b 118 ≠ 0xA1 ∨ beAt b 119 2 ≠ 0 ∨ beAt b 121 2 ≠ 1 ∨ beAt b 123 2 + 125 ≠ n ∨
        beAt b 123 2 = 0 ∨ 513 < beAt b 123 2 ∨ 200 < byteAt b 108 then .bad
    else if byteAt b 125 ≠ 0 then .software
    else .data
  else .bad

/-- A universe that a source has left (R147): lost when it was the last. -/
def leaveUniv (w : Twin) (e : Nat) (srcs : List SacnSrc) (s : State) : Bool × State :=
  let u := s.univ w e
  if srcs = u.srcs then (false, s)
  else if srcs = [] then (true, s.setUniv w e { u with srcs := [], lost := true })
  else (false, s.setUniv w e ({ u with srcs := srcs }.merge))

/-- Universes became lost: they count for E43, whose number is that of the whole tick interval (R147). -/
def countLost (w : Twin) (n : Nat) (s : State) : State := s.modNet w (fun x => { x with lost := x.lost + n })

/-- E43 at the end of a tick interval, with the number of the universes that became lost in it (R147, notes/assumptions/45.md). -/
def lostEvent (w : Twin) (s : State) : State :=
  if (s.tw w).net.lost = 0 then s
  else (s.modNet w (fun x => { x with lost := 0 })).raiseTwin w 43 (s.tw w).net.lost

/-- The source heard least recently among those of the lowest priority (R145). -/
def weakest (l : List SacnSrc) : Option SacnSrc :=
  let p := (l.map (·.prio)).foldl min 256
  (l.filter (fun x => x.prio = p)).foldl (fun m x => match m with
    | none => some x
    | some y => if x.heard < y.heard then some x else some y) none

/-- A data packet for entry `e` (R143 to R147, R150). -/
def sacnData (w : Twin) (n e t0 : Nat) (frame b : List Byte) (s : State) : State :=
  let opts := byteAt b 112
  if bitAt opts 7 then s.bump (Reg.SACN_CNT_MISC w) Fld.SACN_CNT_MISC_PREVIEW
  else
    let cid := beAt b 22 16
    let prio := byteAt b 108
    let seq := byteAt b 111
    let u := s.univ w e
    let old := u.srcs.find? (fun x => x.cid = cid)
    if bitAt opts 6 then
      let (l, s1) := leaveUniv w e (u.srcs.filter (fun x => x.cid ≠ cid)) s
      countLost w (if l then 1 else 0) s1
    else
      let d : Int := match old with | some x => toSigned 8 ((seq + 256 - x.seq) % 256) | none => 1
      if d = 0 then s.bump (Reg.SACN_CNT_DUP w) Fld.SACN_CNT_DUP_DUP
      else if -20 < d ∧ d < 0 then s.bump (Reg.SACN_CNT_BAD w) Fld.SACN_CNT_BAD_SEQ
      else
        let full : Bool := old.isNone && decide (4 ≤ u.srcs.length)
        let s1 := if full then (s.bump (Reg.SACN_CNT_MISC w) Fld.SACN_CNT_MISC_SRC_FULL).raiseFirst w 44 0 else s
        let weak := weakest u.srcs
        let room : Bool := !full || (match weak with | some x => decide (x.prio < prio) | none => true)
        if !room then s1
        else
          let rest := u.srcs.filter (fun x => decide (x.cid ≠ cid) && !(full && decide (some x = weak)))
          let data := slice b 126 (beAt b 123 2 - 1)
          let sync : Bool := bitAt (s.ent w 5 1 e 3 1) 1
          let addr := beAt b 109 2
          let force := bitAt opts 5
          let mine := s.ent w 5 1 e 4 2
          let s2 := if sync && decide (addr ≠ 0) && decide (addr ≠ mine) then
              s1.bump (Reg.SACN_CNT_MISC w) Fld.SACN_CNT_MISC_SYNC_MISMATCH else s1
          let holds : Bool := sync && decide (addr = mine) && (!u.syncLost || force)
          let now := s.tbNow 3
          let src : SacnSrc :=
            if holds then
              let waits := match old with | some x => x.pend | none => none
              { cid := cid, seq := seq, prio := (old.map (·.prio)).getD prio, heard := now, live := (old.map (·.live)).getD false,
                data := (old.map (·.data)).getD [],
                pend := some ⟨prio, data, (waits.map (·.since)).getD now, force⟩ }
            else { cid := cid, seq := seq, prio := prio, heard := now, live := true, data := data, pend := none }
          let u1 := { u with srcs := rest ++ [src], lost := false, stamp := s.rxStamp w n frame t0, pkts := (u.pkts + 1) % 2 ^ 32 }
          s2.setUniv w e (if holds && !full && old.isSome then u1 else u1.merge)

/-- A source's pending copy enters the merge. -/
def SacnSrc.release (x : SacnSrc) : SacnSrc :=
  match x.pend with
  | some p => { x with prio := p.prio, data := p.data, live := true, pend := none }
  | none => x

/-- A synchronisation packet for universe `a` (R151, R152). -/
def sacnSync (w : Twin) (a : Nat) (s : State) : State :=
  ((s.usedEntries w 5 1).filter (fun e => bitAt (s.ent w 5 1 e 3 1) 1 && decide (s.ent w 5 1 e 4 2 = a))).foldl (fun x e =>
    let u := x.univ w e
    x.setUniv w e ({ u with srcs := u.srcs.map SacnSrc.release, syncLost := false }.merge)) s

/-- A frame of row 4 of Table 5-1 in one twin (R142). -/
def sacnFrame (w : Twin) (n t0 : Nat) (frame : List Byte) (s : State) : State :=
  let p := parse frame
  let b := slice frame (p.body + 8) (beAt frame (p.body + 4) 2 - 8)
  match sacnKind b with
  | .bad => s.bump (Reg.SACN_CNT_BAD w) Fld.SACN_CNT_BAD_BAD
  | .software => toSoftware w n 2 false t0 frame (frame.take (frame.length - 4)) s
  | .sync => sacnSync w (beAt b 45 2) s
  | .data =>
    let uni := beAt b 113 2
    match (s.usedEntries w 5 1).find? (fun e => decide (s.ent w 5 1 e 0 2 = uni) && bitAt (s.ent w 5 1 e 2 1) n) with
    | some e => sacnData w n e t0 frame b s
    | none => s.bump (Reg.NET_RX_DROP w n) Fld.NET_RX_DROP_FILTERED

/-! ### The ST 2110-20 receiver (R154 to R159) -/

def StFlow.reset : StFlow :=
  { st := 1, cur := none, ended := [], next := none, gap := false, cov := [], fill := 0, ready := 1, frozen := 2, readyNew := false,
    readyRtp := 0, readyStamp := 0, doneAt := 0 }

def State.flow (s : State) (w : Twin) (f : Nat) : StFlow := Smap.get StFlow.reset (s.tw w).net.flows f
def State.setFlow (s : State) (w : Twin) (f : Nat) (x : StFlow) : State :=
  s.modNet w (fun n => { n with flows := Smap.set StFlow.reset n.flows f x })

/-- Bits per pixel and pixels of a group (Table 5-4). -/
def stBits (sampling depth : Nat) : Nat := if sampling = 2 then 2 * depth else 3 * depth
def stGroup (sampling depth : Nat) : Nat := if sampling = 2 then 2 else if depth = 8 then 1 else if depth = 10 then 4 else 2

/-- Bytes from one line of a frame buffer to the next (R155). -/
def stLine (width bits : Nat) : Nat := ceilDiv (width * bits / 8) 64 * 64

/-- The inner block that holds a buffer of a flow: the spec gives the buffers a region of the twin's DRAM (Table 15-4), and no address in it
(notes/assumptions/44.md). -/
def stBlock (f buf : Nat) : Nat := 16 + 3 * f + buf

/-- One sample row data segment: line, first pixel, its bytes. -/
structure Segment where
  line : Nat
  offset : Nat
  bytes : List Byte
deriving DecidableEq, Repr

/-- The sample row data headers from offset `i` on (RFC 4175, ST 2110-20): (length, field, line, offset), and whether the last one ends the
list. At most 3. -/
def srds (b : List Byte) : Nat → Nat → List (Nat × Bool × Nat × Nat) × Nat × Bool
  | 0, i => ([], i, false)
  | fuel + 1, i =>
    let h := (beAt b i 2, bitAt (beAt b (i + 2) 2) 15, beAt b (i + 2) 2 % 32768, beAt b (i + 4) 2 % 32768)
    if bitAt (beAt b (i + 4) 2) 15 then
      let (l, j, ok) := srds b fuel (i + 6)
      (h :: l, j, ok)
    else ([h], i + 6, true)

/-- Cuts the payload after the headers into segments. -/
def segments (b : List Byte) : Nat → List (Nat × Bool × Nat × Nat) → List Segment
  | _, [] => []
  | i, (n, _, y, x) :: rest => ⟨y, x, slice b i n⟩ :: segments b (i + n) rest

/-- The pixels of line `y` from `x` on are covered by received segments. -/
def reachPixel (cov : List (Nat × Nat × Nat)) (y : Nat) : Nat → Nat → Nat
  | 0, x => x
  | fuel + 1, x =>
    match cov.find? (fun (l, a, b) => l = y && a ≤ x && x < b) with
    | some (_, _, b) => reachPixel cov y fuel b
    | none => x

/-- Every line and every pixel is covered (R156). -/
def covered (cov : List (Nat × Nat × Nat)) (width height : Nat) : Bool :=
  (List.range height).all (fun y => decide (width ≤ reachPixel cov y cov.length 0))

/-- A frame that ends without being complete (R159). -/
def stFail (w : Twin) (f : Nat) (ts : Nat) (s : State) : State :=
  let x := s.flow w f
  ((s.setFlow w f { x with cur := none, ended := (ts :: x.ended).take 64, cov := [], gap := false }).bump (Reg.ST_CNT_FRM w f)
    Fld.ST_CNT_FRM_INCOMPLETE).raiseOncePer w 46 f

/-- A frame that ends complete (R157). -/
def stDone (w : Twin) (f : Nat) (ts stamp : Nat) (s : State) : State :=
  let x := s.flow w f
  let s1 := s.bump (Reg.ST_CNT_FRM w f) Fld.ST_CNT_FRM_COMPLETE
  let s2 := if x.readyNew then s1.bump (Reg.ST_CNT_RATE w f) Fld.ST_CNT_RATE_SKIPPED else s1
  s2.setFlow w f { x with cur := none, ended := (ts :: x.ended).take 64, cov := [], gap := false, fill := x.ready, ready := x.fill, readyNew := true,
                          readyRtp := ts, readyStamp := stamp, st := 2, doneAt := s.tbNow 3 }

/-- A packet of a flow in one twin (R154 to R159). -/
def stPacket (w : Twin) (n f t0 : Nat) (frame : List Byte) (s : State) : State :=
  let p := parse frame
  let b := slice frame (p.body + 8) (beAt frame (p.body + 4) 2 - 8)
  let bad : State → State := fun x => x.bump (Reg.ST_CNT_PKT w f) Fld.ST_CNT_PKT_BAD
  let hdr := 12 + byteAt b 0 % 16 * 4
  let (heads, start, ok) := srds b 3 (hdr + 2)
  let segs := segments b start heads
  let width := s.ent w 5 2 f 4 2
  let height := s.ent w 5 2 f 6 2
  let bits := stBits (s.ent w 5 2 f 1 1) (s.ent w 5 2 f 2 1)
  let group := stGroup (s.ent w 5 2 f 1 1) (s.ent w 5 2 f 2 1)
  let form : Bool := ok && decide (byteAt b 0 / 64 = 2) && heads.all (fun (len, field, _, x) => !field && decide (x % group = 0) &&
    decide (len * 8 % (bits * group) = 0)) && segs.all (fun g => decide (g.bytes.length ≠ 0)) &&
    decide (start + (heads.map (·.1)).sum ≤ b.length)
  let rtp : Bool := decide (byteAt b 0 / 64 = 2) && decide (hdr + 2 ≤ b.length)
  let ts := beAt b 4 4
  if !rtp then bad s
  else
    let seq := beAt b hdr 2 * 65536 + beAt b 2 2
    let marker := bitAt (byteAt b 1) 7
    let x0 := s.flow w f
    if x0.cur ≠ some ts ∧ x0.ended.contains ts then bad s
    else
      let s1 := match x0.cur with
        | some c => if c = ts then s else stFail w f c s
        | none => s
      let x1 := s1.flow w f
      let begins : Bool := x1.cur.isNone
      let missed := match x1.next with
        | some e => (seq + 2 ^ 32 - e) % 2 ^ 32
        | none => 0
      let s2 := if missed = 0 then s1 else s1.bump (Reg.ST_CNT_PKT w f) Fld.ST_CNT_PKT_LOST (if missed < 2 ^ 31 then missed else 0)
      let x2 := { x1 with cur := some ts, next := some ((seq + 1) % 2 ^ 32), gap := x1.gap || (!begins && decide (missed ≠ 0)) }
      let inside := segs.all (fun g => decide (g.line < height) && decide (g.offset + g.bytes.length * 8 / bits ≤ width))
      let s3 :=
        if form && inside then
          let wr := segs.foldl (fun st g =>
            st.wrBytes (Addr.inner w (stBlock f x2.fill) (g.line * stLine width bits + g.offset * bits / 8)) g.bytes) s2
          wr.setFlow w f { x2 with cov := segs.foldl (fun c g => (g.line, g.offset, g.offset + g.bytes.length * 8 / bits) :: c) x2.cov }
        else bad (s2.setFlow w f x2)
      if marker then
        let x3 := s3.flow w f
        if !x3.gap && covered x3.cov width height then stDone w f ts (s3.rxStamp w n frame t0) s3 else stFail w f ts s3
      else s3

/-! ### A received frame (R135 to R138) -/

/-- A received frame in one twin: `frame` runs from the destination address to the FCS, which is good or not. -/
def rxFrame (n t0 : Nat) (good : Bool) (frame : List Byte) (w : Twin) (s : State) : State :=
  let len := frame.length
  let p := parse frame
  if len < 64 then s.bump (Reg.NET_RX_ERR w n) Fld.NET_RX_ERR_RUNT
  else if !good then s.bump (Reg.NET_RX_ERR w n) Fld.NET_RX_ERR_FCS
  else if 2 ≤ p.tags then s.bump (Reg.NET_RX_DROP w n) Fld.NET_RX_DROP_FILTERED
  else if p.etype = 0x8808 then s.bump (Reg.NET_RX_MISC w n) Fld.NET_RX_MISC_PAUSE
  else if !s.macPasses w n frame then s.bump (Reg.NET_RX_DROP w n) Fld.NET_RX_DROP_FILTERED
  else
    let s1 := s.bump (Reg.NET_RX_FRAMES w n) Fld.NET_RX_FRAMES_COUNT
    let s2 := s1.wr64 (Reg.NET_RX_BYTES w n) ((s1.rd64 (Reg.NET_RX_BYTES w n) + len) % 2 ^ 64)
    let cls := s2.classify w n frame
    if s2.netMaxLen w n < len then
      let c := match cls with | .software c => c | .query => 6 | .sacn => 2 | _ => 7
      let s3 := (s2.bump (Reg.NET_RX_MISC w n) Fld.NET_RX_MISC_TRUNC).raiseOncePer w 41 n
      toSoftware w n c true t0 frame (frame.take (s2.netMaxLen w n)) s3
    else
      let data := frame.take (len - 4)
      match cls with
      | .software c => toSoftware w n c false t0 frame data s2
      | .query => toSoftware w n 6 false t0 frame data (joinQuery w n t0 frame s2)
      | .sacn => sacnFrame w n t0 frame s2
      | .flow f => stPacket w n f t0 frame s2
      | .filtered => s2.bump (Reg.NET_RX_DROP w n) Fld.NET_RX_DROP_FILTERED

/-- NET_RX_FRAME (R19, R138): in both twins whatever their roles, from the same bits and instants. -/
def execNetRxFrame (t t0 : Nat) (n : Fin 4) (good : Bool) (bytes : List Byte) (s : State) : Host.Outcome State Fault Refusal :=
  let s1 := s.beginAt t
  if s1.netStopped then .next s1
  else .next (s1.each (fun w => decide (s1.roleOf w ≠ .off) && decide (s1.netMode w n.val ≠ 0) && s1.rb (Reg.NET_LINK w n.val) Fld.NET_LINK_LINK_UP)
    (rxFrame n.val t0 good bytes))

/-! ### Losses (R147, R152, R159) -/

/-- SACN_SRC_LOSS (R147): every source of the twin that has sent nothing for 2,500 ms of TB3 leaves. -/
def execSacnSrcLoss (t : Nat) (w : Twin) (s : State) : Host.Outcome State Fault Refusal :=
  let s1 := s.beginAt t
  let now := s1.tbNow 3
  let (n, s2) := (s1.tw w).net.univ.foldl (fun (acc : Nat × State) e =>
    let (l, x) := leaveUniv w e.1 (e.2.srcs.filter (fun y => decide (now < y.heard + sacnTimeout))) acc.2
    (acc.1 + (if l then 1 else 0), x)) (0, s1)
  .next (countLost w n s2)

/-- SACN_SYNC_LOSS (R152): universes with a pending copy that has waited 2,500 ms of TB3. -/
def execSacnSyncLoss (t : Nat) (w : Twin) (s : State) : Host.Outcome State Fault Refusal :=
  let s1 := s.beginAt t
  let now := s1.tbNow 3
  let due : SacnSrc → Bool := fun y => match y.pend with | some p => decide (p.since + sacnTimeout ≤ now) | none => false
  let (n, s2) := (s1.tw w).net.univ.foldl (fun (acc : Nat × State) e =>
    let u := e.2
    if u.srcs.any due && !u.syncLost then
      (acc.1 + 1, acc.2.setUniv w e.1 ({ u with syncLost := true, srcs := u.srcs.map (fun (y : SacnSrc) =>
        match y.pend with | some p => if p.force then y else y.release | none => y) }.merge))
    else acc) (0, s1)
  if n = 0 then .next s2 else .next (s2.raiseFirst w 45 0)

/-- ST_FLOW_LOSS (R159): no frame of the flow complete for 1,000 ms of TB3. -/
def execStFlowLoss (t : Nat) (w : Twin) (f : Fin 8) (s : State) : Host.Outcome State Fault Refusal :=
  let s1 := s.beginAt t
  let x := s1.flow w f.val
  if s1.flowOn w f.val ∧ x.st = 2 ∧ x.doneAt + 1000000000 ≤ s1.tbNow 3 then
    .next ((s1.setFlow w f.val { x with st := 3 }).raiseTwin w 47 f.val)
  else .next s1

/-! ### At a tick (R58, R157) -/

/-- The fill copies become the frozen copies, and READY frames are frozen. -/
def ingestTick (w : Twin) (s : State) : State :=
  let s1 := s.modNet w (fun x => { x with univ := x.univ.map (fun e => (e.1, { e.2 with frozen := e.2.fill })) })
  (List.range 8).foldl (fun s f =>
    if s.flowOn w f then
      let x := s.flow w f
      let a := Reg.ST_STAT w f
      if x.readyNew then
        let s2 := s.setFlow w f { x with ready := x.frozen, frozen := x.ready, readyNew := false }
        ((s2.sb a Fld.ST_STAT_NEW true).setReg (Reg.ST_RTP w f) (BitVec.ofNat 32 x.readyRtp)).wr64 (Reg.ST_FRZ_TS w f) x.readyStamp
      else (s.sb a Fld.ST_STAT_NEW false).bump (Reg.ST_CNT_RATE w f) Fld.ST_CNT_RATE_REPEATED
    else s) s1

/-- What a graft's change of an entry of NET instance 1 does (R153). -/
def univChanged (w : Twin) (e oldUni newUni : Nat) (syncNow : Bool) (s : State) : State :=
  if oldUni ≠ newUni then s.setUniv w e Univ.empty
  else if syncNow then s
  else
    let u := s.univ w e
    s.setUniv w e ({ u with srcs := u.srcs.map SacnSrc.release }.merge)

/-- A graft's change of a flow restarts it in WAITING (R158). -/
def flowChanged (w : Twin) (f : Nat) (s : State) : State :=
  let s1 := s.setFlow w f StFlow.reset
  let s2 := (List.range 3).foldl (fun x b => x.resetMem (fun a => decide (Addr.inner w (stBlock f b) 0 ≤ a ∧ a < Addr.inner w (stBlock f b + 1) 0))) s1
  ((s2.sb (Reg.ST_STAT w f) Fld.ST_STAT_NEW false).setReg (Reg.ST_RTP w f) 0).wr64 (Reg.ST_FRZ_TS w f) 0

end Sys2Proof.Machine
end

