-- ==== Sys2Proof/Machine/Compose.lean ====
section
/-!
DEFINITION. The canvas: texel formats, windows and composite operators (R163 to R173), as a function of the state of a twin.
-/
namespace Sys2Proof.Machine

/-- A texel of four 16-bit components (R163). -/
structure Texel where
  r : Nat
  g : Nat
  b : Nat
  a : Nat
deriving DecidableEq, Repr

def Texel.zero : Texel := ⟨0, 0, 0, 0⟩

/-- Division rounded to the nearest integer, halves up. -/
def divRound (n d : Nat) : Nat := (2 * n + d) / (2 * d)

/-- An n-bit component as a 16-bit value (R166). -/
def widen (n v : Nat) : Nat := divRound (v * 65535) (2 ^ n - 1)

/-- Fields of a layer entry (Table 4-18). -/
def State.laySource (s : State) (w : Twin) (l : Nat) : Nat := s.layerE w l 0 1
def State.layRing (s : State) (w : Twin) (l : Nat) : Nat := s.layerE w l 1 1
def State.layFormat (s : State) (w : Twin) (l : Nat) : Nat := s.layerE w l 2 1
def State.laySrcIndex (s : State) (w : Twin) (l : Nat) : Nat := s.layerE w l 8 4
def State.laySrcW (s : State) (w : Twin) (l : Nat) : Nat := s.layerE w l 12 2
def State.laySrcH (s : State) (w : Twin) (l : Nat) : Nat := s.layerE w l 14 2
def State.layBase (s : State) (w : Twin) (l : Nat) : Nat := s.layerE w l 24 8
def State.layStride (s : State) (w : Twin) (l : Nat) : Nat := s.layerE w l 32 4
/-- The layer shows a ring (SOURCE 1 or 4). -/
def State.layRings (s : State) (w : Twin) (l : Nat) : Bool := decide (s.laySource w l = 1 ∨ s.laySource w l = 4)

/-- Values in effect of a layer: the LIVE registers (R183). -/
def State.liveOp (s : State) (w : Twin) (l : Nat) : Nat := s.rf (Reg.LAYER_LIVE_MODE w l) Fld.LAYER_LIVE_MODE_OP
def State.liveFilter (s : State) (w : Twin) (l : Nat) : Bool := s.rb (Reg.LAYER_LIVE_MODE w l) Fld.LAYER_LIVE_MODE_FILTER
def State.liveOpacity (s : State) (w : Twin) (l : Nat) : Nat := s.rf (Reg.LAYER_LIVE_OPACITY w l) Fld.LAYER_LIVE_OPACITY_OPACITY
def State.liveX (s : State) (w : Twin) (l : Nat) : Nat := s.rf (Reg.LAYER_LIVE_WIN_POS w l) Fld.LAYER_LIVE_WIN_POS_X
def State.liveY (s : State) (w : Twin) (l : Nat) : Nat := s.rf (Reg.LAYER_LIVE_WIN_POS w l) Fld.LAYER_LIVE_WIN_POS_Y
def State.liveW (s : State) (w : Twin) (l : Nat) : Nat := s.rf (Reg.LAYER_LIVE_WIN_SIZE w l) Fld.LAYER_LIVE_WIN_SIZE_W
def State.liveH (s : State) (w : Twin) (l : Nat) : Nat := s.rf (Reg.LAYER_LIVE_WIN_SIZE w l) Fld.LAYER_LIVE_WIN_SIZE_H

/-- The shown slot of a layer: none for NONE. -/
def State.shown (s : State) (w : Twin) (l : Nat) : Option Nat :=
  if s.rb (Reg.LAYER_LIVE_SLOT w l) Fld.LAYER_LIVE_SLOT_NONE then none
  else some (s.rf (Reg.LAYER_LIVE_SLOT w l) Fld.LAYER_LIVE_SLOT_SLOT)

def Layer.reset : Layer :=
  { cmtGen := [0, 0, 0, 0], closed := [true, true, true, true], untorn := [], next := none, after := none, useFrom := none, lines := none,
    waiting := true }

def State.layer (s : State) (w : Twin) (l : Nat) : Layer := Smap.get Layer.reset (s.tw w).lay.layers l

/-- The layer contributes to the frame that the newest tick began (R164). -/
def State.contributes (s : State) (w : Twin) (l : Nat) : Bool :=
  decide (s.laySource w l ≠ 0) && decide (s.liveOpacity w l ≠ 0) && (!s.layRings w l || (s.shown w l).isSome) &&
    (decide (s.laySource w l ≠ 2) || !(s.layer w l).waiting)

/-! ### Texel formats (Table 6-1, R165 to R168) -/

/-- Bytes per texel of a ring format. -/
def texelSize (fmt : Nat) : Nat :=
  match fmt with
  | 1 => 4 | 2 => 3 | 3 => 8 | 4 => 4 | 5 => 2 | 6 => 1 | _ => 0

/-- A texel of a ring format from its bytes. -/
def texelOf (fmt : Nat) (b : List Byte) : Texel :=
  let c := fun i => widen 8 (byteAt b i)
  let h := fun i => leNat (slice b i 2)
  match fmt with
  | 1 => ⟨c 0, c 1, c 2, c 3⟩
  | 2 => ⟨c 0, c 1, c 2, 65535⟩
  | 3 => ⟨h 0, h 2, h 4, h 6⟩
  | 4 =>
    let v := leNat b
    ⟨widen 10 (v % 1024), widen 10 (v / 1024 % 1024), widen 10 (v / 1048576 % 1024), widen 2 (v / 1073741824 % 4)⟩
  | 5 => ⟨h 0, h 0, h 0, 65535⟩
  | 6 => ⟨c 0, c 0, c 0, 65535⟩
  | _ => Texel.zero

/-- `n` bits of memory from a bit offset on, most significant first: the pixel groups of Table 5-4. -/
def State.rdBits (s : State) (a off n : Nat) : Nat :=
  let first := off / 8
  let last := (off + n + 7) / 8
  let v := beNat (s.rdBytes (a + first) (last - first))
  v / 2 ^ (8 * (last - first) - n - off % 8) % 2 ^ n

/-- A component of a flow's pixel as received: for 4:4:4 the three in wire order, for 4:2:2 luma at `c` = 1 and the pair's chroma at 0
and 2. -/
def State.flowCode (s : State) (w : Twin) (f x y c : Nat) : Nat :=
  let sampling := s.ent w 5 2 f 1 1
  let depth := s.ent w 5 2 f 2 1
  let width := s.ent w 5 2 f 4 2
  let line := Addr.inner w (stBlock f (s.flow w f).frozen) (y * stLine width (stBits sampling depth))
  let bit :=
    if sampling = 2 then x / 2 * 4 * depth + (if c = 0 then 0 else if c = 2 then 2 * depth else (if x % 2 = 0 then depth else 3 * depth))
    else (x * 3 + c) * depth
  s.rdBits line bit depth

/-- A component as an exact fraction clamped to 0 to 1, in 16 bits, halves rounded up (R167). -/
def toU16 (q : Rat) : Nat :=
  if q ≤ 0 then 0 else if 1 ≤ q then 65535 else (q * 65535 + 1 / 2).floor.toNat

/-- A pixel of a flow's FROZEN buffer as a texel (R167). -/
def State.flowTexel (s : State) (w : Twin) (f fmt x y : Nat) : Texel :=
  let sampling := s.ent w 5 2 f 1 1
  let depth := s.ent w 5 2 f 2 1
  let width := s.ent w 5 2 f 4 2
  let narrow : Bool := fmt % 2 = 0
  let sc : Rat := (2 ^ (depth - 8) : Nat)
  let full : Rat := ((2 ^ depth - 1 : Nat) : Rat)
  let luma := fun (v : Nat) => if narrow then ((v : Rat) - 16 * sc) / (219 * sc) else (v : Rat) / full
  let chroma := fun (v : Nat) => if narrow then ((v : Rat) - 128 * sc) / (224 * sc) else ((v : Rat) - ((2 ^ (depth - 1) : Nat) : Rat)) / full
  let c := fun i => s.flowCode w f x y i
  if sampling = 0 then ⟨toU16 (luma (c 0)), toU16 (luma (c 1)), toU16 (luma (c 2)), 65535⟩
  else
    let mean := fun i =>
      if sampling = 2 ∧ x % 2 = 1 ∧ x + 1 < width then divRound (s.flowCode w f (x - 1) y i + s.flowCode w f (x + 1) y i) 2 else c i
    let y' := luma (c 1)
    let cb := chroma (mean 0)
    let cr := chroma (mean 2)
    let kr : Rat := if fmt < 0x12 then 2126 / 10000 else 2627 / 10000
    let kb : Rat := if fmt < 0x12 then 722 / 10000 else 593 / 10000
    let r := y' + 2 * (1 - kr) * cr
    let b := y' + 2 * (1 - kb) * cb
    let g := (y' - kr * r - kb * b) / (1 - kr - kb)
    ⟨toU16 r, toU16 g, toU16 b, 65535⟩

/-- Texels per universe of a SOURCE 3 format. -/
def texelsPerUniv (fmt : Nat) : Nat := if fmt = 0x21 then 85 else 170

/-- A texel of a SOURCE 3 layer (R168). -/
def State.univTexel (s : State) (w : Twin) (l i : Nat) : Texel :=
  let fmt := s.layFormat w l
  let t := texelsPerUniv fmt
  let v := (s.univ w (s.laySrcIndex w l + i / t)).frozen
  let at_ := fun j => slotAt v j
  if fmt = 0x21 then
    let o := i % t * 6
    ⟨at_ o * 256 + at_ (o + 1), at_ (o + 2) * 256 + at_ (o + 3), at_ (o + 4) * 256 + at_ (o + 5), 65535⟩
  else
    let o := i % t * 3
    ⟨widen 8 (at_ o), widen 8 (at_ (o + 1)), widen 8 (at_ (o + 2)), 65535⟩

/-- A source texel of a layer. -/
def State.srcTexel (s : State) (w : Twin) (l x y : Nat) : Texel :=
  match s.laySource w l with
  | 2 => s.flowTexel w (s.laySrcIndex w l) (s.layFormat w l) x y
  | 3 => s.univTexel w l (y * s.laySrcW w l + x)
  | 0 => Texel.zero
  | _ =>
    let fmt := s.layFormat w l
    let n := texelSize fmt
    let a := Addr.dram w (s.layBase w l + (s.shown w l).getD 0 * s.layStride w l + (y * s.laySrcW w l + x) * n)
    texelOf fmt (s.rdBytes a n)

/-! ### Windows (R170, R171) -/

/-- Nearest sampling along one axis: the source index for window offset `u`. -/
def nearest (src win u : Nat) : Nat := min (src - 1) ((2 * u + 1) * src / (2 * max 1 win))

/-- Bilinear sampling along one axis: the two source indices and the weight of the second in units of 1/256. -/
def bilinear (src win u : Nat) : Nat × Nat × Nat :=
  let q : Int := ((((2 * u + 1) * src * 256 + win) / (2 * max 1 win) : Nat) : Int) - 128
  let clamp := fun (i : Int) => (max 0 (min i ((src : Int) - 1))).toNat
  let i := q / 256
  (clamp i, clamp (i + 1), (q % 256).toNat)

/-- A component interpolated between four texels, rounded half up (R171). -/
def mix4 (fx fy a b c d : Nat) : Nat :=
  divRound ((256 - fy) * ((256 - fx) * a + fx * b) + fy * ((256 - fx) * c + fx * d)) 65536

/-- The layer's sample at `u`, `v` in its window. -/
def State.sample (s : State) (w : Twin) (l u v : Nat) : Texel :=
  let sw := s.laySrcW w l
  let sh := s.laySrcH w l
  if s.liveFilter w l then
    let (x0, x1, fx) := bilinear sw (s.liveW w l) u
    let (y0, y1, fy) := bilinear sh (s.liveH w l) v
    let p := s.srcTexel w l x0 y0
    let q := if fx = 0 then p else s.srcTexel w l x1 y0
    let r := if fy = 0 then p else s.srcTexel w l x0 y1
    let t := if fx = 0 then r else if fy = 0 then q else s.srcTexel w l x1 y1
    ⟨mix4 fx fy p.r q.r r.r t.r, mix4 fx fy p.g q.g r.g t.g, mix4 fx fy p.b q.b r.b t.b, mix4 fx fy p.a q.a r.a t.a⟩
  else s.srcTexel w l (nearest sw (s.liveW w l) u) (nearest sh (s.liveH w l) v)

/-! ### Operators (Table 6-2, R172, R173) -/

/-- One colour component: `op`, layer colour `c`, alpha `a` (that is a'), canvas colour `d`. -/
def blend (op c a d : Nat) : Nat :=
  let n := 65535
  match op with
  | 0 => min n (divRound (c * a + d * (n - a)) n)
  | 1 => min n (divRound (d * n + c * a) n)
  | 2 => min n (divRound (d * ((n - a) * n + c * a)) (n * n))
  | 3 => min n (divRound (d * n + a * (c - d)) n)
  | 4 => min n (divRound (d * n - a * (d - c)) n)
  | _ => d

/-- A layer applied to a canvas texel. -/
def Texel.under (d : Texel) (op opacity : Nat) (c : Texel) : Texel :=
  let a := divRound (c.a * opacity) 65535
  ⟨blend op c.r a d.r, blend op c.g a d.g, blend op c.b a d.b, min 65535 (divRound (a * 65535 + d.a * (65535 - a)) 65535)⟩

/-- Enabled layers in ascending ORDER (R163). -/
def State.stack (s : State) (w : Twin) : List Nat :=
  (List.range 16).filterMap (fun o => (List.range 16).find? (fun l => decide (s.laySource w l ≠ 0) && decide (s.layerE w l 4 1 = o)))

/-- The canvas texel at (x, y) of the frame that the twin composes (R163, R172). -/
def State.canvas (s : State) (w : Twin) (x y : Nat) : Texel :=
  (s.stack w).foldl (fun d l =>
    let x0 := s.liveX w l
    let y0 := s.liveY w l
    if s.contributes w l && decide (x0 ≤ x ∧ x < x0 + s.liveW w l ∧ y0 ≤ y ∧ y < y0 + s.liveH w l) then
      d.under (s.liveOp w l) (s.liveOpacity w l) (s.sample w l (x - x0) (y - y0))
    else d) Texel.zero

/-! ### Stripes and bandwidth (R191, R193) -/

def State.stripeCount (s : State) (w : Twin) : Nat := ceilDiv (s.canvasH w) 64

/-- The CRC of a stripe (R191). -/
def State.stripeCrc (s : State) (w : Twin) (i : Nat) : Nat :=
  let lines := min 64 (s.canvasH w - 64 * i)
  ((List.range lines).foldl (fun c y => (List.range (s.canvasW w)).foldl (fun c x =>
    let t := s.canvas w x (64 * i + y)
    (leBytes 2 t.r ++ leBytes 2 t.g ++ leBytes 2 t.b).foldl crcByte c) c) 0xFFFFFFFF) ^^^ 0xFFFFFFFF

/-- The lines of a layer's clipped window: first and end. -/
def State.winLines (s : State) (w : Twin) (l : Nat) : Nat × Nat :=
  (s.liveY w l, min (s.canvasH w) (s.liveY w l + s.liveH w l))

/-- Distinct source indices along one axis, over `n` canvas positions of the window (R193). -/
def distinctAxis (filter : Bool) (src win n : Nat) : Nat :=
  ((List.range n).foldl (fun (acc : List Nat) u =>
    let add := fun (l : List Nat) (i : Nat) => if l.contains i then l else i :: l
    if filter then
      let (i, j, f) := bilinear src win u
      if f = 0 then add acc i else add (add acc i) j
    else add acc (nearest src win u)) []).length

/-- Bits that a layer reads in a frame (R193). -/
def State.layerBits (s : State) (w : Twin) (l : Nat) : Nat :=
  if !s.contributes w l then 0
  else if s.laySource w l = 3 then 4096 * ceilDiv (s.laySrcW w l * s.laySrcH w l) (texelsPerUniv (s.layFormat w l))
  else
    let nx := distinctAxis (s.liveFilter w l) (s.laySrcW w l) (s.liveW w l) (min (s.liveW w l) (s.canvasW w - s.liveX w l))
    let ny := distinctAxis (s.liveFilter w l) (s.laySrcH w l) (s.liveH w l) (min (s.liveH w l) (s.canvasH w - s.liveY w l))
    if s.laySource w l = 2 then
      let f := s.laySrcIndex w l
      nx * ny * stBits (s.ent w 5 2 f 1 1) (s.ent w 5 2 f 2 1)
    else 8 * nx * ny * texelSize (s.layFormat w l)

end Sys2Proof.Machine
end

