-- ==== Sys2Proof/Machine/Layers.lean ====
section
/-!
DEFINITION. Layers, buffer rings and commits (R174 to R192).
-/
namespace Sys2Proof.Machine

def State.modLay (s : State) (w : Twin) (f : Layers → Layers) : State := s.modTw w (fun t => { t with lay := f t.lay })
def State.setLayer (s : State) (w : Twin) (l : Nat) (x : Layer) : State :=
  s.modLay w (fun y => { y with layers := Smap.set Layer.reset y.layers l x })

/-- GEN of a slot (R176). -/
def genReg (w : Twin) (l i : Nat) : Nat × Fld :=
  match i with
  | 0 => (Reg.LAYER_GEN01 w l, Fld.LAYER_GEN01_GEN0)
  | 1 => (Reg.LAYER_GEN01 w l, Fld.LAYER_GEN01_GEN1)
  | 2 => (Reg.LAYER_GEN23 w l, Fld.LAYER_GEN23_GEN2)
  | _ => (Reg.LAYER_GEN23 w l, Fld.LAYER_GEN23_GEN3)
def State.gen (s : State) (w : Twin) (l i : Nat) : Nat := s.rf (genReg w l i).1 (genReg w l i).2
def State.damaged (s : State) (w : Twin) (l i : Nat) : Bool := bitAt (s.rf (Reg.LAYER_STAT w l) Fld.LAYER_STAT_DAMAGED) i

/-! ### The in-use interval and bulk writes (R175, R176, R178) -/

/-- The bytes from `off` to `off + n - 1` touch a slot of a layer's ring. -/
def State.touches (s : State) (w : Twin) (l i off n : Nat) : Bool :=
  let lo := s.layBase w l + i * s.layStride w l
  s.layRings w l && decide (i < s.layRing w l) && decide (n ≠ 0) && decide (off < lo + s.layStride w l) && decide (lo < off + n)

/-- The slot of a layer that is in use at this instant (R175): from the newest tick, at which it was latched, to its compute deadline. -/
def State.inUse (s : State) (w : Twin) (l : Nat) : Option Nat :=
  let t := s.tg.cur.raw
  if (s.layer w l).useFrom = some t ∧ t < s.now ∧ s.now < s.deadlineRaw then s.shown w l else none

/-- The first applied write to a slot after a commit named it increments its GEN (R176). -/
def fillSlot (w : Twin) (l i : Nat) (s : State) : State :=
  let x := s.layer w l
  if x.closed.getD i true then
    (s.sf (genReg w l i).1 (genReg w l i).2 (s.gen w l i + 1)).setLayer w l { x with closed := x.closed.set i false }
  else s

/-- Bytes of a bulk write that land: those in a region that the host reaches (R412). -/
def landBytes (w : Twin) : Nat → List Byte → State → State
  | _, [], s => s
  | off, b :: rest, s => landBytes w (off + 1) rest (if dramHost off then s.wrB (Addr.dram w off) b else s)

/-- The layers among `ls` with a slot in use that a write touches, and that slot (R175). -/
def State.hitSlots (s : State) (w : Twin) (ls : List Nat) (off n : Nat) : List (Nat × Nat) :=
  ls.filterMap (fun l => match s.inUse w l with
    | some i => if s.touches w l i off n then some (l, i) else none
    | none => none)

/-- A write that touches slots in use, of which `l0` is the first's layer, is discarded whole (R175): DAMAGED, the count and E51. -/
def discardWrite (w : Twin) (hit : List (Nat × Nat)) (l0 : Nat) (s : State) : State :=
  let s1 := hit.foldl (fun x (l, i) => x.sf (Reg.LAYER_STAT w l) Fld.LAYER_STAT_DAMAGED
    (x.rf (Reg.LAYER_STAT w l) Fld.LAYER_STAT_DAMAGED ||| 2 ^ i)) s
  (s1.bump (Reg.LAYER_DISCARD w) Fld.LAYER_DISCARD_COUNT).raiseOnce w (Reg.LAYER_EVT_CTL w) Fld.LAYER_EVT_CTL_DISC_EN 51 l0

/-- A write that is applied fills the slots that it touches (R176, R178). -/
def fillSlots (w : Twin) (off n : Nat) (s : State) : State :=
  (List.range 16).foldl (fun x l => (List.range 4).foldl (fun x i => if x.touches w l i off n then fillSlot w l i x else x) x) s

/-- A bulk write in one twin (R175, R178). -/
def bulkInto (off : Nat) (bytes : List Byte) (w : Twin) (s : State) : State :=
  match s.hitSlots w (List.range 16) off bytes.length with
  | (l0, i0) :: rest => discardWrite w ((l0, i0) :: rest) l0 s
  | [] => landBytes w off bytes (fillSlots w off bytes.length s)

/-- A core's write of a word into its twin's DRAM: it follows R175 in the slots of SOURCE 4 layers (R182), and is an applied write of R176
elsewhere. -/
def coreDram (w : Twin) (off : Nat) (v : Word) (s : State) : State :=
  match s.hitSlots w ((List.range 16).filter (fun l => decide (s.laySource w l = 4))) off 4 with
  | (l0, i0) :: rest => discardWrite w ((l0, i0) :: rest) l0 s
  | [] => (fillSlots w off 4 s).wrBytes (Addr.dram w off) (leBytes 4 v.toNat)

/-- BULK_WRITE (R26, R33, R175). -/
def execBulkWrite (t : Nat) (off : Nat) (bytes : List Byte) (s : State) : Host.Outcome State Fault Refusal :=
  .next ((s.beginAt t).deliver .mirror (bulkInto off bytes))

/-! ### Commits (R183 to R189) -/

/-- COMMIT_GUARD of the next tick in ns (R184). -/
def State.guard (s : State) (w : Twin) : Nat :=
  let p := match s.tg.ran, s.tg.pend with
    | false, some set => (set.rate.toNat / 2 ^ 20 * 1000000000, max 1 (set.rate.toNat % 2 ^ 20))
    | _, _ => s.tg.cur.period
  max 2000 (s.guardLines w * (p.1 / p.2 / max 1 (s.canvasH w)))

/-- The next tick has been placed. -/
def State.tickPlaced (s : State) : Bool := s.tg.ran || s.tg.arm.isSome

/-- A set captured now misses the cutoff of the next tick (R185). -/
def State.lateNow (s : State) (w : Twin) : Bool :=
  s.tickPlaced && decide (s.tg.next ≤ s.tbNow s.tg.base + s.guard w)

/-- The number of the next tick. -/
def State.nextTick (s : State) : Nat := if s.tg.ran then (s.tickNo + 1) % 2 ^ 32 else s.tg.latchK

/-- The window breaks R170. -/
def State.badWindow (s : State) (w : Twin) (l : Nat) (v : LayerVals) : Bool :=
  let sw := s.laySrcW w l
  let sh := s.laySrcH w l
  decide (v.w < sw ∨ 16 * sw < v.w ∨ v.h < sh ∨ 16 * sh < v.h ∨ s.canvasW w ≤ v.x ∨ s.canvasH w ≤ v.y)

/-- A set is refused at capture (R188). -/
def State.setRefused (s : State) (w : Twin) (l : Nat) (c : LayerSet) : Bool :=
  (match c.vals with | some v => decide (4 < v.op) || s.badWindow w l v | none => false) ||
    (match c.slot with | some i => s.layRings w l && decide (s.layRing w l ≤ i) | none => false) || decide (s.laySource w l = 0)

/-- A capture overwrites the fields it carries of a pending set (R186). -/
def mergeSet (old : Option LayerSet) (new : LayerSet) : LayerSet :=
  match old with
  | none => new
  | some o => { vals := new.vals.orElse (fun _ => o.vals), slot := new.slot.orElse (fun _ => o.slot) }

/-- A set becomes pending (R186). -/
def pendSet (w : Twin) (late : Bool) (l : Nat) (c : LayerSet) (s : State) : State :=
  let x := s.layer w l
  s.setLayer w l (if late then { x with after := some (mergeSet x.after c) } else { x with next := some (mergeSet x.next c) })

/-- Captures one layer's set: CMT_GEN of a named slot is recorded, and the set becomes pending (R176, R183, R186). -/
def captureOne (w : Twin) (late : Bool) (l : Nat) (c : LayerSet) (s : State) : State :=
  let x := s.layer w l
  let x1 := match c.slot with
    | some i => if s.layRings w l then { x with cmtGen := x.cmtGen.set i (s.gen w l i), closed := x.closed.set i true } else x
    | none => x
  pendSet w late l c (s.setLayer w l x1)

/-- What a late commit write of an arrival stamp leaves (R185). -/
def lateEffects (w : Twin) (stamp : Nat) (ls : List Nat) (s : State) : State :=
  let s1 := ls.foldl (fun x l => x.sb (Reg.LAYER_STAT w l) Fld.LAYER_STAT_LATE true) s
  let s2 := (s1.wr64 (Reg.LAYER_LATE_TS w) stamp).setReg (Reg.LAYER_LATE_TICK w) (BitVec.ofNat 32 ((s1.nextTick + 1) % 2 ^ 32))
  let s3 := (s2.bump (Reg.LAYER_CNT w) Fld.LAYER_CNT_LATE).modLay w (fun y => { y with lateNext := y.lateNext + 1 })
  s3.raiseOnce w (Reg.LAYER_EVT_CTL w) Fld.LAYER_EVT_CTL_LATE_EN 48 0

/-- Captures sets of several layers with one arrival stamp (R185, R188). Before tick 0 is placed the write waits to be judged. -/
def captureSets (w : Twin) (cs : List (Nat × LayerSet)) (s : State) : State :=
  let late := s.lateNow w
  let good := cs.filter (fun c => !s.setRefused w c.1 c.2)
  let s1 := cs.foldl (fun x c =>
    if s.setRefused w c.1 c.2 then
      (x.sb (Reg.LAYER_STAT w c.1) Fld.LAYER_STAT_REFUSED true).raiseIf w (Reg.LAYER_EVT_CTL w) Fld.LAYER_EVT_CTL_REF_EN 50 c.1
    else captureOne w late c.1 c.2 x) s
  if good = [] then s1
  else if late then lateEffects w s1.stamp (good.map (·.1)) s1
  else if s1.tickPlaced then s1
  else s1.modLay w (fun y => { y with early := y.early ++ [{ at_ := s1.now, stamp := s1.stamp, sets := good }] })

/-- The shadows of a layer as a set (R183). -/
def State.shadowSet (s : State) (w : Twin) (l : Nat) : LayerSet :=
  { vals := some {
      op := s.rf (Reg.LAYER_MODE w l) Fld.LAYER_MODE_OP, filter := s.rb (Reg.LAYER_MODE w l) Fld.LAYER_MODE_FILTER,
      opacity := s.rf (Reg.LAYER_OPACITY w l) Fld.LAYER_OPACITY_OPACITY,
      x := s.rf (Reg.LAYER_WIN_POS w l) Fld.LAYER_WIN_POS_X, y := s.rf (Reg.LAYER_WIN_POS w l) Fld.LAYER_WIN_POS_Y,
      w := s.rf (Reg.LAYER_WIN_SIZE w l) Fld.LAYER_WIN_SIZE_W, h := s.rf (Reg.LAYER_WIN_SIZE w l) Fld.LAYER_WIN_SIZE_H },
    slot := if s.rb (Reg.LAYER_SLOT w l) Fld.LAYER_SLOT_KEEP then none else some (s.rf (Reg.LAYER_SLOT w l) Fld.LAYER_SLOT_SLOT) }

/-- A write of LAYER_CMT in one twin (R183). -/
def commitLayers (v : Word) (w : Twin) (s : State) : State :=
  let mask := getFld v Fld.LAYER_CMT_MASK
  let cs := ((List.range 16).filter (fun l => bitAt mask l)).map (fun l => (l, s.shadowSet w l))
  let s1 := captureSets w cs s
  (cs.filter (fun c => !s.setRefused w c.1 c.2)).foldl (fun x c => x.sb (Reg.LAYER_SLOT w c.1) Fld.LAYER_SLOT_KEEP true) s1

/-- LAYER_CMT (R183). -/
def execLayerCmt (t : Nat) (via : Via) (v : Word) (s : State) : Host.Outcome State Fault Refusal :=
  .next ((s.beginAt t).deliver via (commitLayers v))

/-- A write of LAYER_RELAY that takes effect: a set of SLOT alone, in both twins (R189). -/
def relayLayer (v : Word) (s : State) : State :=
  s.deliver .mirror (fun w => captureSets w
    [(getFld v Fld.LAYER_RELAY_LAYER, { vals := none, slot := some (getFld v Fld.LAYER_RELAY_SLOT) })])

/-- LAYER_RELAY (R189). -/
def execLayerRelay (t : Nat) (src : Requester) (v : Word) (s : State) : Host.Outcome State Fault Refusal :=
  .next ((s.beginAt t).thWrite src (relayLayer v))

/-- A write of LAYER_STAT in one twin: DAMAGED is cleared through the mirror aperture alone (R181). -/
def layerStat (via : Via) (v : Word) : Word := if throughMirror via then v else v &&& 0xFFF0FFFF

/-- DAMAGED bits of a layer are cleared in one twin by a write of LAYER_STAT (R181); a bit that hardware sets at the same clock stays (R11). -/
def clearDamaged (via : Via) (l mask : Nat) (w : Twin) (s : State) : State :=
  s.plainWrite (Reg.LAYER_STAT w l) (layerStat via (BitVec.ofNat 32 (putFld 0 Fld.LAYER_STAT_DAMAGED mask)))

/-- LAYER_DAMAGED_CLEAR (R181): nothing through a private aperture. -/
def execLayerDamagedClear (t : Nat) (via : Via) (l : Fin 16) (mask : Fin 16) (s : State) : Host.Outcome State Fault Refusal :=
  .next ((s.beginAt t).deliver via (clearDamaged via l.val mask.val))

/-! ### The latch at a tick (R177 to R180, R186, R187) -/

/-- The shown slot becomes a slot or NONE. -/
def State.show (s : State) (w : Twin) (l : Nat) (slot : Option Nat) : State :=
  let a := Reg.LAYER_LIVE_SLOT w l
  match slot with
  | some i => (s.sb a Fld.LAYER_LIVE_SLOT_NONE false).sf a Fld.LAYER_LIVE_SLOT_SLOT i
  | none => (s.sb a Fld.LAYER_LIVE_SLOT_NONE true).sf a Fld.LAYER_LIVE_SLOT_SLOT 0

/-- The values in effect of a layer. -/
def State.liveVals (s : State) (w : Twin) (l : Nat) : LayerVals :=
  { op := s.rf (Reg.LAYER_LIVE_MODE w l) Fld.LAYER_LIVE_MODE_OP, filter := s.rb (Reg.LAYER_LIVE_MODE w l) Fld.LAYER_LIVE_MODE_FILTER,
    opacity := s.rf (Reg.LAYER_LIVE_OPACITY w l) Fld.LAYER_LIVE_OPACITY_OPACITY,
    x := s.rf (Reg.LAYER_LIVE_WIN_POS w l) Fld.LAYER_LIVE_WIN_POS_X, y := s.rf (Reg.LAYER_LIVE_WIN_POS w l) Fld.LAYER_LIVE_WIN_POS_Y,
    w := s.rf (Reg.LAYER_LIVE_WIN_SIZE w l) Fld.LAYER_LIVE_WIN_SIZE_W, h := s.rf (Reg.LAYER_LIVE_WIN_SIZE w l) Fld.LAYER_LIVE_WIN_SIZE_H }

/-- The values of a set become the values in effect. -/
def State.live (s : State) (w : Twin) (l : Nat) (v : LayerVals) : State :=
  let s1 := (s.sf (Reg.LAYER_LIVE_MODE w l) Fld.LAYER_LIVE_MODE_OP v.op).sb (Reg.LAYER_LIVE_MODE w l) Fld.LAYER_LIVE_MODE_FILTER v.filter
  let s2 := s1.sf (Reg.LAYER_LIVE_OPACITY w l) Fld.LAYER_LIVE_OPACITY_OPACITY v.opacity
  let s3 := (s2.sf (Reg.LAYER_LIVE_WIN_POS w l) Fld.LAYER_LIVE_WIN_POS_X v.x).sf (Reg.LAYER_LIVE_WIN_POS w l) Fld.LAYER_LIVE_WIN_POS_Y v.y
  (s3.sf (Reg.LAYER_LIVE_WIN_SIZE w l) Fld.LAYER_LIVE_WIN_SIZE_W v.w).sf (Reg.LAYER_LIVE_WIN_SIZE w l) Fld.LAYER_LIVE_WIN_SIZE_H v.h

/-- The substitute of a torn latch of slot `i` (R179). -/
def State.substitute (s : State) (w : Twin) (l i : Nat) : Option Nat :=
  if bitAt (s.layerE w l 5 1) 0 then none
  else
    match (s.layer w l).untorn.find? (fun e => e.1 ≠ i) with
    | some (j, g) => if !s.damaged w l j && decide (s.gen w l j = g) then some j else none
    | none => none

/-- A layer of a ring latches its shown slot (R177, R180). `carried` says that a set with SLOT took effect at this tick. -/
def latchLayer (w : Twin) (l : Nat) (carried : Bool) (s : State) : State :=
  let stat := Reg.LAYER_STAT w l
  match s.shown w l with
  | none => s
  | some i =>
    let x := s.layer w l
    if s.damaged w l i || decide (s.gen w l i ≠ x.cmtGen.getD i 0) then
      let sub := s.substitute w l i
      let s1 := s.show w l sub
      let s2 := match sub with
        | some j => s1.setLayer w l { x with cmtGen := x.cmtGen.set j (s1.gen w l j) }
        | none => s1
      let s3 := ((s2.sb stat Fld.LAYER_STAT_TORN true).sb stat Fld.LAYER_STAT_SUBST true).bump (Reg.LAYER_CNT w) Fld.LAYER_CNT_TORN
      if s3.rb (Reg.LAYER_EVT_CTL w) Fld.LAYER_EVT_CTL_TORN_EN then s3.raiseOncePer w 49 l else s3
    else
      let s1 := s.setLayer w l { x with untorn := (i, s.gen w l i) :: x.untorn.filter (fun e => e.1 ≠ i) }
      if carried then s1.sb stat Fld.LAYER_STAT_SUBST false else s1

/-- One layer at a tick: its due set, its latch, and its in-use interval. -/
def layerTick (w : Twin) (l : Nat) (s : State) : State :=
  let x := s.layer w l
  let s1 := s.setLayer w l { x with next := x.after, after := none, lines := some (s.winLines w l) }
  let s2 := match x.next with
    | some c =>
      let y := match c.vals with | some v => s1.live w l v | none => s1
      match c.slot with
      | some i => if y.layRings w l then y.show w l (some i) else y
      | none => y
    | none => s1
  let carried : Bool := match x.next with | some c => c.slot.isSome | none => false
  let s3 := if s2.layRings w l then latchLayer w l carried s2 else s2
  s3.setLayer w l { s3.layer w l with useFrom := some s3.now, waiting := decide ((s3.flow w (s3.laySrcIndex w l)).st = 1) }

/-- The context reset discards sets due at a later tick (R190). -/
def layerContextReset (w : Twin) (s : State) : State :=
  (List.range 16).foldl (fun x l => let y := x.layer w l; if y.after.isSome then x.setLayer w l { y with after := none } else x) s

/-- A layer restarts (R174). -/
def restartLayer (w : Twin) (l : Nat) (s : State) : State :=
  let x := s.layer w l
  let s1 := (s.show w l none).setLayer w l { Layer.reset with next := x.next, after := x.after }
  let s2 := (s1.setReg (Reg.LAYER_GEN01 w l) 0).setReg (Reg.LAYER_GEN23 w l) 0
  (s2.sf (Reg.LAYER_STAT w l) Fld.LAYER_STAT_DAMAGED 0).sb (Reg.LAYER_STAT w l) Fld.LAYER_STAT_SUBST false

/-- The commit writes captured before tick 0 was placed are judged against its cutoff once it is placed, in the order of their arrival
(R185). -/
def judgeEarly (w : Twin) (s : State) : State :=
  let es := (s.tw w).lay.early
  let s1 := (es.flatMap (fun e => e.sets.map (·.1))).foldl (fun x l => x.setLayer w l { x.layer w l with next := none, after := none })
    (s.modLay w (fun y => { y with early := [] }))
  es.foldl (fun x e =>
    let late : Bool := decide (x.tg.next ≤ (x.tb x.tg.base).ns e.at_ + x.guard w)
    let y := e.sets.foldl (fun y c => pendSet w late c.1 c.2 y) x
    if late then lateEffects w e.stamp (e.sets.map (·.1)) y else y) s1

/-- The layer's shadows and values in effect that the image defines (R103, R104, R183). -/
def State.layerDefaults (s : State) (w : Twin) (l : Nat) : LayerVals :=
  { op := s.layerE w l 3 1 % 8, filter := false, opacity := s.layerE w l 6 2, x := s.layerE w l 16 2, y := s.layerE w l 18 2,
    w := s.layerE w l 20 2, h := s.layerE w l 22 2 }

/-- The shadows of a layer return to the image's values (R31, R183). -/
def layerShadows (w : Twin) (l : Nat) (s : State) : State :=
  let v := s.layerDefaults w l
  let s1 := ((s.sf (Reg.LAYER_MODE w l) Fld.LAYER_MODE_OP v.op).sb (Reg.LAYER_MODE w l) Fld.LAYER_MODE_FILTER false).sf
    (Reg.LAYER_OPACITY w l) Fld.LAYER_OPACITY_OPACITY v.opacity
  let s2 := (s1.sf (Reg.LAYER_WIN_POS w l) Fld.LAYER_WIN_POS_X v.x).sf (Reg.LAYER_WIN_POS w l) Fld.LAYER_WIN_POS_Y v.y
  (s2.sf (Reg.LAYER_WIN_SIZE w l) Fld.LAYER_WIN_SIZE_W v.w).sf (Reg.LAYER_WIN_SIZE w l) Fld.LAYER_WIN_SIZE_H v.h

/-! ### Stripes (R191, R192) -/

/-- The frame that a twin computes: its newest account, until its deadline. -/
def State.computing (s : State) (w : Twin) : Option FrameAcct :=
  match (s.tw w).frames.find? (fun f => f.k = s.tickNo) with
  | some f => if f.closed then none else some f
  | none => none

/-- Changes the account of frame `k` of a twin. -/
def State.modFrame (s : State) (w : Twin) (k : Nat) (f : FrameAcct → FrameAcct) : State :=
  s.modTw w (fun t => { t with frames := t.frames.map (fun a => if a.k = k then f a else a) })

/-- Lines from `r.1` to `r.2 - 1` lie in a stripe of 64 lines. -/
def inStripe (i : Nat) (r : Nat × Nat) : Bool := decide (r.1 < 64 * i + 64) && decide (64 * i < r.2)

/-- A stripe is changed whatever its CRC (R191). -/
def State.stripeForced (s : State) (w : Twin) (i : Nat) : Bool :=
  (s.tw w).lay.allChanged || (List.range 16).any (fun l =>
    decide (s.laySource w l ≠ 0) && !bitAt (s.layerE w l 5 1) 1 &&
      (inStripe i (s.winLines w l) || (match (s.layer w l).lines with | some r => inStripe i r | none => false)))

/-- STRIPE_COMPLETE (R191): nothing for a stripe that the frame does not have or has completed, out of the order of the stripes, or past the
deadline. -/
def execStripeComplete (t : Nat) (w : Twin) (stripe : Nat) (s : State) : Host.Outcome State Fault Refusal :=
  let s1 := s.beginAt t
  match s1.computing w with
  | none => .next s1
  | some f =>
    if s1.stripeCount w ≤ stripe ∨ stripe ≠ f.stripes.length ∨ s1.deadlineRaw ≤ s1.now then .next s1
    else
      let crc := s1.stripeCrc w stripe
      let old := (s1.tw w).lay.crcs.find? (fun e => e.1 = stripe)
      let changed : Bool := s1.stripeForced w stripe || decide (old.map (·.2) ≠ some crc)
      let s2 := s1.modLay w (fun y => { y with crcs := (stripe, crc) :: y.crcs.filter (fun e => e.1 ≠ stripe) })
      let s3 := s2.modFrame w f.k (fun a => { a with stripes := stripe :: a.stripes, changed := a.changed + (if changed then 2 ^ stripe else 0) })
      if f.stripes.length + 1 = s1.stripeCount w then
        let total := ((List.range 16).map (fun l => s1.layerBits w l)).sum
        .next (s3.setReg (Reg.LAYER_BYTES w) (BitVec.ofNat 32 (ceilDiv total 512)))
      else .next s3

end Sys2Proof.Machine
end

