-- ==== Sys2Proof/Machine/Tables.lean ====
section
/-!
DEFINITION. The tables that connect the canvas to the rig (chapter 7): profiles, fixtures, map, patch and output universes, as they stand in
the image in effect.
-/
namespace Sys2Proof.Machine

/-- A number rounded to the nearest integer, halves up (R221). -/
def roundHalfUp (q : Rat) : Int := (q + 1 / 2).floor

/-! ### Profiles (Tables 7-2, 8-2, 12-3) -/

def State.prof (s : State) (w : Twin) (p off n : Nat) : Nat := s.ent w 9 0 p off n
def State.profEmitters (s : State) (w : Twin) (p : Nat) : Nat := s.prof w p 0 1
def State.outFmt (s : State) (w : Twin) (p : Nat) : Nat := s.prof w p 1 1

/-- Bytes per emitter of a word format (Table 7-3). -/
def wordBytes (fmt : Nat) : Nat :=
  match fmt with
  | 1 => 2 | 2 => 3 | 3 => 1 | 4 => 2 | 5 => 1 | 6 => 2 | _ => 0

/-- The fixture kind of a word format (Table 7-3). -/
def fmtKind (fmt : Nat) : Nat :=
  match fmt with
  | 1 => 1 | 2 => 1 | 3 => 3 | 4 => 3 | 5 => 2 | 6 => 2 | _ => 0

/-- D of R199. -/
def State.stride (s : State) (w : Twin) (p : Nat) : Nat :=
  let d := s.prof w p 2 1
  if d = 0 then s.profEmitters w p * wordBytes (s.outFmt w p) else d
def State.cellOfs (s : State) (w : Twin) (p : Nat) : Nat := s.prof w p 3 1
/-- The emitter sent at wire position `i`. -/
def State.wireEmitter (s : State) (w : Twin) (p i : Nat) : Nat := s.prof w p 4 3 / 8 ^ i % 8
def State.xover (s : State) (w : Twin) (p : Nat) : Nat := let x := s.prof w p 20 2; if x = 0 then 8192 else x
def State.noSplit (s : State) (w : Twin) (p : Nat) : Bool := bitAt (s.prof w p 19 1) 0
def State.coef (s : State) (w : Twin) (p e i : Nat) : Int := toSigned 16 (s.prof w p (24 + 8 * e + 2 * i) 2)
/-- A field of an emitter block. -/
def State.emitterF (s : State) (w : Twin) (p e off n : Nat) : Nat := s.prof w p (72 + 8 * e + off) n
def State.tLo (s : State) (w : Twin) (p e : Nat) : Int := toSigned 16 (s.emitterF w p e 4 2)
def State.tHi (s : State) (w : Twin) (p e : Nat) : Int := toSigned 16 (s.emitterF w p e 6 2)

/-- The crossover code of an emitter (R246). -/
def State.heldCode (s : State) (w : Twin) (p e : Nat) : Nat := max 1 (divRound (s.emitterF w p e 3 1 * s.xover w p) 65536)

/-! ### Fixtures (Table 7-4) -/

def State.fix (s : State) (w : Twin) (f off n : Nat) : Nat := s.ent w 12 0 f off n
def State.fixKind (s : State) (w : Twin) (f : Nat) : Nat := s.fix w f 0 1
def State.fixAddressed (s : State) (w : Twin) (f : Nat) : Bool := bitAt (s.fix w f 1 1) 0
def State.fixDiag (s : State) (w : Twin) (f : Nat) : Bool := bitAt (s.fix w f 1 1) 1
def State.fixProfile (s : State) (w : Twin) (f : Nat) : Nat := s.fix w f 2 2
def State.fixPort (s : State) (w : Twin) (f : Nat) : Nat := s.fix w f 4 1
def State.fixPixels (s : State) (w : Twin) (f : Nat) : Nat := s.fix w f 5 1
def State.fixNode (s : State) (w : Twin) (f : Nat) : Nat := s.fix w f 6 2
def State.fixBase (s : State) (w : Twin) (f : Nat) : Nat := s.fix w f 8 4
def State.fixZone (s : State) (w : Twin) (f : Nat) : Nat := s.fix w f 12 2
def State.fixMaster (s : State) (w : Twin) (f : Nat) : Nat := s.fix w f 14 1
def State.fixGain (s : State) (w : Twin) (f e : Nat) : Nat := let g := s.fix w f (16 + 2 * e) 2; if g = 0 then 32768 else g
def State.fixtures (s : State) (w : Twin) : List Nat := (s.usedEntries w 12 0).filter (fun f => decide (s.fixKind w f ≠ 0))

/-- The key of the slice in which a fixture lies, and its first byte there. -/
def State.fixSlice (s : State) (w : Twin) (f : Nat) : Nat × Nat :=
  let b := s.fixBase w f
  if s.fixKind w f = 3 then (128 + b % 16384, b / 65536 % 512 - 1) else (s.fixPort w f, b)

/-- Length of a fixture's region (R199). -/
def State.regionLen (s : State) (w : Twin) (f : Nat) : Nat :=
  let p := s.fixProfile w f
  if s.fixKind w f = 3 then s.prof w p 8 2 else s.cellOfs w p + s.fixPixels w f * s.stride w p

/-- The fixtures whose region lies in a slice. -/
def State.fixturesOn (s : State) (w : Twin) (key : Nat) : List Nat :=
  (s.fixtures w).filter (fun f => decide ((s.fixSlice w f).1 = key))

/-- Channels of a fixture that take words (R273). -/
def State.channels (s : State) (w : Twin) (f : Nat) : Nat := s.fixPixels w f * s.profEmitters w (s.fixProfile w f)

/-! ### Map (Table 7-5), patch and output universes (Tables 7-6, 7-7) -/

def State.mapE (s : State) (w : Twin) (m off n : Nat) : Nat := s.ent w 11 0 m off n
def State.mapUsed (s : State) (w : Twin) (m : Nat) : Bool := bitAt (s.mapE w m 6 2) 0
def State.mapFixture (s : State) (w : Twin) (m : Nat) : Nat := s.mapE w m 8 4 % 2 ^ 18
def State.mapPixel (s : State) (w : Twin) (m : Nat) : Nat := s.mapE w m 8 4 / 2 ^ 18 % 64
def State.maps (s : State) (w : Twin) : List Nat := (s.usedEntries w 11 0).filter (fun m => s.mapUsed w m)
def State.mapsOn (s : State) (w : Twin) (key : Nat) : List Nat :=
  (s.maps w).filter (fun m => decide ((s.fixSlice w (s.mapFixture w m)).1 = key))

def State.patchE (s : State) (w : Twin) (i off n : Nat) : Nat := s.ent w 13 0 i off n
def State.patchConst (s : State) (w : Twin) (i : Nat) : Bool := decide (s.patchE w i 0 2 = 0xFFFF)
def State.patchUsed (s : State) (w : Twin) (i : Nat) : Bool := s.patchConst w i || decide (s.patchE w i 2 2 % 512 ≠ 0)
def State.patches (s : State) (w : Twin) : List Nat := (s.usedEntries w 13 0).filter (fun i => s.patchUsed w i)
def State.patchCount (s : State) (w : Twin) (i : Nat) : Nat := s.patchE w i 6 2 / 1024 + 1
/-- DST_SLOT, from 1. -/
def State.patchDst (s : State) (w : Twin) (i : Nat) : Nat := s.patchE w i 6 2 % 1024

def State.outE (s : State) (w : Twin) (u off n : Nat) : Nat := s.ent w 13 1 u off n
def State.outDest (s : State) (w : Twin) (u : Nat) : Nat := s.outE w u 2 1
def State.outs (s : State) (w : Twin) : List Nat := (s.usedEntries w 13 1).filter (fun u => decide (s.outDest w u ≠ 0))
def State.outSlots (s : State) (w : Twin) (u : Nat) : Nat := s.outE w u 4 2
def State.outMerge (s : State) (w : Twin) (u : Nat) : Bool := bitAt (s.outE w u 7 1) 0
def State.outV6 (s : State) (w : Twin) (u : Nat) : Bool := bitAt (s.outE w u 7 1) 1

/-- The output universe entry of a DMX port (R211). -/
def State.dmxUniv (s : State) (w : Twin) (p : Nat) : Option Nat :=
  (s.outs w).find? (fun u => decide (s.outDest w u = 2) && decide (s.outE w u 3 1 = p))

/-- LEN of a slice (R194). -/
def State.sliceLen (s : State) (w : Twin) (key : Nat) : Nat :=
  if 128 ≤ key then s.outSlots w (key - 128)
  else (s.fixturesOn w key).foldl (fun n f => max n ((s.fixSlice w f).2 + s.regionLen w f)) 0

/-- A slice of the frame exists: a port of personality 1, 3 or 4, or a used output universe (R194). -/
def State.hasSlice (s : State) (w : Twin) (key : Nat) : Bool :=
  if 128 ≤ key then decide (s.outDest w (key - 128) ≠ 0)
  else decide (s.personality w key = 1 ∨ s.personality w key = 3 ∨ s.personality w key = 4)

/-- Every slice of a frame, by key. -/
def State.sliceKeys (s : State) (w : Twin) : List Nat :=
  (List.range 128).filter (s.hasSlice w) ++ (s.outs w).map (128 + ·)

/-- The strand port that a slice goes to (R211). -/
def State.slicePort (s : State) (w : Twin) (key : Nat) : Option Nat :=
  if key < 128 then some key else if s.outDest w (key - 128) = 2 then some (s.outE w (key - 128) 3 1) else none

/-- The key of the slice that a port emits. -/
def State.portKey (s : State) (w : Twin) (p : Nat) : Option Nat :=
  match s.personality w p with
  | 0 => none
  | 2 => (s.dmxUniv w p).map (128 + ·)
  | _ => some p

end Sys2Proof.Machine
end

