-- ==== Sys2Proof/Machine/Curves.lean ====
section
/-!
DEFINITION. The Curve Store (chapter 9).
-/
namespace Sys2Proof.Machine

def State.modCurves (s : State) (w : Twin) (f : Curves → Curves) : State := s.modTw w (fun t => { t with curves := f t.curves })

/-- Point `i` of a slot in L20 (R251 to R253): C0 to C3 are fixed (Table 9-1). -/
def State.point (s : State) (w : Twin) (c i : Nat) : Nat :=
  match c with
  | 0 => 1025 * i
  | 1 => 0
  | 2 => 1048575
  | 3 =>
    if 100 * i ≤ 8 * 1023 then divRound (1048575 * i * 2700) (1023 * 24389)
    else divRound (1048575 * (100 * i + 16 * 1023) ^ 3) ((116 * 1023) ^ 3)
  | _ => s.ent w 10 0 c (4 * i) 4 % 2 ^ 20

/-- What the replica of lane `l` holds of a point, and whether its parity is good (R251): what was written, but for upsets. -/
def State.replica (s : State) (w : Twin) (c i l : Nat) : Nat × Bool :=
  match (s.tw w).curves.upset.find? (fun e => e.1 = (c * 1024 + i) * 8 + l) with
  | some e => e.2
  | none => (s.point w c i, true)

/-- The eight replicas of a point. -/
def State.replicas (s : State) (w : Twin) (c i : Nat) : List (Nat × Bool) := (List.range 8).map (s.replica w c i)

/-- Upsets of the replicas of a point. -/
def upsetPoint (w : Twin) (c i : Nat) (us : List Upset) (s : State) : State :=
  us.foldl (fun x u => x.modCurves w (fun v =>
    let key := (c * 1024 + i) * 8 + u.lane.val
    { v with upset := (key, u.value.toNat, u.good) :: v.upset.filter (fun e => e.1 ≠ key) })) s

/-- A write of points writes all eight replicas (R251): no upset is left in these slots. -/
def freshSlots (w : Twin) (cs : List Nat) (s : State) : State :=
  s.modCurves w (fun v => { v with upset := v.upset.filter (fun e => !cs.contains (e.1 / 8192)) })

/-- The scrubber writes a value into all replicas of a point. -/
def writePoint (w : Twin) (c i v : Nat) (s : State) : State :=
  let s1 := if v = s.point w c i then s else s.wrBytes (entryAddr w 10 0 c + 4 * i) (leBytes 4 v)
  s1.modCurves w (fun x => { x with upset := x.upset.filter (fun e => e.1 / 8 ≠ c * 1024 + i) })

/-- The value that a scrub of a point keeps (R263): the one that at least 5 replicas hold with good parity; for C0 to C3 the fixed one. -/
def State.majority (s : State) (w : Twin) (c i : Nat) : Option Nat :=
  if c < 4 then some (s.point w c i)
  else
    let rs := s.replicas w c i
    (rs.find? (fun r => r.2 && decide (5 ≤ rs.count r))).map (·.1)

/-- A lookup (R225) of `x` of `den`, in units of 1/1,024 of L20, before the rounding. -/
def State.lookup (s : State) (w : Twin) (c x den : Nat) : Nat :=
  let i := x * 1023 / den
  if 1023 ≤ i then 1024 * s.point w c 1023
  else
    let f := divRound (x * 1023 % den * 1024) den
    (1024 - f) * s.point w c i + f * s.point w c (i + 1)

/-- A lookup rounded to L20. -/
def State.lookup20 (s : State) (w : Twin) (c x den : Nat) : Nat := divRound (s.lookup w c x den) 1024

/-- The curve slots that a profile names: DEC, DIM and TC fields of its emitters. -/
def State.profCurves (s : State) (w : Twin) (p : Nat) : List Nat :=
  [s.prof w p 16 1, s.prof w p 17 1, s.prof w p 18 1] ++
    (List.range (s.profEmitters w p)).flatMap (fun e => [s.emitterF w p e 0 1, s.emitterF w p e 1 1, s.emitterF w p e 2 1])

def State.profiles (s : State) (w : Twin) : List Nat := (s.usedEntries w 9 0).filter (fun p => decide (s.profEmitters w p ≠ 0))

/-- CURV_INFO.REFS: image fields that name a slot (R255). -/
def State.curveRefs (s : State) (w : Twin) (c : Nat) : Nat :=
  ((s.profiles w).map (fun p => (s.profCurves w p).count c)).sum

/-- CURV_INFO.FADER (R255). -/
def State.faderRef (s : State) (w : Twin) (c : Nat) : Bool :=
  let m := (s.tw w).masters
  let names : Option MasterSet → Bool := fun o => match o with | some x => decide (x.fader = c) | none => false
  decide (s.rf (Reg.COLR_LIVE_FADER w) Fld.COLR_LIVE_FADER_CURVE = c) || decide (s.rf (Reg.COLR_FADER w) Fld.COLR_FADER_CURVE = c) ||
    names m.next || names m.after

/-- The state of a slot (Table 9-2): 0 EMPTY, 1 SPARE, 2 NAMED, 3 WRITING, 4 FIXED. -/
def State.curveState (s : State) (w : Twin) (c : Nat) : Nat :=
  let v := (s.tw w).curves
  if c < 4 then 4
  else if v.writing.contains c then 3
  else if !v.covered.contains c then 0
  else if s.curveRefs w c ≠ 0 ∨ s.faderRef w c then 2
  else 1

/-- How many slots are in a state. -/
def State.curveCount (s : State) (w : Twin) (st : Nat) : Nat := ((List.range 256).filter (fun c => s.curveState w c = st)).length

/-- E58 at each fall of the count of EMPTY and SPARE slots below SPARE_MIN (R261); every operation that can move a slot ends with this. -/
def watchSpare (w : Twin) (s : State) : State :=
  let min_ := s.rf (Reg.CURV_CFG w) Fld.CURV_CFG_SPARE_MIN
  let n := s.curveCount w 0 + s.curveCount w 1
  let s1 := s.modCurves w (fun v => { v with spare := n })
  if n < min_ ∧ min_ ≤ (s.tw w).curves.spare then s1.raiseIf w (Reg.CURV_EVT_CTL w) Fld.CURV_EVT_CTL_LOW_EN 58 0 else s1

/-- The next point to scrub at or after a position, WRITING slots skipped; none at the end of a pass. -/
def State.nextScrub (s : State) (w : Twin) (pos : Nat) : Option Nat :=
  let slot := pos / 1024
  if 256 ≤ slot then none
  else if !(s.tw w).curves.writing.contains slot then some pos
  else ((List.range 256).find? (fun c => slot < c && !(s.tw w).curves.writing.contains c)).map (· * 1024)

/-- The scrubber reads a point of all replicas (R263): it rewrites those that differ from the value to keep, or leaves the point with E57 and
the fault flag. -/
def scrubPoint (w : Twin) (c i : Nat) (s : State) : State :=
  match s.majority w c i with
  | some v =>
    if (s.replicas w c i).all (fun r => decide (r = (v, true))) then s
    else ((writePoint w c i v s).bump (Reg.CURV_SCRUB w) Fld.CURV_SCRUB_REPAIRS).raiseOnce w (Reg.CURV_EVT_CTL w) Fld.CURV_EVT_CTL_REPAIR_EN 56 0
  | none => (s.raiseIf w (Reg.CURV_EVT_CTL w) Fld.CURV_EVT_CTL_FAULT_EN 57 c).setHealth w 2

/-- The pass is complete (R263). -/
def scrubPassed (w : Twin) (s : State) : State := s.setReg (Reg.CURV_PASS w) (s.reg (Reg.CURV_PASS w) + 1)

/-- CURV_SCRUB (R263): one point is read; `bad` are the upsets that it has had. -/
def execCurvScrub (t : Nat) (w : Twin) (bad : List Upset) (s : State) : Host.Outcome State Fault Refusal :=
  let s1 := s.beginAt t
  if s1.rb (Reg.CURV_CFG w) Fld.CURV_CFG_SCRUB_EN then
    match s1.nextScrub w (s1.tw w).curves.pos with
    | none => .next (scrubPassed w (s1.modCurves w (fun v => { v with pos := 0 })))
    | some pos =>
      let last : Bool := decide ((s1.nextScrub w (pos + 1)) = none)
      let s2 := s1.modCurves w (fun v => { v with pos := if last then 0 else pos + 1 })
      let s3 := if last then scrubPassed w s2 else s2
      .next (scrubPoint w (pos / 1024) (pos % 1024) (upsetPoint w (pos / 1024) (pos % 1024) bad s3))
  else .next s1

/-- The clocks that a lane holds for a point (R262): one for each replica in its order that fails parity before one passes. When none passes
it holds for all eight, and the spec gives no end: DESIGN CHOICE (notes/assumptions/43.md). -/
def State.laneHolds (s : State) (w : Twin) (c i l : Nat) : Nat :=
  ((List.range 8).takeWhile (fun k => !(s.replica w c i ((l + k) % 8)).2)).length

/-- CURV_PARITY_RETRY (R262): a lane reads a point; no lane reads a slot in WRITING (R257). -/
def execCurvParityRetry (t : Nat) (w : Twin) (slot : Fin 256) (pt : LaneRead) (s : State) : Host.Outcome State Fault Refusal :=
  let s1 := s.beginAt t
  if (s1.tw w).curves.writing.contains slot.val then .next s1
  else
    let s2 := upsetPoint w slot.val pt.point.val pt.upsets s1
    .next (s2.bump (Reg.CURV_SCRUB w) Fld.CURV_SCRUB_STALLS (s2.laneHolds w slot.val pt.point.val pt.lane.val))

end Sys2Proof.Machine
end

