-- ==== Sys2Proof/Machine/Colour.lean ====
section
/-!
DEFINITION. The colour pipeline (chapter 8): masters, thermal zones and the seven stages.
-/
namespace Sys2Proof.Machine

def State.modMasters (s : State) (w : Twin) (f : Masters → Masters) : State := s.modTw w (fun t => { t with masters := f t.masters })

/-! ### Masters (R228 to R233) -/

/-- PROF instance 1 (Table 4-19). -/
def State.profGlobal (s : State) (w : Twin) (off : Nat) : Nat := s.ent w 9 1 0 off 2
def State.coldDefault (s : State) (w : Twin) : Int := toSigned 16 (s.profGlobal w 4)

/-- The level of group `n` for the frame whose frozen copies stand now, and whether it fell back (R229). -/
def State.groupLevel (s : State) (w : Twin) (n : Nat) : Nat × Bool :=
  let m := (s.tw w).masters
  let lvl := Smap.get 0xFFFF m.lvl n
  let src := BitVec.ofNat 32 (Smap.get 0 m.src n)
  let mode := getFld src Fld.COLR_GRP_SRC_MODE
  let entry := getFld src Fld.COLR_GRP_SRC_ENTRY
  let slot := getFld src Fld.COLR_GRP_SRC_SLOT
  if mode = 0 then (lvl, false)
  else if !(s.usedEntries w 5 1).contains entry || decide (slot = 0) || decide (512 < slot + (if mode = 2 then 1 else 0)) then (lvl, true)
  else
    let v := (s.univ w entry).frozen
    if mode = 1 then (slotAt v (slot - 1) * 257, false) else (slotAt v (slot - 1) * 256 + slotAt v slot, false)

/-- The shadows of the masters as a set (R231). -/
def State.masterSet (s : State) (w : Twin) : MasterSet :=
  { gm := some (s.rf (Reg.COLR_GM w) Fld.COLR_GM_LEVEL), fader := s.rf (Reg.COLR_FADER w) Fld.COLR_FADER_CURVE,
    lvl := ((List.range 256).map (fun n => (n, s.rf (Reg.COLR_GRP_LVL w n) Fld.COLR_GRP_LVL_LEVEL))).filter (fun e => e.2 ≠ 0xFFFF),
    src := ((List.range 256).map (fun n => (n, (s.reg (Reg.COLR_GRP_SRC w n)).toNat))).filter (fun e => e.2 ≠ 0) }

/-- A set is refused whole (R232, R257). -/
def State.mastersRefused (s : State) (w : Twin) (m : MasterSet) : Bool :=
  let st := s.curveState w m.fader
  decide (st = 0 ∨ st = 3) || m.src.any (fun e => decide (getFld (BitVec.ofNat 32 e.2) Fld.COLR_GRP_SRC_MODE = 3))

/-- COLR_STAT shows which sets are pending. -/
def showPending (w : Twin) (s : State) : State :=
  let m := (s.tw w).masters
  (s.sb (Reg.COLR_STAT w) Fld.COLR_STAT_PEND_NEXT m.next.isSome).sb (Reg.COLR_STAT w) Fld.COLR_STAT_PEND_AFTER m.after.isSome

/-- What a late master commit of an arrival stamp leaves (R231). -/
def mastersLate (w : Twin) (stamp : Nat) (s : State) : State :=
  let s1 := (s.sb (Reg.COLR_STAT w) Fld.COLR_STAT_LATE true).wr64 (Reg.COLR_LATE_TS w) stamp
  let s2 := s1.setReg (Reg.COLR_LATE_TICK w) (BitVec.ofNat 32 (s1.nextTick + 1))
  (s2.modLay w (fun y => { y with lateNext := y.lateNext + 1 })).raiseOnce w (Reg.COLR_EVT_CTL w) Fld.COLR_EVT_CTL_LATE_EN 52 0

/-- A master capture comes before a graft that takes its slots in the same clock (R256): the slot that the capture names was SPARE then and is
NAMED, so the graft's check ends in IN_USE, and its slots leave WRITING. -/
def captureFirst (w : Twin) (c : Nat) (s : State) : State :=
  match (s.tw w).graft with
  | none => s
  | some g =>
    if g.takenAt = s.now ∧ g.bad = none ∧ g.armedAt = none ∧ g.slots.any (fun e => decide (e.1 = c)) then
      let cs := g.takes.map (·.1)
      let s1 := s.modTw w (fun t => { t with graft := some { g with bytes := [], slots := [], takes := [],
                                                                    bad := (g.takes.find? (fun e => e.1 = c)).map (fun e => (0x13, e.2)) } })
      s1.modCurves w (fun v => { v with writing := v.writing.filter (fun x => !cs.contains x) })
    else s

/-- A write of COLR_CMT in one twin (R231, R232). -/
def commitMasters (v : Word) (w : Twin) (s0 : State) : State :=
  if getFld v Fld.COLR_CMT_GO = 0 then s0
  else
    let m := s0.masterSet w
    let s := captureFirst w m.fader s0
    if s.mastersRefused w m then
      (s.sb (Reg.COLR_STAT w) Fld.COLR_STAT_REFUSED true).raiseIf w (Reg.COLR_EVT_CTL w) Fld.COLR_EVT_CTL_REF_EN 55 0
    else
      let late := s.lateNow w
      let s1 := s.modMasters w (fun x => if late then { x with after := some m }
        else { x with next := some m, early := if s.tickPlaced then x.early else x.early ++ [(s.now, s.stamp, m)] })
      let s2 := showPending w s1
      watchSpare w (if late then mastersLate w s.stamp s2 else s2)

/-- COLR_CMT (R231). -/
def execColrCmt (t : Nat) (via : Via) (v : Word) (s : State) : Host.Outcome State Fault Refusal :=
  .next ((s.beginAt t).deliver via (commitMasters v))

/-- The sets captured before tick 0 was placed are judged once it is placed, in the order of their arrival (R185, R231). -/
def judgeEarlyMasters (w : Twin) (s : State) : State :=
  match (s.tw w).masters.early with
  | [] => s
  | e :: es =>
    let s1 := s.modMasters w (fun x => { x with next := none, after := none, early := [] })
    watchSpare w (showPending w ((e :: es).foldl (fun x e =>
      let late : Bool := decide (x.tg.next ≤ (x.tb x.tg.base).ns e.1 + x.guard w)
      if late then mastersLate w e.2.1 (x.modMasters w (fun y => { y with after := some e.2.2 }))
      else x.modMasters w (fun y => { y with next := some e.2.2 })) s1))

/-- Tick 0 has been placed: what was captured before is judged (R185, R231). -/
def judgePlaced (s : State) : State := s.each (fun _ => true) (fun w x => judgeEarlyMasters w (judgeEarly w x))

/-- The masters at a tick (R233): the set due takes effect. -/
def mastersTick (w : Twin) (s : State) : State :=
  let m := (s.tw w).masters
  let s1 := match m.next with
    | none => s
    | some c =>
      let y := match c.gm with | some g => s.sf (Reg.COLR_LIVE_GM w) Fld.COLR_LIVE_GM_LEVEL g | none => s
      (y.sf (Reg.COLR_LIVE_FADER w) Fld.COLR_LIVE_FADER_CURVE c.fader).modMasters w (fun x => { x with lvl := c.lvl, src := c.src })
  watchSpare w (showPending w (s1.modMasters w (fun x => { x with next := m.after, after := none })))

/-! ### Thermal zones (R236 to R244) -/

def Zone.reset : Zone :=
  { st := 0, tf := none, df := 0, drep := 0, age := none, ticks := 0, rho := 0, tfrom := none, force := 0, test := 0, hot := false,
    fresh := false }

def State.zone (s : State) (w : Twin) (z : Nat) : Option Zone := ((s.tw w).zones.find? (fun e => e.1 = z)).map (·.2)
def State.putZone (s : State) (w : Twin) (z : Nat) (x : Zone) : State :=
  s.modTw w (fun t => { t with zones := t.zones.map (fun e => if e.1 = z then (z, x) else e) })

/-- The zones that used fixtures name. -/
def State.usedZones (s : State) (w : Twin) : List Nat :=
  (((s.fixtures w).map (fun f => s.fixZone w f)).filter (fun z => z ≠ 0xFFFF)).dedup

/-- Test as COLR_ZONE_STAT shows it. -/
def Zone.shown (z : Zone) (cold : Int) : Int :=
  match z.st with
  | 0 => 0
  | 3 => cold
  | 4 => z.force
  | _ => z.test

/-- The weight of an emitter at a temperature in FRAC (R236). -/
def tempWeight (lo hi t : Int) : Nat :=
  if t ≤ lo then 0 else if hi ≤ t then 1024 else divRound ((t - lo).toNat * 1024) (hi - lo).toNat

/-- The zone weight of an emitter in FRAC (Table 8-3). -/
def Zone.weight (z : Zone) (cold lo hi : Int) : Nat :=
  let wfrom : Nat := match z.tfrom with | none => 0 | some t => tempWeight lo hi t
  let ramp := fun (t : Int) => divRound ((1024 - z.rho) * wfrom + z.rho * tempWeight lo hi t) 1024
  match z.st with
  | 1 => ramp z.test
  | 2 => tempWeight lo hi z.test
  | 3 => ramp cold
  | 4 => tempWeight lo hi z.force
  | _ => 0

/-- A zone enters RAMP or COLD. -/
def Zone.enter (z : Zone) (st : Nat) (tfrom : Option Int) : Zone := { z with st := st, tfrom := tfrom, ticks := 0, rho := 0 }

/-- ρ at the nth tick after the entry (R240), with P = den / num seconds. -/
def rhoAt (n num den : Nat) : Nat := min 1024 (n * den * 1024 / (10 * max 1 num))

/-- One report (R237). -/
def Zone.report (z : Zone) (alpha : Nat) (r : Int) : Zone :=
  let tf := match z.tf with
    | none => r * 256
    | some t => t + (2 * (r * 256 - t) + 2 ^ alpha) / (2 * 2 ^ alpha)
  { z with tf := some tf, drep := z.df, age := some 0 }

/-- A zone's state change at a tick without a force: `got` says that a report has been taken (Table 8-3). -/
def Zone.move (z : Zone) (got : Bool) (cold : Int) (wait num den : Nat) : Zone :=
  let n := z.ticks + 1
  match z.st with
  | 0 => if got then z.enter 1 none else if wait ≤ n then z.enter 3 none else { z with ticks := n }
  | 1 => if rhoAt n num den = 1024 then { z with st := 2, ticks := 0, rho := 1024 } else { z with ticks := n, rho := rhoAt n num den }
  | 3 => if got then z.enter 1 (some cold) else { z with ticks := n, rho := rhoAt n num den }
  | _ => z

/-- A force or release at a tick (R241). -/
def Zone.forced (z : Zone) : Option Int → Zone
  | some t => { z with st := 4, force := t, rho := 0, ticks := 0, tfrom := none }
  | none => if z.st = 4 then z.enter (if z.tf.isSome then 1 else 3) (some z.force) else z

/-- The mean drive of a zone's emitters in 2^-20 (R237, R238). `due` are the drives of the frame before that have not reached the wire yet. -/
def State.zoneDrive (s : State) (w : Twin) (due : List (Nat × List Nat)) (z : Nat) : Int :=
  let fs := (s.fixtures w).filter (fun f => decide (s.fixZone w f = z))
  let n := (fs.map (fun f => s.channels w f)).sum
  let ms := (s.maps w).filter (fun m => fs.contains (s.mapFixture w m))
  let sum := (ms.map (fun m => (((due.find? (fun e => e.1 = m)).map (·.2)).getD (Smap.get [] (s.tw w).drives m)).sum)).sum
  if n = 0 then 0 else divRound (sum * 2 ^ 20) (n * 1048575)

/-- One zone at a tick: reports, estimate, state change and HOT. -/
def State.zoneStep (s : State) (w : Twin) (due : List (Nat × List Nat)) (z : Nat) (reports : List Int) (force : List (Option Int)) (fresh : Bool) (x : Zone) : Zone :=
  let alpha := s.rf (Reg.COLR_ZONE_CFG w) Fld.COLR_ZONE_CFG_ALPHA_SHIFT
  let tau := s.rf (Reg.COLR_ZONE_CFG w) Fld.COLR_ZONE_CFG_TAU_SHIFT
  let theta := toSigned 16 (s.rf (Reg.COLR_ZONE_THETA w) Fld.COLR_ZONE_THETA_THETA)
  let hot := toSigned 16 (s.rf (Reg.COLR_ZONE_CFG w) Fld.COLR_ZONE_CFG_HOT)
  let cold := s.coldDefault w
  let aged := { x with age := x.age.map (fun n => min (n + 1) (2 ^ 32 - 2)) }
  let y := reports.foldl (fun y r => y.report alpha r) aged
  let df := y.df + (2 * (s.zoneDrive w due z - y.df) + 2 ^ tau) / (2 * 2 ^ tau)
  let y1 := { y with df := df }
  let y2 := match y1.tf with
    | none => y1
    | some tf => { y1 with test := max (-640) (min 2000 (roundHalfUp ((tf : Rat) / 256 + (theta * (df - y1.drep) : Int) / (2 ^ 20 : Nat)))) }
  let y3 := if x.fresh then { y2 with fresh := false }
    else if fresh then (if reports ≠ [] then y2.enter 1 none else y2)
    else y2.move (decide (reports ≠ [])) cold (s.profGlobal w 0) s.tg.cur.num s.tg.cur.den
  let y4 := force.foldl Zone.forced y3
  let shown := y4.shown cold
  { y4 with hot := decide (y4.st ≠ 0) && (decide (hot ≤ shown) || (y4.hot && decide (hot - 32 ≤ shown))) }

/-- A zone has entered COLD at the coming tick by its own command, which raised E53. -/
def Zone.cooled (x : Zone) : Bool := x.fresh && decide (x.st = 3)

/-- Every zone at a tick (R237 to R244): `reports` in order of receipt, by zone. E53 is raised once, here or by the command before it (R240). -/
def zonesTick (w : Twin) (due : List (Nat × List Nat)) (reports : List (Nat × Int)) (s : State) : State :=
  let old := (s.tw w).zones
  let new := (s.usedZones w).map (fun z =>
    let x := (old.find? (fun e => e.1 = z)).map (·.2)
    let mine := (reports.filter (fun r => r.1 = z)).map (·.2)
    let forces := ((s.tw w).forces.filter (fun f => f.1 = z)).map (·.2)
    (z, s.zoneStep w due z mine forces x.isNone (x.getD Zone.reset)))
  let was : Nat → Option Zone := fun z => (old.find? (fun e => e.1 = z)).map (·.2)
  let told := old.any (fun e => e.2.cooled)
  let colder := !told && new.any (fun e => decide (e.2.st = 3) && decide ((was e.1).map (·.st) ≠ some 3))
  let hotter := new.any (fun e => e.2.hot && !((was e.1).map (·.hot)).getD false)
  let s1 := s.modTw w (fun t => { t with zones := new, forces := [] })
  let s2 := if colder then s1.raiseIf w (Reg.COLR_EVT_CTL w) Fld.COLR_EVT_CTL_COLD_EN 53 0 else s1
  if hotter then s2.raiseOnce w (Reg.COLR_EVT_CTL w) Fld.COLR_EVT_CTL_HOT_EN 54 0 else s2

/-- A write of COLR_ZONE_FORCE in one twin (R241). -/
def forceZone (v : Word) (w : Twin) (s : State) : State :=
  let z := s.rf (Reg.COLR_ZONE_SEL w) Fld.COLR_ZONE_SEL_ZONE
  let t := max (-640) (min 2000 (toSigned 16 (getFld v Fld.COLR_ZONE_FORCE_TEMP)))
  let f := if getFld v Fld.COLR_ZONE_FORCE_FORCE = 1 then some t else none
  if (s.usedZones w).contains z then s.modTw w (fun x => { x with forces := x.forces ++ [(z, f)] }) else s

/-- COLR_ZONE_FORCE (R241). -/
def execColrZoneForce (t : Nat) (via : Via) (v : Word) (s : State) : Host.Outcome State Fault Refusal :=
  .next ((s.beginAt t).deliver via (forceZone v))

/-- A report that carries a reading waits for the zone at the next tick. -/
def State.reportDue (s : State) (w : Twin) (z : Nat) : Bool :=
  let h := (s.tw w).hlth
  let fx := (s.fixtures w).filter (fun f => decide (s.fixZone w f = z))
  h.posts.any (fun p => decide (p.1 = 0) && fx.contains p.2.2.1 && decide (p.2.2.2 % 65536 ≠ 0x8000)) ||
    h.statuses.any (fun r => decide (r.1 ≤ s.nextTickRaw) && decide (beNat ((r.2.2.drop 6).take 2) ≠ 0x8000) &&
      fx.any (fun f => decide (s.fixKind w f = 1) && decide (s.fixPort w f = r.2.1) && decide (s.fixNode w f = beNat ((r.2.2.drop 2).take 2))))

/-- ZONE_COLD (R239, R240): at the coming tick, the wait of a zone in PROTONEMA ends with no report. E53 is raised once for that tick. -/
def execZoneCold (w : Twin) (z : Fin 4096) (s : State) : Host.Outcome State Fault Refusal :=
  match s.zone w z.val with
  | some x =>
    if x.st = 0 ∧ !x.fresh ∧ s.profGlobal w 0 ≤ x.ticks + 1 ∧ s.tg.ran ∧ !s.reportDue w z.val then
      let s1 := s.beginAt s.nextTickRaw
      let told := (s.tw w).zones.any (fun e => e.2.cooled)
      let s2 := s1.putZone w z.val { x.enter 3 none with fresh := true }
      .next (if told then s2 else s2.raiseIf w (Reg.COLR_EVT_CTL w) Fld.COLR_EVT_CTL_COLD_EN 53 0)
    else .next s.begin
  | none => .next s.begin

/-- ZONE_RAMP_END (R240): at the coming tick, ρ of a ramping zone reaches 1. -/
def execZoneRampEnd (w : Twin) (z : Fin 4096) (s : State) : Host.Outcome State Fault Refusal :=
  match s.zone w z.val with
  | some x =>
    if x.st = 1 ∧ !x.fresh ∧ rhoAt (x.ticks + 1) s.tg.cur.num s.tg.cur.den = 1024 ∧ s.tg.ran then
      let s1 := s.beginAt s.nextTickRaw
      .next (s1.putZone w z.val { x with st := 2, ticks := 0, rho := 1024, fresh := true })
    else .next s.begin
  | none => .next s.begin

/-! ### Stages 1 to 6 (R226 to R245) -/

/-- One emitter after stage 6: its drive G in L20, and whether the matrix and the gain clamped it. -/
structure Drive where
  ge : Nat
  clipM : Bool
  clipG : Bool
deriving DecidableEq, Repr

/-- Stage 2 (R227): the exact sum in units of 1/4,096 of L20. -/
def State.matrixSum (s : State) (w : Twin) (p e r g b : Nat) : Int :=
  s.coef w p e 0 * r + s.coef w p e 1 * g + s.coef w p e 2 * b + s.coef w p e 3 * (min r (min g b) : Nat)

/-- Stage 5 (R235). -/
def State.compensate (s : State) (w : Twin) (p e z d : Nat) : Nat :=
  let lo := s.emitterF w p e 1 1
  let hi := s.emitterF w p e 2 1
  if lo = hi then s.lookup20 w lo d 1048575
  else
    let wt := if z = 0xFFFF then 0 else match s.zone w z with
      | some x => x.weight (s.coldDefault w) (s.tLo w p e) (s.tHi w p e)
      | none => 0
    divRound ((1024 - wt) * s.lookup w lo d 1048575 + wt * s.lookup w hi d 1048575) (1024 * 1024)

/-- Stages 1 to 6 of one pixel of a fixture: `level` is its group's level (R228). -/
def State.drives (s : State) (w : Twin) (fx level : Nat) (rgb : Texel) : List Drive :=
  let p := s.fixProfile w fx
  let r := s.lookup20 w (s.prof w p 16 1) rgb.r 65535
  let g := s.lookup20 w (s.prof w p 17 1) rgb.g 65535
  let b := s.lookup20 w (s.prof w p 18 1) rgb.b 65535
  let fader := s.rf (Reg.COLR_LIVE_FADER w) Fld.COLR_LIVE_FADER_CURVE
  let f1 := s.lookup w fader (s.rf (Reg.COLR_LIVE_GM w) Fld.COLR_LIVE_GM_LEVEL) 65535
  let f2 := s.lookup w fader level 65535
  let unit := 1024 * 1048575
  (List.range (s.profEmitters w p)).map (fun e =>
    let sum := s.matrixSum w p e r g b
    let l := min 1048575 (divRound sum.toNat 4096)
    let m := divRound (l * f1 * f2) (unit * unit)
    let d := s.lookup20 w (s.emitterF w p e 0 1) m 1048575
    let c := s.compensate w p e (s.fixZone w fx) d
    let x := c * s.fixGain w fx e
    { ge := min 1048575 (divRound x 32768), clipM := decide (sum < 0 ∨ 1048575 * 4096 < sum), clipG := decide (1048575 * 32768 < x) })

/-! ### Stage 7 (R246 to R248) -/

/-- The pair of an emitter (Table 8-5): analogue code, 16-bit and 15-bit PWM, and whether it is below the crossover. -/
structure Pair where
  a : Nat
  pwm : Nat
  pwm15 : Nat
  held : Bool
deriving DecidableEq, Repr

def State.split (s : State) (w : Twin) (p e ge : Nat) : Pair :=
  let n := s.emitterF w p e 3 1 * ge
  let ax := s.heldCode w p e
  if s.noSplit w p ∨ ax * 1048575 ≤ n then ⟨divRound n 1048575, 65535, 32767, false⟩
  else ⟨ax, divRound (65535 * n) (ax * 1048575), divRound (32767 * n) (ax * 1048575), true⟩

/-- The word of an emitter as its bytes (Table 8-6); `probe` is the pair (A_P, W_P) of R247. -/
def State.word (s : State) (w : Twin) (p e ge : Nat) (probe : Option (Nat × Nat)) : List Byte :=
  match s.outFmt w p, probe with
  | 2, some (a, _) => beBytes 3 (a * 65536)
  | 1, some (a, n) => beBytes 2 (0xC000 + a * 64 + n)
  | 2, none => let x := s.split w p e ge; beBytes 3 (x.a * 65536 + x.pwm)
  | 1, none => let x := s.split w p e ge; beBytes 2 (if x.held then x.pwm15 else 0x8000 + x.a * 64)
  | 3, _ => [BitVec.ofNat 8 (divRound (255 * ge) 1048575)]
  | 5, _ => [BitVec.ofNat 8 (divRound (255 * ge) 1048575)]
  | 4, _ => beBytes 2 (divRound (65535 * ge) 1048575)
  | 6, _ => beBytes 2 (divRound (65535 * ge) 1048575)
  | _, _ => []

/-- On-time of a channel (R330) as a fraction of ns. -/
def State.onTime (s : State) (w : Twin) (p e ge : Nat) : Nat × Nat :=
  let x := s.split w p e ge
  let period := s.prof w p 240 2 * 100
  if x.a = 0 then (0, 1)
  else if s.outFmt w p = 1 ∧ x.held then (x.pwm15 * period, 32767)
  else (x.pwm * period, 65535)

end Sys2Proof.Machine
end

