-- ==== Sys2Proof/Machine/Map.lean ====
section
/-!
DEFINITION. Map sampling, patch and the bytes of a slice (R194 to R215), and what diagnosis chooses while a slice is computed (R329 to
R336).
-/
namespace Sys2Proof.Machine

/-! ### Sampling (R201, R202) -/

/-- A canvas index clamped to the canvas. -/
def clampIx (n : Nat) (i : Int) : Nat := (max 0 (min i ((n : Int) - 1))).toNat

/-- The texels that a map entry's kernel reads: column, row and weight, and the sum of the weights. -/
def State.kernel (s : State) (w : Twin) (m : Nat) : List (Nat × Nat × Nat) × Nat :=
  let x := s.mapE w m 0 2
  let y := s.mapE w m 2 2
  let cx := clampIx (s.canvasW w)
  let cy := clampIx (s.canvasH w)
  match s.mapE w m 4 1 % 4 with
  | 0 => ([(cx ((x + 2) / 4 : Nat), cy ((y + 2) / 4 : Nat), 1)], 1)
  | 1 =>
    let ws := [(x / 4, y / 4, (4 - x % 4) * (4 - y % 4)), (x / 4 + 1, y / 4, x % 4 * (4 - y % 4)),
      (x / 4, y / 4 + 1, (4 - x % 4) * (y % 4)), (x / 4 + 1, y / 4 + 1, x % 4 * (y % 4))]
    ((ws.filter (fun e => e.2.2 ≠ 0)).map (fun e => (cx e.1, cy e.2.1, e.2.2)), 16)
  | _ =>
    let kw := s.mapE w m 5 1 % 16 + 1
    let kh := s.mapE w m 5 1 / 16 + 1
    let x0 : Int := ((x : Int) - 2 * kw + 4) / 4
    let y0 : Int := ((y : Int) - 2 * kh + 4) / 4
    ((List.range kh).flatMap (fun j => (List.range kw).map (fun i => (cx (x0 + i), cy (y0 + j), 1))), kw * kh)

/-- The sample of a map entry. -/
def State.mapSample (s : State) (w : Twin) (m : Nat) : Texel :=
  let (ks, n) := s.kernel w m
  let ts := ks.map (fun k => (s.canvas w k.1 k.2.1, k.2.2))
  let sum := fun (c : Texel → Nat) => (ts.map (fun e => c e.1 * e.2)).sum
  if bitAt (s.mapE w m 6 2) 1 then
    let a := sum Texel.a
    let c := fun (f : Texel → Nat) => divRound (sum f * a) (n * n * 65535)
    ⟨c Texel.r, c Texel.g, c Texel.b, 0⟩
  else ⟨divRound (sum Texel.r) n, divRound (sum Texel.g) n, divRound (sum Texel.b) n, 0⟩

/-- The stripe mask of a slice as a bit set (R214). -/
def State.stripeMask (s : State) (w : Twin) (key : Nat) : Nat :=
  (s.mapsOn w key).foldl (fun acc m => (s.kernel w m).1.foldl (fun acc k => acc ||| 2 ^ (k.2.1 / 64)) acc) 0

/-! ### The patch (R205 to R208) -/

/-- Slot `j` of a patch entry's source, before MASTERED. -/
def State.patchSrc (s : State) (w : Twin) (i j : Nat) : Nat :=
  let src := s.patchE w i 2 2
  if s.patchConst w i then src % 256 else slotAt (s.univ w (s.patchE w i 0 2)).frozen (src % 512 + j - 1)

/-- What a patch entry puts into slot `j` of its run: for FINE16 the pair's 16-bit value and the byte, otherwise the byte. -/
def State.patchOut (s : State) (w : Twin) (i j : Nat) : Option Nat × Nat :=
  let src := s.patchE w i 2 2
  let g := s.rf (Reg.COLR_LIVE_GM w) Fld.COLR_LIVE_GM_LEVEL
  let scale := fun (v : Nat) => if bitAt src 9 then divRound (v * g) 65535 else v
  if bitAt src 10 then
    let v := scale (s.patchSrc w i (j / 2 * 2) * 256 + s.patchSrc w i (j / 2 * 2 + 1))
    (some v, if j % 2 = 0 then v / 256 else v % 256)
  else (none, scale (s.patchSrc w i j))

/-- One slot of an output universe that patch entries write (R208): the entries in ascending index, with slot `i` counted from 0. -/
def State.patchSlot (s : State) (w : Twin) (u i : Nat) (es : List Nat) : Nat :=
  let hits := (es.filter (fun e => decide (s.patchDst w e ≤ i + 1 ∧ i + 1 < s.patchDst w e + s.patchCount w e))).map
    (fun e => s.patchOut w e (i + 1 - s.patchDst w e))
  let last := (hits.getLast?.map (·.2)).getD 0
  if !s.outMerge w u then last
  else if hits.all (fun h => h.1.isNone) then hits.foldl (fun m h => max m h.2) 0
  else if hits.all (fun h => h.1.isSome) then
    (hits.foldl (fun (m : Nat × Nat) h => if m.1 ≤ h.1.getD 0 then (h.1.getD 0, h.2) else m) (0, 0)).2
  else last

/-- The slots of an output universe that the patch writes, as the whole slice. -/
def State.patched (s : State) (w : Twin) (u : Nat) : List Byte :=
  let es := (s.patches w).filter (fun e => decide (s.patchE w e 4 2 = u))
  (List.range (s.outSlots w u)).map (fun i => BitVec.ofNat 8 (s.patchSlot w u i es))

/-! ### Diagnosis while a slice is computed (R329 to R336) -/

def Channel.reset : Channel := ⟨0, 0, 0⟩
def HealthEntry.reset : HealthEntry :=
  { state := 0, source := 0, temp := 0x8000, vsup := 0, open_ := [], short := [], blind := [], lastTick := 0, crcErr := 0, fltCnt := 0,
    heardAt := 0 }
def State.modHlth (s : State) (w : Twin) (f : Health → Health) : State := s.modTw w (fun t => { t with hlth := f t.hlth })
def State.chan (s : State) (w : Twin) (fx c : Nat) : Channel := Smap.get Channel.reset (s.tw w).hlth.chans (fx * 64 + c)
def State.setChan (s : State) (w : Twin) (fx c : Nat) (x : Channel) : State :=
  s.modHlth w (fun h => { h with chans := Smap.set Channel.reset h.chans (fx * 64 + c) x })
def State.health (s : State) (w : Twin) (fx : Nat) : HealthEntry := Smap.get HealthEntry.reset (s.tw w).hlth.entries fx
def State.setHealthEntry (s : State) (w : Twin) (fx : Nat) (x : HealthEntry) : State :=
  s.modHlth w (fun h => { h with entries := Smap.set HealthEntry.reset h.entries fx x })

def State.diagMode (s : State) (w : Twin) (p : Nat) : Nat := s.prof w p 244 1 % 4
def State.diagOn (s : State) (w : Twin) (p : Nat) : Nat := let v := s.prof w p 242 1; if v = 0 then 6 else v
def State.aMin (s : State) (w : Twin) (p : Nat) : Nat := max 1 (s.prof w p 243 1)

/-- A channel takes part in diagnosis, and is due (R329). -/
def State.takesPart (s : State) (w : Twin) (fx c : Nat) : Bool :=
  decide (s.fixKind w fx = 1) && s.fixDiag w fx && decide (s.diagMode w (s.fixProfile w fx) ≠ 2) && decide (c < s.channels w fx)
def State.chanDue (s : State) (w : Twin) (fx c : Nat) : Bool :=
  let x := s.chan w fx c
  s.takesPart w fx c && (decide (s.profGlobal w 2 ≤ x.wait) || decide (x.pend ≠ 0))

/-- What a channel is in a frame: 0 dark, 1 dim, 2 measurable (R330). -/
def State.brightness (s : State) (w : Twin) (p e ge : Nat) : Nat :=
  let (n, d) := s.onTime w p e ge
  if n = 0 then 0 else if s.diagOn w p * 250 * d ≤ n then 2 else 1

/-- The probe pair of a dim channel, if it is possible (R335). -/
def State.probe (s : State) (w : Twin) (p e ge : Nat) : Option (Nat × Nat) :=
  let (n, d) := s.onTime w p e ge
  let a := divRound ((s.split w p e ge).a * n) (d * s.diagOn w p * 250)
  if s.aMin w p ≤ a then some (a, s.diagOn w p) else none

/-- A channel as the frame drives it: fixture, channel, map entry, emitter and drive. -/
structure Lit where
  fx : Nat
  c : Nat
  m : Nat
  e : Nat
  ge : Nat
deriving DecidableEq, Repr

/-- The channels of the kind 1 fixtures of a slice that map entries light, from the drives of its map entries. -/
def State.lit (s : State) (w : Twin) (drives : List (Nat × List Nat)) : List Lit :=
  drives.flatMap (fun (m, ges) =>
    let fx := s.mapFixture w m
    let p := s.fixProfile w fx
    (List.range (s.profEmitters w p)).map (fun pos =>
      let e := s.wireEmitter w p pos
      { fx := fx, c := s.mapPixel w m * s.profEmitters w p + pos, m := m, e := e, ge := ges.getD e 0 }))

/-- Inserts by a strict order, in front of the first element that is greater. -/
def insertBy {α : Type} (lt : α → α → Bool) (x : α) : List α → List α
  | [] => [x]
  | y :: rest => if lt x y then x :: y :: rest else y :: insertBy lt x rest

/-- A list in the order `lt`, equal elements as they were. -/
def sortBy {α : Type} (lt : α → α → Bool) (l : List α) : List α := l.foldr (insertBy (fun a b => !lt b a)) []

/-- A candidate of R331: fixture, node address, whether a channel is pending, and its largest wait count. -/
structure Candidate where
  fx : Nat
  node : Nat
  pend : Bool
  wait : Nat
deriving DecidableEq, Repr

/-- A channel is measured if its node is: measurable, or dim and probed (R331, R335). -/
def State.measured (s : State) (w : Twin) (l : Lit) : Bool :=
  let p := s.fixProfile w l.fx
  match s.brightness w p l.e l.ge with
  | 2 => true
  | 1 => s.chanDue w l.fx l.c && decide (s.diagMode w p = 0) && (s.probe w p l.e l.ge).isSome
  | _ => false

/-- The fixtures chosen for measurement in a frame of port `p` (R331). -/
def State.chosen (s : State) (w : Twin) (p : Nat) (lits : List Lit) : List Nat :=
  let polls := s.param w p 5 1
  let nodes := ((s.tw w).strands.find? (fun e => e.1 = p)).map (fun e => e.2.nodes.map (·.addr)) |>.getD []
  let cands := ((s.fixturesOn w p).filter (fun fx => nodes.contains (s.fixNode w fx) &&
      lits.any (fun l => decide (l.fx = fx) && s.chanDue w fx l.c && s.measured w l))).map (fun fx =>
    let due := (List.range (s.channels w fx)).filter (fun c => s.takesPart w fx c)
    { fx := fx, node := s.fixNode w fx, pend := due.any (fun c => (s.chan w fx c).pend ≠ 0),
      wait := due.foldl (fun n c => max n (s.chan w fx c).wait) 0 : Candidate })
  let lt := fun (a b : Candidate) =>
    if a.pend ≠ b.pend then a.pend else if a.wait ≠ b.wait then decide (b.wait < a.wait) else decide (a.node < b.node)
  ((sortBy lt cands).take (min 4 polls)).map (·.fx)

/-- A due channel that is dim and cannot be probed is BLIND (R336). -/
def State.goesBlind (s : State) (w : Twin) (l : Lit) : Bool :=
  let p := s.fixProfile w l.fx
  s.chanDue w l.fx l.c && decide (s.brightness w p l.e l.ge = 1) &&
    (decide (s.diagMode w p = 1) || (decide (s.diagMode w p = 0) && (s.probe w p l.e l.ge).isNone))

/-- A channel number joins a mask, kept in ascending order. -/
def addCh (c : Nat) (l : List Nat) : List Nat := insertBy (fun a b => decide (a < b)) c (l.filter (fun x => x ≠ c))

/-- What R336 does to the channels of a slice. -/
def blindChannels (w : Twin) (lits : List Lit) (s : State) : State :=
  let bl := lits.filter (s.goesBlind w)
  let isNew := fun (l : Lit) => !((s.health w l.fx).blind.contains l.c)
  let s1 := bl.foldl (fun x l =>
    let h := x.health w l.fx
    let y := (x.setChan w l.fx l.c { x.chan w l.fx l.c with wait := 0 }).setHealthEntry w l.fx { h with blind := addCh l.c h.blind }
    if isNew l then (y.bump (Reg.HLTH_CNT_DIAG w) Fld.HLTH_CNT_DIAG_BLIND).bump (Reg.HLTH_BLIND_SUM w) Fld.HLTH_BLIND_SUM_CHANNELS else y) s
  match (bl.filter isNew).map (·.fx) with
  | [] => s1
  | f :: rest => s1.raiseOnce w (Reg.HLTH_EVT_CTL w) Fld.HLTH_EVT_CTL_BLIND_EN 69 (rest.foldl min f)

/-! ### Slices (R194, R203) -/

/-- Overwrites bytes of a list from an offset on; what lies beyond its end is dropped. -/
def overwrite (l : List Byte) (at_ : Nat) (bs : List Byte) : List Byte :=
  (l.take at_ ++ bs ++ l.drop (at_ + bs.length)).take l.length

/-- Where a map entry's cell begins in its slice. -/
def State.cellAt (s : State) (w : Twin) (m : Nat) : Nat :=
  let fx := s.mapFixture w m
  let p := s.fixProfile w fx
  (s.fixSlice w fx).2 + s.cellOfs w p + s.mapPixel w m * s.stride w p

/-- Builds a slice of the frame `f` (R203, R206): the slice, what the stages clamped, and the state with the blind channels of R336. -/
def buildSlice (w : Twin) (f : FrameAcct) (key : Nat) (s : State) : Slice × State :=
  let ms := s.mapsOn w key
  let outs := ms.map (fun m =>
    let fx := s.mapFixture w m
    (m, s.drives w fx (f.groups.getD (s.fixMaster w fx) (0xFFFF, false)).1 (s.mapSample w m)))
  let ges := outs.map (fun o => (o.1, o.2.map (·.ge)))
  let clipM := (outs.map (fun o => (o.2.filter (·.clipM)).length)).sum
  let clipG := (outs.map (fun o => (o.2.filter (·.clipG)).length)).sum
  let lits := if key < 128 then (s.lit w ges).filter (fun l => s.fixKind w l.fx = 1) else []
  let chosen := if s.personality w key = 1 ∧ key < 128 ∧ !s.portHeld then s.chosen w key lits else []
  let probeOf := fun (l : Lit) =>
    if chosen.contains l.fx && decide (s.brightness w (s.fixProfile w l.fx) l.e l.ge = 1) && s.measured w l then
      s.probe w (s.fixProfile w l.fx) l.e l.ge
    else none
  let base := if 128 ≤ key then s.patched w (key - 128) else List.replicate (s.sliceLen w key) 0
  let probed := (lits.filter (fun l => (probeOf l).isSome)).length
  let (bytes, probes) := ges.foldl (fun (acc : List Byte × List (Nat × Nat)) (m, gs) =>
    let fx := s.mapFixture w m
    let p := s.fixProfile w fx
    (List.range (s.profEmitters w p)).foldl (fun (acc : List Byte × List (Nat × Nat)) pos =>
      let e := s.wireEmitter w p pos
      let ge := gs.getD e 0
      let l : Lit := { fx := fx, c := s.mapPixel w m * s.profEmitters w p + pos, m := m, e := e, ge := ge }
      let pr := if key < 128 then probeOf l else none
      let at_ := s.cellAt w m + pos * wordBytes (s.outFmt w p)
      (overwrite acc.1 at_ (s.word w p e ge pr),
        match pr, s.outFmt w p with | some (_, n), 2 => acc.2 ++ [(at_, n)] | _, _ => acc.2)) acc) (base, [])
  let pulses := chosen.map (fun fx =>
    { port := key, node := s.fixNode w fx, fixture := fx, frame := f.k,
      mask := (lits.filter (fun l => decide (l.fx = fx) && s.measured w l)).foldl (fun acc l => addCh l.c acc) [] : Pulse })
  let s1 := (s.bump (Reg.COLR_CLIP w) Fld.COLR_CLIP_MATRIX clipM).bump (Reg.COLR_CLIP w) Fld.COLR_CLIP_GAIN clipG
  ({ key := key, bytes := bytes, done := s.now, drives := ges, probes := probes, probed := probed, pulses := pulses }, blindChannels w lits s1)

/-- A slice of the computing frame can be complete: its stripes are (R212). That the patch entries of a universe are written is what its
SLICE_READY says: the patch engine writes them from tick k on, and PATCH_DONE is the end of all of them (R213). -/
def State.sliceDue (s : State) (w : Twin) (f : FrameAcct) (key : Nat) : Bool :=
  let mask := s.stripeMask w key
  s.hasSlice w key && !f.slices.any (fun x => x.key = key) &&
    (List.range (s.stripeCount w)).all (fun i => !bitAt mask i || f.stripes.contains i)

def sliceKeyNat : SliceKey → Nat
  | .port p => p.val
  | .univ u => 128 + u.val

/-- The slice of the frame `k` of a twin. -/
def State.sliceOf (s : State) (w : Twin) (k key : Nat) : Option Slice :=
  ((s.tw w).frames.find? (fun f => f.k = k)).bind (fun f => f.slices.find? (fun x => x.key = key))

/-- SLICE_READY (R62, R203, R212): a twin completes a slice of the frame it computes. -/
def execSliceReady (t : Nat) (w : Twin) (key : SliceKey) (s : State) : Host.Outcome State Fault Refusal :=
  let s1 := s.beginAt t
  let n := sliceKeyNat key
  match s1.computing w with
  | none => .next s1
  | some f =>
    if s1.now < s1.deadlineRaw ∧ s1.sliceDue w f n then
      let (sl, s2) := buildSlice w f n s1
      .next (s2.modFrame w f.k (fun a => { a with slices := a.slices ++ [sl] }))
    else .next s1

/-- PATCH_DONE (R213). -/
def execPatchDone (t : Nat) (w : Twin) (s : State) : Host.Outcome State Fault Refusal :=
  let s1 := s.beginAt t
  match s1.computing w with
  | none => .next s1
  | some f =>
    if s1.now < s1.deadlineRaw ∧ f.patched.isNone then .next (s1.modFrame w f.k (fun a => { a with patched := some s1.now }))
    else .next s1

end Sys2Proof.Machine
end

