-- ==== Sys2Proof/Machine/Frame.lean ====
section
/-!
DEFINITION. The instants of a frame (R51 to R53, R63) and its accounts (R60 to R70), shared by every kind of output.
-/
namespace Sys2Proof.Machine

/-! ### The turn of a Proren port (R63, R283) -/

def Strand.reset : Strand :=
  { u := 0, v := 0, w := 0, enumReq := false, run := none, nodes := [], orphans := 0, ranges := [], rtMax := 0, dMax := 0, lockLost := none,
    poll := none, targets := [], rot := 0, cfgDue := [], delayDue := [] }
def State.strand (s : State) (w : Twin) (p : Nat) : Strand := Smap.get Strand.reset (s.tw w).strands p
def State.setStrand (s : State) (w : Twin) (p : Nat) (x : Strand) : State :=
  s.modTw w (fun t => { t with strands := Smap.set Strand.reset t.strands p x })

def State.prnPolls (s : State) (w : Twin) (p : Nat) : Nat := s.param w p 5 1
def State.slotTime (s : State) (w : Twin) (p : Nat) : Nat := if s.param w p 1 1 = 0 then 4000 else 8000

/-- T0 in µs and t_turn in ns (R283). -/
def State.prnT0 (s : State) (w : Twin) (p : Nat) : Nat := max 3 (min 255 (ceilDiv (s.strand w p).rtMax 1000 + 2))
def State.turn (s : State) (w : Twin) (p : Nat) : Nat :=
  if s.personality w p = 1 ∧ s.prnPolls w p ≠ 0 then 1000 + s.prnT0 w p * 1000 + s.prnPolls w p * s.slotTime w p else 0

/-! ### Frames -/

def tBlockGuard : Nat := 20000

/-- The twin that decides for a twin (R62): the ACTIVE one, or itself while none is ACTIVE. -/
def State.lead (s : State) (w : Twin) : Twin := s.active.getD w

def State.frame (s : State) (w : Twin) (k : Nat) : Option FrameAcct := (s.tw w).frames.find? (fun f => f.k = k)

/-- The raw instant of the Soredium latch of the frame `f`, before any deferral: tick k+1 + LATCH_OFS of frame k (R51, R54). -/
def State.latchAt (s : State) (f : FrameAcct) : Nat :=
  let b := s.tb s.tg.base
  if s.tg.cur.k = f.k then b.rawAt s.tg.cur.raw (s.tg.next + f.tick.lofs)
  else b.rawAt s.tg.cur.raw (s.tickCount s.tg.cur + f.tick.lofs)

/-- The raw instant of the compute deadline of the frame `f` (R52). -/
def State.deadlineOf (s : State) (f : FrameAcct) : Nat :=
  (s.tb f.tick.base).rawAt f.tick.raw (s.tickCount f.tick + f.tick.cdl)

/-- The strand port `p` has emitted a frame since the last device reset (R68). -/
def State.hasEmitted (s : State) (p : Nat) : Bool := s.dev.emitted.contains p
/-- A slice of the twin has reached the wire: there is a last one to compare with (R69, R214). -/
def State.hasSent (s : State) (w : Twin) (key : Nat) : Bool := (s.tw w).emitted.any (fun e => e.1 = key)
def State.lastSlice (s : State) (w : Twin) (key : Nat) : List Byte := (((s.tw w).emitted.find? (fun e => e.1 = key)).map (·.2)).getD []
def setEmitted (w : Twin) (key : Nat) (b : List Byte) (s : State) : State :=
  s.modTw w (fun t => { t with emitted := (key, b) :: t.emitted.filter (fun e => e.1 ≠ key) })

/-- The slice of frame `f` is complete in the twin that decides (R62). -/
def State.complete (s : State) (w : Twin) (f : FrameAcct) (key : Nat) : Bool := (s.sliceOf (s.lead w) f.k key).isSome

/-- The raw instant at which the slice of frame `k` is signalled ready (R62); none while it is not. A slice that is dropped is settled at
the compute deadline. -/
def State.readyAt (s : State) (f : FrameAcct) (key : Nat) (w : Twin) : Option Nat :=
  let lead := s.lead w
  let mine := (s.sliceOf lead f.k key).map (·.done)
  let other := if s.computes lead.other ∧ s.active.isSome then
      (match s.sliceOf lead.other f.k key with
        | some x => some x.done
        | none => if f.closed then some (s.deadlineOf f) else none)
    else some 0
  match mine, other with
  | some a, some b => some (max a b)
  | some _, none => none
  | none, _ => if f.closed then some (s.deadlineOf f) else none

/-- The slice has changed (R214, R215). -/
def State.changed (s : State) (w : Twin) (f : FrameAcct) (key : Nat) : Bool :=
  match s.sliceOf w f.k key with
  | none => false
  | some x =>
    let last := s.lastSlice w key
    f.first || f.touched.contains key || decide (s.stripeMask w key &&& f.changed ≠ 0) || !s.hasSent w key ||
      decide (x.bytes.length ≠ last.length) || decide (crc32 x.bytes ≠ crc32 last)

/-- A drop or a STALE output of a frame raises E37, E38 and E36, each once in the frame, with the stamp of the deadline (R70). -/
def raiseComp (w : Twin) (k at_ : Nat) (s : State) : State :=
  match s.frame w k with
  | some f =>
    if f.compRaised then s
    else
      let s1 := s.modFrame w k (fun a => { a with compRaised := true })
      if s1.rb (Reg.TICK_EVT_CTL w) Fld.TICK_EVT_CTL_COMP_EN then s1.raiseTwinAt w 37 0 (s1.stampRaw at_) else s1
  | none => s

/-- The stamp's instant of a slice that fails its window at `start` (R70): the compute deadline once it has passed. DEDUCED
(notes/assumptions/39.md). -/
def State.dropAt (s : State) (f : FrameAcct) (start : Nat) : Nat := min start (s.deadlineOf f)

def raiseEmit (w : Twin) (k at_ : Nat) (s : State) : State :=
  match s.frame w k with
  | some f =>
    let s0 := s.modFrame w k (fun a => { a with lateDrop := true, emitRaised := true })
    if f.emitRaised then s0
    else if s0.rb (Reg.TICK_EVT_CTL w) Fld.TICK_EVT_CTL_EMIT_EN then s0.raiseTwinAt w 38 0 (s0.stampRaw at_) else s0
  | none => s

/-- A slice is STALE in a frame (R67, R68): flagged, and E36. -/
def markStale (w : Twin) (k key at_ : Nat) (s : State) : State :=
  match s.frame w k with
  | some f =>
    if f.stale.contains key then s
    else
      let s1 := s.modFrame w k (fun a => { a with stale := a.stale ++ [key], staleRaised := true })
      if f.staleRaised then s1
      else if s1.rb (Reg.TICK_EVT_CTL w) Fld.TICK_EVT_CTL_STALE_EN then s1.raiseTwinAt w 36 0 (s1.stampRaw at_) else s1
  | none => s

/-- EMIT_USE in ‰, rounded up (R72). -/
def useOf (line window : Nat) : Nat := min 65535 (ceilDiv (line * 1000) (max 1 window))

/-- The slice is STALE, and with a DMX port's universe so is the port (R211). -/
def markSlice (w : Twin) (k key at_ : Nat) (s : State) : State :=
  let s1 := match s.slicePort w key with
    | some p => if p = key then s else markStale w k p at_ s
    | none => s
  markStale w k key at_ s1

/-- The frame records that a key has been settled, and whether its slice was changed: for a DMX port's universe under the port too. -/
def settleKey (w : Twin) (k key : Nat) (changed : Bool) (s : State) : State :=
  s.modFrame w k (fun a => { a with settled := a.settled ++ [key],
                                    chg := if changed then a.chg ++ [key] ++ ((s.slicePort w key).filter (fun p => decide (p ≠ key))).toList else a.chg })

/-- A slice has been emitted (R68, R69, R214, R238): its bytes are the last that reached the wire, and its emitters hold these drives. -/
def recordEmission (w : Twin) (x : Slice) (s : State) : State :=
  let s1 := (setEmitted w x.key x.bytes s).modTw w (fun t => { t with drives := x.drives.foldl (fun d e => Smap.set [] d e.1 e.2) t.drives })
  let s2 := match s1.slicePort w x.key with
    | some p =>
      let y := s1.setReg (Reg.MAP_PORT_CRC w p) (BitVec.ofNat 32 (crc32 x.bytes))
      if y.active = some w ∧ !y.hasEmitted p then { y with dev := { y.dev with emitted := y.dev.emitted ++ [p] } } else y
    | none => s1
  let s3 := s2.bump (Reg.HLTH_CNT_DIAG w) Fld.HLTH_CNT_DIAG_PROBES x.probed
  s3.modHlth w (fun h => { h with pulses := h.pulses ++ x.pulses })

/-- The drives of slices of the frame before the newest tick that wait for their emission still (R237): complete, and on no port in HOLD or
SAFE. -/
def State.drivesDue (s : State) (w : Twin) : List (Nat × List Nat) :=
  match s.frame w s.tg.prev.k with
  | none => []
  | some f =>
    (f.slices.filter (fun x => s.complete w f x.key && !f.settled.contains x.key && !(s.portHeld && (s.slicePort w x.key).isSome))).flatMap (·.drives)

/-- Marks of R360 for a port that slips. -/
def markSlip (w : Twin) (k p : Nat) (s : State) : State :=
  s.modFrame w k (fun a => if a.slipPorts.contains p then a else { a with slipPorts := a.slipPorts ++ [p] })

/-! ### The compute deadline (R60, R61) -/

/-- A layer scan of frame `f` is unfinished (R60): a stripe that the window of a contributing layer crosses is not complete. -/
def State.scanOpen (s : State) (w : Twin) (f : FrameAcct) : Bool :=
  (List.range 16).any (fun l => s.contributes w l && (List.range (s.stripeCount w)).any (fun i =>
    inStripe i (s.winLines w l) && !f.stripes.contains i))

/-- What the deadline of frame `k` does in a computing twin (R60, R62, R68, R69): slices that the deciding twin has not completed are dropped,
with unfinished layer scans; their ports are STALE, or HOLD when they have not emitted yet. -/
def closeFrame (at_ : Nat) (w : Twin) (f : FrameAcct) (s : State) : State :=
  let dropped := (s.sliceKeys w).filter (fun key => !s.complete w f key)
  let scan : Bool := match s.frame (s.lead w) f.k with | some g => s.scanOpen (s.lead w) g | none => false
  let any_ : Bool := !dropped.isEmpty || scan
  let s1 := s.modFrame w f.k (fun a => { a with closed := true, dropped := any_, mapDrop := !dropped.isEmpty })
  let s2 := if any_ then raiseComp w f.k at_ s1 else s1
  dropped.foldl (fun x key =>
    match x.slicePort w key with
    | some p => if x.portHeld || !x.hasEmitted p then x else markSlice w f.k key at_ x
    | none => markStale w f.k key at_ x) s2

/-- A slice that only the ACTIVE twin completed: the standby is late, and the port is released without comparison (R62). -/
def lagging (f : FrameAcct) (s : State) : State :=
  match s.active with
  | none => s
  | some w =>
    if s.computes w.other then
      let lag := (s.sliceKeys w).filter (fun key => (s.sliceOf w f.k key).isSome && (s.sliceOf w.other f.k key).isNone)
      if lag.isEmpty then s
      else { s with peri := { s.peri with lagging := s.peri.lagging ++ lag.filterMap (fun key => (s.slicePort w key).map (fun p =>
        (p, f.k, max s.now (f.before + s.turn w p)))) } }.setHealth w.other 9
    else s

/-- The compute deadline of the newest tick (R60): slices, then the Sorus items stamped with it (R388). -/
def computeDeadline (s : State) : State :=
  if !s.tg.ran || s.tg.dlDone then s
  else
    let at_ := s.deadlineRaw
    let s0 := { s.at at_ with tg := { s.tg with dlDone := true } }
    let k := s0.tickNo
    let s1 := s0.each s0.computes (fun w x => match x.frame w k with | some f => closeFrame at_ w f x | none => x)
    let s2 := match s0.active with
      | some w => (match s1.frame w k with | some f => lagging f s1 | none => s1)
      | none => s1
    s2.each (fun w => decide (s2.roleOf w ≠ .off)) (fun w x =>
      let (n, y) := sorusAbort w k x
      if n = 0 then y
      else raiseComp w k at_ (y.modFrame w k (fun a => { a with dropped := true, dropItems := min 65535 (a.dropItems + n) })))

/-- COMPUTE_DEADLINE (R60): nothing when the deadline of the newest tick has passed already. -/
def execComputeDeadline (s : State) : Host.Outcome State Fault Refusal := .next (computeDeadline s.begin)

end Sys2Proof.Machine
end

