-- ==== Sys2Proof/Machine/Proren.lean ====
section
/-!
DEFINITION. Strand ports on the Proren link (chapter 10): packets, a frame on the wire, the poll window, enumeration and configuration.
-/
namespace Sys2Proof.Machine

/-! ### Parameters (Table 10-1) -/

def State.prnDlen (s : State) (w : Twin) (p : Nat) : Nat := s.param w p 2 2
def State.prnHub (s : State) (w : Twin) (p : Nat) : Bool := decide (s.param w p 4 1 = 1)
def State.prnStatic (s : State) (w : Twin) (p : Nat) : Nat := s.param w p 6 2
def State.prnRefresh (s : State) (w : Twin) (p : Nat) : Nat := s.param w p 8 2
def State.prnNodeTo (s : State) (w : Twin) (p : Nat) : Nat := s.param w p 10 2
def State.prnNodes (s : State) (w : Twin) (p : Nat) : Nat := s.param w p 12 2
def State.prnCfgPer (s : State) (w : Twin) (p : Nat) : Nat := s.param w p 14 1
def State.prnAuto (s : State) (w : Twin) (p : Nat) : Bool := bitAt (s.param w p 15 1) 0

/-- The line time of `n` downstream characters in ns, rounded up (R267). -/
def State.charTime (s : State) (w : Twin) (p n : Nat) : Nat := ceilDiv (n * 25 * 2 ^ s.param w p 0 1) 2
/-- One upstream character in ns. -/
def State.upChar (s : State) (w : Twin) (p : Nat) : Nat := if s.param w p 1 1 = 0 then 100 else 200

/-- STRD_PSTAT.STATE. -/
def State.prnState (s : State) (w : Twin) (p : Nat) : Nat := s.rf (Reg.STRD_PSTAT w p) Fld.STRD_PSTAT_STATE
def State.prnRunning (s : State) (w : Twin) (p : Nat) : Bool := decide (s.prnState w p = 4)

/-! ### Packets (R269, R270, R275, R281, R284, R291, R293) -/

/-- The characters of a packet with `n` bytes before its CRC. -/
def pktChars (n : Nat) : Nat := n + 8

/-- A packet leaves on the ball of a port, with its CRC, when the twin's stream is released: it is the ACTIVE one, and the Peristome releases
to strand ports (R42 to R44). The keepalive generator keeps clear of it (R281). -/
def sendPkt (w : Twin) (p at_ : Nat) (b : List Byte) (s : State) : State :=
  if s.active = some w ∧ !s.portShut then
    let s1 : State := if s.dev.gen.any (fun e => decide (e.1 = p)) then
        { s with dev := { s.dev with traffic := s.dev.traffic ++ [(p, at_, at_ + s.charTime w p (pktChars b.length))] } }
      else s
    s1.emitPkt p at_ b
  else s

/-- Packets leave one after the other from an instant on; answers the end of the last. -/
def sendPkts (w : Twin) (p : Nat) : Nat → List (List Byte) → State → Nat × State
  | at_, [], s => (at_, s)
  | at_, b :: rest, s => sendPkts w p (at_ + s.charTime w p (pktChars b.length)) rest (sendPkt w p at_ b s)

def latchPkt (rep : Bool) (k : Nat) : List Byte :=
  [3, if rep then 1 else 0] ++ beBytes 2 19000 ++ [BitVec.ofNat 8 k, 0, 0, 0]
def enumPkt (op a hop limit : Nat) : List Byte :=
  [7, BitVec.ofNat 8 op] ++ beBytes 2 a ++ beBytes 2 hop ++ beBytes 2 limit
def pollPkt (x : Poll) : List Byte :=
  [5, 0] ++ beBytes 2 x.first ++ [BitVec.ofNat 8 x.count, BitVec.ofNat 8 x.t0] ++ beBytes 2 x.ncount ++ x.targets.flatMap (beBytes 2)
def cfgPkt (flags node apply : Nat) (items : List Byte) : List Byte :=
  [6, BitVec.ofNat 8 flags] ++ beBytes 2 node ++ [BitVec.ofNat 8 apply, 0] ++ beBytes 2 items.length ++ items
def pulsePkt (x : Pulse) : List Byte :=
  [8, 0] ++ beBytes 2 x.node ++ [BitVec.ofNat 8 x.frame, 0] ++ beBytes 6 ((x.mask.map (2 ^ ·)).sum)

/-- The probe list of a packet that carries slice bytes `lo` to `lo + n - 1` (R272): at most 16 entries. -/
def probeList (probes : List (Nat × Nat)) (lo n : Nat) : List Byte :=
  let l := (probes.filter (fun e => decide (lo ≤ e.1 ∧ e.1 < lo + n))).take 16
  if l = [] then [] else [BitVec.ofNat 8 l.length] ++ l.flatMap (fun e => beBytes 2 (e.1 - lo) ++ [BitVec.ofNat 8 e.2])

def dataFlags (probe : List Byte) (full : Bool) : Byte := BitVec.ofNat 8 ((if probe = [] then 0 else 1) + (if full then 2 else 0))

def dataS (x : Slice) (k : Nat) (full : Bool) (off n : Nat) : List Byte :=
  let pl := probeList x.probes off n
  [1, dataFlags pl full] ++ beBytes 3 off ++ [BitVec.ofNat 8 k] ++ beBytes 2 n ++ slice x.bytes off n ++ pl

def dataA (x : Slice) (k : Nat) (full : Bool) (node base seg n : Nat) : List Byte :=
  let pl := probeList x.probes (base + seg * 512) n
  [2, dataFlags pl full] ++ beBytes 2 (seg % 16 * 4096 + node) ++ [BitVec.ofNat 8 k, BitVec.ofNat 8 (seg / 16)] ++ beBytes 2 n ++
    slice x.bytes (base + seg * 512) n ++ pl

/-- Joins ranges that touch; the list is in ascending order of its starts. -/
def joinRanges : List (Nat × Nat) → List (Nat × Nat)
  | [] => []
  | (a, b) :: rest =>
    match joinRanges rest with
    | (c, d) :: more => if c ≤ b then (a, max b d) :: more else (a, b) :: (c, d) :: more
    | [] => [(a, b)]

/-- A range cut into pieces of at most `n`: offset and length. -/
def pieces (n : Nat) : Nat → Nat → Nat → List (Nat × Nat)
  | 0, _, _ => []
  | fuel + 1, a, b => if b ≤ a then [] else (a, min n (b - a)) :: pieces n fuel (a + min n (b - a)) b

/-- The DATA packets of a frame (R271, R277). -/
def State.dataPkts (s : State) (w : Twin) (p : Nat) (x : Slice) (k : Nat) (full : Bool) : List (List Byte) :=
  let fs := s.fixturesOn w p
  let runs := joinRanges (sortBy (fun a b => decide (a.1 < b.1)) ((fs.filter (fun f => !s.fixAddressed w f)).map (fun f =>
    (s.fixBase w f, s.fixBase w f + s.regionLen w f))))
  let dlen := max 1 (s.prnDlen w p)
  let str := runs.flatMap (fun r => (pieces dlen (r.2 - r.1) r.1 r.2).map (fun q => dataS x k full q.1 q.2))
  let adr := (sortBy (fun a b => decide (s.fixNode w a < s.fixNode w b)) (fs.filter (fun f => s.fixAddressed w f))).flatMap (fun f =>
    (pieces 512 64 0 (s.regionLen w f)).map (fun q => dataA x k full (s.fixNode w f) (s.fixBase w f) (q.1 / 512) q.2))
  str ++ adr

/-! ### Configuration (R291, R292) -/

/-- The fixture that a node carries. -/
def State.fixtureAt (s : State) (w : Twin) (p node : Nat) : Option Nat :=
  (s.fixturesOn w p).find? (fun f => decide (s.fixKind w f = 1) && decide (s.fixNode w f = node))

/-- The framed items of a node (Table 10-11): WINDOW, FORMAT and HELD; a node beyond 18,500 ns has a window of length 0 (R290). -/
def State.framedItems (s : State) (w : Twin) (p : Nat) (n : Node) : List Byte :=
  match s.fixtureAt w p n.addr with
  | none => [1, 6, 0, 0, 0, 0, 0, 0]
  | some f =>
    let pr := s.fixProfile w f
    let used := s.channels w f
    let held := (List.range used).map (fun c => BitVec.ofNat 8 (s.heldCode w pr (s.wireEmitter w pr (c % max 1 (s.profEmitters w pr)))))
    [1, 6] ++ beBytes 3 (s.fixBase w f) ++ beBytes 3 (if 18500 < n.d then 0 else s.regionLen w f) ++
      [2, 4, BitVec.ofNat 8 (wordBytes (s.outFmt w pr)), BitVec.ofNat 8 (s.profEmitters w pr), BitVec.ofNat 8 (s.stride w pr),
        BitVec.ofNat 8 used] ++ [3, BitVec.ofNat 8 used] ++ held

def delayItem (n : Node) : List Byte := [4, 4] ++ beBytes 2 n.d.toNat ++ beBytes 2 n.u.toNat

/-- A CFG packet with every item of a node. -/
def State.fullCfg (s : State) (w : Twin) (p apply : Nat) (n : Node) : List Byte :=
  cfgPkt 0 n.addr apply (s.framedItems w p n ++ delayItem n ++ [5, 2] ++ beBytes 2 (s.prnNodeTo w p))

/-- The CFG packets that a frame requires (R292). -/
def State.dueCfg (s : State) (w : Twin) (p : Nat) : List (List Byte) :=
  let x := s.strand w p
  x.cfgDue.filterMap (fun (a, k) => (x.nodes.find? (fun n => n.addr = a)).map (s.fullCfg w p k))

/-- The line time of packets (R278). -/
def State.lineTime (s : State) (w : Twin) (p : Nat) (ps : List (List Byte)) : Nat :=
  s.charTime w p ((ps.map (fun b => pktChars b.length)).sum)

/-- How many packets from the front end by an instant. -/
def State.fitting (s : State) (w : Twin) (p budget : Nat) : List (List Byte) → Nat → Nat
  | [], _ => 0
  | b :: rest, used =>
    let u := used + pktChars b.length
    if s.charTime w p u ≤ budget then 1 + s.fitting w p budget rest u else 0

/-! ### A frame of a port (R64, R67, R277 to R280, R292) -/

/-- A frame is forced full (R280). -/
def State.forcedFull (s : State) (f : FrameAcct) (p : Nat) : Bool := f.first || s.fullDue.getLsbD p

/-- STRD_STATIC shows U and V. -/
def showStatic (w : Twin) (p : Nat) (s : State) : State :=
  let x := s.strand w p
  (s.sf (Reg.STRD_STATIC w p) Fld.STRD_STATIC_U x.u).sf (Reg.STRD_STATIC w p) Fld.STRD_STATIC_V x.v

/-- A frame in which the port sends data (R277). -/
def prnData (w : Twin) (f : FrameAcct) (p start window line : Nat) (full : Bool) (x : Slice) (s : State) : State :=
  let st := s.strand w p
  let cfg := s.dueCfg w p
  let pk := cfg ++ x.pulses.map pulsePkt ++ s.dataPkts w p x f.k full
  let s1 := (sendPkts w p (start + s.tBlock) pk s).2
  let s2 := s1.setStrand w p { s1.strand w p with cfgDue := [], targets := x.pulses.map (·.node) }
  let s3 := ((s2.bump (Reg.STRD_TX_CNT w p) Fld.STRD_TX_CNT_DATA).bump (Reg.STRD_CFG_CNT w p) Fld.STRD_CFG_CNT_CFG_PKTS st.cfgDue.length).sb
    (Reg.STRD_PSTAT w p) Fld.STRD_PSTAT_STATIC false
  let s4 := s3.modFrame w f.k (fun a => { a with data := a.data ++ [p], emitUse := max a.emitUse (useOf (line + s.tBlock) window) })
  recordEmission w x s4

/-- A static frame (R279, R332): one HOLD, the pulses of the frame, and the LATCH with REPEAT = 1. -/
def prnStatic (w : Twin) (f : FrameAcct) (p start stop : Nat) (x : Slice) (s : State) : State :=
  let pk := holdPkt false false :: x.pulses.map pulsePkt
  let line := s.lineTime w p pk
  let s1 := (sendPkts w p (start + s.tBlock) pk s).2
  let s2 := (s1.bump (Reg.STRD_TX_CNT w p) Fld.STRD_TX_CNT_STATIC).sb (Reg.STRD_PSTAT w p) Fld.STRD_PSTAT_STATIC true
  let s3 := s2.setStrand w p { s2.strand w p with targets := x.pulses.map (·.node) }
  recordEmission w x (s3.modFrame w f.k (fun a => { a with emitUse := max a.emitUse (useOf (line + s.tBlock) (stop - start)) }))

/-- The STALE form of R67: one HOLD, and the LATCH with REPEAT = 1. -/
def prnStale (w : Twin) (f : FrameAcct) (p start : Nat) (s : State) : State :=
  markStale w f.k p (s.dropAt f start) (((sendPkt w p (start + s.tBlock) (holdPkt false false) s).setStrand w p { s.strand w p with targets := [] }).sb
    (Reg.STRD_PSTAT w p) Fld.STRD_PSTAT_STATIC false)

/-- A port that would be STALE (R68): STALE once it has emitted, HOLD before. -/
def staleOrHold (w : Twin) (f : FrameAcct) (p : Nat) (stale : State → State) (s : State) : State :=
  if s.hasEmitted p then stale s else s.modFrame w f.k (fun a => { a with holdPorts := a.holdPorts ++ [p] })

/-- A configuration frame (R292). -/
def prnConfig (w : Twin) (f : FrameAcct) (p start budget : Nat) (s : State) : State :=
  let st := s.strand w p
  let cfg := s.dueCfg w p
  let n := s.fitting w p (budget - s.charTime w p 16) cfg 0
  let s1 := (sendPkts w p (start + s.tBlock) (holdPkt false false :: cfg.take n) s).2
  let s2 := s1.setStrand w p { s1.strand w p with cfgDue := st.cfgDue.drop n, targets := [] }
  let s3 := (s2.bump (Reg.STRD_CFG_CNT w p) Fld.STRD_CFG_CNT_CFG_FRAMES).bump (Reg.STRD_CFG_CNT w p) Fld.STRD_CFG_CNT_CFG_PKTS n
  staleOrHold w f p (markStale w f.k p (s.dropAt f start)) (s3.sb (Reg.STRD_PSTAT w p) Fld.STRD_PSTAT_STATIC false)

/-- One Proren port of one computing twin at the instant S of frame `f` (R63, R64). `start` and `stop` are S and E. Outstanding CFG packets make
the frame one that sends data, or a configuration frame (R292). -/
def prnEmit (w : Twin) (f : FrameAcct) (p start stop : Nat) (s : State) : State :=
  let ch := s.complete w f p && s.changed w f p
  let s0 := settleKey w f.k p ch s
  match s.sliceOf w f.k p, s.complete w f p with
  | some x, true =>
    if !s.prnRunning w p then staleOrHold w f p (prnStale w f p start) s0
    else
      let st := s.strand w p
      let forced := s.forcedFull f p || ch
      let sends : Bool := forced || decide (st.cfgDue ≠ []) || decide (s.prnStatic w p = 0) || decide (st.u < s.prnStatic w p)
      let wNext := st.w + 1
      let refresh : Bool := !sends && decide (s.prnRefresh w p ≤ wNext)
      if sends || refresh then
        let cfg := s.dueCfg w p
        let data := x.pulses.map pulsePkt ++ s.dataPkts w p x f.k refresh
        let line := s.lineTime w p (cfg ++ data)
        if start + line + s.tBlock ≤ stop then
          let y := if forced then { st with u := 0, v := 0, w := 0 }
            else if refresh then { st with v := (st.v + 1) % 65536, w := 0 }
            else { st with u := min 65535 (st.u + 1) }
          showStatic w p (prnData w f p start (stop - start) line refresh x (s0.setStrand w p y))
        else if cfg ≠ [] then prnConfig w f p start (stop - start - s.tBlock) s0
        else raiseEmit w f.k (s.dropAt f start) (staleOrHold w f p (prnStale w f p start) s0)
      else if start + s.lineTime w p (holdPkt false false :: x.pulses.map pulsePkt) + s.tBlock ≤ stop then
        showStatic w p (prnStatic w f p start stop x (s0.setStrand w p { st with v := (st.v + 1) % 65536, w := wNext }))
      else raiseEmit w f.k (s.dropAt f start) (staleOrHold w f p (prnStale w f p start) s0)
  | _, _ => staleOrHold w f p (prnStale w f p start) s0

/-! ### The latch and the poll window (R275, R283, R284, R292) -/

/-- The LATCH of a port for frame `f` at the instant `at_` of the latch; on a port that slips the frame, after one HOLD (R360). -/
def prnLatch (w : Twin) (f : FrameAcct) (p at_ : Nat) (s : State) : State :=
  let go := sendPkt w p (at_ - 19000) (latchPkt (!f.data.contains p || f.slipPorts.contains p) f.k)
  if f.holdPorts.contains p then s
  else if f.slipPorts.contains p then go (sendPkt w p (at_ - 19000 - s.charTime w p (pktChars 8)) (holdPkt false false) s)
  else go s

/-- The refresh CFG packets of a poll window: CFG_PER_FRAME nodes in rotation, then nodes whose delay has moved. -/
def refreshCfg (w : Twin) (p k at_ : Nat) (s : State) : State :=
  let x := s.strand w p
  let n := min (s.prnCfgPer w p) x.nodes.length
  let rot := (List.range n).filterMap (fun i => x.nodes[(x.rot + i) % max 1 x.nodes.length]?)
  let moved := x.nodes.filter (fun nd => x.delayDue.contains nd.addr)
  let pk := rot.map (s.fullCfg w p (k + 1)) ++ moved.map (fun nd => cfgPkt 0 nd.addr (k + 1) (delayItem nd))
  let s1 := (sendPkts w p at_ pk s).2
  let told : Node → Bool := fun nd => rot.any (fun r => r.addr = nd.addr) || moved.any (fun r => r.addr = nd.addr)
  let nodes := x.nodes.map (fun nd => if told nd then { nd with sent := nd.d } else nd)
  (s1.setStrand w p { x with rot := (x.rot + n) % max 1 x.nodes.length, delayDue := [], nodes := nodes }).bump (Reg.STRD_CFG_CNT w p) Fld.STRD_CFG_CNT_CFG_PKTS pk.length

/-- The POLL of a latch at the instant `at_` (R283, R284). -/
def prnPoll (w : Twin) (p k at_ : Nat) (s : State) : State :=
  let x := s.strand w p
  let n := x.nodes.length
  let polls := s.prnPolls w p
  if !s.prnRunning w p || decide (polls = 0) || decide (n = 0) then s.setStrand w p { x with poll := none, targets := [] }
  else
    let total := min polls n
    let targets := x.targets.take (min 4 total)
    let first := s.rf (Reg.STRD_POLL w p) Fld.STRD_POLL_FIRST
    let pl : Poll := { at_ := at_, first := first, count := total - targets.length, ncount := n, t0 := s.prnT0 w p, targets := targets }
    let s1 := sendPkt w p at_ (pollPkt pl) (s.setStrand w p { x with poll := some pl, targets := [] })
    let s2 := s1.sf (Reg.STRD_POLL w p) Fld.STRD_POLL_FIRST ((first + pl.count) % n)
    refreshCfg w p k (at_ + s.charTime w p (pktChars (8 + 2 * targets.length))) s2

/-- RT_MAX and D_MAX at a tick (R288). -/
def delaysTick (w : Twin) (p : Nat) (s : State) : State :=
  let x := s.strand w p
  let rt := (x.nodes.map (fun n => n.rt.toNat)).foldl max 0
  let d := (x.nodes.map (fun n => n.d.toNat)).foldl max 0
  let s1 := s.setStrand w p { x with rtMax := rt, dMax := d }
  let s2 := (s1.sf (Reg.STRD_DELAY w p) Fld.STRD_DELAY_RT_MAX (min 65535 (ceilDiv rt 10))).sf (Reg.STRD_DELAY w p) Fld.STRD_DELAY_D_MAX
    (min 65535 (ceilDiv d 10))
  s2.sf (Reg.STRD_TURN w p) Fld.STRD_TURN_T_TURN (min 65535 (s2.turn w p / 100))

/-! ### STATUS (R285 to R288) -/

/-- The address that owns slot `i` of a poll window. -/
def Poll.owner (x : Poll) (i : Nat) : Option Nat :=
  if i < x.count then some ((x.first + i) % max 1 x.ncount) else x.targets[i - x.count]?

/-- The instant at which slot `i` opens. -/
def State.slotAtPoll (s : State) (w : Twin) (p : Nat) (x : Poll) (i : Nat) : Nat := x.at_ + 1000 + x.t0 * 1000 + i * s.slotTime w p

/-- Every twin whose streams run takes upstream traffic alike (R264). -/
def State.eachUp (s : State) (f : Twin → State → State) : State := s.each (fun w => decide (s.roleOf w ≠ .off)) f

/-- A failed slot (R287): after 3 in a row the node is LOST. -/
def slotFails (w : Twin) (p addr : Nat) (s : State) : State :=
  let x := s.strand w p
  let s1 := s.bump (Reg.STRD_UP_ERR w p) Fld.STRD_UP_ERR_SLOT_MISS
  match x.nodes.find? (fun n => n.addr = addr) with
  | none => s1
  | some n =>
    let lost : Bool := decide (3 ≤ n.fails + 1)
    let s2 := s1.setStrand w p { x with nodes := x.nodes.map (fun m => if m.addr = addr then { m with fails := m.fails + 1, lost := lost } else m) }
    if lost && !n.lost then
      let s3 := s2.sf (Reg.STRD_POLL w p) Fld.STRD_POLL_LOST_NODE addr
      if s3.rb (Reg.STRD_EVT_CTL w p) Fld.STRD_EVT_CTL_LOST_EN then s3.raiseOncePer w 61 p else s3
    else s2

/-- A discarded upstream packet (R269): counted, and E63 at the first in a tick interval. -/
def upDiscard (w : Twin) (p : Nat) (s : State) : State :=
  let s1 := s.bump (Reg.STRD_UP_ERR w p) Fld.STRD_UP_ERR_DISCARD
  if s1.rb (Reg.STRD_EVT_CTL w p) Fld.STRD_EVT_CTL_UPERR_EN then s1.raiseOncePer w 63 p else s1

/-- A good STATUS of the node that owns its slot, whose SOP arrives with error `e` against R285 (R286 to R288). -/
def takeStatus (w : Twin) (p addr : Nat) (e : Int) (b : List Byte) (s : State) : State :=
  let x := s.strand w p
  let fl := byteAt b 1
  let upd := fun (n : Node) =>
    let rt := n.rt + e
    let d := (rt - n.sig) / 2
    { n with rt := rt, d := d, u := rt - d, fails := 0, lost := false }
  let nodes := x.nodes.map (fun n => if n.addr = addr then upd n else n)
  let moved := (nodes.filter (fun n => decide (n.addr = addr) && decide (4 ≤ (n.d - n.sent).natAbs))).map (·.addr)
  let s1 := s.setStrand w p { x with nodes := nodes, delayDue := (x.delayDue ++ moved).dedup }
  let s2 := if bitAt fl 0 then s1.bump (Reg.STRD_NODE_ERR w p) Fld.STRD_NODE_ERR_DATA_MISS else s1
  let s3 := if bitAt fl 1 ∨ bitAt fl 5 then s2.bump (Reg.STRD_NODE_ERR w p) Fld.STRD_NODE_ERR_LOSS else s2
  let s4 := if bitAt fl 0 ∨ bitAt fl 1 ∨ bitAt fl 5 then { s3 with fullDue := s3.fullDue ||| BitVec.ofNat 128 (2 ^ p) } else s3
  s4.modHlth w (fun h => { h with statuses := h.statuses ++ [(s4.now + 30 * s4.upChar w p, p, b)] })

/-- PRN_STATUS (R286, R287, R288): the bytes from TYPE on of a packet that passed R269, whose SOP arrives at `t` in slot `slot`. -/
def execPrnStatus (t : Nat) (p : Fin 128) (slot : Nat) (bytes : List Byte) (s : State) : Host.Outcome State Fault Refusal :=
  let s1 := s.beginAt t
  .next (s1.eachUp (fun w x =>
    match (x.strand w p.val).poll with
    | none => x
    | some pl =>
      match pl.owner slot with
      | none => x
      | some addr =>
        let opens := x.slotAtPoll w p.val pl slot
        if bytes.length ≠ 24 ∨ byteAt bytes 0 ≠ 0x85 then slotFails w p.val addr (upDiscard w p.val x)
        else if beAt bytes 2 2 ≠ addr ∨ x.now < opens ∨ opens + x.slotTime w p.val < x.now + 30 * x.upChar w p.val then
          slotFails w p.val addr x
        else takeStatus w p.val addr ((x.now : Int) - (opens + 400 : Nat)) bytes x))

/-- PRN_SLOT_MISS (R287): a slot of the newest poll window closes without a good STATUS. -/
def execPrnSlotMiss (t : Nat) (p : Fin 128) (slot : Nat) (s : State) : Host.Outcome State Fault Refusal :=
  let s1 := s.beginAt t
  .next (s1.eachUp (fun w x =>
    match (x.strand w p.val).poll.bind (fun pl => pl.owner slot) with
    | some addr => slotFails w p.val addr x
    | none => x))

/-- PRN_UP_ERR (R269). -/
def execPrnUpErr (t : Nat) (p : Fin 128) (s : State) : Host.Outcome State Fault Refusal :=
  let s1 := s.beginAt t
  .next (s1.eachUp (fun w x => if x.personality w p.val = 1 then upDiscard w p.val x else x))

/-! ### Enumeration (R289, R290) -/

/-- Requests an enumeration of a Proren port, which starts at the next tick. -/
def requestEnum (p : Nat) (w : Twin) (s : State) : State :=
  if s.personality w p = 1 then s.setStrand w p { s.strand w p with enumReq := true } else s

/-- STRD_ENUM (R289). -/
def execStrdEnum (t : Nat) (via : Via) (p : Fin 128) (s : State) : Host.Outcome State Fault Refusal :=
  .next ((s.beginAt t).deliver via (requestEnum p.val))

/-- STRD_CTL.FULL in one twin: the Proren port's next frame is forced full (R280). -/
def forceFull (p : Nat) (w : Twin) (s : State) : State :=
  if s.personality w p = 1 then { s with fullDue := s.fullDue ||| BitVec.ofNat 128 (2 ^ p) } else s

/-- STRD_FULL (R280). -/
def execStrdFull (t : Nat) (via : Via) (p : Fin 128) (s : State) : Host.Outcome State Fault Refusal :=
  .next ((s.beginAt t).deliver via (forceFull p.val))

def setPrnState (w : Twin) (p st : Nat) (s : State) : State := s.sf (Reg.STRD_PSTAT w p) Fld.STRD_PSTAT_STATE st

def setRun (w : Twin) (p : Nat) (r : EnumRun) (s : State) : State := s.setStrand w p { s.strand w p with run := some r }

/-- Enumeration ends in fault (R290): E60 when the first fault is found. -/
def enumFault (w : Twin) (p : Nat) (s : State) : State :=
  let x := s.strand w p
  match x.run with
  | none => s
  | some r =>
    if r.fault then s
    else
      ((setRun w p { r with fault := true } s).sb (Reg.STRD_PSTAT w p) Fld.STRD_PSTAT_ENUM_FAULT true).raiseIf w (Reg.STRD_EVT_CTL w p)
        Fld.STRD_EVT_CTL_FAULT_EN 60 p

/-- Steps 1 to 3 of R289 from the present instant. -/
def startEnum (w : Twin) (p : Nat) (s : State) : State :=
  if s.personality w p ≠ 1 then s
  else
    let reset := s.now + s.charTime w p 256 + 1000000
    let count := reset + 10000 + s.charTime w p (pktChars 8)
    let s1 := if s.active = some w ∧ !s.portShut then s.emitWake p else s
    let s2 := sendPkt w p (reset + 10000) (enumPkt 0 0 0 0) (sendPkt w p reset (enumPkt 0 0 0 0) s1)
    let s3 := sendPkt w p count (enumPkt 1 0 0 0) s2
    let s4 := setPrnState w p 1 (s3.sb (Reg.STRD_PSTAT w p) Fld.STRD_PSTAT_ENUM_FAULT false)
    let r : EnumRun :=
      { step := 3, at_ := count, counts := [], hub := false, hubSig := 0, todo := [], nodes := [], orphans := 0, ranges := [], fault := false }
    s4.setStrand w p { Strand.reset with u := (s4.strand w p).u, v := (s4.strand w p).v, w := (s4.strand w p).w,
                                         lockLost := (s4.strand w p).lockLost, run := some r }

/-- PRN_ENUM (R289): an enumeration that is requested starts at the coming tick, or at once while no tick runs. -/
def execPrnEnum (p : Fin 128) (s : State) : Host.Outcome State Fault Refusal :=
  let due : Bool := twins.any (fun w => (s.strand w p.val).enumReq)
  let s1 := if due && s.tg.ran then s.beginAt s.nextTickRaw else s.begin
  .next (s1.eachUp (fun w x => if (x.strand w p.val).enumReq then startEnum w p.val x else x))

/-- S of the newest frame on a port, or the latest that it can be while the slice is not ready (R63). -/
def State.latestS (s : State) (w : Twin) (p : Nat) : Nat :=
  match s.frame w s.tickNo with
  | some f => max ((s.readyAt f p w).getD (s.deadlineOf f)) (f.before + s.turn w p)
  | none => s.deadlineRaw

/-- The number of the first frame that can send data when the CFG packets have left at the raw instant `x` (R289): the first whose S does not come
before it. DEDUCED (notes/assumptions/48.md). -/
def State.firstDataFrame (s : State) (w : Twin) (p x : Nat) : Nat :=
  let (n, d) := s.tg.cur.period
  let from_ := s.latestS w p
  let past : Bool := match s.frame w s.tickNo with | some f => f.settled.contains p | none => false
  if !s.tg.ran then 0
  else s.tickNo + (if x ≤ from_ then (if past then 1 else 0) else ceilDiv ((x - from_) * d) (max 1 n))

/-- Asks the next address for an ECHO at the instant `at_`, or sends the CFG of step 7 (R289). -/
def nextEcho (w : Twin) (p at_ : Nat) (r : EnumRun) (s : State) : State :=
  match r.todo with
  | (a, _) :: _ => setRun w p { r with step := 6, at_ := at_ } (sendPkt w p at_ (enumPkt 3 a 0 0) s)
  | [] =>
    let sizes := r.nodes.map (fun n => (s.fullCfg w p 0 n))
    let stop := at_ + s.lineTime w p sizes
    let pk := r.nodes.map (s.fullCfg w p (s.firstDataFrame w p stop))
    let (e, s1) := sendPkts w p at_ pk s
    setPrnState w p 3 ((setRun w p { r with step := 7, at_ := e } s1).bump (Reg.STRD_CFG_CNT w p) Fld.STRD_CFG_CNT_CFG_PKTS pk.length)

/-- Branches in order with the base and end of their addresses (R289). -/
def assign : Nat → List (Nat × Nat) → List (Nat × Nat × Nat)
  | _, [] => []
  | base, (b, hop) :: rest =>
    let n := if hop = 0xFFFF then 0 else min (min (hop + 1) 1024) (4096 - base)
    (b, base, base + n) :: assign (base + n) rest

/-- The end of the wait for COUNT replies (R289, R290). -/
def countEnd (w : Twin) (p : Nat) (s : State) : State :=
  match (s.strand w p).run with
  | none => s
  | some r =>
    if r.step ≠ 3 then s
    else
      let s0 := s.at (r.at_ + 5000000)
      let hub := s0.prnHub w p
      let cs := if hub then sortBy (fun a b => decide (a.1 < b.1)) r.counts else r.counts.take 1
      let total := (cs.map (fun c => if c.2 = 0xFFFF then 0 else c.2 + 1)).sum
      let as_ := assign 0 cs
      let given := (as_.map (fun a => a.2.2 - a.2.1)).sum
      let todo := as_.flatMap (fun a => (List.range (a.2.2 - a.2.1)).map (fun i => (a.2.1 + i, a.2.1)))
      let bad : Bool := cs.any (fun c => decide (c.2 ≠ 0xFFFF ∧ 1024 < c.2 + 1)) || decide (4096 < total) ||
        (decide (s0.prnNodes w p ≠ 0) && decide (s0.prnNodes w p ≠ total))
      let bases := (List.range 8).flatMap (fun b => beBytes 2 (match as_.find? (fun a => a.1 = b) with
        | some (_, lo, hi) => if lo = hi then 0xFFFF else lo | none => 0xFFFF))
      let pk := (if hub then [cfgPkt 1 0 0 ([0x10, 16] ++ bases)] else []) ++ [enumPkt 2 0 0 given]
      let (e, s1) := sendPkts w p s0.now pk s0
      let r1 := { r with hub := hub && !cs.isEmpty, todo := todo, orphans := total - given, ranges := as_.map (·.2) }
      let s2 := setPrnState w p 2 (setRun w p r1 s1)
      let s3 := if bad then enumFault w p s2 else s2
      match (s3.strand w p).run with
      | some r2 => nextEcho w p e r2 s3
      | none => s3

/-- ENUM_COUNT_WAIT_END (R289). -/
def execEnumCountWaitEnd (p : Fin 128) (s : State) : Host.Outcome State Fault Refusal :=
  .next (s.begin.eachUp (fun w x => countEnd w p.val x))

/-- An ENUM_REPLY whose SOP arrives now (R289, R290); one outside its wait is not taken. -/
def enumReply (w : Twin) (p : Nat) (b : List Byte) (s : State) : State :=
  match (s.strand w p).run with
  | none => s
  | some r =>
    if b.length ≠ 16 ∨ byteAt b 0 ≠ 0x81 then upDiscard w p s
    else if byteAt b 1 = 1 ∧ r.step = 3 ∧ r.at_ ≤ s.now ∧ s.now ≤ r.at_ + 5000000 then
      let hop := beAt b 4 2
      let br := if s.prnHub w p then byteAt b 6 else 0
      let sig : Int := if hop = 0xFFFF then (byteAt b 11 : Int) - byteAt b 10 else r.hubSig
      setRun w p { r with counts := r.counts.filter (fun c => c.1 ≠ br) ++ [(br, hop)], hubSig := sig } s
    else if byteAt b 1 = 3 ∧ r.step = 6 ∧ r.at_ ≤ s.now ∧ s.now ≤ r.at_ + 50000 then
      match r.todo with
      | [] => s
      | (a, start) :: rest =>
        if beAt b 2 2 ≠ a then s
        else
          let rt : Int := (s.now : Int) - r.at_ - 2000
          let sig := r.hubSig + ((r.nodes.filter (fun n => decide (start ≤ n.addr))).map (fun n => (n.tru : Int) - n.trd)).sum
          let d := (rt - sig) / 2
          let nd : Node := { addr := a, rt := rt, d := d, u := rt - d, sig := sig, sent := d, fails := 0, lost := false,
                             kind := byteAt b 8, chans := byteAt b 9, trd := byteAt b 10, tru := byteAt b 11 }
          let s1 := setRun w p { r with todo := rest, nodes := r.nodes ++ [nd] } s
          let s2 := if 18500 < d then enumFault w p s1 else s1
          match (s2.strand w p).run with
          | some r2 => nextEcho w p (s.now + 24 * s.upChar w p) r2 s2
          | none => s2
    else s

/-- ENUM_REPLY (R289): the bytes from TYPE on of a packet that passed R269, whose SOP arrives at `t`. -/
def execEnumReply (t : Nat) (p : Fin 128) (bytes : List Byte) (s : State) : Host.Outcome State Fault Refusal :=
  .next ((s.beginAt t).eachUp (fun w x => enumReply w p.val bytes x))

/-- An ECHO stays unanswered for 50 µs (R290). -/
def echoTimeout (w : Twin) (p : Nat) (s : State) : State :=
  match (s.strand w p).run with
  | none => s
  | some r =>
    if r.step ≠ 6 then s
    else
      let s0 := s.at (r.at_ + 50000)
      let s1 := enumFault w p (setRun w p { r with todo := r.todo.drop 1, orphans := r.orphans } s0)
      match (s1.strand w p).run with
      | some r2 => nextEcho w p s0.now r2 s1
      | none => s1

/-- ENUM_ECHO_TIMEOUT (R290). -/
def execEnumEchoTimeout (p : Fin 128) (s : State) : Host.Outcome State Fault Refusal :=
  .next (s.begin.eachUp (fun w x => echoTimeout w p.val x))

/-- STRD_NODES.ORPHAN (R290): nodes without an address, and used kind 1 fixtures whose NODE no node took. -/
def State.orphanCount (s : State) (w : Twin) (p : Nat) : Nat :=
  let x := s.strand w p
  x.orphans + ((s.fixturesOn w p).filter (fun f => decide (s.fixKind w f = 1) && !x.ranges.any (fun g => decide (g.1 ≤ s.fixNode w f ∧ s.fixNode w f < g.2)))).length

/-- The end of step 7 (R289): RUNNING, E59 unless a fault was found, and the next frame forced full. -/
def enumDone (w : Twin) (p : Nat) (s : State) : State :=
  match (s.strand w p).run with
  | none => s
  | some r =>
    if r.step ≠ 7 ∨ s.now < r.at_ then s
    else
      let s1 := s.setStrand w p { s.strand w p with run := none, nodes := r.nodes, orphans := r.orphans, ranges := r.ranges, rot := 0 }
      let s2 := (setPrnState w p 4 s1).sb (Reg.STRD_PSTAT w p) Fld.STRD_PSTAT_HUB r.hub
      let s3 := (s2.sf (Reg.STRD_NODES w p) Fld.STRD_NODES_COUNT r.nodes.length).sf (Reg.STRD_NODES w p) Fld.STRD_NODES_ORPHAN
        (min 8191 (s2.orphanCount w p))
      let s4 := (s3.wr64 (Reg.STRD_ENUM_TS w p) s3.stamp).sf (Reg.STRD_POLL w p) Fld.STRD_POLL_FIRST 0
      let s5 := { s4 with fullDue := s4.fullDue ||| BitVec.ofNat 128 (2 ^ p) }
      if r.fault then s5 else s5.raiseIf w (Reg.STRD_EVT_CTL w p) Fld.STRD_EVT_CTL_DONE_EN 59 p

/-- PRN_ENUM_DONE (R289): nothing before the CFG packets have left. -/
def execPrnEnumDone (t : Nat) (p : Fin 128) (s : State) : Host.Outcome State Fault Refusal :=
  .next ((s.beginAt t).eachUp (fun w x => enumDone w p.val x))

/-! ### Lock and wake (R289, R294) -/

/-- PRN_UP_LOCK (R289): after a loss of 10 ms or more, ENUM_AUTO starts an enumeration. -/
def execPrnUpLock (t : Nat) (p : Fin 128) (s : State) : Host.Outcome State Fault Refusal :=
  .next ((s.beginAt t).eachUp (fun w x =>
    if x.personality w p.val ≠ 1 then x
    else
      let st := x.strand w p.val
      let long : Bool := match st.lockLost with | some a => decide (a + 10000000 ≤ x.now) | none => false
      let y := (x.setStrand w p.val { st with lockLost := none }).sb (Reg.STRD_PSTAT w p.val) Fld.STRD_PSTAT_UP_LOCK true
      if long && x.prnAuto w p.val then startEnum w p.val y else y))

/-- PRN_UP_LOCK_LOSS (R289): the port's state stays. -/
def execPrnUpLockLoss (t : Nat) (p : Fin 128) (s : State) : Host.Outcome State Fault Refusal :=
  .next ((s.beginAt t).eachUp (fun w x =>
    if x.personality w p.val ≠ 1 then x
    else
      (x.setStrand w p.val { x.strand w p.val with lockLost := some x.now }).sb (Reg.STRD_PSTAT w p.val) Fld.STRD_PSTAT_UP_LOCK false))

/-- An upstream WAKE pattern in RUN or DIM (R294). -/
def nodeWake (p : Nat) (s : State) : State :=
  s.eachUp (fun w x =>
    if x.personality w p ≠ 1 then x
    else
      let y := x.raiseIf w (Reg.STRD_EVT_CTL w p) Fld.STRD_EVT_CTL_WAKE_EN 62 p
      if x.prnAuto w p then startEnum w p y else y)

/-! ### The keepalive generator (R39, R42, R281, R349) -/

/-- HOLD_KEEPALIVE (R281): the first HOLD of the ports that the Thallus has begun to drive; when there is none, the HOLD that is due next,
1 ms after the one before on its port. Nothing while it drives no port. -/
def execHoldKeepalive (s : State) : Host.Outcome State Fault Refusal :=
  let s1 := syncGen s.begin
  match s1.dev.gen with
  | [] => .next s1
  | g :: rest =>
    if s1.out ≠ [] then .next s1
    else
      let due := rest.foldl (fun t e => min t (e.2.1 + 1000000)) (g.2.1 + 1000000)
      .next ((s1.dev.gen.filter (fun e => decide (e.2.1 + 1000000 ≤ due))).foldl (fun x e => genHold e.1 x) (s1.at due))

end Sys2Proof.Machine
end

