-- ==== Sys2Proof/Machine/Wire.lean ====
section
/-!
DEFINITION. DMX512-A with its RDM controller, pixel strings, and sACN output (chapter 11).
-/
namespace Sys2Proof.Machine

/-! ### Line times (R298, R312, R313) -/

def State.dmxDiv (s : State) (w : Twin) (p : Nat) : Nat := max 1 (s.param w p 5 1)
def State.dmxSlots (s : State) (w : Twin) (p : Nat) : Nat := match s.dmxUniv w p with | some u => s.outSlots w u | none => 0

/-- T_dmx in ns (R298). -/
def State.tDmx (s : State) (w : Twin) (p : Nat) : Nat :=
  let n := s.dmxSlots w p
  (s.param w p 0 2 + s.param w p 2 2 + 44 * (n + 1) + s.param w p 4 1 * n) * 1000

/-- T_RESET in ns. -/
def State.tReset (s : State) (w : Twin) (p : Nat) : Nat := s.param w p 6 2 * 1000

/-- The bytes that a clocked port sends for a slice (R313). -/
def State.clockedBytes (s : State) (w : Twin) (p : Nat) (b : List Byte) : List Byte :=
  let every := s.param w p 4 1
  let prefix_ : Byte := BitVec.ofNat 8 (s.param w p 5 1)
  let head := s.entBytes w 6 0 p 14 (s.param w p 9 1)
  let tail : Byte := BitVec.ofNat 8 (s.param w p 18 1)
  let div := s.param w p 20 2
  head ++ b.zipIdx.flatMap (fun (x, i) => if every ≠ 0 ∧ i % every = 0 then [prefix_, x] else [x]) ++
    List.replicate (s.param w p 19 1 + (if div = 0 then 0 else ceilDiv b.length div)) tail

/-- T_port of a pixel port in ns for a slice (R312, R313), rounded up. -/
def State.tPixel (s : State) (w : Twin) (p : Nat) (b : List Byte) : Nat :=
  if s.personality w p = 3 then 8 * b.length * s.param w p 0 2
  else ceilDiv (8 * (s.clockedBytes w p b).length * 10000) (max 1 (s.param w p 0 2))

/-- The bytes that a port sends for a slice: a DMX packet with its start code, a pixel frame. -/
def State.wireBytes (s : State) (w : Twin) (p : Nat) (b : List Byte) : List Byte :=
  match s.personality w p with
  | 2 => (0 : Byte) :: b
  | 3 => b
  | _ => s.clockedBytes w p b

/-- The form in which a port sends a slice (R298, R312, R313). -/
def State.wireForm (s : State) (w : Twin) (p : Nat) : WireForm :=
  let fl := s.param w p 8 1
  match s.personality w p with
  | 2 => .dmx (s.param w p 0 2) (s.param w p 2 2) (s.param w p 4 1)
  | 3 => .nrz (s.param w p 0 2) (s.param w p 2 2) (s.param w p 4 2) (bitAt fl 0) (bitAt fl 1) (bitAt fl 2)
  | _ => .clocked (s.param w p 0 2) (bitAt (s.param w p 2 2) 0) (bitAt fl 0) (bitAt fl 1)

/-- The bits of a byte in the order in which they are sent. -/
def sentBits (lsb : Bool) (b : Byte) : List Bool := (List.range 8).map (fun i => b.getLsbD (if lsb then i else 7 - i))

/-- The levels of the downstream P ball in the order in which they follow, with how long each lasts: in ns, on a clocked port in half periods of
the clock (Table 11-1, R298, R312, R313). -/
def WireForm.downP : WireForm → List Byte → List (Bool × Nat)
  | .dmx brk mab isl, b =>
    (false, brk * 1000) :: (true, mab * 1000) :: b.zipIdx.flatMap (fun (x, i) =>
      (false, 4000) :: (sentBits true x).map (fun v => (v, 4000)) ++
        [(true, 8000 + (if i + 1 < b.length then isl * 1000 else 0))])
  | .nrz tBit t0h t1h invert lsb _, b =>
    (b.flatMap (sentBits lsb)).flatMap (fun v =>
      let high := if v then t1h else t0h
      [(!invert, high), (invert, tBit - high)])
  | .clocked _ _ invert lsb, b => (b.flatMap (sentBits lsb)).map (fun v => (v != invert, 2))

/-- The levels of the downstream N ball while the data lasts: DE high, the complement or low, the clock (Table 11-1). The data of a clocked port
changes between two bits, where its clock is low with EDGE = 0 and high with EDGE = 1: DEDUCED (notes/assumptions/49.md). -/
def WireForm.downN (form : WireForm) (b : List Byte) : List (Bool × Nat) :=
  match form with
  | .dmx _ _ _ => (form.downP b).map (fun e => (true, e.2))
  | .nrz _ _ _ _ _ diff => (form.downP b).map (fun e => (diff && !e.1, e.2))
  | .clocked _ falling _ _ => (form.downP b).flatMap (fun _ => [(falling, 1), (!falling, 1)])

def State.tWire (s : State) (w : Twin) (p : Nat) (b : List Byte) : Nat := if s.personality w p = 2 then s.tDmx w p else s.tPixel w p b

/-- The instant at which the data of frame `f` ends: C of a DMX port's span (R299), E' of a pixel port (R314). -/
def State.wireEnd (s : State) (w : Twin) (f : FrameAcct) (p : Nat) : Nat :=
  if s.personality w p = 2 then
    let (n, d) := f.tick.period
    s.latchAt f + (s.dmxDiv w p - 1) * n / d - 20000
  else s.latchAt f - max (s.tReset w p) 20000

/-! ### A frame of a DMX or pixel port (R299 to R302, R314, R315) -/

def DmxPort.reset : DmxPort :=
  { entering := [], queue := [], run := none, disc := none, uids := [], quiet := 0, stepTurn := false, since := 0, hear := none }
def State.dmx (s : State) (w : Twin) (p : Nat) : DmxPort := Smap.get DmxPort.reset (s.tw w).dmx p
def State.setDmx (s : State) (w : Twin) (p : Nat) (x : DmxPort) : State :=
  s.modTw w (fun t => { t with dmx := Smap.set DmxPort.reset t.dmx p x })

/-- Data of a port leaves, ending at `stop`. -/
def sendWire (w : Twin) (p stop : Nat) (b : List Byte) (s : State) : State :=
  let s1 := if s.active = some w ∧ !s.portHeld then s.emit (.wire p (stop - s.tWire w p b) (s.wireForm w p) (s.wireBytes w p b)) else s
  if s.personality w p = 2 then s1.setDmx w p { s1.dmx w p with quiet := stop } else s1

/-- A STALE frame repeats the last values if that fits (R301, R315). -/
def repeatWire (w : Twin) (f : FrameAcct) (p stop : Nat) (b : List Byte) (s : State) : State :=
  if f.before ≤ stop - s.tWire w p b then (sendWire w p stop b s).bump (Reg.STRD_WTX_CNT w p) Fld.STRD_WTX_CNT_REPEAT
  else s.bump (Reg.STRD_WMISS w p) Fld.STRD_WMISS_IDLE

/-- One DMX or pixel port of one computing twin at S of frame `f`. `key` is the key of its slice. A port that has emitted nothing yet is in
HOLD (R68). -/
def wireEmit (w : Twin) (f : FrameAcct) (p key start : Nat) (s : State) : State :=
  let stop := s.wireEnd w f p
  let ch := s.complete w f key && s.changed w f key
  let s0 := settleKey w f.k key ch s
  let idle : Bool := decide (s.personality w p = 2) && decide (f.k % s.dmxDiv w p ≠ 0)
  let bad := fun (x : State) =>
    if x.hasEmitted p then
      let y := markSlice w f.k key (s.dropAt f start) x
      if idle then y else repeatWire w f p stop (y.lastSlice w key) y
    else x.modFrame w f.k (fun a => { a with holdPorts := a.holdPorts ++ [p] })
  match s.sliceOf w f.k key, s.complete w f key with
  | some x, true =>
    if idle then s0
    else
      let line := s.tWire w p x.bytes
      if start + s.tBlock + line ≤ stop then
        let s1 := (sendWire w p stop x.bytes s0).bump (Reg.STRD_WTX_CNT w p) Fld.STRD_WTX_CNT_SENT
        recordEmission w x (s1.modFrame w f.k (fun a => { a with emitUse := max a.emitUse (useOf (line + s.tBlock) (stop - start)) }))
      else raiseEmit w f.k (s.dropAt f start) (bad s0)
  | _, _ => bad s0

/-! ### sACN output (R316 to R321) -/

def SacnOut.reset : SacnOut := ⟨0, 0, 0⟩
def State.sacnOut (s : State) (w : Twin) (u : Nat) : SacnOut := Smap.get SacnOut.reset (s.tw w).sacnOut u
def State.setSacnOut (s : State) (w : Twin) (u : Nat) (x : SacnOut) : State :=
  s.modTw w (fun t => { t with sacnOut := Smap.set SacnOut.reset t.sacnOut u x })

/-- CID and source name (R316). -/
def State.sacnCid (s : State) (w : Twin) : List Byte := (List.range 4).flatMap (fun n => leBytes 4 (s.reg (Reg.SACN_TX_CID w n)).toNat)
def State.sacnName (s : State) (w : Twin) : List Byte := (List.range 16).flatMap (fun n => leBytes 4 (s.reg (Reg.SACN_TX_NAME w n)).toNat)
def State.cidZero (s : State) (w : Twin) : Bool := (s.sacnCid w).all (fun b => b = 0)

/-- The layers of an E1.31 data packet (E1.31-2018, outside the spec) with the values of R316. -/
def State.sacnPacket (s : State) (w : Twin) (u seq : Nat) (b : List Byte) : List Byte :=
  let n := b.length
  beBytes 2 0x10 ++ beBytes 2 0 ++ acnId ++ beBytes 2 (0x7000 + n + 110) ++ beBytes 4 4 ++ s.sacnCid w ++
    beBytes 2 (0x7000 + n + 88) ++ beBytes 4 2 ++ s.sacnName w ++ beBytes 1 (s.outE w u 6 1) ++ beBytes 2 (s.outE w u 8 2) ++
    beBytes 1 seq ++ [0] ++ beBytes 2 (s.outE w u 0 2) ++
    beBytes 2 (0x7000 + n + 11) ++ [2, 0xA1] ++ beBytes 2 0 ++ beBytes 2 1 ++ beBytes 2 (n + 1) ++ [0] ++ b

/-- An E1.31 synchronisation packet (R320). -/
def State.sacnSync (s : State) (w : Twin) (addr seq : Nat) : List Byte :=
  beBytes 2 0x10 ++ beBytes 2 0 ++ acnId ++ beBytes 2 (0x7000 + 33) ++ beBytes 4 8 ++ s.sacnCid w ++ beBytes 2 (0x7000 + 11) ++ beBytes 4 1 ++
    beBytes 1 seq ++ beBytes 2 addr ++ beBytes 2 0

/-- Wire length of a data packet with preamble and gap (R316). -/
def State.sacnWire (s : State) (w : Twin) (u : Nat) : Nat := s.outSlots w u + (if s.outV6 w u then 212 else 192)

/-- The gap in ns between the starts of successive sACN frames on a port (R318), rounded up. -/
def State.sacnGap (s : State) (w : Twin) (u : Nat) : Nat :=
  ceilDiv (s.sacnWire w u * 80) (max 1 (s.rf (Reg.SACN_TX_CFG w) Fld.SACN_TX_CFG_RATE))

/-- The network ports of an output universe. -/
def State.outPorts (s : State) (w : Twin) (u : Nat) : List Nat := (List.range 4).filter (fun n => bitAt (s.outE w u 3 1) n)

/-- A packet of a twin goes to the group of universe `u` on a network port (R148, R316, R320): the MAC of the twin counts the frame with its
headers and FCS, and it leaves when the twin's stream is released. -/
def sendNet (w : Twin) (n : Nat) (v6 : Bool) (u : Nat) (b : List Byte) (s : State) : State :=
  let s1 := s.bump (Reg.NET_TX_FRAMES w n) Fld.NET_TX_FRAMES_COUNT
  let s2 := s1.wr64 (Reg.NET_TX_BYTES w n) ((s1.rd64 (Reg.NET_TX_BYTES w n) + b.length + (if v6 then 66 else 46)) % 2 ^ 64)
  let cfg := Reg.SACN_TX_CFG w
  if s2.active = some w then
    s2.emit (.sacn n (groupMac (sacnGroup v6 u)) (s2.netMac w n) (sacnGroup v6 u) (if v6 then s2.netIp6 w n else s2.netIp4 w n)
      (max 1 (s2.rf cfg Fld.SACN_TX_CFG_TTL)) (s2.rf cfg Fld.SACN_TX_CFG_DSCP) b)
  else s2

/-- The instant from which the packet of a frame may leave on a network port (R318). -/
def FrameAcct.paced (f : FrameAcct) (n start : Nat) : Nat := max start ((f.pace.find? (fun e => e.1 = n)).map (·.2) |>.getD 0)

/-- The packet of a universe leaves on each of its ports, or misses E on one (R318). -/
def releaseUniv (w : Twin) (f : FrameAcct) (u start stop : Nat) (pkt : List Byte) (s : State) : State :=
  (s.outPorts w u).foldl (fun x n =>
    match x.frame w f.k with
    | none => x
    | some a =>
      let at_ := a.paced n start
      if stop < at_ then
        raiseEmit w f.k (s.dropAt f start) (markStale w f.k (128 + u) (s.dropAt f start) (x.bump (Reg.SACN_TX_CNT w) Fld.SACN_TX_CNT_LATE))
      else
        let sync := x.outE w u 8 2
        let y := x.modFrame w f.k (fun a => { a with
          pace := (n, at_ + x.sacnGap w u) :: a.pace.filter (fun e => e.1 ≠ n),
          syncs := if sync = 0 ∨ a.syncs.contains (n, sync, x.outV6 w u) then a.syncs else a.syncs ++ [(n, sync, x.outV6 w u)] })
        sendNet w n (x.outV6 w u) (x.outE w u 0 2) pkt (y.bump (Reg.SACN_TX_PKTS w) Fld.SACN_TX_PKTS_COUNT)) s

/-- The packet of a universe can leave by E on one of its ports at least (R66). -/
def State.univFits (s : State) (w : Twin) (f : FrameAcct) (u start stop : Nat) : Bool :=
  (s.outPorts w u).isEmpty || (s.outPorts w u).any (fun n => decide ((((s.frame w f.k).getD f).paced n start) ≤ stop))

/-- One output universe of DEST 1 of one computing twin at S of frame `f` (R66, R316 to R321). A packet that misses E on every port is not
sent: the sequence number and the last slice stay. A dropped universe that has never been sent goes out with zero slots: DESIGN CHOICE
(notes/assumptions/40.md). -/
def univEmit (w : Twin) (f : FrameAcct) (u start : Nat) (s : State) : State :=
  let key := 128 + u
  let stop := s.latchAt f - 20000
  let ch := s.complete w f key && s.changed w f key
  let s0 := settleKey w f.k key ch s
  let o := s.sacnOut w u
  if s.cidZero w then markStale w f.k key (s.dropAt f start) s0
  else
    let keep := s.rf (Reg.SACN_TX_CFG w) Fld.SACN_TX_CFG_KEEP
    let (num, den) := f.tick.period
    let due : Bool := decide (keep * 10000000 * den ≤ (o.since + 1) * num)
    let fits := s.univFits w f u start stop
    let send := fun (b : List Byte) (x : State) =>
      let y := x.setSacnOut w u (if fits then { seq := (o.seq + 1) % 256, run := min 3 (o.run + 1), since := 0 }
        else { o with run := 0, since := o.since + 1 })
      releaseUniv w f u start stop (x.sacnPacket w u o.seq b) y
    match s.sliceOf w f.k key, s.complete w f key with
    | some x, true =>
      if keep = 0 ∨ ch ∨ o.run < 3 ∨ due then (if fits then recordEmission w x (send x.bytes s0) else send x.bytes s0)
      else s0.setSacnOut w u { o with run := o.run, since := o.since + 1 }
    | _, _ =>
      let last := s.lastSlice w key
      send (if last = [] then List.replicate (s.outSlots w u) 0 else last) (markStale w f.k key (s.dropAt f start) s0)

/-- The synchronisation packets of frame `f` (R320). -/
def sendSyncs (w : Twin) (f : FrameAcct) (s : State) : State :=
  let addrs := (f.syncs.map (fun e => e.2.1)).dedup
  addrs.foldl (fun x a =>
    let seq := Smap.get 0 (x.tw w).syncSeq a
    let y := x.modTw w (fun t => { t with syncSeq := Smap.set 0 t.syncSeq a ((seq + 1) % 256) })
    (f.syncs.filter (fun e => decide (e.2.1 = a))).foldl (fun y e =>
      sendNet w e.1 e.2.2 a (y.sacnSync w a seq) (y.bump (Reg.SACN_TX_CNT w) Fld.SACN_TX_CNT_SYNC)) y) s

/-! ### RDM (R303 to R310) -/

def State.rdmUid (s : State) (w : Twin) : Nat :=
  s.rf (Reg.RDM_UID_HI w) Fld.RDM_UID_HI_MANUF * 2 ^ 32 + (s.reg (Reg.RDM_UID_LO w)).toNat

/-- The RDM controller of the port is on but for its UID (R303). -/
def State.rdmPort (s : State) (w : Twin) (p : Nat) : Bool :=
  decide (s.personality w p = 2) && s.rdmOn w p && s.rb (Reg.RDM_CFG w) Fld.RDM_CFG_EN
def State.rdmRuns (s : State) (w : Twin) (p : Nat) : Bool := s.rdmPort w p && decide (s.rdmUid w ≠ 0)

/-- The address of byte `i` of RDM buffer `b`. -/
def rdmBuf (w : Twin) (b i : Nat) : Nat := w.base + 0x88000 + b * 0x200 + i

/-- STRD_WSTAT shows the queue, discovery and the table. -/
def showDmx (w : Twin) (p : Nat) (s : State) : State :=
  let x := s.dmx w p
  ((s.sf (Reg.STRD_WSTAT w p) Fld.STRD_WSTAT_QUEUED x.queue.length).sf (Reg.STRD_WSTAT w p) Fld.STRD_WSTAT_UIDS (min 512 x.uids.length)).sb
    (Reg.STRD_WSTAT w p) Fld.STRD_WSTAT_DISCOVERING x.disc.isSome

/-- A buffer is held by a queued or running request. -/
def State.bufHeld (s : State) (w : Twin) (b : Nat) : Bool :=
  (s.tw w).dmx.any (fun e => e.2.entering.any (fun r => r.buf = b) || e.2.queue.any (fun r => r.buf = b) ||
    (match e.2.run with | some r => decide (r.job = .request ⟨b, (match r.job with | .request q => q.tag | .step => 0)⟩) | none => false))

/-- Why a submission is refused (RDM_STAT.REASON): 0 for none. -/
def State.rdmReason (s : State) (w : Twin) (p b : Nat) : Nat :=
  let n := s.rdLE (rdmBuf w b 0) 2
  if !s.rdmPort w p then 1
  else if 16 ≤ (s.dmx w p).queue.length + (s.dmx w p).entering.length then 2
  else if 48 ≤ b ∨ s.bufHeld w b then 3
  else if (s.rdB (rdmBuf w b 22)).toNat = 0x10 ∨ (s.rdB (rdmBuf w b 22)).toNat = 0x11 then 4
  else if s.rdmUid w = 0 then 5
  else if n < 24 ∨ 255 < n then 6
  else 0

/-- A write of RDM_SUBMIT in one twin (R305): the request enters the queue at the next tick. -/
def submitRdm (v : Word) (w : Twin) (s : State) : State :=
  let p := getFld v Fld.RDM_SUBMIT_PORT
  let b := getFld v Fld.RDM_SUBMIT_BUF
  let reason := s.rdmReason w p b
  if reason = 0 then s.setDmx w p { s.dmx w p with entering := (s.dmx w p).entering ++ [⟨b, getFld v Fld.RDM_SUBMIT_TAG⟩] }
  else
    let s1 := (s.sf (Reg.RDM_STAT w) Fld.RDM_STAT_REASON reason).sb (Reg.RDM_STAT w) Fld.RDM_STAT_REFUSED true
    s1.raiseIf w (Reg.STRD_WEVT_CTL w p) Fld.STRD_WEVT_CTL_REF_EN 66 p

/-- RDM_SUBMIT (R305). -/
def execRdmSubmit (t : Nat) (via : Via) (v : Word) (s : State) : Host.Outcome State Fault Refusal :=
  .next ((s.beginAt t).deliver via (submitRdm v))

/-- Submitted requests enter the queue at a tick (R305). -/
def rdmTick (w : Twin) (p : Nat) (s : State) : State :=
  let x := s.dmx w p
  if x.entering.isEmpty then s else showDmx w p (s.setDmx w p { x with entering := [], queue := x.queue ++ x.entering })

/-- The instant at which the gap closes: the break of the port's next scheduled packet (R304). -/
def State.nextBreak (s : State) (w : Twin) (p : Nat) : Nat :=
  let div := s.dmxDiv w p
  let c := s.tg.cur
  let (n, d) := c.period
  let m := c.k / div * div
  let stop := fun (frame : Nat) => c.raw + (frame + div - c.k) * n / d + c.lofs - 20000
  let cs := ((if div ≤ m then [stop (m - div)] else []) ++ [stop m, stop (m + div)]).map (fun x => x - s.tDmx w p)
  (cs.find? (fun b => s.now < b)).getD (stop (m + div))

/-- The slots of a request from the start code to the last parameter byte, with the controller's UID as its source, and the checksum of
E1.20. -/
def rdmFrame (uid : Nat) (slots : List Byte) : List Byte :=
  let b := overwrite slots 9 (beBytes 6 uid)
  b ++ beBytes 2 ((b.map (·.toNat)).sum % 65536)

/-- A discovery request (E1.20): destination, parameter and data. -/
def discSlots (dest pid : Nat) (data : List Byte) : List Byte :=
  [0xCC, 1, BitVec.ofNat 8 (24 + data.length)] ++ beBytes 6 dest ++ beBytes 6 0 ++ [0, 1, 0, 0, 0, 0x10] ++ beBytes 2 pid ++
    [BitVec.ofNat 8 data.length] ++ data

def allUids : Nat := 2 ^ 48 - 1

/-- The next step of discovery: its slots, and whether it expects no response. -/
def Disc.step (x : Disc) : Option (List Byte × Bool) :=
  if !x.unmuted then some (discSlots allUids 3 [], true)
  else match x.mute with
    | some u => some (discSlots u 2 [], false)
    | none => match x.ranges with
      | (lo, hi) :: _ => some (discSlots allUids 1 (beBytes 6 lo ++ beBytes 6 hi), false)
      | [] => none

/-- Discovery starts, or merges with one that runs (R309). -/
def startDisc (p : Nat) (w : Twin) (s : State) : State :=
  if !(decide (s.personality w p = 2) && s.rdmOn w p) then s
  else
    let x := s.dmx w p
    match x.disc with
    | some _ => s
    | none =>
      showDmx w p ((s.setDmx w p { x with disc := some ⟨false, [(0, allUids - 1)], none⟩, uids := [] }).sb (Reg.STRD_WSTAT w p)
        Fld.STRD_WSTAT_DISC_OVF false)

/-- RDM_DISC (R309). -/
def execRdmDisc (t : Nat) (via : Via) (p : Fin 128) (s : State) : Host.Outcome State Fault Refusal :=
  .next ((s.beginAt t).deliver via (startDisc p.val))

/-- RDM_DISC_PERIOD (R309): DISC_PERIOD s of TB3 after the last start; none with a period of 0. -/
def execRdmDiscPeriod (w : Twin) (p : Fin 128) (s : State) : Host.Outcome State Fault Refusal :=
  let per := s.param w p.val 8 2
  if s.personality w p.val = 2 ∧ per ≠ 0 then
    let x := s.dmx w p.val
    let due := x.since + per * 1000000000
    let s1 := s.beginAt (s.tb3.rawAt s.now due)
    .next (startDisc p.val w (s1.setDmx w p.val { x with since := due }))
  else .next s.begin

/-- T_req in ns for `n` slots (R303, R304). -/
def State.tReq (s : State) (w : Twin) (p n : Nat) : Nat :=
  (max (s.param w p 0 2) 176 + max 12 (min 88 (s.param w p 2 2)) + 44 * n) * 1000

/-- The item of R307, and the buffer is free. -/
def rdmItem (w : Twin) (p : Nat) (r : RdmReq) (status len stamp : Nat) (s : State) : State :=
  let q := s.rf (Reg.RDM_CFG w) Fld.RDM_CFG_QUEUE
  if !s.qUsed w q || decide (s.qWords w q < 2) then s
  else
    let body := leBytes 1 p ++ leBytes 1 r.buf ++ leBytes 1 status ++ [0] ++ leBytes 2 r.tag ++ leBytes 2 len ++ leBytes 5 stamp ++ [0, 0, 0]
    (pushCounted w q reqRdm false s.tickNo
      { typ := 2, prio := s.qPrio w q, more := false, dl := false, flowed := false, flow := 0, seq := 0, tick := 0, body := body } s).2

/-- The form of an RDM request (R303). -/
def State.rdmForm (s : State) (w : Twin) (p : Nat) : WireForm := .dmx (max (s.param w p 0 2) 176) (max 12 (min 88 (s.param w p 2 2))) 0

/-- DE of a DMX port is low (R296, R302): its controller listens for a response. -/
def State.listens (s : State) (w : Twin) (p : Nat) : Bool :=
  !s.portHeld && decide (s.personality w p = 2) &&
    (match (s.dmx w p).hear with | some h => decide (h.1 ≤ s.now ∧ s.now < h.2) | none => false)

/-- The end of a transaction at the raw instant `at_`, where DE rises (R296). -/
def endRdm (w : Twin) (p at_ : Nat) (s : State) : State :=
  let x := s.dmx w p
  showDmx w p (s.setDmx w p { x with run := none, quiet := max x.quiet at_, hear := x.hear.map (fun h => (h.1, at_)) })

/-- A transaction starts now if the gap holds it (R304): `slots` from the start code on. -/
def runRdm (w : Twin) (p : Nat) (job : RdmJob) (slots : List Byte) (broadcast : Bool) (s : State) : State :=
  let frame := rdmFrame (s.rdmUid w) slots
  let ended := s.now + s.tReq w p frame.length
  let s1 := if s.active = some w ∧ !s.portHeld then s.emit (.wire p s.now (s.rdmForm w p) frame) else s
  s1.setDmx w p { s1.dmx w p with run := some ⟨job, ended, broadcast, false⟩, hear := if broadcast then none else some (ended, ended + 2800000) }

/-- The gap of R304 is open and holds a request of `n` slots with its response. -/
def State.rdmFits (s : State) (w : Twin) (p n resp : Nat) : Bool :=
  decide ((s.dmx w p).quiet + 176000 ≤ s.now) && decide (s.now + s.tReq w p n + 2800000 + 440000 + 44000 * resp + 176000 ≤ s.nextBreak w p)

/-- A discovery step starts. -/
def startStep (w : Twin) (p : Nat) (s : State) : State :=
  let x := s.dmx w p
  match x.disc.bind Disc.step with
  | none => s
  | some (slots, bc) =>
    if s.rdmFits w p (slots.length + 2) (max 24 (s.param w p 6 2)) then
      let s1 := runRdm w p .step slots bc (s.setDmx w p { x with stepTurn := false })
      if bc then
        let y := s1.dmx w p
        endRdm w p (s1.now + s1.tReq w p (slots.length + 2)) (s1.setDmx w p { y with disc := y.disc.map (fun d => { d with unmuted := true }) })
      else s1
    else s

/-- A queued request starts; a broadcast is done when it is sent (R306). -/
def startReq (w : Twin) (p : Nat) (s : State) : State :=
  let x := s.dmx w p
  match x.queue with
  | [] => s
  | r :: rest =>
    let n := s.rdLE (rdmBuf w r.buf 0) 2
    let slots := s.rdBytes (rdmBuf w r.buf 2) n
    if s.rdmFits w p (n + 2) (s.param w p 6 2) then
      let bc : Bool := decide (beAt slots 5 4 = 0xFFFFFFFF)
      let s1 := runRdm w p (.request r) slots bc (s.setDmx w p { x with queue := rest, stepTurn := x.disc.isSome })
      let s2 := showDmx w p (s1.bump (Reg.STRD_RDM_OK w p) Fld.STRD_RDM_OK_SENT)
      if bc then
        let e := s2.now + s2.tReq w p (n + 2)
        endRdm w p e (rdmItem w p r 4 0 (s2.stampRaw e) s2)
      else s2
    else s

/-- RDM_REQUEST_START (R304): nothing while the port is held, a transaction runs, or the gap does not hold it. -/
def execRdmRequestStart (t : Nat) (w : Twin) (p : Fin 128) (s : State) : Host.Outcome State Fault Refusal :=
  let s1 := s.beginAt t
  let x := s1.dmx w p.val
  if !s1.rdmRuns w p.val || s1.portHeld || x.run.isSome || !s1.tg.ran then .next s1
  else if (x.disc.bind Disc.step).isSome && (x.stepTurn || x.queue.isEmpty) then .next (startStep w p.val s1)
  else .next (startReq w p.val s1)

/-- The UID in a response to DISC_UNIQUE_BRANCH (E1.20); none when its preamble or checksum is wrong. -/
def discUid (b : List Byte) : Option Nat :=
  let body := (b.dropWhile (fun x => x = 0xFE)).drop 1
  let pair := fun (i : Nat) => (byteAt body (2 * i)) &&& (byteAt body (2 * i + 1))
  let sum := ((List.range 12).map (byteAt body)).sum % 65536
  if body.length = 16 ∧ sum = pair 6 * 256 + pair 7 then some ((List.range 6).foldl (fun n i => n * 256 + pair i) 0) else none

/-- What a discovery step learns: `resp` is none for silence, some none for a collision or a bad response. -/
def Disc.learn (x : Disc) (uids : List Nat) (resp : Option (Option Nat)) : Disc × List Nat :=
  let split : List (Nat × Nat) := match x.ranges with
    | (lo, hi) :: rest => if lo < hi then (lo, (lo + hi) / 2) :: ((lo + hi) / 2 + 1, hi) :: rest else rest
    | [] => []
  match x.mute, resp with
  | some u, some _ => ({ x with mute := none }, if uids.contains u then uids else uids ++ [u])
  | some _, none => ({ x with mute := none, ranges := split }, uids)
  | none, none => ({ x with ranges := x.ranges.drop 1 }, uids)
  | none, some (some u) => if uids.contains u then ({ x with ranges := split }, uids) else ({ x with mute := some u }, uids)
  | none, some none => ({ x with ranges := split }, uids)

/-- Ends a discovery step. The table keeps 512 UIDs (R309). -/
def endStep (w : Twin) (p at_ : Nat) (resp : Option (Option Nat)) (s : State) : State :=
  let x := s.dmx w p
  match x.disc with
  | none => endRdm w p at_ s
  | some d =>
    let (d1, us) := d.learn x.uids resp
    let s1 := if 512 < us.length then s.sb (Reg.STRD_WSTAT w p) Fld.STRD_WSTAT_DISC_OVF true else s
    endRdm w p at_ (s1.setDmx w p { x with disc := some d1, uids := us.take 512 })

/-- A response that begins now and ends after the break of a scheduled packet is cut (R308). -/
def cutRdm (w : Twin) (p : Nat) (r : RdmRun) (at_ : Nat) (s : State) : State :=
  let s1 := (s.bump (Reg.STRD_RDM_CNT w p) Fld.STRD_RDM_CNT_CUT).raiseIf w (Reg.STRD_WEVT_CTL w p) Fld.STRD_WEVT_CTL_CUT_EN 65 p
  match r.job with
  | .request q => endRdm w p at_ (if r.discard then s1 else rdmItem w p q 3 0 s1.stamp s1)
  | .step => endRdm w p at_ s1

/-- A response to the transaction on the line, whose first slot begins now (R306, R307). Before the end of the request DE is high, and RX is
ignored (R296). DE stays low until the response ends. -/
def respondRdm (p : Nat) (good : Bool) (b : List Byte) (w : Twin) (s : State) : State :=
  match (s.dmx w p).run with
  | none => s
  | some r =>
    let stop := s.now + 44000 * b.length
    if r.broadcast ∨ s.now < r.ended ∨ r.ended + 2800000 < s.now then s
    else if s.nextBreak w p < stop then cutRdm w p r (s.nextBreak w p) s
    else
      match r.job with
      | .step => endStep w p stop (some (match (s.dmx w p).disc.bind (·.mute) with
          | some u => if good then some u else none
          | none => if good then discUid b else none)) s
      | .request q =>
        let bad : Bool := !good || decide (510 < b.length)
        let keep := b.take 510
        if r.discard then endRdm w p stop s
        else
          let s1 := (s.wrBytes (rdmBuf w q.buf 0) (leBytes 2 b.length)).wrBytes (rdmBuf w q.buf 2) keep
          let s2 := if bad then s1.bump (Reg.STRD_RDM_CNT w p) Fld.STRD_RDM_CNT_BAD else s1.bump (Reg.STRD_RDM_OK w p) Fld.STRD_RDM_OK_ANSWERED
          endRdm w p stop (rdmItem w p q (if bad then 2 else 0) b.length s2.stamp s2)

/-- RDM_RESPONSE (R306): the slots of a response whose first slot begins at `t`; `good` says that its framing and checksum are. -/
def execRdmResponse (t : Nat) (p : Fin 128) (good : Bool) (bytes : List Byte) (s : State) : Host.Outcome State Fault Refusal :=
  .next ((s.beginAt t).eachUp (respondRdm p.val good bytes))

/-- No response starts within 2,800 µs (R306). -/
def silentRdm (p : Nat) (w : Twin) (s : State) : State :=
  match (s.dmx w p).run with
  | none => s
  | some r =>
    let at_ := r.ended + 2800000
    let s1 := s.at at_
    match r.job with
    | .step => endStep w p at_ none s1
    | .request q =>
      if r.discard then endRdm w p at_ s1
      else endRdm w p at_ (rdmItem w p q 1 0 (s1.stampRaw at_) (s1.bump (Reg.STRD_RDM_CNT w p) Fld.STRD_RDM_CNT_TIMEOUT))

/-- RDM_RESPONSE_TIMEOUT (R306). -/
def execRdmResponseTimeout (p : Fin 128) (s : State) : Host.Outcome State Fault Refusal :=
  .next (s.begin.eachUp (silentRdm p.val))

/-- RDM_DISC_DONE (R309): nothing while a step is left. -/
def execRdmDiscDone (t : Nat) (w : Twin) (p : Fin 128) (s : State) : Host.Outcome State Fault Refusal :=
  let s1 := s.beginAt t
  let x := s1.dmx w p.val
  match x.disc with
  | some d =>
    if d.step.isNone ∧ x.run.isNone then
      .next ((showDmx w p.val (s1.setDmx w p.val { x with disc := none })).raiseIf w (Reg.STRD_WEVT_CTL w p.val)
        Fld.STRD_WEVT_CTL_DISC_EN 64 p.val)
    else .next s1
  | none => .next s1

/-- A context reset of the RDM controllers (R310). -/
def rdmContextReset (w : Twin) (s : State) : State :=
  s.modTw w (fun t => { t with dmx := t.dmx.map (fun e => (e.1, { e.2 with
    entering := [], queue := [], run := e.2.run.map (fun r => { r with discard := true }) })) })

/-! ### The balls of a strand port (R39, R116, R295, R528, R538) -/

/-- The twin whose image says what the balls of the strand ports are. -/
def State.ballTwin (s : State) : Twin := s.active.getD (if s.roleOf .a = .off then .b else .a)

/-- The personality that a port's balls have: from a reset until the first latch after it, the one before the reset (R39). -/
def State.ballPers (s : State) (p : Nat) : Nat :=
  let now := s.personality s.ballTwin p
  if !s.dev.resetHold then now
  else if s.dev.wasProren.contains p then 1
  else ((s.dev.wasWire.find? (fun e => e.1 = p)).map (·.2)).getD now

/-- What the balls of a strand port do: downstream P and N, upstream P and N (Table 11-1). -/
def State.balls (s : State) (p : Nat) : List BallFn :=
  let all_ := fun (f : BallFn) => [f, f, f, f]
  if s.mainOff then all_ .hiz
  else if s.dev.testEn || decide (s.dev.tap ≠ 0) || s.dev.turning.any (fun e => decide (e.1 = p ∧ s.now < e.2)) then all_ .idle
  else match s.ballPers p with
    | 0 => if s.dev.gen.any (fun e => decide (e.1 = p)) then [.down, .down, .up, .up] else all_ .idle
    | 1 => [.down, .down, .up, .up]
    | 2 => [.tx, .de (!s.listens s.ballTwin p), .rx, .unused]
    | 3 => [.data, if bitAt (s.param s.ballTwin p 8 1) 2 then .notData else .low, .unused, .unused]
    | _ => [.data, .clk, .unused, .unused]

/-- The level of a ball between two outputs (R39, R298, R312, R313): mark on TX, low on DATA after its inversion and on CLK. None for a ball that
the part does not drive to a level. -/
def BallFn.rest : BallFn → Option Bool
  | .tx => some true
  | .de high => some high
  | .data => some false
  | .notData => some true
  | .clk => some false
  | .low => some false
  | _ => none

/-- A request on the line that a slip cuts ends with STATUS 3 (R360). -/
def slipRdm (w : Twin) (p : Nat) (s : State) : State :=
  match (s.dmx w p).run with
  | some r => (match r.job with
    | .request q => endRdm w p s.now (if r.discard then s else rdmItem w p q 3 0 s.stamp s)
    | .step => endRdm w p s.now s)
  | none => s

end Sys2Proof.Machine
end

