-- ==== Sys2Proof/Machine/Emit.lean ====
section
/-!
DEFINITION. The emission of a frame's slices at S (R63, R64), the Soredium latch and its deferral (R275, R358 to R361), and the frame
record (R72).
-/
namespace Sys2Proof.Machine

/-! ### EMISSION_START -/

/-- The streams that carry a slice: strand ports by number, network ports as 128 + n. -/
def State.streamsOf (s : State) (w : Twin) (key : Nat) : List Nat :=
  if key < 128 then [key]
  else if s.outDest w (key - 128) = 2 then [s.outE w (key - 128) 3 1]
  else (s.outPorts w (key - 128)).map (128 + ·)

/-- S of a slice in frame `f` (R63), with the shift that a fail-over left on its streams (R361): none before the slice is signalled
ready. -/
def State.emitAt (s : State) (w : Twin) (f : FrameAcct) (key : Nat) : Option Nat :=
  let turn := if key < 128 then s.turn w key else 0
  let rest := (f.rest.filter (fun e => (s.streamsOf w key).contains e.1)).foldl (fun m e => max m e.2) 0
  (s.readyAt f key w).map (fun r => max r (f.before + max turn rest))

/-- Universes of lower number that share a network port leave first (R318). -/
def State.univFirst (s : State) (w : Twin) (f : FrameAcct) (key : Nat) : Bool :=
  if key < 128 ∨ s.outDest w (key - 128) ≠ 1 then true
  else (s.outs w).all (fun u => decide (key ≤ 128 + u) || decide (s.outDest w u ≠ 1) || f.settled.contains (128 + u) ||
    !(s.outPorts w u).any (fun n => (s.outPorts w (key - 128)).contains n))

/-- Replaces entries of a twin's image. -/
def putEntries (w : Twin) (l : List ((Nat × Nat × Nat) × List Byte)) (s : State) : State :=
  l.foldl (fun x e => x.wrBytes (entryAddr w e.1.1 e.1.2.1 e.1.2.2) e.2) s

/-- The bytes of entries of a twin's image. -/
def State.getEntries (s : State) (w : Twin) (l : List (Nat × Nat × Nat)) : List ((Nat × Nat × Nat) × List Byte) :=
  l.map (fun e => (e, s.entBytes w e.1 e.2.1 e.2.2 0 (entrySize e.1 e.2.1)))

/-- Work for frame `k` goes on under the entries that a graft has replaced, when `k` comes before its tick (Table 4-23, R217). -/
def onOldTables (w : Twin) (k : Nat) (f : State → State) (s : State) : State :=
  let old := (s.tw w).oldEnts
  if old = [] ∨ k = (s.tw w).oldTick then f s
  else putEntries w (s.getEntries w (old.map (·.1))) (f (putEntries w old s))

/-- The state with the tables that frame `k` was computed with (R217). -/
def State.asOf (s : State) (w : Twin) (k : Nat) : State :=
  let old := (s.tw w).oldEnts
  if old = [] ∨ k = (s.tw w).oldTick then s else putEntries w old s

/-- A port whose personality changes between 1 and 2 to 4 is at electrical idle for 10 µs from the latch (R538). -/
def turnPort (p a b : Nat) (s : State) : State :=
  if (a = 1 ∧ 2 ≤ b) ∨ (2 ≤ a ∧ b = 1) then
    { s with dev := { s.dev with turning := s.dev.turning.filter (fun e => decide (e.1 ≠ p)) ++ [(p, s.now + 10000)] } }
  else s

/-- A port's personality differs from `a`, the one it had (R280): what it was stops, and what it is starts afresh and in full. -/
def portSwitched (w : Twin) (p a : Nat) (s : State) : State :=
  if s.personality w p = a then s
  else
    let s1 := if a = 1 then setPrnState w p 0 (s.setStrand w p Strand.reset) else s
    let s2 := if a = 2 then showDmx w p (s1.setDmx w p DmxPort.reset) else s1
    let s3 := turnPort p a (s.personality w p) (s2.modTw w (fun t => { t with emitted := t.emitted.filter (fun e => e.1 ≠ p) }))
    { s3 with fullDue := s3.fullDue ||| BitVec.ofNat 128 (2 ^ p) }

/-- A frame of the twin is still to be latched. -/
def State.latchOpen (s : State) (w : Twin) : Bool := (s.tw w).frames.any (fun f => f.latchRaw.isNone)

/-- The entries that a graft replaced are done with: the ports whose personality they changed start in the new one. -/
def dropOld (w : Twin) (s : State) : State :=
  let old := (s.tw w).oldEnts
  let s1 := s.modTw w (fun t => { t with oldEnts := [] })
  old.foldl (fun x e => if e.1.1 = 6 then portSwitched w e.1.2.2 (byteAt e.2 0) x else x) s1

/-- One slice of frame `k` in one computing twin at S. Nothing reaches a strand port in HOLD or SAFE (R69). -/
def emitSlice (k key start : Nat) (w : Twin) (s : State) : State :=
  match s.frame w k with
  | none => s
  | some f =>
    match s.slicePort w key with
    | none => univEmit w f (key - 128) start s
    | some p =>
      if s.portHeld then
        (settleKey w k key (s.complete w f key && s.changed w f key) s).modFrame w k (fun a => { a with holdPorts := a.holdPorts ++ [p] })
      else match s.personality w p with
        | 0 => settleKey w k key false s
        | 1 => prnEmit w f p start (s.latchAt f - 20000) s
        | _ => wireEmit w f p key start s

/-- One slice of frame `k` in one computing twin, under the tables of that frame. -/
def emitOne (k key start : Nat) (w : Twin) (s : State) : State := onOldTables w k (emitSlice k key start w) s

/-- One slice of frame `k` in both twins; a forced full frame has then been used (R280). -/
def emitKey (k key start : Nat) (s : State) : State :=
  let s1 := s.each s.computes (emitOne k key start)
  if key < 128 then { s1 with fullDue := s1.fullDue &&& ~~~BitVec.ofNat 128 (2 ^ key) } else s1

/-- The twin whose accounts decide: the ACTIVE one, or the first that computes. -/
def State.ledger (s : State) : Option Twin :=
  s.active.orElse (fun _ => twins.find? s.computes)

/-- The oldest frame in which a slice waits for its emission and may leave, with its S. -/
def State.emitDue (s : State) (key : Nat) : Option (Nat × Nat) :=
  s.ledger.bind (fun w => (s.tw w).frames.findSome? (fun f =>
    let v := s.asOf w f.k
    if f.settled.contains key || !v.hasSlice w key || !v.univFirst w f key then none
    else (v.emitAt w f key).map (fun x => (f.k, x))))

/-- Every slice of frame `k` that is still to be decided, in ascending order: after the deadline each has its S. -/
def settleFrame (k : Nat) (s : State) : State :=
  match s.ledger with
  | none => s
  | some w =>
    ((s.asOf w k).sliceKeys w).foldl (fun x key =>
      match x.frame w k with
      | some f => if f.settled.contains key then x else
          (match (x.asOf w k).emitAt w f key with
            | some start => emitKey k key start x
            | none => x)
      | none => x) s

/-! ### The latch -/

/-- The frame whose latch is due: its tick interval has ended, and no latch has fallen since (R51). -/
def State.latchDue (s : State) : Option Nat :=
  if s.tg.ran && decide ((s.tg.latchK + 1) % 2 ^ 32 = s.tg.cur.k) then some s.tg.latchK else none

/-- The raw instant L of that latch (R51): tick k+1 + LATCH_OFS of frame k. -/
def State.latchInstant (s : State) : Nat :=
  (s.tb s.tg.base).rawAt s.tg.cur.raw (s.tickCount s.tg.cur + s.tg.prev.lofs)

/-- The last ball-side block boundary at or before an instant: blocks are counted from each tick, and leave t_block later (R345). -/
def State.blockBoundary (s : State) (x : Nat) : Nat :=
  let base := (if s.tg.cur.raw + s.tBlock ≤ x then s.tg.cur.raw else s.tg.prev.raw) + s.tBlock
  base + (x - base) / s.tBlock * s.tBlock

/-- Shifts that bear on the latch at L (R359): stream and D_s, of streams cut at or before B_L; those of a pending arbitration follow from
its decision. -/
def State.latchShifts (s : State) (bl : Nat) : List (Nat × Nat) :=
  let past := (s.peri.shifts.filter (fun x => decide (x.2.2 ≤ bl))).map (fun x => (x.1, x.2.1))
  match s.peri.arb with
  | some a => past ++ (a.held.filter (fun h => decide (h.cut ≤ bl))).map (fun h => (h.stream, a.tdec + 2000 - h.cut + h.back))
  | none => past

/-- A stream slips frame `k` (R360): counted once, E3 once in a frame, and a request of R307 on the line ends. -/
def slipStream (k p : Nat) (s : State) : State :=
  if s.peri.slips.contains p then s
  else
    let s1 := { s with peri := { s.peri with slips := s.peri.slips ++ [p] } }.bump Reg.PERI_SLIP Fld.PERI_SLIP_SLIPS
    let s2 := s1.each s1.computes (fun w x => slipRdm w p (markSlip w k p x))
    if s2.peri.slipRaised then s2 else { s2 with peri := { s2.peri with slipRaised := true } }.raiseTh 3 0

/-- What one twin's streams do at the latch `at_` of frame `k` (R275, R283, R320). -/
def latchTwin (k at_ : Nat) (deferred : Bool) (w : Twin) (s : State) : State :=
  match s.frame w k with
  | none => s
  | some f =>
    let ports := (portsWith s w 1).filter (fun p => !s.portHeld && s.hasSlice w p)
    let s1 := ports.foldl (fun x p => prnLatch w f p at_ x) s
    let s2 := sendSyncs w f s1
    if deferred then s2 else ports.foldl (fun x p => prnPoll w p k at_ x) s2

/-- The port release that waits for a latch (R458, R463), and the end of the hold after a reset (R39). -/
def latchRelease (k : Nat) (s : State) : State :=
  let s1 : State := { s with dev := { s.dev with resetHold := false } }
  let s2 := match s1.pwr.release with
    | some j => if (k + 1) % 2 ^ 32 = j then { s1 with pwr := { s1.pwr with ports := 0, release := none } } else s1
    | none => s1
  leaveHold s s2

/-- The Soredium latch that is due (R275, R359 to R361). Slices that have not been decided are settled first. -/
def latch (s : State) : State :=
  match s.latchDue with
  | none => s
  | some k =>
    let s0 := settleFrame k s
    let l := s0.latchInstant
    let bl := s0.blockBoundary (l - 19000)
    let sh := s0.latchShifts bl
    let pending : Bool := match s0.peri.arb with | some a => decide (a.tm ≤ bl) | none => false
    let deferred : Bool := pending || !sh.isEmpty
    let worst := sh.foldl (fun m x => max m x.2) 0
    let d := if deferred then min s0.grace worst else 0
    let at_ := l + d
    let ws := match s0.active with
      | some w => [w]
      | none => twins
    let late := (sh.filter (fun x => decide (x.1 < 128) && decide (s0.grace < x.2) && ws.any (fun w => decide ((s0.asOf w k).personality w x.1 = 1)))).map (·.1)
    let s1 := late.foldl (fun x p => slipStream k p x) (s0.at at_)
    let us := ceilDiv d 1000
    let stamp := stampOf s1.tg.base ((s1.tb s1.tg.base).ns at_)
    let s2 := if deferred then (s1.peak Reg.PERI_SLIP Fld.PERI_SLIP_DEFER_MAX us) else s1
    let s3 := (s2.sb Reg.PERI_STAT Fld.PERI_STAT_DEFERRED deferred).wr64 Reg.TGEN_LATCH_TS stamp
    let s4 := s3.each (fun _ => true) (fun w x => x.modFrame w k (fun a => { a with
      latchDefer := us, latchStamp := stamp, latchRaw := some at_, flags := a.flags ||| (if deferred then 128 else 0) }))
    let s5 := s4.each (fun _ => true) (fun w x => x.modFrame w ((k + 1) % 2 ^ 32) (fun a => { a with rest := sh }))
    let s6 := s5.each s5.computes (fun w x => onOldTables w k (latchTwin k at_ deferred w) x)
    let s6 := s6.each (fun _ => true) dropOld
    inPlaceLatch (latchRelease k { s6 with tg := { s6.tg with latchK := (k + 1) % 2 ^ 32 },
                                           peri := { s6.peri with slips := [], slipRaised := false, lagging := s6.peri.lagging.filter (fun x => decide (x.2.1 ≠ k)),
                                                                  shifts := s6.peri.shifts.filter (fun x => !decide (x.2.2 ≤ bl)) } })

/-- SOREDIUM_LATCH (R275): nothing while no latch is due. -/
def execSorediumLatch (s : State) : Host.Outcome State Fault Refusal := .next (latch s.begin)

/-- EMISSION_START (R64): nothing while the slice of no frame is ready. The latch of an earlier frame comes first. -/
def execEmissionStart (key : SliceKey) (s : State) : Host.Outcome State Fault Refusal :=
  let n := sliceKeyNat key
  let s0 := s.begin
  match s0.emitDue n with
  | none => .next s0
  | some (k, start) =>
    let s1 := match s0.latchDue with
      | some j => if j ≠ k then latch s0 else s0
      | none => s0
    .next (emitKey k n start (s1.at start))

/-! ### FRAME_RECORD (R72, R73) -/

/-- Flags of the interval of tick `k`, from the two newest ticks. -/
def State.intervalFlags (s : State) (f : FrameAcct) : Nat :=
  if s.tg.cur.k = f.k then s.tg.cur.flags else if s.tg.prev.k = f.k then s.tg.prev.flags else f.tick.flags

/-- µs from the frame's tick to the last of some instants, rounded up. -/
def FrameAcct.since (f : FrameAcct) (l : List Nat) : Nat := min 0xFFFE (ceilDiv (l.foldl max f.tick.raw - f.tick.raw) 1000)

/-- COMPUTE_DONE of a frame in µs. -/
def FrameAcct.computeDone (f : FrameAcct) : Nat := if f.dropped then 0xFFFF else f.since (f.slices.map (·.done))

/-- MAP_TIME.MAP_DONE of a frame in µs: the last slice that holds map entries. -/
def FrameAcct.mapDone (f : FrameAcct) : Nat :=
  if f.mapDrop then 0xFFFF else f.since ((f.slices.filter (fun x => !x.drives.isEmpty)).map (·.done))

/-- A map of bits. -/
def bitsOf (l : List Nat) : Nat := l.dedup.foldl (fun acc i => acc + 2 ^ i) 0

/-- The record of Table 2-5. -/
def State.recordBytes (s : State) (w : Twin) (f : FrameAcct) : List Byte :=
  let ports := (f.stale.filter (· < 128)).dedup
  let univs := (f.stale.filter (128 ≤ ·)).dedup
  let flags := (s.intervalFlags f ||| f.flags ||| (if f.holdPorts.isEmpty then 0 else 64)) % 256
  leBytes 4 f.k ++
    ((List.range 4).flatMap (fun n => leBytes 5 (stampOf (Fin.ofNat 4 n) (f.tick.counts.getD n 0)))) ++
    leBytes 5 f.latchStamp ++ leBytes 1 flags ++ leBytes 1 (f.tick.base.val + (match w with | .a => 0 | .b => 128)) ++
    leBytes 1 ports.length ++ leBytes 2 f.computeDone ++ leBytes 2 f.emitUse ++ leBytes 2 (min 1000 f.latchDefer) ++ leBytes 2 univs.length ++
    leBytes 2 (min 65535 f.dropItems) ++ leBytes 2 (min 65535 f.commitLate) ++ leBytes 2 f.slipPorts.length ++ leBytes 2 0 ++
    leBytes 16 (bitsOf ports)

/-- The words of a bit map of 128 ports. -/
def setPortMap (r : Nat → Nat) (l : List Nat) (s : State) : State :=
  (List.range 4).foldl (fun x n => x.setReg (r n) (BitVec.ofNat 32 (bitsOf (l.filter (· < 128)) / 2 ^ (32 * n)))) s

/-- The bytes of a bit map at an address: those outside the bits are 0. -/
def setBitMap (a n : Nat) (l : List Nat) (s : State) : State :=
  let s1 := s.resetMem (fun x => decide (a ≤ x ∧ x < a + n))
  ((l.map (· / 8)).dedup).foldl (fun x i => x.wrB (a + i) (BitVec.ofNat 8 (bitsOf ((l.filter (fun e => decide (e / 8 = i))).map (· % 8))))) s1

/-- The master levels that the newest recorded frame used (R229, R230). -/
def showGroups (w : Twin) (f : FrameAcct) (s : State) : State :=
  let s1 := (f.groups.zipIdx).foldl (fun x (g, n) => x.sf (Reg.COLR_LIVE_GRP w n) Fld.COLR_LIVE_GRP_LEVEL g.1) s
  setBitMap (w.base + 0x61000) 32 ((f.groups.zipIdx.filter (fun e => e.1.2)).map (·.2)) s1

/-- One twin writes the record of a frame whose latch has fallen, and updates what shows the newest recorded frame. -/
def writeRecord (w : Twin) (f : FrameAcct) (s : State) : State :=
  let chg := f.chg.filter (fun e => !f.stale.contains e)
  let ports := (f.stale.filter (· < 128)).dedup
  let univs := (f.stale.filter (128 ≤ ·)).dedup.map (· - 128)
  let s1 := s.wrBytes (w.base + 0x11000 + f.k % 256 * 64) (s.recordBytes w f)
  let s2 := s1.setReg (Reg.TICK_FR_NEWEST w) (BitVec.ofNat 32 f.k)
  let s3 := (s2.peak (Reg.TICK_PEAK w) Fld.TICK_PEAK_EMIT_USE_PEAK f.emitUse).peak (Reg.TICK_PEAK w) Fld.TICK_PEAK_COMPUTE_PEAK f.computeDone
  let s4 := (s3.bump (Reg.TICK_STALE_CNT w) Fld.TICK_STALE_CNT_PORT_FRAMES ports.length).bump (Reg.TICK_STALE_CNT w)
    Fld.TICK_STALE_CNT_UNIV_FRAMES univs.length
  let s5 := if f.dropped || f.lateDrop then s4.bump (Reg.TICK_DROP_CNT w) Fld.TICK_DROP_CNT_FRAMES else s4
  let s6 := setPortMap (Reg.MAP_PORT_CHG w) chg (setPortMap (Reg.TICK_STALE_PORT w) ports s5)
  let s7 := setBitMap (w.base + 0x58000) 2048 ((chg.filter (128 ≤ ·)).dedup.map (· - 128)) (setBitMap (w.base + 0x18000) 2048 univs s6)
  let patch := match f.patched with | some x => min 65535 (ceilDiv (x - f.tick.raw) 1000) | none => 0
  let s8 := (s7.sf (Reg.MAP_TIME w) Fld.MAP_TIME_PATCH_DONE patch).sf (Reg.MAP_TIME w) Fld.MAP_TIME_MAP_DONE f.mapDone
  let s9 := showGroups w f ((List.range 8).foldl (fun x n => x.setReg (Reg.LAYER_CHG w n) (BitVec.ofNat 32 (f.changed / 2 ^ (32 * n)))) s8)
  let s10 := s9.modTw w (fun t => { t with frames := t.frames.filter (fun a => a.k ≠ f.k) })
  s10.raiseIf w (Reg.TICK_EVT_CTL w) Fld.TICK_EVT_CTL_REC_EN 39 f.k

/-- The records that are due in a twin, the oldest first. A twin that has left the roles of R72 writes none. -/
def recordsDue (w : Twin) (s : State) : State :=
  ((s.tw w).frames.filter (fun f => f.latchRaw.isSome)).foldl (fun x f => writeRecord w f x) s

/-- FRAME_RECORD (R72): nothing while no frame of the twin has had its latch. -/
def execFrameRecord (w : Twin) (s : State) : Host.Outcome State Fault Refusal :=
  let s0 := s.begin
  if s0.computes w then
    match (s0.tw w).frames.find? (fun f => f.latchRaw.isSome) with
    | some f => .next (writeRecord w f (s0.at (f.latchRaw.getD 0)))
    | none => .next s0
  else .next s0

end Sys2Proof.Machine
end

