-- ==== Sys2Proof/Machine/TickGen.lean ====
section
/-!
DEFINITION. The tick generator (R49, R50, R54 to R56, R92 to R98): timing sets, the grid, and the advance to the next tick.
-/
namespace Sys2Proof.Machine

/-! ### The grid (R92, R95) -/

/-- The first nanosecond at or after the grid instant `m` of a phase and a rate of `num`/`den` (R92). -/
def gridAt (phase m num den : Int) : Int := phase - (-(m * den * 1000000000)) / (max 1 num)

/-- The number of the last grid instant at or before a count. -/
def gridIndex (phase c num den : Int) : Int := ((c - phase) * (max 1 num)) / (max 1 den * 1000000000)

/-- The number of the first grid instant at or after a count. -/
def gridFrom (phase c num den : Int) : Int := -((-((c - phase) * (max 1 num))) / (max 1 den * 1000000000))

/-- The rate in effect, as (NUM, DEN). -/
def State.liveRate (s : State) : Nat × Nat :=
  (s.rf Reg.TGEN_LIVE_RATE Fld.TGEN_LIVE_RATE_NUM, s.rf Reg.TGEN_LIVE_RATE Fld.TGEN_LIVE_RATE_DEN)

/-! ### Timing sets (R54, R55) -/

/-- Why a captured set is refused: TGEN_STAT.REASON, 0 for none. Of several conditions that it meets, the first in the order of R55 is shown:
DESIGN CHOICE (notes/assumptions/36.md). -/
def TimingSet.reason (x : TimingSet) : Nat :=
  let den := getFld x.rate Fld.TGEN_RATE_DEN
  let num := getFld x.rate Fld.TGEN_RATE_NUM
  if den = 0 then 1
  else if num < 20 * den ∨ 240 * den < num then 2
  else if x.permille < 300 ∨ 900 < x.permille then 3
  else if den * 1000000000 < (x.lofs + 100000) * num then 4
  else 0

/-- The shadows as a set (R54). -/
def State.timingShadows (s : State) (at_ : Nat) : TimingSet :=
  { rate := s.reg Reg.TGEN_RATE, permille := s.rf Reg.TGEN_CDL Fld.TGEN_CDL_PERMILLE, lofs := (s.reg Reg.TGEN_LOFS).toNat, stamp := at_,
    arrival := s.stamp }

/-- Captures the shadows; a set that waits is replaced. -/
def captureTiming (at_ : Nat) (s : State) : State :=
  { s with tg := { s.tg with pend := some (s.timingShadows at_) } }.sb Reg.TGEN_STAT Fld.TGEN_STAT_PENDING true

/-- Discards a set that waits. -/
def cancelTiming (s : State) : State :=
  { s with tg := { s.tg with pend := none } }.sb Reg.TGEN_STAT Fld.TGEN_STAT_PENDING false

/-- TGEN_COMMIT (R54): with CANCEL in the same write, any pending set is discarded first. -/
def execTgenCommit (t : Nat) (src : Requester) (cancel : Bool) (s : State) : Host.Outcome State Fault Refusal :=
  .next ((s.beginAt t).thWrite src (fun s => captureTiming s.now (if cancel then cancelTiming s else s)))

/-- TGEN_CANCEL (R54). -/
def execTgenCancel (t : Nat) (src : Requester) (s : State) : Host.Outcome State Fault Refusal :=
  .next ((s.beginAt t).thWrite src cancelTiming)

/-- A write of TGEN_PHASE waits for the next tick (R97). -/
def writePhase (v : BitVec 64) (s : State) : State :=
  ({ s with tg := { s.tg with phaseWrite := some v } }).wr64 Reg.TGEN_PHASE v.toNat

/-- TGEN_PHASE_WRITE (R7, R95, R97): a write of both words, at whose next tick the tick realigns. -/
def execTgenPhaseWrite (t : Nat) (src : Requester) (v : BitVec 64) (s : State) : Host.Outcome State Fault Refusal :=
  .next ((s.beginAt t).thWrite src (fun x => writePhase v (x.wholeAccess src Reg.TGEN_PHASE)))

/-! ### The advance of the tick -/

/-- Puts a timing set into effect at a tick whose count is `c` (R54, R96). -/
def applyTiming (x : TimingSet) (c : Nat) (s : State) : State :=
  let s1 := (s.setReg Reg.TGEN_LIVE_RATE x.rate).sf Reg.TGEN_LIVE_CDL Fld.TGEN_LIVE_CDL_PERMILLE x.permille
  (s1.setReg Reg.TGEN_LIVE_LOFS (BitVec.ofNat 32 x.lofs)).wr64 Reg.TGEN_PHASE c

/-- A base to which the tick can move (R93). -/
def State.tbUsable (s : State) (n : Fin 4) : Bool :=
  let st := s.tbState n
  decide (st = tbLocked ∨ st = tbHoldover ∨ st = tbSlewing ∨ st = tbFree)

/-- The chosen base of the tick (R93). -/
def State.chosenBase (s : State) : Fin 4 := Fin.ofNat 4 (s.rf Reg.TGEN_SRC Fld.TGEN_SRC_TB)

/-- TGEN_SRC_STAT.WAITING (R93). -/
def showWaiting (s : State) : State :=
  s.sb Reg.TGEN_SRC_STAT Fld.TGEN_SRC_STAT_WAITING (decide (s.chosenBase ≠ s.tg.base) && !s.tbUsable s.chosenBase)

/-- The tick at the raw instant `raw`, of count `c` on the tick's base, falls at least 2 µs after the arrival of a set (R54): by the ages of their
stamps where they are of one base (R100). -/
def State.setArrived (s : State) (raw c : Nat) (x : TimingSet) : Bool :=
  let b := s.tg.base
  if stampBase x.arrival = b then stampLeads (s.tbNow b) x.arrival (stampOf b c) 2000 else decide (x.stamp + 2000 ≤ raw)

/-- A set that waits at a tick: refused (R55) or in effect. Answers whether it took effect. -/
def timingTick (raw c : Nat) (s : State) : Bool × State :=
  match s.tg.pend with
  | none => (false, s)
  | some x =>
    if !s.setArrived raw c x then (false, s)
    else
      let s1 := cancelTiming s
      let r := x.reason
      if r ≠ 0 then
        (false, ((s1.sb Reg.TGEN_STAT Fld.TGEN_STAT_REFUSED true).sf Reg.TGEN_STAT Fld.TGEN_STAT_REASON r).raiseTh 28 r)
      else (true, applyTiming x c s1)

/-- The tick moves to its chosen base when that can be used (R93). -/
def moveTick (s : State) : Bool × State :=
  let n := s.chosenBase
  if n ≠ s.tg.base ∧ s.tbUsable n then
    let s1 := { s with tg := { s.tg with base := n } }
    (true, ((s1.sf Reg.TGEN_SRC_STAT Fld.TGEN_SRC_STAT_CUR n.val).sb Reg.TGEN_SRC_STAT Fld.TGEN_SRC_STAT_PROTONEMA false).sb
      Reg.TGEN_SRC_STAT Fld.TGEN_SRC_STAT_WAITING false)
  else (false, showWaiting s)

/-- A software write of the phase takes effect (R97). -/
def phaseTick (s : State) : Bool × State :=
  match s.tg.phaseWrite with
  | some v => (true, { s with tg := { s.tg with phaseWrite := none } }.wr64 Reg.TGEN_PHASE v.toNat)
  | none => (false, s)

/-- Tick k+1 after a tick whose count on the tick's base is `c` (R49, R92), or the realignment of R95 with its d. -/
def nextTick (realign : Bool) (c : Nat) (s : State) : Nat × Nat :=
  let (n, d) := s.liveRate
  let phase : Int := s.rd64 Reg.TGEN_PHASE
  if realign then
    let g := gridAt phase (gridFrom phase c n d + 1) n d
    let late := (g - c) * max 1 n - d * 1000000000
    (g.toNat % 2 ^ 64, (late / (max 1 n * 16)).toNat)
  else ((gridAt phase (gridIndex phase c n d + 1) n d).toNat % 2 ^ 64, 0)

/-- The raw instant of the tick that comes next. -/
def State.tickRaw (s : State) : Nat :=
  if s.tg.ran then s.nextTickRaw
  else (s.tb s.tg.base).rawAt (s.tg.arm.getD 0) s.tg.next

/-- A tick can fall: an image is loaded, or the tick runs. -/
def State.tickArmed (s : State) : Bool := s.tg.ran || s.tg.arm.isSome

/-- The tick (R49, R50, R54, R92 to R97): its number, its instants on the four bases, the timing in effect from it and the next tick. -/
def advanceTick (s : State) : State :=
  let raw := s.tickRaw
  let s0 := s.at raw
  let c0 := s0.tg.next
  let k := if s0.tg.ran then (s0.tickNo + 1) % 2 ^ 32 else 0
  let stepped := s0.tg.stepped
  let s1 := { s0 with tg := { s0.tg with stepped := false, prev := s0.tg.cur, dlDone := false,
                                         latchK := if s0.tg.ran then s0.tg.latchK else 0 } }
  let (commit, s2) := timingTick raw c0 s1
  let (moved, s3) := moveTick s2
  let (phased, s4) := phaseTick s3
  let b := s4.tg.base
  let c := if moved then (s4.tb b).ns raw else c0
  let realign := stepped || moved || phased
  let (next, d) := nextTick realign c s4
  let (num, den) := s4.liveRate
  let proto := s4.rb Reg.TGEN_SRC_STAT Fld.TGEN_SRC_STAT_PROTONEMA
  let flags := (if proto then 1 else 0) + (if s4.tbState b = tbHoldover then 2 else 0) + (if commit then 4 else 0) + s4.tg.early
  let counts := (List.range 4).map (fun n => if n = b.val then c else (s4.tb (Fin.ofNat 4 n)).ns raw)
  let cur : TickAt := { k := k, raw := raw, counts := counts, base := b, num := num, den := den,
                        permille := s4.rf Reg.TGEN_LIVE_CDL Fld.TGEN_LIVE_CDL_PERMILLE, lofs := (s4.reg Reg.TGEN_LIVE_LOFS).toNat,
                        steps := s4.tg.steps, flags := flags }
  let s5 := { s4 with tg := { s4.tg with ran := true, arm := none, next := next, cur := cur, early := 0,
                                         zeroAt := if s4.tg.ran then s4.tg.zeroAt else raw } }
  let s6 := (s5.setReg Reg.TGEN_NUM (BitVec.ofNat 32 k)).wr64 Reg.TGEN_TICK_TS (stampOf b c)
  if realign then (s6.sf Reg.TGEN_SRC_STAT Fld.TGEN_SRC_STAT_LAST_D d).raiseTh 20 d else s6

/-- The time section is committed (R56, R94): tick 0 falls on the first grid instant of TB3 at least 1 ms later, at the rate and phase that
the section gives. -/
def armTick (s : State) : State :=
  let s1 := captureTiming s.now s
  let arm := s1.now + 1000000
  let c := s1.tb3.ns arm
  let x := s1.timingShadows s1.now
  let n := getFld x.rate Fld.TGEN_RATE_NUM
  let d := getFld x.rate Fld.TGEN_RATE_DEN
  let phase : Int := s1.rd64 Reg.TGEN_PHASE
  let next := (gridAt phase (gridFrom phase c n d) n d).toNat
  judgePlaced (showWaiting { s1 with tg := { s1.tg with base := 3, arm := some arm, next := next } })

end Sys2Proof.Machine
end

