-- ==== Sys2Proof/Machine/Health.lean ====
section
/-!
DEFINITION. Fixture telemetry and fault diagnosis (chapter 12): the reports of a tick, limits, results of measurements.
-/
namespace Sys2Proof.Machine

/-- What one tick has changed: the fixtures that E67, E68 and E70 report (R337), and those that a report named, with whether a STATUS said
OVERTEMP and whether a supply voltage came (R327). -/
structure HealthNews where
  opened : List Nat
  shorted : List Nat
  limit : List Nat
  told : List (Nat × Bool × Bool)
deriving DecidableEq, Repr

def HealthNews.none : HealthNews := ⟨[], [], [], []⟩

/-- A report names a fixture. -/
def HealthNews.tell (n : HealthNews) (fx : Nat) (hot supply : Bool) : HealthNews := { n with told := n.told ++ [(fx, hot, supply)] }

/-- STATE bits of Table 12-2. -/
def setBitTo (v i : Nat) (b : Bool) : Nat := if bitAt v i = b then v else if b then v + 2 ^ i else v - 2 ^ i

/-- FAULT follows the masks. -/
def HealthEntry.judge (h : HealthEntry) : HealthEntry := { h with state := setBitTo h.state 0 (!h.open_.isEmpty || !h.short.isEmpty) }

/-- A confirmed state (1 OK, 2 OPEN, 3 SHORT) takes a result at once (R324, R334). -/
def confirm (w : Twin) (fx c r : Nat) (acc : HealthNews × State) : HealthNews × State :=
  let (news, s) := acc
  let x := s.chan w fx c
  let h := s.health w fx
  let s1 := s.setChan w fx c { x with st := r, pend := 0 }
  if r = x.st then (news, s1)
  else
    let clear := fun (l : List Nat) => l.filter (fun e => e ≠ c)
    match r with
    | 2 =>
      let h1 := { h with open_ := addCh c h.open_, short := clear h.short, fltCnt := min 65535 (h.fltCnt + 1) }
      ({ news with opened := fx :: news.opened },
        (s1.setHealthEntry w fx h1.judge).bump (Reg.HLTH_CNT_FLT w) Fld.HLTH_CNT_FLT_OPEN)
    | 3 =>
      let h1 := { h with open_ := clear h.open_, short := addCh c h.short, fltCnt := min 65535 (h.fltCnt + 1) }
      ({ news with shorted := fx :: news.shorted },
        (s1.setHealthEntry w fx h1.judge).bump (Reg.HLTH_CNT_FLT w) Fld.HLTH_CNT_FLT_SHORT)
    | _ => (news, s1.setHealthEntry w fx { h with open_ := clear h.open_, short := clear h.short }.judge)

/-- A channel leaves DIAG_BLIND (R336). -/
def unblind (w : Twin) (fx c : Nat) (s : State) : State :=
  let h := s.health w fx
  if h.blind.contains c then
    (s.setHealthEntry w fx { h with blind := h.blind.filter (fun e => e ≠ c) }).sf (Reg.HLTH_BLIND_SUM w) Fld.HLTH_BLIND_SUM_CHANNELS
      (s.rf (Reg.HLTH_BLIND_SUM w) Fld.HLTH_BLIND_SUM_CHANNELS - 1)
  else s

/-- One result of a measurement (R333, R334). -/
def result (w : Twin) (fx c r : Nat) (acc : HealthNews × State) : HealthNews × State :=
  let (news, s) := acc
  let s1 := unblind w fx c s
  let x : Channel := { s1.chan w fx c with wait := 0 }
  let need := max 1 (s1.rf (Reg.HLTH_CFG w) Fld.HLTH_CFG_CONFIRM)
  if r = x.st then (news, s1.setChan w fx c { x with pend := 0 })
  else if x.st = 0 ∨ need ≤ x.pend + 1 then confirm w fx c r (news, s1.setChan w fx c x)
  else (news, s1.setChan w fx c { x with pend := x.pend + 1 })

/-- A report has been applied to an entry at this tick. -/
def heard (s : State) (source : Nat) (h : HealthEntry) : HealthEntry :=
  { h with source := if source = 1 ∨ h.source = 1 then 1 else source, lastTick := s.tickNo, heardAt := s.now, state := setBitTo h.state 2 false }

/-- The limits of R327 after the reports of a tick: `nodeHot` is the node's own OVERTEMP, `supply` says that a report carried VSUP. -/
def limits (w : Twin) (fx : Nat) (nodeHot supply : Bool) (acc : HealthNews × State) : HealthNews × State :=
  let (news, s) := acc
  let h := s.health w fx
  let p := s.fixProfile w fx
  let tmax := toSigned 16 (s.prof w p 250 2)
  let temp := toSigned 16 h.temp
  let none_ : Bool := decide (h.temp = 0x8000)
  let off : Bool := decide (s.prof w p 250 2 = 0x7FFF)
  let hot : Bool := nodeHot || (!off && !none_ && decide (tmax ≤ temp))
  let cool : Bool := !hot && (off || none_ || decide (temp < tmax - 32))
  let ot : Bool := hot || (bitAt h.state 3 && !cool)
  let vmax := s.prof w p 248 2
  let bad : Bool := if !supply then bitAt h.state 4 else decide (vmax ≠ 0) && (decide (h.vsup < s.prof w p 246 2) || decide (vmax < h.vsup))
  let gained : Bool := (ot && !bitAt h.state 3) || (bad && !bitAt h.state 4)
  (if gained then { news with limit := fx :: news.limit } else news,
    s.setHealthEntry w fx { h with state := setBitTo (setBitTo h.state 3 ot) 4 bad })

/-- The limits of every fixture that a report of the tick named (R327). -/
def limitsOf (w : Twin) (acc : HealthNews × State) : HealthNews × State :=
  let told := acc.1.told
  ((told.map (·.1)).dedup).foldl (fun a fx =>
    let mine := told.filter (fun e => decide (e.1 = fx))
    limits w fx (mine.any (·.2.1)) (mine.any (·.2.2)) a) acc

/-- One STATUS at a tick (R322, R333): the bytes of Table 10-8. -/
def applyStatus (w : Twin) (p : Nat) (b : List Byte) (acc : HealthNews × State) : HealthNews × State :=
  let (news, s) := acc
  let node := beAt b 2 2
  match s.fixtureAt w p node with
  | none => (news, s.bump (Reg.HLTH_CNT_MISS w) Fld.HLTH_CNT_MISS_UNMATCHED)
  | some fx =>
    let fl := byteAt b 1
    let h := s.health w fx
    let temp := beAt b 6 2
    let h1 := heard s 1 { h with temp := if temp = 0x8000 then h.temp else temp, vsup := beAt b 22 2,
                                 crcErr := min 65535 (h.crcErr + beAt b 20 2),
                                 state := setBitTo (setBitTo h.state 5 (bitAt fl 0)) 6 (bitAt fl 2) }
    let acc1 := (news.tell fx (bitAt fl 4) true, s.setHealthEntry w fx h1)
    if !bitAt fl 3 then acc1
    else
      let mine : Pulse → Bool := fun x => decide (x.port = p) && decide (x.node = node) && decide (x.frame % 256 = byteAt b 5)
      match (s.tw w).hlth.pulses.find? mine with
      | none => acc1
      | some x =>
        let open_ := beAt b 8 6
        let short := beAt b 14 6
        let s1 := acc1.2.modHlth w (fun h => { h with pulses := h.pulses.filter (fun y => !mine y) })
        x.mask.foldl (fun a c => result w fx c (if bitAt short c then 3 else if bitAt open_ c then 2 else 1) a) (acc1.1, s1)

/-- One post at a tick (R324, Table 12-1): type, chunk, fixture, value. -/
def applyPost (w : Twin) (x : Nat × Nat × Nat × Nat) (acc : HealthNews × State) : HealthNews × State :=
  let (typ, chunk, fx, v) := x
  let (news, s) := acc
  let h := heard s 2 (s.health w fx)
  match typ with
  | 0 => (news.tell fx false false, s.setHealthEntry w fx (if v % 65536 = 0x8000 then h else { h with temp := v % 65536 }))
  | 1 => (news.tell fx false true, s.setHealthEntry w fx { h with vsup := v % 65536 })
  | _ =>
    let r := match typ with | 2 => 2 | 3 => 3 | _ => 1
    let cs := (List.range 32).filter (fun b => bitAt v b && decide (32 * chunk + b < 48))
    cs.foldl (fun a b => confirm w fx (32 * chunk + b) r a) (news.tell fx false false, s.setHealthEntry w fx h)

/-- The temperature reports that the zones take at a tick (R323): of STATUS replies, then of posts. -/
def zoneReports (w : Twin) (sts : List (Nat × List Byte)) (posts : List (Nat × Nat × Nat × Nat)) (s : State) : List (Nat × Int) :=
  let of := fun (fx temp : Nat) => if temp = 0x8000 ∨ s.fixZone w fx = 0xFFFF then none else some (s.fixZone w fx, toSigned 16 temp)
  sts.filterMap (fun r => (s.fixtureAt w r.1 (beAt r.2 2 2)).bind (fun fx => of fx (beAt r.2 6 2))) ++
    posts.filterMap (fun p => if p.1 = 0 then of p.2.2.1 (p.2.2.2 % 65536) else none)

/-- Wait counts rise at a tick (R329), but for a port in HOLD or SAFE, be it the HOLD before its first frame (R68). -/
def waitTick (w : Twin) (s : State) : State :=
  if s.portHeld then s
  else
    ((s.fixtures w).filter (fun fx => s.takesPart w fx 0 && s.hasEmitted (s.fixPort w fx))).foldl (fun x fx =>
      (List.range (s.channels w fx)).foldl (fun y c =>
        let ch := y.chan w fx c
        y.setChan w fx c { ch with wait := min 65535 (ch.wait + 1) }) x) s

/-- Measurements without a result by tick f + 4 are void (R333). -/
def voidPulses (w : Twin) (s : State) : State :=
  let due : Pulse → Bool := fun x => decide (4 ≤ (s.tickNo + 2 ^ 32 - x.frame) % 2 ^ 32)
  let n := ((s.tw w).hlth.pulses.filter due).length
  if n = 0 then s
  else
    (s.modHlth w (fun h => { h with pulses := h.pulses.filter (fun x => !due x) })).bump (Reg.HLTH_CNT_MISS w) Fld.HLTH_CNT_MISS_DIAG_MISS n

/-- NO_REPORT is due for a fixture (R327). -/
def State.noReportDue (s : State) (w : Twin) (fx : Nat) : Bool :=
  let wait := s.rf (Reg.HLTH_CFG w) Fld.HLTH_CFG_REPORT_TO
  let h := s.health w fx
  decide (wait ≠ 0) && !bitAt h.state 2 && (decide (s.fixKind w fx = 1) || decide (s.fixKind w fx ≠ 0 ∧ h.source = 2)) &&
    decide (max h.heardAt s.tg.zeroAt + wait * 10000000 ≤ s.tg.cur.raw)

def setNoReport (w : Twin) (s : State) (fx : Nat) : State :=
  let h := s.health w fx
  s.setHealthEntry w fx { h with state := setBitTo h.state 2 true }

/-- The lowest number of a list. -/
def lowest : List Nat → Option Nat
  | [] => none
  | x :: rest => some (rest.foldl min x)

/-- E67 to E71 of a tick (R337), each once with the lowest fixture. -/
def healthEvent (w : Twin) (en : Fld) (n : Nat) (l : List Nat) (s : State) : State :=
  match lowest l with
  | some fx => s.raiseOnce w (Reg.HLTH_EVT_CTL w) en n fx
  | none => s

/-- NO_REPORT at a tick. -/
def noReports (w : Twin) (s : State) : State :=
  let l := (s.fixtures w).filter (s.noReportDue w)
  healthEvent w Fld.HLTH_EVT_CTL_LOSS_EN 71 l (l.foldl (setNoReport w) s)

/-- HLTH_APPLY (R286, R322 to R334): the reports delivered for the tick in one twin: STATUS replies in order of their EOP, ports ascending in the
same clock, then posts. A STATUS whose EOP comes after the tick waits. Answers the zones' reports. -/
def healthTick (w : Twin) (s : State) : List (Nat × Int) × State :=
  let h := (s.tw w).hlth
  let here : Nat × Nat × List Byte → Bool := fun r => decide (r.1 ≤ s.tg.cur.raw)
  let sts := (sortBy (fun a b => decide (a.1 < b.1) || (decide (a.1 = b.1) && decide (a.2.1 < b.2.1))) (h.statuses.filter here)).map (·.2)
  let posts := h.posts.take 256
  let dropped := h.posts.length - posts.length
  let s0 := waitTick w (s.modHlth w (fun h => { h with statuses := h.statuses.filter (fun r => !here r), posts := [] }))
  let s1 := s0.bump (Reg.HLTH_CNT_MISS w) Fld.HLTH_CNT_MISS_POST_DROP dropped
  let reports := zoneReports w sts posts s1
  let acc := sts.foldl (fun a r => applyStatus w r.1 r.2 a) (HealthNews.none, s1)
  let (news, s2) := limitsOf w (posts.foldl (fun a x => applyPost w x a) acc)
  let s3 := voidPulses w s2
  let s4 := healthEvent w Fld.HLTH_EVT_CTL_SHORT_EN 68 news.shorted (healthEvent w Fld.HLTH_EVT_CTL_OPEN_EN 67 news.opened s3)
  let s5 := noReports w (healthEvent w Fld.HLTH_EVT_CTL_LIMIT_EN 70 news.limit s4)
  (reports, s5)

/-- A fixture's entry and channels restart (R326, R329). -/
def restartFixture (w : Twin) (fx : Nat) (s : State) : State :=
  let h := s.health w fx
  let s1 := s.sf (Reg.HLTH_BLIND_SUM w) Fld.HLTH_BLIND_SUM_CHANNELS (s.rf (Reg.HLTH_BLIND_SUM w) Fld.HLTH_BLIND_SUM_CHANNELS - h.blind.length)
  let s2 := s1.setHealthEntry w fx { HealthEntry.reset with lastTick := h.lastTick, heardAt := h.heardAt }
  s2.modHlth w (fun x => { x with chans := x.chans.filter (fun e => decide (e.1 / 64 ≠ fx)), pulses := x.pulses.filter (fun p => decide (p.fixture ≠ fx)) })

/-- A write of HLTH_POST in one twin (R324). -/
def postHealth (v : Word) (w : Twin) (s : State) : State :=
  let typ := getFld v Fld.HLTH_POST_TYPE
  let fx := getFld v Fld.HLTH_POST_FIXTURE
  if 4 < typ ∨ s.fixKind w fx = 0 then s.bump (Reg.HLTH_CNT_MISS w) Fld.HLTH_CNT_MISS_POST_DROP
  else s.modHlth w (fun h => { h with posts := h.posts ++ [(typ, getFld v Fld.HLTH_POST_CHUNK, fx, (s.reg (Reg.HLTH_POST_VAL w)).toNat)] })

/-- HLTH_POST (R324). -/
def execHlthPost (t : Nat) (via : Via) (v : Word) (s : State) : Host.Outcome State Fault Refusal :=
  .next ((s.beginAt t).deliver via (postHealth v))

/-- HLTH_NO_REPORT (R327): nothing for a fixture whose timeout has not passed by the newest tick, or is marked already. -/
def execHlthNoReport (t : Nat) (w : Twin) (fixture : Nat) (s : State) : Host.Outcome State Fault Refusal :=
  let s1 := s.beginAt t
  if s1.computes w && s1.noReportDue w fixture then .next (healthEvent w Fld.HLTH_EVT_CTL_LOSS_EN 71 [fixture] (setNoReport w s1 fixture))
  else .next s1

/-- DIAG_VOID (R333): the measurements of frame f that have no result by tick f + 4. -/
def execDiagVoid (w : Twin) (s : State) : Host.Outcome State Fault Refusal := .next (voidPulses w s.begin)

/-- The 32 bytes of an entry (Table 12-2); LOST follows the node (R287). -/
def State.healthBytes (s : State) (w : Twin) (fx : Nat) : List Byte :=
  let h := s.health w fx
  let lost : Bool := decide (s.fixKind w fx = 1) &&
    (s.strand w (s.fixPort w fx)).nodes.any (fun n => decide (n.addr = s.fixNode w fx) && n.lost)
  leBytes 1 (setBitTo h.state 1 lost) ++ leBytes 1 h.source ++ leBytes 2 h.temp ++ leBytes 2 h.vsup ++ leBytes 6 ((h.open_.map (2 ^ ·)).sum) ++
    leBytes 6 ((h.short.map (2 ^ ·)).sum) ++ leBytes 6 ((h.blind.map (2 ^ ·)).sum) ++ leBytes 4 h.lastTick ++ leBytes 2 h.crcErr ++
    leBytes 2 h.fltCnt

/-- HLTH_CH of the selected channel (R329). -/
def State.healthCh (s : State) (w : Twin) (fx c : Nat) : Nat :=
  let x := s.chan w fx c
  let b := fun (p : Bool) (i : Nat) => if p then 2 ^ i else 0
  x.st + b (s.takesPart w fx c) 2 + b (s.chanDue w fx c) 3 + b ((s.health w fx).blind.contains c) 4 + min 15 x.pend * 2 ^ 12 +
    min 65535 x.wait * 2 ^ 16

end Sys2Proof.Machine
end

