-- ==== Sys2Proof/Machine/RejCheck.lean ====
section
/-!
DEFINITION. The check of a Rejor image (R120): header, signature, directory, sections, references and cross-table conditions. Fields are
read from the image that would be in effect: the checks of steps 6 and 7 run on a state that holds it.
-/
namespace Sys2Proof.Machine

/-- A directory entry (Table 4-2). -/
structure DirEnt where
  ix : Nat
  ty : Nat
  inst : Nat
  sver : Nat
  flags : Nat
  off : Nat
  len : Nat
  first : Nat
  count : Nat
  crc : Nat
deriving DecidableEq, Repr

def dirEnt (rd : Nat → Byte) (i : Nat) : DirEnt :=
  let b := 64 + 32 * i
  { ix := i, ty := fileN rd b 2, inst := fileN rd (b + 2) 2, sver := fileN rd (b + 4) 1, flags := fileN rd (b + 5) 1,
    off := fileN rd (b + 8) 4, len := fileN rd (b + 12) 4, first := fileN rd (b + 16) 4, count := fileN rd (b + 20) 4,
    crc := fileN rd (b + 24) 4 }

/-- The part knows the section (R109, R111). -/
def DirEnt.known (d : DirEnt) : Bool := decide (entrySize d.ty d.inst ≠ 0) && decide (d.sver = 1)

/-- The directory of a file; the sections that the part reads. -/
def fileDir (rd : Nat → Byte) : List DirEnt := (List.range (fileN rd 20 2)).map (dirEnt rd)
def fileSections (rd : Nat → Byte) : List DirEnt := (fileDir rd).filter (·.known)

/-- Steps 1 and 2 of R120: `graft` is the use, `base` the IMAGE_ID in effect, `room` the bytes of the slot or the staging area. -/
def headerBad (rd : Nat → Byte) (graft : Bool) (base room : Nat) (s : State) : Option Bad :=
  let n := fileN rd 8 4
  let b := fileN rd 16 4
  chkFirst 0 0xFF [
    (0, fileN rd 0 4 = 0x524F4A52, 0x01),
    (4, fileN rd 4 1 = 1, 0x02),
    (6, fileN rd 6 1 ≠ 0, 0x0C),
    (6, fileN rd 6 1 ≤ s.compat, 0x03),
    (7, fileN rd 7 1 ≤ 1, 0x0C),
    (7, fileN rd 7 1 = (if graft then 1 else 0), 0x10),
    (12, fileN rd 12 4 ≠ 0, 0x0C),
    (16, graft || decide (b = 0), 0x0C),
    (16, decide (b = 0) || decide (b = base), 0x11),
    (22, fileN rd 22 2 = 0, 0x0C),
    (8, n % 64 = 0 ∧ 320 ≤ n ∧ n ≤ 0x10000000 ∧ n ≤ room, 0x04)]

/-! ### Steps 4 and 5: the directory and the CRCs -/

/-- Two ranges overlap. -/
def overlaps (a n b m : Nat) : Bool := decide (a < b + m) && decide (b < a + n) && decide (n ≠ 0) && decide (m ≠ 0)

/-- One directory entry against the file and the entries before it (R107, R109, R111, R112, R118). -/
def dirChecks (rd : Nat → Byte) (before : List DirEnt) (d : DirEnt) : List Chk :=
  let n := fileN rd 8 4
  let head := 64 + 32 * fileN rd 20 2
  let opt : Bool := bitAt d.flags 0
  let size := entrySize d.ty d.inst
  let b := 64 + 32 * d.ix
  let anyInst : Bool := decide (entrySize d.ty 0 ≠ 0)
  [(b, anyInst || opt, 0x09), (b + 2, decide (size ≠ 0) || opt, 0x09), (b + 4, decide (d.sver = 1) || opt, 0x09),
    (b + 5, d.flags < 4, 0x07), (b + 6, fileN rd (b + 6) 2 = 0, 0x07),
    (b + 8, d.off % 64 = 0 ∧ head ≤ d.off, 0x07),
    (b + 12, decide (d.off + d.len ≤ n - 128) && before.all (fun e => !overlaps e.off e.len d.off d.len), 0x07),
    (b + 16, !d.known || decide (d.ty ≠ 10) || decide (4 ≤ d.first), 0x0B),
    (b + 20, !d.known || (decide (d.len = d.count * size) && decide (d.first + d.count ≤ entryCount d.ty d.inst) &&
      (decide (entryCount d.ty d.inst ≠ 1) || decide (d.count = 1))), 0x0B),
    (b + 20, !d.known || before.all (fun e => !(e.known && decide (e.ty = d.ty) && decide (e.inst = d.inst) &&
      overlaps e.first e.count d.first d.count)), 0x0A),
    (b + 28, fileN rd (b + 28) 4 = 0, 0x07)]

def directoryBad (rd : Nat → Byte) : Option Bad :=
  let cnt := fileN rd 20 2
  if cnt = 0 ∨ 1024 < cnt then some (0x07, 20, 0xFF)
  else
    let dir := fileDir rd
    dir.findSome? (fun d => chkFirst 0 (d.ix % 256) (dirChecks rd (dir.take d.ix) d))

def crcsBad (rd : Nat → Byte) : Option Bad :=
  (fileDir rd).findSome? (fun d => if crc32 (fileBytes rd d.off d.len) = d.crc then none else some (0x08, 64 + 32 * d.ix + 24, d.ix % 256))

/-! ### Step 6: the sections (Tables 4-5 to 4-19, and those of chapters 7, 8, 10, 11, 12) -/

/-- A reserved run of an entry is 0. -/
def State.rs (s : State) (w : Twin) (ty inst i off n : Nat) : Chk := (off, s.ent w ty inst i off n = 0, 0x0C)

/-- A value lies in a range. -/
def rng (off v lo hi : Nat) : Chk := (off, decide (lo ≤ v ∧ v ≤ hi), 0x0C)

/-- A condition of code FIELD. -/
def fld (off : Nat) (b : Bool) : Chk := (off, b, 0x0C)

/-- A signed byte lies in a range. -/
def rngS (off v : Nat) (lo hi : Int) : Chk := (off, decide (lo ≤ toSigned 8 v ∧ toSigned 8 v ≤ hi), 0x0C)

/-- A base block (Table 4-6, R113). -/
def State.baseChecks (s : State) (w : Twin) (n : Nat) : List Chk :=
  let b := 32 + 32 * n
  let v := fun off len => s.imgTime w (b + off) len
  let ptp := fun (hi : Nat) => if n = 2 then 0 else hi
  [rng b (v 0 1) 0 3, rng (b + 1) (v 1 1) 0 (ptp 3), rng (b + 2) (v 2 1) 0 (ptp 127), rng (b + 3) (v 3 1) 0 1,
    rng (b + 4) (v 4 1) 0 (ptp 255), rng (b + 5) (v 5 1) 0 (ptp 255),
    if n = 2 then rng (b + 6) (v 6 1) 0 0 else rngS (b + 6) (v 6 1) (-4) 1,
    if n = 2 then rng (b + 7) (v 7 1) 0 0 else rngS (b + 7) (v 7 1) (-4) 5,
    fld (b + 8) (v 8 4 % 65536 ≠ 0), fld (b + 12) (v 12 4 < 2 ^ 20), fld (b + 16) (v 16 4 / 1024 % 64 = 0 ∧ v 16 4 % 1024 ≤ 1000),
    fld (b + 20) (2 ≤ v 20 4 / 2 ^ 24 ∧ v 20 4 / 65536 % 256 ≠ 0),
    fld (b + 24) (if n = 2 then
        decide (v 24 4 / 2 ^ 24 = 0) && decide (v 24 4 / 65536 % 256 ≠ 0) && decide (v 24 4 / 4096 % 16 = 0) &&
          decide (2 ≤ v 24 4 / 256 % 16) && decide (v 24 4 / 64 % 4 = 0) && !bitAt (v 24 4) 3 && decide (v 24 4 % 8 ≤ 5)
      else decide (v 24 4 = 0)),
    fld (b + 28) (v 28 4 = 0)]

def State.timeChecks (s : State) (w : Twin) : List Chk :=
  let rate := s.imgTime w 0 4
  let den := rate / 2 ^ 20
  let num := rate % 2 ^ 20
  [fld 0 (den ≠ 0), fld 0 (20 * den ≤ num ∧ num ≤ 240 * den), rng 4 (s.imgTime w 4 2) 300 900, rng 6 (s.imgTime w 6 1) 0 3,
    s.rs w 1 0 0 7 1, fld 8 ((s.imgTime w 8 4 + 100000) * num ≤ den * 1000000000), s.rs w 1 0 0 20 12] ++
    s.baseChecks w 0 ++ s.baseChecks w 1 ++ s.baseChecks w 2

def State.powerChecks (s : State) (w : Twin) : List Chk :=
  [rng 0 (s.imgPower w 0 1) 0 1, rng 1 (s.imgPower w 1 1) 0 3, rng 2 (s.imgPower w 2 1) 0 3, rng 3 (s.imgPower w 3 1) 0 7,
    rng 4 (s.imgPower w 4 2) 1 65535, rng 6 (s.imgPower w 6 1) 0 15, s.rs w 2 0 0 7 1, s.rs w 2 0 0 24 40]

def State.bankChecks (s : State) (w : Twin) (n : Nat) : List Chk :=
  let st := s.imgBank w n 2
  [rng 0 (s.imgBank w n 0) 0 5, rng 1 (s.imgBank w n 1) 0 (if s.imgBank w n 0 = 5 then 255 else 0), fld 2 (st % 4 ≠ 3 ∧ st < 16),
    s.rs w 3 0 n 3 1]

/-- The bytes of a queue's ring: its bank, its offset and its length (R114). -/
def State.ringOf (s : State) (w : Twin) (q : Nat) : Nat × Nat × Nat :=
  (s.ent w 4 0 q 2 1, s.ent w 4 0 q 4 4, s.qDepth w q * s.qWords w q * 8)

def State.queueChecks (s : State) (w : Twin) (q : Nat) : List Chk :=
  let d := s.ent w 4 0 q 0 1
  if d = 0 then [rng 3 (s.ent w 4 0 q 3 1) 0 15, s.rs w 4 0 q 11 5]
  else
    let (bank, ofs, len) := s.ringOf w q
    let clash := (List.range 64).any (fun p => decide (p < q) && s.qUsed w p &&
      (let r := s.ringOf w p; decide (r.1 = bank) && overlaps r.2.1 r.2.2 ofs len))
    [rng 0 d 4 16, rng 1 (s.qWords w q) 1 8,
      (2, decide (95 < bank) || (decide (s.imgBank w bank 0 = 1) && decide (s.imgBank w bank 2 % 4 = 2)), 0x0E),
      rng 3 (s.ent w 4 0 q 3 1) 0 15, fld 4 (ofs % 64 = 0), (4, decide (ofs + len ≤ 0x100000) && !clash, 0x0E), (8, s.qCores w q ≠ 0, 0x0E),
      rng 10 (s.ent w 4 0 q 10 1) 0 1, s.rs w 4 0 q 11 5]

def State.flowChecks (s : State) (w : Twin) (f : Nat) : List Chk :=
  [rng 0 (s.flowWindow w f) 0 1024, s.rs w 4 1 f 3 5]

def State.netChecks (s : State) (w : Twin) (n : Nat) : List Chk :=
  [rng 0 (s.netMode w n) 0 2, rng 1 (s.ent w 5 0 n 1 1) 0 31, rng 2 (s.netMaxLen w n) 1518 9216,
    fld 10 (!s.netFlag w n 4 || decide (s.netCtlPort w n ≠ 0)), rng 16 (s.ent w 5 0 n 16 1) 0 32, rng 17 (s.ent w 5 0 n 17 1) 0 128,
    s.rs w 5 0 n 18 2, s.rs w 5 0 n 40 24]

/-- Another entry of a table that meets a condition: of lower index, or not in the file. -/
def clashes (used inFile : List Nat) (i : Nat) (p : Nat → Bool) : Bool :=
  used.any (fun j => decide (j ≠ i) && p j && (decide (j < i) || !inFile.contains j))

def State.univChecks (s : State) (w : Twin) (inFile : List Nat) (u : Nat) : List Chk :=
  let v := fun off n => s.ent w 5 1 u off n
  [rng 0 (v 0 2) 1 63999, fld 0 (!clashes (s.usedEntries w 5 1) inFile u (fun j => s.ent w 5 1 j 0 2 = v 0 2)), rng 2 (v 2 1) 0 15,
    rng 3 (v 3 1) 0 3, fld 4 (!bitAt (v 3 1) 1 || (decide (v 4 2 ≠ 0) && decide (v 4 2 ≤ 63999))), s.rs w 5 1 u 6 2]

def State.stChecks (s : State) (w : Twin) (f : Nat) : List Chk :=
  let v := fun off n => s.ent w 5 2 f off n
  [rng 0 (v 0 1) 0 3, rng 1 (v 1 1) 0 2, fld 2 (v 2 1 = 8 ∨ v 2 1 = 10 ∨ v 2 1 = 12), rng 3 (v 3 1) 0 1, rng 4 (v 4 2) 1 4096,
    fld 4 (v 4 2 % max 1 (stGroup (v 1 1) (v 2 1)) = 0), rng 6 (v 6 2) 1 2160, rng 8 (v 8 1) 0 3, s.rs w 5 2 f 9 1,
    fld 12 (bitAt (v 8 1) 1 || decide (v 16 12 = 0)), s.rs w 5 2 f 44 20]

def State.wakeChecks (s : State) (w : Twin) (i : Nat) : List Chk :=
  let port := s.ent w 5 3 i 0 1
  [rng 0 port 0 3, fld 0 (((s.usedEntries w 5 3).filter (fun j => decide (j < i) && decide (s.ent w 5 3 j 0 1 = port))).length < 8),
    rng 1 (s.ent w 5 3 i 1 1) 0 1, s.rs w 5 3 i 2 14]

/-- A time of an NRZ bit (Table 11-4). -/
def nrzTime (v lo hi : Nat) : Bool := decide (lo ≤ v ∧ v ≤ hi) && decide (v % 5 = 0)

def State.portChecks (s : State) (w : Twin) (p : Nat) : List Chk :=
  let pers := s.personality w p
  let v := fun off n => s.ent w 6 0 p off n
  let head := [rng 0 pers 0 4, rng 1 (v 1 1) 0 (if pers = 2 then 1 else 0), s.rs w 6 0 p 2 2]
  head ++ (match pers with
    | 1 => [rng 4 (v 4 1) 0 2, rng 5 (v 5 1) 0 1, fld 6 (16 ≤ v 6 2 ∧ v 6 2 ≤ 512 ∧ v 6 2 % 16 = 0), rng 8 (v 8 1) 0 1, rng 9 (v 9 1) 0 64,
        rng 12 (v 12 2) 1 65535, rng 14 (v 14 2) 50 60000, rng 16 (v 16 2) 0 4096, rng 18 (v 18 1) 0 16, rng 19 (v 19 1) 0 1,
        s.rs w 6 0 p 20 44]
    | 2 => [rng 4 (v 4 2) 92 1000, rng 6 (v 6 2) 12 1000, fld 9 (v 9 1 = 1 ∨ v 9 1 = 2 ∨ v 9 1 = 4 ∨ v 9 1 = 8 ∨ v 9 1 = 16),
        rng 10 (v 10 2) 24 257, rng 14 (v 14 1) 0 1, s.rs w 6 0 p 15 49]
    | 3 => [fld 4 (nrzTime (v 4 2) 300 5000), fld 6 (nrzTime (v 6 2) 50 4950 && decide (v 6 2 + 50 < v 4 2)),
        fld 8 (nrzTime (v 8 2) 50 4950 && decide (v 8 2 + 50 < v 4 2)), rng 10 (v 10 2) 1 1000, rng 12 (v 12 1) 0 7, s.rs w 6 0 p 13 51]
    | 4 => [rng 4 (v 4 2) 1 400, rng 6 (v 6 2) 0 1, rng 10 (v 10 2) 0 1000, rng 12 (v 12 1) 0 3, rng 13 (v 13 1) 0 8, s.rs w 6 0 p 26 38]
    | _ => [])

def State.periChecks (s : State) (w : Twin) : List Chk :=
  let v := fun off n => s.ent w 7 0 0 off n
  [rng 0 (v 0 1) 0 2, s.rs w 7 0 0 1 1, rng 2 (v 2 2) 100 1000, rng 4 (v 4 2) 1 65535, s.rs w 7 0 0 6 10]

def State.canvasChecks (s : State) (w : Twin) : List Chk :=
  [rng 0 (s.canvasW w) 1 16384, rng 2 (s.canvasH w) 1 16384, rng 4 (s.guardLines w) 1 65535, s.rs w 8 0 0 6 10]

/-- Bytes per texel of a format, and the sources that may use it (Table 6-1). -/
def formatFor (fmt src : Nat) : Bool :=
  match src with
  | 1 | 4 => decide (1 ≤ fmt ∧ fmt ≤ 6)
  | 2 => decide (0x10 ≤ fmt ∧ fmt ≤ 0x13)
  | 3 => decide (fmt = 0x20 ∨ fmt = 0x21)
  | _ => false
def ringTexel (fmt : Nat) : Nat :=
  match fmt with
  | 1 => 4 | 2 => 3 | 3 => 8 | 4 => 4 | 5 => 2 | 6 => 1 | _ => 0

def State.layerChecks (s : State) (w : Twin) (l : Nat) : List Chk :=
  let v := fun off n => s.layerE w l off n
  let src := v 0 1
  if src = 0 then [rng 5 (v 5 1) 0 3, s.rs w 8 1 l 36 28]
  else
    let ring := fun (k : Nat) => (s.layerE w k 24 8, s.layerE w k 1 1 * s.layerE w k 32 4)
    let host : Nat → Bool := fun k => decide (s.layerE w k 0 1 = 1 ∨ s.layerE w k 0 1 = 4)
    let isRing : Bool := host l
    let sw := v 12 2
    let sh := v 14 2
    [rng 0 src 1 4, rng 1 (v 1 1) 1 4, fld 2 (formatFor (v 2 1) src), rng 3 (v 3 1) 0 4,
      fld 4 (decide (v 4 1 ≤ 15) && !(List.range 16).any (fun k => decide (k < l) && decide (s.layerE w k 0 1 ≠ 0) &&
        decide (s.layerE w k 4 1 = v 4 1))), rng 5 (v 5 1) 0 3,
      rng 8 (v 8 4) 0 (match src with | 2 => 7 | 3 => 16383 | _ => 0), rng 12 sw 1 16384,
      fld 12 (decide (src ≠ 2) || decide (sw = s.ent w 5 2 (v 8 4) 4 2)), rng 14 sh 1 16384,
      fld 14 (decide (src ≠ 2) || decide (sh = s.ent w 5 2 (v 8 4) 6 2)),
      fld 16 (v 16 2 < s.canvasW w), fld 18 (v 18 2 < s.canvasH w), rng 20 (v 20 2) sw (16 * sw), rng 22 (v 22 2) sh (16 * sh),
      fld 24 (if isRing then decide (v 24 8 % 4096 = 0) else decide (v 24 8 = 0)),
      fld 32 (if isRing then decide (v 32 4 % 4096 = 0) else decide (v 32 4 = 0)),
      (32, !isRing || (decide ((ring l).1 + (ring l).2 ≤ 0x700000000) && decide (sw * sh * ringTexel (v 2 1) ≤ v 32 4) &&
        !(List.range 16).any (fun k => decide (k < l) && host k && overlaps (ring k).1 (ring k).2 (ring l).1 (ring l).2)), 0x0E),
      s.rs w 8 1 l 36 28]

/-- WIRE_ORDER names each emitter once (R196). -/
def wireOrderOk (v n : Nat) : Bool :=
  decide (v < 2 ^ 18) && (List.range 6).all (fun p => if p < n then
      decide (v / 8 ^ p % 8 < n) && (List.range p).all (fun q => decide (v / 8 ^ q % 8 ≠ v / 8 ^ p % 8))
    else decide (v / 8 ^ p % 8 = 0))

def State.profChecks (s : State) (w : Twin) (p : Nat) : List Chk :=
  let v := fun off n => s.prof w p off n
  let e := v 0 1
  let fmt := v 1 1
  let proren : Bool := decide (fmt = 1 ∨ fmt = 2)
  let temp := fun (off : Nat) => let t := toSigned 16 (v off 2); decide (-640 ≤ t ∧ t ≤ 2000)
  let rows := (List.range 6).flatMap (fun i => if i < e then [] else
    (List.range 4).map (fun j => fld (24 + 8 * i + 2 * j) (v (24 + 8 * i + 2 * j) 2 = 0)))
  let blocks := (List.range 6).flatMap (fun i =>
    let b := 72 + 8 * i
    if i < e then
      [fld (b + 3) (if proren then decide (v (b + 3) 1 ≠ 0) else decide (v (b + 3) 1 = 0)), fld (b + 4) (temp (b + 4)), fld (b + 6) (temp (b + 6)),
        fld (b + 6) (decide (v (b + 1) 1 = v (b + 2) 1) || decide (toSigned 16 (v (b + 4) 2) < toSigned 16 (v (b + 6) 2)))]
    else [fld b (v b 1 = 0), fld (b + 1) (v (b + 1) 1 = 0), fld (b + 2) (v (b + 2) 1 = 0), fld (b + 3) (v (b + 3) 1 = 0),
      fld (b + 4) (v (b + 4) 2 = 0), fld (b + 6) (v (b + 6) 2 = 0)])
  let mode := v 244 1
  [rng 0 e 1 6, rng 1 fmt 1 6, fld 2 (v 2 1 = 0 ∨ e * wordBytes fmt ≤ v 2 1), fld 4 (wireOrderOk (v 4 3) e), s.rs w 9 0 p 7 1,
    rng 8 (v 8 2) (if fmtKind fmt = 3 then 1 else 0) (if fmtKind fmt = 3 then 512 else 0), s.rs w 9 0 p 10 6,
    rng 19 (v 19 1) 0 (if proren then 1 else 0), fld 20 ((proren && !bitAt (v 19 1) 0) || decide (v 20 2 = 0)), s.rs w 9 0 p 22 2] ++
    rows ++ blocks ++
    [s.rs w 9 0 p 120 120, fld 240 (proren || decide (v 240 2 = 0)),
      fld 242 (decide (v 242 1 = 0) || (proren && decide (6 ≤ v 242 1 ∧ v 242 1 ≤ 63))), fld 243 (proren || decide (v 243 1 = 0)),
      fld 244 (decide (mode ≤ 2) && (proren || decide (mode = 2))), fld 244 (!proren || decide (mode = 2) || decide (1000 ≤ v 240 2)),
      s.rs w 9 0 p 245 1, s.rs w 9 0 p 252 4]

def State.globalChecks (s : State) (w : Twin) : List Chk :=
  let t := toSigned 16 (s.profGlobal w 4)
  [rng 0 (s.profGlobal w 0) 1 65535, rng 2 (s.profGlobal w 2) 1 65535, fld 4 (-640 ≤ t ∧ t ≤ 2000), s.rs w 9 1 0 8 24]

def State.curveChecks (s : State) (w : Twin) (c : Nat) : List Chk :=
  (List.range 1024).map (fun i => fld (4 * i) (s.ent w 10 0 c (4 * i) 4 < 2 ^ 20))

def State.mapChecks (s : State) (w : Twin) (m : Nat) : List Chk :=
  let v := fun off n => s.mapE w m off n
  (if s.mapUsed w m then [rng 4 (v 4 1) 0 2] else []) ++ [rng 6 (v 6 2) 0 3, fld 8 (v 8 4 < 2 ^ 24), s.rs w 11 0 m 12 4]

/-- The longest slice of a kind (Table 7-1). -/
def sliceMax (kind : Nat) : Nat := match kind with | 1 => 589824 | 2 => 98304 | _ => 512

def State.fixtChecks (s : State) (w : Twin) (inFile : List Nat) (f : Nat) : List Chk :=
  let v := fun off n => s.fix w f off n
  let kind := v 0 1
  if kind = 0 then [rng 1 (v 1 1) 0 7, s.rs w 12 0 f 15 1, s.rs w 12 0 f 34 6, s.rs w 12 0 f 48 16]
  else
    let p := s.fixProfile w f
    let e := s.profEmitters w p
    let known : Bool := decide (p ≤ 4095) && decide (e ≠ 0)
    let (_, at_) := s.fixSlice w f
    let twice := clashes (s.fixtures w) inFile f (fun j => decide (s.fixKind w j = 1) && decide (s.fixPort w j = s.fixPort w f) &&
      decide (s.fixNode w j = s.fixNode w f))
    [rng 0 kind 1 3, rng 1 (v 1 1) (if kind = 1 then 0 else v 1 1 / 2 * 2) 7, rng 2 p 0 4095, rng 4 (v 4 1) 0 (if kind = 3 then 0 else 127), rng 5 (v 5 1) 1 64,
      rng 6 (v 6 2) 0 (if kind = 1 then 4095 else 0), fld 6 (decide (kind ≠ 1) || !twice),
      fld 8 (decide (kind ≠ 3) || (decide (v 8 4 < 2 ^ 25) && decide (v 8 4 / 2 ^ 14 % 4 = 0) && decide (1 ≤ v 8 4 / 2 ^ 16 ∧ v 8 4 / 2 ^ 16 ≤ 512))),
      fld 8 (!known || (decide (kind = 3) && decide (s.outDest w (v 8 4 % 16384) = 0)) || decide (at_ + s.regionLen w f ≤ (if kind = 3 then min 512 (s.outSlots w (v 8 4 % 16384)) else sliceMax kind))),
      fld 8 (!known || decide (kind ≠ 3) || decide (s.cellOfs w p + s.fixPixels w f * s.stride w p ≤ s.regionLen w f)),
      fld 12 (v 12 2 ≤ 4095 ∨ v 12 2 = 0xFFFF), s.rs w 12 0 f 15 1] ++
      (List.range 6).map (fun i => fld (16 + 2 * i) (!known || decide (i < e) || decide (v (16 + 2 * i) 2 = 0))) ++
      [s.rs w 12 0 f 34 6, s.rs w 12 0 f 48 16]

def State.patchChecks (s : State) (w : Twin) (i : Nat) : List Chk :=
  let v := fun off n => s.patchE w i off n
  let src := v 2 2
  let cnt := s.patchCount w i
  let dst := s.patchDst w i
  let slots := s.outSlots w (v 4 2)
  if !s.patchUsed w i then [fld 0 (v 0 2 < 0x4000), fld 2 (src < 2048)]
  else
    [fld 0 (v 0 2 < 0x4000 ∨ v 0 2 = 0xFFFF), fld 2 (src < 2048), fld 2 (if s.patchConst w i then !bitAt src 8 else decide (src % 512 ≤ 512)),
      rng 4 (v 4 2) 0 16383, rng 6 dst 1 512, fld 6 (s.patchConst w i || decide (src % 512 + cnt - 1 ≤ 512)),
      fld 6 (decide (s.outDest w (v 4 2) = 0) || decide (dst + cnt - 1 ≤ slots)), fld 6 (!bitAt src 10 || decide (cnt % 2 = 0))]

def State.outChecks (s : State) (w : Twin) (u : Nat) : List Chk :=
  let v := fun off n => s.outE w u off n
  let d := v 2 1
  if d = 0 then [rng 7 (v 7 1) 0 3, s.rs w 13 1 u 10 6]
  else
    [rng 2 d 1 2, fld 2 (if d = 1 then decide (1 ≤ v 0 2 ∧ v 0 2 ≤ 63999) else decide (v 0 2 = 0)),
      rng 3 (v 3 1) 0 (if d = 1 then 15 else 127), rng 4 (v 4 2) 1 512, rng 6 (v 6 1) 0 (if d = 1 then 200 else 0), rng 7 (v 7 1) 0 3,
      rng 8 (v 8 2) 0 (if d = 1 then 63999 else 0), s.rs w 13 1 u 10 6]

/-- The conditions of an entry in step 6. -/
def State.entryChecks (s : State) (w : Twin) (ty inst : Nat) (inFile : List Nat) (i : Nat) : List Chk :=
  match ty, inst with
  | 1, _ => s.timeChecks w
  | 2, _ => s.powerChecks w
  | 3, _ => s.bankChecks w i
  | 4, 0 => s.queueChecks w i
  | 4, _ => s.flowChecks w i
  | 5, 0 => s.netChecks w i
  | 5, 1 => s.univChecks w inFile i
  | 5, 2 => s.stChecks w i
  | 5, _ => s.wakeChecks w i
  | 6, _ => s.portChecks w i
  | 7, _ => s.periChecks w
  | 8, 0 => s.canvasChecks w
  | 8, _ => s.layerChecks w i
  | 9, 0 => s.profChecks w i
  | 9, _ => s.globalChecks w
  | 10, _ => s.curveChecks w i
  | 11, _ => s.mapChecks w i
  | 12, _ => s.fixtChecks w inFile i
  | 13, 0 => s.patchChecks w i
  | 13, _ => s.outChecks w i
  | _, _ => []

/-- The tables in the order of Table 4-4. -/
def tableOrder : List (Nat × Nat) :=
  [(1, 0), (2, 0), (3, 0), (4, 0), (4, 1), (5, 0), (5, 1), (5, 2), (5, 3), (6, 0), (7, 0), (8, 0), (8, 1), (9, 0), (9, 1), (10, 0), (11, 0),
    (12, 0), (13, 0), (13, 1)]
def requiredTables : List (Nat × Nat) := [(1, 0), (2, 0), (3, 0), (4, 0), (5, 0), (6, 0)]

/-- The entries of a table that a file covers, in ascending index, with the section of each. -/
def coveredBy (secs : List DirEnt) (ty inst : Nat) : List (DirEnt × Nat) :=
  (sortBy (fun a b => decide (a.first < b.first)) (secs.filter (fun d => decide (d.ty = ty) && decide (d.inst = inst)))).flatMap
    (fun d => (List.range d.count).map (fun j => (d, d.first + j)))

/-- Where an entry lies in the file. -/
def entryAt (d : DirEnt) (i : Nat) : Nat := d.off + (i - d.first) * entrySize d.ty d.inst

/-- The entries of a table of many entries in ascending index: those of the file and, for the conditions that they share with others, every
used one; an entry outside the file is reported at 0. -/
def walkTable (cov : List (DirEnt × Nat)) (checks : Nat → List Chk) (w : Twin) (ty inst : Nat) (s : State) : Option Bad :=
  (sortBy (fun a b => decide (a < b)) (s.usedEntries w ty inst)).findSome? (fun i =>
    match cov.find? (fun e => e.2 = i) with
    | some (d, _) => chkFirst (entryAt d i) (d.ix % 256) (checks i)
    | none => (chkFirst 0 0xFF (checks i)).map (fun b => (b.1, 0, 0xFF)))

/-- Step 6: `s` holds the image that would be in effect. A required section is absent when the directory names none (R111). -/
def sectionsBad (secs : List DirEnt) (whole : Bool) (w : Twin) (s : State) : Option Bad :=
  tableOrder.findSome? (fun (ty, inst) =>
    let cov := coveredBy secs ty inst
    let here : Bool := secs.any (fun d => decide (d.ty = ty) && decide (d.inst = inst))
    if whole && requiredTables.contains (ty, inst) && !here then some (0x0F, 0, 0xFF)
    else
      let checks := s.entryChecks w ty inst (cov.map (·.2))
      let bad := if entryCount ty inst = 1 then cov.findSome? (fun (d, i) => chkFirst (entryAt d i) (d.ix % 256) (checks i))
        else walkTable cov checks w ty inst s
      bad.orElse (fun _ =>
        if ty = 4 ∧ inst = 0 ∧ cov ≠ [] ∧ 1048576 < ((List.range 64).map (fun q => s.qDepth w q)).sum then some (0x0E, 0, 0xFF) else none))

/-! ### Step 7: references and cross-table conditions (R115, R119, R198, R204, R211, R317) -/

/-- A reference holds. -/
def ref (off : Nat) (b : Bool) : Chk := (off, b, 0x0D)

/-- The references of an entry; a base in SLAVE or MASTER mode names its PTP port (DEDUCED, notes/assumptions/37.md); `curves` are the slots that CURVE sections cover. -/
def State.refChecks (s : State) (w : Twin) (curves : List Nat) (ty inst i : Nat) : List Chk :=
  let slotOk : Nat → Bool := fun c => decide (c < 4) || curves.contains c
  let netOk : Nat → Nat → Bool := fun n bit => decide (n < 4) && decide (s.netMode w n ≠ 0) && s.netFlag w n bit
  match ty, inst with
  | 1, _ => [0, 1].map (fun n => let b := 32 + 32 * n
      ref (b + 1) (decide (s.imgTime w b 1 ≠ 1 ∧ s.imgTime w b 1 ≠ 2) || decide (s.netMode w (s.imgTime w (b + 1) 1) ≠ 0)))
  | 3, _ => [ref 1 (decide (s.imgBank w i 0 ≠ 5) || decide (s.imgBank w i 1 ≤ 15))]
  | 4, 0 => if s.qUsed w i then [ref 2 (s.ent w 4 0 i 2 1 ≤ 95)] else []
  | 4, 1 => if s.flowWindow w i = 0 then [] else [ref 2 (s.qUsed w (s.flowQueue w i))]
  | 5, 1 => [ref 2 ((List.range 4).all (fun n => !bitAt (s.ent w 5 1 i 2 1) n || netOk n 2))]
  | 5, 2 => [ref 0 (netOk (s.ent w 5 2 i 0 1) 3)]
  | 5, 3 => [ref 0 (s.ent w 5 3 i 0 1 < 4 ∧ s.netMode w (s.ent w 5 3 i 0 1) ≠ 0)]
  | 8, 1 =>
    let x := s.layerE w i 8 4
    match s.layerE w i 0 1 with
    | 2 => [ref 8 ((s.usedEntries w 5 2).contains x)]
    | 3 =>
      let t := if s.layerE w i 2 1 = 0x21 then 85 else 170
      [ref 8 ((List.range (ceilDiv (s.layerE w i 12 2 * s.layerE w i 14 2) t)).all (fun j => (s.usedEntries w 5 1).contains (x + j)))]
    | _ => []
  | 9, 0 =>
    if s.profEmitters w i = 0 then []
    else [ref 16 (slotOk (s.prof w i 16 1)), ref 17 (slotOk (s.prof w i 17 1)), ref 18 (slotOk (s.prof w i 18 1))] ++
      (List.range (s.profEmitters w i)).flatMap (fun e => (List.range 3).map (fun j =>
        ref (72 + 8 * e + j) (slotOk (s.emitterF w i e j 1))))
  | 11, _ => if s.mapUsed w i then [ref 8 (s.fixKind w (s.mapFixture w i) ≠ 0)] else []
  | 12, _ =>
    let p := s.fixProfile w i
    match s.fixKind w i with
    | 0 => []
    | 1 => [ref 2 (p ≤ 4095 ∧ s.profEmitters w p ≠ 0), ref 2 (fmtKind (s.outFmt w p) = 1), ref 4 (s.personality w (s.fixPort w i) = 1)]
    | 2 => [ref 2 (p ≤ 4095 ∧ s.profEmitters w p ≠ 0), ref 2 (fmtKind (s.outFmt w p) = 2),
        ref 4 (s.personality w (s.fixPort w i) = 3 ∨ s.personality w (s.fixPort w i) = 4)]
    | _ => [ref 2 (p ≤ 4095 ∧ s.profEmitters w p ≠ 0), ref 2 (fmtKind (s.outFmt w p) = 3), ref 8 (s.outDest w (s.fixBase w i % 16384) ≠ 0)]
  | 13, 0 =>
    if s.patchUsed w i then
      [ref 0 (s.patchConst w i || (s.usedEntries w 5 1).contains (s.patchE w i 0 2)), ref 4 (s.outDest w (s.patchE w i 4 2) ≠ 0)]
    else []
  | 13, 1 =>
    if s.outDest w i = 1 then
      [ref 3 ((s.outPorts w i).all (fun n => decide (s.netMode w n ≠ 0) && s.netFlag w n (if s.outV6 w i then 1 else 0)))]
    else []
  | _, _ => []

/-- The bytes of a fixture's region, and the slots that a map entry's cell takes. -/
def State.region (s : State) (w : Twin) (f : Nat) : Nat × Nat × Nat := let x := s.fixSlice w f; (x.1, x.2, s.regionLen w f)
def State.cell (s : State) (w : Twin) (m : Nat) : Nat × Nat × Nat :=
  let f := s.mapFixture w m
  let p := s.fixProfile w f
  ((s.fixSlice w f).1, s.cellAt w m, s.profEmitters w p * wordBytes (s.outFmt w p))

/-- The cross-table conditions that an entry completes (R204, R211), in the order listed there. -/
def State.crossChecks (s : State) (w : Twin) (ty inst i : Nat) : List Chk :=
  match ty, inst with
  | 11, _ =>
    if !s.mapUsed w i then []
    else
      let twice := (s.maps w).any (fun m => decide (m < i) && decide (s.mapFixture w m = s.mapFixture w i) && decide (s.mapPixel w m = s.mapPixel w i))
      [fld 0 (!twice), fld 0 (s.mapE w i 0 2 ≤ 4 * (s.canvasW w - 1) ∧ s.mapE w i 2 2 ≤ 4 * (s.canvasH w - 1)),
        fld 0 (s.mapE w i 4 1 = 2 ∨ s.mapE w i 5 1 = 0)]
  | 12, _ =>
    if s.fixKind w i = 0 then []
    else
      let r := s.region w i
      [fld 0 ((s.maps w).all (fun m => decide (s.mapFixture w m ≠ i) || decide (s.mapPixel w m < s.fixPixels w i))),
        fld 0 ((s.fixtures w).all (fun f => !(decide (f < i) && (let q := s.region w f; decide (q.1 = r.1) && overlaps q.2.1 q.2.2 r.2.1 r.2.2))))]
  | 13, 0 =>
    if !s.patchUsed w i then []
    else [fld 0 ((s.maps w).all (fun m => let c := s.cell w m
      !(decide (c.1 = 128 + s.patchE w i 4 2) && overlaps c.2.1 c.2.2 (s.patchDst w i - 1) (s.patchCount w i))))]
  | 13, 1 =>
    let lower := (s.outs w).filter (fun u => decide (u < i))
    match s.outDest w i with
    | 1 => [ref 0 (lower.all (fun u => !(decide (s.outDest w u = 1) && decide (s.outE w u 0 2 = s.outE w i 0 2))))]
    | 2 => [ref 0 (s.personality w (s.outE w i 3 1) = 2),
        ref 0 (lower.all (fun u => !(decide (s.outDest w u = 2) && decide (s.outE w u 3 1 = s.outE w i 3 1))))]
    | _ => []
  | _, _ => []

/-- Step 7 over the image that would be in effect: an entry outside the file is reported at 0. -/
def tablesBad (secs : List DirEnt) (checks : Nat → Nat → Nat → List Chk) (w : Twin) (s : State) : Option Bad :=
  tableOrder.findSome? (fun (ty, inst) =>
    walkTable (coveredBy secs ty inst) (checks ty inst) w ty inst s)

/-- A DMX port that no output universe names (R211), reported after every other condition at its PORT entry. -/
def dmxUnnamed (secs : List DirEnt) (w : Twin) (s : State) : Option Bad :=
  match (portsWith s w 2).find? (fun p => (s.dmxUniv w p).isNone) with
  | some p =>
    (match (coveredBy secs 6 0).find? (fun e => e.2 = p) with
      | some (d, _) => some (0x0D, entryAt d p, d.ix % 256)
      | none => some (0x0D, 0, 0xFF))
  | none => none

/-- Steps 6 and 7 of R120 on a state that holds the image that would be in effect. -/
def contentsBad (secs : List DirEnt) (whole : Bool) (curves : List Nat) (w : Twin) (s : State) : Option Bad :=
  (sectionsBad secs whole w s).orElse (fun _ =>
    (tablesBad secs (s.refChecks w curves) w s).orElse (fun _ =>
      (tablesBad secs (s.crossChecks w) w s).orElse (fun _ => dmxUnnamed secs w s)))

/-- Puts the entries of a file's sections into a twin's image. -/
def writeSections (rd : Nat → Byte) (secs : List DirEnt) (w : Twin) (s : State) : State :=
  (secs.filter (fun d => decide (d.ty ≠ 0x8000))).foldl (fun x d =>
    x.wrBytes (entryAddr w d.ty d.inst d.first) (fileBytes rd d.off d.len)) s

/-- The slots that a file's CURVE sections cover. -/
def fileCurves (secs : List DirEnt) : List Nat := (coveredBy secs 10 0).map (·.2)

end Sys2Proof.Machine
end

