-- ==== Sys2Proof/Machine/Rejor.lean ====
section
/-!
DEFINITION. The Rejor image (chapter 4): the whole load of R121 and R122, and grafts (R124 to R131).
-/
namespace Sys2Proof.Machine

/-! ### The image in a twin -/

/-- The values of one-entry sections that are absent (Tables 4-16, 4-17, 4-19). -/
def defaultEntries (w : Twin) (s : State) : State :=
  let s1 := s.wrBytes (entryAddr w 7 0 0) ([0, 0] ++ leBytes 2 1000 ++ leBytes 2 240)
  let s2 := s1.wrBytes (entryAddr w 8 0 0) (leBytes 2 16384 ++ leBytes 2 16384 ++ leBytes 2 1)
  s2.wrBytes (entryAddr w 9 1 0) (leBytes 2 240 ++ leBytes 2 120 ++ leBytes 2 400 ++ leBytes 2 65535)

/-- A twin holds a whole image and nothing of an earlier one (R112). -/
def wholeImage (rd : Nat → Byte) (secs : List DirEnt) (w : Twin) (s : State) : State :=
  writeSections rd secs w (defaultEntries w (s.resetMem (fun a => decide (Addr.img w 0 0 0 ≤ a ∧ a < Addr.img w 0 0 0 + Addr.imgSpan))))

/-- The default fields of the layers and the grand master become shadows and values in effect (R103, R104). -/
def imageDefaults (w : Twin) (s : State) : State :=
  let s1 := (List.range 16).foldl (fun x l => (layerShadows w l x).live w l (x.layerDefaults w l)) s
  let gm := s1.profGlobal w 6
  (s1.sf (Reg.COLR_GM w) Fld.COLR_GM_LEVEL gm).sf (Reg.COLR_LIVE_GM w) Fld.COLR_LIVE_GM_LEVEL gm

/-- A twin builds its tables from a whole image (step 4 of R121): banks, Curve Store, defaults, and what starts with the load (R174, R279,
R289, R309). -/
def buildTwin (w : Twin) (curves : List Nat) (id : Nat) (s : State) : State :=
  let s1 := loadBanks w s
  let s2 := freshSlots w curves (s1.modCurves w (fun v => { v with covered := curves, writing := [], pos := 0 }))
  let s3 := imageDefaults w s2
  let s4 := (portsWith s3 w 1).foldl (fun x p => requestEnum p w x) s3
  let s5 := (portsWith s4 w 2).foldl (fun x p => if bitAt (x.param w p 10 1) 0 then startDisc p w x else x) s4
  watchSpare w ((s5.modTw w (fun t => { t with loadFirst := true })).setReg (Reg.REJ_IMAGE w) (BitVec.ofNat 32 id))

/-- The check of a Rejor slot for a whole load (R120): the failure, if any. -/
def wholeBad (rd : Nat → Byte) (room : Nat) (s : State) : Option Bad :=
  (headerBad rd false 0 room s).orElse (fun _ => (signatureBad rd true s).orElse (fun _ => (directoryBad rd).orElse (fun _ =>
    (crcsBad rd).orElse (fun _ =>
      let secs := fileSections rd
      contentsBad secs true (fileCurves secs) .a (wholeImage rd secs .a s)))))

/-! ### The whole load (R121, R122) -/

/-- PERI values of a twin's image in the Thallus (R121). -/
def periImage (w : Twin) (s : State) : State :=
  let s1 := s.sf Reg.PERI_CFG Fld.PERI_CFG_BLOCK (s.ent w 7 0 0 0 1)
  (s1.sf Reg.PERI_IMG Fld.PERI_IMG_GRACE_US (s1.ent w 7 0 0 2 2)).sf Reg.PERI_IMG Fld.PERI_IMG_SETTLE (s1.ent w 7 0 0 4 2)

/-- The operating points that the POWER section gives (R123). -/
def powerImage (w : Twin) (s : State) : State :=
  (s.sf Reg.PWR_OPP Fld.PWR_OPP_RUN_OPP (s.imgPower w 1 1)).sf Reg.PWR_OPP Fld.PWR_OPP_DIM_OPP (s.imgPower w 2 1)

/-- The part enters RUN (1) or DIM (2); the change to its operating point is made at a tick (R453). -/
def enterState (st : Nat) (s : State) : State :=
  let s1 := s.sf Reg.PWR_STAT Fld.PWR_STAT_STATE st
  { s1 with pwr := { s1.pwr with oppWait := some 0 } }

/-- What a wake from DARK restores at the end of its load in place of the image's values (R102, R465): the tick on its chosen base with the
number that follows the saved one, and the state before the sleep. The tick realigns under R95 with this instant as tick k's
(notes/assumptions/38.md). -/
def restoreTick (v : Saved) (s : State) : State :=
  let n := if s.tbUsable s.chosenBase then s.chosenBase else 3
  let (next, d) := nextTick true ((s.tb n).ns s.now) s
  let cur : TickAt := { v.tg.cur with raw := s.now, base := n, flags := 0, counts := [s.tbNow 0, s.tbNow 1, s.tbNow 2, s.tbNow 3] }
  let s1 := { s with
    tg := { TickGen.reset with ran := true, base := n, next := next, latchK := (cur.k + 1) % 2 ^ 32, zeroAt := s.now, dlDone := true, cur := cur, prev := cur }
    pwr := { s.pwr with saved := none } }
  let s2 := ((s1.sf Reg.TGEN_SRC_STAT Fld.TGEN_SRC_STAT_CUR n.val).sb Reg.TGEN_SRC_STAT Fld.TGEN_SRC_STAT_PROTONEMA false).sf
    Reg.TGEN_SRC_STAT Fld.TGEN_SRC_STAT_LAST_D d
  judgePlaced (showWaiting (enterState v.before (s2.raiseTh 20 d)))

/-- The registers of a base's block of a TIME section (Table 4-6), read by `v` at an offset of the section. -/
def baseImage (v : Nat → Nat → Nat) (n : Fin 4) (s : State) : State :=
  let b := 32 + 32 * n.val
  let s1 := s.writeMode n (v b 1)
  let s2 := (s1.sb (Reg.TB_STEP_CTL n.val) Fld.TB_STEP_CTL_STEP_LOCKED (bitAt (v (b + 3) 1) 0)).sf (Reg.TB_STEP_CTL n.val)
    Fld.TB_STEP_CTL_STEP_THRESH (v (b + 12) 4)
  let s3 := (s2.setReg (Reg.TB_THRESH n.val) (BitVec.ofNat 32 (v (b + 8) 4))).setReg (Reg.TB_SLEW n.val) (BitVec.ofNat 32 (v (b + 16) 4))
  let s4 := s3.setReg (Reg.TB_TIMEOUT n.val) (BitVec.ofNat 32 (v (b + 20) 4))
  if n = 2 then s4.setReg Reg.TB2_LTC_CTL (BitVec.ofNat 32 (v (b + 24) 4)) else s4

/-- The shadows of the tick generator, the chosen base and the bases from a TIME section (R56, R77, R113). -/
def timeImage (v : Nat → Nat → Nat) (s : State) : State :=
  let s1 := (s.setReg Reg.TGEN_RATE (BitVec.ofNat 32 (v 0 4))).sf Reg.TGEN_CDL Fld.TGEN_CDL_PERMILLE (v 4 2)
  let s2 := (s1.setReg Reg.TGEN_LOFS (BitVec.ofNat 32 (v 8 4))).sf Reg.TGEN_SRC Fld.TGEN_SRC_TB (v 6 1)
  [0, 1, 2].foldl (fun x n => baseImage v n x) s2

/-- The minimal configuration (R122). -/
def minimalConfig (s : State) : State :=
  let s1 := s.each (fun _ => true) (fun w x => (buildTwin w [] 0 (wholeImage (fun _ => 0) [] w x)))
  let s2 := enterState 1 (periImage .a (s1.sb Reg.OUT_CTL Fld.OUT_CTL_HOLD true))
  (armTick (s2.sf Reg.REJ_LOAD_STAT Fld.REJ_LOAD_STAT_SRC 2)).raiseTh 29 2

def slotErr (slot : Nat) : Fld := if slot = 0 then Fld.REJ_LOAD_STAT_SLOT0_ERR else Fld.REJ_LOAD_STAT_SLOT1_ERR

/-- Step 2 of R121: the bytes of the image as its header gives their number, in the staging area of both twins. -/
def stageImage (rd : Nat → Byte) (s : State) : State :=
  let bytes := fileBytes rd 0 (fileN rd 8 4)
  s.each (fun _ => true) (fun w x => x.wrBytes (Addr.dram w 0x7C0000000) bytes)

/-- Steps 1 to 4 of R121 on one slot: the image is in both twins, or the failure is recorded. Answers whether it was accepted. -/
def trySlot (slot : Nat) (s : State) : Bool × State :=
  let rd : Nat → Byte := fun i => s.flashB (s.rejBase slot + i)
  let s0 := if (headerBad rd false 0 s.rejSize s).isNone then stageImage rd s else s
  match wholeBad rd s.rejSize s with
  | some b => (false, (s0.sf Reg.REJ_LOAD_STAT (slotErr slot) b.1).setReg Reg.REJ_LOAD_ERR_AT (BitVec.ofNat 32 b.2.1))
  | none =>
    let secs := fileSections rd
    (true, s0.each (fun _ => true) (fun w x => buildTwin w (fileCurves secs) (fileN rd 12 4) (wholeImage rd secs w x)))

/-- The load that begins at a release (R121, R122): steps 1 to 4, the fallback, and the minimal configuration (notes/assumptions/14.md). -/
def beginLoad (s : State) : State :=
  let s0 := s.setReg Reg.REJ_LOAD_STAT 3
  let p := s0.rf Reg.REJ_BOOT Fld.REJ_BOOT_PRIMARY
  match trySlot p s0 with
  | (true, s1) => s1
  | (false, s1) =>
    if s1.rb Reg.REJ_BOOT Fld.REJ_BOOT_FALLBACK then
      match trySlot (1 - p) s1 with
      | (true, s2) => s2
      | (false, s2) => minimalConfig s2
    else minimalConfig s1

/-- The slot whose image the twins hold. -/
def State.loadedSlot (s : State) : Nat :=
  let p := s.rf Reg.REJ_BOOT Fld.REJ_BOOT_PRIMARY
  if s.rf Reg.REJ_LOAD_STAT (slotErr p) = 0 then p else 1 - p

/-- Steps 5 and 6 of R121 by the ACTIVE twin `w`; after a wake from DARK, without the values that it restored (R465). -/
def finishLoad (w : Twin) (s : State) : State :=
  let p := s.rf Reg.REJ_BOOT Fld.REJ_BOOT_PRIMARY
  let slot := s.loadedSlot
  let s4 := match s.pwr.saved with
    | some v => restoreTick v ((periImage w s).setReg Reg.PERI_CFG (s.reg Reg.PERI_CFG))
    | none =>
      let s1 := (timeImage (fun o n => s.imgTime w o n) s).wr64 Reg.TGEN_PHASE (s.imgTime w 12 8)
      let s2 := periImage w (powerImage w s1)
      armTick (enterState (if s2.imgPower w 0 1 = 1 then 2 else 1) s2)
  let s5 := (s4.sf Reg.REJ_LOAD_STAT Fld.REJ_LOAD_STAT_SRC slot).sf Reg.REJ_LOAD_STAT Fld.REJ_LOAD_STAT_LOAD_MS
    (min 4095 ((s4.now - s4.dev.releasedAt) / 1000000))
  let s6 := s5.setReg Reg.REJ_LOAD_ID (s5.reg (Reg.REJ_IMAGE w))
  let s7 := s6.each (fun x => decide (s6.roleOf x ≠ .off)) (fun x y => (List.range 4).foldl (fun z n => scheduleState x n none z) y)
  let s8 := if slot = p then s7 else s7.raiseTh 29 slot
  s8.each (fun x => decide (s8.roleOf x ≠ .off)) (fun x y => y.raiseTwin x 248 0)

/-- REJ_LOADED (R121): nothing while no twin is ACTIVE or no load is under way. -/
def execRejLoaded (t : Nat) (s : State) : Host.Outcome State Fault Refusal :=
  let s1 := s.beginAt t
  match s1.active with
  | some w => if s1.rf Reg.REJ_LOAD_STAT Fld.REJ_LOAD_STAT_SRC = 3 ∧ !s1.dev.inReset then .next (finishLoad w s1) else .next s1
  | none => .next s1

/-! ### Grafts: staging and arming (R124 to R126, R131) -/

def State.graftState (s : State) (w : Twin) : Nat := s.rf (Reg.REJ_GRAFT_STAT w) Fld.REJ_GRAFT_STAT_STATE
def setGraftState (w : Twin) (v : Nat) (s : State) : State := s.sf (Reg.REJ_GRAFT_STAT w) Fld.REJ_GRAFT_STAT_STATE v

/-- What a refusal shows (R128): REASON, SECTION, the offset, REFUSED and E250. -/
def showRefusal (b : Bad) (w : Twin) (s : State) : State :=
  let r := Reg.REJ_GRAFT_STAT w
  let s1 := ((s.sf r Fld.REJ_GRAFT_STAT_REASON b.1).sf r Fld.REJ_GRAFT_STAT_SECTION b.2.2).sb r Fld.REJ_GRAFT_STAT_REFUSED true
  (s1.setReg (Reg.REJ_GRAFT_ERR_AT w) (BitVec.ofNat 32 b.2.1)).raiseTwin w 250 b.1

/-- The curve slots that a twin took over in WRITING at its join (R260) leave it with the graft of the other twin, whose points they take. -/
def releaseOther (w : Twin) (cs : List Nat) (s : State) : State :=
  let o := w.other
  if (s.tw o).graft.isSome || !s.computes o then s
  else
    let mine := cs.filter (fun c => (s.tw o).curves.writing.contains c)
    let s1 := mine.foldl (fun x c => x.wrBytes (entryAddr o 10 0 c) (x.entBytes w 10 0 c 0 4096)) s
    freshSlots o mine (s1.modCurves o (fun v => { v with writing := v.writing.filter (fun c => !mine.contains c) }))

/-- The curve slots of a staged graft leave WRITING (R258, R259); when it was refused, a slot that was SPARE has its points back. -/
def releaseSlots (restore : Bool) (w : Twin) (g : Graft) (s : State) : State :=
  let cs := g.takes.map (·.1)
  let s1 := if restore then freshSlots w (g.slots.map (·.1)) (g.slots.foldl (fun x e => x.wrBytes (entryAddr w 10 0 e.1) e.2) s) else s
  let s2 := s1.modCurves w (fun v => { v with writing := v.writing.filter (fun c => !cs.contains c),
                                              covered := if restore then v.covered else (v.covered ++ cs).dedup })
  if restore then releaseOther w cs s2 else s2

/-- A graft in progress is refused (R128). -/
def refuseGraft (b : Bad) (w : Twin) (s : State) : State :=
  match (s.tw w).graft with
  | none => s
  | some g =>
    let s1 := releaseSlots true w g s
    let s2 := setGraftState w 0 (s1.modTw w (fun t => { t with graft := none }))
    watchSpare w (showRefusal b w s2)

/-- A twin's graft is dropped without a word: it takes no part any more (R125, R127). -/
def forgetGraft (w : Twin) (s : State) : State :=
  match (s.tw w).graft with
  | none => s
  | some g => watchSpare w (setGraftState w 0 ((releaseSlots true w g s).modTw w (fun t => { t with graft := none })))

/-- A graft is in progress in a twin: CHECKING or ARMED. -/
def State.grafting (s : State) (w : Twin) : Bool := decide (s.graftState w = 1 ∨ s.graftState w = 2)

/-- A twin that has left the roles of R125 takes no part in the graft that it had in progress. -/
def dropGrafts (s : State) : State := s.each (fun w => !s.computes w && s.grafting w) forgetGraft

/-- A curve slot may be written by a graft (R132, R256): nothing names it, covered or not, and no graft writes it. -/
def State.slotFree (s : State) (w : Twin) (c : Nat) : Bool :=
  decide (s.curveState w c < 2) && decide (s.curveRefs w c = 0) && !s.faderRef w c

/-- The first section that cannot be grafted, or a curve slot that is not free (R132, R256). -/
def notGraftable (secs : List DirEnt) (w : Twin) (s : State) : Option Bad :=
  secs.findSome? (fun d =>
    if (d.ty = 5 ∧ d.inst = 0) ∨ d.ty = 7 then some (0x12, 64 + 32 * d.ix, d.ix % 256)
    else if d.ty = 10 then
      (if (List.range d.count).all (fun j => s.slotFree w (d.first + j)) then none else some (0x13, 64 + 32 * d.ix, d.ix % 256))
    else none)

/-- The check of a graft (R120) in one twin. -/
def graftBad (rd : Nat → Byte) (room : Nat) (w : Twin) (s : State) : Option Bad :=
  (headerBad rd true (s.reg (Reg.REJ_IMAGE w)).toNat room s).orElse (fun _ => (signatureBad rd true s).orElse (fun _ =>
    (directoryBad rd).orElse (fun _ => (crcsBad rd).orElse (fun _ =>
      let secs := fileSections rd
      (contentsBad secs false ((s.tw w).curves.covered ++ fileCurves secs) w (writeSections rd secs w s)).orElse (fun _ =>
        notGraftable secs w s)))))

/-- GO in one twin (R125): its staged bytes are taken and checked at this instant, and its curve slots enter WRITING. -/
def graftGo (w : Twin) (s : State) : State :=
  if !s.computes w then s
  else if s.graftState w ≠ 0 then showRefusal (0x16, 0, 0xFF) w s
  else
    let ofs := s.rf (Reg.REJ_GRAFT_OFS w) Fld.REJ_GRAFT_OFS_OFS * 64
    let rd : Nat → Byte := fun i => s.rdB (Addr.dram w (0x7C0000000 + ofs + i))
    let bad := graftBad rd (0x40000000 - ofs) w s
    let bytes := match bad with | none => fileBytes rd 0 (fileN rd 8 4) | some _ => []
    let takes := match bad with
      | none => ((fileSections rd).filter (fun d => decide (d.ty = 10))).flatMap (fun d =>
          (List.range d.count).map (fun j => (d.first + j, 64 + 32 * d.ix, d.ix % 256)))
      | some _ => []
    let cs := takes.map (·.1)
    let spare := cs.filter (fun c => decide (s.curveState w c = 1))
    let g : Graft := { bytes := bytes, bad := bad, armedAt := none, slots := spare.map (fun c => (c, s.entBytes w 10 0 c 0 4096)),
                       takes := takes, takenAt := s.now }
    let s1 := s.modTw w (fun t => { t with graft := some g })
    watchSpare w (setGraftState w 1 (s1.modCurves w (fun v => { v with writing := v.writing ++ cs })))

/-- A write of REJ_GRAFT_CTL.GO on a path: in NAP it waits for the end of the wake (R461). -/
def graftGoVia (via : Via) (s : State) : State :=
  if s.inNap then { s with pwr := { s.pwr with deferred := s.pwr.deferred ++ [.graftGo via] } } else s.deliver via graftGo

/-- GRAFT_GO (R125). -/
def execGraftGo (t : Nat) (via : Via) (s : State) : Host.Outcome State Fault Refusal := .next (graftGoVia via (s.beginAt t))

/-- The target tick of a graft that names one lies at or behind the present tick (R126). -/
def State.graftBehind (s : State) (w : Twin) : Bool :=
  s.rb (Reg.REJ_GRAFT_CTL w) Fld.REJ_GRAFT_CTL_AT_TICK && s.tg.ran &&
    decide ((s.tickNo + 2 ^ 32 - (s.reg (Reg.REJ_GRAFT_TICK w)).toNat) % 2 ^ 32 < 2 ^ 31)

/-- A refusal in both twins of what each has in progress. -/
def refuseBoth (b : Bad) (s : State) : State :=
  s.each (fun w => s.computes w && s.grafting w) (refuseGraft b)

/-- GRAFT_ARMED (R125): the check ends. The new curves are in their slots. -/
def execGraftArmed (t : Nat) (w : Twin) (s : State) : Host.Outcome State Fault Refusal :=
  let s1 := s.beginAt t
  match (s1.tw w).graft with
  | none => .next s1
  | some g =>
    if s1.graftState w ≠ 1 then .next s1
    else if !s1.computes w then .next (forgetGraft w s1)
    else match g.bad with
      | some b => .next (refuseGraft b w s1)
      | none =>
        let rd : Nat → Byte := fun i => g.bytes.getD i 0
        let s2 := freshSlots w (g.takes.map (·.1)) (writeSections rd ((fileSections rd).filter (fun d => decide (d.ty = 10))) w s1)
        let s3 := setGraftState w 2 (s2.modTw w (fun t => { t with graft := some { g with armedAt := some s2.now } }))
        if s3.active = some w ∧ s3.graftBehind w then .next (refuseBoth (0x14, 0, 0xFF) s3) else .next s3

/-- REJ_GRAFT_CTL.CANCEL in one twin (R131). -/
def cancelGraft (w : Twin) (s : State) : State :=
  if s.grafting w then refuseGraft (0x17, 0, 0xFF) w s else s

/-- GRAFT_CANCEL (R131). -/
def execGraftCancel (t : Nat) (via : Via) (s : State) : Host.Outcome State Fault Refusal :=
  .next ((s.beginAt t).deliver via cancelGraft)

/-- GRAFT_CATCHUP_DONE (R129). -/
def execGraftCatchupDone (t : Nat) (w : Twin) (s : State) : Host.Outcome State Fault Refusal :=
  let s1 := s.beginAt t
  if s1.graftState w = 3 then .next (setGraftState w 0 (s1.modTw w (fun t => { t with graft := none }))) else .next s1

/-! ### Grafts: the tick T (R126 to R130) -/

/-- An entry that a graft covers: type, instance, index, its section, its new bytes. -/
abbrev GraftEnt := Nat × Nat × Nat × DirEnt × List Byte

/-- The entries that a graft covers, but for USER. -/
def Graft.entries (g : Graft) : List GraftEnt :=
  let rd : Nat → Byte := fun i => g.bytes.getD i 0
  ((fileSections rd).filter (fun d => decide (d.ty ≠ 0x8000))).flatMap (fun d =>
    (List.range d.count).map (fun j =>
      (d.ty, d.inst, d.first + j, d, fileBytes rd (d.off + j * entrySize d.ty d.inst) (entrySize d.ty d.inst))))

/-- The entries that a graft changes. -/
def Graft.changes (g : Graft) (w : Twin) (s : State) : List GraftEnt :=
  g.entries.filter (fun e => decide (s.entBytes w e.1 e.2.1 e.2.2.1 0 (entrySize e.1 e.2.1) ≠ e.2.2.2.2))

/-- An item of a queue is on a core's stack, or popped and not released. -/
def State.queueBusy (s : State) (w : Twin) (q : Nat) : Bool :=
  decide (((s.tw w).sorus.queue q).used ≠ 0) || (List.range 16).any (fun c => ((s.tw w).sorus.core c).any (fun r => decide (r.q = q)))

/-- The conditions of Table 4-23 that depend on the running state hold for an entry that the graft changes. -/
def State.graftable (s : State) (w : Twin) (e : GraftEnt) : Bool :=
  let new := fun (i : Nat) => (e.2.2.2.2.getD i 0).toNat
  let i := e.2.2.1
  match e.1, e.2.1 with
  | 3, _ => decide (s.bankState w i = 0) || (decide (s.bankOwner w i = new 0) && (decide (new 0 ≠ 5) || decide (s.bankCore w i = new 1)))
  | 4, 0 => !s.queueBusy w i
  | 4, _ => decide (((s.tw w).sorus.flow i).out = 0)
  | _, _ => true

/-- The running conditions of a graft (R128). -/
def runBad (w : Twin) (g : Graft) (s : State) : Option Bad :=
  ((g.changes w s).find? (fun e => !s.graftable w e)).map (fun e => (0x12, entryAt e.2.2.2.1 e.2.2.1, e.2.2.2.1.ix % 256))

/-- What a tick does to a graft. -/
inductive GraftFate where
  | wait
  | refuse (b : Bad)
  | go (w : Twin)
deriving DecidableEq, Repr

/-- The fate of a graft at tick `k`, whose raw instant is `raw` (R126 to R128): `before` is the twin ACTIVE before the tick; the state has
its roles as they are after the tick's swaps. -/
def graftFate (before : Option Twin) (k raw : Nat) (s : State) : GraftFate :=
  match before with
  | none => .wait
  | some w0 =>
    let st := s.graftState w0
    let atTick := s.rb (Reg.REJ_GRAFT_CTL w0) Fld.REJ_GRAFT_CTL_AT_TICK
    let armed : Bool := decide (st = 2) && (match ((s.tw w0).graft.bind (·.armedAt)) with | some x => decide (x + 50000 ≤ raw) | none => false)
    let due : Bool := if atTick then decide (st = 1 ∨ st = 2) && decide ((s.reg (Reg.REJ_GRAFT_TICK w0)).toNat = k) else armed
    if !due then .wait
    else if !armed then .refuse (0x14, 0, 0xFF)
    else match s.active with
      | none => .refuse (0x15, 0, 0xFF)
      | some w =>
        if s.graftState w ≠ 2 then .refuse (0x15, 0, 0xFF)
        else match ((s.tw w).graft.bind (fun g => runBad w g s)) with
          | some b => .refuse b
          | none => .go w

/-- The TIME section of the graft that takes effect at this tick, from the ACTIVE twin `w` (R129): it acts before the tick's step 2 of
R97. -/
def graftTime (w : Twin) (s : State) : State :=
  match (s.tw w).graft with
  | none => s
  | some g =>
    match g.entries.find? (fun e => e.1 = 1) with
    | none => s
    | some e =>
      let v := fun (o n : Nat) => leNat (slice e.2.2.2.2 o n)
      let drop : Bool := s.tg.pend.isSome
      let s1 := captureTiming 0 (timeImage v s)
      let s2 := { s1 with tg := { s1.tg with phaseWrite := some (BitVec.ofNat 64 (v 12 8)) } }
      if drop then s2.each (fun x => decide (s2.graftState x = 2)) (fun x y => y.sb (Reg.REJ_GRAFT_STAT x) Fld.REJ_GRAFT_STAT_CMT_DROP true) else s2

/-- The slices that an entry writes into (R214). -/
def slicesOf (w : Twin) (s : State) (e : GraftEnt) : List Nat :=
  let i := e.2.2.1
  match e.1, e.2.1 with
  | 6, _ => i :: ((s.dmxUniv w i).map (128 + ·)).toList
  | 13, 1 => [128 + i]
  | 12, _ => if s.fixKind w i = 0 then [] else [(s.fixSlice w i).1]
  | 11, _ => if s.mapUsed w i then [(s.fixSlice w (s.mapFixture w i)).1] else []
  | 13, _ => if s.patchUsed w i then [128 + s.patchE w i 4 2] else []
  | 9, 0 => ((s.fixtures w).filter (fun f => decide (s.fixProfile w f = i))).map (fun f => (s.fixSlice w f).1)
  | _, _ => []

/-- A commit due at this tick that writes an entry which the graft replaces is discarded for it (R130): the fields that a layer's entry
gives, or the grand master of a master set. What the set carries beside them, a slot and FILTER, takes effect: so the values in effect stand
in for the entry's fields. -/
def dropCommits (w : Twin) (e : GraftEnt) (s : State) : State :=
  let mark := fun (x : State) => x.sb (Reg.REJ_GRAFT_STAT w) Fld.REJ_GRAFT_STAT_CMT_DROP true
  match e.1, e.2.1 with
  | 8, 1 =>
    let x := s.layer w e.2.2.1
    (match x.next with
      | some c => match c.vals with
        | some v => mark (s.setLayer w e.2.2.1 { x with next := some { c with vals := some { s.liveVals w e.2.2.1 with filter := v.filter } } })
        | none => s
      | none => s)
  | 9, 1 =>
    (match (s.tw w).masters.next with
      | some m => if m.gm.isSome then mark (s.modMasters w (fun y => { y with next := some { m with gm := none } })) else s
      | none => s)
  | _, _ => s

/-- The default fields of a LIVE section replace shadows and values in effect (R123). -/
def liveDefaults (w : Twin) (e : GraftEnt) (s : State) : State :=
  if !bitAt e.2.2.2.1.flags 1 then s
  else match e.1, e.2.1 with
    | 8, 1 =>
      let l := e.2.2.1
      let sh := s.rb (Reg.LAYER_MODE w l) Fld.LAYER_MODE_FILTER
      let lv := s.rb (Reg.LAYER_LIVE_MODE w l) Fld.LAYER_LIVE_MODE_FILTER
      let s1 := (layerShadows w l s).live w l (s.layerDefaults w l)
      (s1.sb (Reg.LAYER_MODE w l) Fld.LAYER_MODE_FILTER sh).sb (Reg.LAYER_LIVE_MODE w l) Fld.LAYER_LIVE_MODE_FILTER lv
    | 9, 1 =>
      let gm := s.profGlobal w 6
      (s.sf (Reg.COLR_GM w) Fld.COLR_GM_LEVEL gm).sf (Reg.COLR_LIVE_GM w) Fld.COLR_LIVE_GM_LEVEL gm
    | _, _ => s

/-- The layer fields whose change restarts a layer (R174): SOURCE, RING, FORMAT, SRC_W, SRC_H, BUF_BASE and SLOT_STRIDE. -/
def layerKey (b : List Byte) : List Byte := slice b 0 3 ++ slice b 12 4 ++ slice b 24 12

/-- A PORT entry changes: a port that becomes Proren or whose TOPO changes is enumerated (R289); a new personality starts when the frame
before it has left (Table 4-23), at once when none is to leave. -/
def portChanged (w : Twin) (p : Nat) (old new : List Byte) (s : State) : State :=
  let s1 := if s.latchOpen w then s else portSwitched w p (byteAt old 0) s
  if byteAt new 0 = 1 ∧ (byteAt old 0 ≠ 1 ∨ byteAt old 8 ≠ byteAt new 8) then requestEnum p w s1 else s1

/-- What the change of one entry does at the tick, after every entry has been written; `old` are the bytes it had (R153, R158, R174, R289,
R326, R392, R394). -/
def entryChanged (w : Twin) (old : List Byte) (e : GraftEnt) (s : State) : State :=
  let i := e.2.2.1
  let new := e.2.2.2.2
  match e.1, e.2.1 with
  | 3, _ =>
    let st := byteAt new 2 % 4
    let s1 := if s.bankState w i = 0 then s.clearBank w i else s
    let s2 := (s1.sf (Reg.BANK_CTL w i) Fld.BANK_CTL_OWNER (byteAt new 0)).sf (Reg.BANK_CTL w i) Fld.BANK_CTL_CORE (byteAt new 1)
    let s3 := (s2.sf (Reg.BANK_CTL w i) Fld.BANK_CTL_STATE st).setBankState w i st
    (if st = 0 then s3.clearBank w i else s3).setBank w i { s3.bank w i with target := none, queued := none }
  | 4, 0 => restartQueue w i s
  | 4, _ => restartFlow w i s
  | 5, 1 => univChanged w i (leNat (slice old 0 2)) (leNat (slice new 0 2)) (bitAt (byteAt new 3) 1) s
  | 5, 2 => flowChanged w i s
  | 6, _ => portChanged w i old new s
  | 8, 1 => if layerKey old ≠ layerKey new then restartLayer w i s else s
  | 12, _ =>
    if byteAt old 0 ≠ byteAt new 0 ∨ slice old 2 2 ≠ slice new 2 2 ∨ byteAt old 4 ≠ byteAt new 4 ∨ slice old 6 2 ≠ slice new 6 2 then
      restartFixture w i s else s
  | _, _ => s

/-- State-change records for groups joined and left on a port (R149). -/
def groupChanges (old new : List (List Byte × List (List Byte))) : List JoinRec :=
  (old.filter (fun g => !new.contains g)).map (fun g => ⟨if g.2 = [] then 3 else 6, g.1, g.2⟩) ++
    (new.filter (fun g => !old.contains g)).map (fun g => ⟨if g.2 = [] then 4 else 5, g.1, g.2⟩)

/-- CFG for each node whose framed items change (R292). -/
def cfgChanged (w : Twin) (k : Nat) (before s : State) : State :=
  (portsWith s w 1).foldl (fun x p =>
    let st := x.strand w p
    let due := (st.nodes.filter (fun n => decide (before.framedItems w p n ≠ s.framedItems w p n))).map (fun n => (n.addr, k))
    if due = [] then x else x.setStrand w p { st with cfgDue := st.cfgDue.filter (fun e => !(due.map (·.1)).contains e.1) ++ due }) s

/-- The graft of a twin takes effect at tick `k` (R123, R129, R130). -/
def applyGraft (k : Nat) (w : Twin) (s : State) : State :=
  match (s.tw w).graft with
  | none => s
  | some g =>
    let rd : Nat → Byte := fun i => g.bytes.getD i 0
    let all := g.entries
    let ch := (g.changes w s).map (fun e => (s.entBytes w e.1 e.2.1 e.2.2.1 0 (entrySize e.1 e.2.1), e))
    let kept := (ch.filter (fun e => decide (e.2.1 = 6 ∨ e.2.1 = 12 ∨ (e.2.1 = 9 ∧ e.2.2.1 = 0) ∨ (e.2.1 = 13 ∧ e.2.2.1 = 1)))).map
      (fun e => ((e.2.1, e.2.2.1, e.2.2.2.1), e.1))
    let s1 := if s.latchOpen w then s.modTw w (fun t => { t with oldEnts := kept, oldTick := k }) else s
    let s2 := writeSections rd (fileSections rd) w s1
    let s3 := all.foldl (fun x e => dropCommits w e x) (all.foldl (fun x e => liveDefaults w e x) s2)
    let s4 := ch.foldl (fun x e => entryChanged w e.1 e.2 x) s3
    let s5 := (List.range 4).foldl (fun x n =>
      let recs := groupChanges (s.groups w n) (x.groups w n)
      if recs = [] then x else scheduleState w n (some recs) x) s4
    let s6 := cfgChanged w k s s5
    let touched := (ch.flatMap (fun e => slicesOf w s e.2 ++ slicesOf w s6 e.2)).dedup
    let lay : Bool := all.any (fun e => decide (e.1 = 8))
    let s7 := (s6.modTw w (fun t => { t with touched := touched })).modLay w (fun x => { x with allChanged := x.allChanged || lay })
    let s8 := releaseSlots false w g s7
    let s9 := if s8.active = some w ∧ all.any (fun e => decide (e.1 = 2)) then powerImage w { s8 with pwr := { s8.pwr with oppWait := some s8.now } } else s8
    let s10 := (s9.setReg (Reg.REJ_IMAGE w) (BitVec.ofNat 32 (fileN rd 12 4))).setReg (Reg.REJ_GRAFT_APPLIED w) (BitVec.ofNat 32 k)
    let s11 := s10.sf (Reg.REJ_GRAFT_CNT w) Fld.REJ_GRAFT_CNT_COUNT (s10.rf (Reg.REJ_GRAFT_CNT w) Fld.REJ_GRAFT_CNT_COUNT + 1)
    let s12 := setGraftState w 3 ((s11.frameFlag 8).sb (Reg.REJ_GRAFT_STAT w) Fld.REJ_GRAFT_STAT_DONE true)
    watchSpare w (s12.raiseTwin w 249 0)

/-- The graft at tick `k` (R127, R128): in the ACTIVE twin and a STANDBY twin that is ARMED and passes; a STANDBY twin that is not is
DIVERGED, and so is one that does not pass, which refuses the graft. -/
def graftTick (fate : GraftFate) (k : Nat) (s : State) : State :=
  match fate with
  | .wait => s
  | .refuse b => refuseBoth b s
  | .go w =>
    let s1 := applyGraft k w s
    let o := w.other
    if !s1.computes o then (if s1.grafting o then forgetGraft o s1 else s1)
    else if s1.graftState o ≠ 2 then (if s1.grafting o then forgetGraft o s1 else s1).setRole o .diverged
    else match (s1.tw o).graft.bind (fun g => runBad o g s1) with
      | some b => (refuseGraft b o s1).setRole o .diverged
      | none => applyGraft k o s1

end Sys2Proof.Machine
end

