-- ==== Sys2Proof/Machine/Flash.lean ====
section
/-!
DEFINITION. The xSPI flash controller (R431 to R433), the verification of a slot (R479), and the writes of the boot record (R475, R476).
-/
namespace Sys2Proof.Machine

/-- The controller starts (R431): FLASH_INFO shows the fitted device. -/
def detectFlash (s : State) : State :=
  if s.dev.flashLog2 = 0 then s.setReg Reg.FLASH_INFO 0
  else (s.sf Reg.FLASH_INFO Fld.FLASH_INFO_SIZE_LOG2 s.dev.flashLog2).sf Reg.FLASH_INFO Fld.FLASH_INFO_MODE (if s.dev.flashFast then 2 else 1)

/-- FLASH_STAT.BUSY of a channel: one of its commands waits or runs. -/
def State.flashBusy (s : State) (ch : Nat) : Bool := s.flash.any (fun j => decide (j.ch = ch))

/-- A firmware slot is named (R474). -/
def State.slotNamed (s : State) (n : Nat) : Bool :=
  let r := s.boot.rec_
  decide (r.slotA = n ∨ r.slotB = n) || (r.trialA && decide (r.prevA = n)) || (r.trialB && decide (r.prevB = n))

/-- The ranges of flash that are locked now (Table 18-1, R474, R490), as (first byte, bytes). -/
def State.lockedRanges (s : State) : List (Nat × Nat) :=
  [(0, 0x410000)] ++ (if s.slotNamed 1 then [(0x410000, 0x400000)] else []) ++ (if s.slotNamed 2 then [(0x810000, 0x400000)] else []) ++
    (match s.boot.rec_.held with | some h => [(0xC10000 + h * 0x80000, 0x80000)] | none => []) ++
    [(s.rejBase (s.rf Reg.REJ_BOOT Fld.REJ_BOOT_PRIMARY), s.rejSize)]

/-- The slots of BOOT_VERIFY by code, as (first byte, bytes). -/
def State.slotRange (s : State) (n : Nat) : Nat × Nat :=
  if n < 3 then (fwBase n, 0x400000) else (s.rejBase (n - 3), s.rejSize)

/-- The bytes that a PROGRAM or an ERASE covers, as (first byte, bytes). -/
def FlashJob.covers (j : FlashJob) : Nat × Nat := (j.addr, if j.op = 2 then j.len else if j.op = 3 then 4096 else if j.op = 4 then 65536 else 0)

/-- The operands keep Table 16-3. -/
def FlashJob.operandsOk (j : FlashJob) : Bool :=
  match j.op with
  | 1 => decide (1 ≤ j.len ∧ j.len ≤ 256)
  | 2 => decide (1 ≤ j.len ∧ j.len ≤ 256 ∧ j.addr % 256 + j.len ≤ 256)
  | 3 => decide (j.addr % 4096 = 0)
  | 4 => decide (j.addr % 65536 = 0)
  | 5 => decide (1 ≤ j.len ∧ j.len ≤ 256)
  | 6 => decide (j.len % 64 = 0 ∧ j.dst % 64 = 0 ∧ 0x770000000 ≤ j.dst ∧ j.dst + j.len ≤ 0x790000000)
  | _ => false

/-- Why a command is refused (R433): FLASH_STAT.REASON, 0 for none. -/
def State.flashReason (s : State) (j : FlashJob) : Nat :=
  if s.flashBusy j.ch || decide (s.rf Reg.REJ_LOAD_STAT Fld.REJ_LOAD_STAT_SRC = 3) then 1
  else if j.op = 6 ∧ j.ch = 0 then 4
  else if !j.operandsOk then 2
  else if s.lockedRanges.any (fun l => overlaps l.1 l.2 j.covers.1 j.covers.2) then 3
  else 0

def flashRefuse (ch reason : Nat) (s : State) : State := s.sf (Reg.FLASH_STAT ch) Fld.FLASH_STAT_REASON reason

/-- The end of a verification with a code of Table 4-20 (R479): VERIFIED follows it. -/
def endVerify (slot code : Nat) (s : State) : State :=
  let s1 := (s.sf Reg.BOOT_STAT Fld.BOOT_STAT_VFY_CODE code).sb Reg.BOOT_STAT Fld.BOOT_STAT_VFY_BUSY false
  let s2 := if code = 0 then s1.sf Reg.BOOT_STAT Fld.BOOT_STAT_VERIFIED (s1.rf Reg.BOOT_STAT Fld.BOOT_STAT_VERIFIED ||| 2 ^ slot) else s1
  s2.sb (Reg.FLASH_STAT 0) Fld.FLASH_STAT_DONE true

/-- A PROGRAM or ERASE touches slots (R479): their VERIFIED bits clear, and a verification of one of them ends with the code LENGTH. -/
def touchSlots (j : FlashJob) (s : State) : State :=
  [0, 1, 2, 3, 4].foldl (fun x n =>
    let r := x.slotRange n
    if !overlaps r.1 r.2 j.covers.1 j.covers.2 then x
    else
      let x1 := x.sf Reg.BOOT_STAT Fld.BOOT_STAT_VERIFIED (putFld (x.rf Reg.BOOT_STAT Fld.BOOT_STAT_VERIFIED) ⟨n, n⟩ 0)
      if x1.flash.any (fun v => decide (v.op = 7 ∧ v.len = n)) then
        endVerify n 0x04 { x1 with flash := x1.flash.filter (fun v => !decide (v.op = 7 ∧ v.len = n)) }
      else x1) s

/-- A source may use a channel (R432). -/
def channelServes (ch : Nat) (src : Requester) : Bool :=
  match src with
  | .core _ _ => decide (ch = 1)
  | _ => decide (ch = 0)

/-- A write of FLASH_CMD (R432, R433): the command is queued, or refused. The operands and the bytes of a PROGRAM are those at this write. -/
def flashStart (src : Requester) (ch op len : Nat) (s : State) : State :=
  if !channelServes ch src then s
  else
    let j : FlashJob := { ch := ch, op := op, len := len, addr := (s.reg (Reg.FLASH_ADDR ch)).toNat, dst := s.rf (Reg.FLASH_DST ch) Fld.FLASH_DST_DST,
                          bytes := if op = 2 then s.rdBytes (0x6100 + ch * 0x200) len else [] }
    match s.flashReason j with
    | 0 => { touchSlots j s with flash := (touchSlots j s).flash ++ [j] }
    | r => flashRefuse ch r s

/-- FLASH_READ (R432). -/
def execFlashRead (t : Nat) (src : Requester) (ch : Fin 2) (len : Nat) (s : State) : Host.Outcome State Fault Refusal :=
  .next ((s.beginAt t).thWrite src (flashStart src ch.val 1 len))

/-- FLASH_PROGRAM (R432). -/
def execFlashProgram (t : Nat) (src : Requester) (ch : Fin 2) (len : Nat) (s : State) : Host.Outcome State Fault Refusal :=
  .next ((s.beginAt t).thWrite src (flashStart src ch.val 2 len))

/-- FLASH_ERASE_4K (R432). -/
def execFlashErase4k (t : Nat) (src : Requester) (ch : Fin 2) (s : State) : Host.Outcome State Fault Refusal :=
  .next ((s.beginAt t).thWrite src (flashStart src ch.val 3 0))

/-- FLASH_ERASE_64K (R432). -/
def execFlashErase64k (t : Nat) (src : Requester) (ch : Fin 2) (s : State) : Host.Outcome State Fault Refusal :=
  .next ((s.beginAt t).thWrite src (flashStart src ch.val 4 0))

/-- FLASH_READ_SFDP (R432). -/
def execFlashReadSfdp (t : Nat) (src : Requester) (ch : Fin 2) (len : Nat) (s : State) : Host.Outcome State Fault Refusal :=
  .next ((s.beginAt t).thWrite src (flashStart src ch.val 5 len))

/-- FLASH_COPY (R432). -/
def execFlashCopy (t : Nat) (src : Requester) (ch : Fin 2) (len : Nat) (s : State) : Host.Outcome State Fault Refusal :=
  .next ((s.beginAt t).thWrite src (flashStart src ch.val 6 len))

/-- Bytes of the device; what lies beyond its end is free. -/
def flashTake (a n : Nat) (s : State) : List Byte × State :=
  if a + n ≤ s.flashSize then (s.rdBytes (Addr.flash 0 a) n, s)
  else (leBytes n s.fresh.1, s.fresh.2)

/-- Programs bytes of the device: a programmed bit only falls (notes/assumptions/27.md). -/
def flashPut (a : Nat) (bs : List Byte) (s : State) : State :=
  if a + bs.length ≤ s.flashSize then s.wrBytes (Addr.flash 0 a) ((s.rdBytes (Addr.flash 0 a) bs.length).zipWith (· &&& ·) bs) else s

/-- Erases bytes of the device. -/
def flashErase (a n : Nat) (s : State) : State :=
  if a + n ≤ s.flashSize then s.resetMem (fun x => decide (Addr.flash 0 a ≤ x ∧ x < Addr.flash 0 a + n)) else s

/-- What a command does (Table 16-3). -/
def flashRun (j : FlashJob) (s : State) : State :=
  let buf := 0x6100 + j.ch * 0x200
  match j.op with
  | 1 => let (bs, s1) := flashTake j.addr j.len s; s1.wrBytes buf bs
  | 2 => flashPut j.addr j.bytes s
  | 3 => flashErase j.addr 4096 s
  | 4 => flashErase j.addr 65536 s
  | 5 => s.fresh.2.wrBytes buf (leBytes j.len s.fresh.1)
  | 6 => let (bs, s1) := flashTake j.addr j.len s
         s1.each (fun w => decide (s1.roleOf w ≠ .off)) (fun w x => x.wrBytes (Addr.dram w j.dst) bs)
  | _ => s

/-- FLASH_CMD_DONE (R433): the running command of the channel completes. -/
def execFlashCmdDone (t : Nat) (ch : Fin 2) (s : State) : Host.Outcome State Fault Refusal :=
  let s1 := s.beginAt t
  match s1.flash with
  | [] => .next s1
  | j :: rest =>
    if j.ch = ch.val ∧ j.op < 7 then
      let s2 : State := { flashRun j s1 with flash := rest }
      .next (s2.sb (Reg.FLASH_STAT j.ch) Fld.FLASH_STAT_DONE true)
    else .next s1

/-- FLASH_TIMEOUT (R433): the bytes that the command covers are left open. -/
def execFlashTimeout (t : Nat) (ch : Fin 2) (s : State) : Host.Outcome State Fault Refusal :=
  let s1 := s.beginAt t
  match s1.flash with
  | [] => .next s1
  | j :: rest =>
    if j.ch = ch.val ∧ 2 ≤ j.op ∧ j.op ≤ 4 then
      let s2 := if j.addr + j.covers.2 ≤ s1.flashSize then s1.fresh.2.wrBytes (Addr.flash 0 j.addr) (leBytes j.covers.2 s1.fresh.1) else s1
      .next (flashRefuse j.ch 5 { s2 with flash := rest })
    else .next s1

/-- BOOT_RECORD_WRITE (R475, R476): nothing while a channel command runs, or no write is due. -/
def execBootRecordWrite (t : Nat) (s : State) : Host.Outcome State Fault Refusal :=
  let s1 := s.beginAt t
  match s1.flash with
  | [] => .next s1
  | j :: rest => if j.op = 8 then .next { programRecord s1 with flash := rest } else .next s1

/-- BOOT_VERIFY (R479): a command of channel 0. -/
def bootVerify (slot : Nat) (s : State) : State :=
  if s.flashBusy 0 || decide (s.rf Reg.REJ_LOAD_STAT Fld.REJ_LOAD_STAT_SRC = 3) then flashRefuse 0 1 s
  else if 5 ≤ slot then flashRefuse 0 2 s
  else
    let s1 : State := { s with flash := s.flash ++ [{ ch := 0, op := 7, len := slot, addr := 0, dst := 0, bytes := [] }] }
    s1.sb Reg.BOOT_STAT Fld.BOOT_STAT_VFY_BUSY true

def execBootVerify (t : Nat) (src : Requester) (v : Word) (s : State) : Host.Outcome State Fault Refusal :=
  .next ((s.beginAt t).thWrite src (bootVerify (getFld v Fld.BOOT_VERIFY_SLOT)))

/-- The code of a verification (R479): of a firmware slot, or of a Rejor slot by steps 1 to 3 of R120. -/
def verifyCode (slot : Nat) (s : State) : Nat :=
  let bad := if slot < 3 then fwBad slot s
    else
      let rd : Nat → Byte := fun i => s.flashB (s.rejBase (slot - 3) + i)
      (headerBad rd false 0 s.rejSize s).orElse (fun _ => signatureBad rd true s)
  match bad with
  | some b => b.1
  | none => 0

/-- BOOT_VERIFY_DONE (R479): nothing while no verification runs. -/
def execBootVerifyDone (t : Nat) (s : State) : Host.Outcome State Fault Refusal :=
  let s1 := s.beginAt t
  match s1.flash with
  | [] => .next s1
  | j :: rest => if j.op = 7 then .next (endVerify j.len (verifyCode j.len s1) { s1 with flash := rest }) else .next s1

end Sys2Proof.Machine
end

