-- ==== Sys2Proof/Machine/Update.lean ====
section
/-!
DEFINITION. Update and replacement (chapter 18): activation and revert of firmware (R481 to R488), settings (R489, R490), keys (R478), the
Rejor slot to load (R491) and state packages (R492, R493).
-/
namespace Sys2Proof.Machine

/-- A wrong key: DEV_STAT.KEY_ERR counts it. -/
def State.keyErr (s : State) : State := s.bump Reg.DEV_STAT Fld.DEV_STAT_KEY_ERR

/-! ### Restarts (R482, R483, R488) -/

/-- A twin that is not ACTIVE restarts at once: OFF, or ISOLATED under ISO, until its start sequence ends. -/
def restartNow (w : Twin) (s : State) : State :=
  let s1 := restartFirmware w s
  if s1.rb Reg.TWIN_CTL (Fld.iso w) then s1.setRole w .isolated else s1.setRole w .off

/-- A twin restarts on the slot of its boot record (R482, R488): by twin reset, after a swap at the next tick, or in place. While no tick
can fall, a restart in place begins at once. -/
def restartOn (w : Twin) (s : State) : State :=
  match s.boot.hand with
  | some h =>
    if h.w ≠ w then restartNow w s
    else if s.roleOf w = .active then s
    else startFirmware w { s.resetKeepingDram w with boot := { (s.resetKeepingDram w).boot with rebuilt := false } }
  | none =>
    if s.roleOf w ≠ .active then restartNow w s
    else if s.roleOf w.other = .ready then s.addSwap { from_ := w, then_ := .restart, byHost := false }
    else if s.tickArmed then { s with boot := { s.boot with inPlace := some (w, s.now) } }
    else inPlaceStart w { s with boot := { s.boot with hand := some (s.handover w) } }

/-- The swap that is due at a tick, with the restart that waits for it. A restart whose swap cannot be made waits on while its twin is on
trial, and otherwise takes the way that R482 gives now. -/
def swapTick (s : State) : State :=
  let s1 := s.doSwapDue
  match s.swapDue with
  | none => s1
  | some d =>
    if d.then_ ≠ .restart then s1
    else if s1.boot.afterSwap = some d.from_ then restartNow d.from_ { s1 with boot := { s1.boot with afterSwap := none } }
    else if s1.active = some d.from_ ∧ s1.fiddlehead d.from_ then { s1 with swapDue := some d }
    else restartOn d.from_ s1

/-- A restart in place begins at the first tick 2 µs or more after its request (R483): the handover record is written. -/
def inPlaceTick (s : State) : State :=
  match s.boot.inPlace with
  | none => s
  | some (w, arr) =>
    if s.tg.cur.raw < arr + 2000 then s
    else
      let s1 := { s with boot := { s.boot with inPlace := none } }
      if s1.roleOf w ≠ .active then restartOn w s1
      else
        let s2 := { s1 with boot := { s1.boot with hand := some (s1.handover w) } }
        if s2.latchDue.isSome then s2 else inPlaceStart w s2

/-- IN_PLACE_RESTART (R483): the restart that waits, when its tick has fallen. -/
def execInPlaceRestart (t : Nat) (s : State) : Host.Outcome State Fault Refusal :=
  let s1 := s.beginAt t
  if s1.tg.ran then .next (inPlaceTick s1) else .next s1

/-- Step 5 of R483 at a tick: the committed show state is back, the twin is ACTIVE again, and a context reset is applied at this tick. The
start's own registers, its control keys and its bridge stay as the new firmware left them. Where the other twin has been made ACTIVE
meanwhile, the twin that restarted joins by a resync instead (R338, R482). -/
def inPlaceReturn (s : State) : State :=
  match s.boot.hand with
  | none => s
  | some h =>
    if !s.boot.rebuilt then s
    else if s.active.isSome then
      let s1 := { s with boot := { s.boot with hand := none, rebuilt := false } }
      if s1.roleOf h.w = .off then s1.setRole h.w .resync else s1
    else
      let w := h.w
      let own := fun (a : Nat) =>
        let x := a % 0x10000000
        decide ((0xD0000 ≤ x ∧ x < 0xD0800) ∨ (0xC0000 ≤ x ∧ x < 0xC0300) ∨ x < 0x10000)
      let keep := h.regs.filter (fun e => !own e.1 && decide (domainOf e.1 = some .twin))
      let s1 := keep.foldl (fun x e => x.setReg e.1 e.2) s
      let s2 := h.mem.foldl (fun x c => x.wrB c.1 c.2) s1
      let s3 := s2.modTw w (fun t => { h.tw with sorus := t.sorus, ctl := t.ctl, bridge := t.bridge, graft := none, frames := [],
                                                 curves := { h.tw.curves with writing := [] }, pkg := none, setHalf := t.setHalf, oldEnts := [], loadFirst := true })
      let s4 := setGraftState w 0 s3
      let s5 := { s4 with boot := { s4.boot with hand := none, rebuilt := false }, dev := { s4.dev with ctxPend := true } }
      (s5.setRole w .active).forceFullAll

/-- IN_PLACE_REBUILD_DONE (R483): the tables and the Curve Store are rebuilt; the next tick ends the restart. -/
def execInPlaceRebuildDone (t : Nat) (s : State) : Host.Outcome State Fault Refusal :=
  let s1 := s.beginAt t
  match s1.boot.hand with
  | some h => if s1.started h.w then .next { s1 with boot := { s1.boot with rebuilt := true } } else .next s1
  | none => .next s1

/-! ### Activation (R481, R482) -/

/-- Why an activation is refused: BOOT_STAT.ACT_REASON, 0 for none. -/
def State.actReason (s : State) (w : Twin) (slot : Nat) (force : Bool) : Nat :=
  let st := s.rf Reg.PWR_STAT Fld.PWR_STAT_STATE
  if !bitAt (s.rf Reg.BOOT_STAT Fld.BOOT_STAT_VERIFIED) slot || decide (slot = 3) then 1
  else if s.fiddlehead w.other then 2
  else if s.peri.arb.isSome then 3
  else if s.active.any (fun w => decide (s.graftState w ≠ 0)) then 4
  else if twins.any (fun w => decide (s.rf (Reg.UPD_PKG_STAT w) Fld.UPD_PKG_STAT_STATE ≠ 0)) then 5
  else if s.rf Reg.PWR_STAT Fld.PWR_STAT_PHASE ≠ 0 ∨ st = 3 ∨ st = 4 then 6
  else if s.roleOf w = .active ∧ s.roleOf w.other ≠ .ready ∧ !force then 7
  else 0

/-- A write of BOOT_CTL (R481, R482). -/
def bootCtl (v : Word) (s : State) : State :=
  if getFld v Fld.BOOT_CTL_ACT = 0 then s
  else if getFld v Fld.BOOT_CTL_KEY ≠ 0x5A then s.keyErr
  else
    let w : Twin := if getFld v Fld.BOOT_CTL_TWIN = 1 then .b else .a
    let slot := getFld v Fld.BOOT_CTL_SLOT
    match s.actReason w slot (getFld v Fld.BOOT_CTL_FORCE = 1) with
    | 0 =>
      let s1 := s.setRec (s.boot.rec_.put w slot (s.rf Reg.BOOT_STAT (Fld.bootSlot w)) true)
      restartOn w { s1 with boot := s1.boot.setTrial w none }
    | r => s.sf Reg.BOOT_STAT Fld.BOOT_STAT_ACT_REASON r

/-- BOOT_ACT (R481). -/
def execBootAct (t : Nat) (src : Requester) (v : Word) (s : State) : Host.Outcome State Fault Refusal :=
  .next ((s.beginAt t).thWrite src (bootCtl v))

/-! ### The trial (R485 to R488) -/

/-- The trial window in ns (R485). -/
def State.confirmWin (s : State) : Nat := max 60 (s.rf Reg.BOOT_CFG Fld.BOOT_CFG_CONFIRM_WIN) * 1000000000

/-- The trial of a Fiddlehead whose start sequence has ended counts, and E15 reports it (R482, R485). -/
def trialStarts (w : Twin) (s : State) : State :=
  if s.fiddlehead w ∧ s.started w ∧ s.boot.trial w = none then
    { s with boot := s.boot.setTrial w (some (s.tbNow 3 + s.confirmWin)) }.raiseTh 15 (1 + 128 * w.code)
  else s

/-- A revert (R488) for the reasons that are not a change of role. -/
def revert (w : Twin) (reason : Nat) (s : State) : State := restartOn w (revertRecord w reason s)

/-- TRIAL_EXPIRED (R487): the trials whose window has passed on TB3. -/
def execTrialExpired (t : Nat) (s : State) : Host.Outcome State Fault Refusal :=
  let s1 := s.beginAt t
  let due := fun (w : Twin) => s1.fiddlehead w && (match s1.boot.trial w with | some x => decide (x ≤ s1.tbNow 3) | none => false)
  .next (s1.each due (fun w x => revert w 1 x))

/-- TRIAL_START_TIMEOUT (R487): start sequences of Fiddleheads that have not ended within 5 s. -/
def execTrialStartTimeout (t : Nat) (s : State) : Host.Outcome State Fault Refusal :=
  let s1 := s.beginAt t
  let due := fun (w : Twin) => s1.fiddlehead w && (match s1.boot.start w with | some x => decide (x + 5000000000 ≤ s1.now) | none => false)
  .next (s1.each due (fun w x => revert w 3 x))

/-- A confirmation that has no effect (R486). -/
def confirmRefused (w : Twin) (s : State) : State := s.sb (Reg.UPD_STAT w) Fld.UPD_STAT_CONF_REFUSED true

/-- A write of UPD_HEALTH_CONFIRM in one twin (R486): the trial ends, PREV is kept, and a held settings half is released. -/
def confirm18 (v : Word) (w : Twin) (s : State) : State :=
  if v = 0xC5 ∧ s.fiddlehead w ∧ (s.roleOf w = .ready ∨ s.roleOf w = .active) then
    let r := s.boot.rec_
    let s1 := s.setRec { r.put w (r.slot w) (r.prev w) false with held := none }
    { s1 with boot := s1.boot.setTrial w none }.raiseTh 15 (2 + 128 * w.code)
  else confirmRefused w s

/-- A confirmation on a path (R486): through the mirror aperture only a Fiddlehead acts on it. -/
def confirmVia (via : Via) (v : Word) (w : Twin) (s : State) : State :=
  if via = .mirror ∧ !s.fiddlehead w then s else confirm18 v w s

/-- UPD_HEALTH_CONFIRM (R486). -/
def execUpdHealthConfirm (t : Nat) (via : Via) (v : Word) (s : State) : Host.Outcome State Fault Refusal :=
  .next ((s.beginAt t).deliver via (confirmVia via v))

/-! ### Settings (R489, R490) -/

def setBase (h : Nat) : Nat := 0xC10000 + h * 0x80000

/-- A settings half is correct: its magic number and both CRCs. -/
def State.setValid (s : State) (h : Nat) : Bool :=
  let rd : Nat → Byte := fun i => s.flashB (setBase h + i)
  let n := fileN rd 12 4
  decide (fileN rd 0 4 = 0x54455351 ∧ crc32 (fileBytes rd 0 20) = fileN rd 20 4 ∧ n ≤ 524224) && decide (crc32 (fileBytes rd 64 n) = fileN rd 16 4)

def State.setSeq (s : State) (h : Nat) : Nat := fileN (fun i => s.flashB (setBase h + i)) 4 4
def State.setFormat (s : State) (h : Nat) : Nat := fileN (fun i => s.flashB (setBase h + i)) 8 2

/-- The settings format of the firmware that a twin runs. -/
def State.ownFormat (s : State) (w : Twin) : Nat := s.fwFormat (s.rf Reg.BOOT_STAT (Fld.bootSlot w))

/-- The half that firmware of twin `w` uses at its start (R489). -/
def State.chooseHalf (s : State) (w : Twin) : Option Nat :=
  let ok := [0, 1].filter (fun h => s.setValid h && decide (s.setFormat h ≤ s.ownFormat w))
  match ok with
  | [0, 1] => some (if s.setSeq 0 < s.setSeq 1 then 1 else 0)
  | x => x.head?

/-- Firmware takes its settings at its start (R489): a half of a lower format is migrated in memory. -/
def settingsStart (w : Twin) (s : State) : State :=
  let half := s.chooseHalf w
  let s1 := (s.modTw w (fun t => { t with setHalf := half })).setReg (Reg.UPD_STAT w) 0
  match half with
  | none => s1
  | some h =>
    let own := s.ownFormat w
    let migrated : Bool := decide (s.setFormat h < own)
    let s2 := (s1.sf (Reg.UPD_STAT w) Fld.UPD_STAT_SET_FORMAT (if migrated then own else s.setFormat h)).sb (Reg.UPD_STAT w)
      Fld.UPD_STAT_MIGRATED migrated
    if migrated then (s2.sb (Reg.UPD_STAT w) Fld.UPD_STAT_PENDING_WRITE (s2.fiddlehead w)).raiseTwin w 251 0 else s2

/-- Writes a settings half: its header and its body; the rest of the half is erased. -/
def putSettings (h seq format : Nat) (body : List Byte) (s : State) : State :=
  let head := leBytes 4 0x54455351 ++ leBytes 4 seq ++ leBytes 2 format ++ [0, 0] ++ leBytes 4 body.length ++ leBytes 4 (crc32 body)
  let bytes := head ++ leBytes 4 (crc32 head) ++ List.replicate 40 0 ++ body
  (flashErase (setBase h) 0x80000 s).wrBytes (Addr.flash 0 (setBase h)) bytes

/-- SETTINGS_WRITE (R490): a Fiddlehead that migrated writes the other half when it is ACTIVE, and the source half is held. The migrated
body is the firmware's own. -/
def execSettingsWrite (t : Nat) (w : Twin) (s : State) : Host.Outcome State Fault Refusal :=
  let s1 := s.beginAt t
  match (s1.tw w).setHalf with
  | some h =>
    if s1.rb (Reg.UPD_STAT w) Fld.UPD_STAT_PENDING_WRITE ∧ s1.fiddlehead w ∧ s1.roleOf w = .active then
      let (n, s2) := s1.fresh
      let (x, s3) := s2.fresh
      let s4 := putSettings (1 - h) ((s3.setSeq h + 1) % 2 ^ 32) (s3.ownFormat w) (leBytes (n % 524225) x) s3
      let s5 := (s4.setRec { s4.boot.rec_ with held := some h }).modTw w (fun t => { t with setHalf := some (1 - h) })
      .next (s5.sb (Reg.UPD_STAT w) Fld.UPD_STAT_PENDING_WRITE false)
    else .next s1
  | none => .next s1

/-! ### Keys (R478) and the slot to load (R491) -/

def otpSlot (n : Nat) : Fld := ⟨4 * n + 3, 4 * n⟩

def otpRefuse (s : State) : State := s.sb Reg.OTP_KEY_STAT Fld.OTP_KEY_STAT_REFUSED true

/-- A slot of the OTP holds a key for firmware that is not revoked. -/
def fwKey (v : Nat) : Bool := bitAt v 0 && bitAt v 1 && !bitAt v 3

/-- A write of OTP_KEY_CMD (R478). -/
def otpCmd (v : Word) (s : State) : State :=
  let n := getFld v Fld.OTP_KEY_CMD_SLOT
  let now := s.rf Reg.OTP_KEY_STAT (otpSlot n)
  if getFld v Fld.OTP_KEY_CMD_KEY ≠ 0x5A then s.keyErr
  else match getFld v Fld.OTP_KEY_CMD_OP with
    | 1 =>
      if bitAt now 0 then otpRefuse s
      else
        let usage := (s.rdB (0x6100 + 96)).toNat
        let s1 := s.wrBytes (Addr.otp n 0) (s.rdBytes 0x6100 96)
        s1.sf Reg.OTP_KEY_STAT (otpSlot n) (1 + usage / 2 % 4 * 2 + now / 8 * 8)
    | 2 =>
      if [0, 1, 2, 3].any (fun m => decide (m ≠ n) && fwKey (s.rf Reg.OTP_KEY_STAT (otpSlot m))) then
        s.sf Reg.OTP_KEY_STAT (otpSlot n) (now % 8 + 8)
      else otpRefuse s
    | _ => s

/-- OTP_PROGRAM (R478). -/
def execOtpProgram (t : Nat) (src : Requester) (v : Word) (s : State) : Host.Outcome State Fault Refusal :=
  .next ((s.beginAt t).thWrite src (otpCmd v))

/-- OTP_REVOKE (R478). -/
def execOtpRevoke (t : Nat) (src : Requester) (v : Word) (s : State) : Host.Outcome State Fault Refusal :=
  .next ((s.beginAt t).thWrite src (otpCmd v))

/-- A write of REJ_BOOT (R491): one that names a slot which is not verified has no effect. -/
def rejBoot (v : Word) (s : State) : State :=
  if bitAt (s.rf Reg.BOOT_STAT Fld.BOOT_STAT_VERIFIED) (3 + getFld v Fld.REJ_BOOT_PRIMARY) then s.plainWrite Reg.REJ_BOOT v
  else s.sf Reg.BOOT_STAT Fld.BOOT_STAT_ACT_REASON 1

/-- REJ_BOOT_WRITE (R491). -/
def execRejBootWrite (t : Nat) (src : Requester) (v : Word) (s : State) : Host.Outcome State Fault Refusal :=
  .next ((s.beginAt t).thWrite src (rejBoot v))

/-! ### State packages (R492, R493) -/

/-- The length of a package (Table 18-6). -/
def pkgLength : Nat := 553032 + 262144 * 32

def setPkg (w : Twin) (f : Fld) (v : Nat) (s : State) : State := s.sf (Reg.UPD_PKG_STAT w) f v

def pkgRefuse (w : Twin) (reason : Nat) (s : State) : State := (setPkg w Fld.UPD_PKG_STAT_REASON reason s).raiseTwin w 253 0

def State.pkgAt (s : State) (w : Twin) : Nat := s.rf (Reg.UPD_PKG_OFS w) Fld.UPD_PKG_OFS_OFS * 64

/-- An export begins in the ACTIVE twin (R492), or is refused. -/
def exportStart (w : Twin) (s : State) : State :=
  if s.roleOf w ≠ .active then s
  else if s.graftState w ≠ 0 ∨ s.rf (Reg.UPD_PKG_STAT w) Fld.UPD_PKG_STAT_STATE ≠ 0 ∨ 0x40000000 < s.pkgAt w + pkgLength then pkgRefuse w 3 s
  else setPkg w Fld.UPD_PKG_STAT_STATE 1 s

/-- The body of a package from byte 64 (Table 18-6). Settings that no half holds are free. -/
def packageBody (w : Twin) (s : State) : List Byte × State :=
  let (sets, s1) := match (s.tw w).setHalf with
    | some h => (s.rdBytes (Addr.flash 0 (setBase h)) 524288, s)
    | none => (leBytes 524288 s.fresh.1, s.fresh.2)
  (s1.rdBytes 0x8000 28672 ++ leBytes 4 (s1.reg Reg.REJ_BOOT).toNat ++ leBytes 4 (s1.reg Reg.TB3_TRIM).toNat ++ sets ++
    (List.range 262144).flatMap (fun fx => s1.healthBytes w fx), s1)

/-- A package (Table 18-6). -/
def package (w : Twin) (s : State) : List Byte × State :=
  let (body, s1) := packageBody w s
  let head := leBytes 4 0x4B505351 ++ [1] ++ leBytes 1 s1.compat ++ [0, 0] ++ leBytes 4 pkgLength ++ leBytes 5 s1.stamp ++ [0, 0, 0] ++
    leBytes 4 (s1.reg (Reg.REJ_IMAGE w)).toNat ++ leBytes 4 (s1.reg (Reg.UPD_FW_VER w)).toNat ++ leBytes 4 (crc32 body)
  (head ++ List.replicate 32 0 ++ body, s1)

/-- Why an import is refused (R493): UPD_PKG_STAT.REASON, 0 for none. -/
def State.importReason (s : State) (w : Twin) : Nat :=
  let rd : Nat → Byte := fun i => s.rdB (Addr.dram w (0x7C0000000 + s.pkgAt w + i))
  let n := fileN rd 8 4
  if s.rf (Reg.UPD_PKG_STAT w) Fld.UPD_PKG_STAT_STATE ≠ 0 ∨ s.graftState w ≠ 0 ∨ twins.any s.fiddlehead then 3
  else if fileN rd 0 4 ≠ 0x4B505351 ∨ fileN rd 4 1 ≠ 1 ∨ n < 553032 ∨ 0x40000000 < s.pkgAt w + n then 1
  else if crc32 (fileBytes rd 64 (n - 64)) ≠ fileN rd 28 4 then 1
  else if s.compat < fileN rd 5 1 then 2
  else 0

/-- An import begins in one twin (R493), or is refused. -/
def importStart (w : Twin) (s : State) : State :=
  match s.importReason w with
  | 0 =>
    let rd : Nat → Byte := fun i => s.rdB (Addr.dram w (0x7C0000000 + s.pkgAt w + i))
    setPkg w Fld.UPD_PKG_STAT_STATE 2 (s.modTw w (fun t => { t with pkg := some (fileBytes rd 0 (fileN rd 8 4)) }))
  | r => pkgRefuse w r s

/-- A write of UPD_PKG_CMD in one twin. -/
def pkgCmd (v : Word) (w : Twin) (s : State) : State :=
  match getFld v Fld.UPD_PKG_CMD_OP with
  | 1 => exportStart w s
  | 2 => importStart w s
  | _ => s

/-- PKG_EXPORT (R492). -/
def execPkgExport (t : Nat) (via : Via) (v : Word) (s : State) : Host.Outcome State Fault Refusal :=
  .next (if throughMirror via then (s.beginAt t).deliver via (pkgCmd v) else s.beginAt t)

/-- PKG_IMPORT (R493). -/
def execPkgImport (t : Nat) (via : Via) (v : Word) (s : State) : Host.Outcome State Fault Refusal :=
  .next (if throughMirror via then (s.beginAt t).deliver via (pkgCmd v) else s.beginAt t)

/-- Channels of a mask of six bytes. -/
def maskList (v : Nat) : List Nat := (List.range 48).filter (fun i => bitAt v i)

/-- A health entry from its 32 bytes (Table 12-2). -/
def healthFrom (now : Nat) (b : List Byte) : HealthEntry :=
  let n := fun (o k : Nat) => leNat ((b.drop o).take k)
  { state := n 0 1, source := n 1 1, temp := n 2 2, vsup := n 4 2, open_ := maskList (n 6 6), short := maskList (n 12 6),
    blind := maskList (n 18 6), lastTick := n 24 4, crcErr := n 28 2, fltCnt := n 30 2, heardAt := now }

/-- The settings of a package go to the half with the lower SEQ, with SEQ above both (R493). -/
def importSettings (b : List Byte) (s : State) : State :=
  let seq := fun (h : Nat) => if s.setValid h then s.setSeq h + 1 else 0
  let h := if seq 1 < seq 0 then 1 else 0
  let top := max (seq 0) (seq 1) % 2 ^ 32
  let head := b.take 4 ++ leBytes 4 top ++ (b.drop 8).take 12
  (flashErase (setBase h) 0x80000 s).wrBytes (Addr.flash 0 (setBase h)) (head ++ leBytes 4 (crc32 head) ++ b.drop 24)

/-- An accepted import is applied in one twin at a tick (R493): what lies in the Thallus and in flash is written by the ACTIVE twin. -/
def importTick (w : Twin) (s : State) : State :=
  match (s.tw w).pkg with
  | none => s
  | some b =>
    let s1 := s.modTw w (fun t => { t with pkg := none })
    let s2 := if s1.roleOf w ≠ .active then s1
      else
        let x := s1.wrBytes 0x8000 ((b.drop 64).take 28672)
        let y := x.setReg Reg.REJ_BOOT (BitVec.ofNat 32 (leNat ((b.drop 28736).take 4) % 4))
        importSettings ((b.drop 28744).take 524288) (y.writeTrim (BitVec.ofNat 32 (leNat ((b.drop 28740).take 4))))
    if leNat ((b.drop 20).take 4) = (s2.reg (Reg.REJ_IMAGE w)).toNat then
      let es := (List.range ((b.length - 553032) / 32)).map (fun i => (i, healthFrom s2.tg.cur.raw ((b.drop (553032 + 32 * i)).take 32)))
      s2.modTw w (fun t => { t with hlth := { t.hlth with entries := es.foldl (fun m e => Smap.set HealthEntry.reset m e.1 e.2) t.hlth.entries } })
    else setPkg w Fld.UPD_PKG_STAT_HEALTH_SKIP 1 s2

/-- PKG_DONE (R492, R493): an export is in the staging area, or an import has been applied. -/
def execPkgDone (t : Nat) (w : Twin) (s : State) : Host.Outcome State Fault Refusal :=
  let s1 := s.beginAt t
  let done := fun (n : Nat) (x : State) => (setPkg w Fld.UPD_PKG_STAT_LENGTH (ceilDiv n 64) (setPkg w Fld.UPD_PKG_STAT_STATE 0 x)).raiseTwin w 252 0
  match s1.rf (Reg.UPD_PKG_STAT w) Fld.UPD_PKG_STAT_STATE with
  | 1 =>
    let (b, s2) := package w s1
    .next (done pkgLength (s2.wrBytes (Addr.dram w (0x7C0000000 + s2.pkgAt w)) b))
  | 2 =>
    let n := fileN (fun i => s1.rdB (Addr.dram w (0x7C0000000 + s1.pkgAt w + i))) 8 4
    if (s1.tw w).pkg.isNone then .next (done n s1) else .next s1
  | _ => .next s1

end Sys2Proof.Machine
end

