-- ==== Sys2Proof/Machine/Mailbox.lean ====
section
/-!
DEFINITION. The mailbox (R421 to R425): 64 KiB at BAR0 0x0100_0000, its two ports, and their collisions. A port's newest access stands for
what the collision rules look back at.
-/
namespace Sys2Proof.Machine

/-- The address of a mailbox word. -/
def mbxAddr (word : Nat) : Nat := 0x01000000 + 4 * word

/-- The mailbox clock of the present instant: 5 ns (R421). -/
def State.mbxClock (s : State) : Nat := s.now / 5

/-- The newest access of a port. -/
def State.mbxPort (s : State) (portB : Bool) : Option MbxAcc := if portB then s.mbxB else s.mbxA
def State.setMbxPort (s : State) (portB : Bool) (x : MbxAcc) : State :=
  if portB then { s with mbxB := some x } else { s with mbxA := some x }

/-- MBX_COLL.REQ and CORE of a requester. -/
def State.mbxReq (s : State) (src : Option Requester) : Nat × Nat :=
  match src with
  | some .pcie => (0, 0)
  | some .i2c => (1, 0)
  | some .relay => (2, 0)
  | some (.core w c) => (if s.active = some w then 3 else 4, c.val)
  | none => (0, 0)

/-- An event of the Thallus at most once in a tick interval. -/
def State.raiseThOnce (s : State) (n data : Nat) : State :=
  if s.once.seen.any (fun e => decide (e.1 = n)) then s
  else
    let s1 : State := { s with once := ⟨(n, data) :: s.once.seen⟩ }
    s1.raiseTh n data

/-- The busy indication of a port (R424). -/
def mbxBusy (portB read : Bool) (word : Nat) (src : Option Requester) (s : State) : State :=
  if portB then
    let r := s.mbxReq src
    let s1 := s.sb Reg.MBX_STAT (if read then Fld.MBX_STAT_COLLIDE else Fld.MBX_STAT_WR_LOST) true
    let s2 := ((s1.sf Reg.MBX_COLL Fld.MBX_COLL_REQ r.1).sf Reg.MBX_COLL Fld.MBX_COLL_CORE r.2).sf Reg.MBX_COLL Fld.MBX_COLL_OFFSET (4 * word)
    s2.raiseThOnce 22 (4 * word)
  else s.bump Reg.MBX_STAT Fld.MBX_STAT_A_BUSY

/-- The word as a number, and a write of it. -/
def State.mbxWord (s : State) (word : Nat) : Word := BitVec.ofNat 32 (s.rdLE (mbxAddr word) 4)
def State.putMbx (s : State) (word : Nat) (v : Word) : State := s.wrBytes (mbxAddr word) (leBytes 4 v.toNat)

/-- A write that stands (R425): a port A write to an inbound doorbell raises E23. -/
def mbxStands (portB : Bool) (src : Option Requester) (word : Nat) (v : Word) (s : State) : State :=
  let s1 := (s.putMbx word v).setMbxPort portB { clock := s.mbxClock, word := word, wrote := some (v, s.mbxWord word), src := src }
  if !portB ∧ 0x3FC0 ≤ word ∧ word < 0x3FE0 then s1.raiseTh 23 (word - 0x3FC0) else s1

/-- A write on a port (R422): in the same mailbox clock as the other port's write port B's stands, in the next clock the earlier one. A read of
the other port in the same clock has collided with it (R423). -/
def mbxWriteAt (portB : Bool) (src : Option Requester) (word : Nat) (v : Word) (s : State) : State :=
  if 16384 ≤ word then s
  else
    let c := s.mbxClock
    match s.mbxPort (!portB) with
    | none => mbxStands portB src word v s
    | some o =>
      if o.word ≠ word then mbxStands portB src word v s
      else match o.wrote with
        | some (x, _) =>
          if o.clock = c then
            (if x = v then mbxStands portB src word v s
             else if portB then mbxBusy false false word o.src (mbxStands true src word v s)
             else mbxBusy false false word src s)
          else if o.clock + 1 = c then mbxBusy portB false word src s
          else mbxStands portB src word v s
        | none =>
          if o.clock = c then mbxBusy (!portB) true word o.src (mbxStands portB src word v s) else mbxStands portB src word v s

/-- What a write on a port makes of a word, by its byte enables (R421): of the word before a write of the other port in the same clock, since
one of the two does not stand or both leave the same bytes (R422). -/
def State.mbxMerged (s : State) (portB : Bool) (word : Nat) (v : LaneWord) : Word :=
  let old := match s.mbxPort (!portB) with
    | some o => if o.word = word ∧ o.clock = s.mbxClock then (match o.wrote with | some (_, y) => y | none => s.mbxWord word) else s.mbxWord word
    | none => s.mbxWord word
  mergeBytes old v

/-- A read on a port (R423): the word, or a free value with the busy indication. -/
def mbxReadAt (portB : Bool) (src : Option Requester) (word : Nat) (s : State) : Word × State :=
  if 16384 ≤ word then (0, s)
  else
    let c := s.mbxClock
    let hit : Bool := match s.mbxPort (!portB) with
      | some o => decide (o.word = word) && o.wrote.isSome && decide (o.clock = c ∨ o.clock + 1 = c)
      | none => false
    let s1 := s.setMbxPort portB { clock := c, word := word, wrote := none, src := src }
    if hit then (BitVec.ofNat 32 s1.fresh.1, mbxBusy portB true word src s1.fresh.2) else (s.mbxWord word, s1)

/-- RZ_ATTN_N is low (R425): an outbound doorbell holds a value other than 0. -/
def State.rzAttn (s : State) : Bool := (List.range 32).any (fun i => decide (s.mbxWord (0x3FE0 + i) ≠ 0))

/-- MBX_WRITE (R422). Port A is reached while the Thallus main domain runs; port B under R28. -/
def execMbxWrite (t : Nat) (portB : Bool) (src : Requester) (word : Nat) (v : LaneWord) (s : State) : Host.Outcome State Fault Refusal :=
  let s1 := s.beginAt t
  if portB then .next (s1.thWrite src (mbxWriteAt true (some src) word (s1.mbxMerged true word v)))
  else if s1.dev.inReset || s1.mainOff then .next s1
  else .next (mbxWriteAt false none word (s1.mbxMerged false word v) s1)

/-- MBX_READ (R423). -/
def execMbxRead (t : Nat) (portB : Bool) (src : Requester) (word : Nat) (s : State) : Host.Outcome State Fault Refusal :=
  let s1 := s.beginAt t
  if s1.dev.inReset || s1.mainOff then .next s1
  else
    let (v, s2) := mbxReadAt portB (if portB then some src else none) word s1
    .next (s2.emit (.readData v))

end Sys2Proof.Machine
end

