-- ==== Sys2Proof/Machine/Rhizoid.lean ====
section
/-!
DEFINITION. The Rhizoid bus and the bridges of the twins (R434 to R445). Each twin's bridge keeps its own queue; the PHY drives the requests
of the ACTIVE twin's, and both take every completion (R438).
-/
namespace Sys2Proof.Machine

def State.modBridge (s : State) (w : Twin) (f : Bridge → Bridge) : State := s.modTw w (fun t => { t with bridge := f t.bridge })

/-- The bus runs (R434). -/
def State.rzOn (s : State) : Bool := s.rb Reg.RZP_CFG Fld.RZP_CFG_EN && !s.dev.inReset && !s.mainOff

/-- Nothing holds the bus: no grant, and no transaction but one that waits for its reissue. -/
def State.rzIdle (s : State) : Bool := s.rz.grant.isNone && (match s.rz.txn with | some x => x.again | none => true)

/-- The address of the phase in which a transaction stands. -/
def RzTxn.phase (x : RzTxn) : Nat := x.addr + 4 * x.got.length

/-! ### Prefetch (R441) -/

/-- The enabled range that holds an address. -/
def State.pfRange (s : State) (w : Twin) (a : Nat) : Option Nat :=
  (List.range 8).find? (fun n =>
    s.rb (Reg.BRDG_PF_BASE w n) Fld.BRDG_PF_BASE_EN && decide (s.rf (Reg.BRDG_PF_BASE w n) Fld.BRDG_PF_BASE_BASE ≤ a / 64) &&
      decide (a / 64 ≤ s.rf (Reg.BRDG_PF_LIM w n) Fld.BRDG_PF_LIM_LIMIT))

/-- The held word of an address, if a block serves it. -/
def State.pfWord (s : State) (w : Twin) (a : Nat) : Option Word :=
  match s.pfRange w a with
  | none => none
  | some n =>
    ((s.tw w).bridge.held.find? (fun h => decide (h.1 = n) && decide (h.2.1 = a / 64 * 64) && decide (s.now < h.2.2.1 + 10000))).bind
      (fun h => h.2.2.2[a % 64 / 4]?)

/-- Blocks that an outbound write touches are discarded. -/
def dropTouched (w : Twin) (a : Nat) (s : State) : State :=
  match s.pfRange w a with
  | none => s
  | some n => s.modBridge w (fun b => { b with held := b.held.filter (fun h => decide (h.1 ≠ n)) })

/-! ### Starting a transaction -/

/-- A posted write enters a twin's queue (R440). -/
def bridgeWrite (req : Nat) (locked : Bool) (a : Nat) (v : Word) (w : Twin) (s : State) : State :=
  (dropTouched w a s).modBridge w (fun b => { b with writes := b.writes ++ [{ addr := a % 2 ^ 32, data := v, req := req, locked := locked }] })

/-- The transaction of a read: the whole block of a prefetch range, or one phase. -/
def State.readTxn (s : State) (w : Twin) (r : RzRead) : RzTxn :=
  let range := if r.locked then none else s.pfRange w r.addr
  { cmd := if r.locked then 0xE else if range.isSome then 6 else 2, addr := if range.isSome then r.addr / 64 * 64 else r.addr, got := [], data := 0,
    req := r.req, locked := r.locked, retries := 0, range := range.map (fun n => (n, r.addr)), again := false }

/-- A transaction of a requester may start under the lock (R445). -/
def State.lockAllows (s : State) (req : Nat) : Bool :=
  match s.rz.lock with
  | some (c, _, _) => decide (c = req)
  | none => true

/-- What the bus does when it becomes idle: a transaction that waits for its reissue goes on, and otherwise the first read of the ACTIVE
twin's bridge whose earlier writes have left starts. A LOCKED_READ locks the bus from its address phase. -/
def rzNext (s : State) : State :=
  if !s.rzOn || s.rz.grant.isSome then s
  else match s.rz.txn with
    | some x => if x.again then { s with rz := { s.rz with txn := some { x with again := false } } } else s
    | none =>
      match s.active with
      | none => s
      | some w =>
        match (s.tw w).bridge.reads.find? (fun r => decide (r.after = 0) && s.lockAllows r.req) with
        | none => s
        | some r =>
          let x := s.readTxn w r
          let s1 : State := { s with rz := { s.rz with txn := some x, lock := if r.locked then some (r.req, s.now, r.addr) else s.rz.lock } }
          s1.emit (.rz x.cmd x.addr 0)

/-- A read enters a twin's bridge, or is served from a held block. -/
def bridgeRead (req : Nat) (locked : Bool) (a : Nat) (w : Twin) (s : State) : State :=
  match (if locked then none else s.pfWord w a) with
  | some v => s.emit (.readData v)
  | none =>
    rzNext (s.modBridge w (fun b => { b with reads := b.reads ++ [{ addr := a, req := req, locked := locked, after := b.writes.length, asked := s.now }] }))

/-- RZ_OUTBOUND_WRITE (R440): the next posted write of the ACTIVE twin's bridge takes the idle bus. Under a lock it is the locked write of the
core that holds it. -/
def execRzOutboundWrite (t : Nat) (s : State) : Host.Outcome State Fault Refusal :=
  let s1 := s.beginAt t
  if !s1.rzOn || s1.rz.grant.isSome || s1.rz.txn.isSome then .next s1
  else match s1.active with
    | none => .next s1
    | some w =>
      let l := (s1.tw w).bridge.writes
      let next := match s1.rz.lock with
        | none => l.head?
        | some (c, _, _) => l.find? (fun x => x.locked && decide (x.req = c))
      match next with
      | none => .next s1
      | some x =>
        let txn : RzTxn := { cmd := 3, addr := x.addr, got := [], data := x.data, req := x.req, locked := x.locked, retries := 0, range := none,
                             again := false }
        .next ({ s1 with rz := { s1.rz with txn := some txn } }.emit (.rz 3 x.addr x.data.toNat))

/-- The core number of a requester on the bridge, 16 for the host (Table 16-6). -/
def Requester.brdg : Requester → Nat
  | .core _ c => c.val
  | _ => 16

/-- RZ_OUTBOUND_READ (R440, R441): a core's read in its own twin, a host's in the ACTIVE twin (R439). -/
def execRzOutboundRead (t : Nat) (req : Requester) (addr : Nat) (s : State) : Host.Outcome State Fault Refusal :=
  let s1 := s.beginAt t
  match req with
  | .core w c => if s1.roleOf w = .off then .next s1 else .next (bridgeRead c.val false (addr % 2 ^ 32) w s1)
  | r => match s1.active with
    | some w => .next (bridgeRead (Requester.brdg r) false (addr % 2 ^ 32) w s1)
    | none => .next s1

/-- RZ_LOCKED_READ (R445): with QM16_LOCK = 0 nothing is issued. -/
def execRzLockedRead (t : Nat) (w : Twin) (c : Fin 16) (addr : Nat) (s : State) : Host.Outcome State Fault Refusal :=
  let s1 := s.beginAt t
  if s1.rb Reg.RZP_CFG Fld.RZP_CFG_QM16_LOCK ∧ s1.roleOf w ≠ .off then .next (bridgeRead c.val true (addr % 2 ^ 32) w s1) else .next s1

/-! ### Endings -/

/-- A failed write in a twin's posted-write log (R440, Table 16-6), and E84. -/
def logWrite (x : RzTxn) (reason : Nat) (w : Twin) (s : State) : State :=
  let valid := s.rf (Reg.BRDG_WLOG_STAT w) Fld.BRDG_WLOG_STAT_VALID
  let s1 := match (List.range 16).find? (fun i => !bitAt valid i) with
    | none => s.bump (Reg.BRDG_WLOG_STAT w) Fld.BRDG_WLOG_STAT_OVF
    | some i =>
      let e := leBytes 4 x.phase ++ leBytes 1 x.cmd ++ leBytes 1 (15 + reason * 16) ++ leBytes 2 x.req ++ leBytes 5 s.stamp
      (s.wrBytes (w.base + 0xC0100 + 16 * i) (e ++ [0, 0, 0])).sf (Reg.BRDG_WLOG_STAT w) Fld.BRDG_WLOG_STAT_VALID (valid ||| 2 ^ i)
  s1.raiseOnce w (Reg.BRDG_EVT_CTL w) Fld.BRDG_EVT_CTL_WERR_EN 84 (x.phase % 65536)

/-- The oldest entry that meets a condition leaves a list. -/
def eraseFirst {α : Type} (p : α → Bool) : List α → List α
  | [] => []
  | x :: rest => if p x then rest else x :: eraseFirst p rest

/-- A write leaves the queue of a twin; its reads have one earlier write less. -/
def writeLeft (x : RzTxn) (w : Twin) (s : State) : State :=
  s.modBridge w (fun b =>
    let rest := eraseFirst (fun y => decide (y.addr = x.addr) && decide (y.locked = x.locked)) b.writes
    { b with writes := rest,
             reads := if rest.length < b.writes.length then b.reads.map (fun r => { r with after := r.after - 1 }) else b.reads })

/-- The address of the request that a read transaction serves. -/
def RzTxn.wanted (x : RzTxn) : Nat := match x.range with | some (_, a) => a | none => x.addr

/-- Completion of a read in a twin: the oldest request with the same address and command takes it. -/
def readLeft (x : RzTxn) (w : Twin) (s : State) : State :=
  s.modBridge w (fun b => { b with reads := eraseFirst (fun y => decide (y.addr = x.wanted) && decide (y.locked = x.locked)) b.reads })

/-- The bus is free of its transaction. -/
def endTxn (s : State) : State := { s with rz := { s.rz with txn := none } }

/-- A host read that its twin does not serve within 2 µs (R23, R439). -/
def State.hostLate (s : State) (x : RzTxn) : Bool :=
  decide (x.req = 16) && twins.any (fun w => (s.tw w).bridge.reads.any (fun y =>
    decide (y.req = 16) && decide (y.addr = x.wanted) && decide (y.locked = x.locked) && decide (y.asked + 2000 < s.now)))

/-- A far read that gives nothing: all ones, to the host under R23. -/
def noFarData (x : RzTxn) (s : State) : State :=
  let s1 := s.emit (.readData 0xFFFFFFFF)
  if x.req = 16 then (s1.sb Reg.DEV_STAT Fld.DEV_STAT_NOTWIN_RD true).raiseTh 27 0 else s1

/-- The data of a far read, which the bridge discards when it comes too late for the host (R439). -/
def farData (late : Bool) (x : RzTxn) (v : Word) (s : State) : State := if late then noFarData x s else s.emit (.readData v)

/-- A transaction fails (R435, R440, R441): a write is logged in both twins; a read returns all ones, to the host under R23. -/
def rzFail (x : RzTxn) (reason : Nat) (s : State) : State :=
  let on := fun (w : Twin) => decide (s.roleOf w ≠ .off)
  if x.cmd = 3 then rzNext (endTxn (s.each on (fun w y => logWrite x reason w (writeLeft x w y))))
  else
    rzNext (noFarData x (endTxn (s.each on (fun w y => readLeft x w y))))

/-- A phase completes with its data (R435, R441). -/
def rzReady (x : RzTxn) (v : Word) (s : State) : State :=
  let on := fun (w : Twin) => decide (s.roleOf w ≠ .off)
  if x.cmd = 3 then
    let s1 := endTxn (s.each on (fun w y => writeLeft x w y))
    rzNext (if x.locked then { s1 with rz := { s1.rz with lock := none } } else s1)
  else
    let got := x.got ++ [v]
    match x.range with
    | none => rzNext (farData (s.hostLate x) x v (endTxn (s.each on (fun w y => readLeft x w y))))
    | some (n, a) =>
      if got.length < 16 then { s with rz := { s.rz with txn := some { x with got := got } } }
      else
        let keep := fun (w : Twin) (y : State) => (readLeft x w y).modBridge w (fun b =>
          { b with held := b.held.filter (fun h => decide (h.1 ≠ n)) ++ [(n, x.addr, y.now, got)] })
        rzNext (farData (s.hostLate x) x (got.getD (a % 64 / 4) 0) (endTxn (s.each on keep)))

/-- A transaction must be reissued (R444): counted, and in error when it would be the ninth time. -/
def rzRetry (x : RzTxn) (crossing : Bool) (s : State) : State :=
  if x.retries = 8 then
    let s1 := s.each (fun w => decide (s.roleOf w ≠ .off)) (fun w y =>
      y.raiseOnce w (Reg.BRDG_EVT_CTL w) Fld.BRDG_EVT_CTL_RETRY_EN 85 (x.phase % 65536))
    rzFail x 3 s1
  else
    let s1 := s.bump Reg.RZP_CNT Fld.RZP_CNT_RETRY
    { s1 with rz := { s1.rz with txn := some { x with retries := x.retries + 1, again := crossing } } }

/-- The transaction that stands in a data phase. -/
def State.rzWaiting (s : State) : Option RzTxn :=
  match s.rz.txn with
  | some x => if x.again then none else some x
  | none => none

/-- RZ_TARGET_RESPONSE (R435): nothing while no transaction stands in a data phase. -/
def execRzTargetResponse (t : Nat) (r : RzResponse) (s : State) : Host.Outcome State Fault Refusal :=
  let s1 := s.beginAt t
  match s1.rzWaiting with
  | none => .next s1
  | some x => match r with
    | .ready v => .next (rzReady x v s1)
    | .error => .next (rzFail x 1 s1)
    | .retry => .next (rzRetry x false s1)

/-- RZ_PHASE_TIMEOUT (R435). -/
def execRzPhaseTimeout (t : Nat) (s : State) : Host.Outcome State Fault Refusal :=
  let s1 := s.beginAt t
  match s1.rzWaiting with
  | none => .next s1
  | some x => .next (rzFail x 2 s1)

/-- RZ_LOCK_TIMEOUT (R445): 10 µs after the address phase the lock is released; the write that waits for it ends with REASON 4. -/
def execRzLockTimeout (s : State) : Host.Outcome State Fault Refusal :=
  match s.begin.rz.lock with
  | none => .next s.begin
  | some (c, from_, a) =>
    let s1 := s.begin.at (from_ + 10000)
    let s2 : State := { s1.bump Reg.RZP_CNT Fld.RZP_CNT_LOCK_TO with rz := { s1.rz with lock := none } }
    let pend := match s2.rzWaiting with
      | some x => if x.cmd = 3 ∧ x.locked then some x else none
      | none => (s2.active.bind (fun w => (s2.tw w).bridge.writes.find? (fun y => y.locked && decide (y.req = c)))).map (fun y =>
          { cmd := 3, addr := y.addr, got := [], data := y.data, req := y.req, locked := true, retries := 0, range := none, again := false })
    let bad := match pend with | some x => x.addr | none => a
    let s3 := s2.each (fun w => decide (s2.roleOf w ≠ .off)) (fun w y =>
      y.raiseOnce w (Reg.BRDG_EVT_CTL w) Fld.BRDG_EVT_CTL_LOCK_EN 87 (bad % 65536))
    match pend with
    | some x => .next (rzFail x 4 s3)
    | none => .next (rzNext s3)

/-! ### Far initiators (R436, R437, R444) -/

/-- The PHY grants the bus to a far initiator. -/
def rzGrant (far : Nat) (s : State) : State := { s with rz := { s.rz with grant := some (far, s.now), last := far } }

/-- A grant ends; the bus is idle. -/
def endGrant (s : State) : State := rzNext { s with rz := { s.rz with grant := none } }

/-- RZ_REQUEST (R437): granted at an idle clock, unless a lock holds the bus (R445). -/
def execRzRequest (t : Nat) (far : Fin 2) (s : State) : Host.Outcome State Fault Refusal :=
  let s1 := s.beginAt t
  if s1.rzOn ∧ s1.rzIdle ∧ s1.rz.lock.isNone then .next (rzGrant far.val s1) else .next s1

/-- RZ_GRANT_LOST (R437): not before 4 clocks of 10 ns from the grant. -/
def execRzGrantLost (t : Nat) (s : State) : Host.Outcome State Fault Refusal :=
  let s1 := s.beginAt t
  match s1.rz.grant with
  | some (_, from_) => if from_ + 40 ≤ s1.now then .next (endGrant (s1.bump Reg.RZP_CNT Fld.RZP_CNT_CROSS)) else .next s1
  | none => .next s1

/-- RZ_CROSSING (R444): the outbound transaction ends with its phase untransferred, and the far initiator is granted. -/
def execRzCrossing (t : Nat) (far : Fin 2) (s : State) : Host.Outcome State Fault Refusal :=
  let s1 := s.beginAt t
  match s1.rzWaiting with
  | none => .next s1
  | some x =>
    if s1.rz.lock.isSome then .next s1
    else .next (rzRetry x true (rzGrant far.val (s1.bump Reg.RZP_CNT Fld.RZP_CNT_CROSS)))

/-- Semaphore `n` is read by an owner code (R443): the word returned, and the semaphore taken if it was free. -/
def semRead (n owner : Nat) (s : State) : Word × State :=
  let h := s.rf (Reg.RZP_SEM n) Fld.RZP_SEM_OWNER
  if h = 31 then (BitVec.ofNat 32 (2 ^ 31 + owner), s.sf (Reg.RZP_SEM n) Fld.RZP_SEM_OWNER owner) else (BitVec.ofNat 32 h, s)

/-- Semaphore `n` is written by an owner code (R443). -/
def semWrite (n owner : Nat) (s : State) : State :=
  if s.rf (Reg.RZP_SEM n) Fld.RZP_SEM_OWNER = owner then s.sf (Reg.RZP_SEM n) Fld.RZP_SEM_OWNER 31 else s

/-- RZP_SEM_READ (R443): a core of a twin that is not ACTIVE sees what its counterpart last received. -/
def semReadBy (src : Requester) (n : Nat) (s : State) : Word × State :=
  match src with
  | .core w c =>
    if s.roleOf w = .active then
      let (v, s1) := semRead n c.val s
      (v, { s1 with rz := { s1.rz with seen := Smap.set 31 s1.rz.seen (32 * c.val + n) v } })
    else (Smap.get 31 s.rz.seen (32 * c.val + n), s)
  | _ => semRead n 16 s

def execRzpSemRead (t : Nat) (src : Requester) (n : Fin 32) (s : State) : Host.Outcome State Fault Refusal :=
  let s1 := s.beginAt t
  if s1.dev.inReset || s1.mainOff then .next s1
  else .next ((semReadBy src n.val s1).2.emit (.readData (semReadBy src n.val s1).1))

/-- RZP_SEM_WRITE (R443). -/
def execRzpSemWrite (t : Nat) (src : Requester) (n : Fin 32) (_v : Word) (s : State) : Host.Outcome State Fault Refusal :=
  .next ((s.beginAt t).thWrite src (semWrite n.val (Requester.brdg src)))

/-- The DRAM address of an inbound address that the window claims (R436). A window past the end of the firmware region is not claimed. -/
def State.inWindow (s : State) (a : Nat) : Option Nat :=
  let size := 2 ^ min 4 (s.rf Reg.RZP_IN Fld.RZP_IN_SIZE) * 0x100000
  let base := s.rf Reg.RZP_IN Fld.RZP_IN_BASE * 0x1000000
  let ofs := s.rf Reg.RZP_IN_TGT Fld.RZP_IN_TGT_MIB * 0x100000
  if s.rb Reg.RZP_IN Fld.RZP_IN_EN ∧ ofs + size ≤ 0x30000000 ∧ base ≤ a ∧ a < base + size then some (0x790000000 + ofs + (a - base)) else none

/-- Blocks held for prefetch are discarded in both twins. -/
def dropHeld (s : State) : State := s.each (fun _ => true) (fun w y => y.modBridge w (fun b => { b with held := [] }))

/-- An inbound transaction of a granted far initiator (R436): the mailbox and semaphore claim prevails over the window. Outside every claim it
ends with RZ_ERR_N. -/
def inbound (far a : Nat) (acc : FarAccess) (s : State) : State :=
  let m := s.rf Reg.RZP_MBX Fld.RZP_MBX_BASE * 0x20000
  let o := a - m
  if s.rb Reg.RZP_MBX Fld.RZP_MBX_EN ∧ m ≤ a ∧ o < 0x10080 then
    (if o < 0x10000 then
      match acc with
      | .read => let (v, s1) := mbxReadAt false none (o / 4) s; s1.emit (.readData v)
      | .write v => mbxWriteAt false none (o / 4) (s.mbxMerged false (o / 4) v) s
    else
      let n := (o - 0x10000) / 4
      match acc with
      | .read => let (v, s1) := semRead n (17 + far) s; s1.emit (.readData v)
      | .write _ => semWrite n (17 + far) s)
  else match s.inWindow a with
    | none => s.emit (.rz 0x10 a 0)
    | some d => match acc with
      | .write v => s.deliver .mirror (fun w y =>
        y.wrBytes (Addr.dram w d) (leBytes 4 (mergeBytes (BitVec.ofNat 32 (y.rdLE (Addr.dram w d) 4)) v).toNat))
      | .read => match s.active with
        | some w => s.emit (.readData (BitVec.ofNat 32 (s.rdLE (Addr.dram w d) 4)))
        | none => s.fresh.2.emit (.readData (BitVec.ofNat 32 s.fresh.1))

/-- RZ_INBOUND (R436): a grant covers one transaction, and any inbound write discards the held blocks (R441). -/
def execRzInbound (t : Nat) (far : Fin 2) (addr : Nat) (acc : FarAccess) (s : State) : Host.Outcome State Fault Refusal :=
  let s1 := s.beginAt t
  match s1.rz.grant with
  | none => .next s1
  | some (g, _) =>
    if g ≠ far.val then .next s1
    else
      let s2 := inbound far.val (addr / 4 * 4) acc s1
      .next (endGrant (match acc with | .write _ => dropHeld s2 | .read => s2))

/-- RZ_PREFETCH_EXPIRE (R441). -/
def execRzPrefetchExpire (t : Nat) (s : State) : Host.Outcome State Fault Refusal :=
  let s1 := s.beginAt t
  .next (s1.each (fun _ => true) (fun w y => y.modBridge w (fun b => { b with held := b.held.filter (fun h => decide (s1.now < h.2.2.1 + 10000)) })))

/-- A sample of the lines in one twin (R442): bit i of `prev` and `now_` is the level of line i. -/
def lineSample (prev now_ : Nat) (w : Twin) (s : State) : State :=
  let r := Reg.BRDG_LINE w
  let mask := s.rf r Fld.BRDG_LINE_MASK
  let edge := s.rf r Fld.BRDG_LINE_EDGE
  let old := s.rf r Fld.BRDG_LINE_PEND
  let hit := (List.range 8).foldl (fun acc i =>
    let fell : Bool := bitAt prev i && !bitAt now_ i
    let changed : Bool := bitAt prev i != bitAt now_ i
    if bitAt mask i && (if bitAt edge i then changed else fell) then acc + 2 ^ i else acc) 0
  let s1 := (s.sf r Fld.BRDG_LINE_LEVEL now_).sf r Fld.BRDG_LINE_PEND (old ||| hit)
  let new := (old ||| hit) - old
  if new = 0 then s1 else s1.raiseOnce w (Reg.BRDG_EVT_CTL w) Fld.BRDG_EVT_CTL_LINE_EN 86 new

/-- RZ_LINE_POLL (R442): the sample reaches both twins; no clock runs while the bus is off (R434). -/
def execRzLinePoll (t : Nat) (lines : Byte) (s : State) : Host.Outcome State Fault Refusal :=
  let s1 := s.beginAt t
  if !s1.rzOn then .next s1
  else
    let s2 := s1.each (fun w => decide (s1.roleOf w ≠ .off)) (lineSample s1.rz.level lines.toNat)
    .next { s2 with rz := { s2.rz with level := lines.toNat } }

end Sys2Proof.Machine
end

