-- ==== Sys2Proof/Machine/Control.lean ====
section
/-!
DEFINITION. The authenticated control channel (R446 to R449): keys, sessions, and the messages that open and end them. Both twins run the
channel; a reply leaves the part from the ACTIVE twin.
-/
namespace Sys2Proof.Machine

def State.ctl (s : State) (w : Twin) : Control := (s.tw w).ctl
def State.modCtl (s : State) (w : Twin) (f : Control → Control) : State := s.modTw w (fun t => { t with ctl := f t.ctl })

/-- The 32 bytes of a key; none for a key that is not valid (R447). -/
def State.ctlKey (s : State) (w : Twin) (i : Nat) : Option (List Byte) :=
  if i < 4 ∧ bitAt (s.rf (Reg.CTL_KEY_SEL w) Fld.CTL_KEY_SEL_VALID) i then
    some ((List.range 8).flatMap (fun k => leBytes 4 (Smap.get 0 (s.ctl w).words (8 * i + k)).toNat))
  else none

/-- A number of a message (Table 16-8). -/
def msgN (m : List Byte) (o n : Nat) : Nat := leNat ((m.drop o).take n)
def msgLen (m : List Byte) : Nat := msgN m 12 2

/-- The message has the form of Table 16-8. -/
def msgForm (m : List Byte) (op : Nat) : Bool :=
  decide (msgN m 0 2 = 0x5143 ∧ msgN m 2 1 = 1 ∧ msgN m 3 1 = op ∧ msgLen m ≤ 1040 ∧ m.length = msgLen m + 32)

/-- The tag of a message under a key. -/
def msgTag (key m : List Byte) : List Byte := (Config.hmacSha256 key (m.take (16 + msgLen m))).toList.take 16

def msgTagOk (key m : List Byte) : Bool := decide (msgTag key m = (m.drop (16 + msgLen m)).take 16)

/-- A reply (R446): SEQ is echoed, and the tag is the key's. -/
def ctlReply (op session seq status : Nat) (payload key : List Byte) : List Byte :=
  let m := leBytes 2 0x5143 ++ [1] ++ leBytes 1 op ++ leBytes 4 session ++ leBytes 4 seq ++ leBytes 2 payload.length ++ leBytes 2 status ++ payload
  m ++ (Config.hmacSha256 key m).toList.take 16

/-- A reply leaves the part when the ACTIVE twin makes it. -/
def sendReply (w : Twin) (n : Nat) (bs : List Byte) (s : State) : State := if s.roleOf w = .active then s.emit (.net n bs) else s

/-- A discarded message (R448): counted, and E88 at most once in a tick interval. -/
def ctlDrop (w : Twin) (n : Nat) (f : Fld) (s : State) : State :=
  (s.bump (Reg.CTL_STAT w) f).raiseOnce w (Reg.BRDG_EVT_CTL w) Fld.BRDG_EVT_CTL_AUTH_EN 88 n

/-- Sessions that have gone 10 s of TB3 without an accepted message have ended (R447). -/
def expireSessions (w : Twin) (s : State) : State :=
  s.modCtl w (fun c => { c with sessions := c.sessions.filter (fun x => decide (s.tbNow 3 < x.heard + 10000000000)) })

/-- The twins whose firmware runs the channel on a port. -/
def State.eachCtl (s : State) (n : Nat) (f : Twin → State → State) : State :=
  s.each (fun w => decide (s.roleOf w ≠ .off) && s.netFlag w n 4) (fun w x => f w (expireSessions w x))

/-- A HELLO in one twin (R447). -/
def ctlHello (n : Nat) (m : List Byte) (w : Twin) (s : State) : State :=
  if !msgForm m 1 ∨ msgLen m ≠ 20 then s
  else match s.ctlKey w (msgN m 16 1) with
    | none => ctlDrop w n Fld.CTL_STAT_AUTH s
    | some k =>
      if !msgTagOk k m then ctlDrop w n Fld.CTL_STAT_AUTH s
      else
        let c := s.ctl w
        let seq := msgN m 8 4
        if 8 ≤ (c.sessions.filter (fun x => decide (x.port = n))).length then sendReply w n (ctlReply 2 0 seq 3 [] k) s
        else
          let num := Smap.get 0 c.opened n + 1
          let nc := (m.drop 20).take 16
          let st := s.stamp
          let nd := (Config.hmacSha256 k (nc ++ leBytes 5 st ++ leBytes 4 num)).toList.take 16
          let label : List Byte := [0x51, 0x4D, 0x31, 0x32, 0x38, 0x2D, 0x43, 0x54, 0x4C]
          let ks := (Config.hmacSha256 k (label ++ nc ++ nd)).toList
          let x : CtlSession := { port := n, num := num, key := ks, keyIx := msgN m 16 1, nonce := nc, stamp := st, high := 0, seen := [],
                                  heard := s.tbNow 3 }
          sendReply w n (ctlReply 2 num seq 0 nd ks)
            (s.modCtl w (fun c => { c with sessions := c.sessions ++ [x], opened := Smap.set 0 c.opened n num }))

/-- CTL_HELLO (R447). -/
def execCtlHello (t : Nat) (n : Fin 4) (msg : List Byte) (s : State) : Host.Outcome State Fault Refusal :=
  let s1 := s.beginAt t
  .next (s1.eachCtl n.val (ctlHello n.val msg))

/-- A SEQ is accepted by a session (R448). -/
def CtlSession.accepts (x : CtlSession) (seq : Nat) : Bool :=
  decide (x.high < seq) || (decide (seq < x.high) && decide (x.high ≤ seq + 63) && !x.seen.contains seq && decide (seq ≠ 0))

/-- The session after it has accepted a SEQ. -/
def CtlSession.accept (x : CtlSession) (seq now : Nat) : CtlSession :=
  let high := max x.high seq
  { x with high := high, seen := (seq :: x.seen).filter (fun v => decide (high ≤ v + 63)), heard := now }

/-- A message of an open session in one twin (R448): the session as it was, if the message is accepted. -/
def ctlAccept (n : Nat) (m : List Byte) (w : Twin) (s : State) : Option CtlSession × State :=
  let num := msgN m 4 4
  let seq := msgN m 8 4
  match (s.ctl w).sessions.find? (fun x => decide (x.port = n) && decide (x.num = num)) with
  | none => (none, ctlDrop w n Fld.CTL_STAT_NOSESS s)
  | some x =>
    if !msgTagOk x.key m then (none, ctlDrop w n Fld.CTL_STAT_AUTH s)
    else if !x.accepts seq then (none, ctlDrop w n Fld.CTL_STAT_REPLAY s)
    else (some x, s.modCtl w (fun c => { c with sessions := c.sessions.map (fun y =>
      if y.port = n ∧ y.num = num then y.accept seq (s.tbNow 3) else y) }))

/-- A CLOSE in one twin (R447): it is not answered. -/
def ctlClose (n : Nat) (m : List Byte) (w : Twin) (s : State) : State :=
  if !msgForm m 6 then s
  else match ctlAccept n m w s with
    | (some x, s1) => s1.modCtl w (fun c => { c with sessions := c.sessions.filter (fun y => !(decide (y.port = n) && decide (y.num = x.num))) })
    | (none, s1) => s1

/-- CTL_CLOSE (R447). -/
def execCtlClose (t : Nat) (n : Fin 4) (msg : List Byte) (s : State) : Host.Outcome State Fault Refusal :=
  let s1 := s.beginAt t
  .next (s1.eachCtl n.val (ctlClose n.val msg))

/-- CTL_SESSION_TIMEOUT (R447). -/
def execCtlSessionTimeout (t : Nat) (s : State) : Host.Outcome State Fault Refusal :=
  .next ((s.beginAt t).each (fun _ => true) expireSessions)

/-- A write of CTL_KEY_DATA in one twin (R447). -/
def ctlKeyData (v : Word) (w : Twin) (s : State) : State :=
  let r := Reg.CTL_KEY_SEL w
  let i := s.rf r Fld.CTL_KEY_SEL_INDEX
  let k := s.rf r Fld.CTL_KEY_SEL_WORD
  let s1 := s.modCtl w (fun c => { c with words := Smap.set 0 c.words (8 * i + k) v })
  let s2 := if k = 7 then s1.sf r Fld.CTL_KEY_SEL_VALID (s1.rf r Fld.CTL_KEY_SEL_VALID ||| 2 ^ i) else s1
  s2.sf r Fld.CTL_KEY_SEL_WORD ((k + 1) % 8)

/-- CTL_KEY_DATA (R447). -/
def execCtlKeyData (t : Nat) (via : Via) (v : Word) (s : State) : Host.Outcome State Fault Refusal :=
  .next ((s.beginAt t).deliver via (ctlKeyData v))

/-- A write of CTL_KEY_SEL in one twin: with CLEAR, key INDEX is invalid and its sessions end. -/
def ctlKeySel (v : Word) (w : Twin) (s : State) : State :=
  let r := Reg.CTL_KEY_SEL w
  let i := getFld v Fld.CTL_KEY_SEL_INDEX
  let s1 := (s.sf r Fld.CTL_KEY_SEL_INDEX i).sf r Fld.CTL_KEY_SEL_WORD (getFld v Fld.CTL_KEY_SEL_WORD)
  if getFld v Fld.CTL_KEY_SEL_CLEAR = 0 then s1
  else (s1.sf r Fld.CTL_KEY_SEL_VALID (putFld (s1.rf r Fld.CTL_KEY_SEL_VALID) ⟨i, i⟩ 0)).modCtl w (fun c =>
    { c with sessions := c.sessions.filter (fun x => decide (x.keyIx ≠ i)) })

/-- CTL_KEY_CLEAR (R447). -/
def execCtlKeyClear (t : Nat) (via : Via) (v : Word) (s : State) : Host.Outcome State Fault Refusal :=
  .next ((s.beginAt t).deliver via (ctlKeySel v))

end Sys2Proof.Machine
end

