-- ==== Sys2Proof/Machine/Cal.lean ====
section
/-!
DEFINITION. The calibration engine (R494 to R508): units 0 to 44 of Table 19-1, runs, deferral, and the codes of strand banks.
-/
namespace Sys2Proof.Machine

def CalUnit.reset : CalUnit :=
  { count := 0, last := 3 * 2 ^ 32, code := none, value := none, fail := false, stale := false, deferred := false, skipped := false }

def State.calUnit (s : State) (u : Nat) : CalUnit := Smap.get CalUnit.reset s.cal.units u
def State.setCalUnit (s : State) (u : Nat) (x : CalUnit) : State :=
  { s with cal := { s.cal with units := Smap.set CalUnit.reset s.cal.units u x } }

/-- The twin on which a unit lies (Table 19-1). -/
def calTwin (u : Nat) : Option Twin := if u < 25 then none else if u < 35 then some .a else some .b

def allUnits : List Nat := List.range 45

/-- The runs in a row in which a twin was deferred. -/
def Cal.defers (c : Cal) : Twin → Nat
  | .a => c.deferA
  | .b => c.deferB

/-- E30 at most once in a tick interval, or in a millisecond of TB3 while no tick runs (R508). -/
def raiseCalFail (u : Nat) (s : State) : State :=
  let slot := if s.tg.ran then 0 else s.tbNow 3 / 1000000 + 1
  if s.once.seen.any (fun e => e = (30, slot)) then s
  else
    let s1 : State := { s with once := ⟨(30, slot) :: s.once.seen.filter (fun e => e.1 ≠ 30)⟩ }
    s1.raiseTh 30 u

/-- What becomes of a unit whose turn has come (R500, R501). -/
inductive CalTurn where
  | take | wait | defer | skip
deriving DecidableEq, Repr

def State.calTurn (s : State) (u : Nat) : CalTurn :=
  match calTwin u with
  | none => .take
  | some w =>
    if s.cal.powerUp then .take
    else if s.inNap then .wait
    else match s.roleOf w with
      | .standby => .take
      | .ready => .take
      | .active => if max 1 (s.rf Reg.CAL_CFG Fld.CAL_CFG_ACTIVE_DEFER) ≤ s.cal.defers w then .take else .defer
      | _ => .skip

/-- A unit is in calibration: its readings are held (R502). -/
def takeUnit (u : Nat) (s : State) : State :=
  let s1 := s.setCalUnit u { s.calUnit u with stale := true, value := none }
  { s1.sf Reg.CAL_STAT Fld.CAL_STAT_CUR u with cal := { s1.cal with busy := true, void := false } }

/-- The count of deferrals in a row of a twin after a run: raised if the run deferred one of its units, 0 if the run calibrated one. -/
def deferAfter (w : Twin) (s : State) : Nat :=
  if s.cal.units.any (fun e => decide (calTwin e.1 = some w) && e.2.deferred) then s.cal.defers w + 1 else 0

/-- The end of a run (R507): E31 with the number of units calibrated. -/
def endRun (s : State) : State :=
  let s1 : State := { s with cal := { s.cal with run := none, powerUp := false, busy := false, endAt := s.tbNow 3,
                                                 deferA := deferAfter .a s, deferB := deferAfter .b s } }
  (s1.sb Reg.CAL_STAT Fld.CAL_STAT_RUNNING false).raiseTh 31 s.cal.done

/-- Takes the next units of a run: those deferred or skipped are marked and passed over (R500); the run ends when none is left. -/
def calNext : List Nat → State → State
  | [], s => endRun { s with cal := { s.cal with run := some [] } }
  | u :: rest, s =>
    match s.calTurn u with
    | .take => takeUnit u { s with cal := { s.cal with run := some (u :: rest) } }
    | .wait => { s with cal := { s.cal with run := some (u :: rest), busy := false } }
    | .defer => calNext rest (s.setCalUnit u { s.calUnit u with deferred := true })
    | .skip => calNext rest (s.setCalUnit u { s.calUnit u with skipped := true })

/-- A run starts (R499): with the XREF check, then its units in ascending order. -/
def startRun (units : List Nat) (powerUp : Bool) (s : State) : State :=
  let l := allUnits.filter (fun u => decide (u = 0) || units.contains u || s.cal.again.contains u)
  let s1 := l.foldl (fun x u => x.setCalUnit u { x.calUnit u with deferred := false, skipped := false }) s
  let s2 : State := { s1 with cal := { s1.cal with powerUp := powerUp, done := 0, again := [] } }
  calNext l (s2.sb Reg.CAL_STAT Fld.CAL_STAT_RUNNING true)

/-- A request (R497, R498): it starts a run, joins the run in progress where its units are still to come, or joins the pending run. -/
def calRequest (units : List Nat) (s : State) : State :=
  if s.mainOff then s
  else match s.cal.run with
    | none =>
      (match s.cal.pend with
        | none => startRun units false s
        | some p => { s with cal := { s.cal with pend := some (p ++ units) } })
    | some l =>
      let cur := l.headD 45
      let late := units.filter (fun u => decide (u ≤ cur))
      let more := allUnits.filter (fun u => l.contains u || (decide (cur < u) && units.contains u))
      let s1 : State := { s with cal := { s.cal with run := some more } }
      if late = [] then s1
      else { s1.sb Reg.CAL_STAT Fld.CAL_STAT_PENDING true with cal := { s1.cal with pend := some ((s1.cal.pend.getD []) ++ late) } }

/-- CAL_ALL (R497). -/
def execCalAll (t : Nat) (src : Requester) (s : State) : Host.Outcome State Fault Refusal :=
  .next ((s.beginAt t).thWrite src (calRequest allUnits))

/-- CAL_UNIT (R497): units 45 to 63 do not exist. -/
def execCalUnit (t : Nat) (src : Requester) (unit : Nat) (s : State) : Host.Outcome State Fault Refusal :=
  .next ((s.beginAt t).thWrite src (if unit < 45 then calRequest [unit] else id))

/-- CAL_PERIOD (R497): PERIOD minutes of TB3 after the end of the previous run. -/
def execCalPeriod (s : State) : Host.Outcome State Fault Refusal :=
  let s0 := s.begin
  let p := s0.rf Reg.CAL_CFG Fld.CAL_CFG_PERIOD
  if p = 0 ∨ s0.mainOff then .next s0
  else .next (calRequest allUnits (s0.at (s0.tb3.rawAt s0.now (s0.cal.endAt + p * 60000000000))))

/-- CAL_RUN (R498, R499): the pending run starts when no run is in progress. -/
def execCalRun (t : Nat) (s : State) : Host.Outcome State Fault Refusal :=
  let s1 := s.beginAt t
  match s1.cal.run, s1.cal.pend with
  | none, some p =>
    if s1.mainOff then .next s1
    else .next (startRun p false { s1.sb Reg.CAL_STAT Fld.CAL_STAT_PENDING false with cal := { s1.cal with pend := none } })
  | _, _ => .next s1

/-- New codes of a unit apply (R507). -/
def calApplied (u code : Nat) (s : State) : State :=
  let x := s.calUnit u
  s.setCalUnit u { x with count := (x.count + 1) % 65536, last := s.stamp3, code := some (code % 65536), fail := false, stale := false }

/-- Ports of a strand bank whose codes wait for their latch (R505). -/
def State.bankWaits (s : State) (u : Nat) : List Nat :=
  match s.active with
  | none => []
  | some w =>
    if s.holdOn || s.safeOn then []
    else (List.range 16).filterMap (fun i =>
      let p := 16 * (u - 17) + i
      if s.personality w p = 1 ∧ s.rf (Reg.STRD_PSTAT w p) Fld.STRD_PSTAT_STATE = 2 then some p else none)

/-- The result of the unit in calibration (R499, R505, R506): `code` is the new trim code, and the resistance in mΩ for the XREF check. -/
def calResult (u : Nat) (ok : Bool) (code : Nat) (s : State) : State :=
  let rest := (s.cal.run.getD []).drop 1
  let counted : State := { s with cal := { s.cal with done := s.cal.done + 1 } }
  let x := s.calUnit u
  if u = 0 then
    let s1 := counted.setReg Reg.CAL_XREF (BitVec.ofNat 32 (code % 2 ^ 24))
    if 9900000 ≤ code ∧ code ≤ 10100000 then calNext rest (calApplied 0 0 s1)
    else
      let s2 := (s1.setCalUnit 0 { x with stale := false }).sb Reg.CAL_STAT Fld.CAL_STAT_XREF_BAD true
      endRun (raiseCalFail 0 { s2 with cal := { s2.cal with done := 0 } })
  else if s.cal.void then calNext rest { s.setCalUnit u { x with stale := false } with cal := { s.cal with again := u :: s.cal.again } }
  else if !ok then
    let s1 := (s.setCalUnit u { x with stale := false, fail := true }).sb Reg.CAL_STAT Fld.CAL_STAT_FAIL true
    calNext rest (raiseCalFail u s1)
  else
    let wait := if 17 ≤ u ∧ u ≤ 24 then s.bankWaits u else []
    if wait = [] then calNext rest (calApplied u code counted)
    else calNext rest { counted with cal := { counted.cal with apply := counted.cal.apply ++ wait.map (fun p => (p, code)) } }

/-- CAL_UNIT_DONE (R507): nothing while no unit is in calibration. -/
def execCalUnitDone (t : Nat) (ok : Passed) (code : Nat) (s : State) : Host.Outcome State Fault Refusal :=
  let s1 := s.beginAt t
  match s1.cal.run with
  | some (u :: _) => if s1.cal.busy then .next (calResult u ok code s1) else .next s1
  | _ => .next s1

/-- The codes that wait on a port apply (R505); the bank's unit has its new codes when no port of it waits any more. -/
def strandApply (p : Nat) (s : State) : State :=
  match s.cal.apply.find? (fun e => decide (e.1 = p)) with
  | none => s
  | some (_, code) =>
    let left := s.cal.apply.filter (fun e => decide (e.1 ≠ p))
    let s1 : State := { s with cal := { s.cal with apply := left } }
    if left.any (fun e => decide (e.1 / 16 = p / 16)) then s1 else calApplied (17 + p / 16) code s1

/-- CAL_STRAND_APPLY (R505): 1 µs before the port's next latch. -/
def execCalStrandApply (p : Fin 128) (s : State) : Host.Outcome State Fault Refusal :=
  let s0 := s.begin
  .next (strandApply p.val (if s0.latchDue.isSome then s0.at (s0.latchInstant - 1000) else s0))

/-- The power-up run (R497). A run in progress is over. -/
def powerUpRun (s : State) : State :=
  startRun allUnits true { s with cal := { s.cal with run := none, pend := none, busy := false, void := false, apply := [] } }

/-- Units of a twin that a run skipped are calibrated in its start sequence (R500). Their codes are the engine's own. -/
def calAtStart (w : Twin) (s : State) : State :=
  (allUnits.filter (fun u => decide (calTwin u = some w) && (s.calUnit u).skipped)).foldl (fun x u =>
    let y := calApplied u x.fresh.1 x.fresh.2
    y.setCalUnit u { y.calUnit u with skipped := false }) s

/-- A warning or a reset on a rail during the calibration of its monitor voids it (R504). -/
def voidMonitor (rail : Nat) (s : State) : State :=
  match s.cal.run with
  | some (u :: _) => if s.cal.busy ∧ u = 11 + rail ∧ rail < 6 then { s with cal := { s.cal with void := true } } else s
  | _ => s

/-- What waited for the end of NAP goes on (R501). -/
def calResume (s : State) : State :=
  match s.cal.run with
  | some l => if s.cal.busy then s else calNext l s
  | none => s

end Sys2Proof.Machine
end

