-- ==== Sys2Proof/Machine/Reset.lean ====
section
/-!
DEFINITION. The device reset and the power-on reset (Table 1-7, R39, R542, R543, R551), and what a release begins: the flash controller
(R431), the boot record and firmware (R475, R480), the load (R121) and the power-up calibration (R497).
-/
namespace Sys2Proof.Machine

/-- Bytes that a power-on reset keeps: flash and OTP. -/
def keptAlways (a : Nat) : Bool := decide (0x10000000000 ≤ a ∧ a < 0x100000000000)

/-- Bytes that a device reset keeps: those, the Cortex store and the event log (Table 1-7). -/
def keptByDevice (a : Nat) : Bool := keptAlways a || decide (0x8000 ≤ a ∧ a < 0x14000)

/-- A base after a reset: it counts from 0 at the present instant. -/
def State.freshBase (s : State) : TimeBase := { TimeBase.reset with at_ := s.now }

/-- The ports that had a Proren personality before a reset (R39): those of the images in effect. A reset in the time that R39 gives to an
earlier one keeps that one's ports, which the keepalive still drives. -/
def State.proPorts (s : State) : List Nat :=
  (List.range 128).filter (fun p => twins.any (fun w => decide (s.personality w p = 1)) || (s.dev.resetHold && s.dev.wasProren.contains p))

/-- The ports that had a personality of 2 to 4 before a reset, with it: likewise. -/
def State.wirePorts (s : State) : List (Nat × Nat) :=
  (List.range 128).filterMap (fun p =>
    match (twins.map (fun w => s.personality w p)).find? (fun n => decide (2 ≤ n ∧ n ≤ 4)) with
    | some n => some (p, n)
    | none => if s.dev.resetHold then s.dev.wasWire.find? (fun e => e.1 = p) else none)

/-- The device reset is asserted (Table 1-7, R39, R417): CTX, TWIN and DEV registers, both twins and the Thallus main domain. Trim codes, TB3,
the Cortex store and the event log stay. Latched and held words of 64-bit registers go with the registers: DESIGN CHOICE
(notes/assumptions/34.md). -/
def deviceReset (s : State) : State :=
  let prn := s.proPorts
  let wire := s.wirePorts
  let s1 : State := { s with
    regs := s.regs.filter (fun e => decide (domainOf e.1 = some .por)), clock := s.clock.filter (fun e => decide (domainOf e.1 = some .por)),
    mem := s.mem.filter (fun e => keptByDevice e.1),
    latches := [], holds := [], role := ⟨.off, .off⟩, swapDue := none, tb0 := s.freshBase, tb1 := s.freshBase, tb2 := s.freshBase,
    show_ := ⟨none, 0, 0⟩, tg := TickGen.reset, peri := Peri.reset, a := TwinState.reset, b := TwinState.reset, logFirst := true, logCycle := ⟨0, false, []⟩, once := ⟨[]⟩,
    msixEn := false, bme := false, funcMask := false, mainOff := false, heldEvents := [],
    pwr := { Power.reset with offA := s.pwr.offA && !s.rb Reg.PWR_STAT Fld.PWR_STAT_WAKE_FAIL,
                              offB := s.pwr.offB && !s.rb Reg.PWR_STAT Fld.PWR_STAT_WAKE_FAIL }, fullDue := 0, flash := [],
    boot := { Boot.reset with rec_ := s.boot.rec_ }, rz := Rhizoid.reset, mbxA := none, mbxB := none,
    cal := { s.cal with run := none, powerUp := false, done := 0, busy := false, pend := none, deferA := 0, deferB := 0, apply := [], again := [],
                        void := false, units := s.cal.units.map (fun e => (e.1, { e.2 with stale := false })) },
    dev := { Dev.reset with inReset := true, resetHold := true, wasProren := prn, wasWire := wire, gen := s.dev.gen,
                            testEn := s.dev.testEn, strap := s.dev.strap, flashLog2 := s.dev.flashLog2, flashFast := s.dev.flashFast } }
  syncGen ((s1.sb Reg.CAL_STAT Fld.CAL_STAT_RUNNING false).sb Reg.CAL_STAT Fld.CAL_STAT_PENDING false)

/-- The power-on reset (Table 1-7, R543): everything but what the flash device and the OTP hold. -/
def powerOn (s : State) : State :=
  let slots := s.rf Reg.OTP_KEY_STAT Fld.OTP_KEY_STAT_SLOTS
  let s1 : State := { State.reset with
    pending := s.pending, now := s.now, free := s.free, out := s.out, perst := s.perst, mem := s.mem.filter (fun e => keptAlways e.1),
    tb0 := s.freshBase, tb1 := s.freshBase, tb2 := s.freshBase, tb3 := s.freshBase,
    dev := { Dev.reset with inReset := true, resetHold := true, testEn := s.dev.testEn, strap := s.dev.strap,
                            flashLog2 := s.dev.flashLog2, flashFast := s.dev.flashFast } }
  s1.sf Reg.OTP_KEY_STAT Fld.OTP_KEY_STAT_SLOTS slots

/-- The rail of a twin is below its reset level (R471). -/
def State.railOff (s : State) : Twin → Bool
  | .a => s.pwr.offA
  | .b => s.pwr.offB

/-- The boot record in force is read; with no correct copy both twins boot GOLD (R475). A trial reverts (R480 step 1). -/
def readRecord (s : State) : State :=
  let s1 := match s.recInForce with
    | some (_, r) => { s with boot := { s.boot with rec_ := r } }
    | none => { s.sb Reg.BOOT_STAT Fld.BOOT_STAT_REC_BAD true with boot := { s.boot with rec_ := ⟨0, 0, 0, 0, 0, false, false, none⟩ } }
  s1.each s1.fiddlehead (fun w x => revertRecord w 4 x)

/-- A reset is released (R121, R480, R497, R551): the load begins. While TEST_EN is high the part performs none of its functions (R528): it stays
as in a reset (notes/assumptions/47.md). -/
def releaseReset (s : State) : State :=
  if s.dev.testEn then { s with dev := { s.dev with resetLowAt := none } } else
  let s1 : State := { s with dev := { s.dev with inReset := false, releasedAt := s.now, resetLowAt := none } }
  let s2 := readRecord (detectFlash s1)
  let s3 := s2.each (fun w => !s2.railOff w) startFirmware
  powerUpRun (beginLoad s3)

/-- VALID of the save area becomes 0 (R464). -/
def clearSave (s : State) : State := { s.wrB 0xF004 0 with pwr := { s.pwr with saved := none } }

/-- RESET_N_ASSERT (R542): RESET_N has been low for 500 ns. -/
def execResetNAssert (t : Nat) (s : State) : Host.Outcome State Fault Refusal :=
  let s1 := deviceReset (clearSave (s.beginAt t))
  .next { s1 with dev := { s1.dev with resetLowAt := some s1.now } }

/-- RESET_N_RELEASE (R542): nothing unless RESET_N holds the part. -/
def execResetNRelease (t : Nat) (s : State) : Host.Outcome State Fault Refusal :=
  let s1 := s.beginAt t
  if s1.dev.resetLowAt.isSome then .next (releaseReset s1) else .next s1

/-- POWER_ON_RESET (R543). -/
def execPowerOnReset (t : Nat) (s : State) : Host.Outcome State Fault Refusal := .next (powerOn (s.beginAt t))

/-- POWER_ON_RESET_END (R426, R543): the management address is that of the MADDR balls, and the load begins. -/
def execPowerOnResetEnd (t : Nat) (s : State) : Host.Outcome State Fault Refusal :=
  let s1 := s.beginAt t
  .next (releaseReset (s1.sf Reg.MGMT_CFG Fld.MGMT_CFG_ADDR (0x68 + s1.dev.strap % 8)))

/-- A device reset that the part holds for 1 µs and releases itself (R551). -/
def resetAndRelease (s : State) : State := releaseReset ((deviceReset s).at (s.now + 1000))

/-- A write of DEV_CTL (R30, R34, R46): the device reset alone when both are asked; a context reset waits for the next tick. -/
def devCtl (dev ctx : Bool) (key : Nat) (s : State) : State :=
  if !dev && !ctx then s
  else if key ≠ 0x5A then s.keyErr
  else if dev then resetAndRelease s
  else if s.dev.ctxPend then s
  else { s.sf Reg.DEV_STAT Fld.DEV_STAT_CTX_DROP 0 with dev := { s.dev with ctxPend := true } }

/-- DEV_RST (R46, R551). -/
def execDevRst (t : Nat) (src : Requester) (key : Byte) (ctxRst : Bool) (s : State) : Host.Outcome State Fault Refusal :=
  .next ((s.beginAt t).thWrite src (devCtl true ctxRst key.toNat))

/-- CTX_RST (R30, R34). -/
def execCtxRst (t : Nat) (src : Requester) (key : Byte) (s : State) : Host.Outcome State Fault Refusal :=
  .next ((s.beginAt t).thWrite src (devCtl false true key.toNat))

/-- TAP_INSTRUCTION (R545): any instruction but BYPASS and IDCODE takes the balls from the show, and the part performs none of its functions
until a device reset: it is held as in one, without keepalives. `code` 0 is BYPASS, 1 IDCODE. -/
def execTapInstruction (t : Nat) (code : Nat) (s : State) : Host.Outcome State Fault Refusal :=
  let s1 := s.beginAt t
  if code = 0 ∨ code = 1 then .next s1
  else .next { deviceReset s1 with dev := { (deviceReset s1).dev with tap := code } }

end Sys2Proof.Machine
end

