-- ==== Sys2Proof/Machine/TwinCtl.lean ====
section
/-!
DEFINITION. Twin control (R18, R37, R38, R44, R47, R356, R461), output control (R42, R43), the host watchdog (R45), and the commands of the
Peristome that change roles (R344, R354, R357).
-/
namespace Sys2Proof.Machine

/-! ### The start of a twin (R18) -/

/-- R18 for a twin whose start sequence is complete while no twin is ACTIVE. -/
def firstActive (w : Twin) (s : State) : State :=
  if s.dev.everActive then s
  else if w = .a then s.takeActive .a
  else if s.dev.fiveSec ∨ s.dev.releasedAt + 5000000000 ≤ s.now then
    (let u := s.takeActive .b; { u with dev := { u.dev with firstAt := some u.now } })
  else s

/-- The start sequence of a twin ends (R18, R38, R482, R489): settings are taken, a trial counts, and the twin takes its role. A twin that
restarts in place waits for its rebuild (R483). Where both twins complete in one clock after 5 s, Twin A takes ACTIVE though the completion of
Twin B has been taken first (R18; notes/assumptions/34.md). A twin whose ISO bit was set while it was OFF stays OFF with its start complete
until the bit is cleared: DESIGN CHOICE (notes/assumptions/34.md). -/
def startDone (w : Twin) (s : State) : State :=
  if (s.boot.start w).isNone then s
  else
    let s1 := { s.setStarted w true with boot := s.boot.setStart w none }
    let s2 : State := match w with
      | .a => { s1 with peri := { s1.peri with hbA := s1.now } }
      | .b => { s1 with peri := { s1.peri with hbB := s1.now } }
    let s3 := trialStarts w (settingsStart w (calAtStart w s2))
    if s3.boot.hand.any (fun h => decide (h.w = w)) then s3
    else if s3.rb Reg.TWIN_CTL (Fld.iso w) then s3
    else if s3.roleOf w = .isolated then s3.setRole w .resync
    else if s3.roleOf w ≠ .off then s3
    else if w = .a ∧ s3.active = some .b ∧ s3.dev.firstAt = some s3.now then s3.setRoles .active .resync
    else if s3.active.isSome then s3.setRole w .resync
    else firstActive w s3

/-- TWIN_START_COMPLETE (R18): nothing while no start sequence of the twin runs. -/
def execTwinStartComplete (t : Nat) (w : Twin) (s : State) : Host.Outcome State Fault Refusal := .next (startDone w (s.beginAt t))

/-- FW_TRIAL (R482): the start sequence of a twin on trial ends. -/
def execFwTrial (t : Nat) (s : State) : Host.Outcome State Fault Refusal :=
  let s1 := s.beginAt t
  .next (s1.each s1.fiddlehead startDone)

/-- TWIN_START_TIMEOUT (R18): 5 s after the release, once. -/
def execTwinStartTimeout (s : State) : Host.Outcome State Fault Refusal :=
  let s0 := s.begin
  if s0.dev.inReset || s0.dev.fiveSec then .next s0
  else
    let s1 := s0.at (s0.dev.releasedAt + 5000000000)
    let s2 : State := { s1 with dev := { s1.dev with fiveSec := true } }
    if s2.active.isNone ∧ !s2.dev.everActive ∧ s2.started .b ∧ !s2.rb Reg.TWIN_CTL (Fld.iso .b) then .next (s2.takeActive .b) else .next s2

/-! ### TWIN_CTL -/

/-- RST cleared (R38): the twin starts, unless ISO holds it. Of a twin whose reset still waits for its swap, the reset is withdrawn. -/
def clearRst (w : Twin) (s : State) : State :=
  let s1 := s.sb Reg.TWIN_CTL (Fld.rst w) false
  if s1.roleOf w ≠ .off ∧ s1.roleOf w ≠ .isolated then s1.withdraw w
  else if s1.rb Reg.TWIN_CTL (Fld.iso w) || s1.railOff w then s1 else startFirmware w s1

/-- ISO cleared (R38, R339): to RESYNC, to OFF under RST, or first through the start sequence. An OFF twin whose RST bit was cleared under ISO
starts too (R38). Of a twin whose isolation still waits for its swap, the isolation is withdrawn. -/
def clearIso (w : Twin) (s : State) : State :=
  let s1 := s.sb Reg.TWIN_CTL (Fld.iso w) false
  if s1.roleOf w = .off then
    (if s1.rb Reg.TWIN_CTL (Fld.rst w) || s1.railOff w then s1
    else if s1.started w then s1.setRole w .resync
    else if (s1.boot.start w).isSome then s1
    else startFirmware w s1)
  else if s1.roleOf w ≠ .isolated then s1.withdraw w
  else if s1.rb Reg.TWIN_CTL (Fld.rst w) then s1.setRole w .off
  else if s1.started w then s1.setRole w .resync
  else if (s1.boot.start w).isSome then s1
  else startFirmware w s1

/-- ISO or RST set for a twin that is not ACTIVE, or at once for one that is (R38, R47). A twin that is OFF keeps its role (R339). -/
def setBits (w : Twin) (iso rst : Bool) (s : State) : State :=
  let s1 := if iso then (if s.roleOf w = .off then s.sb Reg.TWIN_CTL (Fld.iso w) true else s.isolate w) else s
  if rst then s1.holdReset w else s1

/-- The ACTIVE twin has taken the role by a forced swap: until it delivers a block, a missing stream parks every strand port (R44). -/
def State.markForced (s : State) : State := { s with peri := { s.peri with forced := s.active.isSome } }

/-- The forced swap (R44). -/
def forcedSwap (s : State) : State :=
  match s.active with
  | some w =>
    let o := w.other
    if s.roleOf o = .off ∨ s.roleOf o = .isolated then s.refuse
    else ((s.sb Reg.TWIN_CTL (Fld.iso w) true).setRoles2 w .isolated .active).markForced
  | none =>
    match [Role.ready, .standby, .resync, .diverged].findSome? (fun r => twins.find? (fun w => decide (s.roleOf w = r))) with
    | some w => (s.takeActive w).markForced
    | none => s.refuse

/-- The standby takes ACTIVE from a twin that a write names in a pending arbitration (R356), in one change of roles. -/
def passActive (w : Twin) (iso : Bool) (s : State) : State :=
  let s1 := if iso then s.sb Reg.TWIN_CTL (Fld.iso w) true else s
  s1.setRoles2 w (if s1.rb Reg.TWIN_CTL (Fld.iso w) then .isolated else .off) .active

/-- A write of TWIN_CTL (R37, R38, R44, R47, R356): releases first, then what is set for a twin that is not ACTIVE, then for the ACTIVE one,
then the swap. A forced swap is refused only when no twin is eligible (R41), in a pending arbitration too: R356 is read as refusing a swap
with FORCE = 0 (DEDUCED, notes/assumptions/34.md). -/
def twinCtl (v : Word) (s : State) : State :=
  let bit := fun (f : Fld) => getFld v f = 1
  let old := fun (f : Fld) => s.rb Reg.TWIN_CTL f
  let force := bit Fld.TWIN_CTL_FORCE
  let s1 := s.each (fun w => old (Fld.rst w) && !decide (bit (Fld.rst w))) clearRst
  let s2 := s1.each (fun w => old (Fld.iso w) && !decide (bit (Fld.iso w))) clearIso
  let iso := fun (w : Twin) => !old (Fld.iso w) && decide (bit (Fld.iso w))
  let rst := fun (w : Twin) => !old (Fld.rst w) && decide (bit (Fld.rst w))
  let named := fun (w : Twin) => iso w || rst w
  let swap := bit Fld.TWIN_CTL_SWAP
  if s2.peri.arb.isSome then
    let s3 := if named .a || named .b then
        let w := s2.active
        let x : State := endArb (named .a) (named .b) s2
        let z : State := match w with
          | some a0 =>
            let o : Role := x.roleOf a0.other
            if named a0 && !named a0.other && decide (o ≠ .off ∧ o ≠ .isolated) then passActive a0 (iso a0) x else x
          | none => x
        lateDigest (z.each named (fun w y => setBits w (iso w) (rst w) y))
      else s2
    if !swap then s3 else if force then forcedSwap s3 else s3.refuse
  else
    let s3 := s2.each (fun w => named w && decide (s2.active ≠ some w)) (fun w z => setBits w (iso w) (rst w) z)
    let s4 := match s2.active with
      | none => s3
      | some w =>
        if !named w then s3
        else if s3.roleOf w.other = .ready then
          let x := if iso w then s3.sb Reg.TWIN_CTL (Fld.iso w) true else s3
          let y := if rst w then x.sb Reg.TWIN_CTL (Fld.rst w) true else x
          y.addSwap { from_ := w, then_ := if rst w then .reset else .isolate, byHost := true }
        else if force then setBits w (iso w) (rst w) s3
        else s3.refuse
    if !swap then s4
    else if force then forcedSwap s4
    else match s4.active with
      | some w => if s4.roleOf w.other = .ready then s4.addSwap { from_ := w, then_ := .ready, byHost := true } else s4.refuse
      | none => s4.refuse

/-- A write of TWIN_CTL waits for the end of NAP, where a swap with FORCE = 0 is refused (R461); a forced swap is made at once (R41, R44:
notes/assumptions/34.md). -/
def twinCtlWrite (v : Word) (s : State) : State :=
  if s.inNap then
    let s1 := if getFld v Fld.TWIN_CTL_SWAP ≠ 1 then s else if getFld v Fld.TWIN_CTL_FORCE = 1 then forcedSwap s else s.refuse
    { s1 with pwr := { s1.pwr with deferred := s1.pwr.deferred ++ [.twinCtl (BitVec.ofNat 32 (putFld v.toNat Fld.TWIN_CTL_SWAP 0))] } }
  else twinCtl v s

/-- The word of TWIN_CTL with a field of each twin changed. -/
def State.twinCtlWord (s : State) (f : Twin → Fld) (ta tb val force : Bool) : Word :=
  let v := putFld (s.reg Reg.TWIN_CTL).toNat Fld.TWIN_CTL_SWAP 0
  let x := if ta then putFld v (f .a) (if val then 1 else 0) else v
  let y := if tb then putFld x (f .b) (if val then 1 else 0) else x
  BitVec.ofNat 32 (putFld y Fld.TWIN_CTL_FORCE (if force then 1 else 0))

/-- RST_SET (R37, R356). -/
def execRstSet (t : Nat) (src : Requester) (ta tb force : Bool) (s : State) : Host.Outcome State Fault Refusal :=
  .next ((s.beginAt t).thWrite src (fun x => twinCtlWrite (x.twinCtlWord Fld.rst ta tb true force) x))

/-- RST_CLEAR (R38). -/
def execRstClear (t : Nat) (src : Requester) (ta tb : Bool) (s : State) : Host.Outcome State Fault Refusal :=
  .next ((s.beginAt t).thWrite src (fun x => twinCtlWrite (x.twinCtlWord Fld.rst ta tb false false) x))

/-- ISO_SET (R47, R356). -/
def execIsoSet (t : Nat) (src : Requester) (ta tb force : Bool) (s : State) : Host.Outcome State Fault Refusal :=
  .next ((s.beginAt t).thWrite src (fun x => twinCtlWrite (x.twinCtlWord Fld.iso ta tb true force) x))

/-- ISO_CLEAR (R339). -/
def execIsoClear (t : Nat) (src : Requester) (ta tb : Bool) (s : State) : Host.Outcome State Fault Refusal :=
  .next ((s.beginAt t).thWrite src (fun x => twinCtlWrite (x.twinCtlWord Fld.iso ta tb false false) x))

/-- SWAP (R44). -/
def execSwap (t : Nat) (src : Requester) (force : Bool) (s : State) : Host.Outcome State Fault Refusal :=
  .next ((s.beginAt t).thWrite src (fun x =>
    twinCtlWrite (BitVec.ofNat 32 (putFld (x.twinCtlWord Fld.iso false false false force).toNat Fld.TWIN_CTL_SWAP 1)) x))

/-! ### Output control (R42, R43) -/

/-- A write of OUT_CTL: when the ports come back to the twins, their next frame is forced full (R280). -/
def outCtl (hold safe : Bool) (s : State) : State :=
  let s1 := (s.sb Reg.OUT_CTL Fld.OUT_CTL_HOLD hold).sb Reg.OUT_CTL Fld.OUT_CTL_SAFE safe
  leaveHold s s1

/-- OUT_HOLD (R42). -/
def execOutHold (t : Nat) (src : Requester) (on : Bool) (s : State) : Host.Outcome State Fault Refusal :=
  .next ((s.beginAt t).thWrite src (fun x => outCtl on (x.rb Reg.OUT_CTL Fld.OUT_CTL_SAFE) x))

/-- OUT_SAFE (R43). -/
def execOutSafe (t : Nat) (src : Requester) (on : Bool) (s : State) : Host.Outcome State Fault Refusal :=
  .next ((s.beginAt t).thWrite src (fun x => outCtl (x.rb Reg.OUT_CTL Fld.OUT_CTL_HOLD) on x))

/-! ### The host watchdog (R45) -/

/-- The count loaded from a TIMEOUT of `ms`: 0 acts as 1. -/
def loadWdog (ms : Nat) (s : State) : State := { s with dev := { s.dev with wdogAt := some (s.now + max 1 ms * 1000000) } }

/-- A write of WDOG_CTL. -/
def wdogCtl (v : Word) (s : State) : State :=
  let was := s.rb Reg.WDOG_CTL Fld.WDOG_CTL_EN
  let s1 := s.plainWrite Reg.WDOG_CTL v
  if getFld v Fld.WDOG_CTL_EN = 0 then { s1 with dev := { s1.dev with wdogAt := none } }
  else if was then s1
  else loadWdog (getFld v Fld.WDOG_CTL_TIMEOUT) s1

/-- WDOG_CTL_WRITE (R45). -/
def execWdogCtlWrite (t : Nat) (src : Requester) (v : Word) (s : State) : Host.Outcome State Fault Refusal :=
  .next ((s.beginAt t).thWrite src (wdogCtl v))

/-- A write of WDOG_KICK: 0xA5 reloads a count that runs. -/
def kickWdog (v : Word) (s : State) : State :=
  if v ≠ 0xA5 then s.keyErr
  else if s.dev.wdogAt.isSome then loadWdog (s.rf Reg.WDOG_CTL Fld.WDOG_CTL_TIMEOUT) s
  else s

/-- WDOG_KICK (R45). -/
def execWdogKick (t : Nat) (src : Requester) (v : Word) (s : State) : Host.Outcome State Fault Refusal :=
  .next ((s.beginAt t).thWrite src (kickWdog v))

/-- WDOG_EXPIRED (R45): the count reaches zero; nothing while it does not run. -/
def execWdogExpired (s : State) : Host.Outcome State Fault Refusal :=
  let s0 := s.begin
  match s0.dev.wdogAt with
  | none => .next s0
  | some x =>
    let s1 := (s0.at x).raiseTh 25 0
    let s2 : State := { s1.sb Reg.WDOG_CTL Fld.WDOG_CTL_EN false with dev := { s1.dev with wdogAt := none } }
    match s1.rf Reg.WDOG_CTL Fld.WDOG_CTL_ACTION with
    | 1 => .next (outCtl true (s2.rb Reg.OUT_CTL Fld.OUT_CTL_SAFE) s2)
    | 2 => .next (outCtl (s2.rb Reg.OUT_CTL Fld.OUT_CTL_HOLD) true s2)
    | 3 => .next (resetAndRelease s2)
    | _ => .next s2

/-! ### The Peristome -/

/-- The decision of the pending arbitration, at t_dec, and the digest comparison that waited for it. -/
def arbDecide (s : State) : State :=
  match s.peri.arb with
  | none => s
  | some a => lateDigest (decideArb a (s.at a.tdec))

/-- PERI_ARB_DECIDE (R354): nothing while no arbitration is pending. -/
def execPeriArbDecide (s : State) : Host.Outcome State Fault Refusal := .next (arbDecide s.begin)

/-- A held stream that slips when it resumes (Table 13-5): what it carried was in progress at the cut. Proren slips are decided at the
latch. -/
def State.slipsAtResume (s : State) (h : Held) : Bool :=
  match s.active with
  | none => false
  | some w =>
    let p := s.personality w h.stream
    decide (h.stream < 128) && h.busy && (decide (p = 2) || decide (p = 3) || (decide (p = 4) && decide (s.tReset w h.stream ≠ 0)))

/-- The held streams resume at t_rep (R357). -/
def periResume (s : State) : State :=
  match s.peri.resume with
  | none => s
  | some (at_, hs) =>
    let s1 := s.at at_
    let back := fun (h : Held) (x : State) => match x.active with
      | some w => if h.stream < 128 ∧ x.portHeld then x else x.emit (.resume h.stream x.now w)
      | none => x
    let s2 := hs.foldl (fun x h => back h (ringResume h.stream x)) { s1 with peri := { s1.peri with resume := none } }
    (hs.filter (fun h => s2.slipsAtResume h && !s2.peri.slips.contains h.stream)).foldl (fun x h => slipStream x.tg.latchK h.stream x) s2

/-- PERI_RESUME (R357). -/
def execPeriResume (s : State) : Host.Outcome State Fault Refusal := .next (periResume s.begin)

/-- DIGEST_COMPARE (R344). -/
def execDigestCompare (t : Nat) (arrA arrB : Bool) (s : State) : Host.Outcome State Fault Refusal :=
  .next (digestCompare arrA arrB (s.beginAt t))

/-- DIE_SENSOR_OVERTEMP (R547): OVERTEMP of the twin. -/
def execDieSensorOvertemp (t : Nat) (w : Twin) (s : State) : Host.Outcome State Fault Refusal :=
  .next ((s.beginAt t).setHealth w 7)

end Sys2Proof.Machine
end

