-- ==== Sys2Proof/Machine/Power.lean ====
section
/-!
DEFINITION. The power controller (chapter 17): operating points, requests, the sleep sequence, wakes, and the supply monitors. A step that
has nothing to wait for ends at the instant at which it begins, and a wake from NAP is made whole at its source (notes/assumptions/26.md).
-/
namespace Sys2Proof.Machine

def State.powerState (s : State) : Nat := s.rf Reg.PWR_STAT Fld.PWR_STAT_STATE
def State.powerPhase (s : State) : Nat := s.rf Reg.PWR_STAT Fld.PWR_STAT_PHASE
def setPhase (n : Nat) (s : State) : State := s.sf Reg.PWR_STAT Fld.PWR_STAT_PHASE n
def State.modPwr (s : State) (f : Power → Power) : State := { s with pwr := f s.pwr }

/-- The twin whose image gives the POWER section: the ACTIVE one, or the one that was ACTIVE when the part went to DARK. -/
def State.powerTwin (s : State) : Twin := s.active.getD s.pwr.home

/-! ### Operating points (R452 to R454) -/

def State.opp (s : State) : Nat := s.rf Reg.PWR_STAT Fld.PWR_STAT_OPP_A
def setOpp (n : Nat) (s : State) : State := (s.sf Reg.PWR_STAT Fld.PWR_STAT_OPP_A n).sf Reg.PWR_STAT Fld.PWR_STAT_OPP_B n

/-- The operating point of the state in force. -/
def State.oppWanted (s : State) : Nat :=
  if s.powerState = 2 then s.rf Reg.PWR_OPP Fld.PWR_OPP_DIM_OPP else s.rf Reg.PWR_OPP Fld.PWR_OPP_RUN_OPP

/-- A change begins: a lower frequency (a higher OPP) at once and then the setpoint, a higher frequency the setpoint alone (R454). -/
def startOpp (new : Nat) (s : State) : State :=
  let old := s.opp
  if new = old then s
  else
    let s1 := s.modPwr (fun p => { p with vsel := new, opp := some { old := old, new := new, since := s.now } })
    if old < new then setOpp new s1 else s1

/-- The change of OPP that is due at a tick (R453). -/
def oppTick (s : State) : State :=
  match s.pwr.opp, s.pwr.oppWait with
  | none, some arrival =>
    if (arrival = 0 ∨ arrival + 2000 ≤ s.tg.cur.raw) ∧ (s.powerState = 1 ∨ s.powerState = 2) then
      startOpp s.oppWanted (s.modPwr (fun p => { p with oppWait := none }))
    else s
  | _, _ => s

def State.oppSettle (s : State) : Nat := max 10 (s.rf Reg.PWR_CFG Fld.PWR_CFG_OPP_SETTLE) * 1000
def State.pgTimeout (s : State) : Nat := max 1 (s.rf Reg.PWR_CFG Fld.PWR_CFG_PG_TO) * 1000000

/-- The raised frequency is applied. -/
def oppRaised (c : OppChange) (s : State) : State := setOpp c.new (s.modPwr (fun p => { p with opp := none }))

/-- OPP_RAISE_SETTLE (R454): nothing before OPP_SETTLE has passed or while a PG is low. -/
def execOppRaiseSettle (t : Nat) (pgA pgB : Bool) (s : State) : Host.Outcome State Fault Refusal :=
  let s1 := s.beginAt t
  match s1.pwr.opp with
  | some c =>
    if c.new < c.old ∧ c.since + s1.oppSettle ≤ s1.now ∧ pgA ∧ pgB then .next (oppRaised c s1) else .next s1
  | none => .next s1

/-- OPP_LOWER_SETTLE (R454). -/
def execOppLowerSettle (s : State) : Host.Outcome State Fault Refusal :=
  let s0 := s.begin
  match s0.pwr.opp with
  | some c => if c.old < c.new then .next ((s0.at (c.since + s0.oppSettle)).modPwr (fun p => { p with opp := none })) else .next s0
  | none => .next s0

/-- OPP_PG_TIMEOUT (R454): PG_TO ms after the tick of a raise. -/
def execOppPgTimeout (pgA pgB : Bool) (s : State) : Host.Outcome State Fault Refusal :=
  let s0 := s.begin
  match s0.pwr.opp with
  | some c =>
    if c.new < c.old then
      let s1 := s0.at (c.since + s0.pgTimeout)
      if pgA ∧ pgB then .next (oppRaised c s1)
      else
        let s2 := s1.modPwr (fun p => { p with opp := none, vsel := c.old })
        let s3 := if pgA then s2 else s2.setHealth .a 6
        .next (if pgB then s3 else s3.setHealth .b 6)
    else .next s0
  | none => .next s0

/-- A write of PWR_OPP: both of its fields are written. -/
def writeOpp (v : Word) (s : State) : State := (s.plainWrite Reg.PWR_OPP v).modPwr (fun p => { p with oppWait := some s.now })

/-- PWR_OPP_WRITE (R453). -/
def execPwrOppWrite (t : Nat) (src : Requester) (v : Word) (s : State) : Host.Outcome State Fault Refusal :=
  .next ((s.beginAt t).thWrite src (writeOpp v))

/-! ### RUN and DIM (R456) -/

/-- The RUN or DIM request that is due takes effect at the newest tick, with its change of OPP. -/
def stateChange (s : State) : State :=
  match s.pwr.change with
  | some (code, arrival) =>
    if s.tg.ran ∧ arrival + 2000 ≤ s.tg.cur.raw ∧ s.powerPhase = 0 then
      let s1 := (s.sf Reg.PWR_STAT Fld.PWR_STAT_STATE code).modPwr (fun p => { p with change := none, oppWait := some 0 })
      oppTick s1
    else s
  | none => s

/-- PWR_STATE_CHANGE (R456). -/
def execPwrStateChange (s : State) : Host.Outcome State Fault Refusal := .next (stateChange s.begin)

/-! ### The wake from NAP (R461, R463) -/

/-- One write that waited for the end of the wake. -/
def runDeferred (s : State) : Deferred → State
  | .twinCtl v => twinCtl v s
  | .graftGo via => s.deliver via graftGo

/-- The links come up again under R134 (R463), and are down until then. -/
def dropLinks (w : Twin) (s : State) : State := (List.range 4).foldl (fun x n => linkDown w n x) s

/-- The wake from NAP by a source, to state `st`. Compute resumes 300 µs after the source. -/
def napWake (source st : Nat) (s : State) : State :=
  let run := fun (w : Twin) => decide (s.roleOf w ≠ .off)
  let s1 := s.each run (fun w x => dropLinks w ((wakeBanks w x).modTw w (fun t => { t with zones := [] })))
  let s2 := setPhase 0 ((s1.sf Reg.PWR_STAT Fld.PWR_STAT_STATE st).sf Reg.PWR_STAT Fld.PWR_STAT_WAKE_SRC source)
  let s3 : State := { s2 with
    pwr := { s2.pwr with resumeAt := some (s2.now + 300000), oppWait := some 0, deferred := [] }
    peri := { s2.peri with hbA := s2.now, hbB := s2.now } }
  calResume (s.pwr.deferred.foldl runDeferred (s3.raisePwr 13 source))

/-- Compute resumes at the newest tick (R463): each Proren port sends WAKE, and the ports return with the frame of this tick. -/
def resumeTick (s : State) : State :=
  match s.pwr.resumeAt with
  | some r =>
    if s.pwr.stopped ∧ r ≤ s.tg.cur.raw then
      let s1 := s.modPwr (fun p => { p with stopped := false, resumeAt := none, release := some s.tickNo })
      match s1.active with
      | some w => (portsWith s1 w 1).foldl (fun x p => x.emitWake p) s1
      | none => s1
    else s
  | none => s

/-! ### The save area and DARK (R102, R464, R465) -/

/-- The registers of Table 17-5, those of Sorus of the ACTIVE twin. -/
def savedAddrs (w : Twin) : List Nat :=
  (List.range 3).flatMap (fun n => [Reg.TB_CTL n, Reg.TB_STAT n, Reg.TB_RATE n, Reg.TB_THRESH n, Reg.TB_STEP_CTL n, Reg.TB_SLEW n,
    Reg.TB_TIMEOUT n, Reg.TB_RATE_AVG n]) ++
  [Reg.TB2_LTC_CTL, Reg.TGEN_RATE, Reg.TGEN_CDL, Reg.TGEN_LOFS, Reg.TGEN_LIVE_RATE, Reg.TGEN_LIVE_CDL, Reg.TGEN_LIVE_LOFS, Reg.TGEN_SRC,
    Reg.TGEN_PHASE, Reg.TGEN_PHASE + 4, Reg.TGEN_NUM, Reg.PERI_CFG, Reg.PWR_OPP, Reg.PWR_CFG, Reg.PWR_ALARM, Reg.PWR_ALARM + 4,
    Reg.SORUS_CFG w] ++ (List.range 64).map (Reg.SORUS_QCTL w)

/-- What a save holds. -/
def saveOf (s : State) : Saved :=
  let hold := fun (b : TimeBase) => b.runAt s.now b.rate
  { tb0 := hold s.tb0, tb1 := hold s.tb1, tb2 := hold s.tb2, tg := s.tg,
    regs := (savedAddrs s.powerTwin).map (fun a => (a, s.reg a)),
    before := if s.powerState = 1 ∨ s.powerState = 2 then s.powerState else s.pwr.before }

/-- Entry to DARK: what DOMAINS and DRAM do (Table 17-3). The twins are OFF, no tick runs, and the Thallus main domain does nothing more. -/
def enterDark (valid : Bool) (s : State) : State :=
  let save := saveOf s
  let s1 := (s.wrB 0xF004 (if valid then 0xA5 else 0)).setRoles .off .off
  let s2 := (List.range 3).foldl (fun x n => (x.sf (Reg.TB_CTL n) Fld.TB_CTL_MODE 0).sf (Reg.TB_STAT n) Fld.TB_STAT_STATE 0) s1
  let s3 := setPhase 0 (s2.sf Reg.PWR_STAT Fld.PWR_STAT_STATE 4)
  let s4 : State := { s3 with
    mainOff := true, swapDue := none, flash := [], msixEn := false, bme := false, funcMask := false,
    tg := { TickGen.reset with cur := s3.tg.cur, prev := s3.tg.prev }
    dev := { s3.dev with wdogAt := none, ctxPend := false }
    boot := { Boot.reset with rec_ := s3.boot.rec_ }
    peri := { Peri.reset with total := s3.peri.total }
    cal := { s3.cal with run := none, powerUp := false, busy := false, pend := none, apply := [], again := [], void := false }
    pwr := { s3.pwr with sleep := none, change := none, opp := none, oppWait := none, vsel := 0, release := none, wake := none, deferred := [],
                         stopped := true, resumeAt := none, home := s.powerTwin, saved := if valid then some save else none } }
  s4.raisePwr 9 4

/-- A base restored after DARK (R102): its count advanced by the elapsed TB3 time scaled by the saved rate; LOCKED, SLEWING and HOLDOVER
come back in HOLDOVER, on the mean rate of R87. -/
def restoreBase (n : Fin 4) (v : TimeBase) (s : State) : State :=
  let elapsed := s.tb3.exact s.now - s.tb3.exact v.at_
  let st := s.tbState n
  let count := v.count + elapsed * ((2 : Int) ^ 40 + v.rate).toNat / 2 ^ 40
  let v1 : TimeBase := { v with count := count, at_ := s.now, holdAt := s.now, past := [], quals := [] }
  let s1 := s.setTb n { v1 with inLock := 0, rejRun := 0, slewEnd := none, warned := false }
  if st = tbLocked ∨ st = tbSlewing then
    (s1.sf (Reg.TB_STAT n.val) Fld.TB_STAT_STATE tbHoldover).runTb n (toSigned 32 (s1.reg (Reg.TB_RATE_AVG n.val)).toNat)
  else s1

/-- The registers and bases of a save take the place of their reset values (R465); VALID becomes 0. The tick and the state wait for the end of
the load, unless the load has ended in the minimal configuration. -/
def restoreSave (v : Saved) (s : State) : State :=
  let put := fun (x : State) (e : Nat × Word) =>
    if e.1 = Reg.TB_STAT 0 ∨ e.1 = Reg.TB_STAT 1 ∨ e.1 = Reg.TB_STAT 2 then x.setReg e.1 (e.2 &&& 7)
    else if inTwin .a e.1 ∨ inTwin .b e.1 then
      (x.setReg (Twin.base .a + e.1 % 0x10000000) e.2).setReg (Twin.base .b + e.1 % 0x10000000) e.2
    else x.setReg e.1 e.2
  let s1 := v.regs.foldl put (s.wrB 0xF004 0)
  let s2 := restoreBase 2 v.tb2 (restoreBase 1 v.tb1 (restoreBase 0 v.tb0 s1))
  let s3 := s2.modPwr (fun p => { p with saved := some v })
  if s3.rf Reg.REJ_LOAD_STAT Fld.REJ_LOAD_STAT_SRC = 2 then restoreTick v s3 else s3

/-- Events that DARK has held set their pending bits and send their messages (R519). -/
def flushHeld (l : List (Nat × Nat)) (s : State) : State :=
  l.foldl (fun x e =>
    let y := x.orReg (Reg.EVT_PEND (e.1 / 32)) (2 ^ (e.1 % 32))
    let r := y.reg (Reg.EVT_ROUTE e.1)
    if getFld r Fld.EVT_ROUTE_MSIX_EN = 1 then y.sendMsix (getFld r Fld.EVT_ROUTE_VECTOR) e.1 else y) s

/-- A wake from DARK begins (R466): PEN_TM is asserted. -/
def darkStart (source : Nat) (s : State) : State :=
  setPhase 10 (s.modPwr (fun p => { p with wake := some { source := source, stage := 1, retried := false, retryAt := 0, failA := false, failB := false } }))

/-- What a wake keeps of the power registers through its device reset: XIN1, the source, and a failure. -/
def keepWake (source : Nat) (old s : State) : State :=
  let s1 := (s.sb Reg.PWR_STAT Fld.PWR_STAT_REF_XIN1 (old.rb Reg.PWR_STAT Fld.PWR_STAT_REF_XIN1)).sf Reg.PWR_STAT Fld.PWR_STAT_WAKE_SRC source
  if old.rb Reg.PWR_STAT Fld.PWR_STAT_WAKE_FAIL then
    (s1.sb Reg.PWR_STAT Fld.PWR_STAT_WAKE_FAIL true).setReg Reg.PWR_FAIL (old.reg Reg.PWR_FAIL)
  else s1

/-- The end of a wake from DARK (R465, R466): a device reset, with the restore if the save area is good. A twin whose rail has failed stays
off. -/
def darkEnd (x : WakeSt) (s : State) : State :=
  let s1 := (deviceReset s).modPwr (fun p => { p with offA := x.failA, offB := x.failB })
  let s2 := releaseReset (keepWake x.source s s1)
  let s3 := match s.pwr.saved with
    | some v => restoreSave v s2
    | none => s2.sb Reg.PWR_STAT Fld.PWR_STAT_RESTORE_BAD true
  (flushHeld s.heldEvents s3).raisePwr 13 x.source

/-- DARK_WAKE (R466): the wake in progress, or one that a source begins now, reaches its end. -/
def execDarkWake (t : Nat) (source : Fin 8) (s : State) : Host.Outcome State Fault Refusal :=
  let s1 := s.beginAt t
  match s1.pwr.wake with
  | some x => .next (darkEnd x s1)
  | none =>
    if s1.mainOff ∧ !s1.rb Reg.PWR_STAT Fld.PWR_STAT_WAKE_FAIL ∧ (source.val = 2 ∨ source.val = 3 ∨ source.val = 5) then
      .next (darkEnd { source := source.val, stage := 4, retried := false, retryAt := 0, failA := false, failB := false } s1)
    else .next s1

/-- A wake failure (R467): the domain and step, PMFAIL_N low (as WAKE_FAIL shows), and E11. -/
def wakeFail (domain step : Nat) (s : State) : State :=
  let s1 := (s.sf Reg.PWR_FAIL Fld.PWR_FAIL_DOMAIN domain).sf Reg.PWR_FAIL Fld.PWR_FAIL_STEP step
  let s2 := s1.sb Reg.PWR_FAIL Fld.PWR_FAIL_XIN1_TRIED (s1.rb Reg.PWR_STAT Fld.PWR_STAT_REF_XIN1)
  (s2.sb Reg.PWR_STAT Fld.PWR_STAT_WAKE_FAIL true).raisePwr 11 0

/-- A wake that fails with the Thallus main domain up (R467): no twin, every strand port in HOLD, and the save area as it was. -/
def failedMain (source domain step : Nat) (s : State) : State :=
  let s1 := wakeFail domain step s
  let s2 := (deviceReset s1).modPwr (fun p => { p with offA := true, offB := true, saved := s.pwr.saved })
  let s3 := keepWake source s1 (s2.sf Reg.PWR_STAT Fld.PWR_STAT_STATE 4)
  let s4 : State := { s3 with dev := { s3.dev with inReset := false, releasedAt := s3.now } }
  flushHeld s1.heldEvents s4

/-- A timeout of a power-good or a lock in the wake (R466): `stage` 1 Thallus main, 2 PLL, 3 DRAM, 4 and 5 the twins. The first has a retry; the
second is a failure. Both twins time out in one round when they do so at one instant. -/
def wakeTimeout (stage : Nat) (s : State) : State :=
  match s.pwr.wake with
  | none => s
  | some x =>
    let at_ := min stage 4
    let mark := fun (y : WakeSt) => if stage = 4 then { y with failA := true } else if stage = 5 then { y with failB := true } else y
    if at_ < x.stage then s
    else if !x.retried then
      s.modPwr (fun p => { p with wake := some { x with stage := at_, retried := true, retryAt := s.now } })
    else if x.retryAt = s.now then s
    else
      match stage with
      | 1 => setPhase 0 ((wakeFail 1 1 s).modPwr (fun p => { p with wake := none }))
      | 2 => setPhase 0 ((wakeFail 1 2 s).modPwr (fun p => { p with wake := none }))
      | 3 => failedMain x.source 2 1 s
      | _ =>
        let y := mark { x with stage := 4 }
        if y.failA && y.failB then failedMain x.source 5 1 s
        else (wakeFail (if y.failA then 3 else 4) 1 s).modPwr (fun p => { p with wake := some y })

/-- WAKE_PG_TIMEOUT (R466): `rail` as in Table 17-6. -/
def execWakePgTimeout (t : Nat) (rail : Fin 16) (s : State) : Host.Outcome State Fault Refusal :=
  let s1 := s.beginAt t
  match rail.val with
  | 1 => .next (wakeTimeout 1 s1)
  | 4 => .next (wakeTimeout 3 s1)
  | 2 => .next (wakeTimeout 4 s1)
  | 3 => .next (wakeTimeout 5 s1)
  | _ => .next s1

/-- WAKE_PLL_TIMEOUT (R466): the retry of a lock is made on XIN1, with E14. -/
def execWakePllTimeout (t : Nat) (s : State) : Host.Outcome State Fault Refusal :=
  let s1 := s.beginAt t
  match s1.pwr.wake with
  | some x =>
    let s2 := wakeTimeout 2 s1
    if x.stage ≤ 2 ∧ !x.retried then .next ((s2.sb Reg.PWR_STAT Fld.PWR_STAT_REF_XIN1 true).raisePwr 14 0) else .next s2
  | none => .next s1

/-! ### Requests (R456, R459) and wake sources (R462) -/

/-- A request is abandoned or waits for its next attempt after a refusal (R458, R459); what was done is undone, and the ports return to the
twins with the first frame whose tick follows. In NAP they stay as NAP has them. -/
def refuseSleep (block reason : Nat) (abandon : Bool) (s : State) : State :=
  let taken : Bool := decide (2 ≤ s.powerPhase)
  let s1 := ((s.sf Reg.PWR_REFUSE Fld.PWR_REFUSE_BLOCK block).sf Reg.PWR_REFUSE Fld.PWR_REFUSE_REASON reason).wr64 Reg.PWR_REFUSE_TS s.stamp3
  let s2 := setPhase 0 (s1.raisePwr 10 block)
  let s3 := if !taken then s2
    else if s2.powerState = 3 then s2.modPwr (fun p => { p with ports := if s2.rb Reg.PWR_CFG Fld.PWR_CFG_NAP_SAFE then 2 else 1 })
    else s2.modPwr (fun p => { p with release := some ((s2.tickNo + 1) % 2 ^ 32) })
  let tries := s3.rf Reg.PWR_REFUSE Fld.PWR_REFUSE_TRIES
  let limit := s3.rf Reg.PWR_CFG Fld.PWR_CFG_RETRY_MAX
  if abandon then s3.modPwr (fun p => { p with sleep := none })
  else if limit ≠ 0 ∧ limit ≤ tries then (s3.raiseTh 10 (128 + block)).modPwr (fun p => { p with sleep := none })
  else
    let back := s3.imgPower s3.powerTwin 4 2 * 1000000
    s3.modPwr (fun p => { p with sleep := p.sleep.map (fun q => { q with from_ := s3.now + back }) })

/-- A NAP or DARK request that no transition holds up (R456). -/
def sleepRequest (code : Nat) (s : State) : State :=
  let s1 := (s.wr64 Reg.PWR_REQ_TS s.stamp3).sf Reg.PWR_REFUSE Fld.PWR_REFUSE_TRIES 0
  let on := if code = 3 then s1.napEn s1.powerTwin else s1.darkEn s1.powerTwin
  if on then s1.modPwr (fun p => { p with sleep := some { target := code, from_ := s1.now + 2000, stepAt := s1.now } })
  else
    let s2 := ((s1.sf Reg.PWR_REFUSE Fld.PWR_REFUSE_BLOCK 0).sf Reg.PWR_REFUSE Fld.PWR_REFUSE_REASON 9).wr64 Reg.PWR_REFUSE_TS s1.stamp3
    (s2.raisePwr 10 0).modPwr (fun p => { p with sleep := none })

/-- A request while no transition is in progress. -/
def requestNow (code : Nat) (s : State) : State :=
  if code = 0 ∨ 4 < code then s
  else if s.rb Reg.PWR_STAT Fld.PWR_STAT_WAKE_FAIL ∧ code ≤ 2 then
    darkStart 1 ((s.sb Reg.PWR_STAT Fld.PWR_STAT_WAKE_FAIL false).setReg Reg.PWR_FAIL 0)
  else if s.mainOff ∨ s.powerState = 4 ∨ s.powerState = code then s
  else if 3 ≤ code then sleepRequest code s
  else if s.powerState = 3 then napWake 1 code s
  else s.modPwr (fun p => { p with change := some (code, s.now) })

/-- The held request is acted on when a transition has ended. -/
def actHeld (s : State) : State :=
  requestNow (s.rf Reg.PWR_STAT Fld.PWR_STAT_HELD) (s.sf Reg.PWR_STAT Fld.PWR_STAT_HELD 0)

/-- A step refuses; the transition has ended. -/
def stepRefused (block reason : Nat) (abandon : Bool) (s : State) : State := actHeld (refuseSleep block reason abandon s)

/-- A request (R456): held while a transition is in progress. A wake source during steps 1 to 5 abandons the sleep (R459). -/
def request (code : Nat) (s : State) : State :=
  if code = 0 ∨ 4 < code then s
  else if s.powerPhase = 0 then requestNow code s
  else
    let s1 := s.sf Reg.PWR_STAT Fld.PWR_STAT_HELD code
    if code ≤ 2 ∧ s1.powerPhase ≤ 5 then stepRefused 10 10 true s1 else s1

/-- Power-off sequencing (R468): SAFE, then steps 6 to 9 without asking a block. -/
def powerOff (answers : Bool) (s : State) : State := if s.mainOff then s else enterDark answers (s.modPwr (fun p => { p with ports := 2 }))

/-- A write of PWR_CTL (R456, R468). -/
def writePwrCtl (answers : Bool) (v : Word) (s : State) : State :=
  let code := getFld v Fld.PWR_CTL_REQ
  if getFld v Fld.PWR_CTL_FORCE = 0 then request code s
  else if getFld v Fld.PWR_CTL_KEY ≠ 0x5A then s.keyErr
  else if code = 4 then powerOff answers s
  else s

/-- PWR_CTL takes writes as every register of the Thallus does, and from the management I2C in WAKE_FAIL as well (R467). -/
def State.pwrWrite (s : State) (src : Requester) (f : State → State) : State :=
  if s.thAllows src || (decide (src = .i2c) && s.rb Reg.PWR_STAT Fld.PWR_STAT_WAKE_FAIL) then f s else s

/-- The ACTIVE twin answers the power controller. -/
def State.answers (s : State) : Bool := s.active.isSome

/-- PWR_REQ_RUN (R456). -/
def execPwrReqRun (t : Nat) (src : Requester) (v : Word) (s : State) : Host.Outcome State Fault Refusal :=
  let s1 := s.beginAt t
  .next (s1.pwrWrite src (writePwrCtl s1.answers v))

/-- PWR_REQ_DIM (R456). -/
def execPwrReqDim (t : Nat) (src : Requester) (v : Word) (s : State) : Host.Outcome State Fault Refusal :=
  let s1 := s.beginAt t
  .next (s1.pwrWrite src (writePwrCtl s1.answers v))

/-- PWR_REQ_NAP (R456). -/
def execPwrReqNap (t : Nat) (src : Requester) (v : Word) (s : State) : Host.Outcome State Fault Refusal :=
  let s1 := s.beginAt t
  .next (s1.pwrWrite src (writePwrCtl s1.answers v))

/-- PWR_REQ_DARK (R456). -/
def execPwrReqDark (t : Nat) (src : Requester) (v : Word) (s : State) : Host.Outcome State Fault Refusal :=
  let s1 := s.beginAt t
  .next (s1.pwrWrite src (writePwrCtl s1.answers v))

/-- POWER_OFF_SEQUENCING (R468): a write of PWR_CTL with REQ = 4 and FORCE = 1; `answers` says that the twin writes its part of the save list
within 1 ms. -/
def execPowerOffSequencing (t : Nat) (src : Requester) (key : Byte) (answers : Bool) (s : State) : Host.Outcome State Fault Refusal :=
  .next ((s.beginAt t).pwrWrite src (writePwrCtl answers (BitVec.ofNat 32 (key.toNat * 256 + 16 + 4))))

/-! ### The sleep sequence (R457) -/

/-- What a step comes to. -/
inductive StepTurn where
  | wait
  | refuse (reason : Nat)
  | done (s : State)

/-- A core of a running twin is not IDLE. -/
def State.coresBusy (s : State) : Bool :=
  twins.any (fun w => decide (s.roleOf w ≠ .off) && (List.range 16).any (fun c => !s.coreIdle w c))

/-- A transmit ring is not empty. -/
def State.ringsBusy (s : State) : Bool :=
  s.netTwins.any (fun w => (List.range 4).any (fun n =>
    decide (s.rf (Reg.NET_TX_HEAD w n) Fld.NET_TX_HEAD_HEAD ≠ s.rf (Reg.NET_TX_TAIL w n) Fld.NET_TX_TAIL_TAIL)))

/-- A posted write is queued in a bridge. -/
def State.postedWrites (s : State) : Bool := twins.any (fun w => decide ((s.tw w).bridge.writes ≠ []))

/-- PIPELINE: the records that are due are written, and the work in progress is discarded without a count. -/
def stopCompute (s : State) : State :=
  let s1 := s.each s.computes recordsDue
  (s1.each (fun _ => true) (fun w x => x.modTw w (fun t => { t with frames := [] }))).modPwr (fun p => { p with stopped := true })

/-- A unit of a twin is in calibration, less than 1 ms after the instant `x` (R501). -/
def State.twinInCal (s : State) (x : Nat) : Bool :=
  decide (s.now < x + 1000000) && s.cal.busy && (match s.cal.run with | some (u :: _) => (calTwin u).isSome | _ => false)

/-- The step that PHASE names, for a request of NAP (3) or DARK (4) (Table 17-3). -/
def sleepStep (target : Nat) (s : State) : StepTurn :=
  match s.powerPhase with
  | 1 =>
    if s.latchDue.isSome then .wait
    else if s.peri.arb.isSome then .refuse 1
    else if s.rf Reg.PERI_RESYNC Fld.PERI_RESYNC_PHASE ≠ 0 then .refuse 2
    else .done (s.modPwr (fun p => { p with ports := if target = 4 ∨ s.rb Reg.PWR_CFG Fld.PWR_CFG_NAP_SAFE then 2 else 1, release := none }))
  | 2 =>
    if (match s.active with | some w => decide (s.graftState w ≠ 0) | none => false) then .refuse 3
    else if s.flashBusy 1 then .refuse 4
    else .done s
  | 3 => if s.coresBusy then .wait else .done s
  | 4 => if s.ringsBusy then .wait else .done s
  | 5 => if s.postedWrites || s.rz.lock.isSome then .wait else .done s
  | 6 => if s.twinInCal (match s.pwr.sleep with | some q => q.stepAt | none => s.now) then .wait else .done (stopCompute s)
  | 7 => .done (if target = 3 then s.each (fun w => decide (s.roleOf w ≠ .off)) napBanks else s)
  | _ => .done s

/-- The end of step 8 for NAP: the part is in NAP (R457). -/
def enterNap (s : State) : State :=
  let s1 := s.modPwr (fun p => { p with before := s.powerState, sleep := none, change := none })
  (setPhase 0 (s1.sf Reg.PWR_STAT Fld.PWR_STAT_STATE 3)).raisePwr 9 3

/-- The steps from the present one on, until one waits or refuses. -/
def runSleep : Nat → State → State
  | 0, s => s
  | n + 1, s =>
    match s.pwr.sleep with
    | none => s
    | some q =>
      let k := s.powerPhase
      if k = 0 ∨ 9 < k then s
      else
        match sleepStep q.target s with
        | .wait => s
        | .refuse reason => stepRefused k reason false s
        | .done s1 =>
          if k = 8 ∧ q.target = 3 then actHeld (enterNap s1)
          else if k = 9 then enterDark true s1
          else runSleep n (setPhase (k + 1) (s1.modPwr (fun p => { p with sleep := some { q with stepAt := s1.now } })))

/-- The sequence goes on at the present instant. -/
def sleepOn (s : State) : State := runSleep 9 s

/-- A request begins an attempt at the newest tick, if that is 2 µs or more after its arrival, or BACKOFF after its refusal (R457, R459). -/
def sleepBegin (s : State) : State :=
  match s.pwr.sleep with
  | some q =>
    if s.powerPhase = 0 ∧ s.tg.ran ∧ q.from_ ≤ s.tg.cur.raw then
      (setPhase 1 (s.bump Reg.PWR_REFUSE Fld.PWR_REFUSE_TRIES)).modPwr (fun p => { p with sleep := some { q with stepAt := s.now } })
    else s
  | none => s

/-- The latch that is due has been reached. -/
def latchReached (s : State) : State := if s.latchDue.isSome ∧ s.latchInstant ≤ s.now then latch s else s

/-- SLEEP_SEQUENCE (R457): the steps, as far as they go at this instant. -/
def execSleepSequence (t : Nat) (s : State) : Host.Outcome State Fault Refusal := .next (sleepOn (sleepBegin (latchReached (s.beginAt t))))

/-- SLEEP_STEP_TIMEOUT (R457): a step that waits refuses, 1 ms after it began, or 100 µs for BRIDGE. -/
def execSleepStepTimeout (t : Nat) (s : State) : Host.Outcome State Fault Refusal :=
  let s1 := sleepOn (s.beginAt t)
  match s1.pwr.sleep with
  | some q =>
    match s1.powerPhase with
    | 3 => .next (if q.stepAt + 1000000 ≤ s1.now then stepRefused 3 5 false s1 else s1)
    | 4 => .next (if q.stepAt + 1000000 ≤ s1.now then stepRefused 4 6 false s1 else s1)
    | 5 => .next (if q.stepAt + 100000 ≤ s1.now then stepRefused 5 (if s1.postedWrites then 7 else 8) false s1 else s1)
    | _ => .next s1
  | none => .next s1

/-- SLEEP_RETRY (R459): the next attempt, when its tick has fallen. -/
def execSleepRetry (s : State) : Host.Outcome State Fault Refusal := .next (sleepBegin s.begin)

/-! ### Wake sources (R462) -/

/-- A wake source fires: from NAP sources 1, 3, 4 and 5 wake the part, from DARK sources 2, 3 and 5; during steps 1 to 5 it abandons the
sleep. -/
def wakeSource (source : Nat) (s : State) : State :=
  let k := s.powerPhase
  if s.mainOff then
    if k = 0 ∧ !s.rb Reg.PWR_STAT Fld.PWR_STAT_WAKE_FAIL ∧ (source = 2 ∨ source = 3 ∨ source = 5) then darkStart source s else s
  else if 1 ≤ k ∧ k ≤ 5 then stepRefused 10 10 true s
  else if s.powerState = 3 ∧ k = 0 ∧ (source = 1 ∨ source = 3 ∨ source = 4 ∨ source = 5) then napWake source s.pwr.before s
  else s

/-- NAP_WAKE (R463): nothing outside NAP. -/
def execNapWake (t : Nat) (source : Fin 8) (s : State) : Host.Outcome State Fault Refusal :=
  let s1 := s.beginAt t
  if s1.powerState = 3 ∧ s1.powerPhase = 0 then .next (wakeSource source.val s1) else .next s1

/-- PWR_ALARM (R462): TB3 reaches PWR_ALARM, while it is armed and lies ahead. -/
def execPwrAlarm (s : State) : Host.Outcome State Fault Refusal :=
  let s0 := s.begin
  let c := s0.rd64 Reg.PWR_ALARM
  if s0.rb Reg.PWR_CFG Fld.PWR_CFG_ALARM_EN ∧ s0.tbNow 3 ≤ c then .next (wakeSource 5 (s0.at (s0.tb3.rawAt s0.now c))) else .next s0

/-- A frame matches an enabled entry of NET instance 3 for a port (R162): bytes past its end are 0. -/
def State.wakeEntry (s : State) (w : Twin) (n : Nat) (bytes : List Byte) (i : Nat) : Bool :=
  decide (s.ent w 5 3 i 0 1 = n) && decide (s.ent w 5 3 i 1 1 = 1) &&
    (List.range 128).all (fun j =>
      !bitAt (s.ent w 5 3 i (144 + j / 8) 1) (j % 8) || decide (s.ent w 5 3 i (16 + j) 1 = byteAt bytes j))

/-- The port's detectors are armed: in NAP and DARK, when WAKE_NET names the port and its mode is not 0. -/
def State.wakeArmed (s : State) (w : Twin) (n : Nat) : Bool :=
  decide (3 ≤ s.powerState) && bitAt (s.imgPower w 6 1) n && decide (s.netMode w n ≠ 0)

/-- NET_WAKE_MATCH (R162): a frame with a good FCS, given from its destination address on, whose first matching entry is `i`. -/
def execNetWakeMatch (t : Nat) (n : Fin 4) (i : Fin 32) (bytes : List Byte) (s : State) : Host.Outcome State Fault Refusal :=
  let s1 := s.beginAt t
  let w := s1.powerTwin
  if s1.wakeArmed w n.val ∧ (List.range 32).find? (s1.wakeEntry w n.val bytes) = some i.val then
    let r := Reg.NWAKE_STAT n.val
    let s2 := ((s1.sb r Fld.NWAKE_STAT_MATCHED true).sf r Fld.NWAKE_STAT_ENTRY i.val).bump r Fld.NWAKE_STAT_COUNT
    .next (wakeSource 3 s2)
  else .next s1

/-- PRN_NODE_WAKE (R294): in NAP the part wakes from a port named in WAKE_STRAND; in RUN and DIM it is E62 and ENUM_AUTO. -/
def execPrnNodeWake (t : Nat) (p : Fin 128) (s : State) : Host.Outcome State Fault Refusal :=
  let s1 := s.beginAt t
  if s1.mainOff then .next s1
  else if s1.powerState = 3 then
    if bitAt (s1.imgPower s1.powerTwin 8 16) p.val then .next (wakeSource 4 s1) else .next s1
  else .next (nodeWake p.val s1)

/-! ### Supplies (R469 to R471) -/

/-- BROWNOUT_WARN (R470): a rail of Table 17-6 whose domain is on. -/
def execBrownoutWarn (t : Nat) (rail : Fin 16) (_high : Bool) (s : State) : Host.Outcome State Fault Refusal :=
  let s1 := s.beginAt t
  let r := rail.val
  if 5 < r ∨ (s1.mainOff ∧ r ≠ 0) then .next s1
  else
    let s2 := (s1.orReg Reg.PWR_BO (2 ^ r)).bump Reg.PWR_BO Fld.PWR_BO_COUNT
    let s3 := voidMonitor r ((s2.wr64 Reg.PWR_BO_TS s2.stamp3).raisePwr 12 r)
    let s4 := if r = 2 ∨ r = 4 then s3.setHealth .a 6 else s3
    let s5 := if r = 3 ∨ r = 4 then s4.setHealth .b 6 else s4
    .next { s5 with peri := { s5.peri with boA := s5.peri.boA || decide (r = 2), boB := s5.peri.boB || decide (r = 3) } }

/-- A twin's rail has fallen (R471): the twin is OFF, by twin reset. The arbitration decides for one that was ACTIVE with a standby. -/
def railDown (w : Twin) (s : State) : State :=
  let s1 := s.setHealth w 6
  let s2 := s1.modPwr (fun p => match w with | .a => { p with offA := true } | .b => { p with offB := true })
  let s3 := ((if s2.fiddlehead w then revertRecord w 2 s2 else s2).twinReset w).setRole w .off
  if s.active = some w ∧ s.standby = some w.other then { s3 with peri := { s3.peri with lost := some w } } else s3

/-- RAIL_RESET (R471): a rail of Table 17-6 whose domain is on. -/
def execRailReset (t : Nat) (rail : Fin 16) (s : State) : Host.Outcome State Fault Refusal :=
  let s1 := voidMonitor rail.val (s.beginAt t)
  if s1.mainOff ∧ rail.val ≠ 0 then .next s1
  else
    match rail.val with
    | 0 => .next (powerOn s1)
    | 1 => .next (resetAndRelease s1)
    | 2 => .next (railDown .a s1)
    | 3 => .next (railDown .b s1)
    | 4 => .next (resetAndRelease s1)
    | 5 => .next (resetAndRelease s1)
    | _ => .next s1

/-- RAIL_RECOVER (R471): nothing for a twin whose rail has not fallen, or that a failed wake keeps off (R467). -/
def execRailRecover (t : Nat) (w : Twin) (s : State) : Host.Outcome State Fault Refusal :=
  let s1 := s.beginAt t
  if !s1.railOff w ∨ s1.rb Reg.PWR_STAT Fld.PWR_STAT_WAKE_FAIL then .next s1
  else
    let s2 := s1.modPwr (fun p => match w with | .a => { p with offA := false } | .b => { p with offB := false })
    if s2.active ≠ some w.other then .next (resetAndRelease s2)
    else if s2.rb Reg.TWIN_CTL (Fld.rst w) then .next s2
    else .next (startFirmware w s2)

end Sys2Proof.Machine
end

