-- ==== Sys2Proof/Machine/Tick.lean ====
section
/-!
DEFINITION. The tick (R49): what every unit does at it, in the order that the rules give, with the context reset (R31) and the swap (R44)
that come before it.
-/
namespace Sys2Proof.Machine

/-! ### What has fallen before the tick -/

/-- The latch that is due, with the trim codes that wait for it (R505). -/
def latchDueNow (s : State) : State :=
  if s.latchDue.isSome then sleepOn (latch (s.cal.apply.foldl (fun x e => strandApply e.1 x) s)) else s

/-- What has fallen since the newest tick and has no command of its own yet: its latch and its compute deadline, in the order of their
instants, and the records that they leave due. -/
def catchUp (s : State) : State :=
  let first : Bool := s.tg.dlDone || decide (s.latchInstant ≤ s.deadlineRaw)
  let s1 := if first then computeDeadline (latchDueNow s) else latchDueNow (computeDeadline s)
  s1.each s1.computes recordsDue

/-- Does what takes effect at the coming tick before the tick's processing: its frame flags are those of the coming tick. -/
def atNextTick (f : State → State) (s : State) : State :=
  let s0 := catchUp s
  let old := s0.tg.cur.flags
  let s1 := s0.at s0.tickRaw
  let s2 := f { s1 with tg := { s1.tg with cur := { s1.tg.cur with flags := 0 } } }
  let new := s2.tg.cur.flags
  { s2 with tg := { s2.tg with cur := { s2.tg.cur with flags := old }, early := s2.tg.early ||| new } }

/-! ### The context reset (R31 to R33) -/

/-- The image-defined registers of a twin return to the image's values, and what is not committed or applied is discarded (R31, R190, R231, R310, R324). -/
def contextTwin (w : Twin) (s : State) : State :=
  let s1 := (List.range 16).foldl (fun x l => layerShadows w l x) s
  let s2 := layerContextReset w (s1.sf (Reg.COLR_GM w) Fld.COLR_GM_LEVEL (s1.profGlobal w 6))
  let s3 := showPending w (s2.modMasters w (fun x => { x with after := none }))
  let s4 := rdmContextReset w (sorusContextReset w s3)
  let s5 := (portsWith s4 w 2).foldl (fun x p => showDmx w p x) s4
  watchSpare w ((s5.modNet w (fun x => { x with pool := [] })).modHlth w (fun h => { h with posts := [] }))

/-- The context reset but for its event. -/
def contextClear (s : State) : State :=
  let s1 := s.resetRegs (fun a => decide (domainOf a = some .ctx))
  let s2 := s1.resetMem (fun a => decide (0x0100FF00 ≤ a ∧ a < 0x01010000))
  let s3 := s2.each (fun w => decide (s2.roleOf w ≠ .off)) contextTwin
  { s3 with dev := { s3.dev with ctxPend := false } }.frameFlag 16

/-- A context reset takes effect at the coming tick (R31); in NAP it waits. -/
def State.contextDue (s : State) : Bool := s.dev.ctxPend && !s.inNap

/-- The tick that comes: its number and its raw instant. -/
def State.comingK (s : State) : Nat := if s.tg.ran then (s.tickNo + 1) % 2 ^ 32 else 0

/-- What R35 and R127 put before a context reset at its tick: the swap that is due, what health bits do, and the graft. -/
def rolesAndGraft (s : State) : State :=
  let before := s.active
  let s1 := dropGrafts (flagActions (swapTick s))
  let fate := graftFate before s.comingK s.tickRaw s1
  graftTick fate s.comingK (match fate with | .go w => graftTime w s1 | _ => s1)

/-- CONTEXT_RESET (R31): nothing while none is requested or no tick can fall. -/
def execContextReset (s : State) : Host.Outcome State Fault Refusal :=
  let s0 := s.begin
  if s0.contextDue && s0.tickArmed then .next (atNextTick (fun x => (contextClear (rolesAndGraft x)).raiseTh 24 0) s0) else .next s0

/-- ROLE_SWAP (R44): the swap that is due at the coming tick; nothing when none is. -/
def execRoleSwap (s : State) : Host.Outcome State Fault Refusal :=
  let s0 := s.begin
  if s0.swapDue.isSome && s0.tickArmed then .next (atNextTick swapTick s0) else .next s0

/-! ### The digest (R342) -/

/-- A list of numbers under a tag. -/
def tagged (kind : Nat) (l : List Nat) : List (Nat × Nat) := l.zipIdx.map (fun e => ((kind + 1) * 2 ^ 64 + e.2, e.1))

/-- A value that may be absent. -/
def optNat (o : Option Nat) : Nat := match o with | none => 0 | some v => v + 1

/-- A signed value. -/
def intNat (i : Int) : Nat := (i + 2 ^ 63).toNat

/-- The covered part of the word at a twin's home address: the RW fields of domain CTX or DEV, and the LIVE registers whole. -/
def coveredWord (w : Twin) (a : Nat) (v : Word) : Word :=
  let x := a % 0x10000000
  if (0x40120 ≤ x ∧ x < 0x40520 ∧ x % 0x40 / 4 ≤ 12 ∧ 8 ≤ x % 0x40 / 4) ∨ a = Reg.COLR_LIVE_GM w ∨ a = Reg.COLR_LIVE_FADER w then v
  else match rowAt a with
    | some (r, _, n) =>
      if r.dom = .ctx ∨ r.dom = .dev then
        BitVec.ofNat 32 (r.fields.foldl (fun acc f => match f.inWord n, f.acc with
          | some g, .rw => putFld acc g (getFld v g)
          | _, _ => acc) 0)
      else 0
    | none => 0

/-- The register fields of a twin that the digest covers, by offset. -/
def State.coveredRegs (s : State) (w : Twin) : List (Nat × Nat) :=
  (s.regs.filter (fun e => inTwin w e.1)).filterMap (fun e =>
    let v := coveredWord w e.1 e.2
    if v = coveredWord w e.1 (resetWord e.1) then none else some (e.1 - w.base, v.toNat))

/-- What a digest covers of a layer. -/
def State.coveredLayer (s : State) (w : Twin) (l : Nat) : List Nat :=
  let x := s.layer w l
  let set : Option LayerSet → List Nat := fun o => match o with
    | none => [0]
    | some c =>
      1 :: optNat c.slot :: (match c.vals with
        | none => [0]
        | some v => [1, v.op, if v.filter then 1 else 0, v.opacity, v.x, v.y, v.w, v.h])
  optNat (s.shown w l) :: s.rf (Reg.LAYER_STAT w l) Fld.LAYER_STAT_DAMAGED ::
    ((List.range 4).flatMap (fun i => [s.gen w l i, x.cmtGen.getD i 0]) ++ set x.next ++ set x.after)

/-- What a digest covers of the masters and the zones. -/
def State.coveredShow (s : State) (w : Twin) : List Nat :=
  let set : Option MasterSet → List Nat := fun o => match o with
    | none => [0]
    | some m => [1, optNat m.gm, m.fader] ++ m.lvl.flatMap (fun e => [e.1, e.2]) ++ m.src.flatMap (fun e => [e.1, e.2])
  let m := (s.tw w).masters
  set m.next ++ set m.after ++
    (s.tw w).zones.flatMap (fun e => [e.1, e.2.st, e.2.rho, intNat e.2.test, intNat e.2.force, optNat (e.2.tfrom.map intNat)])

/-- Everything that the digest of a twin covers. Bytes of the image in effect stand for the CRCs of the tables and of the curves. -/
def State.covered (s : State) (w : Twin) : List (Nat × Nat) :=
  let img := s.mem.filter (fun e => decide (Addr.img w 0 0 0 ≤ e.1 ∧ e.1 < Addr.img w 0 0 0 + Addr.imgSpan))
  s.coveredRegs w ++
    tagged 0 [(s.reg (Reg.REJ_IMAGE w)).toNat, s.rf (Reg.REJ_GRAFT_CNT w) Fld.REJ_GRAFT_CNT_COUNT] ++
    img.map (fun e => (2 * 2 ^ 64 + (e.1 - Addr.img w 0 0 0), e.2.toNat)) ++
    tagged 2 ((List.range 252).map (fun c => s.curveState w (c + 4))) ++
    (List.range 16).flatMap (fun l => tagged (3 + l) (s.coveredLayer w l)) ++
    tagged 19 (s.coveredShow w) ++
    tagged 20 ((portsWith s w 1).flatMap (fun p => [p, (s.strand w p).u, (s.strand w p).v, (s.strand w p).w, (s.strand w p).nodes.length]))

/-- Each twin that computes the show forms its digest of the newest tick (R342). -/
def formDigests (s : State) : State :=
  let of : Twin → Option (List (Nat × Nat)) := fun w => if s.computes w then some (s.covered w) else none
  let da := of .a
  let db := of .b
  { s with peri := { s.peri with dig := some { k := s.tickNo, a := da, b := db },
                                 digA := da.orElse (fun _ => s.peri.digA), digB := db.orElse (fun _ => s.peri.digB) } }

/-! ### The tick of one twin -/

/-- The TICK item of a twin (R388), with the FLAGS of its newest frame record. -/
def pushTick (w : Twin) (s : State) : State :=
  let c := s.tg.cur
  let newest := (s.reg (Reg.TICK_FR_NEWEST w)).toNat
  tickItem w c.k (stampOf c.base (c.counts.getD c.base.val 0)) (s.rdB (w.base + 0x11000 + newest % 256 * 64 + 29)).toNat newest s

/-- The units of a twin whose clocks run, at the newest tick (R58, R177, R233, R237, R288, R305, R322). -/
def twinTick (w : Twin) (s : State) : State :=
  let s1 := ingestTick w ((List.range 16).foldl (fun x l => layerTick w l x) s)
  let (reports, s2) := healthTick w (mastersTick w s1)
  let s3 := zonesTick w (s2.drivesDue w) reports s2
  let s4 := (portsWith s3 w 1).foldl (fun x p => delaysTick w p x) s3
  let s5 := (portsWith s4 w 2).foldl (fun x p => rdmTick w p x) s4
  (portsWith s5 w 1).foldl (fun x p => if (x.strand w p).enumReq then startEnum w p x else x) s5

/-- The account of the frame of the newest tick in a twin that computes it. -/
def newFrame (w : Twin) (s : State) : State :=
  let t := s.tw w
  let c := s.tg.cur
  let b := s.tg.base
  let f : FrameAcct :=
    { k := c.k, tick := c,
      before := (s.tb b).rawAt c.raw (c.counts.getD b.val 0 + (if c.raw = s.tg.zeroAt then c.lofs else s.tg.prev.lofs)),
      rest := [], first := t.loadFirst, touched := t.touched, groups := (List.range 256).map (fun n => s.groupLevel w n), slices := [],
      patched := none, stripes := [], changed := 0, closed := false, dropped := false, mapDrop := false, lateDrop := false, settled := [], chg := [],
      data := [], stale := [], holdPorts := [], slipPorts := [], pace := [], syncs := [], emitUse := 0, dropItems := 0,
      commitLate := t.lay.lateNext, flags := 0, latchDefer := 0, latchStamp := 0, latchRaw := none, staleRaised := false,
      compRaised := false, emitRaised := false }
  s.modTw w (fun t => { t with frames := t.frames ++ [f], loadFirst := false, touched := [], lay := { t.lay with lateNext := 0 } })

/-! ### TICK -/

/-- A new tick interval: the number of lost universes of the last one is known, events once an interval can be raised again, and the change map
of a frame that used it is done. -/
def newInterval (s : State) : State :=
  let k := s.tg.cur.k
  let s0 := (s.at s.tickRaw).each (fun _ => true) lostEvent
  let s1 := s0.each (fun _ => true) (fun w x => x.modTw w (fun t => { t with
    once := ⟨[]⟩, lay := if t.frames.any (fun f => decide (f.k = k)) then { t.lay with allChanged := false } else t.lay }))
  { s1 with once := ⟨[]⟩, peri := { s1.peri with missPrev := s1.peri.missNow, missNow := false } }

/-- The twins whose clocks run: those that are not OFF, unless the part is in NAP or DARK (R460). -/
def State.clocked (s : State) (w : Twin) : Bool :=
  decide (s.roleOf w ≠ .off) && decide (s.powerState ≠ 3) && decide (s.powerState ≠ 4)

/-- A swap, what health bits do, a graft's timing set, and the advance of the tick (R44, R49, R97, R127, R352). -/
def tickRoles (s : State) : State :=
  let was := s.role
  let join := s.peri.joined
  let k := s.comingK
  let raw := s.tickRaw
  let fate := graftFate s.active k raw (dropGrafts (flagActions (swapTick (s.at raw))))
  let s1 := match fate with
    | .go w => graftTime w s
    | _ => s
  let s2 := dropGrafts (flagActions (swapTick (advanceTick s1)))
  let s3 := releaseDiverged was (if join then resyncTick s2 else s2)
  inPlaceReturn (inPlaceTick (s3.each (fun _ => true) importTick |> graftTick fate k))

/-- The instant at which the zero frame of a port in SAFE ends (R302, R315): C of the span that the newest tick begins, or E' of its frame. -/
def State.blackEnd (s : State) (w : Twin) (p : Nat) : Nat :=
  let (n, d) := s.tg.cur.period
  let l := (s.tb s.tg.base).rawAt s.tg.cur.raw (s.tg.next + s.tg.cur.lofs)
  if s.personality w p = 2 then l + (s.dmxDiv w p - 1) * n / d - 20000 else l - max (s.tReset w p) 20000

/-- What the Thallus drives in SAFE from its own generators beside HOLD packets (R43, R302, R315): zero frames on the DMX and pixel ports at the
instants at which a twin would send. -/
def blackout (s : State) : State :=
  let w := s.ballTwin
  let zero := fun (p n : Nat) (x : State) =>
    let b := List.replicate n (0 : Byte)
    x.emit (.wire p (x.blackEnd w p - x.tWire w p b) (x.wireForm w p) (x.wireBytes w p b))
  if !s.safeOn then s
  else (List.range 128).foldl (fun x p =>
    match x.personality w p with
    | 2 => if x.tickNo % x.dmxDiv w p = 0 then zero p (x.dmxSlots w p) x else x
    | 3 => zero p (x.sliceLen w p) x
    | 4 => zero p (x.sliceLen w p) x
    | _ => x) s

/-- The tick (R49). -/
def tick (s : State) : State :=
  let join := s.peri.joined
  let sa := catchUp s
  let s0 := newInterval sa
  let s2 := tickRoles s0
  let items := fun (x : State) => x.each x.clocked pushTick
  let s3 := if s2.contextDue then (items (contextClear s2)).raiseTh 24 0 else items s2
  let s4 := resumeTick s3
  let s5 := s4.each s4.clocked twinTick
  let s6 := s5.each (fun w => s5.computes w && s5.clocked w && !s5.pwr.stopped && s5.boot.hand.isNone) newFrame
  let s7 := formDigests (if join then s6 else resyncTick s6)
  sleepBegin (oppTick (stateChange (blackout s7)))

/-- TICK (R49): nothing while no tick can fall: no image is loaded, or the Thallus main domain is in reset or off. -/
def execTick (s : State) : Host.Outcome State Fault Refusal :=
  let s0 := s.begin
  if s0.tickArmed && !s0.dev.inReset && !s0.mainOff then .next (tick s0) else .next s0

end Sys2Proof.Machine
end

