-- ==== Sys2Proof/Machine/View.lean ====
section
/-!
DEFINITION. What a read of a register returns (R7, R10, R11, R12): fields that follow the state are formed at the read, the others are as
stored. Each view answers the number of the whole register; a reading that the spec leaves open is a free value.
-/
namespace Sys2Proof.Machine

/-- `b` is the address of an element of a register array, and its number. -/
def inArr (base stride n b : Nat) : Bool := decide (base ≤ b ∧ b < base + n * stride ∧ (b - base) % stride = 0)
def arrIx (base stride b : Nat) : Nat := (b - base) / stride

/-- A bit for a condition. -/
def bit1 (p : Bool) : Nat := if p then 1 else 0

/-- Replaces fields of a number. -/
def putFlds (n : Nat) (l : List (Fld × Nat)) : Nat := l.foldl (fun x e => putFld x e.1 e.2) n

/-! ### The Thallus -/

/-- Blocks are compared (R347, R349, R355). -/
def State.comparing (s : State) : Bool := s.active.isSome && s.standby.isSome && !s.peri.undecided

/-- Whole seconds left in a twin's trial, a part of a second counted as one (R486). -/
def State.trialLeft (s : State) (w : Twin) : Nat :=
  match s.boot.trial w with
  | some x => min 65535 (ceilDiv (x - s.tbNow 3) 1000000000)
  | none => 0

/-- The 64-bit digest of what a twin's digest covers (R342); 0 for none. -/
def digestValue : Option (List (Nat × Nat)) → Nat
  | some l => Config.digest l % 2 ^ 64
  | none => 0

/-- A reading of a calibrated unit: a fresh conversion, or the one held while the unit is STALE (R502). -/
def calReading (u : Nat) (s : State) : Nat × State :=
  let x := s.calUnit u
  if !x.stale then s.fresh
  else match x.value with
    | some k => (Config.freeValue k, s)
    | none => (Config.freeValue s.free, { s.setCalUnit u { x with value := some s.free } with free := s.free + 1 })

/-- CAL_UNIT_STAT of a unit. -/
def State.calStat (s : State) (u : Nat) : Nat :=
  let x := s.calUnit u
  putFlds 0 [(Fld.CAL_UNIT_STAT_CAL_COUNT, x.count), (Fld.CAL_UNIT_STAT_FACTORY, bit1 x.code.isNone),
    (Fld.CAL_UNIT_STAT_SKIPPED, bit1 x.skipped), (Fld.CAL_UNIT_STAT_DEFERRED, bit1 x.deferred),
    (Fld.CAL_UNIT_STAT_STALE, bit1 x.stale), (Fld.CAL_UNIT_STAT_FAIL, bit1 x.fail)]

/-- CAL_UNIT_STAT, CAL_LAST and CAL_UNIT_DATA of the selected unit; of a unit beyond Table 19-1 they are free. -/
def calView (b : Nat) (s : State) : Nat × State :=
  let u := s.rf Reg.CAL_SEL Fld.CAL_SEL_UNIT
  if 45 ≤ u then s.fresh
  else if b = Reg.CAL_UNIT_STAT then (s.calStat u, s)
  else if b = Reg.CAL_LAST then ((s.calUnit u).last, s)
  else
    let (v, s1) := if u = 0 then (0, s) else calReading u s
    let code := match (s.calUnit u).code with | some c => c | none => Config.factoryCode u
    (putFlds 0 [(Fld.CAL_UNIT_DATA_CODE, code), (Fld.CAL_UNIT_DATA_VALUE, v)], s1)

/-- PWR_MON of the selected rail: rails 6 and 7 read 0. -/
def monView (s : State) : Nat × State :=
  let r := s.rf Reg.PWR_MON_SEL Fld.PWR_MON_SEL_RAIL
  if 6 ≤ r then (0, s)
  else
    let (v, s1) := calReading (11 + r) s
    let (m, s2) := s1.fresh
    (putFlds 0 [(Fld.PWR_MON_MIN, m), (Fld.PWR_MON_NOW, v)], s2)

/-- DEV_STAT (R48, R33): what is stored with the roles and the state of the ports. -/
def State.devStat (s : State) (raw : Nat) : Nat :=
  putFlds raw [(Fld.DEV_STAT_ROLE_A, s.role.a.code), (Fld.DEV_STAT_ROLE_B, s.role.b.code), (Fld.DEV_STAT_HOLD_ON, bit1 s.holdOn),
    (Fld.DEV_STAT_SAFE_ON, bit1 s.safeOn), (Fld.DEV_STAT_CTX_BUSY, bit1 s.dev.ctxPend)]

/-- PERI_RESYNC.COPIED: nothing but the amount to be sent bounds it while COPY runs, and all of that has been sent after it. -/
def copiedView (raw : Nat) (s : State) : Nat × State :=
  match s.peri.total with
  | none => (raw, s)
  | some k =>
    let all_ := Config.freeValue k % 2 ^ 25
    let ph := getFld (BitVec.ofNat 32 raw) Fld.PERI_RESYNC_PHASE
    if ph = 0 then (raw, s)
    else if ph ≠ 1 ∨ s.peri.copyEnd.isSome then (putFld raw Fld.PERI_RESYNC_COPIED all_, s)
    else
      let (v, s1) := s.fresh
      (putFld raw Fld.PERI_RESYNC_COPIED (v % (all_ + 1)), s1)

/-- A register of the Thallus at `b`, whose stored number is `raw`. -/
def viewTh (b raw : Nat) (s : State) : Nat × State :=
  if b = Reg.DEV_STAT then (s.devStat raw, s)
  else if inArr (Reg.TB_NOW 0) 0x100 4 b then (s.tbNow (Fin.ofNat 4 (arrIx (Reg.TB_NOW 0) 0x100 b)), s)
  else if inArr (Reg.TB_HOLD_AGE 0) 0x100 4 b then (s.holdAge (Fin.ofNat 4 (arrIx (Reg.TB_HOLD_AGE 0) 0x100 b)), s)
  else if b = Reg.PERI_STAT then (putFld raw Fld.PERI_STAT_COMPARING (bit1 s.comparing), s)
  else if b = Reg.PERI_DIG_A then (digestValue s.peri.cmpA, s)
  else if b = Reg.PERI_DIG_B then (digestValue s.peri.cmpB, s)
  else if b = Reg.PERI_RESYNC then copiedView raw s
  else if b = Reg.PERI_RESYNC_TOTAL then ((match s.peri.total with | some k => Config.freeValue k | none => 0), s)
  else if b = Reg.EVT_PIN_CTL then (putFld raw Fld.EVT_PIN_CTL_LEVEL s.pinLevel, s)
  else if b = Reg.BOOT_TRIAL then
    (putFlds 0 [(Fld.BOOT_TRIAL_LEFT_A, s.trialLeft .a), (Fld.BOOT_TRIAL_LEFT_B, s.trialLeft .b)], s)
  else if b = Reg.CAL_UNIT_STAT ∨ b = Reg.CAL_LAST ∨ b = Reg.CAL_UNIT_DATA then calView b s
  else if inArr (Reg.FLASH_STAT 0) 0x200 2 b then
    (putFld raw Fld.FLASH_STAT_BUSY (bit1 (s.flashBusy (arrIx (Reg.FLASH_STAT 0) 0x200 b))), s)
  else if b = Reg.PWR_MON then monView s
  else (raw, s)

/-! ### A twin -/

/-- MAP_RD_DATAn (R219): word `n` of the selected entry; 0 beyond its end or beyond its table. -/
def State.mapRead (s : State) (w : Twin) (n : Nat) : Nat :=
  let i := s.rf (Reg.MAP_RD_SEL w) Fld.MAP_RD_SEL_INDEX
  let tab : Option (Nat × Nat) := match s.rf (Reg.MAP_RD_SEL w) Fld.MAP_RD_SEL_TABLE with
    | 0 => some (11, 0) | 1 => some (12, 0) | 2 => some (13, 0) | 3 => some (13, 1) | 4 => some (9, 0) | _ => none
  match tab with
  | none => 0
  | some (ty, inst) =>
    let size := entrySize ty inst
    if entryCount ty inst ≤ i ∨ size ≤ 4 * n then 0 else s.ent w ty inst i (4 * n) (min 4 (size - 4 * n))

/-- SACN_U_STAT, SACN_U_TS and SACN_U_PKTS of the selected entry. -/
def sacnView (w : Twin) (b : Nat) (s : State) : Nat :=
  let u := s.univ w (s.rf (Reg.SACN_SEL w) Fld.SACN_SEL_ENTRY)
  if b = Reg.SACN_U_TS w then u.stamp
  else if b = Reg.SACN_U_PKTS w then u.pkts
  else putFlds 0 [(Fld.SACN_U_STAT_SLOTS, min 512 u.slots), (Fld.SACN_U_STAT_PRIO, u.prio), (Fld.SACN_U_STAT_SYNC_LOST, bit1 u.syncLost),
    (Fld.SACN_U_STAT_SYNC_WAIT, bit1 (u.srcs.any (fun x => x.pend.isSome))), (Fld.SACN_U_STAT_LOST, bit1 u.lost),
    (Fld.SACN_U_STAT_SOURCES, u.srcs.length)]

/-- LAYER_PEND: the layers that hold sets. -/
def State.layerPend (s : State) (w : Twin) : Nat :=
  (List.range 16).foldl (fun acc l =>
    acc + bit1 (s.layer w l).next.isSome * 2 ^ l + bit1 (s.layer w l).after.isSome * 2 ^ (16 + l)) 0

/-- LAYER_STAT.SRC of a layer. -/
def State.layerSrc (s : State) (w : Twin) (l : Nat) : Nat :=
  if s.laySource w l = 0 then 0
  else if s.layRings w l then (if (s.shown w l).isNone then 2 else 1)
  else if s.laySource w l = 2 then (match (s.flow w (s.laySrcIndex w l)).st with | 1 => 3 | 3 => 4 | _ => 1)
  else 1

/-- COLR_ZONE_STAT and COLR_ZONE_AGE of the selected zone. -/
def zoneView (w : Twin) (b : Nat) (s : State) : Nat :=
  let i := s.rf (Reg.COLR_ZONE_SEL w) Fld.COLR_ZONE_SEL_ZONE
  let z := (s.zone w i).getD Zone.reset
  if b = Reg.COLR_ZONE_AGE w then (match z.age with | some n => min n (2 ^ 32 - 1) | none => 2 ^ 32 - 1)
  else putFlds 0 [(Fld.COLR_ZONE_STAT_TEST, ofSigned 16 (z.shown (s.coldDefault w))), (Fld.COLR_ZONE_STAT_RHO, z.rho),
    (Fld.COLR_ZONE_STAT_HOT, bit1 z.hot), (Fld.COLR_ZONE_STAT_USED, bit1 ((s.usedZones w).contains i)), (Fld.COLR_ZONE_STAT_STATE, z.st)]

/-- The image form of a curve slot (R118, R253) as replica 0 holds it: 1,024 words of L20. -/
def State.curveBytes (s : State) (w : Twin) (c : Nat) : List Byte := (List.range 1024).flatMap (fun i => leBytes 4 (s.replica w c i 0).1)

/-- The Curve Store's registers that follow the slots (R254, R255). -/
def curveView (w : Twin) (b : Nat) (s : State) : Nat :=
  let c := s.rf (Reg.CURV_SEL w) Fld.CURV_SEL_SLOT
  if b = Reg.CURV_COUNT w then
    putFlds 0 [(Fld.CURV_COUNT_WRITING, s.curveCount w 3), (Fld.CURV_COUNT_EMPTY, s.curveCount w 0), (Fld.CURV_COUNT_SPARE, s.curveCount w 1),
      (Fld.CURV_COUNT_NAMED, s.curveCount w 2)]
  else if b = Reg.CURV_INFO w then
    putFlds 0 [(Fld.CURV_INFO_REFS, min 65535 (s.curveRefs w c)), (Fld.CURV_INFO_FADER, bit1 (s.faderRef w c)),
      (Fld.CURV_INFO_STATE, s.curveState w c)]
  else if b = Reg.CURV_CRC w then crc32 (s.curveBytes w c)
  else if b = Reg.CURV_PT_DATA w then
    let r := s.replica w c (s.rf (Reg.CURV_PT_SEL w) Fld.CURV_PT_SEL_POINT) (s.rf (Reg.CURV_PT_SEL w) Fld.CURV_PT_SEL_REPLICA)
    putFlds 0 [(Fld.CURV_PT_DATA_POINT, r.1), (Fld.CURV_PT_DATA_PAR_ERR, bit1 (!r.2))]
  else
    let n := arrIx (Reg.CURV_AVAIL w 0) 4 b
    (List.range 32).foldl (fun acc i => acc + bit1 (decide (s.curveState w (32 * n + i) ≤ 1)) * 2 ^ i) 0

/-- STRD_PSTAT.STATE: WAKING lasts until 1 ms after the WAKE pattern, and the enumeration goes on as ENUMERATING (R289). -/
def State.strandState (s : State) (w : Twin) (p : Nat) : Nat :=
  if s.prnState w p ≠ 1 then s.prnState w p
  else match (s.strand w p).run with
    | some r => if r.step = 3 ∧ s.now + 10000 + s.charTime w p (pktChars 8) < r.at_ then 1 else 2
    | none => 1

/-- T_dmx or T_port of a port in µs, rounded up (STRD_WTIME). -/
def State.portTime (s : State) (w : Twin) (p : Nat) : Nat :=
  match s.portKey w p with
  | some k => min (2 ^ 22 - 1) (ceilDiv (s.tWire w p (List.replicate (s.sliceLen w k) 0)) 1000)
  | none => 0

/-- The UID that STRD_UID_SEL selects. -/
def State.uidShown (s : State) (w : Twin) (p : Nat) : Option Nat :=
  let l := (s.dmx w p).uids.take 512
  l[s.rf (Reg.STRD_UID_SEL w p) Fld.STRD_UID_SEL_INDEX]?

/-- A register of a strand port's block, whose home is `b`. -/
def strandView (w : Twin) (b raw : Nat) (s : State) : Nat :=
  let p := (b - Reg.STRD_CTL w 0) / 0x100
  if b = Reg.STRD_PSTAT w p then putFld raw Fld.STRD_PSTAT_STATE (s.strandState w p)
  else if b = Reg.STRD_NODES w p ∧ s.prnRunning w p then putFld raw Fld.STRD_NODES_ORPHAN (min 8191 (s.orphanCount w p))
  else if b = Reg.STRD_WSTAT w p then
    putFlds raw [(Fld.STRD_WSTAT_LISTEN, bit1 (s.listens w p)),
      (Fld.STRD_WSTAT_PERS, if 2 ≤ s.personality w p ∧ s.personality w p ≤ 4 then s.personality w p else 0)]
  else if b = Reg.STRD_WTIME w p then s.portTime w p
  else if b = Reg.STRD_UID_LO w p then (match s.uidShown w p with | some u => u % 2 ^ 32 | none => 0)
  else if b = Reg.STRD_UID_HI w p then (match s.uidShown w p with | some u => 2 ^ 31 + u / 2 ^ 32 % 2 ^ 16 | none => 0)
  else raw

/-- HLTH_CH, HLTH_SUM and HLTH_DATAn (R329). A channel beyond 47 reads as a free value. -/
def healthView (w : Twin) (b : Nat) (s : State) : Nat × State :=
  let fx := s.rf (Reg.HLTH_SEL w) Fld.HLTH_SEL_FIXTURE
  let c := s.rf (Reg.HLTH_SEL w) Fld.HLTH_SEL_CH
  if b = Reg.HLTH_CH w then (if 48 ≤ c then s.fresh else (s.healthCh w fx c, s))
  else if b = Reg.HLTH_SUM w then (((s.tw w).hlth.entries.filter (fun e => bitAt e.2.state 0)).length, s)
  else (leNat (((s.healthBytes w fx).drop (4 * arrIx (Reg.HLTH_DATA w 0) 4 b)).take 4), s)

/-- SORUS_CSTAT of a core: a pending CTX or JOIN shows as a system cause (R387). -/
def State.coreStat (s : State) (w : Twin) (c : Nat) : Nat :=
  let st := (s.tw w).sorus.core c
  let sys := s.inSysCause w c
  match st with
  | [] => bit1 sys * 2
  | top :: _ =>
    putFlds 0 [(Fld.SORUS_CSTAT_DEPTH, st.length), (Fld.SORUS_CSTAT_QUEUE, top.q), (Fld.SORUS_CSTAT_PRIO, top.item.prio),
      (Fld.SORUS_CSTAT_STATE, if sys then 2 else if top.aborted then 3 else 1)]

/-- The registers of Sorus that follow its queues, flows and cores. -/
def sorusView (w : Twin) (b raw : Nat) (s : State) : Nat :=
  let o := (s.tw w).sorus
  if inArr (Reg.SORUS_QSTAT w 0) 0x20 64 b then
    let n := arrIx (Reg.SORUS_QSTAT w 0) 0x20 b
    let q := o.queue n
    putFlds 0 [(Fld.SORUS_QSTAT_OPEN_PKT, bit1 (q.slots.any (fun x => decide (x.st = .queued) && x.openTo.isSome))),
      (Fld.SORUS_QSTAT_FULL, bit1 (s.qUsed w n && decide (s.qDepth w n ≤ q.used))), (Fld.SORUS_QSTAT_EMPTY, bit1 (decide (q.count = 0))),
      (Fld.SORUS_QSTAT_COUNT, q.count)]
  else if inArr (Reg.SORUS_QPTR w 0) 0x20 64 b then
    let q := o.queue (arrIx (Reg.SORUS_QPTR w 0) 0x20 b)
    putFlds 0 [(Fld.SORUS_QPTR_WR, q.wr), (Fld.SORUS_QPTR_RD, q.rd)]
  else if inArr (Reg.SORUS_WIN_STAT w 0) 0x80 64 b then
    let n := arrIx (Reg.SORUS_WIN_STAT w 0) 0x80 b
    putFld raw Fld.SORUS_WIN_STAT_EMPTY (bit1 ((o.queue n).peek s.now (reqWindow n)).isNone)
  else if inArr (Reg.SORUS_WIN_HDR w 0) 0x80 64 b then (o.queue (arrIx (Reg.SORUS_WIN_HDR w 0) 0x80 b)).winHdr.toNat
  else if inArr (Reg.SORUS_FSTAT w 0) 8 256 b then
    let f := o.flow (arrIx (Reg.SORUS_FSTAT w 0) 8 b)
    putFlds 0 [(Fld.SORUS_FSTAT_OUT, f.out), (Fld.SORUS_FSTAT_NEXT_REL, f.nextRel), (Fld.SORUS_FSTAT_NEXT_SEQ, f.nextSeq)]
  else if inArr (Reg.SORUS_CSTAT w 0) 4 16 b then s.coreStat w (arrIx (Reg.SORUS_CSTAT w 0) 4 b)
  else raw

/-- REJ_GRAFT_STAT of a twin that takes no part in a graft (R125): one in CHECKING or ARMED is not its own. -/
def idleGraft (raw : Nat) : Nat :=
  let st := getFld (BitVec.ofNat 32 raw) Fld.REJ_GRAFT_STAT_STATE
  if st = 1 ∨ st = 2 then putFld raw Fld.REJ_GRAFT_STAT_STATE 0 else raw

/-- MAP_PORT_LEN (R194, R211): the length of the slice that a port's stream carries. -/
def State.mapPortLen (s : State) (w : Twin) (p : Nat) : Nat :=
  match s.portKey w p with
  | some key => s.sliceLen w key
  | none => 0

/-- COLR_LIVE_GRPn.MODE (R233): the mode in effect of a group. -/
def State.groupMode (s : State) (w : Twin) (n : Nat) : Nat := getFld (BitVec.ofNat 32 (Smap.get 0 (s.tw w).masters.src n)) Fld.COLR_GRP_SRC_MODE

/-- A register of a twin at `b`, whose stored number is `raw`. -/
def viewTw (w : Twin) (b raw : Nat) (s : State) : Nat × State :=
  if b = Reg.TWIN_ROLE w then ((s.roleOf w).code, s)
  else if b = Reg.TWIN_DIGEST w then (digestValue (match w with | .a => s.peri.digA | .b => s.peri.digB), s)
  else if inArr (Reg.NET_LINK w 0) 0x100 4 b then (putFld raw Fld.NET_LINK_MODE (s.netMode w (arrIx (Reg.NET_LINK w 0) 0x100 b)), s)
  else if b = Reg.NET_SLOWQ w then (putFld raw Fld.NET_SLOWQ_SLOT_10K (bit1 (s.slot10k w)), s)
  else if b = Reg.NET_POOL w then (putFld raw Fld.NET_POOL_FREE (s.slotCount w - (s.tw w).net.pool.length), s)
  else if b = Reg.SACN_U_STAT w ∨ b = Reg.SACN_U_TS w ∨ b = Reg.SACN_U_PKTS w then (sacnView w b s, s)
  else if inArr (Reg.ST_STAT w 0) 0x20 8 b then
    let f := arrIx (Reg.ST_STAT w 0) 0x20 b
    (putFld raw Fld.ST_STAT_STATE (if s.flowOn w f then (s.flow w f).st else 0), s)
  else if b = Reg.LAYER_PEND w then (s.layerPend w, s)
  else if b = Reg.LAYER_GUARD w then (s.guard w, s)
  else if inArr (Reg.LAYER_STAT w 0) 0x40 16 b then (putFld raw Fld.LAYER_STAT_SRC (s.layerSrc w (arrIx (Reg.LAYER_STAT w 0) 0x40 b)), s)
  else if b = Reg.MAP_USED w then ((s.maps w).length, s)
  else if b = Reg.MAP_FIXT_USED w then ((s.fixtures w).length, s)
  else if b = Reg.MAP_PATCH_USED w then ((s.patches w).length, s)
  else if b = Reg.MAP_OUT_USED w then ((s.outs w).length, s)
  else if inArr (Reg.MAP_RD_DATA w 0) 4 64 b then (s.mapRead w (arrIx (Reg.MAP_RD_DATA w 0) 4 b), s)
  else if inArr (Reg.MAP_PORT_LEN w 0) 4 128 b then (s.mapPortLen w (arrIx (Reg.MAP_PORT_LEN w 0) 4 b), s)
  else if inArr (Reg.COLR_LIVE_GRP w 0) 4 256 b then
    (putFld raw Fld.COLR_LIVE_GRP_MODE (s.groupMode w (arrIx (Reg.COLR_LIVE_GRP w 0) 4 b)), s)
  else if b = Reg.REJ_GRAFT_STAT w then
    (if s.computes w then raw else idleGraft raw, s)
  else if b = Reg.COLR_ZONE_STAT w ∨ b = Reg.COLR_ZONE_AGE w then (zoneView w b s, s)
  else if b = Reg.CURV_COUNT w ∨ b = Reg.CURV_INFO w ∨ b = Reg.CURV_CRC w ∨ b = Reg.CURV_PT_DATA w ∨ inArr (Reg.CURV_AVAIL w 0) 4 8 b then
    (curveView w b s, s)
  else if Reg.STRD_CTL w 0 ≤ b ∧ b < Reg.STRD_CTL w 0 + 0x8000 then (strandView w b raw s, s)
  else if b = Reg.HLTH_CH w ∨ b = Reg.HLTH_SUM w ∨ inArr (Reg.HLTH_DATA w 0) 4 8 b then healthView w b s
  else if Reg.SORUS_QSTAT w 0 ≤ b ∧ b < Reg.SORUS_CSTAT w 16 then (sorusView w b raw s, s)
  else if inArr (Reg.BANK_STAT w 0) 8 96 b then
    let n := arrIx (Reg.BANK_STAT w 0) 8 b
    let run : Bool := match (s.tw w).bankTest.cur with | some (k, _) => decide (k = n ∧ s.now < (s.tw w).bankTest.until_) | none => false
    (putFld raw Fld.BANK_STAT_BORROWED (bit1 run), s)
  else if b = Reg.BRDG_STAT w then
    (putFlds raw [(Fld.BRDG_STAT_WQ, min 32 (s.tw w).bridge.writes.length),
      (Fld.BRDG_STAT_LOCKED, bit1 (s.rz.lock.isSome && decide (s.active = some w)))], s)
  else if b = Reg.CTL_STAT w then
    (putFld raw Fld.CTL_STAT_SESSIONS ((s.ctl w).sessions.filter (fun x => decide (s.tbNow 3 < x.heard + 10000000000))).length, s)
  else (raw, s)

/-! ### A read of a register word -/

/-- The number that the register of row `r` at `b` shows. -/
def viewReg (r : RegRow) (b : Nat) (s : State) : Nat × State :=
  let raw := if r.wide then s.rd64 b else (s.reg b).toNat
  match r.die with
  | .thallus => viewTh b raw s
  | .twin => viewTw (if b % 0x100000000 < 0x20000000 then .a else .b) b raw s

/-- A read of the word at a home address by a requester (R7, R10, R11): the low word of a 64-bit register latches the high one and, with an RC
field, clears both; 0 where no register lies (R8). -/
def readReg (req : Requester) (a : Nat) (s : State) : Word × State :=
  match rowAt a with
  | none => (0, s)
  | some (r, _, i) =>
    let b := a - 4 * i
    let (n, s1) := viewReg r b s
    let word := fun (k : Nat) => r.readWord k (r.atRead k (s1.clockReg (b + 4 * k)) (BitVec.ofNat 32 (n / 2 ^ (32 * k))))
    if !r.wide then (word 0, s1.clearRead r 0 b)
    else if i = 0 then (word 0, ((s1.latchHigh req b (word 1)).clearRead r 0 b).clearRead r 1 (b + 4))
    else ((findLatch s1.latches req b).getD (word 1), s1.unlatch req b)

end Sys2Proof.Machine
end

