-- ==== Sys2Proof/Machine/Events.lean ====
section
/-!
DEFINITION. Events that a block raises, the commands of the event registers (R511, R514, R518, R520), and the PCIe endpoint's own state
(R419, R544).
-/
namespace Sys2Proof.Machine

/-- Table 20-1 lists the event as reserved: it is never raised (R509). -/
def evtReserved (n : Nat) : Bool :=
  decide ((32 ≤ n ∧ n ≤ 35) ∨ n = 83 ∨ (89 ≤ n ∧ n ≤ 247) ∨ 254 ≤ n)

/-- A twin raises an event that reaches the Thallus `late` ns after its stamp (R511): beyond 5 µs it is counted and takes no route there. -/
def raiseLate (w : Twin) (n data late : Nat) (s : State) : State :=
  if late ≤ 5000 then s.raiseTwin w n data
  else routeTwin 4 w (w.code + 1) n data s.stamp (s.bump Reg.EVT_LOG_STAT Fld.EVT_LOG_STAT_LATE_DROP)

/-- EVENT_RAISE (R509, R511, R512): E0 to E31 by the Thallus, the others by a twin whose cores run. -/
def execEventRaise (t : Nat) (src : Option Twin) (n : Fin 256) (data : Word) (late : Nat) (s : State) : Host.Outcome State Fault Refusal :=
  let s1 := s.beginAt t
  if evtReserved n.val || s1.dev.inReset then .next s1
  else match src with
    | none =>
      if 32 ≤ n.val then .next s1
      else if 9 ≤ n.val ∧ n.val ≤ 14 then .next (s1.raisePwr n.val data.toNat)
      else if s1.mainOff then .next s1
      else .next (s1.raiseTh n.val data.toNat)
    | some w =>
      if n.val < 32 || s1.mainOff || (decide (s1.roleOf w = .off) && !s1.started w) then .next s1
      else .next (raiseLate w n.val data.toNat late s1)

/-- A write of EVT_SOFT in one twin (R520). -/
def evtSoft (v : Word) (w : Twin) (s : State) : State := s.raiseTwin w 82 v.toNat

/-- EVT_SOFT (R520). -/
def execEvtSoft (t : Nat) (via : Via) (v : Word) (s : State) : Host.Outcome State Fault Refusal :=
  .next ((s.beginAt t).deliver via (evtSoft v))

/-- A write of EVT_LOG_TAIL (R518): a value ahead of HEAD is taken as HEAD. -/
def logTail (v : Word) (s : State) : State :=
  let head := s.reg Reg.EVT_LOG_HEAD
  let ahead := (v - head).toNat
  s.setReg Reg.EVT_LOG_TAIL (if 1 ≤ ahead ∧ ahead < 2 ^ 31 then head else v)

/-- EVT_LOG_TAIL (R518). -/
def execEvtLogTail (t : Nat) (src : Requester) (v : Word) (s : State) : Host.Outcome State Fault Refusal :=
  .next ((s.beginAt t).thWrite src (logTail v))

/-- A write of EVT_PENDg (R514): each bit written 1 is cleared. The pins follow (EVT_PIN_CTL.LEVEL). -/
def clearPend (g : Nat) (v : Word) (s : State) : State := s.plainWrite (Reg.EVT_PEND g) v

/-- EVT_PEND_CLEAR (R514). -/
def execEvtPendClear (t : Nat) (src : Requester) (g : Fin 8) (v : Word) (s : State) : Host.Outcome State Fault Refusal :=
  .next ((s.beginAt t).thWrite src (clearPend g.val v))

/-! ### The endpoint -/

/-- Held messages of the vectors that are open leave (R419), one for each vector. -/
def sendHeldMsgs (s : State) : State :=
  (List.range 256).foldl (fun s v =>
    let a := 0x15000 + v / 8
    if bitAt (s.rdB a).toNat (v % 8) && s.msixOpen v then
      (s.wrB a (BitVec.ofNat 8 (putFld (s.rdB a).toNat ⟨v % 8, v % 8⟩ 0))).emit (.msix v 256)
    else s) s

/-- PERST (R544): the endpoint and its configuration space are reset, with the MSI-X table, as a conventional reset does. -/
def execPerst (t : Nat) (asserted : Bool) (s : State) : Host.Outcome State Fault Refusal :=
  let s1 := s.beginAt t
  if asserted then
    .next { s1.resetMem (fun a => decide (0x14000 ≤ a ∧ a < 0x16000)) with perst := true, msixEn := false, bme := false, funcMask := false }
  else .next { s1 with perst := false }

/-- MSIX_RELEASE (R419): the host writes MSI-X Enable, Bus Master Enable and the function mask. The configuration space does not answer
under PERST_N, in a reset or while the main domain is off. -/
def execMsixRelease (t : Nat) (en bme fmask : Bool) (s : State) : Host.Outcome State Fault Refusal :=
  let s1 := s.beginAt t
  if s1.perst || s1.dev.inReset || s1.mainOff then .next s1
  else .next (sendHeldMsgs { s1 with msixEn := en, bme := bme, funcMask := fmask })

end Sys2Proof.Machine
end

