-- ==== Sys2Proof/Machine/Access.lean ====
section
/-!
DEFINITION. One access to the address map (Tables 1-4 to 1-6) by any requester: where the address leads (R21 to R28, R439), what a write of
each register does, and what a read returns (R7, R8, R10). A word of a register that has a rule of its own acts as that rule's command does.
-/
namespace Sys2Proof.Machine

/-! ### Where an address leads -/

/-- What lies at an address for a requester. -/
inductive Dest where
  | thallus (a : Nat)
  | mailbox (word : Nat)
  | twin (via : Via) (off : Nat)
  /-- the other twin's private aperture, for a core (R27) -/
  | cross
  /-- DRAM of the core's twin -/
  | dram (off : Nat)
  /-- the far bus, from a core (R439); `locked` is the alias of QM16 mode -/
  | far (locked : Bool) (a : Nat)
  | nothing
deriving DecidableEq, Repr

/-- The map as the host sees it (Table 1-4). -/
def hostDest (a : Nat) : Dest :=
  if a < 0x1000000 then .thallus a
  else if a < 0x1010000 then .mailbox ((a - 0x1000000) / 4)
  else if a < 0x2000000 then .nothing
  else if a < 0x10000000 then .twin .mirror (a - 0x2000000)
  else if a < 0x20000000 then .twin (.priv .a) (a - 0x10000000)
  else if a < 0x30000000 then .twin (.priv .b) (a - 0x20000000)
  else .nothing

/-- The map as a core sees it (R27, R439 and chapter 15). The far bus takes its two windows out of the DRAM addresses
(notes/assumptions/15.md). -/
def coreDest (w : Twin) (c : Fin 16) (a : Nat) : Dest :=
  if a < 0x30000000 then
    match hostDest a with
    | .twin .mirror off => .twin (.core w c) off
    | .twin (.priv x) off => if x = w then .twin (.core w c) off else .cross
    | d => d
  else if 0x900000000 ≤ a ∧ a < 0xA00000000 then .far false (a - 0x900000000)
  else if 0xA00000000 ≤ a ∧ a < 0xB00000000 then .far true (a - 0xA00000000)
  else if 0x800000000 ≤ a ∧ a < 0x1000000000 then .dram (a - 0x800000000)
  else .nothing

/-- Where an address leads: nowhere when it is not that of a word. -/
def destOf (req : Requester) (a : Nat) : Dest :=
  if a % 4 ≠ 0 then .nothing
  else match req with
    | .core w c => coreDest w c a
    | _ => hostDest a

/-- The requests of this requester complete: not under a reset, nor while the main domain is off; over PCIe not under PERST_N (R417, R544). -/
def State.answersTo (s : State) (req : Requester) : Bool :=
  !s.dev.inReset && !s.mainOff && !(decide (req = .pcie) && s.perst)

/-! ### Words -/

/-- Four bytes of memory as a word, and a write of them. -/
def State.memWord (s : State) (a : Nat) : Word := BitVec.ofNat 32 (s.rdLE a 4)
def State.putWord (s : State) (a : Nat) (v : Word) : State := s.wrBytes a (leBytes 4 v.toNat)

/-- A write of one word of a register by its access codes (R10), with the hold of a 64-bit register (R7). -/
def writeReg (req : Requester) (a : Nat) (v : Word) (s : State) : State :=
  match rowAt a with
  | none => s
  | some (r, _, i) =>
    if !r.wide then s.plainWrite a v
    else
      let b := a - 4 * i
      let s1 := s.unlatch req b
      if i = 1 then s1.holdHigh req b v
      else match s1.takeHold req b with
        | (some x, s2) => (s2.plainWrite (b + 4) x).plainWrite b v
        | (none, s2) => s2.plainWrite b v

/-! ### The Thallus -/

/-- A write of TBn_CTL (R89, R90). The new MODE is written first, and SET is judged by it: DESIGN CHOICE (notes/assumptions/35.md). -/
def tbCtl (n : Fin 4) (v : Word) (s : State) : State :=
  let s1 := s.writeMode n (getFld v Fld.TB_CTL_MODE)
  if getFld v Fld.TB_CTL_SET = 1 then setBaseCount n s1 else s1

/-- A write of TGEN_CTL (R54). -/
def tgenCtl (v : Word) (s : State) : State :=
  let s1 := if getFld v Fld.TGEN_CTL_CANCEL = 1 then cancelTiming s else s
  if getFld v Fld.TGEN_CTL_COMMIT = 1 then captureTiming s.now s1 else s1

/-- A write of a word of TGEN_PHASE (R7, R97): the low word makes the register whole. -/
def tgenPhase (req : Requester) (a : Nat) (v : Word) (s : State) : State :=
  let s1 := writeReg req a v s
  if a = Reg.TGEN_PHASE then writePhase (BitVec.ofNat 64 (s1.rd64 Reg.TGEN_PHASE)) s1 else s1

/-- A write of CAL_CMD (R497). -/
def calCmd (v : Word) (s : State) : State :=
  if getFld v Fld.CAL_CMD_ALL = 1 then calRequest allUnits s
  else if getFld v Fld.CAL_CMD_UNIT < 45 then calRequest [getFld v Fld.CAL_CMD_UNIT] s
  else s

/-- A write of a word of the MSI-X table (R419): messages that its mask held leave. -/
def msixTable (a : Nat) (v : Word) (s : State) : State := sendHeldMsgs (s.putWord a v)

/-- A write of one word of the Thallus control region whose registers act by a rule of their own, but for HOST_RELAY_DATA. -/
def thWord (req : Requester) (a : Nat) (v : Word) (s : State) : State :=
  if a = Reg.DEV_CTL then devCtl (getFld v Fld.DEV_CTL_DEV_RST = 1) (getFld v Fld.DEV_CTL_CTX_RST = 1) (getFld v Fld.DEV_CTL_KEY) s
  else if a = Reg.TWIN_CTL then twinCtlWrite v s
  else if a = Reg.OUT_CTL then outCtl (getFld v Fld.OUT_CTL_HOLD = 1) (getFld v Fld.OUT_CTL_SAFE = 1) s
  else if a = Reg.WDOG_CTL then wdogCtl v s
  else if a = Reg.WDOG_KICK then kickWdog v s
  else if a = Reg.LAYER_RELAY then relayLayer v s
  else if inArr (Reg.TB_CTL 0) 0x100 4 a then tbCtl (Fin.ofNat 4 (arrIx (Reg.TB_CTL 0) 0x100 a)) v s
  else if inArr (Reg.TB_RATE 0) 0x100 4 a then s.writeTbRate (Fin.ofNat 4 (arrIx (Reg.TB_RATE 0) 0x100 a)) v
  else if inArr (Reg.TB_MEAS_CTL 0) 0x100 4 a then
    (if v.toNat % 8 = 0 then s
    else submitMeas (Fin.ofNat 4 (arrIx (Reg.TB_MEAS_CTL 0) 0x100 a)) (getFld v Fld.TB_MEAS_CTL_NEW_SRC = 1) (getFld v Fld.TB_MEAS_CTL_INVALID = 1) s)
  else if a = Reg.TB3_TRIM then s.writeTrim v
  else if a = Reg.TGEN_CTL then tgenCtl v s
  else if a = Reg.TGEN_SRC then showWaiting (s.plainWrite a v)
  else if a = Reg.TGEN_PHASE ∨ a = Reg.TGEN_PHASE + 4 then tgenPhase req a v s
  else if inArr (Reg.FLASH_CMD 0) 0x200 2 a then flashStart req (arrIx (Reg.FLASH_CMD 0) 0x200 a) (v.toNat % 8) (v.toNat / 8 % 2 ^ 25) s
  else if a = Reg.PWR_OPP then writeOpp v s
  else if a = Reg.BOOT_CTL then bootCtl v s
  else if a = Reg.BOOT_VERIFY then bootVerify (getFld v Fld.BOOT_VERIFY_SLOT) s
  else if a = Reg.OTP_KEY_CMD then otpCmd v s
  else if a = Reg.REJ_BOOT then rejBoot v s
  else if a = Reg.CAL_CMD then calCmd v s
  else if a = Reg.EVT_LOG_TAIL then logTail v s
  else if inArr (Reg.RZP_SEM 0) 4 32 a then semWrite (arrIx (Reg.RZP_SEM 0) 4 a) (Requester.brdg req) s
  else if 0x8000 ≤ a ∧ a < 0xF000 then s.putWord a v
  else if (0x6100 ≤ a ∧ a < 0x6200) ∨ (0x6300 ≤ a ∧ a < 0x6400) then s.putWord a v
  else if 0x14000 ≤ a ∧ a < 0x15000 then msixTable a v s
  else writeReg req a v s

/-- A write of the Thallus control region by a requester (R28, R467): PWR_CTL has a condition of its own. -/
def thAccess (req : Requester) (a : Nat) (v : Word) (s : State) : State :=
  if a = Reg.PWR_CTL then s.pwrWrite req (fun x => writePwrCtl x.answers v x) else s.thWrite req (thWord req a v)

/-! ### A twin -/

/-- The home of a twin's register at an offset for a requester of Sorus: the requester's own copy of a banked register, and the registers of
the port's personality (chapters 10 and 11); none where a port has no register. -/
def twHome (w : Twin) (r off : Nat) (s : State) : Option Nat :=
  if 0x90100 ≤ off ∧ off < 0x901C0 then some (banked r (w.base + off))
  else if 0x80000 ≤ off ∧ off < 0x88000 then
    (if off % 0x100 < 0x80 then
      some (w.base + off + (if 2 ≤ s.personality w ((off - 0x80000) / 0x100) ∧ s.personality w ((off - 0x80000) / 0x100) ≤ 4 then 0x80 else 0))
    else none)
  else some (w.base + off)

/-- A write of SORUS_CMD (R377, R386): DONE acts for a core alone. -/
def sorusCmd (via : Via) (v : Word) (w : Twin) (s : State) : State :=
  let s1 := if getFld v Fld.SORUS_CMD_DROP_PKT = 1 then dropOpenPkt w (getFld v Fld.SORUS_CMD_QUEUE) (sorusReq via) s else s
  match via with
  | .core _ c => if getFld v Fld.SORUS_CMD_DONE = 1 then coreDone w c.val s1 else s1
  | _ => s1

/-- A write of STRD_CTLp (R280, R289). -/
def strdCtl (p : Nat) (v : Word) (w : Twin) (s : State) : State :=
  let s1 := if getFld v Fld.STRD_CTL_FULL = 1 then forceFull p w s else s
  if getFld v Fld.STRD_CTL_ENUM = 1 then requestEnum p w s1 else s1

/-- A write of TWIN_FAULT: FW_FAULT flags the twin (R350). -/
def twinFault (v : Word) (w : Twin) (s : State) : State :=
  let s1 := s.plainWrite (Reg.TWIN_FAULT w) v
  if getFld v Fld.TWIN_FAULT_FW_FAULT = 1 then s1.setHealth w 4 else s1

/-- A write of REJ_GRAFT_CTL in one twin (R125, R131): AT_TICK, then CANCEL, then GO. -/
def graftWrite (v : Word) (w : Twin) (s : State) : State :=
  let s1 := s.plainWrite (Reg.REJ_GRAFT_CTL w) v
  let s2 := if getFld v Fld.REJ_GRAFT_CTL_CANCEL = 1 then cancelGraft w s1 else s1
  if getFld v Fld.REJ_GRAFT_CTL_GO = 1 then graftGo w s2 else s2

/-- A write of one word of a twin's register at its unbanked home `a`, in that twin. -/
def twRegWord (via : Via) (req : Requester) (a : Nat) (v : Word) (w : Twin) (s : State) : State :=
  if a = Reg.TWIN_FAULT w then twinFault v w s
  else if inArr (Reg.NET_TX_TAIL w 0) 0x100 4 a then writeTxTail (arrIx (Reg.NET_TX_TAIL w 0) 0x100 a) v w s
  else if a = Reg.NET_RXFREE w then freeSlot (getFld v Fld.NET_RXFREE_SLOT) w s
  else if a = Reg.LAYER_CMT w then commitLayers v w s
  else if inArr (Reg.LAYER_STAT w 0) 0x40 16 a then writeReg req a (layerStat via v) s
  else if a = Reg.COLR_CMT w then commitMasters v w s
  else if a = Reg.COLR_ZONE_FORCE w then forceZone v w s
  else if a = Reg.COLR_FADER w ∨ a = Reg.CURV_CFG w then watchSpare w (s.plainWrite a v)
  else if inArr (Reg.STRD_CTL w 0) 0x100 128 a then strdCtl (arrIx (Reg.STRD_CTL w 0) 0x100 a) v w s
  else if inArr (Reg.STRD_WCTL w 0) 0x100 128 a then
    (if getFld v Fld.STRD_WCTL_DISC = 1 then startDisc (arrIx (Reg.STRD_WCTL w 0) 0x100 a) w s else s)
  else if a = Reg.RDM_SUBMIT w then submitRdm v w s
  else if a = Reg.HLTH_POST w then postHealth v w s
  else if a = Reg.SORUS_PUSH w then pushWrite (sorusReq via) v w s
  else if a = Reg.SORUS_REL w then relWrite (sorusReq via) v w s
  else if a = Reg.SORUS_CMD w then sorusCmd via v w s
  else if inArr (Reg.SORUS_WIN_CMD w 0) 0x80 64 a then
    (let q := arrIx (Reg.SORUS_WIN_CMD w 0) 0x80 a
     if getFld v Fld.SORUS_WIN_CMD_DROP_PKT = 1 then dropOpenPkt w q (reqWindow q) s else s)
  else if inArr (Reg.BANK_CTL w 0) 8 96 a then bankCtlWrite (viaAgent via) (arrIx (Reg.BANK_CTL w 0) 8 a) v w s
  else if a = Reg.EVT_SOFT w then evtSoft v w s
  else if a = Reg.CTL_KEY_SEL w then ctlKeySel v w s
  else if a = Reg.CTL_KEY_DATA w then ctlKeyData v w s
  else if a = Reg.UPD_HEALTH_CONFIRM w then confirmVia via v w s
  else if a = Reg.REJ_GRAFT_CTL w then graftWrite v w s
  else if a = Reg.UPD_PKG_CMD w then (if throughMirror via then pkgCmd v w s else s)
  else writeReg req a v s

/-- A write of a register of a twin at an offset. -/
def twRegAt (via : Via) (req : Requester) (off : Nat) (v : Word) (w : Twin) (s : State) : State :=
  match twHome w (sorusReq via) off s with
  | none => s
  | some a => if a < 0x100000000 then twRegWord via req a v w s
    else if off = 0x90100 ∨ off = 0x90108 ∨ off = 0x90110 then twRegWord via req (w.base + off) v w s
    else writeReg req a v s

/-- The bank of a byte offset, and whether an agent reaches it (R399). -/
def bankOf (off : Nat) : Nat := (off - 0x4000000) / 0x100000

/-- A write of one word at an offset of a twin, in that twin (Table 1-6). -/
def twWord (via : Via) (req : Requester) (off : Nat) (v : Word) (w : Twin) (s : State) : State :=
  if 0x88000 ≤ off ∧ off < 0x8E000 then s.putWord (w.base + off) v
  else if off < 0x100000 then twRegAt via req off v w s
  else if off < 0x200000 then s.putWord (w.base + off) v
  else if 0x4000000 ≤ off ∧ off < 0xA000000 then
    (if !s.reachesBank w (bankOf off) (viaAgent via) then s.refuseBank w (bankOf off)
     else if s.rb (Reg.BANK_STAT w (bankOf off)) Fld.BANK_STAT_MOVING then s.holdAccess w (bankOf off) (w.base + off) (some v)
     else s.putWord (w.base + off) v)
  else if 0xA000000 ≤ off ∧ off < 0xC000000 then
    bridgeWrite (Requester.brdg req) false (s.rf (Reg.BRDG_HWIN w) Fld.BRDG_HWIN_BASE * 2 ^ 25 + (off - 0xA000000)) v w s
  else s

/-- A write of REJ_GRAFT_CTL on a path (R461): in NAP its GO waits for the end of the wake. -/
def graftCtl (via : Via) (v : Word) (s : State) : State :=
  let named : Twin → Bool := fun w => match via with | .mirror => true | .priv x => decide (x = w) | .core x _ => decide (x = w)
  if s.inNap ∧ getFld v Fld.REJ_GRAFT_CTL_GO = 1 then
    graftGoVia via (s.each named (fun w x => x.plainWrite (Reg.REJ_GRAFT_CTL w) v))
  else s.deliver via (graftWrite v)

/-- A write at an offset of the twins on a path. -/
def twAccess (via : Via) (req : Requester) (off : Nat) (v : Word) (s : State) : State :=
  if off = 0xD0800 then graftCtl via v s else s.deliver via (twWord via req off v)

/-! ### Writes -/

/-- A core access to the other twin (R27). -/
def crossAcc (w : Twin) (s : State) : State :=
  if s.roleOf w = .off then s else s.bump Reg.MIRROR_STAT Fld.MIRROR_STAT_XTWIN_ACC

/-- A core's write beyond the map of BAR0: DRAM (R412) and the far bus (R439, R445). -/
def coreWrite (w : Twin) (c : Fin 16) (d : Dest) (v : Word) (s : State) : State :=
  if s.roleOf w = .off || s.dev.inReset || s.inNap then s
  else match d with
    | .dram off => if dramCore true off then coreDram w off v s else s.refuseBank w 0x7F
    | .far locked a =>
      if locked && !s.rb Reg.RZP_CFG Fld.RZP_CFG_QM16_LOCK then s else bridgeWrite c.val locked a v w s
    | .cross => crossAcc w s
    | _ => s

/-- A write of one word by a requester, without the relay. -/
def writeAt (req : Requester) (a : Nat) (v : Word) (s : State) : State :=
  match destOf req a with
  | .thallus x => thAccess req x v s
  | .mailbox word => s.thWrite req (mbxWriteAt true (some req) word v)
  | .twin via off => if s.answersTo req then twAccess via req off v s else s
  | .nothing => s
  | d => match req with
    | .core w c => coreWrite w c d v s
    | _ => s

/-- A write of HOST_RELAY_DATA that takes effect (R420). -/
def relay (v : Word) (s : State) : State :=
  let a := (s.reg Reg.HOST_RELAY_ADDR).toNat
  if 0x30000000 ≤ a ∨ a % 4 ≠ 0 ∨ a = Reg.HOST_RELAY_DATA then s.keyErr else writeAt .relay a v s

/-- A write of one word by a requester. -/
def barWrite (req : Requester) (a : Nat) (v : Word) (s : State) : State :=
  if a = Reg.HOST_RELAY_DATA then s.thWrite req (relay v) else writeAt req a v s

/-! ### Reads -/

/-- A read that no twin serves (R23). -/
def noTwin (s : State) : Word × State :=
  (0xFFFFFFFF, noTwinRead s)

/-- A dead access (R25). -/
def deadRead (s : State) : Word × State := (0xFFFFFFFF, s.bump Reg.MIRROR_STAT Fld.MIRROR_STAT_DEAD_ACC)

/-- A word of the save area (R464): VALID is known, and the layout of the rest belongs to the silicon. -/
def saveWord (a : Nat) (s : State) : Word × State :=
  let (n, s1) := s.fresh
  (BitVec.ofNat 32 (if a = 0xF004 then n * 256 + (s.rdB 0xF004).toNat else n), s1)

/-- A read of one word of the Thallus control region. -/
def thRead (req : Requester) (a : Nat) (s : State) : Word × State :=
  if 0xF000 ≤ a ∧ a < 0x10000 then saveWord a s
  else if 0x8000 ≤ a ∧ a < 0x16000 then (s.memWord a, s)
  else if (0x6100 ≤ a ∧ a < 0x6200) ∨ (0x6300 ≤ a ∧ a < 0x6400) then (s.memWord a, s)
  else if inArr (Reg.RZP_SEM 0) 4 32 a then semReadBy req (arrIx (Reg.RZP_SEM 0) 4 a) s
  else readReg req a s

/-- A read of the low or high word of a pop register, whose header the pop gives (R7, R378 to R380). `now_` is its current value, whose high
word a read of the high word without a latch returns: for SORUS_POPq, which holds no item of its own, 0 (DESIGN CHOICE,
notes/assumptions/34.md). -/
def popWords (req : Requester) (b : Nat) (high : Bool) (pop : State → BitVec 64 × State) (now_ : BitVec 64) (s : State) : Word × State :=
  if high then ((findLatch s.latches req b).getD (BitVec.ofNat 32 (now_.toNat / 2 ^ 32)), s.unlatch req b)
  else
    let (h, s1) := pop s
    (BitVec.ofNat 32 h.toNat, s1.latchHigh req b (BitVec.ofNat 32 (h.toNat / 2 ^ 32)))

/-- The entries of the sACN loss map (R147): bit `i` of word `n` for entry 32n + i. -/
def State.sacnLost (s : State) (w : Twin) (n : Nat) : Word :=
  BitVec.ofNat 32 ((List.range 32).foldl (fun acc i => acc + bit1 (s.univ w (32 * n + i)).lost * 2 ^ i) 0)

/-- Bytes of a twin's map that are memory rather than registers. -/
def twBytes (off : Nat) : Bool :=
  decide ((0x11000 ≤ off ∧ off < 0x15000) ∨ (0x18000 ≤ off ∧ off < 0x18800) ∨ (0x58000 ≤ off ∧ off < 0x58800) ∨
    (0x61000 ≤ off ∧ off < 0x61020) ∨ (0x88000 ≤ off ∧ off < 0x8E000) ∨ (0xC0100 ≤ off ∧ off < 0xC0200) ∨
    (0x100000 ≤ off ∧ off < 0x200000))

/-- A core's read of a word of its twin's DRAM (Table 15-4). What lies at which address of the mapping and ingest regions, and where the update agent
region holds its copies, the spec does not give: a free value, but for what a flash read has placed there (notes/assumptions/44.md). -/
def dramWord (w : Twin) (off : Nat) (s : State) : Word × State :=
  if 0x708000000 ≤ off ∧ off < 0x770000000 ∨ 0x770000000 ≤ off ∧ off < 0x790000000 ∧ s.rdLE (Addr.dram w off) 4 = 0 then (BitVec.ofNat 32 s.fresh.1, s.fresh.2) else (s.memWord (Addr.dram w off), s)

/-- A read of a register of a twin at an offset on a path. -/
def twRegRead (via : Via) (req : Requester) (off : Nat) (w : Twin) (s : State) : Word × State :=
  let a := w.base + off
  if Reg.SORUS_POP w 0 ≤ a ∧ a < Reg.SORUS_POP w 64 then
    let q := (a - Reg.SORUS_POP w 0) / 8
    let pop := if via = .mirror then mirrorHeader false q w else popHeader q (sorusReq via) w
    popWords req (Reg.SORUS_POP w q) (a % 8 = 4) pop 0 s
  else if inArr (Reg.SORUS_WIN_HDR w 0) 0x80 64 a ∨ inArr (Reg.SORUS_WIN_HDR w 0 + 4) 0x80 64 a then
    let q := (a - Reg.SORUS_WIN_HDR w 0) / 0x80
    let pop := if via = .mirror then mirrorHeader true q w else windowHeader q w
    popWords req (Reg.SORUS_WIN_HDR w q) (a % 8 = 4) pop ((s.tw w).sorus.queue q).winHdr s
  else match twHome w (sorusReq via) off s with
    | none => (0, s)
    | some h => readReg req h s

/-- A read of one word at an offset of a twin (Table 1-6): none when the value comes later, from the far bus or at a bank's grant. -/
def twRead (via : Via) (req : Requester) (off : Nat) (w : Twin) (s : State) : Option Word × State :=
  if twBytes off then (some (s.memWord (w.base + off)), s)
  else if 0x38000 ≤ off ∧ off < 0x38800 then (some (s.sacnLost w ((off - 0x38000) / 4)), s)
  else if off < 0x100000 then
    let p := twRegRead via req off w s
    (some p.1, p.2)
  else if 0x4000000 ≤ off ∧ off < 0xA000000 then
    (if !s.reachesBank w (bankOf off) (viaAgent via) then (some 0, s.refuseBank w (bankOf off))
     else if s.rb (Reg.BANK_STAT w (bankOf off)) Fld.BANK_STAT_MOVING then (none, s.holdAccess w (bankOf off) (w.base + off) none)
     else (some (s.memWord (w.base + off)), s))
  else if 0xA000000 ≤ off ∧ off < 0xC000000 then
    let a := s.rf (Reg.BRDG_HWIN w) Fld.BRDG_HWIN_BASE * 2 ^ 25 + (off - 0xA000000)
    match s.pfWord w a with
    | some v => (some v, s)
    | none => (none, bridgeRead (Requester.brdg req) false a w s)
  else (some 0, s)

/-- A read on a path: the mirror aperture is served by the ACTIVE twin (R23), a private aperture by its twin (R25), a core by its own. -/
def twPathRead (via : Via) (req : Requester) (off : Nat) (s : State) : Option Word × State :=
  match via with
  | .mirror =>
    if s.inNap then (let (v, s1) := deadRead s; (some v, s1))
    else match s.active with
      | some w => twRead via req off w s
      | none => let (v, s1) := noTwin s; (some v, s1)
  | .priv w =>
    if s.inNap || decide (s.roleOf w = .off) || decide (s.roleOf w = .isolated) then (let (v, s1) := deadRead s; (some v, s1))
    else twRead via req off w s
  | .core w _ => if s.roleOf w = .off || s.inNap then (none, s) else twRead via req off w s

/-- A read of one word by a requester: none when it has no completion of its own. -/
def barRead (req : Requester) (a : Nat) (s : State) : Option Word × State :=
  if !s.answersTo req then (none, s)
  else match destOf req a with
    | .thallus x => let (v, s1) := thRead req x s; (some v, s1)
    | .mailbox word => let (v, s1) := mbxReadAt true (some req) word s; (some v, s1)
    | .twin via off => twPathRead via req off s
    | .nothing => (some 0, s)
    | d => match req with
      | .core w c =>
        if s.roleOf w = .off || s.inNap then (none, s)
        else match d with
          | .dram off => if dramCore false off then (some (dramWord w off s).1, (dramWord w off s).2) else (some 0, s.refuseBank w 0x7F)
          | .far locked x => if locked && !s.rb Reg.RZP_CFG Fld.RZP_CFG_QM16_LOCK then (none, s) else (none, bridgeRead c.val locked x w s)
          | _ => (some 0, crossAcc w s)
      | _ => (some 0, s)

end Sys2Proof.Machine
end

