-- ==== Sys2Proof/Machine/HostCmds.lean ====
section
/-!
DEFINITION. The commands of the apertures (R21 to R28), HOST_RELAY (R420), the management I2C (R427 to R430), the READ and WRITE of the
control channel (R449), and a plain register write (R10).
-/
namespace Sys2Proof.Machine

/-! ### Accesses of the host and of cores -/

/-- MIRROR_WRITE (R21, R22): a write at a twin offset through the mirror aperture. -/
def execMirrorWrite (t : Nat) (req : Requester) (off : Nat) (v : Word) (s : State) : Host.Outcome State Fault Refusal :=
  let s1 := s.beginAt t
  if off < 0xE000000 then .next (barWrite req (0x2000000 + off) v s1) else .next s1

/-- What a read returns leaves the part. -/
def emitRead (x : Option Word × State) : State :=
  match x with
  | (some v, s) => s.emit (.readData v)
  | (none, s) => s

/-- MIRROR_READ (R23). -/
def execMirrorRead (t : Nat) (req : Requester) (off : Nat) (s : State) : Host.Outcome State Fault Refusal :=
  let s1 := s.beginAt t
  if off < 0xE000000 then .next (emitRead (barRead req (0x2000000 + off) s1)) else .next s1

/-- A forwarded write in one twin. -/
def forwarded (wr : Forwarded) (req : Requester) (w : Twin) (s : State) : State :=
  match wr with
  | .word off v => if off < 0xE000000 ∧ off % 4 = 0 then twWord .mirror req off v w s else s
  | .bulk off bytes => bulkInto off bytes w s

/-- What the Thallus does about a twin that has not accepted a forwarded write (R22): MISS, the fault flag of R350, and E26. -/
def mirrorMiss (w : Twin) (s : State) : State :=
  let f := match w with | .a => Fld.MIRROR_STAT_MISS_A | .b => Fld.MIRROR_STAT_MISS_B
  ((s.bump Reg.MIRROR_STAT f).setHealth w 8).raiseTh 26 w.code

/-- MIRROR_TIMEOUT (R22): the other twin takes the write at its arrival; 2 µs later the twin is counted and flagged. A twin that takes no
mirror writes is not. -/
def execMirrorTimeout (t : Nat) (req : Requester) (w : Twin) (wr : Forwarded) (s : State) : Host.Outcome State Fault Refusal :=
  match (s.beginAt t).reach .mirror with
  | (ws, s1) =>
    let s2 := (ws.filter (fun x => decide (x ≠ w))).foldl (fun x y => forwarded wr req y x) s1
    if ws.contains w then .next (mirrorMiss w (s2.at (t + 2000))) else .next s2

/-- The Thallus forwards nothing: under a reset, with the main domain off, or in NAP (R460). -/
def State.shut (s : State) : Bool := s.dev.inReset || s.mainOff

/-- NOTWIN_READ (R23): of the mirror aperture, or of the private aperture of a twin that is neither OFF nor ISOLATED. -/
def execNotwinRead (t : Nat) (target : Option Twin) (_off : Nat) (s : State) : Host.Outcome State Fault Refusal :=
  let s1 := s.beginAt t
  let dead : Bool := match target with
    | none => false
    | some w => decide (s1.roleOf w = .off) || decide (s1.roleOf w = .isolated)
  if s1.shut || s1.inNap || dead then .next s1
  else .next ((noTwin s1).2.emit (.readData (noTwin s1).1))

/-- DEAD_ACC (R25, R460): of the private aperture of a twin that is OFF or ISOLATED, or of any twin in NAP. -/
def execDeadAcc (t : Nat) (w : Twin) (acc : Access) (_off : Nat) (s : State) : Host.Outcome State Fault Refusal :=
  let s1 := s.beginAt t
  if s1.shut || !(s1.inNap || decide (s1.roleOf w = .off) || decide (s1.roleOf w = .isolated)) then .next s1
  else
    let (v, s2) := deadRead s1
    match acc with
    | .read => .next (s2.emit (.readData v))
    | .write _ => .next s2

/-- XTWIN_ACC (R27): a core of twin `w` accesses the other twin's private aperture. -/
def execXtwinAcc (t : Nat) (w : Twin) (_c : Fin 16) (acc : Access) (_off : Nat) (s : State) : Host.Outcome State Fault Refusal :=
  let s1 := s.beginAt t
  if s1.shut || s1.inNap || decide (s1.roleOf w = .off) then .next s1
  else match acc with
    | .read => .next ((crossAcc w s1).emit (.readData 0))
    | .write _ => .next (crossAcc w s1)

/-- CORE_THALLUS_WRITE (R28): to the Thallus control region or the mailbox. -/
def execCoreThallusWrite (t : Nat) (w : Twin) (c : Fin 16) (addr : Nat) (v : Word) (s : State) : Host.Outcome State Fault Refusal :=
  let s1 := s.beginAt t
  if addr < 0x1010000 then .next (barWrite (.core w c) addr v s1) else .next s1

/-- HOST_RELAY (R420): a core writes HOST_RELAY_DATA. -/
def execHostRelay (t : Nat) (w : Twin) (c : Fin 16) (v : Word) (s : State) : Host.Outcome State Fault Refusal :=
  .next ((s.beginAt t).thWrite (.core w c) (relay v))

/-- REGISTER_WRITE (R10). -/
def execRegisterWrite (t : Nat) (req : Requester) (addr : Nat) (v : Word) (s : State) : Host.Outcome State Fault Refusal :=
  .next (barWrite req addr v (s.beginAt t))

/-! ### Management I2C -/

/-- The CRC-8 of SMBus: polynomial x^8 + x^2 + x + 1, most significant bit first, initial value 0 (PRESUMED, notes/assumptions/9.md). -/
def crc8 (bs : List Byte) : Byte :=
  BitVec.ofNat 8 (bs.foldl (fun c b => (List.range 8).foldl (fun x _ => if 128 ≤ x then (2 * x % 256) ^^^ 7 else 2 * x) (c ^^^ b.toNat)) 0)

def State.wakeFailed (s : State) : Bool := s.rb Reg.PWR_STAT Fld.PWR_STAT_WAKE_FAIL

/-- The target's main domain is off with no failed wake: DARK. -/
def State.dark (s : State) : Bool := s.mainOff && !s.wakeFailed

/-- An address match in DARK (R430): acknowledged, the wake requested, and the next byte answered NACK. -/
def mgmtMatch (s : State) : State :=
  wakeSource 2 (((s.emit (.ack true)).emit (.ack false)).bump Reg.MGMT_STAT Fld.MGMT_STAT_WAKE_NACK)

/-- One word of a management write (R427): in WAKE_FAIL only PWR_CTL takes it (R467). -/
def mgmtPut (a : Nat) (v : Word) (s : State) : State :=
  if s.wakeFailed then (if a = Reg.PWR_CTL then thAccess .i2c a v s else s) else barWrite .i2c a v s

/-- One word of a management read: in WAKE_FAIL only the Cortex store, the event log and the power registers (R467). A far word comes in
time, as a free value, or not (R439). -/
def mgmtGet (a : Nat) (s : State) : Word × State :=
  if s.wakeFailed then
    (if a % 4 = 0 ∧ ((0x2000 ≤ a ∧ a < 0x3000) ∨ (0x8000 ≤ a ∧ a < 0x14000)) then thRead .i2c a s else (0xFFFFFFFF, s))
  else match barRead .i2c a s with
    | (some v, s1) => (v, s1)
    | (none, s1) => (BitVec.ofNat 32 s1.fresh.1, s1.fresh.2)

/-- The words of a transaction from an address on. -/
def mgmtPuts : Nat → List Word → State → State
  | _, [], s => s
  | a, v :: rest, s => mgmtPuts (a + 4) rest (mgmtPut a v s)

def mgmtGets : Nat → Nat → State → List Word × State
  | _, 0, s => ([], s)
  | a, n + 1, s =>
    let (v, s1) := mgmtGet a s
    let (l, s2) := mgmtGets (a + 4) n s1
    (v :: l, s2)

/-- MGMT_WRITE (R427, R428): with PEC a count of 1 to 16 words, applied only when the PEC is right. -/
def execMgmtWrite (t : Nat) (addr : Nat) (words : List Word) (pecOk : Passed) (s : State) : Host.Outcome State Fault Refusal :=
  let s1 := s.beginAt t
  if s1.dev.inReset then .next s1
  else if s1.dark then .next (mgmtMatch s1)
  else if s1.rb Reg.MGMT_CFG Fld.MGMT_CFG_PEC then
    (if !pecOk then .next (s1.bump Reg.MGMT_STAT Fld.MGMT_STAT_PEC_ERR)
    else if words.length < 1 ∨ 16 < words.length then .next s1
    else .next (mgmtPuts addr words s1))
  else .next (mgmtPuts addr words s1)

/-- MGMT_READ (R427, R428): the words, least significant byte first, with their PEC when it applies. -/
def execMgmtRead (t : Nat) (addr : Nat) (count : Nat) (s : State) : Host.Outcome State Fault Refusal :=
  let s1 := s.beginAt t
  if s1.dev.inReset then .next s1
  else if s1.dark then .next (mgmtMatch s1)
  else
    let pec := s1.rb Reg.MGMT_CFG Fld.MGMT_CFG_PEC
    if pec ∧ (count < 1 ∨ 16 < count) then .next s1
    else
      let (ws, s2) := mgmtGets addr count s1
      let data := ws.flatMap (fun v => leBytes 4 v.toNat)
      let me := s1.rf Reg.MGMT_CFG Fld.MGMT_CFG_ADDR
      let head := leBytes 1 (2 * me) ++ leBytes 4 addr ++ leBytes 1 count ++ leBytes 1 (2 * me + 1)
      .next (s2.emit (.bytes (if pec then data ++ [crc8 (head ++ data)] else data)))

/-- MGMT_TIMEOUT (R429). -/
def execMgmtTimeout (t : Nat) (s : State) : Host.Outcome State Fault Refusal :=
  .next ((s.beginAt t).bump Reg.MGMT_STAT Fld.MGMT_STAT_TIMEOUT)

/-- MGMT_WAKE (R430): nothing outside DARK. -/
def execMgmtWake (t : Nat) (s : State) : Host.Outcome State Fault Refusal :=
  let s1 := s.beginAt t
  if s1.dark ∧ !s1.dev.inReset then .next (mgmtMatch s1) else .next s1

/-! ### READ and WRITE of the control channel (R449) -/

/-- The twins whose firmware accepts a message of operation `op`, each with its session. -/
def ctlAccepted (op n : Nat) (m : List Byte) (s : State) : List (Twin × CtlSession) × State :=
  if !msgForm m op then ([], s)
  else twins.foldl (fun (l, x) w =>
    if decide (x.roleOf w ≠ .off) && x.netFlag w n 4 && !x.inNap then
      match ctlAccept n m w (expireSessions w x) with
      | (some k, x1) => (l ++ [(w, k)], x1)
      | (none, x1) => (l, x1)
    else (l, x)) ([], s)

/-- Replies of the twins that have accepted, with a payload for each. -/
def ctlReplies (n : Nat) (m : List Byte) (status : Nat) (l : List (Twin × CtlSession)) (body : Twin → List Byte) (s : State) : State :=
  l.foldl (fun x (w, k) => sendReply w n (ctlReply 5 k.num (msgN m 8 4) status (body w) k.key) x) s

/-- ADDR and COUNT of a message, and the addresses of its words. -/
def ctlCount (m : List Byte) : Nat := msgN m 20 2
def ctlAddrs (m : List Byte) : List Nat := (List.range (ctlCount m)).map (fun i => msgN m 16 4 + 4 * i)

/-- A READ may name the Thallus control region, the mailbox and the mirror aperture. -/
def ctlReads (a : Nat) : Bool := decide (a % 4 = 0 ∧ (a < 0x1010000 ∨ (0x2000000 ≤ a ∧ a < 0x10000000)))

/-- A WRITE may name what R420 relays. -/
def ctlWrites (a : Nat) : Bool := decide (a % 4 = 0 ∧ a < 0x30000000 ∧ a ≠ Reg.HOST_RELAY_DATA)

/-- A word as a core of a twin reads it. -/
def ctlGet (w : Twin) (a : Nat) (s : State) : Word × State :=
  match barRead (.core w 0) a s with
  | (some v, s1) => (v, s1)
  | (none, s1) => (BitVec.ofNat 32 s1.fresh.1, s1.fresh.2)

/-- The words of a READ in the order of the message: what lies in the Thallus is read once, for both twins, and the mirror aperture gives
each twin its own (R27, R28). -/
def ctlGets (lead : Twin) (ws : List Twin) : List Nat → State → List (Word × Word) × State
  | [], s => ([], s)
  | a :: rest, s =>
    let (p, s1) : (Word × Word) × State :=
      if a < 0x2000000 then (let (v, x) := ctlGet lead a s; ((v, v), x))
      else
        let (va, x) := if ws.contains .a then ctlGet .a a s else (0, s)
        let (vb, y) := if ws.contains .b then ctlGet .b a x else (0, x)
        ((va, vb), y)
    let (l, s2) := ctlGets lead ws rest s1
    (p :: l, s2)

/-- The operations of a client (Table 16-8): any other that it sends is unknown. -/
def ctlKnown (op : Nat) : Bool := [1, 3, 4, 6].contains op

/-- CTL_READ (R449). A message of the session with an unknown operation is answered with STATUS 4 (Table 16-8). -/
def execCtlRead (t : Nat) (n : Fin 4) (msg : List Byte) (s : State) : Host.Outcome State Fault Refusal :=
  let op := if ctlKnown (msgN msg 3 1) then 3 else msgN msg 3 1
  match ctlAccepted op n.val msg (s.beginAt t) with
  | (l, s1) =>
    if l = [] then .next s1
    else if op ≠ 3 then .next (ctlReplies n.val msg 4 l (fun _ => []) s1)
    else if msgLen msg ≠ 8 ∨ ctlCount msg < 1 ∨ 256 < ctlCount msg then .next (ctlReplies n.val msg 2 l (fun _ => []) s1)
    else if !(ctlAddrs msg).all ctlReads then .next (ctlReplies n.val msg 1 l (fun _ => []) s1)
    else
      let ws := l.map (·.1)
      let lead := match s1.active with | some w => if ws.contains w then w else w.other | none => ws.headD .a
      let (vs, s2) := ctlGets lead ws (ctlAddrs msg) s1
      .next (ctlReplies n.val msg 0 l (fun w => vs.flatMap (fun v => leBytes 4 (match w with | .a => v.1 | .b => v.2).toNat)) s2)

/-- The words of a WRITE, each through HOST_RELAY by the firmware of a twin. -/
def ctlPuts (w : Twin) (m : List Byte) (s : State) : State :=
  (ctlAddrs m).zipIdx.foldl (fun x (a, i) =>
    x.thWrite (.core w 0) (fun y => relay (BitVec.ofNat 32 (msgN m (24 + 4 * i) 4)) (y.plainWrite Reg.HOST_RELAY_ADDR (BitVec.ofNat 32 a)))) s

/-- CTL_WRITE (R449): only the ACTIVE twin's relay writes act. -/
def execCtlWrite (t : Nat) (n : Fin 4) (msg : List Byte) (s : State) : Host.Outcome State Fault Refusal :=
  match ctlAccepted 4 n.val msg (s.beginAt t) with
  | (l, s1) =>
    if l = [] then .next s1
    else if ctlCount msg < 1 ∨ 256 < ctlCount msg ∨ msgLen msg ≠ 8 + 4 * ctlCount msg then .next (ctlReplies n.val msg 2 l (fun _ => []) s1)
    else if !(ctlAddrs msg).all ctlWrites then .next (ctlReplies n.val msg 1 l (fun _ => []) s1)
    else
      let s2 := match s1.active with
        | some w => if (l.map (·.1)).contains w then ctlPuts w msg s1 else s1
        | none => s1
      .next (ctlReplies n.val msg 0 l (fun _ => []) s2)

end Sys2Proof.Machine
end

