-- ==== Sys2Proof/Machine/Dispatch.lean ====
section
/-!
DEFINITION. The meaning of every command: one arm for each constructor of Instr.
-/
namespace Sys2Proof.Machine

def exec (i : Instr) (s : State) : Host.Outcome State Fault Refusal :=
  match i with
  | .powerOnReset t => Sys2Proof.Machine.execPowerOnReset t s
  | .powerOnResetEnd t => Sys2Proof.Machine.execPowerOnResetEnd t s
  | .resetNAssert t => Sys2Proof.Machine.execResetNAssert t s
  | .resetNRelease t => Sys2Proof.Machine.execResetNRelease t s
  | .devRst t src key ctxRst => Sys2Proof.Machine.execDevRst t src key ctxRst s
  | .ctxRst t src key => Sys2Proof.Machine.execCtxRst t src key s
  | .contextReset => Sys2Proof.Machine.execContextReset s
  | .rejLoaded t => Sys2Proof.Machine.execRejLoaded t s
  | .twinStartComplete t w => Sys2Proof.Machine.execTwinStartComplete t w s
  | .twinStartTimeout => Sys2Proof.Machine.execTwinStartTimeout s
  | .mirrorWrite t req off v => Sys2Proof.Machine.execMirrorWrite t req off v s
  | .mirrorTimeout t req w wr => Sys2Proof.Machine.execMirrorTimeout t req w wr s
  | .mirrorRead t req off => Sys2Proof.Machine.execMirrorRead t req off s
  | .notwinRead t target off => Sys2Proof.Machine.execNotwinRead t target off s
  | .deadAcc t w acc off => Sys2Proof.Machine.execDeadAcc t w acc off s
  | .bulkWrite t off bytes => Sys2Proof.Machine.execBulkWrite t off bytes s
  | .xtwinAcc t w c acc off => Sys2Proof.Machine.execXtwinAcc t w c acc off s
  | .coreThallusWrite t w c addr v => Sys2Proof.Machine.execCoreThallusWrite t w c addr v s
  | .rstSet t src ta tb force => Sys2Proof.Machine.execRstSet t src ta tb force s
  | .rstClear t src ta tb => Sys2Proof.Machine.execRstClear t src ta tb s
  | .isoSet t src ta tb force => Sys2Proof.Machine.execIsoSet t src ta tb force s
  | .isoClear t src ta tb => Sys2Proof.Machine.execIsoClear t src ta tb s
  | .swap t src force => Sys2Proof.Machine.execSwap t src force s
  | .roleSwap => Sys2Proof.Machine.execRoleSwap s
  | .outHold t src on => Sys2Proof.Machine.execOutHold t src on s
  | .outSafe t src on => Sys2Proof.Machine.execOutSafe t src on s
  | .wdogCtlWrite t src v => Sys2Proof.Machine.execWdogCtlWrite t src v s
  | .wdogKick t src v => Sys2Proof.Machine.execWdogKick t src v s
  | .wdogExpired => Sys2Proof.Machine.execWdogExpired s
  | .tick => Sys2Proof.Machine.execTick s
  | .computeDeadline => Sys2Proof.Machine.execComputeDeadline s
  | .stripeComplete t w stripe => Sys2Proof.Machine.execStripeComplete t w stripe s
  | .patchDone t w => Sys2Proof.Machine.execPatchDone t w s
  | .sliceReady t w key => Sys2Proof.Machine.execSliceReady t w key s
  | .emissionStart key => Sys2Proof.Machine.execEmissionStart key s
  | .sorediumLatch => Sys2Proof.Machine.execSorediumLatch s
  | .frameRecord w => Sys2Proof.Machine.execFrameRecord w s
  | .tgenCommit t src cancel => Sys2Proof.Machine.execTgenCommit t src cancel s
  | .tgenCancel t src => Sys2Proof.Machine.execTgenCancel t src s
  | .tgenPhaseWrite t src v => Sys2Proof.Machine.execTgenPhaseWrite t src v s
  | .tbMeasSubmit t src n newSrc invalid => Sys2Proof.Machine.execTbMeasSubmit t src n newSrc invalid s
  | .tbMeasInvalid t src n => Sys2Proof.Machine.execTbMeasInvalid t src n s
  | .tbMeasNewSrc t src n => Sys2Proof.Machine.execTbMeasNewSrc t src n s
  | .tbHoldover t n => Sys2Proof.Machine.execTbHoldover t n s
  | .tbHoldLong n => Sys2Proof.Machine.execTbHoldLong n s
  | .tbSlewEnd n => Sys2Proof.Machine.execTbSlewEnd n s
  | .ltcFrame t hh mm ss ff => Sys2Proof.Machine.execLtcFrame t hh mm ss ff s
  | .ltcLoss t => Sys2Proof.Machine.execLtcLoss t s
  | .wclkMeasurement t hz rate => Sys2Proof.Machine.execWclkMeasurement t hz rate s
  | .tbModeWrite t src n mode => Sys2Proof.Machine.execTbModeWrite t src n mode s
  | .tbSet t src n => Sys2Proof.Machine.execTbSet t src n s
  | .tb3TrimWrite t src v => Sys2Proof.Machine.execTb3TrimWrite t src v s
  | .graftGo t via => Sys2Proof.Machine.execGraftGo t via s
  | .graftArmed t w => Sys2Proof.Machine.execGraftArmed t w s
  | .graftCancel t via => Sys2Proof.Machine.execGraftCancel t via s
  | .graftCatchupDone t w => Sys2Proof.Machine.execGraftCatchupDone t w s
  | .netLinkUp t n => Sys2Proof.Machine.execNetLinkUp t n s
  | .netLinkDown t n hiBer => Sys2Proof.Machine.execNetLinkDown t n hiBer s
  | .netRxFrame t t0 n good bytes => Sys2Proof.Machine.execNetRxFrame t t0 n good bytes s
  | .joinReport t w n => Sys2Proof.Machine.execJoinReport t w n s
  | .sacnSrcLoss t w => Sys2Proof.Machine.execSacnSrcLoss t w s
  | .sacnSyncLoss t w => Sys2Proof.Machine.execSacnSyncLoss t w s
  | .stFlowLoss t w f => Sys2Proof.Machine.execStFlowLoss t w f s
  | .netRxfree t via slot => Sys2Proof.Machine.execNetRxfree t via slot s
  | .netTxTail t via n v => Sys2Proof.Machine.execNetTxTail t via n v s
  | .netTxDone t n => Sys2Proof.Machine.execNetTxDone t n s
  | .netWakeMatch t n ix bytes => Sys2Proof.Machine.execNetWakeMatch t n ix bytes s
  | .layerCmt t via v => Sys2Proof.Machine.execLayerCmt t via v s
  | .layerRelay t src v => Sys2Proof.Machine.execLayerRelay t src v s
  | .layerDamagedClear t via l mask => Sys2Proof.Machine.execLayerDamagedClear t via l mask s
  | .colrCmt t via v => Sys2Proof.Machine.execColrCmt t via v s
  | .colrZoneForce t via v => Sys2Proof.Machine.execColrZoneForce t via v s
  | .zoneCold w z => Sys2Proof.Machine.execZoneCold w z s
  | .zoneRampEnd w z => Sys2Proof.Machine.execZoneRampEnd w z s
  | .curvScrub t w bad => Sys2Proof.Machine.execCurvScrub t w bad s
  | .curvParityRetry t w slot pt => Sys2Proof.Machine.execCurvParityRetry t w slot pt s
  | .strdEnum t via p => Sys2Proof.Machine.execStrdEnum t via p s
  | .prnEnum p => Sys2Proof.Machine.execPrnEnum p s
  | .enumReply t p bytes => Sys2Proof.Machine.execEnumReply t p bytes s
  | .enumCountWaitEnd p => Sys2Proof.Machine.execEnumCountWaitEnd p s
  | .enumEchoTimeout p => Sys2Proof.Machine.execEnumEchoTimeout p s
  | .prnEnumDone t p => Sys2Proof.Machine.execPrnEnumDone t p s
  | .strdFull t via p => Sys2Proof.Machine.execStrdFull t via p s
  | .prnStatus t p slot bytes => Sys2Proof.Machine.execPrnStatus t p slot bytes s
  | .prnSlotMiss t p slot => Sys2Proof.Machine.execPrnSlotMiss t p slot s
  | .prnUpErr t p => Sys2Proof.Machine.execPrnUpErr t p s
  | .prnNodeWake t p => Sys2Proof.Machine.execPrnNodeWake t p s
  | .prnUpLock t p => Sys2Proof.Machine.execPrnUpLock t p s
  | .prnUpLockLoss t p => Sys2Proof.Machine.execPrnUpLockLoss t p s
  | .holdKeepalive => Sys2Proof.Machine.execHoldKeepalive s
  | .streamAbsent t p => Sys2Proof.Machine.execStreamAbsent t p s
  | .rdmSubmit t via v => Sys2Proof.Machine.execRdmSubmit t via v s
  | .rdmRequestStart t w p => Sys2Proof.Machine.execRdmRequestStart t w p s
  | .rdmResponse t p good bytes => Sys2Proof.Machine.execRdmResponse t p good bytes s
  | .rdmResponseTimeout p => Sys2Proof.Machine.execRdmResponseTimeout p s
  | .rdmDisc t via p => Sys2Proof.Machine.execRdmDisc t via p s
  | .rdmDiscPeriod w p => Sys2Proof.Machine.execRdmDiscPeriod w p s
  | .rdmDiscDone t w p => Sys2Proof.Machine.execRdmDiscDone t w p s
  | .hlthPost t via v => Sys2Proof.Machine.execHlthPost t via v s
  | .hlthNoReport t w fixture => Sys2Proof.Machine.execHlthNoReport t w fixture s
  | .diagVoid w => Sys2Proof.Machine.execDiagVoid w s
  | .periBlockClose t stream block sa sb busy back => Sys2Proof.Machine.execPeriBlockClose t stream block sa sb busy back s
  | .periArbDecide => Sys2Proof.Machine.execPeriArbDecide s
  | .periResume => Sys2Proof.Machine.execPeriResume s
  | .digestCompare t arrA arrB => Sys2Proof.Machine.execDigestCompare t arrA arrB s
  | .healthFlag t w bit => Sys2Proof.Machine.execHealthFlag t w bit s
  | .hbLoss t w => Sys2Proof.Machine.execHbLoss t w s
  | .heartbeat t w => Sys2Proof.Machine.execHeartbeat t w s
  | .resyncCopyDone t => Sys2Proof.Machine.execResyncCopyDone t s
  | .resyncFail t => Sys2Proof.Machine.execResyncFail t s
  | .sorusPush t via v => Sys2Proof.Machine.execSorusPush t via v s
  | .sorusRel t via v => Sys2Proof.Machine.execSorusRel t via v s
  | .sorusDone t w c => Sys2Proof.Machine.execSorusDone t w c s
  | .dropPkt t via q => Sys2Proof.Machine.execDropPkt t via q s
  | .winDropPkt t via q => Sys2Proof.Machine.execWinDropPkt t via q s
  | .sorusPop t via q => Sys2Proof.Machine.execSorusPop t via q s
  | .winHdrPop t via q => Sys2Proof.Machine.execWinHdrPop t via q s
  | .mirrorPop t req win q => Sys2Proof.Machine.execMirrorPop t req win q s
  | .sorusDispatch t w => Sys2Proof.Machine.execSorusDispatch t w s
  | .sorusPreempt t w => Sys2Proof.Machine.execSorusPreempt t w s
  | .bankOwnerWrite t via n v => Sys2Proof.Machine.execBankOwnerWrite t via n v s
  | .bankStateWrite t via n v => Sys2Proof.Machine.execBankStateWrite t via n v s
  | .bankGrant t w n => Sys2Proof.Machine.execBankGrant t w n s
  | .bankReady t w n => Sys2Proof.Machine.execBankReady t w n s
  | .bankAccessFault t w n agent => Sys2Proof.Machine.execBankAccessFault t w n agent s
  | .memEccError t w site correctable => Sys2Proof.Machine.execMemEccError t w site correctable s
  | .bankTestWindow t w march rerun => Sys2Proof.Machine.execBankTestWindow t w march rerun s
  | .bankTestAbort t w n => Sys2Proof.Machine.execBankTestAbort t w n s
  | .lmemScrub t w c => Sys2Proof.Machine.execLmemScrub t w c s
  | .dramScrub t w => Sys2Proof.Machine.execDramScrub t w s
  | .dramAccessDenied t w agent acc off => Sys2Proof.Machine.execDramAccessDenied t w agent acc off s
  | .hostRelay t w c v => Sys2Proof.Machine.execHostRelay t w c v s
  | .mbxWrite t portB src word v => Sys2Proof.Machine.execMbxWrite t portB src word v s
  | .mbxRead t portB src word => Sys2Proof.Machine.execMbxRead t portB src word s
  | .mgmtWrite t addr words pecOk => Sys2Proof.Machine.execMgmtWrite t addr words pecOk s
  | .mgmtRead t addr count => Sys2Proof.Machine.execMgmtRead t addr count s
  | .mgmtTimeout t => Sys2Proof.Machine.execMgmtTimeout t s
  | .mgmtWake t => Sys2Proof.Machine.execMgmtWake t s
  | .perst t asserted => Sys2Proof.Machine.execPerst t asserted s
  | .msixRelease t en bme fmask => Sys2Proof.Machine.execMsixRelease t en bme fmask s
  | .flashRead t src ch len => Sys2Proof.Machine.execFlashRead t src ch len s
  | .flashProgram t src ch len => Sys2Proof.Machine.execFlashProgram t src ch len s
  | .flashErase4k t src ch => Sys2Proof.Machine.execFlashErase4k t src ch s
  | .flashErase64k t src ch => Sys2Proof.Machine.execFlashErase64k t src ch s
  | .flashReadSfdp t src ch len => Sys2Proof.Machine.execFlashReadSfdp t src ch len s
  | .flashCopy t src ch len => Sys2Proof.Machine.execFlashCopy t src ch len s
  | .flashCmdDone t ch => Sys2Proof.Machine.execFlashCmdDone t ch s
  | .flashTimeout t ch => Sys2Proof.Machine.execFlashTimeout t ch s
  | .rzOutboundWrite t => Sys2Proof.Machine.execRzOutboundWrite t s
  | .rzOutboundRead t req addr => Sys2Proof.Machine.execRzOutboundRead t req addr s
  | .rzLockedRead t w c addr => Sys2Proof.Machine.execRzLockedRead t w c addr s
  | .rzLockTimeout => Sys2Proof.Machine.execRzLockTimeout s
  | .rzInbound t far addr acc => Sys2Proof.Machine.execRzInbound t far addr acc s
  | .rzRequest t far => Sys2Proof.Machine.execRzRequest t far s
  | .rzGrantLost t => Sys2Proof.Machine.execRzGrantLost t s
  | .rzCrossing t far => Sys2Proof.Machine.execRzCrossing t far s
  | .rzPhaseTimeout t => Sys2Proof.Machine.execRzPhaseTimeout t s
  | .rzLinePoll t lines => Sys2Proof.Machine.execRzLinePoll t lines s
  | .rzPrefetchExpire t => Sys2Proof.Machine.execRzPrefetchExpire t s
  | .rzTargetResponse t r => Sys2Proof.Machine.execRzTargetResponse t r s
  | .rzpSemRead t src n => Sys2Proof.Machine.execRzpSemRead t src n s
  | .rzpSemWrite t src n v => Sys2Proof.Machine.execRzpSemWrite t src n v s
  | .ctlHello t n msg => Sys2Proof.Machine.execCtlHello t n msg s
  | .ctlRead t n msg => Sys2Proof.Machine.execCtlRead t n msg s
  | .ctlWrite t n msg => Sys2Proof.Machine.execCtlWrite t n msg s
  | .ctlClose t n msg => Sys2Proof.Machine.execCtlClose t n msg s
  | .ctlSessionTimeout t => Sys2Proof.Machine.execCtlSessionTimeout t s
  | .ctlKeyData t via v => Sys2Proof.Machine.execCtlKeyData t via v s
  | .ctlKeyClear t via v => Sys2Proof.Machine.execCtlKeyClear t via v s
  | .pwrReqRun t src v => Sys2Proof.Machine.execPwrReqRun t src v s
  | .pwrReqDim t src v => Sys2Proof.Machine.execPwrReqDim t src v s
  | .pwrReqNap t src v => Sys2Proof.Machine.execPwrReqNap t src v s
  | .pwrReqDark t src v => Sys2Proof.Machine.execPwrReqDark t src v s
  | .powerOffSequencing t src key answers => Sys2Proof.Machine.execPowerOffSequencing t src key answers s
  | .pwrStateChange => Sys2Proof.Machine.execPwrStateChange s
  | .sleepSequence t => Sys2Proof.Machine.execSleepSequence t s
  | .sleepStepTimeout t => Sys2Proof.Machine.execSleepStepTimeout t s
  | .sleepRetry => Sys2Proof.Machine.execSleepRetry s
  | .pwrOppWrite t src v => Sys2Proof.Machine.execPwrOppWrite t src v s
  | .oppRaiseSettle t pgA pgB => Sys2Proof.Machine.execOppRaiseSettle t pgA pgB s
  | .oppLowerSettle => Sys2Proof.Machine.execOppLowerSettle s
  | .oppPgTimeout pgA pgB => Sys2Proof.Machine.execOppPgTimeout pgA pgB s
  | .pwrAlarm => Sys2Proof.Machine.execPwrAlarm s
  | .napWake t source => Sys2Proof.Machine.execNapWake t source s
  | .darkWake t source => Sys2Proof.Machine.execDarkWake t source s
  | .wakePgTimeout t rail => Sys2Proof.Machine.execWakePgTimeout t rail s
  | .wakePllTimeout t => Sys2Proof.Machine.execWakePllTimeout t s
  | .brownoutWarn t rail high => Sys2Proof.Machine.execBrownoutWarn t rail high s
  | .railReset t rail => Sys2Proof.Machine.execRailReset t rail s
  | .railRecover t w => Sys2Proof.Machine.execRailRecover t w s
  | .dieSensorOvertemp t w => Sys2Proof.Machine.execDieSensorOvertemp t w s
  | .bootAct t src v => Sys2Proof.Machine.execBootAct t src v s
  | .fwTrial t => Sys2Proof.Machine.execFwTrial t s
  | .inPlaceRestart t => Sys2Proof.Machine.execInPlaceRestart t s
  | .inPlaceRebuildDone t => Sys2Proof.Machine.execInPlaceRebuildDone t s
  | .bootVerify t src v => Sys2Proof.Machine.execBootVerify t src v s
  | .bootVerifyDone t => Sys2Proof.Machine.execBootVerifyDone t s
  | .updHealthConfirm t via v => Sys2Proof.Machine.execUpdHealthConfirm t via v s
  | .trialExpired t => Sys2Proof.Machine.execTrialExpired t s
  | .trialStartTimeout t => Sys2Proof.Machine.execTrialStartTimeout t s
  | .bootRecordWrite t => Sys2Proof.Machine.execBootRecordWrite t s
  | .settingsWrite t w => Sys2Proof.Machine.execSettingsWrite t w s
  | .otpProgram t src v => Sys2Proof.Machine.execOtpProgram t src v s
  | .otpRevoke t src v => Sys2Proof.Machine.execOtpRevoke t src v s
  | .rejBootWrite t src v => Sys2Proof.Machine.execRejBootWrite t src v s
  | .pkgExport t via v => Sys2Proof.Machine.execPkgExport t via v s
  | .pkgImport t via v => Sys2Proof.Machine.execPkgImport t via v s
  | .pkgDone t w => Sys2Proof.Machine.execPkgDone t w s
  | .calAll t src => Sys2Proof.Machine.execCalAll t src s
  | .calUnit t src unit => Sys2Proof.Machine.execCalUnit t src unit s
  | .calPeriod => Sys2Proof.Machine.execCalPeriod s
  | .calRun t => Sys2Proof.Machine.execCalRun t s
  | .calUnitDone t ok code => Sys2Proof.Machine.execCalUnitDone t ok code s
  | .calStrandApply p => Sys2Proof.Machine.execCalStrandApply p s
  | .eventRaise t src n data late => Sys2Proof.Machine.execEventRaise t src n data late s
  | .evtSoft t via v => Sys2Proof.Machine.execEvtSoft t via v s
  | .evtLogTail t src v => Sys2Proof.Machine.execEvtLogTail t src v s
  | .evtPendClear t src g v => Sys2Proof.Machine.execEvtPendClear t src g v s
  | .tapInstruction t code => Sys2Proof.Machine.execTapInstruction t code s
  | .registerWrite t req addr v => Sys2Proof.Machine.execRegisterWrite t req addr v s

end Sys2Proof.Machine
end

