-- ==== Sys2Proof/Safety.lean ====
section
/-!
DEFINITION. What counts as a sound state and a safe run: the tables of registers and bytes keep their canonical form, and at most one twin is
ACTIVE (R338).
-/
namespace Sys2Proof

open Machine

namespace Machine

/-- The register file keeps its canonical form: home addresses strictly rising, and no word equal to its reset value. -/
def State.regsWf (s : State) : Bool := Smap.wf resetWord s.regs

/-- The memory keeps its canonical form: addresses strictly rising, and no byte equal to what an unlisted one reads as. -/
def Memory.wf (m : List Host.Cell) : Bool := Smap.wf memDefault m

/-- At most one twin is ACTIVE (R338). -/
def State.oneActive (s : State) : Bool := !(decide (s.role.a = .active) && decide (s.role.b = .active))

/-- The registers that raising an event may change: pending bits, the log's head and count, and what the queue routes count (R514 to R517,
R371, R399). -/
def evtReg (a : Nat) : Bool :=
  decide ((Reg.EVT_PEND 0 ≤ a ∧ a < Reg.EVT_PEND 8) ∨ a = Reg.EVT_LOG_HEAD ∨ a = Reg.EVT_LOG_STAT) ||
  twins.any (fun w => decide ((Reg.EVT_TPEND w 0 ≤ a ∧ a < Reg.EVT_TPEND w 8) ∨ a = Reg.EVT_TSTAT w ∨ a = Reg.BANK_VIOL w ∨
    a = Reg.SORUS_CNT w ∨ (Reg.SORUS_QCNT w 0 ≤ a ∧ a < Reg.SORUS_QCNT w 64)))

/-- The bytes that raising an event may change: the log and the pending-bit array of MSI-X (R516, R419). -/
def evtByte (a : Nat) : Bool := decide ((0x10000 ≤ a ∧ a < 0x14000) ∨ (0x15000 ≤ a ∧ a < 0x15020))

/-- `s` with what raising events may change taken from `u`. -/
def State.withEvents (s u : State) : State :=
  { s with out := u.out, regs := u.regs, mem := u.mem, logFirst := u.logFirst, logCycle := u.logCycle, once := u.once, heldEvents := u.heldEvents,
           a := { s.a with once := u.a.once, sorus := u.a.sorus }, b := { s.b with once := u.b.once, sorus := u.b.sorus } }

/-- `u` is `s` but for what raising events may change: of registers and bytes, those named above alone. -/
structure eventsOnly (s u : State) : Prop where
  rest : u = s.withEvents u
  regs : ∀ a, evtReg a = false → u.reg a = s.reg a
  bytes : ∀ a, evtByte a = false → u.rdB a = s.rdB a

/-- `u` is `e` but for registers: only those at `l` may differ. What the model remembers of the beginning of the clock (R11) may follow. -/
structure onlyRegs (l : List Nat) (e u : State) : Prop where
  rest : u = { e with regs := u.regs, clock := u.clock }
  regs : ∀ a, a ∉ l → u.reg a = e.reg a

/-- `u` is `e` but for registers and bytes: only registers at `l`, and only bytes that `p` picks, may differ. -/
structure onlyAt (l : List Nat) (p : Nat → Bool) (e u : State) : Prop where
  rest : u = { e with regs := u.regs, clock := u.clock, mem := u.mem }
  regs : ∀ a, a ∉ l → u.reg a = e.reg a
  bytes : ∀ a, p a = false → u.rdB a = e.rdB a

/-- `s` with what the strand lines have been given taken from `u`: the outputs, and what the keepalive generator holds of each line (R281). -/
def State.withLine (s u : State) : State :=
  { s with out := u.out, dev := { s.dev with gen := u.dev.gen, traffic := u.dev.traffic, rd := u.dev.rd } }

/-- The keepalive generator drives exactly what the state calls for (R281): each output is a HOLD packet on a port that it drives, and each
such port has had one with the present SAFE flag. -/
def State.holdsSent (u : State) : Prop :=
  (∀ o ∈ u.out, ∃ p at_ plus, o = .strand p at_ plus (withCrc (holdPkt u.safeOn true)) ∧ p ∈ u.keepalivePorts) ∧
  ∀ p ∈ u.keepalivePorts, u.dev.gen.any (fun e => decide (e.1 = p) && decide (e.2.2 = u.safeOn)) = true

/-- A home address in the register block of port `p` of either twin (chapters 10 and 11). -/
def portReg (p a : Nat) : Bool :=
  twins.any (fun w => decide (w.base + 0x80000 + p * 0x100 ≤ a ∧ a < w.base + 0x80000 + p * 0x100 + 0x100))

/-- A home address in the register block of network port `n` of either twin (chapter 5). -/
def netReg (n a : Nat) : Bool :=
  twins.any (fun w => decide (w.base + 0x30000 + n * 0x100 ≤ a ∧ a < w.base + 0x30000 + n * 0x100 + 0x100))

/-- A home address in the register block of Sorus of either twin, a banked copy included (chapter 14). -/
def sorusReg (a : Nat) : Bool :=
  twins.any (fun w => decide (w.base + 0x90000 ≤ a % 0x100000000 ∧ a % 0x100000000 < w.base + 0xA0000))

/-- No address. -/
def nowhere (_ : Nat) : Bool := false

/-- `u` is `e` but for what raising events may change, what the twins hold beside their registers, registers that `l` picks and bytes that
`p` picks. -/
structure framed (l p : Nat → Bool) (e u : State) : Prop where
  rest : u = { e with out := u.out, regs := u.regs, clock := u.clock, mem := u.mem, logFirst := u.logFirst, logCycle := u.logCycle, once := u.once, heldEvents := u.heldEvents,
                      a := u.a, b := u.b }
  regs : ∀ x, l x = false → evtReg x = false → u.reg x = e.reg x
  bytes : ∀ x, p x = false → evtByte x = false → u.rdB x = e.rdB x

/-- `u` is `e` but for what a change of roles may do (R339, R340, R362): the roles themselves, the Peristome's records and the frame flags, what
raising events may change, the registers of the resync, the line of the strand ports and what is due on them (R280, R281), and registers that
`l` picks. -/
structure roleFramed (l : Nat → Bool) (e u : State) : Prop where
  rest : u = { e with out := u.out, regs := u.regs, clock := u.clock, mem := u.mem, logFirst := u.logFirst, logCycle := u.logCycle, once := u.once, heldEvents := u.heldEvents,
                      a := u.a, b := u.b, role := u.role, peri := u.peri, free := u.free, fullDue := u.fullDue,
                      dev := { e.dev with everActive := u.dev.everActive, firstAt := u.dev.firstAt, gen := u.dev.gen, traffic := u.dev.traffic,
                                          rd := u.dev.rd },
                      tg := { e.tg with cur := { e.tg.cur with flags := u.tg.cur.flags } } }
  regs : ∀ x, l x = false → evtReg x = false → x ≠ Reg.PERI_RESYNC → x ≠ Reg.TWIN_FAULT .a → x ≠ Reg.TWIN_FAULT .b → u.reg x = e.reg x
  bytes : ∀ x, evtByte x = false → u.rdB x = e.rdB x

/-- A word with one field replaced. -/
def withFld (v : Word) (f : Fld) (n : Nat) : Word := BitVec.ofNat 32 (putFld v.toNat f n)

/-- A counter field one higher, saturating at its largest value. -/
def countUp (v : Word) (f : Fld) : Word := withFld v f (min (getFld v f + 1) (2 ^ (f.hi - f.lo + 1) - 1))

/-- Event `n` is pending in the Thallus (R514). -/
def State.evtPending (s : State) (n : Nat) : Bool := bitAt (s.reg (Reg.EVT_PEND (n / 32))).toNat (n % 32)

/-- Event `n` is pending in a twin (R515). -/
def State.evtTwinPending (s : State) (w : Twin) (n : Nat) : Bool := bitAt (s.reg (Reg.EVT_TPEND w (n / 32))).toNat (n % 32)

/-- Registers and bytes are in canonical form. -/
def State.tidy (s : State) : Bool := s.regsWf && Memory.wf s.mem

/-- A sound state. -/
def State.sound (s : State) : Bool := s.regsWf && Memory.wf s.mem && s.oneActive

end Machine

/-- A run of `k` steps from `s` neither faults nor is refused, and every state on it is sound. -/
def safeRun : Nat → State → Bool
  | 0, s => s.sound
  | k + 1, s => s.sound && (match step s with | .next s' => safeRun k s' | _ => false)

end Sys2Proof
end

