-- ==== Sys2Proof/Certificates/Slice0/Obligations.lean ====
section
/-!
DEFINITION. The statements for the provers, family by family. Where a statement says that a state `u` is another one but for named registers
and bytes (`onlyRegs`, `onlyAt`, `eventsOnly`, `framed`, `roleFramed`), that is its frame. The fields `now`, `free` and `out` that the
statements name are the model's own (notes/assumptions/1.md, 5.md, 6.md).
-/
open Sys2Proof Sys2Proof.Machine

/-! ### The queue, reset and the invariant -/

/-- A step performs the command at the front of the queue on the state with the rest of the queue; on an empty queue the block idles (the
model's choice, notes/assumptions/2.md). -/
def Obligations.StepRunsFrontCommand : Prop :=
  (∀ (c : Instr) (rest : List Instr) (s : State), s.pending = c :: rest → step s = exec c { s with pending := rest }) ∧
  (∀ s : State, s.pending = [] → step s = .next s)

/-- Every step from a sound state answers a next state, which is sound: registers and bytes in canonical form and at most one twin ACTIVE
(R338). It takes one command from the queue and adds none, and neither the instant nor the count of free values runs back. The canonical
form, the instant and the count of free values are the model's own (notes/assumptions/1.md, 4.md, 6.md). -/
def Obligations.EveryStepKeepsSoundState : Prop :=
  ∀ s : State, s.sound = true → ∃ u, step s = .next u ∧ u.sound = true ∧ u.pending = s.pending.tail ∧ s.now ≤ u.now ∧ s.free ≤ u.free

/-- The state after reset is sound, holds no ACTIVE twin, and its registers read the reset values of their field tables: identity, the
timing of 60/1 at 600 permille, the watchdog's 1,000 ms, TB3 FREE. -/
def Obligations.ResetStateIsSound : Prop :=
  State.reset.sound = true ∧ State.reset.active = none ∧
  State.reset.reg Reg.DEV_ID = 0x01284201 ∧ (∀ w : Twin, State.reset.reg (Reg.TWIN_ID w) = BitVec.ofNat 32 (0x01284200 + w.code)) ∧
  State.reset.reg Reg.TGEN_LIVE_RATE = 0x0010003C ∧ State.reset.reg Reg.TGEN_LIVE_CDL = 0x258 ∧ State.reset.reg Reg.WDOG_CTL = 0x7D0 ∧
  State.reset.rf (Reg.TB_STAT 3) Fld.TB_STAT_STATE = 6 ∧ State.reset.rf (Reg.TB_STAT 0) Fld.TB_STAT_STATE = 0

/-! ### Resets and start (chapters 1 and 21) -/

/-- R30, R34: a context-reset request with the key waits for the next tick and clears CTX_DROP; one that finds a request waiting merges
with it; a wrong key counts in KEY_ERR. Nothing else changes. -/
def Obligations.ContextResetRequestWaitsOrMerges : Prop :=
  ∀ (s : State) (t : Nat) (src : Requester) (key : Byte), s.tidy = true → s.thAllows src = true → ∃ u, exec (.ctxRst t src key) s = .next u ∧
    (key = 0x5A → s.dev.ctxPend = true → u = s.beginAt t) ∧
    (key = 0x5A → s.dev.ctxPend = false → u.reg Reg.DEV_STAT = withFld (s.reg Reg.DEV_STAT) Fld.DEV_STAT_CTX_DROP 0 ∧
      onlyRegs [Reg.DEV_STAT] { s.beginAt t with dev := { s.dev with ctxPend := true } } u) ∧
    (key ≠ 0x5A → u.reg Reg.DEV_STAT = countUp (s.reg Reg.DEV_STAT) Fld.DEV_STAT_KEY_ERR ∧ onlyRegs [Reg.DEV_STAT] (s.beginAt t) u)

/-- R46, R551: a device reset requested by register is made whether or not a context reset is asked in the same write, and is released 1
µs later: both twins OFF, the part out of reset, no context reset waiting; while the TEST_EN ball is high the part stays in reset (R528; no
command moves that ball, notes/assumptions/47.md); a wrong key counts in KEY_ERR and changes nothing else. That latched and held words are
dropped is the model's choice (notes/assumptions/34.md). -/
def Obligations.DeviceResetByRegister : Prop :=
  ∀ (s : State) (t : Nat) (src : Requester) (key : Byte) (both : Bool), s.tidy = true → s.thAllows src = true →
    ∃ u, exec (.devRst t src key both) s = .next u ∧
    (key = 0x5A → u.role = ⟨.off, .off⟩ ∧ u.dev.inReset = s.dev.testEn ∧ u.dev.ctxPend = false ∧
      (s.dev.testEn = false → u.dev.releasedAt = max s.now t + 1000) ∧
      u.dev.resetHold = true ∧ u.latches = [] ∧ u.holds = [] ∧ u.pending = s.pending) ∧
    (key ≠ 0x5A → u.reg Reg.DEV_STAT = countUp (s.reg Reg.DEV_STAT) Fld.DEV_STAT_KEY_ERR ∧ onlyRegs [Reg.DEV_STAT] (s.beginAt t) u)

/-- POWER_ON_RESET, RESET_N_ASSERT, POWER_ON_RESET_END and RESET_N_RELEASE complete in every state.
R9, R39, R543, Table 1-7: while RESET_N holds the part, every register of domain CTX, TWIN or DEV reads its reset value, registers of
domain POR outside calibration's status keep theirs, boot flash, OTP and the event log keep their bytes, both twins are OFF and the ports
are held; a power-on reset returns every register but the state of the OTP key slots, and keeps flash and OTP alone. R542, R543, R426: a
release of RESET_N that holds the part, and the end of a power-on reset, let the part run from that instant, with both twins still OFF,
unless TEST_EN is high (R528); the power-on reset's end takes the management address from the straps. What a returned byte reads where the
spec gives none is the model's choice (notes/assumptions/4.md). -/
def Obligations.ResetsReturnTheirDomains : Prop :=
  (∀ (s : State) (t : Nat),
     (∃ u, exec (.powerOnReset t) s = .next u ∧ u.role = ⟨.off, .off⟩ ∧ u.dev.inReset = true) ∧
     (∃ u, exec (.resetNAssert t) s = .next u ∧ u.role = ⟨.off, .off⟩ ∧ u.dev.inReset = true ∧ u.dev.resetLowAt = some (max s.now t)) ∧
     (∃ u, exec (.powerOnResetEnd t) s = .next u ∧ u.dev.resetLowAt = none ∧ (s.dev.testEn = false → u.dev.inReset = false)) ∧
     (s.dev.resetLowAt.isSome = true → ∃ u, exec (.resetNRelease t) s = .next u ∧ u.dev.resetLowAt = none ∧
       (s.dev.testEn = false → u.dev.inReset = false)) ∧
     (s.dev.resetLowAt = none → exec (.resetNRelease t) s = .next (s.beginAt t))) ∧
  (∀ (s : State) (t : Nat), s.tidy = true →
     (∃ u, exec (.resetNAssert t) s = .next u ∧ u.role = ⟨.off, .off⟩ ∧ u.dev.inReset = true ∧ u.dev.resetLowAt = some (max s.now t) ∧
       u.holdOn = true ∧ u.pending = s.pending ∧
       (∀ a, domainOf a ≠ some .por → a ≠ Reg.CAL_STAT → u.reg a = resetWord a) ∧
       (∀ a, domainOf a = some .por → a ≠ Reg.CAL_STAT → u.reg a = s.reg a) ∧
       (∀ a, keptByDevice a = true → a ≠ 0xF004 → u.rdB a = s.rdB a) ∧ (∀ a, keptByDevice a = false → u.rdB a = memDefault a)) ∧
     (∃ u, exec (.powerOnReset t) s = .next u ∧ u.role = ⟨.off, .off⟩ ∧ u.dev.inReset = true ∧ u.pending = s.pending ∧
       u.rf Reg.OTP_KEY_STAT Fld.OTP_KEY_STAT_SLOTS = s.rf Reg.OTP_KEY_STAT Fld.OTP_KEY_STAT_SLOTS ∧
       (∀ a, a ≠ Reg.OTP_KEY_STAT → u.reg a = resetWord a) ∧
       (∀ a, keptAlways a = true → u.rdB a = s.rdB a) ∧ (∀ a, keptAlways a = false → u.rdB a = memDefault a))) ∧
  (∀ (s : State) (t : Nat), s.tidy = true → s.role = ⟨.off, .off⟩ → s.dev.testEn = false →
     (s.dev.resetLowAt.isSome = true → ∃ u, exec (.resetNRelease t) s = .next u ∧ u.dev.inReset = false ∧ u.dev.resetLowAt = none ∧
       u.dev.releasedAt = max s.now t ∧ u.role = ⟨.off, .off⟩) ∧
     (∃ u, exec (.powerOnResetEnd t) s = .next u ∧ u.dev.inReset = false ∧ u.dev.releasedAt = max s.now t ∧ u.role = ⟨.off, .off⟩ ∧
       u.rf Reg.MGMT_CFG Fld.MGMT_CFG_ADDR = 0x68 + s.dev.strap % 8))

/-- R18: when its start sequence ends within the first 5 s after a release, Twin A takes ACTIVE, and Twin B stays OFF with its start
complete; a twin whose start ends while the other is ACTIVE enters RESYNC, one on trial too (R482), but Twin A takes ACTIVE from a Twin B
whose start has ended in the same clock; at 5 s Twin B takes ACTIVE when it alone has completed. That B's command may have come first in that
clock, and a start under ISO, are the model's own (notes/assumptions/34.md). -/
def Obligations.StartSequenceGivesRoles : Prop :=
  ∀ (s : State) (t : Nat), s.tidy = true → s.boot.hand = none →
    (∀ w : Twin, (s.boot.start w).isSome = true → s.rb Reg.TWIN_CTL (Fld.iso w) = false → s.roleOf w = .off → s.fiddlehead w = false →
      (s.active = some w.other → (w = .a → s.dev.firstAt ≠ some (max s.now t)) → ∃ u, exec (.twinStartComplete t w) s = .next u ∧
        u.roleOf w = .resync ∧ u.started w = true ∧ u.roleOf w.other = .active) ∧
      (s.active = some .b → w = .a → s.dev.firstAt = some (max s.now t) →
        ∃ u, exec (.twinStartComplete t w) s = .next u ∧ u.role = ⟨.active, .resync⟩ ∧ u.started .a = true) ∧
      (s.active = none → s.dev.everActive = false → w = .a → s.roleOf .b = .off → s.started .b = false →
        ∃ u, exec (.twinStartComplete t w) s = .next u ∧ u.role = ⟨.active, .off⟩ ∧ u.started .a = true ∧ (s.mainOff = false → u.evtPending 7 = true)) ∧
      (s.active = none → s.dev.everActive = false → w = .b → s.dev.fiveSec = false → max s.now t < s.dev.releasedAt + 5000000000 →
        ∃ u, exec (.twinStartComplete t w) s = .next u ∧ u.role = s.role ∧ u.started .b = true)) ∧
    (∀ w : Twin, s.fiddlehead w = true → s.fiddlehead w.other = false → (s.boot.start w).isSome = true →
      s.rb Reg.TWIN_CTL (Fld.iso w) = false → s.roleOf w = .off → s.active = some w.other →
      (w = .a → s.dev.firstAt ≠ some (max s.now t)) → ∃ u, exec (.fwTrial t) s = .next u ∧ u.roleOf w = .resync ∧ u.started w = true ∧ u.boot.start w = none) ∧
    (s.dev.inReset = false → s.dev.fiveSec = false → s.active = none → s.dev.everActive = false → s.started .b = true →
      s.started .a = false → s.roleOf .a = .off → s.fiddlehead .b = false → s.rb Reg.TWIN_CTL (Fld.iso .b) = false →
      ∃ u, exec .twinStartTimeout s = .next u ∧ u.role = ⟨.off, .active⟩ ∧ u.dev.fiveSec = true ∧
        u.now = max s.now (s.dev.releasedAt + 5000000000))

/-! ### Apertures and the host (chapter 1) -/

/-- R23, R25, R27: what a read returns through the mirror aperture and the private apertures, and what is counted: the ACTIVE twin serves
a mirror read (of a core local memory here), a read that no twin serves returns all ones with NOTWIN_RD and E27, a dead access returns all
ones and counts in DEAD_ACC, a core access to the other twin reads 0 and counts in XTWIN_ACC. R22, R28, R33: a mirror write to a core
local memory stores its word in each twin that takes mirror writes and nowhere else; one that arrives while a context reset waits is
dropped and counted; a core of the ACTIVE twin writes the Cortex store, one of any other twin nothing; a twin that has not accepted a
forwarded write within 2 µs is counted, flagged and reported by E26. -/
def Obligations.AperturesServeReadsAndWrites : Prop :=
  (∀ (s : State) (t : Nat), s.tidy = true → s.dev.inReset = false → s.mainOff = false → s.inNap = false →
     (∀ (w : Twin) (off : Nat), s.active = some w → off % 4 = 0 → 0x100000 ≤ off → off < 0x200000 →
       ∃ u, exec (.mirrorRead t .i2c off) s = .next u ∧
         u = { s.beginAt t with out := [.readData (BitVec.ofNat 32 (s.rdLE (w.base + off) 4))] }) ∧
     (s.active = none → ∀ off, off % 4 = 0 → off < 0xE000000 → ∃ u, exec (.mirrorRead t .i2c off) s = .next u ∧
       .readData 0xFFFFFFFF ∈ u.out ∧ u.rb Reg.DEV_STAT Fld.DEV_STAT_NOTWIN_RD = true ∧ u.evtPending 27 = true ∧ u.role = s.role) ∧
     (∀ off, ∃ u, exec (.notwinRead t none off) s = .next u ∧ .readData 0xFFFFFFFF ∈ u.out ∧
       u.rb Reg.DEV_STAT Fld.DEV_STAT_NOTWIN_RD = true ∧ u.evtPending 27 = true ∧ u.role = s.role) ∧
     (∀ (w : Twin) (off : Nat), s.roleOf w = .off ∨ s.roleOf w = .isolated →
       (∃ u, exec (.deadAcc t w .read off) s = .next u ∧ u.reg Reg.MIRROR_STAT = countUp (s.reg Reg.MIRROR_STAT) Fld.MIRROR_STAT_DEAD_ACC ∧
         onlyRegs [Reg.MIRROR_STAT] { s.beginAt t with out := [.readData 0xFFFFFFFF] } u) ∧
       (∀ v, ∃ u, exec (.deadAcc t w (.write v) off) s = .next u ∧
         u.reg Reg.MIRROR_STAT = countUp (s.reg Reg.MIRROR_STAT) Fld.MIRROR_STAT_DEAD_ACC ∧ onlyRegs [Reg.MIRROR_STAT] (s.beginAt t) u)) ∧
     (∀ (w : Twin) (c : Fin 16) (off : Nat), s.roleOf w ≠ .off →
       (∃ u, exec (.xtwinAcc t w c .read off) s = .next u ∧ u.reg Reg.MIRROR_STAT = countUp (s.reg Reg.MIRROR_STAT) Fld.MIRROR_STAT_XTWIN_ACC ∧
         onlyRegs [Reg.MIRROR_STAT] { s.beginAt t with out := [.readData 0] } u) ∧
       (∀ v, ∃ u, exec (.xtwinAcc t w c (.write v) off) s = .next u ∧
         u.reg Reg.MIRROR_STAT = countUp (s.reg Reg.MIRROR_STAT) Fld.MIRROR_STAT_XTWIN_ACC ∧ onlyRegs [Reg.MIRROR_STAT] (s.beginAt t) u))) ∧
  (∀ (s : State) (t : Nat), s.tidy = true → s.dev.inReset = false → s.mainOff = false → s.inNap = false → s.boot.hand = none →
     (∀ (off : Nat) (v : Word), off % 4 = 0 → 0x100000 ≤ off → off < 0x200000 → s.dev.ctxPend = false →
       ∃ u, exec (.mirrorWrite t .i2c off v) s = .next u ∧ u = { s.beginAt t with mem := u.mem } ∧
         ∀ a, u.rdB a = if s.takesMirror .a = true ∧ Twin.a.base + off ≤ a ∧ a < Twin.a.base + off + 4 then
             BitVec.ofNat 8 (v.toNat / 256 ^ (a - (Twin.a.base + off)))
           else if s.takesMirror .b = true ∧ Twin.b.base + off ≤ a ∧ a < Twin.b.base + off + 4 then
             BitVec.ofNat 8 (v.toNat / 256 ^ (a - (Twin.b.base + off)))
           else s.rdB a) ∧
     (∀ (off : Nat) (v : Word), off % 4 = 0 → off < 0xE000000 → off ≠ 0xD0800 → s.dev.ctxPend = true →
       ∃ u, exec (.mirrorWrite t .i2c off v) s = .next u ∧ u.reg Reg.DEV_STAT = countUp (s.reg Reg.DEV_STAT) Fld.DEV_STAT_CTX_DROP ∧
         onlyRegs [Reg.DEV_STAT] (s.beginAt t) u) ∧
     (∀ (w : Twin) (c : Fin 16) (addr : Nat) (v : Word), addr % 4 = 0 → 0x8000 ≤ addr → addr < 0xF000 →
       ∃ u, exec (.coreThallusWrite t w c addr v) s = .next u ∧ u = { s.beginAt t with mem := u.mem } ∧
         ∀ a, u.rdB a = if s.roleOf w = .active ∧ addr ≤ a ∧ a < addr + 4 then BitVec.ofNat 8 (v.toNat / 256 ^ (a - addr)) else s.rdB a) ∧
     (∀ (w : Twin) (off : Nat) (v : Word), s.takesMirror w = true → s.roleOf w ≠ .off → s.dev.ctxPend = false → off % 4 = 0 → 0x100000 ≤ off →
       off < 0x200000 → ∃ u, exec (.mirrorTimeout t .i2c w (.word off v)) s = .next u ∧
         u.reg Reg.MIRROR_STAT = countUp (s.reg Reg.MIRROR_STAT) (if w = .a then Fld.MIRROR_STAT_MISS_A else Fld.MIRROR_STAT_MISS_B) ∧
         bitAt (u.reg (if w = .a then Reg.PERI_HEALTH_A else Reg.PERI_HEALTH_B)).toNat 8 = true ∧ u.evtPending 26 = true ∧
         u.now = max (max s.now t) (t + 2000) ∧
         ∀ i, i < 4 → u.rdB (w.base + off + i) = s.rdB (w.base + off + i) ∧
           (s.takesMirror w.other = true → u.rdB (w.other.base + off + i) = BitVec.ofNat 8 (v.toNat / 256 ^ i))))

/-! ### Device control (chapter 1) -/

/-- R42, R43: a write of OUT_CTL.HOLD or SAFE sets that bit and no other register; when it gives the ports back to the twins, the next
frame of every strand port is forced full (R280). R281: on entry, and when HOLD and SAFE change, each port that the keepalive generator
drives has a HOLD packet at once, and nothing else leaves. -/
def Obligations.OutputControlSetsHoldAndSafe : Prop :=
  ∀ (s : State) (t : Nat) (src : Requester) (on : Bool), s.tidy = true → s.thAllows src = true →
    let set := fun (f : Fld) (u : State) => u.reg Reg.OUT_CTL = withFld (s.reg Reg.OUT_CTL) f (if on then 1 else 0) ∧
      onlyRegs [Reg.OUT_CTL] ({ s.beginAt t with fullDue := u.fullDue }.withLine u) u ∧ u.holdsSent ∧
      u.fullDue = if (s.holdOn || s.safeOn) && !(u.holdOn || u.safeOn) then BitVec.allOnes 128 else s.fullDue
    (∃ u, exec (.outHold t src on) s = .next u ∧ set Fld.OUT_CTL_HOLD u) ∧
    (∃ u, exec (.outSafe t src on) s = .next u ∧ set Fld.OUT_CTL_SAFE u)

/-- R45: what a write of WDOG_CTL and of WDOG_KICK does to the count, and what happens when it reaches zero: E25, the action, and EN
cleared. -/
def Obligations.HostWatchdogCounts : Prop :=
  ∀ s : State, s.tidy = true →
    (∀ (t : Nat) (src : Requester) (v : Word), s.thAllows src = true →
      (∃ u, exec (.wdogCtlWrite t src v) s = .next u ∧ u.reg Reg.WDOG_CTL = withFld (s.reg Reg.WDOG_CTL) ⟨17, 0⟩ v.toNat ∧
        onlyRegs [Reg.WDOG_CTL] { s.beginAt t with
          dev := { s.dev with
            wdogAt :=
              if getFld v Fld.WDOG_CTL_EN = 0 then none
              else if s.rb Reg.WDOG_CTL Fld.WDOG_CTL_EN then s.dev.wdogAt
              else some (max s.now t + max 1 (getFld v Fld.WDOG_CTL_TIMEOUT) * 1000000) } } u) ∧
      (v ≠ 0xA5 → ∃ u, exec (.wdogKick t src v) s = .next u ∧
        u.reg Reg.DEV_STAT = countUp (s.reg Reg.DEV_STAT) Fld.DEV_STAT_KEY_ERR ∧ onlyRegs [Reg.DEV_STAT] (s.beginAt t) u) ∧
      (v = 0xA5 → ∃ u, exec (.wdogKick t src v) s = .next u ∧ u = { s.beginAt t with
        dev := { s.dev with
          wdogAt := s.dev.wdogAt.map (fun _ => max s.now t + max 1 (s.rf Reg.WDOG_CTL Fld.WDOG_CTL_TIMEOUT) * 1000000) } })) ∧
    (∀ x, s.dev.wdogAt = some x → s.mainOff = false → ∃ u, exec .wdogExpired s = .next u ∧
      (s.rf Reg.WDOG_CTL Fld.WDOG_CTL_ACTION = 0 →
        eventsOnly ({ s.beginAt x with dev := { s.dev with wdogAt := none } }.sb Reg.WDOG_CTL Fld.WDOG_CTL_EN false) u ∧
        u.evtPending 25 = true) ∧
      (s.rf Reg.WDOG_CTL Fld.WDOG_CTL_ACTION = 1 →
        eventsOnly ((({ s.beginAt x with dev := { s.dev with wdogAt := none } }.sb Reg.WDOG_CTL Fld.WDOG_CTL_EN false).sb Reg.OUT_CTL
          Fld.OUT_CTL_HOLD true).withLine u) u ∧ u.evtPending 25 = true) ∧
      (s.rf Reg.WDOG_CTL Fld.WDOG_CTL_ACTION = 2 →
        eventsOnly ((({ s.beginAt x with dev := { s.dev with wdogAt := none } }.sb Reg.WDOG_CTL Fld.WDOG_CTL_EN false).sb Reg.OUT_CTL
          Fld.OUT_CTL_SAFE true).withLine u) u ∧ u.evtPending 25 = true) ∧
      (s.rf Reg.WDOG_CTL Fld.WDOG_CTL_ACTION = 3 → u.role = ⟨.off, .off⟩ ∧ u.dev.inReset = s.dev.testEn ∧ u.dev.wdogAt = none ∧
        (s.dev.testEn = false → u.dev.releasedAt = max s.now x + 1000)))

/-- R37, R38, R44, R47: a write of TWIN_CTL outside NAP with no arbitration pending. RST set for a twin that is not ACTIVE puts it in twin
reset, OFF with its RST bit 1; ISO set for one that is neither ACTIVE nor OFF isolates it; for the ACTIVE twin, both wait for the swap at
the next tick while the other is STANDBY-READY, and are refused, the bit unchanged, when it is not and FORCE is 0; SWAP is accepted for the
next tick under the same condition; RST and ISO cleared release the twin. The order within one write, what a request adds to one that waits
already, and the withdrawal of a waiting request are the model's reading (notes/assumptions/13.md, 34.md). -/
def Obligations.TwinControlResetsAndIsolates : Prop :=
  ∀ (s : State) (t : Nat) (src : Requester), s.tidy = true → s.thAllows src = true → s.inNap = false → s.peri.arb = none →
    s.fiddlehead .a = false → s.fiddlehead .b = false →
    (∀ w : Twin, s.active ≠ some w → s.rb Reg.TWIN_CTL (Fld.rst w) = false → s.rb Reg.TWIN_CTL (Fld.iso w) = false → ∀ force,
      ∃ u, exec (.rstSet t src (w = .a) (w = .b) force) s = .next u ∧ u.roleOf w = .off ∧ u.roleOf w.other = s.roleOf w.other ∧
        u.rb Reg.TWIN_CTL (Fld.rst w) = true ∧ u.started w = false ∧ u.tw w = TwinState.reset ∧ u.tw w.other = s.tw w.other) ∧
    (∀ w : Twin, s.active ≠ some w → s.roleOf w ≠ .off → s.rb Reg.TWIN_CTL (Fld.iso w) = false → s.rb Reg.TWIN_CTL (Fld.rst w) = false →
      ∀ force, ∃ u, exec (.isoSet t src (w = .a) (w = .b) force) s = .next u ∧ u.roleOf w = .isolated ∧
        u.roleOf w.other = s.roleOf w.other ∧ u.rb Reg.TWIN_CTL (Fld.iso w) = true) ∧
    (∀ w : Twin, s.active = some w → s.roleOf w.other = .ready → s.rb Reg.TWIN_CTL (Fld.rst w) = false →
      s.rb Reg.TWIN_CTL (Fld.iso w) = false → ∀ force,
      let due : SwapThen → SwapThen := fun n => match s.swapDue with
        | some e => if e.from_ = w ∧ n.rank ≤ e.then_.rank then e.then_ else n
        | none => n
      (∃ u, exec (.rstSet t src (w = .a) (w = .b) force) s = .next u ∧ u.role = s.role ∧
        u.swapDue = some { from_ := w, then_ := due .reset, byHost := true } ∧ u.rb Reg.TWIN_CTL (Fld.rst w) = true) ∧
      (∃ u, exec (.isoSet t src (w = .a) (w = .b) force) s = .next u ∧ u.role = s.role ∧
        u.swapDue = some { from_ := w, then_ := due .isolate, byHost := true } ∧ u.rb Reg.TWIN_CTL (Fld.iso w) = true) ∧
      (∃ u, exec (.swap t src false) s = .next u ∧ u.role = s.role ∧
        u.swapDue = some { from_ := w, then_ := due .ready, byHost := true })) ∧
    (∀ w : Twin, s.active = some w → s.roleOf w.other ≠ .ready → s.rb Reg.TWIN_CTL (Fld.rst w) = false →
      s.rb Reg.TWIN_CTL (Fld.iso w) = false →
      (∃ u, exec (.rstSet t src (w = .a) (w = .b) false) s = .next u ∧ u.reg Reg.TWIN_CTL = s.reg Reg.TWIN_CTL ∧
        u.rb Reg.DEV_STAT Fld.DEV_STAT_REFUSED = true ∧ u.role = s.role ∧ u.swapDue = s.swapDue) ∧
      (∃ u, exec (.swap t src false) s = .next u ∧ u.rb Reg.DEV_STAT Fld.DEV_STAT_REFUSED = true ∧ u.role = s.role ∧
        u.swapDue = s.swapDue)) ∧
    (∀ w : Twin, s.rb Reg.TWIN_CTL (Fld.rst w) = true → s.rb Reg.TWIN_CTL (Fld.iso w) = false → s.railOff w = false →
      ∃ u, exec (.rstClear t src (w = .a) (w = .b)) s = .next u ∧ u.rb Reg.TWIN_CTL (Fld.rst w) = false ∧ u.role = s.role ∧
        (s.roleOf w = .off ∨ s.roleOf w = .isolated → fwBad 0 s = none → u.boot.start w = some (max s.now t)) ∧
        (s.roleOf w ≠ .off → s.roleOf w ≠ .isolated → ∀ d, s.swapDue = some d → d.from_ = w → d.then_ = .reset →
          u.swapDue = some { d with then_ := .ready })) ∧
    (∀ w : Twin, s.roleOf w = .isolated → s.rb Reg.TWIN_CTL (Fld.iso w) = true → s.rb Reg.TWIN_CTL (Fld.rst w) = false →
      s.started w = true → ∃ u, exec (.isoClear t src (w = .a) (w = .b)) s = .next u ∧ u.rb Reg.TWIN_CTL (Fld.iso w) = false ∧
        u.roleOf w = .resync ∧ u.roleOf w.other = s.roleOf w.other)

/-! ### The tick generator (chapter 2) -/

/-- R54, R97: COMMIT captures the timing shadows with its arrival, CANCEL discards a set that waits, and a write of TGEN_PHASE waits for
the next tick, and drops what its requester had latched and held of that register (R7); nothing else changes. -/
def Obligations.TimingSetIsCaptured : Prop :=
  ∀ (s : State) (t : Nat) (src : Requester), s.tidy = true → s.thAllows src = true →
    (∀ cancel, ∃ u, exec (.tgenCommit t src cancel) s = .next u ∧
      u.reg Reg.TGEN_STAT = withFld (s.reg Reg.TGEN_STAT) Fld.TGEN_STAT_PENDING 1 ∧
      onlyRegs [Reg.TGEN_STAT] { s.beginAt t with
        tg := { s.tg with
          pend := some ⟨s.reg Reg.TGEN_RATE, s.rf Reg.TGEN_CDL Fld.TGEN_CDL_PERMILLE, (s.reg Reg.TGEN_LOFS).toNat, max s.now t,
            (s.beginAt t).stamp⟩ } } u) ∧
    (∃ u, exec (.tgenCancel t src) s = .next u ∧ u.reg Reg.TGEN_STAT = withFld (s.reg Reg.TGEN_STAT) Fld.TGEN_STAT_PENDING 0 ∧
      onlyRegs [Reg.TGEN_STAT] { s.beginAt t with tg := { s.tg with pend := none } } u) ∧
    (∀ v, ∃ u, exec (.tgenPhaseWrite t src v) s = .next u ∧ u.rd64 Reg.TGEN_PHASE = v.toNat ∧
      onlyRegs [Reg.TGEN_PHASE, Reg.TGEN_PHASE + 4] { s.beginAt t with
        tg := { s.tg with phaseWrite := some v }, latches := dropLatch s.latches src Reg.TGEN_PHASE,
        holds := dropLatch s.holds src Reg.TGEN_PHASE } u)

/-! ### Time bases (chapter 3) -/

/-- R87: a base in LOCKING, LOCKED or SLEWING enters HOLDOVER at a loss of its source: a submission of TB0 or TB1 with INVALID or NEW_SRC,
MEAS_TO without a valid measurement (for TB2 on LTC, LTC_TO without one that ran forwards), or a loss of LTC for TB2. It then runs at its mean rate from that instant, and E17 is raised. -/
def Obligations.LossOfSourceEntersHoldover : Prop :=
  ∀ (s : State) (t : Nat) (n : Fin 4), s.tidy = true → s.mainOff = false →
    s.tbState n = tbLocking ∨ s.tbState n = tbLocked ∨ s.tbState n = tbSlewing →
    let held : State → Prop := fun u => u.tbState n = tbHoldover ∧ u.evtPending 17 = true ∧ (u.tb n).at_ = max s.now t ∧
      (u.tb n).rate = toSigned 32 (s.reg (Reg.TB_RATE_AVG n.val)).toNat ∧ (u.tb n).count = (s.tb n).exact (max s.now t) ∧
      (u.tb n).holdAt = max s.now t ∧ ∀ m, m ≠ n → u.tb m = s.tb m
    (∀ src, s.thAllows src = true → n.val ≤ 1 → s.tbMode n = 1 →
      (∃ u, exec (.tbMeasInvalid t src n) s = .next u ∧ held u) ∧ (∃ u, exec (.tbMeasNewSrc t src n) s = .next u ∧ held u) ∧
      (∀ newSrc, ∃ u, exec (.tbMeasSubmit t src n newSrc true) s = .next u ∧ held u)) ∧
    ((n = 2 ∧ s.onLtc = true → (s.beginAt t).ltcOver = true) →
      (n = 2 ∧ s.onLtc = true ∨ (s.tb n).measAt + s.rf (Reg.TB_TIMEOUT n.val) Fld.TB_TIMEOUT_MEAS_TO * 1000000 ≤ max s.now t) →
      ∃ u, exec (.tbHoldover t n) s = .next u ∧ held u) ∧
    (n = 2 → s.tbMode 2 = 1 → s.rf Reg.TB2_LTC_CTL Fld.TB2_LTC_CTL_SRC ≠ 2 → (s.beginAt t).ltcOver = true → ∃ u, exec (.ltcLoss t) s = .next u ∧ held u)

/-- R86, R88, R87: a valid submission within its threshold on a LOCKED base becomes its last measurement, the base stays LOCKED, and it runs
within 500 ppm of the raw clock; at the end of a slew the base runs at the servo's rate; E19 is raised once a HOLDOVER has lasted HOLD_WARN.
The servo's rate is a free value (notes/assumptions/16.md), and the prediction is the model's reading of R86 (notes/assumptions/35.md). -/
def Obligations.ServoTakesMeasurements : Prop :=
  ∀ (s : State) (t : Nat) (n : Fin 4), s.tidy = true →
    (∀ src, s.thAllows src = true → n.val ≤ 1 → s.tbMode n = 1 → s.tbState n = tbLocked →
      let x0 := (s.beginAt t).rawOfTs n (s.reg (Reg.TB_MEAS_AT n.val)).toNat
      (∀ o t0, (s.tb n).last = some (o, t0) →
        ((toSigned 64 (s.rd64 (Reg.TB_MEAS_OFS n.val)) - predictOfs (s.tb n) o t0 x0 (s.tb n).servo).natAbs : Int) ≤ 1600 * s.rf (Reg.TB_THRESH n.val) Fld.TB_THRESH_REJECT) →
      ∃ u, exec (.tbMeasSubmit t src n false false) s = .next u ∧ u.tbState n = tbLocked ∧ (u.tb n).measAt = max s.now t ∧
        (u.tb n).last = some (toSigned 64 (s.rd64 (Reg.TB_MEAS_OFS n.val)), x0) ∧
        (u.tb n).rate.natAbs ≤ 500 * 2 ^ 40 / 1000000 ∧ (u.tb n).at_ = max s.now t ∧ (u.tb n).count = (s.tb n).exact (max s.now t) ∧
        (u.tb n).rejRun = 0 ∧ u.tg = s.tg ∧ u.mem = s.mem) ∧
    (∀ e, s.tbState n = tbSlewing → (s.tb n).slewEnd = some e → ∃ u, exec (.tbSlewEnd n) s = .next u ∧ (u.tb n).rate = (s.tb n).servo ∧
      (u.tb n).count = (s.tb n).exact (max s.now e) ∧ (u.tb n).at_ = max s.now e ∧
      u.reg (Reg.TB_RATE n.val) = BitVec.ofNat 32 (ofSigned 32 (s.tb n).servo) ∧
      onlyRegs [Reg.TB_RATE n.val] ((s.beginAt e).setTb n (u.tb n)) u) ∧
    (s.tbState n = tbHoldover → (s.tb n).warned = false → s.mainOff = false →
      ∃ u, exec (.tbHoldLong n) s = .next u ∧ u.rb (Reg.TB_STAT n.val) Fld.TB_STAT_HOLD_LONG = true ∧ u.evtPending 19 = true ∧
        (u.tb n).warned = true ∧ u.tbState n = tbHoldover)

/-- R85, R90, R91, R76: TBn_CTL.MODE moves a base to MANUAL in state FREE at the rate that TBn_RATE holds, or OFF; TBn_CTL.SET on a base
in MASTER or MANUAL whose step is allowed gives it the count of TBn_SET at that instant, counts the step and raises E18; a write of
TB3_TRIM is held within 200 ppm and TB3 runs at it. R82, R83: a decoded LTC frame is shown in TB2_LTC_TC, and moves nothing else while TB2
is not in SLAVE mode; a word-clock measurement shows its frequency and whether it lies within 32 to 192 kHz. -/
def Obligations.TimeBasesAreSetAndShown : Prop :=
  (∀ (s : State) (t : Nat) (src : Requester), s.tidy = true → s.thAllows src = true →
     (∀ n : Fin 4, n ≠ 3 → s.tbMode n = 0 → s.tbState n ≠ tbHoldover → ∃ u, exec (.tbModeWrite t src n 3) s = .next u ∧ u.tbMode n = 3 ∧
       u.tbState n = tbFree ∧ (u.tb n).rate = toSigned 32 (s.reg (Reg.TB_RATE n.val)).toNat ∧
       (u.tb n).count = (s.tb n).exact (max s.now t) ∧ u.tg = s.tg ∧ u.mem = s.mem ∧ ∀ m, m ≠ n → u.tb m = s.tb m) ∧
     (∀ n : Fin 4, n ≠ 3 → s.tbMode n = 2 ∨ s.tbMode n = 3 → s.stepAllowed n = true → s.mainOff = false →
       ∃ u, exec (.tbSet t src n) s = .next u ∧ u.tbNow n = s.rd64 (Reg.TB_SET n.val) ∧ u.now = max s.now t ∧ u.evtPending 18 = true ∧
         u.rf (Reg.TB_STAT n.val) Fld.TB_STAT_STEP_CNT = (s.rf (Reg.TB_STAT n.val) Fld.TB_STAT_STEP_CNT + 1) % 256 ∧
         u.tg.stepped = (s.tg.stepped || decide (s.tg.base = n)) ∧ ∀ m, m ≠ n → u.tb m = s.tb m) ∧
     (∀ v : Word, ∃ u, exec (.tb3TrimWrite t src v) s = .next u ∧
       u.tb3.rate = max (-219902325) (min 219902325 (toSigned 32 v.toNat)) ∧ u.tb3.count = s.tb3.exact (max s.now t) ∧
       u.reg Reg.TB3_TRIM = BitVec.ofNat 32 (ofSigned 32 u.tb3.rate) ∧ u.reg (Reg.TB_RATE 3) = u.reg Reg.TB3_TRIM ∧
       onlyRegs [Reg.TB3_TRIM, Reg.TB_RATE 3] { s.beginAt t with tb3 := u.tb3 } u)) ∧
  (∀ (s : State) (t : Nat), s.tidy = true → s.tbMode 2 ≠ 1 →
     (∀ hh mm ss ff : Byte, s.rf Reg.TB2_LTC_CTL Fld.TB2_LTC_CTL_FPS ≤ 5 → ∃ u, exec (.ltcFrame t hh mm ss ff) s = .next u ∧
       u.reg Reg.TB2_LTC_TC = hh ++ mm ++ ss ++ ff ∧ onlyRegs [Reg.TB2_LTC_TC] (s.beginAt t) u) ∧
     (∀ (hz : Nat) (rate : Int), hz < 2 ^ 18 → ∃ u, exec (.wclkMeasurement t hz rate) s = .next u ∧
       u.rf Reg.TB2_WCLK Fld.TB2_WCLK_FREQ = hz ∧ (u.rb Reg.TB2_WCLK Fld.TB2_WCLK_PRESENT = true ↔ 32000 ≤ hz ∧ hz ≤ 192000) ∧
       onlyRegs [Reg.TB2_WCLK] (s.beginAt t) u))

/-! ### At the tick (chapters 1 and 2) -/

/-- R49, R50: a tick that can fall takes the number that follows the last, or 0 when none has fallen since the reset; TGEN_NUM shows it,
and the tick runs. No sleep sequence is under way. -/
def Obligations.TickAdvancesTheNumber : Prop :=
  ∀ s : State, s.tidy = true → s.tickArmed = true → s.dev.inReset = false → s.mainOff = false → s.pwr.sleep = none →
    let k := if s.tg.ran then (s.tg.cur.k + 1) % 2 ^ 32 else 0
    ∃ u, exec .tick s = .next u ∧ u.tg.ran = true ∧ u.tg.cur.k = k ∧ u.reg Reg.TGEN_NUM = BitVec.ofNat 32 k

/-- R44, R31: at the coming tick a swap that is due passes ACTIVE to a twin that is still STANDBY-READY, with no arbitration pending, and E7
is raised; a context reset that is due returns the semaphores and clears the flag words of the mailbox, but not its data, raises E24 and is
no longer pending. No sleep sequence and no restart in place is under way. What has not been commanded before the tick is made at it (the
model's choice, notes/assumptions/19.md). -/
def Obligations.SwapAndContextResetFallAtTheTick : Prop :=
  ∀ s : State, s.tidy = true → s.tickArmed = true → s.mainOff = false → s.pwr.sleep = none → s.boot.hand = none →
    (∀ (w : Twin) (host : Bool), s.swapDue = some { from_ := w, then_ := .ready, byHost := host } → s.active = some w →
      s.roleOf w.other = .ready → s.peri.arb = none → ∃ u, exec .roleSwap s = .next u ∧ u.roleOf w = .ready ∧ u.roleOf w.other = .active ∧
        u.swapDue = none ∧ u.evtPending 7 = true) ∧
    (s.dev.ctxPend = true → s.inNap = false → ∃ u, exec .contextReset s = .next u ∧ u.dev.ctxPend = false ∧ u.evtPending 24 = true ∧
      (∀ n, n < 32 → u.reg (Reg.RZP_SEM n) = resetWord (Reg.RZP_SEM n)) ∧
      (∀ a, 0x0100FF00 ≤ a → a < 0x01010000 → u.rdB a = 0) ∧ (∀ a, 0x01000000 ≤ a → a < 0x0100FF00 → u.rdB a = s.rdB a))

/-! ### The frame (chapter 2) -/

/-- R52, R60, R62: what a twin computes of the newest frame before its deadline is recorded in the frame's account: a stripe that
completes in the order of the stripes (R191), the patch, a slice with the instant at which it is complete; at the deadline the account of every computing twin closes. -/
def Obligations.FrameAccountsFollowTheCompute : Prop :=
  ∀ s : State, s.tidy = true →
    (∀ (t : Nat) (w : Twin) (f : FrameAcct), s.computing w = some f → max s.now t < s.deadlineRaw →
      (∀ i, i < s.stripeCount w → i = f.stripes.length → ∃ u, exec (.stripeComplete t w i) s = .next u ∧
        (u.frame w f.k).map (·.stripes) = some (i :: f.stripes) ∧ u.tw w.other = s.tw w.other ∧ u.mem = s.mem ∧ u.role = s.role) ∧
      (f.patched = none → ∃ u, exec (.patchDone t w) s = .next u ∧ (u.frame w f.k).map (·.patched) = some (some (max s.now t)) ∧
        u.tw w.other = s.tw w.other ∧ u.regs = s.regs ∧ u.mem = s.mem) ∧
      (∀ key, s.sliceDue w f (sliceKeyNat key) = true → ∃ u x, exec (.sliceReady t w key) s = .next u ∧
        u.sliceOf w f.k (sliceKeyNat key) = some x ∧ x.key = sliceKeyNat key ∧ x.done = max s.now t ∧ u.role = s.role)) ∧
    (s.tg.ran = true → s.tg.dlDone = false → ∃ u, exec .computeDeadline s = .next u ∧ u.tg.dlDone = true ∧
      u.now = max s.now s.deadlineRaw ∧ u.role = s.role ∧ u.tg.cur = s.tg.cur ∧
      ∀ w f, s.computes w = true → s.frame w s.tg.cur.k = some f → (u.frame w s.tg.cur.k).map (·.closed) = some true)

/-- R63, R64: at S a slice that waits for its emission is decided in the account of its frame in every computing twin. R51, R39: the
Soredium latch that is due falls at tick k+1 + LATCH_OFS when no stream has been shifted and no arbitration is pending, its stamp is in
TGEN_LATCH_TS, and the hold after a reset ends. R72: the record of a frame whose latch has fallen begins with its number in the ring, and
TICK_FR_NEWEST names it. -/
def Obligations.EmissionLatchAndRecord : Prop :=
  ∀ s : State, s.tidy = true →
    (∀ key k start, s.emitDue (sliceKeyNat key) = some (k, start) → s.latchDue = none ∨ s.latchDue = some k →
      (∀ (w : Twin) (e : Fin 16384), key = .univ e → s.outDest w e.val ≠ 2 ∧ (s.tw w).oldEnts = []) →
      ∃ u, exec (.emissionStart key) s = .next u ∧ start ≤ u.now ∧ u.role = s.role ∧
        ∀ w f, s.computes w = true → s.frame w k = some f → ∃ g, u.frame w k = some g ∧ sliceKeyNat key ∈ g.settled) ∧
    (∀ k, s.latchDue = some k → s.boot.hand = none → ∃ u, exec .sorediumLatch s = .next u ∧ u.tg.latchK = (k + 1) % 2 ^ 32 ∧
      u.dev.resetHold = false ∧ u.tg.cur.k = s.tg.cur.k ∧ u.role = s.role ∧
      (s.peri.arb = none → s.peri.shifts = [] → u.now = max s.now s.latchInstant ∧
        u.rd64 Reg.TGEN_LATCH_TS = stampOf s.tg.base ((s.tb s.tg.base).ns s.latchInstant) ∧
        u.rb Reg.PERI_STAT Fld.PERI_STAT_DEFERRED = false)) ∧
    (∀ w f, s.computes w = true → (s.tw w).frames.find? (fun f => f.latchRaw.isSome) = some f →
      ∃ u, exec (.frameRecord w) s = .next u ∧ u.reg (Reg.TICK_FR_NEWEST w) = BitVec.ofNat 32 f.k ∧
        u.rdLE (w.base + 0x11000 + f.k % 256 * 64) 4 = f.k % 2 ^ 32 ∧ u.frame w f.k = none ∧ u.role = s.role)

/-! ### The Rejor image (chapter 4) -/

/-- R121, R56, R94: steps 5 and 6 of a load from reset: the slot that was loaded and its image are shown, the part enters RUN or DIM, and
tick 0 may fall from 1 ms later on. That this command stands for steps 5 and 6 is the model's choice (notes/assumptions/14.md). -/
def Obligations.LoadedImageArmsTheTick : Prop :=
  ∀ (s : State) (t : Nat) (w : Twin), s.tidy = true → s.active = some w → s.dev.inReset = false → s.pwr.saved = none →
    s.rf Reg.REJ_LOAD_STAT Fld.REJ_LOAD_STAT_SRC = 3 → ∃ u, exec (.rejLoaded t) s = .next u ∧
      u.rf Reg.REJ_LOAD_STAT Fld.REJ_LOAD_STAT_SRC = s.loadedSlot ∧ u.reg Reg.REJ_LOAD_ID = s.reg (Reg.REJ_IMAGE w) ∧
      u.tg.arm = some (max s.now t + 1000000) ∧ u.tg.base = 3 ∧ u.role = s.role ∧
      (u.rf Reg.PWR_STAT Fld.PWR_STAT_STATE = 1 ∨ u.rf Reg.PWR_STAT Fld.PWR_STAT_STATE = 2)

/-- R125, R128, R129, R131: GO stages a graft in each twin that it reaches and that computes the show; the end of its check arms it, or
refuses it with its code, or drops it in a twin that has left the roles of R125; CANCEL refuses a graft in progress with code 0x17 and E250; the end of the catch-up returns the graft engine to
IDLE. -/
def Obligations.GraftStages : Prop :=
  ∀ (s : State) (t : Nat), s.tidy = true →
    (∀ (via : Via) (w : Twin), s.inNap = false → w ∈ (s.reach via).1 →
      (s.computes w = true → s.graftState w = 0 → ∃ u, exec (.graftGo t via) s = .next u ∧ u.graftState w = 1 ∧
        (u.tw w).graft.isSome = true ∧ u.role = s.role) ∧
      (s.graftState w = 1 ∨ s.graftState w = 2 → (s.tw w).graft.isSome = true → ∃ u, exec (.graftCancel t via) s = .next u ∧
        u.graftState w = 0 ∧ (u.tw w).graft = none ∧ u.rb (Reg.REJ_GRAFT_STAT w) Fld.REJ_GRAFT_STAT_REFUSED = true ∧
        u.rf (Reg.REJ_GRAFT_STAT w) Fld.REJ_GRAFT_STAT_REASON = 0x17 ∧ u.evtTwinPending w 250 = true)) ∧
    (∀ (w : Twin) (g : Graft), (s.tw w).graft = some g → s.graftState w = 1 →
      (s.computes w = false → ∃ u, exec (.graftArmed t w) s = .next u ∧ u.graftState w = 0 ∧ (u.tw w).graft = none ∧ u.role = s.role) ∧
      (s.computes w = true → g.bad = none → s.active ≠ some w ∨ s.graftBehind w = false → ∃ u, exec (.graftArmed t w) s = .next u ∧ u.graftState w = 2 ∧
        (u.tw w).graft = some { g with armedAt := some (max s.now t) } ∧ u.role = s.role) ∧
      (∀ b, s.computes w = true → g.bad = some b → ∃ u, exec (.graftArmed t w) s = .next u ∧ u.graftState w = 0 ∧ (u.tw w).graft = none ∧
        u.rf (Reg.REJ_GRAFT_STAT w) Fld.REJ_GRAFT_STAT_REASON = b.1 % 256 ∧ u.evtTwinPending w 250 = true)) ∧
    (∀ w : Twin, s.graftState w = 3 → ∃ u, exec (.graftCatchupDone t w) s = .next u ∧ u.graftState w = 0 ∧
      onlyRegs [Reg.REJ_GRAFT_STAT w] ((s.beginAt t).modTw w (fun x => { x with graft := none })) u)

/-! ### Layers, colour and curves (chapters 6, 8 and 9) -/

/-- R183, R185, R186, R189: a commit captures the shadow set of each masked layer that is not refused, for the next tick, or for the one
after when it misses the cutoff, over what was pending, and sets KEEP; LAYER_RELAY captures the slot alone. R175, R26, R181: a bulk write
stores its bytes in the DRAM of each twin that takes mirror writes, where the host reaches it, and in no other byte, unless it touches a
slot in use, when nothing of it is stored in that twin; DAMAGED bits written 1 clear, but not through a private aperture, nor one that
hardware sets in the same clock (R11). LAYER_CMT, LAYER_RELAY, BULK_WRITE and LAYER_DAMAGED_CLEAR complete. -/
def Obligations.LayersCommitAndBulkWritesSpareSlots : Prop :=
  (∀ (s : State) (t : Nat) (v : Word) (w : Twin) (l : Nat), s.tidy = true →
     (∀ via, w ∈ (s.reach via).1 → l < 16 → bitAt (getFld v Fld.LAYER_CMT_MASK) l = true → s.setRefused w l (s.shadowSet w l) = false →
       ∃ u, exec (.layerCmt t via v) s = .next u ∧ u.rb (Reg.LAYER_SLOT w l) Fld.LAYER_SLOT_KEEP = true ∧
         ((s.beginAt t).lateNow w = false → (u.layer w l).next = some (mergeSet (s.layer w l).next (s.shadowSet w l)) ∧
           (u.layer w l).after = (s.layer w l).after) ∧
         ((s.beginAt t).lateNow w = true → (u.layer w l).after = some (mergeSet (s.layer w l).after (s.shadowSet w l)) ∧
           (u.layer w l).next = (s.layer w l).next ∧ u.rb (Reg.LAYER_STAT w l) Fld.LAYER_STAT_LATE = true)) ∧
     (∀ src, s.thAllows src = true → w ∈ (s.reach .mirror).1 → l = getFld v Fld.LAYER_RELAY_LAYER →
       let c : LayerSet := { vals := none, slot := some (getFld v Fld.LAYER_RELAY_SLOT) }
       s.setRefused w l c = false → ∃ u, exec (.layerRelay t src v) s = .next u ∧
         ((s.beginAt t).lateNow w = false → (u.layer w l).next = some (mergeSet (s.layer w l).next c)) ∧
         ((s.beginAt t).lateNow w = true → (u.layer w l).after = some (mergeSet (s.layer w l).after c)))) ∧
  (∀ (s : State) (t : Nat) (off : Nat) (bytes : List Byte), s.tidy = true → off + bytes.length ≤ 0x800000000 →
     (∀ w, (s.beginAt t).hitSlots w (List.range 16) off bytes.length = []) →
     ∃ u, exec (.bulkWrite t off bytes) s = .next u ∧ u.role = s.role ∧ ∀ w : Twin, w ∈ (s.reach .mirror).1 →
       ∀ i, i < bytes.length → dramHost (off + i) = true → u.rdB (Addr.dram w (off + i)) = bytes.getD i 0) ∧
  (∀ (s : State) (t : Nat), s.tidy = true →
     (∀ (off : Nat) (bytes : List Byte), off + bytes.length ≤ 0x800000000 →
       let hit : Twin → Prop := fun w => ∃ l i, l < 16 ∧ (s.beginAt t).inUse w l = some i ∧ s.touches w l i off bytes.length = true
       ∃ u, exec (.bulkWrite t off bytes) s = .next u ∧ u.role = s.role ∧ ∀ w : Twin,
         (w ∈ (s.reach .mirror).1 → ¬ hit w → ∀ i, i < bytes.length → dramHost (off + i) = true →
           u.rdB (Addr.dram w (off + i)) = bytes.getD i 0) ∧
         (w ∈ (s.reach .mirror).1 → hit w → u.reg (Reg.LAYER_DISCARD w) = countUp (s.reg (Reg.LAYER_DISCARD w)) Fld.LAYER_DISCARD_COUNT) ∧
         (∀ x, x < 0x1000000000 → (w ∉ (s.reach .mirror).1 ∨ hit w ∨ x < off ∨ off + bytes.length ≤ x ∨ dramHost x = false) →
           u.rdB (Addr.dram w x) = s.rdB (Addr.dram w x))) ∧
     (∀ (via : Via) (w : Twin) (l m : Fin 16), w ∈ (s.reach via).1 → ∃ u, exec (.layerDamagedClear t via l m) s = .next u ∧
       (s.now < t → u.rf (Reg.LAYER_STAT w l.val) Fld.LAYER_STAT_DAMAGED =
         if throughMirror via then s.rf (Reg.LAYER_STAT w l.val) Fld.LAYER_STAT_DAMAGED &&& (15 - m.val)
         else s.rf (Reg.LAYER_STAT w l.val) Fld.LAYER_STAT_DAMAGED) ∧
       onlyRegs [Reg.LAYER_STAT .a l.val, Reg.LAYER_STAT .b l.val] (s.beginAt t) u))

/-- R231, R232, R239 to R241: COLR_CMT.GO captures the masters' shadows for the next tick, or the one after when it is late, unless the
set is refused; a forced temperature or its release waits for the zone named in COLR_ZONE_SEL; a zone whose wait ends without a report is
COLD, and one whose ramp ends is LIVE. R262, R263: where at least 5 replicas of a point agree with good parity, the scrubber leaves all eight
with their value, and counts a repair when one differed; where they do not, it flags the twin; it goes on to the next point, or to the first
at the end of a pass, which CURV_PASS counts; a lane's read of a point counts a stall for each replica, from its own on, that fails parity
before one passes, and none in a slot that is being written. -/
def Obligations.MastersZonesAndCurvesChange : Prop :=
  (∀ (s : State) (t : Nat) (w : Twin), s.tidy = true →
     (∀ via v, w ∈ (s.reach via).1 →
       (getFld v Fld.COLR_CMT_GO = 1 → s.mastersRefused w (s.masterSet w) = false → ∃ u, exec (.colrCmt t via v) s = .next u ∧
         ((s.beginAt t).lateNow w = false → (u.tw w).masters.next = some (s.masterSet w) ∧ (u.tw w).masters.after = (s.tw w).masters.after ∧
           u.rb (Reg.COLR_STAT w) Fld.COLR_STAT_PEND_NEXT = true) ∧
         ((s.beginAt t).lateNow w = true → (u.tw w).masters.after = some (s.masterSet w) ∧ (u.tw w).masters.next = (s.tw w).masters.next ∧
           u.rb (Reg.COLR_STAT w) Fld.COLR_STAT_LATE = true)) ∧
       (s.rf (Reg.COLR_ZONE_SEL w) Fld.COLR_ZONE_SEL_ZONE ∈ s.usedZones w → ∃ u, exec (.colrZoneForce t via v) s = .next u ∧
         (u.tw w).forces = (s.tw w).forces ++ [(s.rf (Reg.COLR_ZONE_SEL w) Fld.COLR_ZONE_SEL_ZONE,
           if getFld v Fld.COLR_ZONE_FORCE_FORCE = 1 then some (max (-640) (min 2000 (toSigned 16 (getFld v Fld.COLR_ZONE_FORCE_TEMP)))) else none)] ∧
         u.regs = s.regs ∧ u.mem = s.mem ∧ u.role = s.role)) ∧
     (∀ (z : Fin 4096) (x : Zone), s.zone w z.val = some x → s.tg.ran = true → x.fresh = false →
       (x.st = 0 → s.profGlobal w 0 ≤ x.ticks + 1 → s.reportDue w z.val = false → ∃ u, exec (.zoneCold w z) s = .next u ∧
         (u.zone w z.val).map (·.st) = some 3 ∧ u.now = max s.now s.nextTickRaw ∧ ∀ y, y ≠ z.val → u.zone w y = s.zone w y) ∧
       (x.st = 1 → rhoAt (x.ticks + 1) s.tg.cur.num s.tg.cur.den = 1024 → ∃ u, exec (.zoneRampEnd w z) s = .next u ∧
         (u.zone w z.val).map (fun y => (y.st, y.rho)) = some (2, 1024) ∧ u.regs = s.regs ∧ u.mem = s.mem ∧
         ∀ y, y ≠ z.val → u.zone w y = s.zone w y))) ∧
  (∀ (s : State) (t : Nat) (w : Twin), s.tidy = true →
     (s.rb (Reg.CURV_CFG w) Fld.CURV_CFG_SCRUB_EN = true → ∀ pos, s.nextScrub w (s.tw w).curves.pos = some pos → ∀ bad : List Upset,
       let c := pos / 1024
       let i := pos % 1024
       let v := upsetPoint w c i bad s
       ∃ u, exec (.curvScrub t w bad) s = .next u ∧
         (u.tw w).curves.pos = (if s.nextScrub w (pos + 1) = none then 0 else pos + 1) ∧
         u.reg (Reg.CURV_PASS w) = s.reg (Reg.CURV_PASS w) + (if s.nextScrub w (pos + 1) = none then 1 else 0) ∧
         (∀ m, v.majority w c i = some m →
           u.reg (Reg.CURV_SCRUB w) = (if (v.replicas w c i).all (fun r => decide (r = (m, true))) then s.reg (Reg.CURV_SCRUB w)
             else countUp (s.reg (Reg.CURV_SCRUB w)) Fld.CURV_SCRUB_REPAIRS) ∧
           (m < 2 ^ 20 → ∀ l, l < 8 → u.replica w c i l = (m, true))) ∧
         (v.majority w c i = none → u.reg (Reg.CURV_SCRUB w) = s.reg (Reg.CURV_SCRUB w) ∧
           (s.roleOf w ≠ .off → s.roleOf w ≠ .isolated →
             bitAt (u.reg (if w = .a then Reg.PERI_HEALTH_A else Reg.PERI_HEALTH_B)).toNat 2 = true) ∧
           ∀ l, l < 8 → u.replica w c i l = v.replica w c i l) ∧ u.tw w.other = s.tw w.other) ∧
     (∀ (slot : Fin 256) (pt : LaneRead),
       (slot.val ∈ (s.tw w).curves.writing → exec (.curvParityRetry t w slot pt) s = .next (s.beginAt t)) ∧
       (slot.val ∉ (s.tw w).curves.writing → ∃ u, exec (.curvParityRetry t w slot pt) s = .next u ∧
         let v := upsetPoint w slot.val pt.point.val pt.upsets (s.beginAt t)
         u.rf (Reg.CURV_SCRUB w) Fld.CURV_SCRUB_STALLS = min (s.rf (Reg.CURV_SCRUB w) Fld.CURV_SCRUB_STALLS + v.laneHolds w slot.val pt.point.val pt.lane.val)
           (2 ^ (Fld.CURV_SCRUB_STALLS.hi - Fld.CURV_SCRUB_STALLS.lo + 1) - 1) ∧
         onlyRegs [Reg.CURV_SCRUB w] v u)))

/-! ### Network ports (chapter 5) -/

/-- R134, R149: a port whose link comes up shows LINK_UP, CHG and block lock, raises E40 and schedules the state of its groups, twice, 1 s
apart, for IPv4 and IPv6; a link that goes down, by loss of block lock or HI_BER, shows CHG, raises E40, and every queued frame leaves its
transmit ring. Only registers of that port and its descriptors change. R140, R149, R161: a receive slot given back leaves the pool; a
write of TX_TAIL on an open link moves TAIL alone, on a closed one every queued frame is discarded; the MAC that is done with the frame at
HEAD writes its STATUS and advances HEAD, and a frame that was sent is counted and leaves the part from the ACTIVE twin with its FCS; where
no report of the port was due before it (R160), nothing else is counted. A membership report that is due is taken from the list, and leaves
on an open link, from the port's address and with Router Alert. -/
def Obligations.NetworkLinksAndTransmitRings : Prop :=
  (∀ (s : State) (t : Nat) (n : Fin 4) (w : Twin), s.tidy = true → s.roleOf w ≠ .off →
     let ring : Nat → Bool := fun x => twins.any (fun y => decide (txDesc y n 0 ≤ x ∧ x < txDesc y n 0 + 0x10000))
     (s.netMode w n ≠ 0 → s.rb (Reg.NET_LINK w n) Fld.NET_LINK_LINK_UP = false → ∃ u, exec (.netLinkUp t n) s = .next u ∧
       u.rb (Reg.NET_LINK w n) Fld.NET_LINK_LINK_UP = true ∧ u.rb (Reg.NET_LINK w n) Fld.NET_LINK_CHG = true ∧
       u.rb (Reg.NET_LINK w n) Fld.NET_LINK_BLOCK_LOCK = true ∧ u.rb (Reg.NET_LINK w n) Fld.NET_LINK_HI_BER = false ∧
       u.evtTwinPending w 40 = true ∧
       (u.tw w).net.reports = (s.tw w).net.reports ++
         [⟨n, max s.now t, false, false, none⟩, ⟨n, max s.now t + 1000000000, false, false, none⟩,
           ⟨n, max s.now t, true, false, none⟩, ⟨n, max s.now t + 1000000000, true, false, none⟩] ∧
       framed (netReg n) nowhere (s.beginAt t) u) ∧
     (∀ hiBer, s.rb (Reg.NET_LINK w n) Fld.NET_LINK_LINK_UP = true → ∃ u, exec (.netLinkDown t n hiBer) s = .next u ∧
       u.rb (Reg.NET_LINK w n) Fld.NET_LINK_LINK_UP = false ∧ u.rb (Reg.NET_LINK w n) Fld.NET_LINK_CHG = true ∧
       (hiBer = true → u.rb (Reg.NET_LINK w n) Fld.NET_LINK_HI_BER = true) ∧
       (hiBer = false → u.rb (Reg.NET_LINK w n) Fld.NET_LINK_BLOCK_LOCK = false) ∧ u.evtTwinPending w 40 = true ∧
       u.rf (Reg.NET_TX_HEAD w n) Fld.NET_TX_HEAD_HEAD = s.rf (Reg.NET_TX_TAIL w n) Fld.NET_TX_TAIL_TAIL ∧
       framed (netReg n) ring (s.beginAt t) u)) ∧
  (∀ (s : State) (t : Nat) (w : Twin) (n : Fin 4), s.tidy = true →
     let ring : Nat → Bool := fun x => twins.any (fun y => decide (txDesc y n 0 ≤ x ∧ x < txDesc y n 0 + 0x10000))
     (∀ via slot, w ∈ (s.reach via).1 → ∃ u, exec (.netRxfree t via slot) s = .next u ∧
       (u.tw w) = { s.tw w with net := { (s.tw w).net with pool := (s.tw w).net.pool.filter (fun i => i ≠ slot) } } ∧
       u = { s.beginAt t with a := u.a, b := u.b }) ∧
     (∀ via v, w ∈ (s.reach via).1 → ∃ u, exec (.netTxTail t via n v) s = .next u ∧
       u.rf (Reg.NET_TX_TAIL w n) Fld.NET_TX_TAIL_TAIL = getFld v Fld.NET_TX_TAIL_TAIL ∧
       (s.rb (Reg.NET_LINK w n) Fld.NET_LINK_LINK_UP = true → u.reg (Reg.NET_TX_HEAD w n) = s.reg (Reg.NET_TX_HEAD w n)) ∧
       (s.rb (Reg.NET_LINK w n) Fld.NET_LINK_LINK_UP = false →
         u.rf (Reg.NET_TX_HEAD w n) Fld.NET_TX_HEAD_HEAD = getFld v Fld.NET_TX_TAIL_TAIL) ∧
       onlyAt [Reg.NET_TX_TAIL .a n, Reg.NET_TX_TAIL .b n, Reg.NET_TX_HEAD .a n, Reg.NET_TX_HEAD .b n] ring (s.beginAt t) u) ∧
     (let h := s.rf (Reg.NET_TX_HEAD w n) Fld.NET_TX_HEAD_HEAD
      let d := txDesc w n h
      let len := s.rdLE (d + 4) 2
      let idle : Prop := ∀ y : Twin, ∀ r ∈ (s.tw y).net.reports, r.port = n.val → max s.now t ≤ r.due
      s.netStopped = false → s.takesMirror w = true → h ≠ s.rf (Reg.NET_TX_TAIL w n) Fld.NET_TX_TAIL_TAIL →
       ∃ u, exec (.netTxDone t n) s = .next u ∧ u.rf (Reg.NET_TX_HEAD w n) Fld.NET_TX_HEAD_HEAD = (h + 1) % 4096 ∧
         (len < 60 ∨ s.netMaxLen w n < len + 4 → u.rdB (d + 7) = 1) ∧
         (60 ≤ len → len + 4 ≤ s.netMaxLen w n → s.rb (Reg.NET_LINK w n) Fld.NET_LINK_LINK_UP = false → u.rdB (d + 7) = 2) ∧
         (60 ≤ len → len + 4 ≤ s.netMaxLen w n → s.rb (Reg.NET_LINK w n) Fld.NET_LINK_LINK_UP = true → u.rdB (d + 7) = 0 ∧
           (idle → u.reg (Reg.NET_TX_FRAMES w n) = countUp (s.reg (Reg.NET_TX_FRAMES w n)) Fld.NET_TX_FRAMES_COUNT) ∧
           (s.active = some w → .net n (withFcs (s.rdBytes (Addr.dram w (netRegion + s.rdLE d 4 % 0x8000000)) len)) ∈ u.out)) ∧
         (idle → u.a = s.a ∧ u.b = s.b) ∧ framed (netReg n) ring (s.beginAt t) u) ∧
     (∀ r rest, ((s.tw w).net.reports.filter (fun r => decide (r.port = n.val) && decide (r.due ≤ max s.now t))) = r :: rest →
       ∃ u, exec (.joinReport t w n) s = .next u ∧ (u.tw w).net.reports = (s.tw w).net.reports.erase r ∧
         (s.rb (Reg.NET_LINK w n) Fld.NET_LINK_LINK_UP = false → u.regs = s.regs ∧ u.out = []) ∧
         (∀ x, r.records = some [x] → x.group.length = (if r.v6 then 16 else 4) →
           Smap.get 0 (s.tw w).net.older (2 * n.val + (if r.v6 then 1 else 0)) ≤ max s.now t →
           s.rb (Reg.NET_LINK w n) Fld.NET_LINK_LINK_UP = true →
           u.reg (Reg.NET_TX_FRAMES w n) = countUp (s.reg (Reg.NET_TX_FRAMES w n)) Fld.NET_TX_FRAMES_COUNT ∧
           (s.active = some w → u.out = [.report n r.v6 (if r.v6 then 2 else 3) (s.reportSource w n r.v6) true [(x.typ, x.group, x.srcs)]])) ∧
         onlyRegs [Reg.NET_TX_FRAMES w n, Reg.NET_TX_BYTES w n, Reg.NET_TX_BYTES w n + 4]
           ({ s.beginAt t with out := u.out }.modNet w (fun x => { x with reports := x.reports.erase r })) u))

/-- R19, R135 to R138, R142 to R146: a frame received on an open link, in each twin whose clocks run. One under 64 bytes, one with a bad FCS, one with two tags and a PAUSE are
counted and nothing else happens; a sACN data packet of the first source of a universe without synchronisation is counted and becomes the
universe's fill copy, with the frozen copy and every other universe as before. A port that is stopped takes nothing. The places of the
fields in a frame are those of the standards that the spec names (PRESUMED, notes/assumptions/23.md). -/
def Obligations.ReceivedFrameIsClassified : Prop :=
  ∀ (s : State) (t t0 : Nat) (n : Fin 4) (good : Bool) (bytes : List Byte), s.tidy = true →
    (s.netStopped = true → exec (.netRxFrame t t0 n good bytes) s = .next (s.beginAt t)) ∧
    (∀ w : Twin, s.netStopped = false → s.roleOf w ≠ .off → s.netMode w n ≠ 0 →
      s.rb (Reg.NET_LINK w n) Fld.NET_LINK_LINK_UP = true →
      (bytes.length < 64 → ∃ u, exec (.netRxFrame t t0 n good bytes) s = .next u ∧
        u.reg (Reg.NET_RX_ERR w n) = countUp (s.reg (Reg.NET_RX_ERR w n)) Fld.NET_RX_ERR_RUNT ∧
        onlyRegs [Reg.NET_RX_ERR .a n, Reg.NET_RX_ERR .b n] (s.beginAt t) u) ∧
      (64 ≤ bytes.length → good = false → ∃ u, exec (.netRxFrame t t0 n good bytes) s = .next u ∧
        u.reg (Reg.NET_RX_ERR w n) = countUp (s.reg (Reg.NET_RX_ERR w n)) Fld.NET_RX_ERR_FCS ∧
        onlyRegs [Reg.NET_RX_ERR .a n, Reg.NET_RX_ERR .b n] (s.beginAt t) u) ∧
      (64 ≤ bytes.length → good = true → 2 ≤ (parse bytes).tags → ∃ u, exec (.netRxFrame t t0 n good bytes) s = .next u ∧
        u.reg (Reg.NET_RX_DROP w n) = countUp (s.reg (Reg.NET_RX_DROP w n)) Fld.NET_RX_DROP_FILTERED ∧
        onlyRegs [Reg.NET_RX_DROP .a n, Reg.NET_RX_DROP .b n] (s.beginAt t) u) ∧
      (64 ≤ bytes.length → good = true → (parse bytes).tags < 2 → (parse bytes).etype = 0x8808 →
        ∃ u, exec (.netRxFrame t t0 n good bytes) s = .next u ∧
        u.reg (Reg.NET_RX_MISC w n) = countUp (s.reg (Reg.NET_RX_MISC w n)) Fld.NET_RX_MISC_PAUSE ∧
        onlyRegs [Reg.NET_RX_MISC .a n, Reg.NET_RX_MISC .b n] (s.beginAt t) u) ∧
      (let b := slice bytes ((parse bytes).body + 8) (beAt bytes ((parse bytes).body + 4) 2 - 8)
       ∀ e, s.roleOf w.other = .off → 64 ≤ bytes.length → good = true → (parse bytes).tags < 2 → (parse bytes).etype ≠ 0x8808 →
        s.macPasses w n bytes = true → bytes.length ≤ s.netMaxLen w n → s.classify w n bytes = .sacn → sacnKind b = .data →
        (s.usedEntries w 5 1).find? (fun e => decide (s.ent w 5 1 e 0 2 = beAt b 113 2) && bitAt (s.ent w 5 1 e 2 1) n) = some e →
        bitAt (byteAt b 112) 7 = false → bitAt (byteAt b 112) 6 = false → bitAt (s.ent w 5 1 e 3 1) 1 = false →
        (s.univ w e).srcs = [] → ∃ u, exec (.netRxFrame t t0 n good bytes) s = .next u ∧
        u.reg (Reg.NET_RX_FRAMES w n) = countUp (s.reg (Reg.NET_RX_FRAMES w n)) Fld.NET_RX_FRAMES_COUNT ∧
        u.rd64 (Reg.NET_RX_BYTES w n) = (s.rd64 (Reg.NET_RX_BYTES w n) + bytes.length) % 2 ^ 64 ∧
        (u.univ w e).fill = slice b 126 (beAt b 123 2 - 1) ∧ (u.univ w e).frozen = (s.univ w e).frozen ∧
        (u.univ w e).srcs.map (fun x => (x.cid, x.prio)) = [(beAt b 22 16, byteAt b 108)] ∧ (∀ o, o ≠ e → u.univ w o = s.univ w o) ∧
        onlyRegs [Reg.NET_RX_FRAMES w n, Reg.NET_RX_BYTES w n, Reg.NET_RX_BYTES w n + 4] ((s.beginAt t).setUniv w e (u.univ w e)) u))

/-- R147, R152, R159: after SACN_SRC_LOSS no source remains that has sent nothing for 2,500 ms of TB3, and a universe whose last source
left is lost, keeps its values and counts for the E43 that the end of the tick interval raises with their number
(notes/assumptions/45.md); a universe whose pending copy has waited 2,500 ms for synchronisation is marked and raises
E45; a flow that has completed no frame for 1,000 ms is in LOSS and raises E47. -/
def Obligations.LossesAreMarked : Prop :=
  ∀ (s : State) (t : Nat) (w : Twin), s.tidy = true →
    let now := (s.beginAt t).tbNow 3
    (Smap.wf (fun _ => Univ.empty) (s.tw w).net.univ = true →
      (∃ u, exec (.sacnSrcLoss t w) s = .next u ∧ (∀ e y, y ∈ (u.univ w e).srcs → now < y.heard + sacnTimeout) ∧
        (∀ e, (s.univ w e).srcs ≠ [] → (∀ y ∈ (s.univ w e).srcs, y.heard + sacnTimeout ≤ now) →
          (u.univ w e).lost = true ∧ (u.univ w e).fill = (s.univ w e).fill ∧ (s.tw w).net.lost < (u.tw w).net.lost) ∧
        u = { s.beginAt t with a := u.a, b := u.b } ∧ u.tw w.other = s.tw w.other) ∧
      ((s.tw w).net.lost ≠ 0 → (lostEvent w s).evtTwinPending w 43 = true ∧ ((lostEvent w s).tw w).net.lost = 0) ∧
      (∃ u, exec (.sacnSyncLoss t w) s = .next u ∧
        (∀ e y p, y ∈ (s.univ w e).srcs → y.pend = some p → p.since + sacnTimeout ≤ now → (u.univ w e).syncLost = true) ∧
        (∀ e y p, y ∈ (s.univ w e).srcs → y.pend = some p → p.since + sacnTimeout ≤ now → (s.univ w e).syncLost = false →
          (s.tw w).marked 45 = false → u.evtTwinPending w 45 = true) ∧
        framed nowhere nowhere (s.beginAt t) u)) ∧
    (∀ f : Fin 8, s.flowOn w f = true → (s.flow w f).st = 2 → (s.flow w f).doneAt + 1000000000 ≤ now →
      ∃ u, exec (.stFlowLoss t w f) s = .next u ∧ (u.flow w f).st = 3 ∧ u.evtTwinPending w 47 = true ∧
        eventsOnly ((s.beginAt t).setFlow w f { s.flow w f with st := 3 }) u)

/-! ### Proren ports (chapter 10) -/

/-- R280, R289, R294: STRD_CTL.ENUM asks for an enumeration of a Proren port and STRD_CTL.FULL forces its next frame full, and nothing
else changes; an enumeration that is asked for starts at the coming tick, or at once while no tick runs: the port sends WAKE, unless the
Peristome releases nothing to strand ports (R42), is in RESET and waits for COUNT replies with no node known. -/
def Obligations.EnumerationIsRequestedAndStarts : Prop :=
  ∀ (s : State) (t : Nat) (w : Twin) (p : Fin 128), s.tidy = true → s.personality w p = 1 →
    (∀ via, w ∈ (s.reach via).1 →
      (∃ u, exec (.strdEnum t via p) s = .next u ∧ u.strand w p = { s.strand w p with enumReq := true } ∧
        u = { s.beginAt t with a := u.a, b := u.b }) ∧
      (∃ u, exec (.strdFull t via p) s = .next u ∧ u = { s.beginAt t with fullDue := s.fullDue ||| BitVec.ofNat 128 (2 ^ p.val) })) ∧
    ((s.strand w p).enumReq = true → s.roleOf w ≠ .off → ∃ u, exec (.prnEnum p) s = .next u ∧ u.prnState w p = 1 ∧
      u.rb (Reg.STRD_PSTAT w p) Fld.STRD_PSTAT_ENUM_FAULT = false ∧ (u.strand w p).nodes = [] ∧ (u.strand w p).enumReq = false ∧
      (u.strand w p).run.map (fun r => (r.step, r.counts, r.nodes)) = some (3, [], []) ∧
      u.now = (if s.tg.ran then max s.now s.nextTickRaw else s.now) ∧ (s.active = some w → s.portShut = false → .wake p u.now (s.dev.rd.getLsbD p) ∈ u.out) ∧
      (s.portShut = true → u.out = []) ∧
      onlyRegs [Reg.STRD_PSTAT .a p, Reg.STRD_PSTAT .b p] ({ s with now := u.now, a := u.a, b := u.b }.withLine u) u)

/-- R289, R290: a COUNT reply is kept; the end of the wait assigns the addresses of a bus without hub and asks for the first ECHO, or goes
on to configuration when nothing answered; the ECHO of the address asked for adds its node, and one that stays away puts the enumeration
in fault; its end, when the CFG packets have left, puts the port in RUNNING with its nodes, forces its next frame full and raises E59
unless a fault was found. A reply outside its wait changes nothing of the port's enumeration. -/
def Obligations.EnumerationTakesReplies : Prop :=
  ∀ (s : State) (t : Nat) (w : Twin) (p : Fin 128) (r : EnumRun), s.tidy = true → s.roleOf w ≠ .off → (s.strand w p).run = some r →
    (∀ bytes : List Byte, bytes.length = 16 → byteAt bytes 0 = 0x81 →
      (r.step = 3 → byteAt bytes 1 = 1 → r.at_ ≤ max s.now t → max s.now t ≤ r.at_ + 5000000 → ∃ u, exec (.enumReply t p bytes) s = .next u ∧
        (u.strand w p).run.map (·.counts) = some (r.counts.filter (fun c => c.1 ≠ (if s.prnHub w p then byteAt bytes 6 else 0)) ++
          [(if s.prnHub w p then byteAt bytes 6 else 0, beAt bytes 4 2)]) ∧ framed (portReg p) nowhere ((s.beginAt t).withLine u) u) ∧
      (∀ a start rest, r.step = 6 → byteAt bytes 1 = 3 → r.todo = (a, start) :: rest → beAt bytes 2 2 = a → r.at_ ≤ max s.now t →
        max s.now t ≤ r.at_ + 50000 →
        ∃ u, exec (.enumReply t p bytes) s = .next u ∧
          (u.strand w p).run.map (fun x => (x.step, x.todo, x.nodes.length, x.nodes.getLast?.map (·.addr))) =
            some (if rest = [] then 7 else 6, rest, r.nodes.length + 1, some a) ∧
          u.prnState w p = (if rest = [] then 3 else s.prnState w p) ∧ framed (portReg p) nowhere ((s.beginAt t).withLine u) u) ∧
      (max s.now t < r.at_ ∨ r.at_ + 5000000 < max s.now t → ∃ u, exec (.enumReply t p bytes) s = .next u ∧ u.strand w p = s.strand w p)) ∧
    (r.step = 3 → r.counts = [] → ∃ u, exec (.enumCountWaitEnd p) s = .next u ∧ u.prnState w p = 3 ∧ r.at_ + 5000000 ≤ u.now ∧
      (u.strand w p).run.map (fun x => (x.step, x.todo)) = some (7, []) ∧ framed (portReg p) nowhere ({ s with now := u.now }.withLine u) u) ∧
    (∀ b hop, r.step = 3 → r.counts = [(b, hop)] → s.prnHub w p = false → hop + 1 ≤ 1024 →
      ∃ u, exec (.enumCountWaitEnd p) s = .next u ∧ u.prnState w p = 2 ∧ r.at_ + 5000000 ≤ u.now ∧
        (u.strand w p).run.map (fun x => (x.step, x.todo, x.fault)) = some (6, (List.range (hop + 1)).map (fun i => (i, 0)),
          r.fault || decide (s.prnNodes w p ≠ 0 ∧ s.prnNodes w p ≠ hop + 1)) ∧ framed (portReg p) nowhere ({ s with now := u.now }.withLine u) u) ∧
    (r.step = 6 → ∃ u, exec (.enumEchoTimeout p) s = .next u ∧ r.at_ + 50000 ≤ u.now ∧
      (u.strand w p).run.map (fun x => (x.step, x.todo, x.fault)) = some (if r.todo.drop 1 = [] then 7 else 6, r.todo.drop 1, true) ∧
      (r.fault = false → u.rb (Reg.STRD_PSTAT w p) Fld.STRD_PSTAT_ENUM_FAULT = true) ∧ framed (portReg p) nowhere ({ s with now := u.now }.withLine u) u) ∧
    (max s.now t < r.at_ → ∃ u, exec (.prnEnumDone t p) s = .next u ∧ u.strand w p = s.strand w p ∧ u.prnState w p = s.prnState w p) ∧
    (r.step = 7 → r.at_ ≤ max s.now t → Smap.wf (fun _ => Strand.reset) (s.tw w).strands = true → ∃ u, exec (.prnEnumDone t p) s = .next u ∧
      u.prnState w p = 4 ∧ (u.strand w p).run = none ∧ (u.strand w p).nodes = r.nodes ∧ u.fullDue.getLsbD p = true ∧
      (r.nodes.length ≤ 4096 → u.rf (Reg.STRD_NODES w p) Fld.STRD_NODES_COUNT = r.nodes.length) ∧
      (r.fault = false → s.rb (Reg.STRD_EVT_CTL w p) Fld.STRD_EVT_CTL_DONE_EN = true → u.evtTwinPending w 59 = true) ∧
      framed (portReg p) nowhere { s.beginAt t with fullDue := u.fullDue } u)

/-- R269, R286 to R288: a good STATUS of the node that owns its slot gives that node its measured delays, clears its failures, waits for
the first tick after its end, and forces the port's next frame full when it reports a loss; one of the wrong form, a slot that stays empty and a discarded
packet are counted; a node that fails a third time in a row is LOST. -/
def Obligations.UpstreamSlotsAreJudged : Prop :=
  ∀ (s : State) (t : Nat) (w : Twin) (p : Fin 128), s.tidy = true → s.roleOf w ≠ .off →
    (∀ pl slot addr (bytes : List Byte), (s.strand w p).poll = some pl → pl.owner slot = some addr →
      (bytes.length = 24 → byteAt bytes 0 = 0x85 → beAt bytes 2 2 = addr → s.slotAtPoll w p pl slot ≤ max s.now t →
        max s.now t + 30 * s.upChar w p ≤ s.slotAtPoll w p pl slot + s.slotTime w p →
        ∃ u, exec (.prnStatus t p slot bytes) s = .next u ∧
          let e : Int := (max s.now t : Nat) - (s.slotAtPoll w p pl slot + 400 : Nat)
          (u.strand w p).nodes = (s.strand w p).nodes.map (fun n => if n.addr = addr then
            { n with rt := n.rt + e, d := (n.rt + e - n.sig) / 2, u := n.rt + e - (n.rt + e - n.sig) / 2, fails := 0, lost := false } else n) ∧
          (u.tw w).hlth.statuses = (s.tw w).hlth.statuses ++ [(max s.now t + 30 * s.upChar w p, p.val, bytes)] ∧
          (bitAt (byteAt bytes 1) 0 = true ∨ bitAt (byteAt bytes 1) 1 = true ∨ bitAt (byteAt bytes 1) 5 = true → u.fullDue.getLsbD p = true) ∧
          framed (portReg p) nowhere { s.beginAt t with fullDue := u.fullDue } u) ∧
      (bytes.length ≠ 24 → ∃ u, exec (.prnStatus t p slot bytes) s = .next u ∧
        u.reg (Reg.STRD_UP_ERR w p) = countUp (countUp (s.reg (Reg.STRD_UP_ERR w p)) Fld.STRD_UP_ERR_DISCARD) Fld.STRD_UP_ERR_SLOT_MISS ∧
        framed (portReg p) nowhere (s.beginAt t) u) ∧
      (∃ u, exec (.prnSlotMiss t p slot) s = .next u ∧
        u.reg (Reg.STRD_UP_ERR w p) = countUp (s.reg (Reg.STRD_UP_ERR w p)) Fld.STRD_UP_ERR_SLOT_MISS ∧
        framed (portReg p) nowhere (s.beginAt t) u ∧
        ∀ n, (s.strand w p).nodes.find? (fun n => n.addr = addr) = some n →
          (u.strand w p).nodes = (s.strand w p).nodes.map (fun m => if m.addr = addr then { m with fails := m.fails + 1, lost := decide (3 ≤ n.fails + 1) } else m) ∧
          (3 ≤ n.fails + 1 → n.lost = false → addr < 4096 → u.rf (Reg.STRD_POLL w p) Fld.STRD_POLL_LOST_NODE = addr ∧
            (s.rb (Reg.STRD_EVT_CTL w p) Fld.STRD_EVT_CTL_LOST_EN = true → (s.tw w).once.seen.contains (61, p.val) = false →
              u.evtTwinPending w 61 = true)))) ∧
    (s.personality w p = 1 → ∃ u, exec (.prnUpErr t p) s = .next u ∧
      u.reg (Reg.STRD_UP_ERR w p) = countUp (s.reg (Reg.STRD_UP_ERR w p)) Fld.STRD_UP_ERR_DISCARD ∧
      (s.rb (Reg.STRD_EVT_CTL w p) Fld.STRD_EVT_CTL_UPERR_EN = true → (s.tw w).once.seen.contains (63, p.val) = false →
        u.evtTwinPending w 63 = true) ∧ framed (portReg p) nowhere (s.beginAt t) u)

/-- R281, R289, R294, R349: a port whose upstream lock is lost keeps its state; a lock that returns after 10 ms or more starts an
enumeration where ENUM_AUTO is set, and so does a WAKE from a node in RUN or DIM, which raises E62; the keepalive generator sends HOLD
packets with GEN = 1 on the ports that the Thallus drives, and nothing else: at once on a port that it begins to drive, and 1.000 ms after the
one before on its port; a Proren port that no twin serves is one of them from then on, and after a forced swap a missing stream parks every
strand port in HOLD (R44). -/
def Obligations.LockWakeAndKeepalive : Prop :=
  ∀ (s : State) (t : Nat) (w : Twin) (p : Fin 128), s.tidy = true →
    (s.roleOf w ≠ .off → s.personality w p = 1 →
      (∃ u, exec (.prnUpLockLoss t p) s = .next u ∧ u.rb (Reg.STRD_PSTAT w p) Fld.STRD_PSTAT_UP_LOCK = false ∧
        u.prnState w p = s.prnState w p ∧ (u.strand w p).lockLost = some (max s.now t) ∧
        onlyRegs [Reg.STRD_PSTAT .a p, Reg.STRD_PSTAT .b p] { s.beginAt t with a := u.a, b := u.b } u) ∧
      (∃ u, exec (.prnUpLock t p) s = .next u ∧ u.rb (Reg.STRD_PSTAT w p) Fld.STRD_PSTAT_UP_LOCK = true ∧
        (∀ a, (s.strand w p).lockLost = some a → a + 10000000 ≤ max s.now t → s.prnAuto w p = true → u.prnState w p = 1) ∧
        (s.prnAuto w p = false → u.prnState w p = s.prnState w p) ∧
        onlyRegs [Reg.STRD_PSTAT .a p, Reg.STRD_PSTAT .b p] ({ s.beginAt t with a := u.a, b := u.b }.withLine u) u) ∧
      (s.mainOff = false → s.powerState ≠ 3 → ∃ u, exec (.prnNodeWake t p) s = .next u ∧
        (s.rb (Reg.STRD_EVT_CTL w p) Fld.STRD_EVT_CTL_WAKE_EN = true → u.evtTwinPending w 62 = true) ∧
        (s.prnAuto w p = true → u.prnState w p = 1) ∧ (s.prnAuto w p = false → u.prnState w p = s.prnState w p) ∧
        framed (portReg p) nowhere ((s.beginAt t).withLine u) u)) ∧
    (∃ u, exec .holdKeepalive s = .next u ∧ u = { s with now := u.now, clock := u.clock }.withLine u ∧ u.holdsSent ∧
      let v := syncGen s.begin
      (v.out ≠ [] → u = v) ∧
      (v.out = [] → ∀ e ∈ v.dev.gen, (∀ d ∈ v.dev.gen, e.2.1 ≤ d.2.1) → u.now = max s.now (e.2.1 + 1000000) ∧
        ∃ at_ plus, Out.strand e.1 at_ plus (withCrc (holdPkt u.safeOn true)) ∈ u.out)) ∧
    (s.peri.forced = false → s.personality (s.active.getD .a) p = 1 → s.peri.keepalive.contains p.val = false →
      ∃ u, exec (.streamAbsent t p) s = .next u ∧ u.holdsSent ∧
        u = { s.beginAt t with peri := { s.peri with keepalive := s.peri.keepalive ++ [p.val] } }.withLine u) ∧
    (s.peri.forced = true → ∃ u, exec (.streamAbsent t p) s = .next u ∧ u.peri.parked = true ∧ u.holdsSent ∧ (s.safeOn = false → u.holdOn = true) ∧
      u.role = s.role ∧ u.regs = s.regs ∧ u.mem = s.mem)

/-! ### DMX and RDM (chapter 11) -/

/-- R303 to R307: a submission that is not refused waits for the next tick, and one that is sets REFUSED with its reason; a queued request
takes the line when the gap holds it and is counted; a good response lies in its buffer and is counted, silence for 2,800 µs counts as a
timeout, and either ends the transaction. R309: discovery starts with every UID to be searched and an empty table, and DISCOVERING shows it;
the period of DISC_PERIOD s starts it again; when nothing is left to search it ends, DISCOVERING clears and E64 is raised where it is
enabled. The places of the fields in an RDM message are those of E1.20 (PRESUMED, notes/assumptions/23.md). -/
def Obligations.RdmRequestsAndDiscoveryRun : Prop :=
  (∀ (s : State) (t : Nat) (w : Twin), s.tidy = true →
     (∀ via (v : Word), w ∈ (s.reach via).1 →
       let p := getFld v Fld.RDM_SUBMIT_PORT
       let b := getFld v Fld.RDM_SUBMIT_BUF
       (s.rdmReason w p b = 0 → ∃ u, exec (.rdmSubmit t via v) s = .next u ∧
         u.dmx w p = { s.dmx w p with entering := (s.dmx w p).entering ++ [⟨b, getFld v Fld.RDM_SUBMIT_TAG⟩] } ∧
         u.reg (Reg.RDM_STAT w) = s.reg (Reg.RDM_STAT w) ∧ framed (fun x => [Reg.RDM_STAT .a, Reg.RDM_STAT .b].contains x) nowhere (s.beginAt t) u) ∧
       (s.rdmReason w p b ≠ 0 → ∃ u, exec (.rdmSubmit t via v) s = .next u ∧
         u.rb (Reg.RDM_STAT w) Fld.RDM_STAT_REFUSED = true ∧ u.rf (Reg.RDM_STAT w) Fld.RDM_STAT_REASON = s.rdmReason w p b ∧
         (s.rb (Reg.STRD_WEVT_CTL w p) Fld.STRD_WEVT_CTL_REF_EN = true → u.evtTwinPending w 66 = true) ∧
         framed (fun x => [Reg.RDM_STAT .a, Reg.RDM_STAT .b].contains x) nowhere (s.beginAt t) u)) ∧
     (∀ (p : Fin 128) (r : RdmReq) rest, (s.beginAt t).rdmRuns w p = true → s.portHeld = false → (s.dmx w p).run = none → s.tg.ran = true →
       (s.dmx w p).disc = none → (s.dmx w p).queue = r :: rest → (s.beginAt t).rdmFits w p (s.rdLE (rdmBuf w r.buf 0) 2 + 2) (s.param w p 6 2) = true →
       beAt (s.rdBytes (rdmBuf w r.buf 2) (s.rdLE (rdmBuf w r.buf 0) 2)) 5 4 ≠ 0xFFFFFFFF →
       ∃ u, exec (.rdmRequestStart t w p) s = .next u ∧ (u.dmx w p).run.map (fun x => (x.job, x.broadcast, x.discard)) = some (.request r, false, false) ∧
         (u.dmx w p).queue = rest ∧ u.reg (Reg.STRD_RDM_OK w p) = countUp (s.reg (Reg.STRD_RDM_OK w p)) Fld.STRD_RDM_OK_SENT ∧
         framed (portReg p) nowhere (s.beginAt t) u) ∧
     (∀ (p : Fin 128) (r : RdmRun) (q : RdmReq), s.roleOf w ≠ .off → (s.dmx w p).run = some r → r.job = .request q → r.discard = false →
       Smap.wf (fun _ => DmxPort.reset) (s.tw w).dmx = true →
       (∀ y r' q', (s.dmx y p).run = some r' → r'.job = .request q' → q'.buf < 48) →
       (∀ bytes : List Byte, r.broadcast = false → r.ended ≤ max s.now t → max s.now t ≤ r.ended + 2800000 → bytes.length ≤ 510 →
         max s.now t + 44000 * bytes.length ≤ (s.beginAt t).nextBreak w p → ∃ u, exec (.rdmResponse t p true bytes) s = .next u ∧
         (u.dmx w p).run = none ∧ u.rdLE (rdmBuf w q.buf 0) 2 = bytes.length ∧ u.rdBytes (rdmBuf w q.buf 2) bytes.length = bytes ∧
         u.reg (Reg.STRD_RDM_OK w p) = countUp (s.reg (Reg.STRD_RDM_OK w p)) Fld.STRD_RDM_OK_ANSWERED ∧
         framed (fun x => portReg p x || sorusReg x) (fun x => twins.any (fun y => decide (rdmBuf y 0 0 ≤ x ∧ x < rdmBuf y 48 0))) (s.beginAt t) u) ∧
       (∃ u, exec (.rdmResponseTimeout p) s = .next u ∧ (u.dmx w p).run = none ∧ r.ended + 2800000 ≤ u.now ∧
         u.reg (Reg.STRD_RDM_CNT w p) = countUp (s.reg (Reg.STRD_RDM_CNT w p)) Fld.STRD_RDM_CNT_TIMEOUT ∧
         framed (fun x => portReg p x || sorusReg x) nowhere { s with now := u.now } u))) ∧
  (∀ (s : State) (t : Nat) (w : Twin) (p : Fin 128), s.tidy = true →
     (∀ via, w ∈ (s.reach via).1 → s.personality w p = 2 → s.rdmOn w p = true → (s.dmx w p).disc = none →
       ∃ u, exec (.rdmDisc t via p) s = .next u ∧ u.dmx w p = { s.dmx w p with disc := some ⟨false, [(0, allUids - 1)], none⟩, uids := [] } ∧
         u.rb (Reg.STRD_WSTAT w p) Fld.STRD_WSTAT_DISCOVERING = true ∧ u.rf (Reg.STRD_WSTAT w p) Fld.STRD_WSTAT_UIDS = 0 ∧
         onlyRegs [Reg.STRD_WSTAT .a p, Reg.STRD_WSTAT .b p] { s.beginAt t with a := u.a, b := u.b } u) ∧
     (s.personality w p = 2 → s.rdmOn w p = true → s.param w p 8 2 ≠ 0 → (s.dmx w p).disc = none →
       ∃ u, exec (.rdmDiscPeriod w p) s = .next u ∧ u.dmx w p = { s.dmx w p with
           disc := some ⟨false, [(0, allUids - 1)], none⟩, uids := [], since := (s.dmx w p).since + s.param w p 8 2 * 1000000000 } ∧
         u.now = max s.now (s.tb3.rawAt s.now ((s.dmx w p).since + s.param w p 8 2 * 1000000000)) ∧
         u.rb (Reg.STRD_WSTAT w p) Fld.STRD_WSTAT_DISCOVERING = true ∧
         onlyRegs [Reg.STRD_WSTAT w p] ({ s with now := u.now, out := [] }.setDmx w p (u.dmx w p)) u) ∧
     (∀ d, (s.dmx w p).disc = some d → d.step = none → (s.dmx w p).run = none → Smap.wf (fun _ => DmxPort.reset) (s.tw w).dmx = true →
       ∃ u, exec (.rdmDiscDone t w p) s = .next u ∧ u.rb (Reg.STRD_WSTAT w p) Fld.STRD_WSTAT_DISCOVERING = false ∧
       u.dmx w p = { s.dmx w p with disc := none } ∧
       (s.rb (Reg.STRD_WEVT_CTL w p) Fld.STRD_WEVT_CTL_DISC_EN = true → u.evtTwinPending w 64 = true) ∧ framed (portReg p) nowhere (s.beginAt t) u))

/-! ### Fixture health (chapter 12) -/

/-- R324, R327, R333: a post of a known type for a mapped fixture waits for the tick, any other is dropped and counted; a fixture whose
report timeout has passed by the newest tick is marked NO_REPORT and raises E71; measurements without a result by tick f + 4 are void and
counted. -/
def Obligations.HealthReportsAreKept : Prop :=
  ∀ (s : State) (t : Nat) (w : Twin), s.tidy = true →
    (∀ via (v : Word), w ∈ (s.reach via).1 → ∃ u, exec (.hlthPost t via v) s = .next u ∧
      (getFld v Fld.HLTH_POST_TYPE ≤ 4 → s.fixKind w (getFld v Fld.HLTH_POST_FIXTURE) ≠ 0 →
        (u.tw w).hlth.posts = (s.tw w).hlth.posts ++ [(getFld v Fld.HLTH_POST_TYPE, getFld v Fld.HLTH_POST_CHUNK,
          getFld v Fld.HLTH_POST_FIXTURE, (s.reg (Reg.HLTH_POST_VAL w)).toNat)] ∧
        u.reg (Reg.HLTH_CNT_MISS w) = s.reg (Reg.HLTH_CNT_MISS w)) ∧
      (4 < getFld v Fld.HLTH_POST_TYPE ∨ s.fixKind w (getFld v Fld.HLTH_POST_FIXTURE) = 0 → u.tw w = s.tw w ∧
        u.reg (Reg.HLTH_CNT_MISS w) = countUp (s.reg (Reg.HLTH_CNT_MISS w)) Fld.HLTH_CNT_MISS_POST_DROP) ∧
      onlyRegs [Reg.HLTH_CNT_MISS .a, Reg.HLTH_CNT_MISS .b] { s.beginAt t with a := u.a, b := u.b } u) ∧
    (∀ fx, s.computes w = true → s.noReportDue w fx = true → ∃ u, exec (.hlthNoReport t w fx) s = .next u ∧
      bitAt (u.health w fx).state 2 = true ∧
      (s.rb (Reg.HLTH_EVT_CTL w) Fld.HLTH_EVT_CTL_LOSS_EN = true → (s.tw w).marked 71 = false → u.evtTwinPending w 71 = true) ∧
      eventsOnly (setNoReport w (s.beginAt t) fx) u) ∧
    (let due : Pulse → Bool := fun x => decide (4 ≤ (s.tickNo + 2 ^ 32 - x.frame) % 2 ^ 32)
     ∃ u, exec (.diagVoid w) s = .next u ∧ (u.tw w).hlth.pulses = (s.tw w).hlth.pulses.filter (fun x => !due x) ∧
      u.rf (Reg.HLTH_CNT_MISS w) Fld.HLTH_CNT_MISS_DIAG_MISS =
        min (s.rf (Reg.HLTH_CNT_MISS w) Fld.HLTH_CNT_MISS_DIAG_MISS + ((s.tw w).hlth.pulses.filter due).length) 65535 ∧
      onlyRegs [Reg.HLTH_CNT_MISS w] ({ s with out := [] }.modHlth w (fun h => { h with pulses := h.pulses.filter (fun x => !due x) })) u)

/-! ### The Peristome (chapter 13) -/

/-- R347, R349, R353: the close of a block of a stream that is compared. Equal blocks leave and change nothing; blocks that differ, or one
that the ACTIVE twin has not delivered, begin an arbitration, which ends ARB_WAIT later, with its records, E0 and the flag of the twin
that missed; one that the standby has not delivered leaves uncompared and flags it. With no standby every block leaves uncompared. R348: each
block enters the rings of both twins, and while the stream's serialisers are paused none closes (PERI_BLOCK_CLOSE). -/
def Obligations.BlocksAreCompared : Prop :=
  ∀ (s : State) (t : Nat) (w : Twin) (stream : Fin 132) (block : Nat) (busy : Bool) (back : Nat), s.tidy = true → s.active = some w →
    s.peri.arb = none → s.mainOff = false → s.streamHeld stream.val = false →
    ((s.ring stream.val).paused.isSome = true → ∀ sa sb, exec (.periBlockClose t stream block sa sb busy back) s = .next (s.beginAt t)) ∧
    ((s.ring stream.val).paused = none →
    let close : BlockSide → BlockSide → Instr := fun mine other =>
      .periBlockClose t stream block (if w = .a then mine else other) (if w = .a then other else mine) busy back
    let ring : State → Bool → BlockSide → BlockSide → Prop := fun u held mine other =>
      let r := s.ring stream.val
      let a := ringPush r.a ⟨block, if w = .a then mine else other, held⟩
      let b := ringPush r.b ⟨block, if w = .a then other else mine, held⟩
      u.ring stream.val = ⟨a, b, if held && (ringFull a || ringFull b) then some (max s.now t) else none⟩
    let base : State → State := fun u => { s.beginAt t with peri := u.peri, fullDue := u.fullDue }.withLine u
    let begun : State → Word → Word → Prop := fun u cm co =>
      u.peri.arb = some ⟨max s.now t, max s.now t + s.arbWait, s.flagWindow, w, [⟨stream, block, max s.now t, back, busy⟩]⟩ ∧
      u.rb Reg.PERI_STAT Fld.PERI_STAT_ARB_BUSY = true ∧ u.reg Reg.PERI_CNT = countUp (s.reg Reg.PERI_CNT) Fld.PERI_CNT_MISMATCH ∧
      u.reg (if w = .a then Reg.PERI_ARB_CRC_A else Reg.PERI_ARB_CRC_B) = cm ∧
      u.reg (if w = .a then Reg.PERI_ARB_CRC_B else Reg.PERI_ARB_CRC_A) = co ∧ u.evtPending 0 = true ∧
      framed (fun x => [Reg.PERI_STAT, Reg.PERI_CNT, Reg.PERI_ARB_TS, Reg.PERI_ARB_TS + 4, Reg.PERI_ARB_INFO, Reg.PERI_ARB_CRC_A,
        Reg.PERI_ARB_CRC_B, Reg.PERI_HEALTH_A, Reg.PERI_HEALTH_B].contains x) nowhere { base u with free := u.free } u
    (s.standby = some w.other → s.peri.undecided = false →
      s.peri.lagging.any (fun x => decide (x.1 = stream.val ∧ x.2.2 ≤ max s.now t)) = false →
      (∀ x, ∃ u, exec (.periBlockClose t stream block (.whole x) (.whole x) busy back) s = .next u ∧ u = base u ∧
        ring u false (.whole x) (.whole x) ∧
        u.peri = { s.peri with rings := u.peri.rings, keepalive := s.peri.keepalive.filter (· ≠ stream.val), forced := false, parked := false }) ∧
      (∀ x y, x ≠ y → ∃ u, exec (close (.whole x) (.whole y)) s = .next u ∧ begun u x y ∧ ring u true (.whole x) (.whole y)) ∧
      (∀ x y, ∃ u, exec (close (.incomplete x) (.whole y)) s = .next u ∧ begun u x y ∧ ring u true (.incomplete x) (.whole y) ∧
        bitAt (u.reg (if w = .a then Reg.PERI_HEALTH_A else Reg.PERI_HEALTH_B)).toNat 11 = true) ∧
      (∀ x y, ∃ u, exec (close (.whole x) (.incomplete y)) s = .next u ∧ u.peri.arb = none ∧ ring u false (.whole x) (.incomplete y) ∧
        bitAt (u.reg (if w = .a then Reg.PERI_HEALTH_B else Reg.PERI_HEALTH_A)).toNat 9 = true ∧
        onlyRegs [Reg.PERI_UNCMP, Reg.PERI_HEALTH_A, Reg.PERI_HEALTH_B] (base u) u)) ∧
    (s.standby = none → ∀ x other, ∃ u, exec (close (.whole x) other) s = .next u ∧ onlyRegs [Reg.PERI_UNCMP] (base u) u ∧
      ring u false (.whole x) other ∧
      let v : State := { s with peri := { s.peri with parked := false } }
      u.reg Reg.PERI_UNCMP = (if stream.val < 128 && (v.safeOn || v.holdOn) then s.reg Reg.PERI_UNCMP
        else countUp (s.reg Reg.PERI_UNCMP) Fld.PERI_UNCMP_BLOCKS)))

/-- R354, R355, R357: the decision of a pending arbitration by Table 13-4. Only the ACTIVE twin flagged: failover, E1; only the standby:
it is isolated; both: the silent one, both, or the standby; neither: undecided, E2, and the standby resynchronises. The streams resume 2
µs later, when nothing of them is held any more and their rings take blocks again. No trial is under way and no digest waits. -/
def Obligations.ArbitrationIsDecided : Prop :=
  ∀ s : State, s.tidy = true →
   (∀ (w : Twin) (a : Arb), s.peri.arb = some a → a.active = w → s.active = some w → s.standby = some w.other →
    s.mainOff = false → s.peri.digestWait = none → s.fiddlehead .a = false → s.fiddlehead .b = false →
    let fa := s.flagsSince w a.since
    let fs := s.flagsSince w.other a.since
    ∃ u, exec .periArbDecide s = .next u ∧ u.peri.arb = none ∧ u.now = max s.now a.tdec ∧ u.peri.resume = some (a.tdec + 2000, a.held) ∧
      u.rb Reg.PERI_STAT Fld.PERI_STAT_ARB_BUSY = false ∧ u.rf Reg.PERI_STAT Fld.PERI_STAT_LAST_OUT = outcome fa fs ∧
      (fa ≠ 0 → fs = 0 → u.roleOf w = .isolated ∧ u.roleOf w.other = .active ∧ u.evtPending 1 = true ∧ u.evtPending 7 = true) ∧
      (fa = 0 → fs ≠ 0 → u.roleOf w = .active ∧ u.roleOf w.other = .isolated ∧ u.evtPending 6 = true) ∧
      (fa = 0 → fs = 0 → u.roleOf w = .active ∧ u.roleOf w.other = .resync ∧ u.evtPending 2 = true ∧ u.peri.undecided = true) ∧
      (fa ≠ 0 → fs ≠ 0 → silent fa = true → silent fs = true → u.roleOf w = .isolated ∧ u.roleOf w.other = .isolated) ∧
      (fa ≠ 0 → fs ≠ 0 → silent fa = false → u.roleOf w = .active ∧ u.roleOf w.other = .isolated) ∧
      (fa ≠ 0 → fs ≠ 0 → silent fa = true → silent fs = false → u.roleOf w = .isolated ∧ u.roleOf w.other = .active ∧ u.evtPending 1 = true) ∧
      roleFramed (fun x => [Reg.PERI_STAT, Reg.PERI_CNT, Reg.PERI_ARB_INFO, Reg.PERI_ARB_FLAGS, Reg.PERI_ARB_DEC_TS, Reg.PERI_ARB_DEC_TS + 4,
        Reg.TWIN_CTL].contains x) { s with now := u.now } u) ∧
   (∀ (at_ : Nat) (hs : List Held), s.peri.resume = some (at_, hs) →
    ∃ u, exec .periResume s = .next u ∧ u.peri.resume = none ∧ u.now = max s.now at_ ∧ u.role = s.role ∧ u.peri.arb = s.peri.arb ∧
      (∀ h ∈ hs, (u.ring h.stream).paused = none ∧ (∀ b ∈ (u.ring h.stream).a ++ (u.ring h.stream).b, b.held = false) ∧
        ∀ w, s.active = some w → (h.stream < 128 → s.portHeld = false) → Out.resume h.stream u.now w ∈ u.out) ∧
      (hs.all (fun h => !s.slipsAtResume h) = true →
        u = { s.beginAt at_ with out := u.out, peri := { s.peri with resume := none, rings := u.peri.rings } }))

/-- R350, R351, R547: a health bit of a twin that is neither OFF nor ISOLATED is set in its health word and due at the next tick; OVERTEMP
of a die sensor is bit 7, and a twin whose last heartbeat lies 30 µs back outside NAP gets bit 5; a heartbeat is its own instant. Words of
an ISOLATED twin are ignored. -/
def Obligations.HealthWordsAreFlagged : Prop :=
  ∀ (s : State) (t : Nat) (w : Twin), s.tidy = true →
    let word := if w = .a then Reg.PERI_HEALTH_A else Reg.PERI_HEALTH_B
    let flagged : Nat → State → Prop := fun bit u => bitAt (u.reg word).toNat bit = true ∧
      bitAt (if w = .a then u.peri.dueA else u.peri.dueB) bit = true ∧ onlyRegs [word] { s.beginAt t with peri := u.peri } u
    (s.roleOf w ≠ .off → s.roleOf w ≠ .isolated →
      (∀ bit : Fin 12, ∃ u, exec (.healthFlag t w bit) s = .next u ∧ flagged bit.val u) ∧
      (∃ u, exec (.dieSensorOvertemp t w) s = .next u ∧ flagged 7 u) ∧
      ((if w = .a then s.peri.hbA else s.peri.hbB) + 30000 ≤ max s.now t → s.inNap = false →
        ∃ u, exec (.hbLoss t w) s = .next u ∧ flagged 5 u) ∧
      (∃ u, exec (.heartbeat t w) s = .next u ∧ u = { s.beginAt t with
        peri := { s.peri with
          hbA := if w = .a then max s.now t else s.peri.hbA
          hbB := if w = .a then s.peri.hbB else max s.now t } })) ∧
    ((if w = .a then s.peri.hbA else s.peri.hbB) + 30000 > max s.now t → ∃ u, exec (.hbLoss t w) s = .next u ∧ u = s.beginAt t) ∧
    (s.roleOf w = .isolated → (∀ bit : Fin 12, ∃ u, exec (.healthFlag t w bit) s = .next u ∧ u = s.beginAt t) ∧
      (∃ u, exec (.heartbeat t w) s = .next u ∧ u = s.beginAt t))

/-- R343, R344, R356, R362 to R364: digests that are equal are shown so and a settled standby stays as it is, one that has settled becomes
STANDBY-READY and raises E5; different ones with no mirror miss put the standby in DIVERGED and raise E4; a comparison during an arbitration
waits. The end of the copy is its instant; a copy that fails restarts, and the third time isolates the twin and raises E8. Digests are
compared by what they cover (the model's choice, notes/assumptions/28.md). -/
def Obligations.DigestsAndResyncActOnTheStandby : Prop :=
  ∀ (s : State) (t : Nat) (w : Twin), s.tidy = true → s.active = some w → s.mainOff = false → s.fiddlehead w.other = false →
    (∀ d x y, s.standby = some w.other → s.peri.arb = none → s.peri.dig = some d → d.of w = some x → d.of w.other = some y →
      (x = y → s.roleOf w.other = .ready → ∃ u, exec (.digestCompare t true true) s = .next u ∧
        u.rb Reg.PERI_DIG_STAT Fld.PERI_DIG_STAT_EQUAL = true ∧ u.reg Reg.PERI_DIG_TICK = BitVec.ofNat 32 d.k ∧
        onlyRegs [Reg.PERI_DIG_STAT, Reg.PERI_DIG_TICK] { s.beginAt t with
          peri := { s.peri with
            dig := none
            cmpA := d.a
            cmpB := d.b
            dirty := false } } u) ∧
      (x = y → s.roleOf w.other = .standby → s.peri.dirty = false →
        s.rf Reg.PERI_IMG Fld.PERI_IMG_SETTLE ≤ s.rf Reg.PERI_STAT Fld.PERI_STAT_SETTLE_CNT + 1 →
        ∃ u, exec (.digestCompare t true true) s = .next u ∧ u.roleOf w.other = .ready ∧ u.roleOf w = .active ∧ u.evtPending 5 = true ∧
          roleFramed (fun x => [Reg.PERI_DIG_STAT, Reg.PERI_DIG_TICK, Reg.PERI_STAT].contains x) (s.beginAt t) u) ∧
      (x ≠ y → s.peri.missPrev = false → ∃ u, exec (.digestCompare t true true) s = .next u ∧ u.roleOf w.other = .diverged ∧
        u.roleOf w = .active ∧ u.rb Reg.PERI_DIG_STAT Fld.PERI_DIG_STAT_EQUAL = false ∧
        u.rb Reg.PERI_DIG_STAT Fld.PERI_DIG_STAT_MISMATCH = true ∧ u.evtPending 4 = true ∧
        roleFramed (fun x => [Reg.PERI_DIG_STAT, Reg.PERI_DIG_TICK].contains x) (s.beginAt t) u)) ∧
    (∀ arrA arrB, s.peri.arb.isSome = true → ∃ u, exec (.digestCompare t arrA arrB) s = .next u ∧
      u = { s.beginAt t with peri := { s.peri with digestWait := some (arrA, arrB) } }) ∧
    (s.joining = some w.other → s.rf Reg.PERI_RESYNC Fld.PERI_RESYNC_PHASE = 1 →
      (∃ u, exec (.resyncCopyDone t) s = .next u ∧ u = { s.beginAt t with peri := { s.peri with copyEnd := some (max s.now t) } }) ∧
      (s.peri.restarts + 1 < 3 → ∃ u, exec (.resyncFail t) s = .next u ∧ u.rf Reg.PERI_RESYNC Fld.PERI_RESYNC_COPIED = 0 ∧
        onlyRegs [Reg.PERI_RESYNC] { s.beginAt t with peri := { s.peri with restarts := s.peri.restarts + 1, copyEnd := none } } u) ∧
      (2 ≤ s.peri.restarts → ∃ u, exec (.resyncFail t) s = .next u ∧ u.roleOf w.other = .isolated ∧ u.roleOf w = .active ∧
        u.rb Reg.TWIN_CTL (Fld.iso w.other) = true ∧ u.evtPending 8 = true ∧
        roleFramed (fun x => decide (x = Reg.TWIN_CTL)) (s.beginAt t) u))

/-! ### Sorus (chapter 14) -/

/-- R372, R378 to R380: a push of software to a used queue whose ring is reachable and has room is stored with the staged body, and one to
a full ring is discarded and counted, unless one of the same clock that comes later in the order of R373 gives way to it; among the pushes of
one clock an item takes its place in that order, else it is the last. A pop gives the header of the item that R374 to R376 choose and its
body, or 0; a window pop its header, or the one before with UNDERRUN; either ends what its reader has latched of the register (R7). A pop
read through the mirror pops nothing and is counted; it is a dead access in NAP (R460), and all ones with NOTWIN_RD where no twin is ACTIVE
(R23). R377, R382, R383: the rest of an open packet without ordered items leaves its queue when its requester drops it, with DROP_PKT from a
pop register and with WIN_DROP_PKT from a window; the release as dropped of the oldest item of a flow hands the flow on, and a release of an
item that is not popped is an error that is counted. Who reads a pop register for the host is the model's choice (notes/assumptions/34.md). -/
def Obligations.SorusPushesPopsAndReleases : Prop :=
  (∀ (s : State) (t : Nat) (w : Twin), s.tidy = true →
     (∀ via (v : Word), w ∈ (s.reach via).1 →
       let q := getFld v Fld.SORUS_PUSH_QUEUE
       let b := s.ent w 4 0 q 2 1
       s.qUsed w q = true → 16 ≤ getFld v Fld.SORUS_PUSH_TYPE → getFld v Fld.SORUS_PUSH_FLOWED = 0 → getFld v Fld.SORUS_PUSH_DL = 0 →
       s.rf (Reg.BANK_CTL w b) Fld.BANK_CTL_OWNER = 1 → s.rf (Reg.BANK_STAT w b) Fld.BANK_STAT_STATE = 2 →
       (((s.tw w).sorus.queue q).used < s.qDepth w q → ∃ u, exec (.sorusPush t via v) s = .next u ∧
         ((u.tw w).sorus.queue q).used = ((s.tw w).sorus.queue q).used + 1 ∧
         (let pushed := (getFld v Fld.SORUS_PUSH_TYPE, fitBody (8 * s.qWords w q) (s.pbody w (sorusReq via)), SlotSt.queued, sorusReq via)
          let shown := fun (x : Slot) => (x.item.typ, x.item.body, x.st, x.by_)
          (∃ x ∈ ((u.tw w).sorus.queue q).slots, shown x = pushed ∧ x.at_ = max s.now t) ∧
          ((∀ x ∈ ((s.tw w).sorus.queue q).slots, x.at_ ≠ max s.now t) →
            ((u.tw w).sorus.queue q).slots.getLast?.map shown = some pushed)) ∧
         u.rf (banked (sorusReq via) (Reg.SORUS_PUSH_STAT w)) Fld.SORUS_PUSH_STAT_DONE = 1 ∧
         u.rf (banked (sorusReq via) (Reg.SORUS_PUSH_STAT w)) Fld.SORUS_PUSH_STAT_REASON = 0 ∧ framed sorusReg nowhere (s.beginAt t) u) ∧
       (s.qDepth w q ≤ ((s.tw w).sorus.queue q).used → ((s.tw w).sorus.queue q).yields (max s.now t) (sorusReq via) = none →
         ∃ u, exec (.sorusPush t via v) s = .next u ∧
         ((u.tw w).sorus.queue q).used = ((s.tw w).sorus.queue q).used ∧
         u.rf (banked (sorusReq via) (Reg.SORUS_PUSH_STAT w)) Fld.SORUS_PUSH_STAT_REASON = 1 ∧
         (s.rb (Reg.SORUS_EVT_CTL w) Fld.SORUS_EVT_CTL_OVF_EN = true → (s.tw w).marked 72 = false → u.evtTwinPending w 72 = true) ∧
         framed sorusReg nowhere (s.beginAt t) u)) ∧
     (∀ via (q : Fin 64), (s.reach via).1 = [w] → via ≠ .mirror →
       let rd := popReader via
       (∀ it qu, ((s.tw w).sorus.queue q).pop (max s.now t) (s.qDepth w q) (sorusReq via) = some (it, qu) → ∃ u, exec (.sorusPop t via q) s = .next u ∧
         u.out = [.header (it.header q)] ∧ u.rd64 (banked (sorusReq via) (Reg.SORUS_DBODY w 0)) = bodyWord it.body 0 % 2 ^ 64 ∧
         onlyRegs ((List.range 16).map (fun i => banked (sorusReq via) (Reg.SORUS_DBODY w 0) + 4 * i))
           (({ s.beginAt t with out := u.out }.unlatch rd (Reg.SORUS_POP w q)).modSorus w (fun o => o.setQueue q qu)) u) ∧
       (((s.tw w).sorus.queue q).pop (max s.now t) (s.qDepth w q) (sorusReq via) = none → ∃ u, exec (.sorusPop t via q) s = .next u ∧
         u.out = [.header 0] ∧
         onlyRegs ((List.range 16).map (fun i => banked (sorusReq via) (Reg.SORUS_DBODY w 0) + 4 * i))
           ({ s.beginAt t with out := u.out }.unlatch rd (Reg.SORUS_POP w q)) u) ∧
       (((s.tw w).sorus.queue q).pop (max s.now t) (s.qDepth w q) (reqWindow q) = none → ∃ u, exec (.winHdrPop t via q) s = .next u ∧
         .header ((s.tw w).sorus.queue q).winHdr ∈ u.out ∧ u.rb (Reg.SORUS_WIN_STAT w q) Fld.SORUS_WIN_STAT_UNDERRUN = true ∧
         (s.rb (Reg.SORUS_EVT_CTL w) Fld.SORUS_EVT_CTL_UNDER_EN = true → (s.tw w).marked 74 = false → u.evtTwinPending w 74 = true) ∧
         framed (fun x => decide (x = Reg.SORUS_WIN_STAT w q)) nowhere ((s.beginAt t).unlatch rd (Reg.SORUS_WIN_HDR w q)) u) ∧
       (∀ it qu, ((s.tw w).sorus.queue q).pop (max s.now t) (s.qDepth w q) (reqWindow q) = some (it, qu) →
         Smap.wf (fun _ => Queue.empty) (s.tw w).sorus.queues = true → ∃ u, exec (.winHdrPop t via q) s = .next u ∧
         u.out = [.header (it.header q)] ∧ u.rd64 (Reg.SORUS_WIN_BODY w q 0) = bodyWord it.body 0 % 2 ^ 64 ∧
         ((u.tw w).sorus.queue q).slots = qu.slots ∧ ((u.tw w).sorus.queue q).winHdr = it.header q ∧
         onlyRegs ((List.range 16).map (fun i => Reg.SORUS_WIN_BODY w q 0 + 4 * i))
           ({ s.beginAt t with out := u.out, a := u.a, b := u.b }.unlatch rd (Reg.SORUS_WIN_HDR w q)) u)) ∧
     (∀ req win (q : Fin 64), s.dev.inReset = false → s.mainOff = false →
       let from_ : Nat := if win then Reg.SORUS_WIN_HDR w q else Reg.SORUS_POP w q
       (s.inNap = false → s.active = some w → ∃ u, exec (.mirrorPop t req win q) s = .next u ∧
         u.reg (Reg.SORUS_ERR w) = countUp (s.reg (Reg.SORUS_ERR w)) Fld.SORUS_ERR_MIRROR_POP ∧
         onlyRegs [Reg.SORUS_ERR w]
           ({ s.beginAt t with out := [.header (if win then ((s.tw w).sorus.queue q).winHdr else 0)] }.unlatch req from_) u) ∧
       (s.inNap = true → ∃ u, exec (.mirrorPop t req win q) s = .next u ∧
         u.reg Reg.MIRROR_STAT = countUp (s.reg Reg.MIRROR_STAT) Fld.MIRROR_STAT_DEAD_ACC ∧
         onlyRegs [Reg.MIRROR_STAT] { s.beginAt t with out := [.header (BitVec.allOnes 64)] } u) ∧
       (s.inNap = false → s.active = none → s.once.seen = [] → ∃ u, exec (.mirrorPop t req win q) s = .next u ∧
         .header (BitVec.allOnes 64) ∈ u.out ∧ u.rb Reg.DEV_STAT Fld.DEV_STAT_NOTWIN_RD = true ∧ u.evtPending 27 = true ∧
         framed (fun x => decide (x = Reg.DEV_STAT)) nowhere (s.beginAt t) u))) ∧
  (∀ (s : State) (t : Nat) (via : Via), s.tidy = true →
     (∀ q : Fin 64, (s.reach via).1 ≠ [] →
       let open_ : Nat → Slot → Bool := fun r sl => decide (sl.st = .queued) && decide (sl.openTo = some r)
       let plain : Nat → Prop := fun r => ∀ y ∈ (s.reach via).1, ∀ sl ∈ ((s.tw y).sorus.queue q).slots, open_ r sl = true → sl.item.flowed = false
       let dropped : Nat → State → Prop := fun r u => u = { s.beginAt t with a := u.a, b := u.b } ∧
         (∀ y ∈ (s.reach via).1, (u.tw y).sorus = (s.tw y).sorus.setQueue q
           ({ (s.tw y).sorus.queue q with slots := ((s.tw y).sorus.queue q).slots.map (fun sl => if open_ r sl then { sl with st := .freed, openTo := none } else sl) }.trim
             (s.qDepth y q))) ∧ ∀ y : Twin, y ∉ (s.reach via).1 → u.tw y = s.tw y
       (plain (sorusReq via) → ∃ u, exec (.dropPkt t via q) s = .next u ∧ dropped (sorusReq via) u) ∧
       (plain (reqWindow q) → ∃ u, exec (.winDropPkt t via q) s = .next u ∧ dropped (reqWindow q) u)) ∧
     (∀ (w : Twin) (v : Word) (sl : Slot), w ∈ (s.reach via).1 →
       let f := getFld v Fld.SORUS_REL_FLOW
       let seq := s.rf (banked (sorusReq via) (Reg.SORUS_REL_SEQ w)) Fld.SORUS_REL_SEQ_SEQ
       let q := s.flowQueue w f
       let fl := (s.tw w).sorus.flow f
       ((s.tw w).sorus.queue q).slotOf? f seq = some sl →
       (getFld v Fld.SORUS_REL_DROP = 1 → s.flowWindow w f ≠ 0 → sl.st = .popped → fl.nextRel = seq → fl.out = 1 →
         Smap.wf (fun _ => Flow.empty) (s.tw w).sorus.flows = true → ∃ u, exec (.sorusRel t via v) s = .next u ∧
         (u.tw w).sorus.flow f = { fl with nextRel := (seq + 1) % 1024, out := 0 } ∧
         u.reg (Reg.SORUS_FCNT w f) = countUp (s.reg (Reg.SORUS_FCNT w f)) Fld.SORUS_FCNT_DROPPED ∧ framed sorusReg nowhere (s.beginAt t) u) ∧
       (sl.st ≠ .popped → ∃ u, exec (.sorusRel t via v) s = .next u ∧ u.rf (Reg.SORUS_ERR w) Fld.SORUS_ERR_REL_ERR =
           min (s.rf (Reg.SORUS_ERR w) Fld.SORUS_ERR_REL_ERR + 1) 255 ∧
         (s.rb (Reg.SORUS_EVT_CTL w) Fld.SORUS_EVT_CTL_REF_EN = true → (s.tw w).marked 75 = false → u.evtTwinPending w 75 = true) ∧
         framed sorusReg nowhere (s.beginAt t) u)))

/-- R384 to R387: the dispatch and the pre-emption that are due put the item on top of the chosen core's stack, show it in SORUS_CUR and
SORUS_DBODY and set the cause; DONE takes the top item off and shows the one below, and on an empty stack clears JOIN. -/
def Obligations.SorusGivesItemsToCores : Prop :=
  ∀ (s : State) (t : Nat) (w : Twin), s.tidy = true →
    (∀ p q c it qu, s.asleep = false → ((s.tw w).sorus.queue q).pop (max s.now t) (s.qDepth w q) c = some (it, qu) →
      let given : State → Fld → Prop := fun u cause => (u.tw w).sorus.core c = ⟨q, it, false⟩ :: (s.tw w).sorus.core c ∧
        u.rb (banked c (Reg.SORUS_CAUSE w)) cause = true ∧ u.rd64 (banked c (Reg.SORUS_CUR w)) = (it.header q).toNat ∧
        u.rd64 (banked c (Reg.SORUS_DBODY w 0)) = bodyWord it.body 0 % 2 ^ 64 ∧
        onlyRegs ([banked c (Reg.SORUS_CAUSE w), banked c (Reg.SORUS_CUR w), banked c (Reg.SORUS_CUR w) + 4] ++
          (List.range 16).map (fun i => banked c (Reg.SORUS_DBODY w 0) + 4 * i))
          ((s.beginAt t).modSorus w (fun o => (o.setQueue q qu).setCore c (⟨q, it, false⟩ :: o.core c))) u
      ((s.beginAt t).dispatchPick w = some (p, q, c) → ∃ u, exec (.sorusDispatch t w) s = .next u ∧ given u Fld.SORUS_CAUSE_DISPATCH) ∧
      ((s.beginAt t).preemptPick w = some (p, q, c) → ∃ u, exec (.sorusPreempt t w) s = .next u ∧ given u Fld.SORUS_CAUSE_PREEMPT)) ∧
    (∀ c : Fin 16, w ∈ (s.reach (.core w c)).1 →
      ((s.tw w).sorus.core c = [] → ∃ u, exec (.sorusDone t w c) s = .next u ∧
        u.rb (banked c (Reg.SORUS_CAUSE w)) Fld.SORUS_CAUSE_JOIN = false ∧ onlyRegs [banked c (Reg.SORUS_CAUSE w)] (s.beginAt t) u) ∧
      (∀ top rest, (s.tw w).sorus.core c = top :: rest → Smap.wf (fun _ => []) (s.tw w).sorus.cores = true →
        (∀ sl ∈ ((s.tw w).sorus.queue top.q).slots, sl.st = .queued → sl.openTo ≠ some c.val) →
        ∃ u, exec (.sorusDone t w c) s = .next u ∧ (u.tw w).sorus.core c = rest ∧
          u.rd64 (banked c (Reg.SORUS_CUR w)) = (match rest with | x :: _ => (x.item.header x.q).toNat | [] => 0) ∧
          onlyRegs [banked c (Reg.SORUS_CUR w), banked c (Reg.SORUS_CUR w) + 4] { s.beginAt t with a := u.a, b := u.b } u))

/-! ### Banks, local memories and DRAM (chapter 15) -/

/-- R395 to R398, R400 to R402: a write of BANK_CTLn by an agent that may write it, of values that are allowed, gives the bank its owner,
its core and its commanded state; a change of owner is MOVING until it is granted, a change of state shows its transition until it is
ready, and a bank that leaves OFF or reaches it is zero afterwards. A write that is refused changes nothing but BANK_VIOL and raises E76. The
same holds of BANK_OWNER_WRITE and of BANK_STATE_WRITE. At its grant the new owner's accesses that waited are served: a read of a bank that is
not cleared gives the bytes as they stand. -/
def Obligations.BanksChangeOwnerAndState : Prop :=
  ∀ (s : State) (t : Nat) (w : Twin) (n : Fin 96), s.tidy = true →
    (∀ (via : Via) (v : Word), w ∈ (s.reach via).1 →
      let both : (State → Prop) → Prop := fun p =>
        (∃ u, exec (.bankOwnerWrite t via n v) s = .next u ∧ p u) ∧ (∃ u, exec (.bankStateWrite t via n v) s = .next u ∧ p u)
      let owner := getFld v Fld.BANK_CTL_OWNER
      let st := getFld v Fld.BANK_CTL_STATE
      let may : Bool := match viaAgent via with
        | .host => true
        | .core x => decide (x.val = 0) || s.ownsBank w n (.core x)
        | _ => false
      let good : Bool := decide (owner ≤ 5) && decide (st ≠ 3) && (!s.holdsRing w n || (decide (owner = 1) && decide (st = 2)))
      let moves : Bool := decide (owner ≠ s.bankOwner w n) || (decide (owner = 5) && decide (getFld v Fld.BANK_CTL_CORE ≠ s.bankCore w n))
      (may = true → good = true → (s.bank w n).target = none → both fun u => u.bankOwner w n = owner ∧
        u.bankCore w n = getFld v Fld.BANK_CTL_CORE ∧ u.rf (Reg.BANK_CTL w n) Fld.BANK_CTL_STATE = st ∧
        (moves = true → u.rb (Reg.BANK_STAT w n) Fld.BANK_STAT_MOVING = true ∧ (u.bank w n).moving = true) ∧
        (moves = false → u.rb (Reg.BANK_STAT w n) Fld.BANK_STAT_MOVING = s.rb (Reg.BANK_STAT w n) Fld.BANK_STAT_MOVING) ∧
        (s.bankState w n = st → u.bankState w n = st ∧ (u.bank w n).target = none) ∧
        (s.bankState w n ≠ st → (u.bank w n).target = some st ∧
          u.bankState w n = if s.bankState w n = 0 then 3 else if st = 2 then 4 else 5) ∧
        framed (fun x => [Reg.BANK_CTL .a n, Reg.BANK_CTL .b n, Reg.BANK_STAT .a n, Reg.BANK_STAT .b n].contains x) nowhere (s.beginAt t) u) ∧
      (may = false ∨ good = false → both fun u => u.reg (Reg.BANK_CTL w n) = s.reg (Reg.BANK_CTL w n) ∧
        u.reg (Reg.BANK_STAT w n) = s.reg (Reg.BANK_STAT w n) ∧ u.bank w n = s.bank w n ∧
        (s.rb (Reg.BANK_EVT_CTL w) Fld.BANK_EVT_CTL_VIOL_EN = false →
          u.reg (Reg.BANK_VIOL w) = withFld (countUp (s.reg (Reg.BANK_VIOL w)) Fld.BANK_VIOL_COUNT) Fld.BANK_VIOL_BANK n) ∧
        (s.rb (Reg.BANK_EVT_CTL w) Fld.BANK_EVT_CTL_VIOL_EN = true → (s.tw w).marked 76 = false → u.evtTwinPending w 76 = true) ∧
        framed (fun x => [Reg.BANK_CTL .a n, Reg.BANK_CTL .b n, Reg.BANK_STAT .a n, Reg.BANK_STAT .b n].contains x) nowhere (s.beginAt t) u)) ∧
    (let inBank : Nat → Bool := fun a => decide (bankAddr w n ≤ a ∧ a < bankAddr w n + 0x100000)
     Smap.wf (fun _ => BankSt.still) (s.tw w).banks = true →
      ((s.bank w n).moving = true → ∃ u, exec (.bankGrant t w n) s = .next u ∧ (u.bank w n).moving = false ∧ (u.bank w n).held = [] ∧
        u.rb (Reg.BANK_STAT w n) Fld.BANK_STAT_MOVING = false ∧
        (∀ a, (s.bank w n).held = [(a, none)] → (s.bank w n).clr = false → u.out = [.readData (BitVec.ofNat 32 (s.rdLE a 4))])) ∧
      ((s.bank w n).moving = true → (s.bank w n).held = [] → ∃ u, exec (.bankGrant t w n) s = .next u ∧ u.rb (Reg.BANK_STAT w n) Fld.BANK_STAT_MOVING = false ∧
        (u.bank w n).moving = false ∧ ((s.bank w n).clr = true → ∀ a, inBank a = true → u.rdB a = 0) ∧
        onlyAt [Reg.BANK_STAT w n] (fun a => (s.bank w n).clr && inBank a)
          ((s.beginAt t).setBank w n { s.bank w n with moving := false, clr := false }) u) ∧
      (∀ st, (s.bank w n).target = some st → st ≤ 2 → (s.bank w n).queued = none → ∃ u, exec (.bankReady t w n) s = .next u ∧
        u.bankState w n = st ∧ (u.bank w n).target = none ∧
        (st = 0 ∨ s.bankState w n = 3 → ∀ a, inBank a = true → u.rdB a = 0) ∧
        (st = 2 → s.rb (Reg.BANK_EVT_CTL w) Fld.BANK_EVT_CTL_READY_EN = true → (s.tw w).marked 77 = false → u.evtTwinPending w 77 = true) ∧
        framed (fun x => decide (x = Reg.BANK_STAT w n)) inBank (s.beginAt t) u))

/-- R399, R404, R411, R412, R414, R415: an access that its agent may not make reads 0, is counted and raises E76, one to a bank that its
agent reaches is none; a corrected error counts at its site and raises E79, one that cannot be corrected flags the twin, counts, raises
E80, and leaves the address in DRAM_UE_ADDR. -/
def Obligations.BankAccessesAndErrorsAreCounted : Prop :=
  ∀ (s : State) (t : Nat) (w : Twin), s.tidy = true →
    (∀ (n : Fin 96) (ag : BankAgent),
      (s.reachesBank w n ag = true → ∃ u, exec (.bankAccessFault t w n ag) s = .next u ∧ u = s.beginAt t) ∧
      (s.reachesBank w n ag = false → ∃ u, exec (.bankAccessFault t w n ag) s = .next u ∧ .readData 0 ∈ u.out ∧
        (s.rb (Reg.BANK_EVT_CTL w) Fld.BANK_EVT_CTL_VIOL_EN = false →
          u.reg (Reg.BANK_VIOL w) = withFld (countUp (s.reg (Reg.BANK_VIOL w)) Fld.BANK_VIOL_COUNT) Fld.BANK_VIOL_BANK n) ∧
        (s.rb (Reg.BANK_EVT_CTL w) Fld.BANK_EVT_CTL_VIOL_EN = true → (s.tw w).marked 76 = false → u.evtTwinPending w 76 = true) ∧
        eventsOnly (s.beginAt t) u)) ∧
    (∀ (acc : Access) (off : Nat),
      let write : Bool := match acc with | .read => false | .write _ => true
      (∀ c : Fin 16, dramCore write off = false → ∃ u, exec (.dramAccessDenied t w (.core c) acc off) s = .next u ∧
        (write = false → .readData 0 ∈ u.out) ∧
        (s.rb (Reg.BANK_EVT_CTL w) Fld.BANK_EVT_CTL_VIOL_EN = true → (s.tw w).marked 76 = false → u.evtTwinPending w 76 = true) ∧
        (s.rb (Reg.BANK_EVT_CTL w) Fld.BANK_EVT_CTL_VIOL_EN = false →
          u.reg (Reg.BANK_VIOL w) = withFld (countUp (s.reg (Reg.BANK_VIOL w)) Fld.BANK_VIOL_COUNT) Fld.BANK_VIOL_BANK 0x7F) ∧
        eventsOnly (s.beginAt t) u) ∧
      (dramHost off = false → ∃ u, exec (.dramAccessDenied t w .host acc off) s = .next u ∧
        u = { s.beginAt t with out := if write then [] else [.readData 0] })) ∧
    (∀ site : EccSite,
      let code : Nat := match site with | .bank n _ => n.val | .lmem _ _ => 0x7E | .dram _ _ => 0x7F
      let ce : Nat × Fld := match site with
        | .bank n _ => (Reg.BANK_STAT w n, Fld.BANK_STAT_CE)
        | .lmem _ _ => (Reg.LMEM_ECC w, Fld.LMEM_ECC_CE)
        | .dram _ _ => (Reg.DRAM_ECC w, Fld.DRAM_ECC_CE)
      (∃ u, exec (.memEccError t w site true) s = .next u ∧ u.reg ce.1 = countUp (s.reg ce.1) ce.2 ∧
        (s.rb (Reg.BANK_EVT_CTL w) Fld.BANK_EVT_CTL_CE_EN = true → (s.tw w).marked 79 = false → u.evtTwinPending w 79 = true ∧
          (u.tw w).once.seen.contains (79, code) = true) ∧
        framed (fun x => decide (x = ce.1)) nowhere (s.beginAt t) u) ∧
      (∃ u, exec (.memEccError t w site false) s = .next u ∧
        (s.roleOf w ≠ .off → s.roleOf w ≠ .isolated → bitAt (u.reg (if w = .a then Reg.PERI_HEALTH_A else Reg.PERI_HEALTH_B)).toNat 1 = true) ∧
        (s.rb (Reg.BANK_EVT_CTL w) Fld.BANK_EVT_CTL_UE_EN = true → (s.tw w).marked 80 = false → u.evtTwinPending w 80 = true) ∧
        (∀ c off, site = .lmem c off → u.reg (Reg.LMEM_ECC w) = countUp (s.reg (Reg.LMEM_ECC w)) Fld.LMEM_ECC_UE) ∧
        (∀ off req, site = .dram off req → off < 2 ^ 35 → u.reg (Reg.DRAM_ECC w) = countUp (s.reg (Reg.DRAM_ECC w)) Fld.DRAM_ECC_UE ∧
          u.rf (Reg.DRAM_UE_ADDR w) Fld.DRAM_UE_ADDR_ADDR = off / 8 * 8 ∧ u.rf (Reg.DRAM_UE_ADDR w) Fld.DRAM_UE_ADDR_REQ = req.val ∧
          u.rd64 (Reg.DRAM_UE_TS w) = (s.beginAt t).stamp) ∧
        framed (fun x => [Reg.LMEM_ECC w, Reg.DRAM_ECC w, Reg.DRAM_UE_ADDR w, Reg.DRAM_UE_ADDR w + 4, Reg.DRAM_UE_TS w, Reg.DRAM_UE_TS w + 4,
          Reg.PERI_HEALTH_A, Reg.PERI_HEALTH_B].contains x) nowhere { s.beginAt t with peri := u.peri } u))

/-- R405 to R411, R414: a window of the background test leaves every byte as it was and goes on to the next bank, the next window or the
next pass, and the next window starts no sooner than the gap after it; a march that fails once is TRANSIENT, one that fails twice marks the bank
FAULTY, flags the twin and raises E78, in a window as in the march over a bank of the test engine; an access by the owner aborts the window,
which is skipped after ABORT_MAX aborts in a row, and in the clock in which the window starts it keeps the window from starting; the scrubbers
pass on. That a window command between the slots is the whole-bank march is the model's choice (notes/assumptions/51.md). -/
def Obligations.BackgroundTestAndScrubAdvance : Prop :=
  ∀ (s : State) (t : Nat) (w : Twin), s.tidy = true →
    let bt := (s.tw w).bankTest
    let after : Nat → Nat → Nat × Nat := fun b win => match s.nextTested w (b + 1) with
      | some x => (x, win)
      | none => ((s.nextTested w 0).getD 0, if win + 1 < 256 then win + 1 else 0)
    (∀ (b : Nat) (march rerun : Passed), s.rb (Reg.BANK_TEST_CFG w) Fld.BANK_TEST_CFG_EN = true → bt.slotAt ≤ max s.now t →
      (s.nextTested w bt.bank).orElse (fun _ => s.nextTested w 0) = some b →
      ∃ u, exec (.bankTestWindow t w march rerun) s = .next u ∧
        (u.tw w).bankTest = ⟨(after b bt.win).2, (after b bt.win).1, 0, some (b, bt.win), max s.now t + 6144,
          max s.now t + max 10 (s.rf (Reg.BANK_TEST_CFG w) Fld.BANK_TEST_CFG_GAP_US) * 1000⟩ ∧
        u.rf (Reg.BANK_STAT w b) Fld.BANK_STAT_WINDOW = bt.win % 256 ∧
        u.reg (Reg.BANK_TEST_PASS w) = s.reg (Reg.BANK_TEST_PASS w) + (if s.nextTested w (b + 1) = none ∧ 256 ≤ bt.win + 1 then 1 else 0) ∧
        u.reg (Reg.BANK_TEST_CNT w) = (if march = false ∧ rerun = true then countUp (s.reg (Reg.BANK_TEST_CNT w)) Fld.BANK_TEST_CNT_TRANSIENT
          else s.reg (Reg.BANK_TEST_CNT w)) ∧
        (march = false → rerun = false → u.rb (Reg.BANK_STAT w b) Fld.BANK_STAT_FAULTY = true ∧
          (s.roleOf w ≠ .off → s.roleOf w ≠ .isolated →
            bitAt (u.reg (if w = .a then Reg.PERI_HEALTH_A else Reg.PERI_HEALTH_B)).toNat 1 = true) ∧
          (s.rb (Reg.BANK_EVT_CTL w) Fld.BANK_EVT_CTL_TEST_EN = true → (s.tw w).marked 78 = false → u.evtTwinPending w 78 = true)) ∧
        framed (fun x => [Reg.BANK_STAT w b, Reg.BANK_TEST_PASS w, Reg.BANK_TEST_CNT w, Reg.PERI_HEALTH_A, Reg.PERI_HEALTH_B].contains x) nowhere
          { s.beginAt t with peri := u.peri } u) ∧
    (∀ (b : Nat) (march rerun : Passed), (s.beginAt t).windowBank w = none → s.engineBank w = some b →
      ∃ u, exec (.bankTestWindow t w march rerun) s = .next u ∧ (u.tw w).bankTest = bt ∧
        (march = true → u = s.beginAt t) ∧
        (march = false → rerun = true → u.reg (Reg.BANK_TEST_CNT w) = countUp (s.reg (Reg.BANK_TEST_CNT w)) Fld.BANK_TEST_CNT_TRANSIENT ∧
          onlyRegs [Reg.BANK_TEST_CNT w] (s.beginAt t) u) ∧
        (march = false → rerun = false → u.rb (Reg.BANK_STAT w b) Fld.BANK_STAT_FAULTY = true ∧
          (s.rb (Reg.BANK_EVT_CTL w) Fld.BANK_EVT_CTL_TEST_EN = true → (s.tw w).marked 78 = false → u.evtTwinPending w 78 = true) ∧
          framed (fun x => [Reg.BANK_STAT w b, Reg.PERI_HEALTH_A, Reg.PERI_HEALTH_B].contains x) nowhere { s.beginAt t with peri := u.peri } u)) ∧
    (∀ (n : Fin 96) (win : Nat), bt.cur = some (n.val, win) → max s.now t + 6144 = bt.until_ → ∃ u, exec (.bankTestAbort t w n) s = .next u ∧
      (u.tw w).bankTest = ⟨win, n.val, bt.aborts, none, 0, bt.slotAt⟩ ∧ u = { s.beginAt t with a := u.a, b := u.b } ∧ u.tw w.other = s.tw w.other) ∧
    (∀ (n : Fin 96) (win : Nat), bt.cur = some (n.val, win) → max s.now t < bt.until_ → max s.now t + 6144 ≠ bt.until_ →
      let k := (if bt.bank = n.val ∧ bt.win = win then bt.aborts else 0) + 1
      let most := max 1 (s.rf (Reg.BANK_TEST_CFG w) Fld.BANK_TEST_CFG_ABORT_MAX)
      ∃ u, exec (.bankTestAbort t w n) s = .next u ∧
        (k < most → (u.tw w).bankTest = ⟨win, n.val, k, bt.cur, 0, bt.slotAt⟩ ∧
          u.reg (Reg.BANK_TEST_CNT w) = countUp (s.reg (Reg.BANK_TEST_CNT w)) Fld.BANK_TEST_CNT_ABORTS) ∧
        (most ≤ k → (u.tw w).bankTest = ⟨(after n win).2, (after n win).1, 0, bt.cur, 0, bt.slotAt⟩ ∧
          u.reg (Reg.BANK_TEST_CNT w) =
            countUp (countUp (s.reg (Reg.BANK_TEST_CNT w)) Fld.BANK_TEST_CNT_ABORTS) Fld.BANK_TEST_CNT_SKIPPED) ∧
        onlyRegs [Reg.BANK_TEST_CNT w, Reg.BANK_TEST_PASS w] { s.beginAt t with a := u.a, b := u.b } u ∧ u.tw w.other = s.tw w.other) ∧
    (∀ c : Fin 16, ∃ u, exec (.lmemScrub t w c) s = .next u ∧ u = s.beginAt t) ∧
    (s.rb (Reg.DRAM_SCRUB w) Fld.DRAM_SCRUB_EN = true → ∃ u, exec (.dramScrub t w) s = .next u ∧
      u.rf (Reg.DRAM_SCRUB_POS w) Fld.DRAM_SCRUB_POS_POS =
        (if s.rf (Reg.DRAM_SCRUB_POS w) Fld.DRAM_SCRUB_POS_POS + 1 < 32768 then s.rf (Reg.DRAM_SCRUB_POS w) Fld.DRAM_SCRUB_POS_POS + 1 else 0) ∧
      u.rf (Reg.DRAM_SCRUB_POS w) Fld.DRAM_SCRUB_POS_PASSES = (s.rf (Reg.DRAM_SCRUB_POS w) Fld.DRAM_SCRUB_POS_PASSES +
        (if s.rf (Reg.DRAM_SCRUB_POS w) Fld.DRAM_SCRUB_POS_POS + 1 < 32768 then 0 else 1)) % 65536 ∧
      onlyRegs [Reg.DRAM_SCRUB_POS w] (s.beginAt t) u)

/-! ### Calibration (chapter 19) -/

/-- R497 to R499: CAL_ALL, CAL_UNIT of a unit of Table 19-1 and the period start a run when none is in progress and none is pending, with
the XREF check first; a request during a run joins it where its unit is still to come and waits for the next run where it is not; a
pending run starts when none is in progress. R499, R500, R505 to R508: the result of the unit in calibration: its code applies with its
count and its time, or waits for the latches of its bank's ports; a failure keeps the code, sets FAIL and raises E30; the next unit is
taken, and after the last E31 ends the run. An XREF outside its range ends the run at once. The codes that wait apply when the last port
of the bank has had its latch. -/
def Obligations.CalibrationRunsAndApplies : Prop :=
  (∀ (s : State) (t : Nat) (src : Requester), s.tidy = true → s.thAllows src = true →
     let started : State → List Nat → State → Prop := fun e want u =>
       u.cal.run = some (allUnits.filter (fun x => decide (x = 0) || want.contains x || s.cal.again.contains x)) ∧ u.cal.pend = none ∧
       u.cal.busy = true ∧ u.cal.powerUp = false ∧ u.cal.done = 0 ∧ u.rb Reg.CAL_STAT Fld.CAL_STAT_RUNNING = true ∧
       u.rf Reg.CAL_STAT Fld.CAL_STAT_CUR = 0 ∧ (u.calUnit 0).stale = true ∧ onlyRegs [Reg.CAL_STAT] { e with cal := u.cal } u
     (s.cal.run = none → s.cal.pend = none →
       (∃ u, exec (.calAll t src) s = .next u ∧ started (s.beginAt t) allUnits u) ∧
       (∀ n, n < 45 → ∃ u, exec (.calUnit t src n) s = .next u ∧ started (s.beginAt t) [n] u) ∧
       (s.rf Reg.CAL_CFG Fld.CAL_CFG_PERIOD ≠ 0 → ∃ u, exec .calPeriod s = .next u ∧ started { s with now := u.now, out := [] } allUnits u ∧
         u.now = max s.now (s.tb3.rawAt s.now (s.cal.endAt + s.rf Reg.CAL_CFG Fld.CAL_CFG_PERIOD * 60000000000)))) ∧
     (∀ p, s.cal.run = none → s.cal.pend = some p → ∃ u, exec (.calRun t) s = .next u ∧ started (s.beginAt t) p u ∧
       u.rb Reg.CAL_STAT Fld.CAL_STAT_PENDING = false) ∧
     (∀ c rest n, s.cal.run = some (c :: rest) → n < 45 → ∃ u, exec (.calUnit t src n) s = .next u ∧
       (c < n → u.cal.run = some (allUnits.filter (fun x => (c :: rest).contains x || x == n)) ∧ u = { s.beginAt t with cal := u.cal } ∧
         u.cal.pend = s.cal.pend) ∧
       (n ≤ c → u.cal.run = some (allUnits.filter (fun x => (c :: rest).contains x)) ∧ u.cal.pend = some (s.cal.pend.getD [] ++ [n]) ∧
         u.rb Reg.CAL_STAT Fld.CAL_STAT_PENDING = true ∧ onlyRegs [Reg.CAL_STAT] { s.beginAt t with cal := u.cal } u)) ∧
     (∀ n, 45 ≤ n → ∃ u, exec (.calUnit t src n) s = .next u ∧ u = s.beginAt t)) ∧
  (∀ (s : State) (t : Nat), s.tidy = true → s.mainOff = false →
     (∀ x rest, s.cal.run = some (x :: rest) → s.cal.busy = true → s.cal.void = false → s.once.seen = [] →
       let framedCal : State → Prop := fun u => framed (fun a => [Reg.CAL_STAT, Reg.CAL_XREF].contains a) nowhere { s.beginAt t with cal := u.cal } u
       (∀ code, 0 < x → x < 17 ∨ 24 < x ∨ (s.bankWaits x) = [] → ∃ u, exec (.calUnitDone t true code) s = .next u ∧ framedCal u ∧
         (rest = [] → u.cal.run = none ∧ u.rb Reg.CAL_STAT Fld.CAL_STAT_RUNNING = false ∧ u.evtPending 31 = true ∧
           u.calUnit x = { s.calUnit x with
             count := ((s.calUnit x).count + 1) % 65536
             last := (s.beginAt t).stamp3
             code := some (code % 65536)
             fail := false
             stale := false }) ∧
         (∀ y tl, rest = y :: tl → y ≠ x → y < 45 → s.calTurn y = .take → u.cal.run = some rest ∧ u.cal.done = s.cal.done + 1 ∧
           u.rf Reg.CAL_STAT Fld.CAL_STAT_CUR = y ∧ (u.calUnit y).stale = true ∧ (u.calUnit x).code = some (code % 65536) ∧
           (u.calUnit x).stale = false)) ∧
       (∀ code, 0 < x → rest = [] → ∃ u, exec (.calUnitDone t false code) s = .next u ∧ framedCal u ∧ (u.calUnit x).fail = true ∧
         (u.calUnit x).code = (s.calUnit x).code ∧ (u.calUnit x).stale = false ∧ u.rb Reg.CAL_STAT Fld.CAL_STAT_FAIL = true ∧
         u.evtPending 30 = true ∧ u.evtPending 31 = true ∧ u.cal.run = none) ∧
       (∀ code, x = 0 → code < 9900000 ∨ 10100000 < code → code < 2 ^ 24 → ∃ u, exec (.calUnitDone t true code) s = .next u ∧ framedCal u ∧
         u.cal.run = none ∧ u.rf Reg.CAL_XREF Fld.CAL_XREF_MOHM = code ∧ u.rb Reg.CAL_STAT Fld.CAL_STAT_XREF_BAD = true ∧
         u.rb Reg.CAL_STAT Fld.CAL_STAT_RUNNING = false ∧ u.evtPending 30 = true ∧ u.evtPending 31 = true)) ∧
     (∀ (p : Fin 128) (e : Nat × Nat), s.cal.apply.find? (fun e => decide (e.1 = p.val)) = some e →
       let left := s.cal.apply.filter (fun e => decide (e.1 ≠ p.val))
       ∃ u, exec (.calStrandApply p) s = .next u ∧ u = { s with now := u.now, clock := u.clock, out := [], cal := u.cal } ∧ u.cal.apply = left ∧
         u.now = (if s.latchDue.isSome then max s.now (s.latchInstant - 1000) else s.now) ∧
         (left.any (fun e => decide (e.1 / 16 = p.val / 16)) = true → u.cal.units = s.cal.units) ∧
         (left.any (fun e => decide (e.1 / 16 = p.val / 16)) = false →
           (u.calUnit (17 + p.val / 16)).code = some (e.2 % 65536) ∧
           (u.calUnit (17 + p.val / 16)).count = ((s.calUnit (17 + p.val / 16)).count + 1) % 65536)))

/-! ### Events, balls and plain registers (chapters 20, 21 and 0) -/

/-- R509, R511, R513 to R516: an event that its block may raise is pending in its die, one of the Thallus in both twins as well, one of
the ACTIVE twin in the Thallus unless it comes later than 5 µs, which is counted; where its route logs it and the log is not frozen, its
record is at HEAD, and among the records of the same clock in the order of R517, which are no further back than they are many. A reserved event is never raised. A software event is E82 of its twin. -/
def Obligations.EventsAreRaised : Prop :=
  ∀ (s : State) (t : Nat) (data : Word) (late : Nat), s.tidy = true → s.mainOff = false →
    (∀ n : Fin 256, s.dev.inReset = false → evtReserved n = false →
      (n.val < 9 ∨ 14 < n.val ∧ n.val < 32 → ∃ u, exec (.eventRaise t none n data late) s = .next u ∧ u.evtPending n = true ∧
        u.evtTwinPending .a n = true ∧ u.evtTwinPending .b n = true ∧ eventsOnly (s.beginAt t) u ∧
        (s.rb (Reg.EVT_ROUTE n) Fld.EVT_ROUTE_LOG = true → s.rb Reg.EVT_LOG_CTL Fld.EVT_LOG_CTL_FREEZE = false →
          let head := (s.reg Reg.EVT_LOG_HEAD).toNat
          let rec_ : Nat → Prop := fun k =>
            let at_ := 0x10000 + (head + 1024 - k) % 1024 * 16
            (u.rdB (at_ + 5)).toNat = n ∧ u.rdLE (at_ + 8) 4 = data.toNat ∧ u.rdLE (at_ + 12) 4 = s.tickNo % 2 ^ 32
          u.reg Reg.EVT_LOG_HEAD = s.reg Reg.EVT_LOG_HEAD + 1 ∧
          (s.logCycle.at_ ≠ max s.now t ∨ s.logCycle.recs = [] → rec_ 0) ∧
          (s.logCycle.recs.length < 1024 → ∃ k, k ≤ s.logCycle.recs.length ∧ rec_ k))) ∧
      (9 ≤ n.val → n.val ≤ 14 → s.once.seen = [] → ∃ u, exec (.eventRaise t none n data late) s = .next u ∧ u.evtPending n = true ∧
        eventsOnly (s.beginAt t) u) ∧
      (∀ w : Twin, 32 ≤ n.val → s.roleOf w ≠ .off → ∃ u, exec (.eventRaise t (some w) n data late) s = .next u ∧
        u.evtTwinPending w n = true ∧ eventsOnly (s.beginAt t) u ∧ (late ≤ 5000 → s.roleOf w = .active → u.evtPending n = true) ∧
        (5000 < late → u.rf Reg.EVT_LOG_STAT Fld.EVT_LOG_STAT_LATE_DROP = min (s.rf Reg.EVT_LOG_STAT Fld.EVT_LOG_STAT_LATE_DROP + 1) 65535 ∧
          (n.val ≠ 72 → n.val ≠ 76 → n.val ≠ 81 → u.evtPending n = s.evtPending n)))) ∧
    (∀ (n : Fin 256) (src : Option Twin), evtReserved n = true → ∃ u, exec (.eventRaise t src n data late) s = .next u ∧ u = s.beginAt t) ∧
    (∀ (via : Via) (w : Twin), w ∈ (s.reach via).1 → ∃ u, exec (.evtSoft t via data) s = .next u ∧ u.evtTwinPending w 82 = true ∧
      (s.roleOf w = .active → u.evtPending 82 = true) ∧ eventsOnly (s.beginAt t) u)

/-- R514: a bit of EVT_PENDg written 1 is cleared, and every other bit of it is unchanged; nothing else changes. R11: a bit that the part has
set in the clock of the write stays set; a write at a later instant finds none such. -/
def Obligations.PendingBitsClearOnWrite : Prop :=
  ∀ (s : State) (t : Nat) (src : Requester) (g : Fin 8) (v : Word), s.tidy = true → s.thAllows src = true →
    ∃ u, exec (.evtPendClear t src g v) s = .next u ∧
      u.reg (Reg.EVT_PEND g) = s.reg (Reg.EVT_PEND g) &&& ~~~(v &&& ~~~(s.beginAt t).setThisClock (Reg.EVT_PEND g)) ∧
      (s.now < t → u.reg (Reg.EVT_PEND g) = s.reg (Reg.EVT_PEND g) &&& ~~~v) ∧
      onlyRegs [Reg.EVT_PEND g] (s.beginAt t) u

/-- R518: a write of EVT_LOG_TAIL takes the value written, or HEAD where the value is ahead of HEAD; nothing else changes. -/
def Obligations.LogTailFollowsTheHost : Prop :=
  ∀ (s : State) (t : Nat) (src : Requester) (v : Word), s.tidy = true → s.thAllows src = true →
    ∃ u, exec (.evtLogTail t src v) s = .next u ∧
      u.reg Reg.EVT_LOG_TAIL = (let ahead := (v - s.reg Reg.EVT_LOG_HEAD).toNat
        if 1 ≤ ahead ∧ ahead < 2 ^ 31 then s.reg Reg.EVT_LOG_HEAD else v) ∧ onlyRegs [Reg.EVT_LOG_TAIL] (s.beginAt t) u

/-- R545, R10, R14: a TAP instruction other than BYPASS and IDCODE holds the part as in a device reset until one ends it, and those two
change nothing; a register write changes the RW fields alone, clears the W1C bits written 1 but for those that the part has set in its clock
(R11), and leaves RO fields and RSVD bits; a word of
the Cortex store takes its four bytes. The numbers of the TAP instructions are the model's choice (notes/assumptions/18.md). -/
def Obligations.TapAndPlainRegisterWrites : Prop :=
  ∀ (s : State) (t : Nat), s.tidy = true →
    (∀ code, (code ≤ 1 → ∃ u, exec (.tapInstruction t code) s = .next u ∧ u = s.beginAt t) ∧
      (1 < code → ∃ u, exec (.tapInstruction t code) s = .next u ∧ u.dev.tap = code ∧ u.dev.inReset = true ∧ u.role = ⟨.off, .off⟩ ∧
        u.pending = s.pending ∧ (∀ a, keptByDevice a = true → u.rdB a = s.rdB a))) ∧
    (∀ (req : Requester) (v : Word), s.thAllows req = true →
      (∀ n : Fin 256, ∃ u, exec (.registerWrite t req (Reg.EVT_ROUTE n) v) s = .next u ∧
        u.reg (Reg.EVT_ROUTE n) = (s.reg (Reg.EVT_ROUTE n) &&& 0x30FFFF00) ||| (v &&& 0xCF0000FF) ∧
        onlyRegs [Reg.EVT_ROUTE n] (s.beginAt t) u) ∧
      (∃ u, exec (.registerWrite t req Reg.DEV_STAT v) s = .next u ∧
        u.reg Reg.DEV_STAT = s.reg Reg.DEV_STAT &&& ~~~(v &&& 0x18 &&& ~~~(s.beginAt t).setThisClock Reg.DEV_STAT) ∧
        onlyRegs [Reg.DEV_STAT] (s.beginAt t) u) ∧
      (∃ u, exec (.registerWrite t req Reg.DEV_ID v) s = .next u ∧ onlyRegs [] (s.beginAt t) u) ∧
      (∀ addr, addr % 4 = 0 → 0x8000 ≤ addr → addr < 0xF000 → ∃ u, exec (.registerWrite t req addr v) s = .next u ∧
        u = { s.beginAt t with mem := u.mem } ∧
        ∀ a, u.rdB a = if addr ≤ a ∧ a < addr + 4 then BitVec.ofNat 8 (v.toNat / 256 ^ (a - addr)) else s.rdB a))

/-! ### Host paths (chapter 16) -/

/-- R420 to R425: a relayed write is that write of the host, and one to an address that the relay does not serve is counted; a mailbox write
stands and raises E23 at an inbound doorbell, and a read returns the word, unless the other port accesses the word in the same clock or the
one before: then port B's write of the same clock stands, the later one of neighbouring clocks does not, and a read returns an open value,
each with its busy indication. A write changes the bytes that its byte enables name. That an access collides with the newest one of the
other port alone is the model's reading (notes/assumptions/29.md). -/
def Obligations.RelayAndMailboxAccess : Prop :=
  ∀ (s : State) (t : Nat), s.tidy = true → s.dev.inReset = false → s.mainOff = false →
    (∀ (w : Twin) (c : Fin 16) (v : Word),
      let a := (s.reg Reg.HOST_RELAY_ADDR).toNat
      (s.roleOf w ≠ .active → ∃ u, exec (.hostRelay t w c v) s = .next u ∧ u = s.beginAt t) ∧
      (s.roleOf w = .active → 0x30000000 ≤ a ∨ a % 4 ≠ 0 ∨ a = Reg.HOST_RELAY_DATA → ∃ u, exec (.hostRelay t w c v) s = .next u ∧
        u.reg Reg.DEV_STAT = countUp (s.reg Reg.DEV_STAT) Fld.DEV_STAT_KEY_ERR ∧ onlyRegs [Reg.DEV_STAT] (s.beginAt t) u) ∧
      (s.roleOf w = .active → a % 4 = 0 → 0x8000 ≤ a → a < 0xF000 → ∃ u, exec (.hostRelay t w c v) s = .next u ∧
        u = { s.beginAt t with mem := u.mem } ∧
        ∀ x, u.rdB x = if a ≤ x ∧ x < a + 4 then BitVec.ofNat 8 (v.toNat / 256 ^ (x - a)) else s.rdB x)) ∧
    (∀ (portB : Bool) (src : Requester) (word : Nat) (v : LaneWord), word < 16384 → (portB = true → s.thAllows src = true) →
      let clock := max s.now t / 5
      let here : Nat → Bool := fun x => decide (mbxAddr word ≤ x ∧ x < mbxAddr word + 4)
      let kept : State → State := fun u => { s.beginAt t with mbxA := u.mbxA, mbxB := u.mbxB }
      ((∀ o, s.mbxPort (!portB) = some o → o.word = word → o.clock + 1 < clock) →
        ∃ u, exec (.mbxWrite t portB src word v) s = .next u ∧ u.mbxWord word = mergeBytes (s.mbxWord word) v ∧
          (portB = false → 0x3FC0 ≤ word → word < 0x3FE0 → u.evtPending 23 = true) ∧ framed nowhere here (kept u) u) ∧
      (∀ o x y, s.mbxPort (!portB) = some o → o.word = word → o.clock = clock → o.wrote = some (x, y) → x ≠ mergeBytes y v →
        ∃ u, exec (.mbxWrite t portB src word v) s = .next u ∧ u.mbxWord word = (if portB then mergeBytes y v else s.mbxWord word) ∧
          u.reg Reg.MBX_STAT = countUp (s.reg Reg.MBX_STAT) Fld.MBX_STAT_A_BUSY ∧
          onlyAt [Reg.MBX_STAT] here (kept u) u) ∧
      (∀ o x y, s.mbxPort (!portB) = some o → o.word = word → o.clock + 1 = clock → o.wrote = some (x, y) → s.once.seen = [] →
        ∃ u, exec (.mbxWrite t portB src word v) s = .next u ∧ u.mbxWord word = s.mbxWord word ∧
          (portB = true → u.rb Reg.MBX_STAT Fld.MBX_STAT_WR_LOST = true ∧ u.rf Reg.MBX_COLL Fld.MBX_COLL_OFFSET = 4 * word ∧
            u.evtPending 22 = true) ∧
          (portB = false → u.reg Reg.MBX_STAT = countUp (s.reg Reg.MBX_STAT) Fld.MBX_STAT_A_BUSY) ∧
          framed (fun x => [Reg.MBX_STAT, Reg.MBX_COLL].contains x) nowhere (kept u) u) ∧
      ((∀ o, s.mbxPort (!portB) = some o → o.word = word → o.wrote.isSome = true → o.clock + 1 < clock) →
        ∃ u, exec (.mbxRead t portB src word) s = .next u ∧ u = { kept u with out := [.readData (s.mbxWord word)] }) ∧
      (∀ o, s.mbxPort (!portB) = some o → o.word = word → o.wrote.isSome = true → o.clock = clock ∨ o.clock + 1 = clock → s.once.seen = [] →
        ∃ u, exec (.mbxRead t portB src word) s = .next u ∧ .readData (BitVec.ofNat 32 (Config.freeValue s.free)) ∈ u.out ∧
          (portB = true → u.rb Reg.MBX_STAT Fld.MBX_STAT_COLLIDE = true ∧ u.evtPending 22 = true) ∧
          (portB = false → u.reg Reg.MBX_STAT = countUp (s.reg Reg.MBX_STAT) Fld.MBX_STAT_A_BUSY) ∧
          framed (fun x => [Reg.MBX_STAT, Reg.MBX_COLL].contains x) nowhere { kept u with free := s.free + 1 } u))

/-- R426 to R430, R544, R419: a management write stores its words, one with a wrong PEC is counted and stores none; a read answers the
words, with a PEC byte behind them where PEC = 1; a timeout is counted; in DARK an address match is acknowledged, counted and starts a wake
by source 2. PERST_N clears the MSI-X table and its enables, and its release nothing; a message that is held leaves when its vector opens.
The PEC is the CRC-8 of SMBus (PRESUMED, notes/assumptions/9.md). -/
def Obligations.ManagementAndEndpointAnswer : Prop :=
  ∀ (s : State) (t : Nat), s.tidy = true → s.dev.inReset = false →
    (s.mainOff = false → s.rb Reg.PWR_STAT Fld.PWR_STAT_WAKE_FAIL = false →
      let pec := s.rb Reg.MGMT_CFG Fld.MGMT_CFG_PEC
      (∀ (addr : Nat) (words : List Word) (pecOk : Passed), addr % 4 = 0 → 0x8000 ≤ addr → addr + 4 * words.length ≤ 0xF000 →
        (pec = false ∨ pecOk = true ∧ 1 ≤ words.length ∧ words.length ≤ 16 → ∃ u, exec (.mgmtWrite t addr words pecOk) s = .next u ∧
          u = { s.beginAt t with mem := u.mem } ∧ (∀ i, i < words.length → u.rdLE (addr + 4 * i) 4 = (words.getD i 0).toNat) ∧
          ∀ a, a < addr ∨ addr + 4 * words.length ≤ a → u.rdB a = s.rdB a) ∧
        (pec = true → pecOk = false → ∃ u, exec (.mgmtWrite t addr words pecOk) s = .next u ∧
          u.reg Reg.MGMT_STAT = countUp (s.reg Reg.MGMT_STAT) Fld.MGMT_STAT_PEC_ERR ∧ onlyRegs [Reg.MGMT_STAT] (s.beginAt t) u)) ∧
      (∀ addr count, addr % 4 = 0 → 0x8000 ≤ addr → addr + 4 * count ≤ 0xF000 →
        (pec = false → ∃ u, exec (.mgmtRead t addr count) s = .next u ∧ u = { s.beginAt t with out := [.bytes (s.rdBytes addr (4 * count))] }) ∧
        (pec = true → 1 ≤ count → count ≤ 16 → ∃ u check, exec (.mgmtRead t addr count) s = .next u ∧
          u = { s.beginAt t with out := [.bytes (s.rdBytes addr (4 * count) ++ [check])] })) ∧
      (∃ u, exec (.mgmtWake t) s = .next u ∧ u = s.beginAt t) ∧
      (∀ en bme fmask, s.perst = false →
        ∃ u, exec (.msixRelease t en bme fmask) s = .next u ∧
        u = { s.beginAt t with
          out := u.out
          mem := u.mem
          msixEn := en
          bme := bme
          funcMask := fmask } ∧ (∀ a, a < 0x15000 ∨ 0x15020 ≤ a → u.rdB a = s.rdB a) ∧
        (en = false ∨ bme = false ∨ fmask = true → u.out = [] ∧ u.mem = s.mem) ∧
        (en = true → bme = true → fmask = false → ∀ v, v < 256 → bitAt (s.rdB (0x14000 + 16 * v + 12)).toNat 0 = false →
          bitAt (s.rdB (0x15000 + v / 8)).toNat (v % 8) = true →
          (∃ n, .msix v n ∈ u.out) ∧ bitAt (u.rdB (0x15000 + v / 8)).toNat (v % 8) = false))) ∧
    (∃ u, exec (.mgmtTimeout t) s = .next u ∧ u.reg Reg.MGMT_STAT = countUp (s.reg Reg.MGMT_STAT) Fld.MGMT_STAT_TIMEOUT ∧
      onlyRegs [Reg.MGMT_STAT] (s.beginAt t) u) ∧
    (s.mainOff = true → s.rb Reg.PWR_STAT Fld.PWR_STAT_WAKE_FAIL = false → s.powerPhase = 0 → ∃ u, exec (.mgmtWake t) s = .next u ∧
      u.out = [.ack true, .ack false] ∧ u.reg Reg.MGMT_STAT = countUp (s.reg Reg.MGMT_STAT) Fld.MGMT_STAT_WAKE_NACK ∧ u.powerPhase = 10 ∧
      u.pwr.wake.map (fun x => (x.source, x.stage)) = some (2, 1) ∧
      onlyRegs [Reg.MGMT_STAT, Reg.PWR_STAT] { s.beginAt t with out := u.out, pwr := { s.pwr with wake := u.pwr.wake } } u) ∧
    (∃ u, exec (.perst t true) s = .next u ∧ u = { s.beginAt t with
        mem := u.mem
        perst := true
        msixEn := false
        bme := false
        funcMask := false } ∧
      ∀ a, u.rdB a = if 0x14000 ≤ a ∧ a < 0x16000 then memDefault a else s.rdB a) ∧
    (∃ u, exec (.perst t false) s = .next u ∧ u = { s.beginAt t with perst := false })

/-- R431 to R433, R479: a flash command whose source and operands are right is queued, after the VERIFIED bits of the slots that it touches
have cleared; one that is not is refused with its reason and not queued. The end of the command at the front sets DONE: a read has filled
its buffer, a program has cleared bits and set none, an erase has left 0xFF, a copy has filled the DRAM of each twin that runs. Each of
FLASH_READ, FLASH_PROGRAM, FLASH_ERASE_4K, FLASH_ERASE_64K, FLASH_READ_SFDP and FLASH_COPY completes so. A timeout of
a program or an erase is refused with reason 5, with its bytes left open. What a programmed byte becomes is the model's choice
(notes/assumptions/27.md). -/
def Obligations.FlashCommandsRun : Prop :=
  ∀ (s : State) (t : Nat) (ch : Fin 2), s.tidy = true →
    (∀ (src : Requester) (len : Nat), s.thAllows src = true →
      let job : Nat → FlashJob := fun op => ⟨ch, op, if op = 3 ∨ op = 4 then 0 else len, (s.reg (Reg.FLASH_ADDR ch)).toNat,
        s.rf (Reg.FLASH_DST ch) Fld.FLASH_DST_DST, if op = 2 then s.rdBytes (0x6100 + ch.val * 0x200) len else []⟩
      let taken : Nat → State → Prop := fun op u =>
        (channelServes ch src = false → u = s.beginAt t) ∧
        (channelServes ch src = true → s.flashReason (job op) ≠ 0 →
          u.rf (Reg.FLASH_STAT ch) Fld.FLASH_STAT_REASON = s.flashReason (job op) ∧ onlyRegs [Reg.FLASH_STAT ch] (s.beginAt t) u) ∧
        (channelServes ch src = true → s.flashReason (job op) = 0 → u.flash.getLast? = some (job op) ∧
          ((job op).covers.2 = 0 → u = { s.beginAt t with flash := s.flash ++ [job op] }) ∧
          (∀ n, n < 5 → overlaps (s.slotRange n).1 (s.slotRange n).2 (job op).covers.1 (job op).covers.2 = true →
            bitAt (u.rf Reg.BOOT_STAT Fld.BOOT_STAT_VERIFIED) n = false) ∧
          onlyRegs [Reg.BOOT_STAT, Reg.FLASH_STAT 0] { s.beginAt t with flash := u.flash } u)
      (∃ u, exec (.flashRead t src ch len) s = .next u ∧ taken 1 u) ∧ (∃ u, exec (.flashProgram t src ch len) s = .next u ∧ taken 2 u) ∧
      (∃ u, exec (.flashErase4k t src ch) s = .next u ∧ taken 3 u) ∧ (∃ u, exec (.flashErase64k t src ch) s = .next u ∧ taken 4 u) ∧
      (∃ u, exec (.flashReadSfdp t src ch len) s = .next u ∧ taken 5 u) ∧ (∃ u, exec (.flashCopy t src ch len) s = .next u ∧ taken 6 u)) ∧
    (∀ (j : FlashJob) rest, s.flash = j :: rest → j.ch = ch.val → j.addr + 65536 ≤ s.flashSize → j.addr < 2 ^ 32 - 65536 → j.len ≤ 256 →
      j.bytes.length ≤ 256 →
      let fl := Addr.flash 0 j.addr
      let buf := 0x6100 + j.ch * 0x200
      let size := if j.op = 3 then 4096 else if j.op = 4 then 65536 else j.bytes.length
      let span : Nat → Bool := fun x => match j.op with
        | 1 => decide (buf ≤ x ∧ x < buf + j.len)
        | 5 => decide (buf ≤ x ∧ x < buf + j.len)
        | 6 => twins.any (fun w => decide (s.roleOf w ≠ .off) && decide (Addr.dram w j.dst ≤ x ∧ x < Addr.dram w j.dst + j.len))
        | _ => decide (fl ≤ x ∧ x < fl + size)
      (1 ≤ j.op → j.op ≤ 6 → ∃ u, exec (.flashCmdDone t ch) s = .next u ∧ u.flash = rest ∧
        u.rb (Reg.FLASH_STAT ch) Fld.FLASH_STAT_DONE = true ∧
        (j.op = 1 → ∀ i, i < j.len → u.rdB (buf + i) = s.rdB (fl + i)) ∧
        (j.op = 2 → ∀ i, i < size → u.rdB (fl + i) = s.rdB (fl + i) &&& j.bytes.getD i 0) ∧
        (j.op = 3 ∨ j.op = 4 → ∀ i, i < size → u.rdB (fl + i) = 0xFF) ∧
        (j.op = 6 → j.dst + j.len ≤ 0x800000000 → ∀ w : Twin, s.roleOf w ≠ .off → ∀ i, i < j.len →
          u.rdB (Addr.dram w (j.dst + i)) = s.rdB (fl + i)) ∧
        onlyAt [Reg.FLASH_STAT ch] span { s.beginAt t with flash := rest, free := u.free } u) ∧
      (2 ≤ j.op → j.op ≤ 4 → ∃ u, exec (.flashTimeout t ch) s = .next u ∧ u.flash = rest ∧
        u.rf (Reg.FLASH_STAT ch) Fld.FLASH_STAT_REASON = 5 ∧
        onlyAt [Reg.FLASH_STAT ch] (fun x => decide (fl ≤ x ∧ x < fl + j.covers.2)) { s.beginAt t with flash := rest, free := u.free } u))

/-- R435, R440, R441, R444, R445: the oldest posted write that the lock admits leaves on the idle bus; a read is served from a held block,
or starts its transaction on the idle bus, a locked one with the lock; a target that is ready ends the phase, with its word for a read, which
comes too late for the host 2 µs after its request (R23, R439); one
that asks for a retry is counted and asked again, at most eight times, and an error or silence ends a read with all ones and logs a write.
The lock ends after 10 µs, and held blocks after as long. Where the far windows lie in a core's map is the model's reading
(notes/assumptions/15.md). -/
def Obligations.RhizoidOutboundTransactions : Prop :=
  ∀ (s : State) (t : Nat) (w : Twin), s.tidy = true → s.rzOn = true → s.active = some w →
    (∀ x : RzWrite, s.rz.grant = none → s.rz.txn = none → (match s.rz.lock with
        | none => (s.tw w).bridge.writes.head?
        | some (c, _, _) => (s.tw w).bridge.writes.find? (fun x => x.locked && decide (x.req = c))) = some x →
      ∃ u, exec (.rzOutboundWrite t) s = .next u ∧ u = { s.beginAt t with
        out := [.rz 3 x.addr x.data.toNat]
        rz := { s.rz with txn := some ⟨3, x.addr, [], x.data, x.req, x.locked, 0, none, false⟩ } }) ∧
    (∀ (c : Fin 16) (addr : Nat), addr < 2 ^ 32 →
      (∀ v, (s.beginAt t).pfWord w addr = some v → ∃ u, exec (.rzOutboundRead t (.core w c) addr) s = .next u ∧
        u = { s.beginAt t with out := [.readData v] }) ∧
      (s.rz.grant = none → s.rz.txn = none → s.rz.lock = none → (s.tw w).bridge.writes = [] → (s.tw w).bridge.reads = [] →
        let r : RzRead := { addr := addr, req := c.val, locked := false, after := 0, asked := max s.now t }
        let q : RzRead := { r with locked := true }
        ((s.beginAt t).pfWord w addr = none → ∃ u, exec (.rzOutboundRead t (.core w c) addr) s = .next u ∧
          u.rz = { s.rz with txn := some (s.readTxn w r) } ∧ u.out = [.rz (s.readTxn w r).cmd (s.readTxn w r).addr 0] ∧
          u = { (s.beginAt t).modBridge w (fun b => { b with reads := [r] }) with out := u.out, rz := u.rz }) ∧
        (s.rb Reg.RZP_CFG Fld.RZP_CFG_QM16_LOCK = true → ∃ u, exec (.rzLockedRead t w c addr) s = .next u ∧
          u.rz = { s.rz with txn := some (s.readTxn w q), lock := some (c.val, max s.now t, addr) } ∧ u.out = [.rz 0xE addr 0] ∧
          u = { (s.beginAt t).modBridge w (fun b => { b with reads := [q] }) with out := u.out, rz := u.rz })) ∧
      (s.rb Reg.RZP_CFG Fld.RZP_CFG_QM16_LOCK = false → ∃ u, exec (.rzLockedRead t w c addr) s = .next u ∧ u = s.beginAt t)) ∧
    (∀ x : RzTxn, s.rz.txn = some x → x.again = false → s.rz.grant = none → s.mainOff = false →
      let bus : Nat → Bool := fun a => twins.any (fun y => [Reg.BRDG_WLOG_STAT y].contains a) || [Reg.RZP_CNT, Reg.DEV_STAT].contains a
      let logs : Nat → Bool := fun a => twins.any (fun y => decide (y.base + 0xC0100 ≤ a ∧ a < y.base + 0xC0200))
      let kept : State → State := fun u => { s.beginAt t with rz := u.rz }
      let logged : Nat → State → Prop := fun reason u => ∀ i, i < 16 → (∀ k, k < i → bitAt (s.rf (Reg.BRDG_WLOG_STAT w) Fld.BRDG_WLOG_STAT_VALID) k = true) →
        bitAt (s.rf (Reg.BRDG_WLOG_STAT w) Fld.BRDG_WLOG_STAT_VALID) i = false →
          bitAt (u.rf (Reg.BRDG_WLOG_STAT w) Fld.BRDG_WLOG_STAT_VALID) i = true ∧ u.rdLE (w.base + 0xC0100 + 16 * i) 4 = x.phase % 2 ^ 32 ∧
          (u.rdB (w.base + 0xC0100 + 16 * i + 5)).toNat = 15 + 16 * reason
      (x.cmd ≠ 3 → x.range = none → (∃ r, (s.tw w).bridge.reads = [r] ∧ r.addr = x.addr ∧ r.locked = x.locked) →
        let none_ : State → Prop := fun u => .readData 0xFFFFFFFF ∈ u.out ∧ u.rz.txn = none ∧
          (x.req = 16 → u.rb Reg.DEV_STAT Fld.DEV_STAT_NOTWIN_RD = true ∧ u.evtPending 27 = true) ∧ framed bus nowhere (kept u) u
        (∀ v, (s.beginAt t).hostLate x = false → ∃ u, exec (.rzTargetResponse t (.ready v)) s = .next u ∧ u.out = [.readData v] ∧ u.rz.txn = none ∧
          (u.tw w).bridge.reads = [] ∧ framed nowhere nowhere (kept u) u) ∧
        (∀ v, (s.beginAt t).hostLate x = true → ∃ u, exec (.rzTargetResponse t (.ready v)) s = .next u ∧ none_ u ∧ (u.tw w).bridge.reads = []) ∧
        (∃ u, exec (.rzTargetResponse t .error) s = .next u ∧ none_ u) ∧ (∃ u, exec (.rzPhaseTimeout t) s = .next u ∧ none_ u)) ∧
      (x.cmd = 3 → (s.tw w).bridge.reads = [] →
        (∀ v, ∃ u, exec (.rzTargetResponse t (.ready v)) s = .next u ∧ u.out = [] ∧ u.rz.txn = none ∧
          (x.locked = true → u.rz.lock = none) ∧ framed nowhere nowhere (kept u) u) ∧
        (∃ u, exec (.rzTargetResponse t .error) s = .next u ∧ u.rz.txn = none ∧ logged 1 u ∧ framed bus logs (kept u) u ∧
          (s.rb (Reg.BRDG_EVT_CTL w) Fld.BRDG_EVT_CTL_WERR_EN = true → (s.tw w).marked 84 = false → u.evtTwinPending w 84 = true)) ∧
        (∃ u, exec (.rzPhaseTimeout t) s = .next u ∧ u.rz.txn = none ∧ logged 2 u ∧ framed bus logs (kept u) u)) ∧
      (x.retries < 8 → ∃ u, exec (.rzTargetResponse t .retry) s = .next u ∧ u.rz = { s.rz with txn := some { x with retries := x.retries + 1 } } ∧
        u.reg Reg.RZP_CNT = countUp (s.reg Reg.RZP_CNT) Fld.RZP_CNT_RETRY ∧ onlyRegs [Reg.RZP_CNT] { s.beginAt t with rz := u.rz } u)) ∧
    (∀ c from_ a, s.rz.lock = some (c, from_, a) → s.rz.txn = none → s.rz.grant = none → (s.tw w).bridge.writes = [] → (s.tw w).bridge.reads = [] →
      ∃ u, exec .rzLockTimeout s = .next u ∧ u.rz = { s.rz with lock := none } ∧ u.now = max s.now (from_ + 10000) ∧
        u.reg Reg.RZP_CNT = countUp (s.reg Reg.RZP_CNT) Fld.RZP_CNT_LOCK_TO ∧
        (s.rb (Reg.BRDG_EVT_CTL w) Fld.BRDG_EVT_CTL_LOCK_EN = true → (s.tw w).marked 87 = false → u.evtTwinPending w 87 = true) ∧
        framed (fun x => decide (x = Reg.RZP_CNT)) nowhere { s with now := u.now, rz := u.rz } u) ∧
    (∃ u, exec (.rzPrefetchExpire t) s = .next u ∧ u = { s.beginAt t with a := u.a, b := u.b } ∧
      ∀ y : Twin, u.tw y = { s.tw y with
        bridge := { (s.tw y).bridge with
          held := (s.tw y).bridge.held.filter (fun h => decide (max s.now t < h.2.2.1 + 10000)) } })

/-- R436, R437, R443, R444: a far initiator is granted the idle bus; a grant that is lost ends and is counted, 4 clocks of 10 ns after it at the
earliest; a crossing grants the far
initiator and keeps the transaction for its reissue. A granted access reaches the mailbox, a semaphore or the inbound window, ends the
grant, and outside every claim ends in error. A semaphore that is free is taken by the reader, and freed by a write of its owner alone.
R442: a sample of the lines shows its levels in each twin that runs, sets PEND of each masked line that has changed or fallen as EDGE
says, and raises E86 for a new one. -/
def Obligations.RhizoidFarInitiatorsSemaphoresAndLines : Prop :=
  (∀ (s : State) (t : Nat), s.tidy = true → s.rzOn = true →
     (∀ far : Fin 2,
       (s.rzIdle = true → s.rz.lock = none → ∃ u, exec (.rzRequest t far) s = .next u ∧
         u = { s.beginAt t with rz := { s.rz with grant := some (far.val, max s.now t), last := far.val } }) ∧
       (s.rzIdle = false ∨ s.rz.lock.isSome = true → ∃ u, exec (.rzRequest t far) s = .next u ∧ u = s.beginAt t) ∧
       (∀ x, s.rz.txn = some x → x.again = false → s.rz.lock = none → x.retries < 8 → ∃ u, exec (.rzCrossing t far) s = .next u ∧
         u.rz = { s.rz with
           grant := some (far.val, max s.now t)
           last := far.val
           txn := some { x with retries := x.retries + 1, again := true } } ∧
         u.reg Reg.RZP_CNT = countUp (countUp (s.reg Reg.RZP_CNT) Fld.RZP_CNT_CROSS) Fld.RZP_CNT_RETRY ∧
         onlyRegs [Reg.RZP_CNT] { s.beginAt t with rz := u.rz } u) ∧
       (∀ at_ addr, s.rz.grant = some (far.val, at_) → s.rz.txn = none → (∀ y : Twin, (s.tw y).bridge.reads = []) →
         let a := addr / 4 * 4
         let mbx := s.rf Reg.RZP_MBX Fld.RZP_MBX_BASE * 0x20000
         let claimed : Bool := s.rb Reg.RZP_MBX Fld.RZP_MBX_EN && decide (mbx ≤ a ∧ a - mbx < 0x10080)
         let ended : State → State := fun u => { s.beginAt t with out := u.out, rz := { s.rz with grant := none } }
         (∀ word v, claimed = true → a = mbx + 4 * word → word < 16384 → s.mbxB = none →
           ∃ u, exec (.rzInbound t far addr (.write v)) s = .next u ∧ u.mbxWord word = mergeBytes (s.mbxWord word) v ∧
           framed nowhere (fun x => decide (mbxAddr word ≤ x ∧ x < mbxAddr word + 4)) { ended u with mbxA := u.mbxA } u) ∧
         (∀ n, claimed = true → a = mbx + 0x10000 + 4 * n → n < 32 → s.rf (Reg.RZP_SEM n) Fld.RZP_SEM_OWNER = 31 →
           ∃ u, exec (.rzInbound t far addr .read) s = .next u ∧ u.out = [.readData (BitVec.ofNat 32 (2 ^ 31 + 17 + far.val))] ∧
           u.rf (Reg.RZP_SEM n) Fld.RZP_SEM_OWNER = 17 + far.val ∧ onlyRegs [Reg.RZP_SEM n] (ended u) u) ∧
         (∀ d v, claimed = false → s.inWindow a = some d → (s.reach .mirror).1 ≠ [] → ∃ u, exec (.rzInbound t far addr (.write v)) s = .next u ∧
           (∀ y : Twin, (u.tw y).bridge.held = []) ∧
           (∀ y : Twin, y ∈ (s.reach .mirror).1 → u.rdLE (Addr.dram y d) 4 = (mergeBytes (BitVec.ofNat 32 (s.rdLE (Addr.dram y d) 4)) v).toNat) ∧
           onlyAt [] (fun x => twins.any (fun y => (s.reach .mirror).1.contains y && decide (Addr.dram y d ≤ x ∧ x < Addr.dram y d + 4)))
             { ended u with a := u.a, b := u.b } u) ∧
         (claimed = false → s.inWindow a = none → ∃ u, exec (.rzInbound t far addr .read) s = .next u ∧ u.out = [.rz 0x10 a 0] ∧ u = ended u))) ∧
     (∀ g at_, s.rz.grant = some (g, at_) →
       (at_ + 40 ≤ max s.now t → s.rz.txn = none → (∀ y : Twin, (s.tw y).bridge.reads = []) → ∃ u, exec (.rzGrantLost t) s = .next u ∧
         u.reg Reg.RZP_CNT = countUp (s.reg Reg.RZP_CNT) Fld.RZP_CNT_CROSS ∧
         onlyRegs [Reg.RZP_CNT] { s.beginAt t with rz := { s.rz with grant := none } } u) ∧
       (max s.now t < at_ + 40 → ∃ u, exec (.rzGrantLost t) s = .next u ∧ u = s.beginAt t)) ∧
     (∀ (src : Requester) (n : Fin 32) (v : Word), s.thAllows src = true →
       let h := s.rf (Reg.RZP_SEM n) Fld.RZP_SEM_OWNER
       (∃ u, exec (.rzpSemRead t src n) s = .next u ∧
         u.out = [.readData (if h = 31 then BitVec.ofNat 32 (2 ^ 31 + Requester.brdg src) else BitVec.ofNat 32 h)] ∧
         u.rf (Reg.RZP_SEM n) Fld.RZP_SEM_OWNER = (if h = 31 then Requester.brdg src else h) ∧
         onlyRegs [Reg.RZP_SEM n] { s.beginAt t with out := u.out, rz := { s.rz with seen := u.rz.seen } } u) ∧
       (∃ u, exec (.rzpSemWrite t src n v) s = .next u ∧ u.rf (Reg.RZP_SEM n) Fld.RZP_SEM_OWNER = (if h = Requester.brdg src then 31 else h) ∧
         onlyRegs [Reg.RZP_SEM n] (s.beginAt t) u))) ∧
  (∀ (s : State) (t : Nat) (lines : Byte) (w : Twin), s.tidy = true → s.rzOn = true → s.roleOf w ≠ .off →
     let r := Reg.BRDG_LINE w
     let moved : Nat → Bool := fun i => bitAt (s.rf r Fld.BRDG_LINE_MASK) i &&
       (if bitAt (s.rf r Fld.BRDG_LINE_EDGE) i then bitAt s.rz.level i != bitAt lines.toNat i
        else bitAt s.rz.level i && !bitAt lines.toNat i)
     ∃ u, exec (.rzLinePoll t lines) s = .next u ∧ u.rf r Fld.BRDG_LINE_LEVEL = lines.toNat ∧ u.rz = { s.rz with level := lines.toNat } ∧
       (∀ i, i < 8 → bitAt (u.rf r Fld.BRDG_LINE_PEND) i = (bitAt (s.rf r Fld.BRDG_LINE_PEND) i || moved i)) ∧
       ((∃ i, i < 8 ∧ moved i = true ∧ bitAt (s.rf r Fld.BRDG_LINE_PEND) i = false) →
         s.rb (Reg.BRDG_EVT_CTL w) Fld.BRDG_EVT_CTL_LINE_EN = true → (s.tw w).marked 86 = false → u.evtTwinPending w 86 = true) ∧
       framed (fun x => [Reg.BRDG_LINE .a, Reg.BRDG_LINE .b].contains x) nowhere { s.beginAt t with rz := u.rz } u)

/-- R447: a write of CTL_KEY_DATA stores its word of the selected key, which is valid from its eighth word on; CLEAR makes a key invalid and
ends its sessions; 10 s of TB3 without an accepted message end a session. R446 to R449: a HELLO under a valid key opens a session, one with
a wrong tag is counted; a CLOSE that its session accepts ends it; a READ of a word of the Thallus is answered with it, and a WRITE of one
stores it, by the ACTIVE twin. The tag function is opaque and its inputs are laid out as notes/assumptions/31.md says (the model's reading).
-/
def Obligations.ControlSessionsAndMessages : Prop :=
  (∀ (s : State) (t : Nat) (w : Twin), s.tidy = true →
     (∀ via (v : Word), w ∈ (s.reach via).1 →
       let r := Reg.CTL_KEY_SEL w
       let i := s.rf r Fld.CTL_KEY_SEL_INDEX
       let k := s.rf r Fld.CTL_KEY_SEL_WORD
       (Smap.wf (fun _ => 0) (s.ctl w).words = true → ∃ u, exec (.ctlKeyData t via v) s = .next u ∧
         Smap.get 0 (u.ctl w).words (8 * i + k) = v ∧ u.rf r Fld.CTL_KEY_SEL_WORD = (k + 1) % 8 ∧
         (k = 7 → bitAt (u.rf r Fld.CTL_KEY_SEL_VALID) i = true) ∧
         (k ≠ 7 → u.rf r Fld.CTL_KEY_SEL_VALID = s.rf r Fld.CTL_KEY_SEL_VALID) ∧
         (∀ x, x ≠ 8 * i + k → Smap.get 0 (u.ctl w).words x = Smap.get 0 (s.ctl w).words x) ∧ (u.ctl w).sessions = (s.ctl w).sessions ∧
         onlyRegs [Reg.CTL_KEY_SEL .a, Reg.CTL_KEY_SEL .b] { s.beginAt t with a := u.a, b := u.b } u) ∧
       (∃ u, exec (.ctlKeyClear t via v) s = .next u ∧ u.rf r Fld.CTL_KEY_SEL_INDEX = getFld v Fld.CTL_KEY_SEL_INDEX ∧
         u.rf r Fld.CTL_KEY_SEL_WORD = getFld v Fld.CTL_KEY_SEL_WORD ∧
         (getFld v Fld.CTL_KEY_SEL_CLEAR = 1 → bitAt (u.rf r Fld.CTL_KEY_SEL_VALID) (getFld v Fld.CTL_KEY_SEL_INDEX) = false ∧
           (u.ctl w).sessions = (s.ctl w).sessions.filter (fun x => decide (x.keyIx ≠ getFld v Fld.CTL_KEY_SEL_INDEX))) ∧
         (getFld v Fld.CTL_KEY_SEL_CLEAR = 0 → u.ctl w = s.ctl w) ∧
         onlyRegs [Reg.CTL_KEY_SEL .a, Reg.CTL_KEY_SEL .b] { s.beginAt t with a := u.a, b := u.b } u)) ∧
     (∃ u, exec (.ctlSessionTimeout t) s = .next u ∧ u = { s.beginAt t with a := u.a, b := u.b } ∧
       u.tw w = { s.tw w with
         ctl := { s.ctl w with
           sessions := (s.ctl w).sessions.filter (fun x => decide ((s.beginAt t).tbNow 3 < x.heard + 10000000000)) } })) ∧
  (∀ (s : State) (t : Nat) (n : Fin 4) (msg : List Byte) (w : Twin), s.tidy = true → s.active = some w → s.netFlag w n 4 = true →
     s.inNap = false → s.dev.inReset = false → s.mainOff = false →
     let live := (s.ctl w).sessions.filter (fun x => decide ((s.beginAt t).tbNow 3 < x.heard + 10000000000))
     let stat : Nat → Bool := fun x => [Reg.CTL_STAT .a, Reg.CTL_STAT .b].contains x
     (∀ k, msgForm msg 1 = true → msgLen msg = 20 → s.ctlKey w (msgN msg 16 1) = some k →
       (msgTagOk k msg = true → (live.filter (fun x => decide (x.port = n.val))).length < 8 → ∃ u x, exec (.ctlHello t n msg) s = .next u ∧
         (u.ctl w).sessions = live ++ [x] ∧ x.port = n.val ∧ x.num = Smap.get 0 (s.ctl w).opened n + 1 ∧ x.keyIx = msgN msg 16 1 ∧
         x.high = 0 ∧ (∃ bs, .net n bs ∈ u.out) ∧ framed stat nowhere (s.beginAt t) u) ∧
       (msgTagOk k msg = false → ∃ u, exec (.ctlHello t n msg) s = .next u ∧ (u.ctl w).sessions = live ∧
         u.reg (Reg.CTL_STAT w) = countUp (s.reg (Reg.CTL_STAT w)) Fld.CTL_STAT_AUTH ∧ framed stat nowhere (s.beginAt t) u)) ∧
     (∀ x, live.find? (fun x => decide (x.port = n.val) && decide (x.num = msgN msg 4 4)) = some x → msgTagOk x.key msg = true →
       x.accepts (msgN msg 8 4) = true →
       (msgForm msg 6 = true → ∃ u, exec (.ctlClose t n msg) s = .next u ∧
         (u.ctl w).sessions.any (fun y => decide (y.port = n.val) && decide (y.num = x.num)) = false ∧ framed stat nowhere (s.beginAt t) u) ∧
       (∀ a, a % 4 = 0 → 0x8000 ≤ a → a < 0xF000 → msgN msg 16 4 = a → ctlCount msg = 1 →
         (msgForm msg 3 = true → msgLen msg = 8 → ∃ u, exec (.ctlRead t n msg) s = .next u ∧
           .net n (ctlReply 5 x.num (msgN msg 8 4) 0 (s.rdBytes a 4) x.key) ∈ u.out ∧ framed stat nowhere (s.beginAt t) u) ∧
         (msgForm msg 4 = true → msgLen msg = 12 → ∃ u, exec (.ctlWrite t n msg) s = .next u ∧
           .net n (ctlReply 5 x.num (msgN msg 8 4) 0 [] x.key) ∈ u.out ∧ u.rdLE a 4 = msgN msg 24 4 ∧
           framed (fun x => stat x || decide (x = Reg.HOST_RELAY_ADDR)) (fun x => decide (a ≤ x ∧ x < a + 4)) (s.beginAt t) u))))

/-! ### Power (chapter 17) -/

/-- R456, R459, R468: a request while no transition is in progress: RUN or DIM waits for its tick, NAP or DARK for its attempt 2 µs later
where the image allows it, and is refused with reason 9 and E10 where it does not; during a transition it is held; one for the state in
force does nothing; this holds of PWR_REQ_RUN, PWR_REQ_DIM, PWR_REQ_NAP and PWR_REQ_DARK. A change of state takes effect at its tick, with its
operating point. Power-off sequencing with the key ends in DARK. -/
def Obligations.PowerRequestsAreTaken : Prop :=
  ∀ (s : State) (t : Nat) (src : Requester), s.tidy = true → s.thAllows src = true →
    (∀ v : Word,
      let each_ : (State → Prop) → Prop := fun p =>
        (∃ u, exec (.pwrReqRun t src v) s = .next u ∧ p u) ∧ (∃ u, exec (.pwrReqDim t src v) s = .next u ∧ p u) ∧
        (∃ u, exec (.pwrReqNap t src v) s = .next u ∧ p u) ∧ (∃ u, exec (.pwrReqDark t src v) s = .next u ∧ p u)
      getFld v Fld.PWR_CTL_FORCE = 0 → s.wakeFailed = false → s.powerState ≠ 4 →
      let code := getFld v Fld.PWR_CTL_REQ
      (s.powerPhase = 0 →
        (code = 1 ∨ code = 2 → s.powerState = 1 ∨ s.powerState = 2 → code ≠ s.powerState → each_ fun u =>
          u = { s.beginAt t with pwr := { s.pwr with change := some (code, max s.now t) } }) ∧
        (1 ≤ code → code = s.powerState → each_ fun u => u = s.beginAt t) ∧
        (code = 3 ∨ code = 4 → code ≠ s.powerState →
          ((if code = 3 then s.napEn s.powerTwin else s.darkEn s.powerTwin) = true → each_ fun u =>
            u.pwr = { s.pwr with sleep := some ⟨code, max s.now t + 2000, max s.now t⟩ } ∧ u.rd64 Reg.PWR_REQ_TS = (s.beginAt t).stamp3 ∧
            u.rf Reg.PWR_REFUSE Fld.PWR_REFUSE_TRIES = 0 ∧
            onlyRegs [Reg.PWR_REQ_TS, Reg.PWR_REQ_TS + 4, Reg.PWR_REFUSE] { s.beginAt t with pwr := u.pwr } u) ∧
          ((if code = 3 then s.napEn s.powerTwin else s.darkEn s.powerTwin) = false → s.once.seen = [] → each_ fun u =>
            u.pwr = { s.pwr with sleep := none } ∧ u.rf Reg.PWR_REFUSE Fld.PWR_REFUSE_REASON = 9 ∧ u.rf Reg.PWR_REFUSE Fld.PWR_REFUSE_BLOCK = 0 ∧
            u.rd64 Reg.PWR_REFUSE_TS = (s.beginAt t).stamp3 ∧ u.evtPending 10 = true ∧
            framed (fun x => [Reg.PWR_REQ_TS, Reg.PWR_REQ_TS + 4, Reg.PWR_REFUSE, Reg.PWR_REFUSE_TS, Reg.PWR_REFUSE_TS + 4].contains x) nowhere
              { s.beginAt t with pwr := u.pwr } u))) ∧
      (s.powerPhase ≠ 0 → 3 ≤ code → code ≤ 4 → each_ fun u =>
        u.reg Reg.PWR_STAT = withFld (s.reg Reg.PWR_STAT) Fld.PWR_STAT_HELD code ∧ onlyRegs [Reg.PWR_STAT] (s.beginAt t) u)) ∧
    (∀ code arrival, s.pwr.change = some (code, arrival) → code = 1 ∨ code = 2 → s.tg.ran = true → arrival + 2000 ≤ s.tg.cur.raw →
      s.powerPhase = 0 → s.pwr.opp = none → ∃ u, exec .pwrStateChange s = .next u ∧ u.powerState = code ∧ u.pwr.change = none ∧
        (let wanted := s.rf Reg.PWR_OPP (if code = 2 then Fld.PWR_OPP_DIM_OPP else Fld.PWR_OPP_RUN_OPP)
         u.pwr.vsel = if wanted = s.opp then s.pwr.vsel else wanted) ∧
        onlyRegs [Reg.PWR_STAT] { s with out := [], pwr := u.pwr } u) ∧
    (∀ (key : Byte) (answers : Bool), s.fiddlehead .a = false → s.fiddlehead .b = false →
      (key = 0x5A → ∃ u, exec (.powerOffSequencing t src key answers) s = .next u ∧ u.mainOff = true ∧ u.role = ⟨.off, .off⟩ ∧
        u.powerState = 4 ∧ u.powerPhase = 0 ∧ u.rdB 0xF004 = (if answers then 0xA5 else 0) ∧ u.pwr.saved.isSome = answers ∧
        u.pending = s.pending ∧ ∀ a, a ≠ 0xF004 → evtByte a = false → u.rdB a = s.rdB a) ∧
      (key ≠ 0x5A → ∃ u, exec (.powerOffSequencing t src key answers) s = .next u ∧
        u.reg Reg.DEV_STAT = countUp (s.reg Reg.DEV_STAT) Fld.DEV_STAT_KEY_ERR ∧ onlyRegs [Reg.DEV_STAT] (s.beginAt t) u))

/-- R452 to R454: a write of PWR_OPP changes its two fields and waits for a tick; a raise ends OPP_SETTLE after its setpoint with both
power-goods high, with the new frequency, or at PG_TO goes back with the twins whose power-good is low flagged; a lowering ends after
OPP_SETTLE. -/
def Obligations.OperatingPointChanges : Prop :=
  ∀ (s : State) (t : Nat), s.tidy = true →
    (∀ (src : Requester) (v : Word), s.thAllows src = true → ∃ u, exec (.pwrOppWrite t src v) s = .next u ∧
      u.reg Reg.PWR_OPP = (s.reg Reg.PWR_OPP &&& 0xFFFFFFF0) ||| (v &&& 0xF) ∧
      onlyRegs [Reg.PWR_OPP] { s.beginAt t with pwr := { s.pwr with oppWait := some (max s.now t) } } u) ∧
    (∀ (c : OppChange) (pgA pgB : Bool), s.pwr.opp = some c → c.new < c.old → c.new < 4 →
      let raised : State → Prop := fun u => u.pwr = { s.pwr with opp := none } ∧ u.rf Reg.PWR_STAT Fld.PWR_STAT_OPP_A = c.new ∧
        u.rf Reg.PWR_STAT Fld.PWR_STAT_OPP_B = c.new ∧ onlyRegs [Reg.PWR_STAT] { s with now := u.now, out := [], pwr := u.pwr } u
      (c.since + s.oppSettle ≤ max s.now t → pgA = true → pgB = true → ∃ u, exec (.oppRaiseSettle t pgA pgB) s = .next u ∧ raised u ∧
        u.now = max s.now t) ∧
      (max s.now t < c.since + s.oppSettle ∨ pgA = false ∨ pgB = false → ∃ u, exec (.oppRaiseSettle t pgA pgB) s = .next u ∧ u = s.beginAt t) ∧
      (∃ u, exec (.oppPgTimeout pgA pgB) s = .next u ∧ u.now = max s.now (c.since + s.pgTimeout) ∧
        (pgA = true → pgB = true → raised u) ∧
        (pgA = false ∨ pgB = false → u.pwr = { s.pwr with opp := none, vsel := c.old } ∧
          (pgA = false → s.roleOf .a ≠ .off → s.roleOf .a ≠ .isolated → bitAt (u.reg Reg.PERI_HEALTH_A).toNat 6 = true) ∧
          (pgB = false → s.roleOf .b ≠ .off → s.roleOf .b ≠ .isolated → bitAt (u.reg Reg.PERI_HEALTH_B).toNat 6 = true) ∧
          onlyRegs [Reg.PERI_HEALTH_A, Reg.PERI_HEALTH_B] { s with now := u.now, out := [], pwr := u.pwr, peri := u.peri } u))) ∧
    (∀ c : OppChange, s.pwr.opp = some c → c.old < c.new → ∃ u, exec .oppLowerSettle s = .next u ∧
      u = { s with now := max s.now (c.since + s.oppSettle), clock := u.clock, out := [], pwr := { s.pwr with opp := none } })

/-- R457 to R459: an attempt begins at a tick with step 1 and is counted; a sequence to NAP whose steps have nothing to wait for or to
refuse ends in NAP with E9; step 1 refuses while an arbitration is pending, and a step that waits too long refuses, each with its block, its
reason and E10. A step with nothing to wait for ends at once (the model's choice, notes/assumptions/26.md). -/
def Obligations.SleepSequenceSteps : Prop :=
  ∀ (s : State) (t : Nat) (q : SleepReq), s.tidy = true → s.mainOff = false → s.pwr.sleep = some q →
    let refused : Nat → Nat → State → Prop := fun block reason u => u.powerPhase = 0 ∧ u.rf Reg.PWR_REFUSE Fld.PWR_REFUSE_BLOCK = block ∧
      u.rf Reg.PWR_REFUSE Fld.PWR_REFUSE_REASON = reason ∧ u.rd64 Reg.PWR_REFUSE_TS = (s.beginAt t).stamp3 ∧ u.evtPending 10 = true ∧
      framed (fun x => [Reg.PWR_REFUSE, Reg.PWR_REFUSE_TS, Reg.PWR_REFUSE_TS + 4, Reg.PWR_STAT].contains x) nowhere { s.beginAt t with pwr := u.pwr } u
    (s.powerPhase = 0 → s.tg.ran = true → q.from_ ≤ s.tg.cur.raw → ∃ u, exec .sleepRetry s = .next u ∧ u.powerPhase = 1 ∧
      u.reg Reg.PWR_REFUSE = countUp (s.reg Reg.PWR_REFUSE) Fld.PWR_REFUSE_TRIES ∧ u.pwr = { s.pwr with sleep := some { q with stepAt := s.now } } ∧
      onlyRegs [Reg.PWR_STAT, Reg.PWR_REFUSE] { s with out := [], pwr := u.pwr } u) ∧
    (s.rf Reg.PWR_STAT Fld.PWR_STAT_HELD = 0 → s.once.seen = [] →
      (s.powerPhase = 1 → s.latchDue = none → s.peri.arb = none → s.rf Reg.PERI_RESYNC Fld.PERI_RESYNC_PHASE = 0 → q.target = 3 →
        (∀ w, s.active = some w → s.graftState w = 0) → s.flashBusy 1 = false → s.coresBusy = false → s.ringsBusy = false →
        s.postedWrites = false → s.rz.lock = none → s.twinInCal s.now = false → ∃ u, exec (.sleepSequence t) s = .next u ∧ u.powerState = 3 ∧ u.powerPhase = 0 ∧
          u.pwr.sleep = none ∧ u.pwr.stopped = true ∧ u.pwr.before = s.powerState ∧
          u.pwr.ports = (if s.rb Reg.PWR_CFG Fld.PWR_CFG_NAP_SAFE then 2 else 1) ∧ u.role = s.role ∧ u.evtPending 9 = true) ∧
      (s.powerPhase = 1 → s.latchDue = none → s.peri.arb.isSome = true → ∃ u, exec (.sleepSequence t) s = .next u ∧ refused 1 1 u) ∧
      (s.powerPhase = 3 → s.coresBusy = true → q.stepAt + 1000000 ≤ max s.now t → ∃ u, exec (.sleepStepTimeout t) s = .next u ∧ refused 3 5 u) ∧
      (s.powerPhase = 4 → s.ringsBusy = true → q.stepAt + 1000000 ≤ max s.now t → ∃ u, exec (.sleepStepTimeout t) s = .next u ∧ refused 4 6 u))

/-- R461 to R466, R162: a source that wakes from NAP gives back the state before the sleep, with its number, E13, and compute 300 µs later;
in DARK a source of 2, 3 and 5 starts a wake, whose end is a device reset with the events that DARK held pending, RESTORE_BAD where nothing
was saved. The alarm is source 5, a matching frame source 3; a source that does not wake the part does nothing. R466, R467: in a wake from
DARK the first timeout of a power-good or a lock has one retry, that of the lock on XIN1 with E14; a second of the Thallus main domain or of
the lock is a wake failure with its domain and its step, and E11, held as every event in DARK is. A wake from NAP is whole at its source
(the model's choice, notes/assumptions/26.md). -/
def Obligations.WakesFromNapAndDark : Prop :=
  (∀ (s : State) (t : Nat), s.tidy = true → s.wakeFailed = false → s.powerPhase = 0 →
     let waking : Nat → State → Prop := fun source u => u.powerPhase = 10 ∧ u.pwr = { s.pwr with wake := some ⟨source, 1, false, 0, false, false⟩ }
     (∀ source : Fin 8, s.mainOff = false → s.powerState = 3 →
       (source.val = 1 ∨ source.val = 3 ∨ source.val = 4 ∨ source.val = 5 → s.pwr.before = 1 ∨ s.pwr.before = 2 → s.pwr.deferred = [] →
         s.cal.run = none → s.once.seen = [] → ∃ u, exec (.napWake t source) s = .next u ∧ u.powerState = s.pwr.before ∧ u.powerPhase = 0 ∧
           u.rf Reg.PWR_STAT Fld.PWR_STAT_WAKE_SRC = source.val ∧ u.pwr.resumeAt = some (max s.now t + 300000) ∧ u.evtPending 13 = true ∧
           (∀ (w : Twin) (n : Nat), n < 4 → s.roleOf w ≠ .off → u.rb (Reg.NET_LINK w n) Fld.NET_LINK_LINK_UP = false ∧
             (s.rb (Reg.NET_LINK w n) Fld.NET_LINK_LINK_UP = true → u.rb (Reg.NET_LINK w n) Fld.NET_LINK_CHG = true ∧ u.evtTwinPending w 40 = true)) ∧
           framed (fun x => decide (x = Reg.PWR_STAT) || (List.range 4).any (fun n => netReg n x) ||
             twins.any (fun w => (List.range 96).any (fun n => decide (x = Reg.BANK_STAT w n))))
             (fun x => twins.any (fun w => memInDram w x && (List.range 4).any (fun n => s.rb (Reg.NET_LINK w n) Fld.NET_LINK_LINK_UP)))
             { s.beginAt t with pwr := u.pwr, peri := u.peri } u) ∧
       (source.val = 0 ∨ source.val = 2 ∨ 6 ≤ source.val → ∃ u, exec (.napWake t source) s = .next u ∧ u = s.beginAt t)) ∧
     (s.powerState ≠ 3 → ∀ source, ∃ u, exec (.napWake t source) s = .next u ∧ u = s.beginAt t) ∧
     (∀ source : Fin 8, s.mainOff = true → s.pwr.wake = none →
       (source.val = 2 ∨ source.val = 3 ∨ source.val = 5 → s.pwr.saved = none → s.dev.testEn = false → ∃ u, exec (.darkWake t source) s = .next u ∧ u.mainOff = false ∧
         u.dev.inReset = false ∧ u.dev.releasedAt = max s.now t ∧ u.role = ⟨.off, .off⟩ ∧
         u.rf Reg.PWR_STAT Fld.PWR_STAT_WAKE_SRC = source.val ∧ u.rb Reg.PWR_STAT Fld.PWR_STAT_RESTORE_BAD = true ∧
         ∀ e ∈ s.heldEvents, e.1 < 256 → u.evtPending e.1 = true) ∧
       (source.val ≠ 2 → source.val ≠ 3 → source.val ≠ 5 → ∃ u, exec (.darkWake t source) s = .next u ∧ u = s.beginAt t)) ∧
     (s.mainOff = true → s.rb Reg.PWR_CFG Fld.PWR_CFG_ALARM_EN = true → s.tbNow 3 ≤ s.rd64 Reg.PWR_ALARM → ∃ u, exec .pwrAlarm s = .next u ∧
       waking 5 u ∧ u.now = max s.now (s.tb3.rawAt s.now (s.rd64 Reg.PWR_ALARM)) ∧
       onlyRegs [Reg.PWR_STAT] { s with now := u.now, out := [], pwr := u.pwr } u) ∧
     (s.rb Reg.PWR_CFG Fld.PWR_CFG_ALARM_EN = false → ∃ u, exec .pwrAlarm s = .next u ∧ u = { s with out := [] }) ∧
     (∀ (n : Fin 4) (i : Fin 32) (bytes : List Byte),
       (s.mainOff = true → s.wakeArmed s.powerTwin n = true → (List.range 32).find? (s.wakeEntry s.powerTwin n bytes) = some i.val →
         ∃ u, exec (.netWakeMatch t n i bytes) s = .next u ∧ waking 3 u ∧ u.rb (Reg.NWAKE_STAT n) Fld.NWAKE_STAT_MATCHED = true ∧
           u.rf (Reg.NWAKE_STAT n) Fld.NWAKE_STAT_ENTRY = i.val ∧
           u.rf (Reg.NWAKE_STAT n) Fld.NWAKE_STAT_COUNT = min (s.rf (Reg.NWAKE_STAT n) Fld.NWAKE_STAT_COUNT + 1) 255 ∧
           onlyRegs [Reg.NWAKE_STAT n, Reg.PWR_STAT] { s.beginAt t with pwr := u.pwr } u) ∧
       (s.wakeArmed s.powerTwin n = false → ∃ u, exec (.netWakeMatch t n i bytes) s = .next u ∧ u = s.beginAt t))) ∧
  (∀ (s : State) (t : Nat) (x : WakeSt), s.tidy = true → s.mainOff = true → s.pwr.wake = some x → s.once.seen = [] →
     let retry : Nat → Power := fun stage => { s.pwr with wake := some { x with stage := stage, retried := true, retryAt := max s.now t } }
     let failed : Nat → State → Prop := fun step u => u.pwr = { s.pwr with wake := none } ∧ u.powerPhase = 0 ∧ u.wakeFailed = true ∧
       u.rf Reg.PWR_FAIL Fld.PWR_FAIL_DOMAIN = 1 ∧ u.rf Reg.PWR_FAIL Fld.PWR_FAIL_STEP = step ∧ (11, 0) ∈ u.heldEvents ∧
       framed (fun a => [Reg.PWR_STAT, Reg.PWR_FAIL].contains a) nowhere { s.beginAt t with pwr := u.pwr } u
     (∀ (rail : Fin 16) (stage : Nat), (rail.val, stage) ∈ [(1, 1), (4, 3), (2, 4), (3, 4)] → x.stage ≤ stage → x.retried = false →
       ∃ u, exec (.wakePgTimeout t rail) s = .next u ∧ u = { s.beginAt t with pwr := retry stage }) ∧
     (x.stage ≤ 1 → x.retried = true → x.retryAt < max s.now t → ∃ u, exec (.wakePgTimeout t 1) s = .next u ∧ failed 1 u) ∧
     (x.stage ≤ 2 → x.retried = false → ∃ u, exec (.wakePllTimeout t) s = .next u ∧ u.pwr = retry 2 ∧
       u.rb Reg.PWR_STAT Fld.PWR_STAT_REF_XIN1 = true ∧ (14, 0) ∈ u.heldEvents ∧
       framed (fun a => decide (a = Reg.PWR_STAT)) nowhere { s.beginAt t with pwr := u.pwr } u) ∧
     (x.stage ≤ 2 → x.retried = true → x.retryAt < max s.now t → ∃ u, exec (.wakePllTimeout t) s = .next u ∧ failed 2 u))

/-- R469 to R471: a brownout warning is recorded with its rail and time, raises E12 and flags the twins of its rail; a twin's rail that
falls puts the twin OFF, a rail of the whole part resets it, the standby supply by a power-on reset; a twin's rail that recovers starts
the twin again while the other is ACTIVE, and the whole part by a reset when it is not; while TEST_EN is high the part stays in that reset
(R528, notes/assumptions/47.md). -/
def Obligations.SuppliesWarnResetAndRecover : Prop :=
  ∀ (s : State) (t : Nat), s.tidy = true → s.mainOff = false →
    (∀ (rail : Fin 16) (high : Bool),
      (rail.val ≤ 5 → s.once.seen = [] → ∃ u, exec (.brownoutWarn t rail high) s = .next u ∧
        u.reg Reg.PWR_BO = countUp (s.reg Reg.PWR_BO ||| BitVec.ofNat 32 (2 ^ rail.val)) Fld.PWR_BO_COUNT ∧
        u.rd64 Reg.PWR_BO_TS = (s.beginAt t).stamp3 ∧ u.evtPending 12 = true ∧
        (rail.val = 2 ∨ rail.val = 4 → s.roleOf .a ≠ .off → s.roleOf .a ≠ .isolated → bitAt (u.reg Reg.PERI_HEALTH_A).toNat 6 = true) ∧
        (rail.val = 3 ∨ rail.val = 4 → s.roleOf .b ≠ .off → s.roleOf .b ≠ .isolated → bitAt (u.reg Reg.PERI_HEALTH_B).toNat 6 = true) ∧
        framed (fun x => [Reg.PWR_BO, Reg.PWR_BO_TS, Reg.PWR_BO_TS + 4, Reg.PERI_HEALTH_A, Reg.PERI_HEALTH_B].contains x) nowhere
          { s.beginAt t with peri := u.peri, cal := u.cal } u) ∧
      (5 < rail.val → ∃ u, exec (.brownoutWarn t rail high) s = .next u ∧ u = s.beginAt t) ∧
      (rail.val = 0 → ∃ u, exec (.railReset t rail) s = .next u ∧ u.dev.inReset = true ∧ u.role = ⟨.off, .off⟩ ∧ u.pending = s.pending ∧
        ∀ a, keptAlways a = true → u.rdB a = s.rdB a) ∧
      (rail.val = 1 ∨ rail.val = 4 ∨ rail.val = 5 → ∃ u, exec (.railReset t rail) s = .next u ∧ u.dev.inReset = s.dev.testEn ∧
        (s.dev.testEn = false → u.dev.releasedAt = max s.now t + 1000) ∧ u.role = ⟨.off, .off⟩ ∧ u.pending = s.pending)) ∧
    (∀ w : Twin, s.fiddlehead w = false → ∃ u, exec (.railReset t (if w = .a then 2 else 3)) s = .next u ∧ u.roleOf w = .off ∧
      u.roleOf w.other = s.roleOf w.other ∧ u.railOff w = true ∧ u.railOff w.other = s.railOff w.other ∧ u.tw w = TwinState.reset ∧
      (s.active = some w → s.standby = some w.other → u.peri.lost = some w)) ∧
    (∀ w : Twin, s.railOff w = true → s.wakeFailed = false →
      (s.active = some w.other → s.rb Reg.TWIN_CTL (Fld.rst w) = false → ∃ u, exec (.railRecover t w) s = .next u ∧
        u.railOff w = false ∧ (fwBad 0 s = none → u.boot.start w = some (max s.now t)) ∧ u.role = s.role ∧ u.mem = s.mem) ∧
      (s.active ≠ some w.other → ∃ u, exec (.railRecover t w) s = .next u ∧ u.dev.inReset = s.dev.testEn ∧ u.railOff w = false ∧
        (s.dev.testEn = false → u.dev.releasedAt = max s.now t + 1000) ∧ u.role = ⟨.off, .off⟩)) ∧
    (∀ w : Twin, s.railOff w = false → ∃ u, exec (.railRecover t w) s = .next u ∧ u = s.beginAt t)

/-! ### Update and replacement (chapter 18) -/

/-- R481 to R488: an activation with the key is refused with its reason, or sets the slot on trial: a twin that is not ACTIVE restarts at
once, the ACTIVE one waits for the swap; a trial that ends without confirmation reverts with E16; a confirmation by a Fiddlehead that is
ACTIVE or STANDBY-READY ends its trial with E15, any other on a private path is refused. A restart in place that waits begins at its tick,
at the latch when one is due, and its rebuild is noted. -/
def Obligations.FirmwareActivationAndTrials : Prop :=
  ∀ (s : State) (t : Nat), s.tidy = true → s.mainOff = false →
    (∀ (src : Requester) (v : Word), s.thAllows src = true →
      let w : Twin := if getFld v Fld.BOOT_CTL_TWIN = 1 then .b else .a
      let slot := getFld v Fld.BOOT_CTL_SLOT
      let reason := s.actReason w slot (decide (getFld v Fld.BOOT_CTL_FORCE = 1))
      (getFld v Fld.BOOT_CTL_ACT = 0 → ∃ u, exec (.bootAct t src v) s = .next u ∧ u = s.beginAt t) ∧
      (getFld v Fld.BOOT_CTL_ACT = 1 → getFld v Fld.BOOT_CTL_KEY ≠ 0x5A → ∃ u, exec (.bootAct t src v) s = .next u ∧
        u.reg Reg.DEV_STAT = countUp (s.reg Reg.DEV_STAT) Fld.DEV_STAT_KEY_ERR ∧ onlyRegs [Reg.DEV_STAT] (s.beginAt t) u) ∧
      (getFld v Fld.BOOT_CTL_ACT = 1 → getFld v Fld.BOOT_CTL_KEY = 0x5A →
        (reason ≠ 0 → ∃ u, exec (.bootAct t src v) s = .next u ∧
          u.reg Reg.BOOT_STAT = withFld (s.reg Reg.BOOT_STAT) Fld.BOOT_STAT_ACT_REASON reason ∧ onlyRegs [Reg.BOOT_STAT] (s.beginAt t) u) ∧
        (reason = 0 → s.boot.hand = none →
          let rec_ := s.boot.rec_.put w slot (s.rf Reg.BOOT_STAT (Fld.bootSlot w)) true
          (s.roleOf w ≠ .active → s.rb Reg.TWIN_CTL (Fld.iso w) = false → s.rb Reg.TWIN_CTL (Fld.rst w) = false →
            ∃ u, exec (.bootAct t src v) s = .next u ∧ u.boot.rec_ = rec_ ∧ u.flash = queueRecord s.flash ∧ u.roleOf w = .off ∧
              u.roleOf w.other = s.roleOf w.other ∧ (fwBad 0 s = none → u.boot.start w = some (max s.now t)) ∧ u.boot.trial w = none ∧
              u.tw w = TwinState.reset) ∧
          (s.roleOf w = .active → s.roleOf w.other = .ready → ∃ u, exec (.bootAct t src v) s = .next u ∧ u.boot.rec_ = rec_ ∧
            u.role = s.role ∧ u.swapDue = (s.addSwap { from_ := w, then_ := .restart, byHost := false }).swapDue ∧
            (s.swapDue = none → u.swapDue = some { from_ := w, then_ := .restart, byHost := false }) ∧
            onlyRegs [Reg.BOOT_STAT] { s.beginAt t with swapDue := u.swapDue, flash := queueRecord s.flash, boot := u.boot } u)))) ∧
    (∀ w : Twin, s.fiddlehead w = true → s.fiddlehead w.other = false → s.boot.hand = none → s.roleOf w ≠ .active →
      s.rb Reg.TWIN_CTL (Fld.iso w) = false →
      let reverted : State → Prop := fun u => u.boot.rec_ = { s.boot.rec_.put w (s.boot.rec_.prev w) (s.boot.rec_.prev w) false with held := none } ∧
        u.roleOf w = .off ∧ u.roleOf w.other = s.roleOf w.other ∧ u.rb Reg.BOOT_STAT (Fld.bootReverted w) = true ∧ u.evtPending 16 = true ∧
        u.boot.trial w = none ∧ u.flash = queueRecord s.flash
      (∀ x, s.boot.trial w = some x → x ≤ (s.beginAt t).tbNow 3 → ∃ u, exec (.trialExpired t) s = .next u ∧ reverted u) ∧
      (∀ x, s.boot.start w = some x → x + 5000000000 ≤ max s.now t → ∃ u, exec (.trialStartTimeout t) s = .next u ∧ reverted u)) ∧
    (∀ (w : Twin) (via : Via) (v : Word), w ∈ (s.reach via).1 →
      (v = 0xC5 → s.fiddlehead w = true → s.fiddlehead w.other = false → s.roleOf w = .ready ∨ s.roleOf w = .active →
        ∃ u, exec (.updHealthConfirm t via v) s = .next u ∧ u.boot.trial w = none ∧ u.evtPending 15 = true ∧
          u.boot.rec_ = { s.boot.rec_.put w (s.boot.rec_.slot w) (s.boot.rec_.prev w) false with held := none } ∧
          framed (fun x => decide (x = Reg.BOOT_STAT)) nowhere { s.beginAt t with boot := u.boot, flash := queueRecord s.flash } u) ∧
      (via ≠ .mirror → v ≠ 0xC5 ∨ s.fiddlehead w = false ∨ s.roleOf w ≠ .ready ∧ s.roleOf w ≠ .active →
        ∃ u, exec (.updHealthConfirm t via v) s = .next u ∧ u.rb (Reg.UPD_STAT w) Fld.UPD_STAT_CONF_REFUSED = true ∧
          onlyRegs [Reg.UPD_STAT w] (s.beginAt t) u)) ∧
    (∀ w arr, s.boot.inPlace = some (w, arr) → s.tg.ran = true → arr + 2000 ≤ s.tg.cur.raw → s.roleOf w = .active →
      (s.latchDue.isSome = true → ∃ u, exec (.inPlaceRestart t) s = .next u ∧ (u.boot.hand.map (·.w)) = some w ∧ u.boot.inPlace = none ∧
        u = { s.beginAt t with boot := { s.boot with inPlace := none, hand := u.boot.hand } }) ∧
      (s.latchDue = none → ∃ u, exec (.inPlaceRestart t) s = .next u ∧ (u.boot.hand.map (·.w)) = some w ∧
        u.roleOf w = .off ∧ (fwBad 0 s = none → u.boot.start w = some (max s.now t)) ∧ u.evtPending 7 = true ∧
        u.roleOf w.other = (if s.roleOf w.other = .off ∨ s.roleOf w.other = .isolated then s.roleOf w.other else .resync) ∧
        ∀ a, memInDram w a = true → u.rdB a = s.rdB a)) ∧
    (∀ h, s.boot.hand = some h → s.started h.w = true → ∃ u, exec (.inPlaceRebuildDone t) s = .next u ∧
      u = { s.beginAt t with boot := { s.boot with rebuilt := true } })

/-- R475 to R479, R490, R491: a verification of a slot waits for its channel and ends with its code, VERIFIED where that is 0; the boot
record that is due goes to the copy that is not in force, with the next SEQ; REJ_BOOT takes a verified slot alone; an OTP slot is
programmed once, with the bytes of the buffer, and a key is revoked while another can verify firmware, by the OP that OTP_PROGRAM or OTP_REVOKE
writes; a Fiddlehead that is ACTIVE writes
its migrated settings to the other half. -/
def Obligations.SlotsRecordsKeysAndSettings : Prop :=
  ∀ (s : State) (t : Nat), s.tidy = true →
    (∀ (src : Requester) (v : Word), s.thAllows src = true →
      let slot := getFld v Fld.BOOT_VERIFY_SLOT
      let busy : Bool := s.flashBusy 0 || decide (s.rf Reg.REJ_LOAD_STAT Fld.REJ_LOAD_STAT_SRC = 3)
      (busy = true ∨ 5 ≤ slot → ∃ u, exec (.bootVerify t src v) s = .next u ∧
        u.rf (Reg.FLASH_STAT 0) Fld.FLASH_STAT_REASON = (if busy then 1 else 2) ∧ onlyRegs [Reg.FLASH_STAT 0] (s.beginAt t) u) ∧
      (busy = false → slot < 5 → ∃ u, exec (.bootVerify t src v) s = .next u ∧ u.rb Reg.BOOT_STAT Fld.BOOT_STAT_VFY_BUSY = true ∧
        onlyRegs [Reg.BOOT_STAT] { s.beginAt t with flash := s.flash ++ [⟨0, 7, slot, 0, 0, []⟩] } u) ∧
      (bitAt (s.rf Reg.BOOT_STAT Fld.BOOT_STAT_VERIFIED) (3 + getFld v Fld.REJ_BOOT_PRIMARY) = true →
        ∃ u, exec (.rejBootWrite t src v) s = .next u ∧ u.reg Reg.REJ_BOOT = (s.reg Reg.REJ_BOOT &&& 0xFFFFFFFC) ||| (v &&& 3) ∧
          onlyRegs [Reg.REJ_BOOT] (s.beginAt t) u) ∧
      (bitAt (s.rf Reg.BOOT_STAT Fld.BOOT_STAT_VERIFIED) (3 + getFld v Fld.REJ_BOOT_PRIMARY) = false →
        ∃ u, exec (.rejBootWrite t src v) s = .next u ∧ u.rf Reg.BOOT_STAT Fld.BOOT_STAT_ACT_REASON = 1 ∧
          onlyRegs [Reg.BOOT_STAT] (s.beginAt t) u) ∧
      (let both : (State → Prop) → Prop := fun p =>
          (∃ u, exec (.otpProgram t src v) s = .next u ∧ p u) ∧ (∃ u, exec (.otpRevoke t src v) s = .next u ∧ p u)
        let n := getFld v Fld.OTP_KEY_CMD_SLOT
        let held := s.rf Reg.OTP_KEY_STAT (otpSlot n)
        let other : Bool := [0, 1, 2, 3].any (fun m => decide (m ≠ n) && fwKey (s.rf Reg.OTP_KEY_STAT (otpSlot m)))
        (getFld v Fld.OTP_KEY_CMD_KEY ≠ 0x5A → both fun u =>
          u.reg Reg.DEV_STAT = countUp (s.reg Reg.DEV_STAT) Fld.DEV_STAT_KEY_ERR ∧ onlyRegs [Reg.DEV_STAT] (s.beginAt t) u) ∧
        (getFld v Fld.OTP_KEY_CMD_KEY = 0x5A →
          (getFld v Fld.OTP_KEY_CMD_OP = 1 → bitAt held 0 = false → both fun u =>
            (∀ i, i < 96 → u.rdB (Addr.otp n i) = s.rdB (0x6100 + i)) ∧
            u.rf Reg.OTP_KEY_STAT (otpSlot n) = 1 + (s.rdB (0x6100 + 96)).toNat / 2 % 4 * 2 + held / 8 * 8 ∧
            onlyAt [Reg.OTP_KEY_STAT] (fun a => decide (Addr.otp n 0 ≤ a ∧ a < Addr.otp n 96)) (s.beginAt t) u) ∧
          (getFld v Fld.OTP_KEY_CMD_OP = 2 → other = true → both fun u =>
            u.rf Reg.OTP_KEY_STAT (otpSlot n) = held % 8 + 8 ∧ onlyRegs [Reg.OTP_KEY_STAT] (s.beginAt t) u) ∧
          (getFld v Fld.OTP_KEY_CMD_OP = 1 ∧ bitAt held 0 = true ∨ getFld v Fld.OTP_KEY_CMD_OP = 2 ∧ other = false → both fun u =>
            u.rb Reg.OTP_KEY_STAT Fld.OTP_KEY_STAT_REFUSED = true ∧ onlyRegs [Reg.OTP_KEY_STAT] (s.beginAt t) u)))) ∧
    (∀ j rest, s.flash = j :: rest → j.op = 7 → j.len < 5 → ∃ u, exec (.bootVerifyDone t) s = .next u ∧
      u.rf Reg.BOOT_STAT Fld.BOOT_STAT_VFY_CODE = verifyCode j.len s % 256 ∧ u.rb Reg.BOOT_STAT Fld.BOOT_STAT_VFY_BUSY = false ∧
      (verifyCode j.len s = 0 → bitAt (u.rf Reg.BOOT_STAT Fld.BOOT_STAT_VERIFIED) j.len = true) ∧
      (verifyCode j.len s ≠ 0 → u.rf Reg.BOOT_STAT Fld.BOOT_STAT_VERIFIED = s.rf Reg.BOOT_STAT Fld.BOOT_STAT_VERIFIED) ∧
      u.rb (Reg.FLASH_STAT 0) Fld.FLASH_STAT_DONE = true ∧ onlyRegs [Reg.BOOT_STAT, Reg.FLASH_STAT 0] { s.beginAt t with flash := rest } u) ∧
    (∀ j rest, s.flash = j :: rest → j.op = 8 →
      let copy : Nat := match s.recInForce with | some (c, _) => 1 - c | none => 0
      let seq : Nat := match s.recInForce with | some (_, r) => r.seq + 1 | none => 1
      let rec_ := { s.boot.rec_ with seq := seq % 2 ^ 32 }
      let at_ := Addr.flash 0 (copy * 0x1000)
      ∃ u, exec (.bootRecordWrite t) s = .next u ∧ u.rdBytes at_ 20 = rec_.head ++ leBytes 4 (crc32 rec_.head) ∧
        u = { s.beginAt t with mem := u.mem, flash := rest, boot := { s.boot with rec_ := rec_ } } ∧
        ∀ a, a < at_ ∨ at_ + 0x1000 ≤ a → u.rdB a = s.rdB a) ∧
    (∀ (w : Twin) (h : Nat), (s.tw w).setHalf = some h → h ≤ 1 → s.rb (Reg.UPD_STAT w) Fld.UPD_STAT_PENDING_WRITE = true → s.fiddlehead w = true →
      s.roleOf w = .active →
      let base := Addr.flash 0 (setBase (1 - h))
      ∃ u, exec (.settingsWrite t w) s = .next u ∧ (u.tw w).setHalf = some (1 - h) ∧ u.boot.rec_ = { s.boot.rec_ with held := some h } ∧
        u.rb (Reg.UPD_STAT w) Fld.UPD_STAT_PENDING_WRITE = false ∧ u.rdLE base 4 = 0x54455351 ∧
        u.rdLE (base + 4) 4 = (s.setSeq h + 1) % 2 ^ 32 ∧
        onlyAt [Reg.UPD_STAT w, Reg.BOOT_STAT] (fun a => decide (base ≤ a ∧ a < base + 0x80000))
          { s.beginAt t with free := s.free + 2, flash := queueRecord s.flash, boot := u.boot, a := u.a, b := u.b } u)

/-- R492, R493: a package command through the mirror aperture begins an export in the ACTIVE twin or an import in each twin that it reaches,
or is refused with its reason and E253; one through a private aperture does nothing; PKG_EXPORT and PKG_IMPORT do what the OP they write says.
Its end returns the unit to idle with the length and
E252; an export lies in the staging area then. What the spec leaves open of a package is a free value (notes/assumptions/30.md). -/
def Obligations.StatePackagesBeginAndEnd : Prop :=
  ∀ (s : State) (t : Nat) (w : Twin), s.tidy = true →
    (∀ (via : Via) (v : Word),
      let both : (State → Prop) → Prop := fun p =>
        (∃ u, exec (.pkgExport t via v) s = .next u ∧ p u) ∧ (∃ u, exec (.pkgImport t via v) s = .next u ∧ p u)
      (throughMirror via = false → both fun u => u = s.beginAt t) ∧
      (throughMirror via = true → w ∈ (s.reach via).1 →
        let kept : State → Prop := framed (fun x => [Reg.UPD_PKG_STAT .a, Reg.UPD_PKG_STAT .b].contains x) nowhere (s.beginAt t)
        let exports : Bool := decide (s.graftState w = 0) && decide (s.rf (Reg.UPD_PKG_STAT w) Fld.UPD_PKG_STAT_STATE = 0) &&
          decide (s.pkgAt w + pkgLength ≤ 0x40000000)
        (getFld v Fld.UPD_PKG_CMD_OP = 1 → s.roleOf w = .active → both fun u => kept u ∧
          (exports = true → u.rf (Reg.UPD_PKG_STAT w) Fld.UPD_PKG_STAT_STATE = 1) ∧
          (exports = false → u.rf (Reg.UPD_PKG_STAT w) Fld.UPD_PKG_STAT_REASON = 3 ∧ u.evtTwinPending w 253 = true ∧
            u.rf (Reg.UPD_PKG_STAT w) Fld.UPD_PKG_STAT_STATE = s.rf (Reg.UPD_PKG_STAT w) Fld.UPD_PKG_STAT_STATE)) ∧
        (getFld v Fld.UPD_PKG_CMD_OP = 2 → both fun u => kept u ∧
          (s.importReason w = 0 → u.rf (Reg.UPD_PKG_STAT w) Fld.UPD_PKG_STAT_STATE = 2 ∧ (u.tw w).pkg.isSome = true) ∧
          (s.importReason w ≠ 0 → u.rf (Reg.UPD_PKG_STAT w) Fld.UPD_PKG_STAT_REASON = s.importReason w ∧ u.evtTwinPending w 253 = true ∧
            (u.tw w).pkg = (s.tw w).pkg)))) ∧
    (let at_ := Addr.dram w (0x7C0000000 + s.pkgAt w)
     (s.rf (Reg.UPD_PKG_STAT w) Fld.UPD_PKG_STAT_STATE = 1 → ∃ u, exec (.pkgDone t w) s = .next u ∧
        u.rf (Reg.UPD_PKG_STAT w) Fld.UPD_PKG_STAT_STATE = 0 ∧ u.rf (Reg.UPD_PKG_STAT w) Fld.UPD_PKG_STAT_LENGTH = ceilDiv pkgLength 64 ∧
        u.rdLE at_ 4 = 0x4B505351 ∧ u.rdLE (at_ + 8) 4 = pkgLength ∧ u.evtTwinPending w 252 = true ∧
        framed (fun x => decide (x = Reg.UPD_PKG_STAT w)) (fun x => decide (at_ ≤ x ∧ x < at_ + pkgLength)) { s.beginAt t with free := u.free } u) ∧
     (s.rf (Reg.UPD_PKG_STAT w) Fld.UPD_PKG_STAT_STATE = 2 → (s.tw w).pkg = none → ∃ u, exec (.pkgDone t w) s = .next u ∧
        u.rf (Reg.UPD_PKG_STAT w) Fld.UPD_PKG_STAT_STATE = 0 ∧
        u.rf (Reg.UPD_PKG_STAT w) Fld.UPD_PKG_STAT_LENGTH = ceilDiv (s.rdLE (at_ + 8) 4) 64 % 2 ^ 24 ∧ u.evtTwinPending w 252 = true ∧
        framed (fun x => decide (x = Reg.UPD_PKG_STAT w)) nowhere (s.beginAt t) u))
end

