-- ==== Sys2Proof/Laws/Smap.lean ====
section
/-!
SUPPORT. Sparse tables: reading after writing, and the canonical form.
-/
namespace Sys2Proof.Machine

variable {α : Type} [DecidableEq α]

/-- The condition that a lower bound puts on a key. -/
def Smap.over (lo : Option Nat) (i : Nat) : Prop := ∀ l, lo = some l → l < i

theorem Smap.above_nil (d : Nat → α) (lo : Option Nat) : Smap.above d lo [] = true := by cases lo <;> rfl

theorem Smap.above_cons {d : Nat → α} {lo : Option Nat} {j : Nat} {v : α} {m : List (Nat × α)} :
    Smap.above d lo ((j, v) :: m) = true ↔ Smap.over lo j ∧ v ≠ d j ∧ Smap.above d (some j) m = true := by
  cases lo <;> simp [Smap.above, Smap.over, and_assoc]

theorem Smap.above_weaken {d : Nat → α} {lo lo' : Option Nat} {m : List (Nat × α)} (h : Smap.above d lo m = true)
    (hl : ∀ i, Smap.over lo i → Smap.over lo' i) : Smap.above d lo' m = true := by
  cases m with
  | nil => exact Smap.above_nil d lo'
  | cons e m =>
    obtain ⟨j, v⟩ := e
    rw [Smap.above_cons] at h ⊢
    exact ⟨hl _ h.1, h.2⟩

theorem Smap.over_trans {lo : Option Nat} {j i : Nat} (h : Smap.over lo j) (hi : Smap.over (some j) i) : Smap.over lo i :=
  fun l hl => Nat.lt_trans (h l hl) (hi j rfl)

/-- A key not above the bound of a table in canonical form reads as unlisted. -/
theorem Smap.get_below {d : Nat → α} {dv : α} {j i : Nat} {m : List (Nat × α)} (h : Smap.above d (some j) m = true) (hi : i ≤ j) :
    Smap.get dv m i = dv := by
  cases m with
  | nil => rfl
  | cons e m =>
    obtain ⟨k, v⟩ := e
    have hk := (Smap.above_cons.1 h).1 j rfl
    have h1 : i ≠ k := by omega
    have h2 : i < k := by omega
    simp [Smap.get, h1, h2]

theorem Smap.get_set_self_above (d : Nat → α) (m : List (Nat × α)) (i : Nat) (v : α) :
    ∀ lo, Smap.above d lo m = true → Smap.get (d i) (Smap.set (d i) m i v) i = v := by
  induction m with
  | nil => intro lo _; by_cases hv : v = d i <;> simp [Smap.set, Smap.get, hv]
  | cons e m ih =>
    intro lo h
    obtain ⟨j, w⟩ := e
    have h' := Smap.above_cons.1 h
    by_cases hij : i = j
    · subst hij
      by_cases hv : v = d i
      · simp [Smap.set, hv, Smap.get_below h'.2.2 (Nat.le_refl i)]
      · simp [Smap.set, hv, Smap.get]
    · by_cases hlt : i < j
      · by_cases hv : v = d i
        · simp [Smap.set, hij, hlt, hv, Smap.get]
        · simp [Smap.set, hij, hlt, hv, Smap.get]
      · simp [Smap.set, hij, hlt, Smap.get, ih _ h'.2.2]

theorem Smap.get_set_ne_above (d : Nat → α) (dv : α) (m : List (Nat × α)) (i k : Nat) (v : α) (hk : k ≠ i) :
    ∀ lo, Smap.above d lo m = true → Smap.get dv (Smap.set (d i) m i v) k = Smap.get dv m k := by
  induction m with
  | nil => intro lo _; by_cases hv : v = d i <;> simp [Smap.set, Smap.get, hv, hk]
  | cons e m ih =>
    intro lo h
    obtain ⟨j, w⟩ := e
    have h' := Smap.above_cons.1 h
    by_cases hij : i = j
    · subst hij
      by_cases hv : v = d i
      · simp only [Smap.set, hv, if_true, Smap.get, hk, if_false]
        by_cases hlt : k < i
        · simp [hlt, Smap.get_below h'.2.2 (Nat.le_of_lt hlt)]
        · simp [hlt]
      · simp [Smap.set, hv, Smap.get, hk]
    · by_cases hlt : i < j
      · by_cases hv : v = d i
        · simp [Smap.set, hij, hlt, hv]
        · by_cases hki : k < i
          · have h1 : k ≠ j := by omega
            have h2 : k < j := by omega
            simp [Smap.set, hij, hlt, hv, Smap.get, hk, hki, h1, h2]
          · simp [Smap.set, hij, hlt, hv, Smap.get, hk, hki]
      · simp [Smap.set, hij, hlt, Smap.get, ih _ h'.2.2]

theorem Smap.above_set (d : Nat → α) (m : List (Nat × α)) (i : Nat) (v : α) :
    ∀ lo, Smap.over lo i → Smap.above d lo m = true → Smap.above d lo (Smap.set (d i) m i v) = true := by
  induction m with
  | nil =>
    intro lo hi _
    by_cases hv : v = d i
    · simp [Smap.set, hv, Smap.above_nil]
    · simp [Smap.set, hv, Smap.above_cons, Smap.above_nil, hi]
  | cons e m ih =>
    intro lo hi h
    obtain ⟨j, w⟩ := e
    have h' := Smap.above_cons.1 h
    by_cases hij : i = j
    · subst hij
      by_cases hv : v = d i
      · simpa [Smap.set, hv] using Smap.above_weaken h'.2.2 (fun k hk => Smap.over_trans h'.1 hk)
      · simpa [Smap.set, hv, Smap.above_cons] using ⟨hi, h'.2.2⟩
    · by_cases hlt : i < j
      · by_cases hv : v = d i
        · simpa [Smap.set, hij, hlt, hv] using h
        · simp only [Smap.set, hij, hlt, hv, if_true, if_false, Smap.above_cons]
          exact ⟨hi, hv, fun l hl => by cases hl; exact hlt, h'.2⟩
      · simp only [Smap.set, hij, hlt, if_false, Smap.above_cons]
        exact ⟨h'.1, h'.2.1, ih _ (fun l hl => by cases hl; omega) h'.2.2⟩

theorem Smap.above_filter (d : Nat → α) (p : Nat × α → Bool) (m : List (Nat × α)) :
    ∀ lo, Smap.above d lo m = true → Smap.above d lo (m.filter p) = true := by
  induction m with
  | nil => intro lo h; exact h
  | cons e m ih =>
    intro lo h
    obtain ⟨j, w⟩ := e
    have h' := Smap.above_cons.1 h
    by_cases hp : p (j, w) = true
    · simp only [List.filter_cons, hp, if_true, Smap.above_cons]
      exact ⟨h'.1, h'.2.1, ih _ h'.2.2⟩
    · simp only [List.filter_cons, hp]
      exact Smap.above_weaken (ih _ h'.2.2) (fun k hk => Smap.over_trans h'.1 hk)

/-- The key written reads as what was written. -/
theorem Smap.get_set_self {d : Nat → α} {m : List (Nat × α)} (h : Smap.wf d m = true) (i : Nat) (v : α) :
    Smap.get (d i) (Smap.set (d i) m i v) i = v := Smap.get_set_self_above d m i v none h

/-- Every other key reads as before. -/
theorem Smap.get_set_ne {d : Nat → α} {m : List (Nat × α)} (h : Smap.wf d m = true) {i k : Nat} (hk : k ≠ i) (v dv : α) :
    Smap.get dv (Smap.set (d i) m i v) k = Smap.get dv m k := Smap.get_set_ne_above d dv m i k v hk none h

/-- A write keeps the canonical form. -/
theorem Smap.wf_set {d : Nat → α} {m : List (Nat × α)} (h : Smap.wf d m = true) (i : Nat) (v : α) :
    Smap.wf d (Smap.set (d i) m i v) = true := Smap.above_set d m i v none (fun _ hl => by cases hl) h

/-- Leaving entries out keeps the canonical form. -/
theorem Smap.wf_filter {d : Nat → α} {m : List (Nat × α)} (h : Smap.wf d m = true) (p : Nat × α → Bool) :
    Smap.wf d (m.filter p) = true := Smap.above_filter d p m none h

/-! ### Registers and bytes -/

/-- The word written reads as what was written. -/
theorem State.reg_setReg_self {s : State} (h : s.regsWf = true) (a : Nat) (v : Word) : (s.setReg a v).reg a = v :=
  Smap.get_set_self (d := resetWord) h a v

/-- Every other word reads as before. -/
theorem State.reg_setReg_ne {s : State} (h : s.regsWf = true) {a b : Nat} (hb : b ≠ a) (v : Word) : (s.setReg a v).reg b = s.reg b :=
  Smap.get_set_ne (d := resetWord) h hb v _

theorem State.regsWf_setReg {s : State} (h : s.regsWf = true) (a : Nat) (v : Word) : (s.setReg a v).regsWf = true :=
  Smap.wf_set (d := resetWord) h a v

/-- The byte written reads as what was written. -/
theorem State.rdB_wrB_self {s : State} (h : Memory.wf s.mem = true) (a : Nat) (v : Byte) : (s.wrB a v).rdB a = v :=
  Smap.get_set_self (d := memDefault) h a v

/-- Every other byte reads as before. -/
theorem State.rdB_wrB_ne {s : State} (h : Memory.wf s.mem = true) {a b : Nat} (hb : b ≠ a) (v : Byte) : (s.wrB a v).rdB b = s.rdB b :=
  Smap.get_set_ne (d := memDefault) h hb v _

theorem State.memWf_wrB {s : State} (h : Memory.wf s.mem = true) (a : Nat) (v : Byte) : Memory.wf (s.wrB a v).mem = true :=
  Smap.wf_set (d := memDefault) h a v

end Sys2Proof.Machine
end

