-- ==== Sys2Proof/Laws/Keeps.lean ====
section
/-!
SUPPORT. What every operation and every command keeps: the waiting commands, the canonical form of registers and bytes, at most one ACTIVE
twin; and the instant and the count of free values never run back. The lemmas that carry it through the shapes of a definition.
-/
namespace Sys2Proof.Machine

/-- `u` keeps what `s` has: its waiting commands, its canonical forms and at most one ACTIVE twin; its instant and its count of free values
have not run back. -/
structure Keeps (s u : State) : Prop where
  pending : u.pending = s.pending
  regs : s.regsWf = true → u.regsWf = true
  mem : Memory.wf s.mem = true → Memory.wf u.mem = true
  act : s.oneActive = true → u.oneActive = true
  now : s.now ≤ u.now
  free : s.free ≤ u.free

/-- The next state of an outcome, if it is one, keeps what `s` has. -/
structure KeepsO (s : State) (o : Host.Outcome State Fault Refusal) : Prop where
  next : ∀ u, o = .next u → Keeps s u


/-- `Keeps` over the parts of a state that it looks at. -/
structure KeepsC (s : State) (p : List Instr) (n f : Nat) (r : List (Nat × Word)) (m : List Host.Cell) (ro : Roles) : Prop where
  pending : p = s.pending
  regs : s.regsWf = true → Smap.wf resetWord r = true
  mem : Memory.wf s.mem = true → Memory.wf m = true
  act : s.oneActive = true → (!(decide (ro.a = .active) && decide (ro.b = .active))) = true
  now : s.now ≤ n
  free : s.free ≤ f

theorem keeps_mk {s0 : State} {p n f o r ck m l hd d ro sw t0 t1 t2 t3 sh tg pe a b lf lc on me bm fm pt mo he pw fd fl bo rz ma mb ca} :
    Keeps s0 (State.mk p n f o r ck m l hd d ro sw t0 t1 t2 t3 sh tg pe a b lf lc on me bm fm pt mo he pw fd fl bo rz ma mb ca) ↔ KeepsC s0 p n f r m ro :=
  ⟨fun h => ⟨h.pending, h.regs, h.mem, h.act, h.now, h.free⟩, fun h => ⟨h.pending, h.regs, h.mem, h.act, h.now, h.free⟩⟩

theorem keepsC_fold {s0 s : State} : KeepsC s0 s.pending s.now s.free s.regs s.mem s.role ↔ Keeps s0 s :=
  ⟨fun h => ⟨h.pending, h.regs, h.mem, h.act, h.now, h.free⟩, fun h => ⟨h.pending, h.regs, h.mem, h.act, h.now, h.free⟩⟩

theorem keepsC_le {s0 s : State} {n f : Nat} (h : Keeps s0 s) (hn : s.now ≤ n) (hf : s.free ≤ f) :
    KeepsC s0 s.pending n f s.regs s.mem s.role :=
  ⟨h.pending, h.regs, h.mem, h.act, Nat.le_trans h.now hn, Nat.le_trans h.free hf⟩
theorem keeps_cut {s0 x : State} {P : Prop} (hx : Keeps s0 x) (h : Keeps s0 x → P) : P := h hx

theorem Keeps.refl (s : State) : Keeps s s := ⟨rfl, id, id, id, Nat.le_refl _, Nat.le_refl _⟩
theorem keeps_ite {s0 a b : State} {c : Prop} [Decidable c] (hb : Keeps s0 b) (ha : Keeps s0 b → Keeps s0 a) : Keeps s0 (if c then a else b) := by
  split
  · exact ha hb
  · exact hb
theorem keeps_ite2 {α} {s0 : State} {a b : α × State} {c : Prop} [Decidable c] (hb : Keeps s0 b.2) (ha : Keeps s0 b.2 → Keeps s0 a.2) : Keeps s0 (if c then a else b).2 := by
  split
  · exact ha hb
  · exact hb
theorem keeps_ite22 {α β} {s0 : State} {a b : α × β × State} {c : Prop} [Decidable c] (hb : Keeps s0 b.2.2) (ha : Keeps s0 b.2.2 → Keeps s0 a.2.2) : Keeps s0 (if c then a else b).2.2 := by
  split
  · exact ha hb
  · exact hb
theorem keeps_pair {α} {s0 s : State} {a : α} (h : Keeps s0 s) : Keeps s0 (a, s).2 := h
theorem keeps_pair2 {α β} {s0 s : State} {a : α} {b : β} (h : Keeps s0 s) : Keeps s0 (a, b, s).2.2 := h
theorem keeps_eq2 {α} {s0 s : State} {a : α} {p : α × State} (e : p = (a, s)) (h : Keeps s0 p.2) : Keeps s0 s := by
  subst e; exact h
theorem keeps_eq22 {α β} {s0 s : State} {a : α} {b : β} {p : α × β × State} (e : p = (a, b, s)) (h : Keeps s0 p.2.2) : Keeps s0 s := by
  subst e; exact h
theorem keeps_foldl {α} {f : State → α → State} {l : List α} {s0 s : State} (h : Keeps s0 s) (hf : ∀ x a, Keeps s0 x → Keeps s0 (f x a)) :
    Keeps s0 (l.foldl f s) := by
  induction l generalizing s with
  | nil => exact h
  | cons e l ih => exact ih (hf s e h)
theorem keepsO_next {s0 u : State} (h : Keeps s0 u) : KeepsO s0 (.next u) :=
  ⟨fun v hv => by cases hv; exact h⟩
theorem keepsO_ite {s0 : State} {a b : Host.Outcome State Fault Refusal} {c : Prop} [Decidable c] (hb : KeepsO s0 b) (ha : KeepsO s0 b → KeepsO s0 a) : KeepsO s0 (if c then a else b) := by
  split
  · exact ha hb
  · exact hb
theorem keeps_same {s0 s u : State} (h : Keeps s0 s) (h1 : u.pending = s.pending) (h2 : u.regs = s.regs) (h3 : u.mem = s.mem)
    (h4 : u.role = s.role) (h5 : u.now = s.now := by rfl) (h6 : u.free = s.free := by rfl) : Keeps s0 u := by
  cases u; simp only at h1 h2 h3 h4 h5 h6; subst h1 h2 h3 h4 h5 h6
  exact keeps_mk.2 (keepsC_fold.2 h)
theorem keepsC_roles {s0 s : State} (h : Keeps s0 s) {ra rb : Role} (hr : ¬(ra = .active ∧ rb = .active)) :
    KeepsC s0 s.pending s.now s.free s.regs s.mem ⟨ra, rb⟩ :=
  ⟨h.pending, h.regs, h.mem, fun _ => by by_cases h1 : ra = .active <;> by_cases h2 : rb = .active <;> simp_all, h.now, h.free⟩
theorem keeps_foldl2 {α β} {f : β × State → α → β × State} {l : List α} {s0 : State} {p : β × State} (h : Keeps s0 p.2)
    (hf : ∀ n x a, Keeps s0 x → Keeps s0 (f (n, x) a).2) : Keeps s0 (l.foldl f p).2 := by
  induction l generalizing p with
  | nil => exact h
  | cons e l ih => exact ih (hf p.1 p.2 e h)
theorem roleOf_of_active_none {s : State} (h : s.active = none) (w : Twin) : s.roleOf w ≠ .active := by
  unfold State.active at h
  cases w <;> simp only [State.roleOf] <;> intro hr <;> rw [hr] at h <;> split at h <;> simp_all
/-! roles unchanged -/
@[simp] theorem role_setReg (s : State) (a v) : (s.setReg a v).role = s.role := rfl
@[simp] theorem role_wrB (s : State) (a v) : (s.wrB a v).role = s.role := rfl
@[simp] theorem role_sf (s : State) (a f v) : (s.sf a f v).role = s.role := by
  unfold State.sf; simp only []; split <;> rfl
@[simp] theorem role_modTw (s : State) (w f) : (s.modTw w f).role = s.role := by cases w <;> rfl
theorem role_foldl {α} (f : State → α → State) (hf : ∀ x a, (f x a).role = x.role) (l : List α) (s : State) : (l.foldl f s).role = s.role := by
  induction l generalizing s with
  | nil => rfl
  | cons e l ih => exact (ih _).trans (hf s e)
theorem roleOf_congr {s u : State} (h : u.role = s.role) (w : Twin) : u.roleOf w = s.roleOf w := by cases w <;> simp [State.roleOf, h]
theorem ite_role_ne {a b r : Role} {c : Prop} [Decidable c] (ha : a ≠ r) (hb : b ≠ r) : (if c then a else b) ≠ r := by
  split
  · exact ha
  · exact hb
theorem keeps_iteApp {α} {f g : State → α × State} {s0 y : State} {c : Prop} [Decidable c] (hf : Keeps s0 (f y).2) (hg : Keeps s0 (g y).2) :
    Keeps s0 ((if c then f else g) y).2 := by
  split
  · exact hf
  · exact hg

end Sys2Proof.Machine
end

