-- ==== Sys2Proof/Laws/KeepsOps.lean ====
section
/-!
SUPPORT. Keeps, one lemma for each operation: the shared operations, events, boot and roles.
-/
set_option linter.unreachableTactic false
set_option linter.unusedTactic false
set_option linter.unusedVariables false
set_option linter.unusedSimpArgs false
set_option linter.tactic.unusedName false
namespace Sys2Proof.Machine

/-! ### Machine/Ops.lean -/

theorem keeps_State_wrB {s0 s : State} (h : Keeps s0 s) (a v) : Keeps s0 (s.wrB a v) :=
  ⟨h.pending, h.regs, fun x => State.memWf_wrB (h.mem x) a v, h.act, h.now, h.free⟩

theorem keeps_State_wrBytes {s0 s : State} (h : Keeps s0 s) (a : Nat) (l : List Byte) : Keeps s0 (s.wrBytes a l) := by
  induction l generalizing s a with
  | nil => exact h
  | cons b l ih => exact ih (keeps_State_wrB h _ _) _

theorem keeps_State_setReg {s0 s : State} (h : Keeps s0 s) (a v) : Keeps s0 (s.setReg a v) :=
  ⟨h.pending, fun x => State.regsWf_setReg (h.regs x) a v, h.mem, h.act, h.now, h.free⟩

theorem keeps_State_sf (a : Nat) (f : Fld) (v : Nat) {s0 s : State} (hk : Keeps s0 s)  : Keeps s0 (State.sf s a f v) := by
  unfold State.sf
  repeat' first
    | with_reducible assumption | intro _
    | ((fail_if_no_progress extract_lets +onlyGivenNames x); refine keeps_cut (s0 := s0) (x := x) ?_ ?_; on_goal 1 => subst x)
    | (fail_if_no_progress extract_lets +onlyGivenNames x) | with_reducible (first | apply keeps_State_setReg | apply keeps_ite)
    | split

theorem keeps_State_sb (a : Nat) (f : Fld) (v : Bool) {s0 s : State} (hk : Keeps s0 s)  : Keeps s0 (State.sb s a f v) := by
  unfold State.sb
  repeat' first
    | with_reducible assumption | intro _ | with_reducible (first | apply keeps_State_sf | apply keeps_ite) | split

theorem keeps_State_bump (a : Nat) (f : Fld) (n : Nat) {s0 s : State} (hk : Keeps s0 s)  : Keeps s0 (State.bump s a f n) := by
  unfold State.bump
  repeat' first
    | with_reducible assumption | intro _ | with_reducible apply keeps_State_sf

theorem keeps_State_setClock (a : Nat) (v : Word) {s0 s : State} (hk : Keeps s0 s) : Keeps s0 (State.setClock s a v) := by
  unfold State.setClock
  repeat' first
    | with_reducible assumption | decide | intro _
    | ((fail_if_no_progress extract_lets +onlyGivenNames x); refine keeps_cut (s0 := s0) (x := x) ?_ ?_; on_goal 1 => subst x)
    | (fail_if_no_progress extract_lets +onlyGivenNames x)
    | with_reducible (first | apply keeps_ite | apply keeps_ite2 | apply keeps_ite22 | (refine keeps_eq2 (by with_reducible assumption) ?_) | (refine keeps_eq22 (by with_reducible assumption) ?_))
    | simp -zeta only [keeps_mk, keepsC_fold, id_eq] | (refine keepsC_le ?_ ?_ ?_) | omega | split | (clear_value *; split)

theorem keeps_State_peak (a : Nat) (f : Fld) (n : Nat) {s0 s : State} (hk : Keeps s0 s) : Keeps s0 (State.peak s a f n) := by
  unfold State.peak
  repeat' first
    | with_reducible assumption | decide | intro _
    | ((fail_if_no_progress extract_lets +onlyGivenNames x); refine keeps_cut (s0 := s0) (x := x) ?_ ?_; on_goal 1 => subst x)
    | (fail_if_no_progress extract_lets +onlyGivenNames x)
    | with_reducible (first | apply keeps_State_sf | apply keeps_State_setClock | apply keeps_ite | apply keeps_ite2 | apply keeps_ite22 | (refine keeps_eq2 (by with_reducible assumption) ?_) | (refine keeps_eq22 (by with_reducible assumption) ?_))
    | simp -zeta only [keeps_mk, keepsC_fold, id_eq] | (refine keepsC_le ?_ ?_ ?_) | omega | split | (clear_value *; split)

theorem keeps_State_wr64 (a v : Nat) {s0 s : State} (hk : Keeps s0 s)  : Keeps s0 (State.wr64 s a v) := by
  unfold State.wr64
  repeat' first
    | with_reducible assumption | intro _ | with_reducible apply keeps_State_setReg

theorem keeps_State_resetRegs {s0 s : State} (h : Keeps s0 s) (p : Nat → Bool) : Keeps s0 (s.resetRegs p) :=
  ⟨h.pending, fun x => Smap.wf_filter (h.regs x) _, h.mem, h.act, h.now, h.free⟩

theorem keeps_State_resetMem {s0 s : State} (h : Keeps s0 s) (p : Nat → Bool) : Keeps s0 (s.resetMem p) :=
  ⟨h.pending, h.regs, fun x => Smap.wf_filter (h.mem x) _, h.act, h.now, h.free⟩

theorem keeps_State_modTw (w : Twin) (f : TwinState → TwinState) {s0 s : State} (hk : Keeps s0 s)  : Keeps s0 (State.modTw s w f) := by
  unfold State.modTw
  repeat' first
    | with_reducible assumption | intro _
    | ((fail_if_no_progress extract_lets +onlyGivenNames x); refine keeps_cut (s0 := s0) (x := x) ?_ ?_; on_goal 1 => subst x)
    | (fail_if_no_progress extract_lets +onlyGivenNames x) | simp -zeta only [keeps_mk, keepsC_fold, id_eq] | split

theorem keeps_State_each {s0 s : State} (h : Keeps s0 s) (p : Twin → Bool) (f : Twin → State → State)
    (hf : ∀ w x, Keeps s0 x → Keeps s0 (f w x)) : Keeps s0 (s.each p f) := by
  unfold State.each
  split <;> split <;> simp_all

theorem keeps_State_at (t : Nat) {s0 s : State} (hk : Keeps s0 s) : Keeps s0 (State.at s t) := by
  unfold State.at
  repeat' first
    | with_reducible assumption | decide | intro _
    | ((fail_if_no_progress extract_lets +onlyGivenNames x); refine keeps_cut (s0 := s0) (x := x) ?_ ?_; on_goal 1 => subst x)
    | (fail_if_no_progress extract_lets +onlyGivenNames x)
    | with_reducible (first | apply keeps_ite | apply keeps_ite2 | apply keeps_ite22 | (refine keeps_eq2 (by with_reducible assumption) ?_) | (refine keeps_eq22 (by with_reducible assumption) ?_))
    | simp -zeta only [keeps_mk, keepsC_fold, id_eq] | (refine keepsC_le ?_ ?_ ?_) | omega | split | (clear_value *; split)

theorem keeps_State_setTb (n : Fin 4) (t : TimeBase) {s0 s : State} (hk : Keeps s0 s)  : Keeps s0 (State.setTb s n t) := by
  unfold State.setTb
  repeat' first
    | with_reducible assumption | intro _
    | ((fail_if_no_progress extract_lets +onlyGivenNames x); refine keeps_cut (s0 := s0) (x := x) ?_ ?_; on_goal 1 => subst x)
    | (fail_if_no_progress extract_lets +onlyGivenNames x) | simp -zeta only [keeps_mk, keepsC_fold, id_eq] | split

theorem keeps_State_fresh  {s0 s : State} (hk : Keeps s0 s)  : Keeps s0 (State.fresh s).2 := by
  unfold State.fresh
  repeat' first
    | with_reducible assumption | decide | intro _
    | ((fail_if_no_progress extract_lets +onlyGivenNames x); refine keeps_cut (s0 := s0) (x := x) ?_ ?_; on_goal 1 => subst x)
    | (fail_if_no_progress extract_lets +onlyGivenNames x)
    | with_reducible (first | apply keeps_ite | apply keeps_ite2 | apply keeps_ite22 | apply keeps_foldl | apply keeps_foldl2 | (refine keeps_eq2 (by with_reducible assumption) ?_) | (refine keeps_eq22 (by with_reducible assumption) ?_))
    | simp -zeta only [keeps_mk, keepsC_fold, id_eq] | (refine keepsC_le ?_ ?_ ?_) | omega | split | (clear_value *; split)

theorem keeps_State_emit (o : Out) {s0 s : State} (hk : Keeps s0 s)  : Keeps s0 (State.emit s o) := by
  unfold State.emit
  repeat' first
    | with_reducible assumption | intro _
    | ((fail_if_no_progress extract_lets +onlyGivenNames x); refine keeps_cut (s0 := s0) (x := x) ?_ ?_; on_goal 1 => subst x)
    | (fail_if_no_progress extract_lets +onlyGivenNames x) | simp -zeta only [keeps_mk, keepsC_fold, id_eq]

theorem keeps_State_begin  {s0 s : State} (hk : Keeps s0 s)  : Keeps s0 (State.begin s) := by
  unfold State.begin
  repeat' first
    | with_reducible assumption | intro _
    | ((fail_if_no_progress extract_lets +onlyGivenNames x); refine keeps_cut (s0 := s0) (x := x) ?_ ?_; on_goal 1 => subst x)
    | (fail_if_no_progress extract_lets +onlyGivenNames x) | simp -zeta only [keeps_mk, keepsC_fold, id_eq]

theorem keeps_State_beginAt (t : Nat) {s0 s : State} (hk : Keeps s0 s)  : Keeps s0 (State.beginAt s t) := by
  unfold State.beginAt
  repeat' first
    | with_reducible assumption | intro _ | with_reducible (first | apply keeps_State_at | apply keeps_State_begin)

/-! ### Machine/Line.lean -/

theorem keeps_State_setRd (p : Nat) (plus : Bool) {s0 s : State} (hk : Keeps s0 s) : Keeps s0 (State.setRd s p plus) := by
  unfold State.setRd
  repeat' first
    | with_reducible assumption | decide | intro _
    | ((fail_if_no_progress extract_lets +onlyGivenNames x); refine keeps_cut (s0 := s0) (x := x) ?_ ?_; on_goal 1 => subst x)
    | (fail_if_no_progress extract_lets +onlyGivenNames x)
    | with_reducible (first | apply keeps_ite | apply keeps_ite2 | apply keeps_ite22 | (refine keeps_eq2 (by with_reducible assumption) ?_) | (refine keeps_eq22 (by with_reducible assumption) ?_))
    | simp -zeta only [keeps_mk, keepsC_fold, id_eq] | (refine keepsC_le ?_ ?_ ?_) | omega | split | (clear_value *; split)

theorem keeps_State_emitPkt (p at_ : Nat) (b : List Byte) {s0 s : State} (hk : Keeps s0 s) : Keeps s0 (State.emitPkt s p at_ b) := by
  unfold State.emitPkt
  repeat' first
    | with_reducible assumption | decide | intro _
    | ((fail_if_no_progress extract_lets +onlyGivenNames x); refine keeps_cut (s0 := s0) (x := x) ?_ ?_; on_goal 1 => subst x)
    | (fail_if_no_progress extract_lets +onlyGivenNames x)
    | with_reducible (first | apply keeps_State_emit | apply keeps_State_setRd | apply keeps_ite | apply keeps_ite2 | apply keeps_ite22 | (refine keeps_eq2 (by with_reducible assumption) ?_) | (refine keeps_eq22 (by with_reducible assumption) ?_))
    | simp -zeta only [keeps_mk, keepsC_fold, id_eq] | (refine keepsC_le ?_ ?_ ?_) | omega | split | (clear_value *; split)

theorem keeps_State_emitWake (p : Nat) {s0 s : State} (hk : Keeps s0 s) : Keeps s0 (State.emitWake s p) := by
  unfold State.emitWake
  repeat' first
    | with_reducible assumption | decide | intro _
    | ((fail_if_no_progress extract_lets +onlyGivenNames x); refine keeps_cut (s0 := s0) (x := x) ?_ ?_; on_goal 1 => subst x)
    | (fail_if_no_progress extract_lets +onlyGivenNames x)
    | with_reducible (first | apply keeps_State_emit | apply keeps_State_setRd | apply keeps_ite | apply keeps_ite2 | apply keeps_ite22 | (refine keeps_eq2 (by with_reducible assumption) ?_) | (refine keeps_eq22 (by with_reducible assumption) ?_))
    | simp -zeta only [keeps_mk, keepsC_fold, id_eq] | (refine keepsC_le ?_ ?_ ?_) | omega | split | (clear_value *; split)

theorem keeps_State_emitAbort (p : Nat) {s0 s : State} (hk : Keeps s0 s) : Keeps s0 (State.emitAbort s p) := by
  unfold State.emitAbort
  repeat' first
    | with_reducible assumption | decide | intro _
    | ((fail_if_no_progress extract_lets +onlyGivenNames x); refine keeps_cut (s0 := s0) (x := x) ?_ ?_; on_goal 1 => subst x)
    | (fail_if_no_progress extract_lets +onlyGivenNames x)
    | with_reducible (first | apply keeps_State_fresh | apply keeps_State_emit | apply keeps_State_setRd | apply keeps_ite | apply keeps_ite2 | apply keeps_ite22 | (refine keeps_eq2 (by with_reducible assumption) ?_) | (refine keeps_eq22 (by with_reducible assumption) ?_))
    | simp -zeta only [keeps_mk, keepsC_fold, id_eq] | (refine keepsC_le ?_ ?_ ?_) | omega | split | (clear_value *; split)

/-! ### Machine/Image.lean -/

/-! ### Machine/Queue.lean -/

theorem keeps_pushItem (w : Twin) (q by_ : Nat) (soft : Bool) (stampTick : Nat) (item : Item) {s0 s : State} (hk : Keeps s0 s) : Keeps s0 (pushItem w q by_ soft stampTick item s).2.2 := by
  unfold pushItem
  repeat' first
    | with_reducible assumption | decide | intro _
    | ((fail_if_no_progress extract_lets +onlyGivenNames x); refine keeps_cut (s0 := s0) (x := x) ?_ ?_; on_goal 1 => subst x)
    | (fail_if_no_progress extract_lets +onlyGivenNames x)
    | with_reducible (first | apply keeps_State_modTw | apply keeps_ite | apply keeps_ite2 | apply keeps_ite22 | (refine keeps_eq2 (by with_reducible assumption) ?_) | (refine keeps_eq22 (by with_reducible assumption) ?_))
    | simp -zeta only [keeps_mk, keepsC_fold, id_eq] | (refine keepsC_le ?_ ?_ ?_) | omega | split | (clear_value *; split)

/-! ### Machine/Flags.lean -/

theorem keeps_State_orReg (a v : Nat) {s0 s : State} (hk : Keeps s0 s)  : Keeps s0 (State.orReg s a v) := by
  unfold State.orReg
  repeat' first
    | with_reducible assumption | intro _ | with_reducible apply keeps_State_setReg

theorem keeps_State_sendMsix (v n : Nat) {s0 s : State} (hk : Keeps s0 s)  : Keeps s0 (State.sendMsix s v n) := by
  unfold State.sendMsix
  repeat' first
    | with_reducible assumption | intro _
    | ((fail_if_no_progress extract_lets +onlyGivenNames x); refine keeps_cut (s0 := s0) (x := x) ?_ ?_; on_goal 1 => subst x)
    | (fail_if_no_progress extract_lets +onlyGivenNames x)
    | with_reducible (first | apply keeps_State_wrB | apply keeps_State_emit | apply keeps_ite) | split

theorem keeps_State_writeRecords (first : Bool) (index : Nat) (l : List LogRec) {s0 s : State} (hk : Keeps s0 s) : Keeps s0 (State.writeRecords s first index l) := by
  unfold State.writeRecords
  repeat' first
    | with_reducible assumption | decide | intro _
    | ((fail_if_no_progress extract_lets +onlyGivenNames x); refine keeps_cut (s0 := s0) (x := x) ?_ ?_; on_goal 1 => subst x)
    | (fail_if_no_progress extract_lets +onlyGivenNames x)
    | with_reducible (first | apply keeps_State_wrBytes | apply keeps_ite | apply keeps_ite2 | apply keeps_ite22 | apply keeps_foldl | apply keeps_foldl2 | (refine keeps_eq2 (by with_reducible assumption) ?_) | (refine keeps_eq22 (by with_reducible assumption) ?_))
    | simp -zeta only [keeps_mk, keepsC_fold, id_eq] | (refine keepsC_le ?_ ?_ ?_) | omega | split | (clear_value *; split)

theorem keeps_State_logRecord (src n data stamp : Nat) {s0 s : State} (hk : Keeps s0 s) : Keeps s0 (State.logRecord s src n data stamp) := by
  unfold State.logRecord
  repeat' first
    | with_reducible assumption | decide | intro _
    | ((fail_if_no_progress extract_lets +onlyGivenNames x); refine keeps_cut (s0 := s0) (x := x) ?_ ?_; on_goal 1 => subst x)
    | (fail_if_no_progress extract_lets +onlyGivenNames x)
    | with_reducible (first | apply keeps_State_setReg | apply keeps_State_bump | apply keeps_State_writeRecords | apply keeps_ite | apply keeps_ite2 | apply keeps_ite22 | (refine keeps_eq2 (by with_reducible assumption) ?_) | (refine keeps_eq22 (by with_reducible assumption) ?_))
    | simp -zeta only [keeps_mk, keepsC_fold, id_eq] | (refine keepsC_le ?_ ?_ ?_) | omega | split | (clear_value *; split)

theorem keeps_State_accept (src n data stamp : Nat) {s0 s : State} (hk : Keeps s0 s)  : Keeps s0 (State.accept s src n data stamp) := by
  unfold State.accept
  repeat' first
    | with_reducible assumption | intro _
    | ((fail_if_no_progress extract_lets +onlyGivenNames x); refine keeps_cut (s0 := s0) (x := x) ?_ ?_; on_goal 1 => subst x)
    | (fail_if_no_progress extract_lets +onlyGivenNames x)
    | with_reducible (first | apply keeps_State_orReg | apply keeps_State_sendMsix | apply keeps_State_logRecord | apply keeps_ite)
    | simp -zeta only [keeps_mk, keepsC_fold, id_eq] | split

theorem keeps_State_bankViol (w : Twin) (n : Nat) {s0 s : State} (hk : Keeps s0 s)  : Keeps s0 (State.bankViol s w n) := by
  unfold State.bankViol
  repeat' first
    | with_reducible assumption | intro _ | with_reducible (first | apply keeps_State_sf | apply keeps_State_bump)

theorem keeps_routeTwin (fuel : Nat) (w : Twin) (src n data stamp : Nat) {s0 s : State} (h : Keeps s0 s) :
    Keeps s0 (routeTwin fuel w src n data stamp s) := by
  induction fuel generalizing s src n data stamp with
  | zero => exact h
  | succ fuel ih =>
    have hr : ∀ (en : Bool) (m d : Nat) (x : State), Keeps s0 x →
        Keeps s0 (if (!en || (x.tw w).marked m) = true then x
          else routeTwin fuel w (w.code + 1) m d stamp
            (if (x.modTw w (·.mark m d)).roleOf w = .active then (x.modTw w (·.mark m d)).accept (w.code + 1) m d stamp
             else x.modTw w (·.mark m d))) := by
      intro en m d x hx
      refine keeps_ite (ih _ _ _ _ (keeps_ite (keeps_State_modTw _ _ hx) fun h => keeps_State_accept _ _ _ _ h)) fun _ => hx
    simp only [routeTwin]
    repeat' first
      | assumption
      | with_reducible first
        | apply hr
        | apply keeps_State_bump
        | apply keeps_State_bankViol
        | apply keeps_State_orReg
        | (refine keeps_eq22 (by with_reducible assumption) ?_)
        | apply keeps_pushItem
        | apply keeps_ite
      | intro _
      | split

theorem keeps_State_raiseTwinAt (w : Twin) (n data stamp : Nat) {s0 s : State} (hk : Keeps s0 s)  : Keeps s0 (State.raiseTwinAt s w n data stamp) := by
  unfold State.raiseTwinAt
  repeat' first
    | with_reducible assumption | intro _
    | ((fail_if_no_progress extract_lets +onlyGivenNames x); refine keeps_cut (s0 := s0) (x := x) ?_ ?_; on_goal 1 => subst x)
    | (fail_if_no_progress extract_lets +onlyGivenNames x)
    | with_reducible (first | apply keeps_State_accept | apply keeps_routeTwin | apply keeps_ite) | split

theorem keeps_State_raiseTwin (w : Twin) (n data : Nat) {s0 s : State} (hk : Keeps s0 s)  : Keeps s0 (State.raiseTwin s w n data) := by
  unfold State.raiseTwin
  repeat' first
    | with_reducible assumption | intro _ | with_reducible apply keeps_State_raiseTwinAt

theorem keeps_State_raiseIf (w : Twin) (ctl : Nat) (en : Fld) (n data : Nat) {s0 s : State} (hk : Keeps s0 s)  : Keeps s0 (State.raiseIf s w ctl en n data) := by
  unfold State.raiseIf
  repeat' first
    | with_reducible assumption | intro _ | with_reducible (first | apply keeps_State_raiseTwin | apply keeps_ite) | split

theorem keeps_State_raiseOnce (w : Twin) (ctl : Nat) (en : Fld) (n data : Nat) {s0 s : State} (hk : Keeps s0 s)  : Keeps s0 (State.raiseOnce s w ctl en n data) := by
  unfold State.raiseOnce
  repeat' first
    | with_reducible assumption | intro _
    | with_reducible (first | apply keeps_State_modTw | apply keeps_State_raiseTwin | apply keeps_ite) | split

theorem keeps_State_raiseThAt (n data stamp : Nat) {s0 s : State} (hk : Keeps s0 s)  : Keeps s0 (State.raiseThAt s n data stamp) := by
  unfold State.raiseThAt
  repeat' first
    | with_reducible assumption | intro _ | with_reducible (first | apply keeps_State_accept | apply keeps_routeTwin)

theorem keeps_State_raiseTh (n data : Nat) {s0 s : State} (hk : Keeps s0 s)  : Keeps s0 (State.raiseTh s n data) := by
  unfold State.raiseTh
  repeat' first
    | with_reducible assumption | intro _
    | ((fail_if_no_progress extract_lets +onlyGivenNames x); refine keeps_cut (s0 := s0) (x := x) ?_ ?_; on_goal 1 => subst x)
    | (fail_if_no_progress extract_lets +onlyGivenNames x) | with_reducible (first | apply keeps_State_raiseThAt | apply keeps_ite)
    | split

theorem keeps_State_raisePwr (n data : Nat) {s0 s : State} (hk : Keeps s0 s)  : Keeps s0 (State.raisePwr s n data) := by
  unfold State.raisePwr
  repeat' first
    | with_reducible assumption | intro _
    | ((fail_if_no_progress extract_lets +onlyGivenNames x); refine keeps_cut (s0 := s0) (x := x) ?_ ?_; on_goal 1 => subst x)
    | (fail_if_no_progress extract_lets +onlyGivenNames x) | with_reducible (first | apply keeps_State_raiseTh | apply keeps_ite)
    | simp -zeta only [keeps_mk, keepsC_fold, id_eq] | split

/-! ### Machine/Operands.lean -/

theorem keeps_State_thWrite (src : Requester) (f : State → State) {s0 s : State} (hk : Keeps s0 s) (h_f : ∀ (y0 : State), Keeps s0 y0 → Keeps s0 (f y0)) : Keeps s0 (State.thWrite s src f) := by
  unfold State.thWrite
  repeat' first
    | with_reducible assumption | intro _ | with_reducible (first | apply h_f | apply keeps_ite) | split

theorem keeps_State_ctxDrop  {s0 s : State} (hk : Keeps s0 s)  : Keeps s0 (State.ctxDrop s) := by
  unfold State.ctxDrop
  repeat' first
    | with_reducible assumption | intro _ | with_reducible apply keeps_State_bump

theorem keeps_State_reach (via : Via) {s0 s : State} (hk : Keeps s0 s)  : Keeps s0 (State.reach s via).2 := by
  unfold State.reach
  repeat' first
    | with_reducible assumption | intro _
    | ((fail_if_no_progress extract_lets +onlyGivenNames x); refine keeps_cut (s0 := s0) (x := x) ?_ ?_; on_goal 1 => subst x)
    | (fail_if_no_progress extract_lets +onlyGivenNames x)
    | with_reducible (first | apply keeps_State_bump | apply keeps_State_ctxDrop | apply keeps_ite | apply keeps_ite2)
    | simp -zeta only [keeps_mk, keepsC_fold, id_eq] | split

theorem keeps_State_deliver (via : Via) (f : Twin → State → State) {s0 s : State} (hk : Keeps s0 s) (h_f : ∀ (y0 : Twin) (y1 : State), Keeps s0 y1 → Keeps s0 (f y0 y1)) : Keeps s0 (State.deliver s via f) := by
  unfold State.deliver
  repeat' first
    | with_reducible assumption | intro _
    | ((fail_if_no_progress extract_lets +onlyGivenNames x); refine keeps_cut (s0 := s0) (x := x) ?_ ?_; on_goal 1 => subst x)
    | (fail_if_no_progress extract_lets +onlyGivenNames x)
    | with_reducible (first | apply h_f | apply keeps_State_reach | apply keeps_foldl | (refine keeps_eq2 (by with_reducible assumption) ?_) | (refine keeps_eq22 (by with_reducible assumption) ?_))
    | simp -zeta only [keeps_mk, keepsC_fold, id_eq]

theorem keeps_State_plainWrite (a : Nat) (v : Word) {s0 s : State} (hk : Keeps s0 s) : Keeps s0 (State.plainWrite s a v) := by
  unfold State.plainWrite
  repeat' first
    | with_reducible assumption | decide | intro _
    | ((fail_if_no_progress extract_lets +onlyGivenNames x); refine keeps_cut (s0 := s0) (x := x) ?_ ?_; on_goal 1 => subst x)
    | (fail_if_no_progress extract_lets +onlyGivenNames x)
    | with_reducible (first | apply keeps_State_setReg | apply keeps_State_setClock | apply keeps_ite | apply keeps_ite2 | apply keeps_ite22 | (refine keeps_eq2 (by with_reducible assumption) ?_) | (refine keeps_eq22 (by with_reducible assumption) ?_))
    | simp -zeta only [keeps_mk, keepsC_fold, id_eq] | (refine keepsC_le ?_ ?_ ?_) | omega | split | (clear_value *; split)

theorem keeps_State_clearRead (r : RegRow) (w a : Nat) {s0 s : State} (hk : Keeps s0 s) : Keeps s0 (State.clearRead s r w a) := by
  unfold State.clearRead
  repeat' first
    | with_reducible assumption | decide | intro _
    | ((fail_if_no_progress extract_lets +onlyGivenNames x); refine keeps_cut (s0 := s0) (x := x) ?_ ?_; on_goal 1 => subst x)
    | (fail_if_no_progress extract_lets +onlyGivenNames x)
    | with_reducible (first | apply keeps_State_setReg | apply keeps_State_setClock | apply keeps_ite | apply keeps_ite2 | apply keeps_ite22 | (refine keeps_eq2 (by with_reducible assumption) ?_) | (refine keeps_eq22 (by with_reducible assumption) ?_))
    | simp -zeta only [keeps_mk, keepsC_fold, id_eq] | (refine keepsC_le ?_ ?_ ?_) | omega | split | (clear_value *; split)

theorem keeps_State_plainRead (a : Nat) {s0 s : State} (hk : Keeps s0 s) : Keeps s0 (State.plainRead s a).2 := by
  unfold State.plainRead
  repeat' first
    | with_reducible assumption | decide | intro _
    | ((fail_if_no_progress extract_lets +onlyGivenNames x); refine keeps_cut (s0 := s0) (x := x) ?_ ?_; on_goal 1 => subst x)
    | (fail_if_no_progress extract_lets +onlyGivenNames x)
    | with_reducible (first | apply keeps_State_clearRead | apply keeps_ite | apply keeps_ite2 | apply keeps_ite22 | (refine keeps_eq2 (by with_reducible assumption) ?_) | (refine keeps_eq22 (by with_reducible assumption) ?_))
    | simp -zeta only [keeps_mk, keepsC_fold, id_eq] | (refine keepsC_le ?_ ?_ ?_) | omega | split | (clear_value *; split)

theorem keeps_State_latchHigh (r : Requester) (lowAddr : Nat) (high : Word) {s0 s : State} (hk : Keeps s0 s)  : Keeps s0 (State.latchHigh s r lowAddr high) := by
  unfold State.latchHigh
  repeat' first
    | with_reducible assumption | intro _
    | ((fail_if_no_progress extract_lets +onlyGivenNames x); refine keeps_cut (s0 := s0) (x := x) ?_ ?_; on_goal 1 => subst x)
    | (fail_if_no_progress extract_lets +onlyGivenNames x) | simp -zeta only [keeps_mk, keepsC_fold, id_eq]

theorem keeps_State_unlatch (r : Requester) (lowAddr : Nat) {s0 s : State} (hk : Keeps s0 s)  : Keeps s0 (State.unlatch s r lowAddr) := by
  unfold State.unlatch
  repeat' first
    | with_reducible assumption | intro _
    | ((fail_if_no_progress extract_lets +onlyGivenNames x); refine keeps_cut (s0 := s0) (x := x) ?_ ?_; on_goal 1 => subst x)
    | (fail_if_no_progress extract_lets +onlyGivenNames x) | simp -zeta only [keeps_mk, keepsC_fold, id_eq]

theorem keeps_State_holdHigh (r : Requester) (lowAddr : Nat) (v : Word) {s0 s : State} (hk : Keeps s0 s)  : Keeps s0 (State.holdHigh s r lowAddr v) := by
  unfold State.holdHigh
  repeat' first
    | with_reducible assumption | intro _
    | ((fail_if_no_progress extract_lets +onlyGivenNames x); refine keeps_cut (s0 := s0) (x := x) ?_ ?_; on_goal 1 => subst x)
    | (fail_if_no_progress extract_lets +onlyGivenNames x) | simp -zeta only [keeps_mk, keepsC_fold, id_eq]

theorem keeps_State_wholeAccess (r : Requester) (lowAddr : Nat) {s0 s : State} (hk : Keeps s0 s) : Keeps s0 (State.wholeAccess s r lowAddr) := by
  unfold State.wholeAccess
  repeat' first
    | with_reducible assumption | decide | intro _
    | ((fail_if_no_progress extract_lets +onlyGivenNames x); refine keeps_cut (s0 := s0) (x := x) ?_ ?_; on_goal 1 => subst x)
    | (fail_if_no_progress extract_lets +onlyGivenNames x)
    | with_reducible (first | apply keeps_State_unlatch | apply keeps_ite | apply keeps_ite2 | apply keeps_ite22 | (refine keeps_eq2 (by with_reducible assumption) ?_) | (refine keeps_eq22 (by with_reducible assumption) ?_))
    | simp -zeta only [keeps_mk, keepsC_fold, id_eq] | (refine keepsC_le ?_ ?_ ?_) | omega | split | (clear_value *; split)

theorem keeps_State_takeHold (r : Requester) (lowAddr : Nat) {s0 s : State} (hk : Keeps s0 s)  : Keeps s0 (State.takeHold s r lowAddr).2 := by
  unfold State.takeHold
  repeat' first
    | with_reducible assumption | intro _
    | ((fail_if_no_progress extract_lets +onlyGivenNames x); refine keeps_cut (s0 := s0) (x := x) ?_ ?_; on_goal 1 => subst x)
    | (fail_if_no_progress extract_lets +onlyGivenNames x) | simp -zeta only [keeps_mk, keepsC_fold, id_eq]

/-! ### Machine/Boot.lean -/

theorem keeps_programRecord  {s0 s : State} (hk : Keeps s0 s)  : Keeps s0 (programRecord s) := by
  unfold programRecord
  repeat' first
    | with_reducible assumption | intro _
    | ((fail_if_no_progress extract_lets +onlyGivenNames x); refine keeps_cut (s0 := s0) (x := x) ?_ ?_; on_goal 1 => subst x)
    | (fail_if_no_progress extract_lets +onlyGivenNames x)
    | with_reducible (first | apply keeps_State_wrBytes | apply keeps_State_resetMem | (refine keeps_eq2 (by with_reducible assumption) ?_) | (refine keeps_eq22 (by with_reducible assumption) ?_))
    | simp -zeta only [keeps_mk, keepsC_fold, id_eq] | split

theorem keeps_State_setRec (r : BootRec) {s0 s : State} (hk : Keeps s0 s)  : Keeps s0 (State.setRec s r) := by
  unfold State.setRec
  repeat' first
    | with_reducible assumption | intro _
    | ((fail_if_no_progress extract_lets +onlyGivenNames x); refine keeps_cut (s0 := s0) (x := x) ?_ ?_; on_goal 1 => subst x)
    | (fail_if_no_progress extract_lets +onlyGivenNames x) | with_reducible apply keeps_State_sb
    | simp -zeta only [keeps_mk, keepsC_fold, id_eq]

theorem keeps_State_setStarted (w : Twin) (v : Bool) {s0 s : State} (hk : Keeps s0 s)  : Keeps s0 (State.setStarted s w v) := by
  unfold State.setStarted
  repeat' first
    | with_reducible assumption | intro _
    | ((fail_if_no_progress extract_lets +onlyGivenNames x); refine keeps_cut (s0 := s0) (x := x) ?_ ?_; on_goal 1 => subst x)
    | (fail_if_no_progress extract_lets +onlyGivenNames x) | simp -zeta only [keeps_mk, keepsC_fold, id_eq] | split

theorem keeps_State_twinReset (w : Twin) {s0 s : State} (hk : Keeps s0 s)  : Keeps s0 (State.twinReset s w) := by
  unfold State.twinReset
  repeat' first
    | with_reducible assumption | intro _
    | ((fail_if_no_progress extract_lets +onlyGivenNames x); refine keeps_cut (s0 := s0) (x := x) ?_ ?_; on_goal 1 => subst x)
    | (fail_if_no_progress extract_lets +onlyGivenNames x)
    | with_reducible (first | apply keeps_State_reset | apply keeps_State_resetRegs | apply keeps_State_resetMem | apply keeps_State_modTw | apply keeps_State_setStarted)
    | simp -zeta only [keeps_mk, keepsC_fold, id_eq]

theorem keeps_startFirmware (w : Twin) {s0 s : State} (hk : Keeps s0 s)  : Keeps s0 (startFirmware w s) := by
  unfold startFirmware
  repeat' first
    | with_reducible assumption | intro _
    | ((fail_if_no_progress extract_lets +onlyGivenNames x); refine keeps_cut (s0 := s0) (x := x) ?_ ?_; on_goal 1 => subst x)
    | (fail_if_no_progress extract_lets +onlyGivenNames x)
    | with_reducible (first | apply keeps_State_setReg | apply keeps_State_sf | apply keeps_ite)
    | simp -zeta only [keeps_mk, keepsC_fold, id_eq] | split

theorem keeps_restartFirmware (w : Twin) {s0 s : State} (hk : Keeps s0 s)  : Keeps s0 (restartFirmware w s) := by
  unfold restartFirmware
  repeat' first
    | with_reducible assumption | intro _
    | ((fail_if_no_progress extract_lets +onlyGivenNames x); refine keeps_cut (s0 := s0) (x := x) ?_ ?_; on_goal 1 => subst x)
    | (fail_if_no_progress extract_lets +onlyGivenNames x)
    | with_reducible (first | apply keeps_State_twinReset | apply keeps_startFirmware | apply keeps_ite) | split

theorem keeps_revertRecord (w : Twin) (reason : Nat) {s0 s : State} (hk : Keeps s0 s)  : Keeps s0 (revertRecord w reason s) := by
  unfold revertRecord
  repeat' first
    | with_reducible assumption | intro _
    | ((fail_if_no_progress extract_lets +onlyGivenNames x); refine keeps_cut (s0 := s0) (x := x) ?_ ?_; on_goal 1 => subst x)
    | (fail_if_no_progress extract_lets +onlyGivenNames x)
    | with_reducible (first | apply keeps_State_sb | apply keeps_State_raiseTh | apply keeps_State_setRec)
    | simp -zeta only [keeps_mk, keepsC_fold, id_eq]

/-! ### Machine/Roles.lean -/

theorem keeps_State_frameFlag (f : Nat) {s0 s : State} (hk : Keeps s0 s)  : Keeps s0 (State.frameFlag s f) := by
  unfold State.frameFlag
  repeat' first
    | with_reducible assumption | intro _
    | ((fail_if_no_progress extract_lets +onlyGivenNames x); refine keeps_cut (s0 := s0) (x := x) ?_ ?_; on_goal 1 => subst x)
    | (fail_if_no_progress extract_lets +onlyGivenNames x) | simp -zeta only [keeps_mk, keepsC_fold, id_eq]

theorem keeps_State_forceFullAll  {s0 s : State} (hk : Keeps s0 s)  : Keeps s0 (State.forceFullAll s) := by
  unfold State.forceFullAll
  repeat' first
    | with_reducible assumption | intro _
    | ((fail_if_no_progress extract_lets +onlyGivenNames x); refine keeps_cut (s0 := s0) (x := x) ?_ ?_; on_goal 1 => subst x)
    | (fail_if_no_progress extract_lets +onlyGivenNames x) | simp -zeta only [keeps_mk, keepsC_fold, id_eq]

theorem keeps_genHold (p : Nat) {s0 s : State} (hk : Keeps s0 s) : Keeps s0 (genHold p s) := by
  unfold genHold
  repeat' first
    | with_reducible assumption | decide | intro _
    | ((fail_if_no_progress extract_lets +onlyGivenNames x); refine keeps_cut (s0 := s0) (x := x) ?_ ?_; on_goal 1 => subst x)
    | (fail_if_no_progress extract_lets +onlyGivenNames x)
    | with_reducible (first | apply keeps_State_emitPkt | apply keeps_ite | apply keeps_ite2 | apply keeps_ite22 | (refine keeps_eq2 (by with_reducible assumption) ?_) | (refine keeps_eq22 (by with_reducible assumption) ?_))
    | simp -zeta only [keeps_mk, keepsC_fold, id_eq] | (refine keepsC_le ?_ ?_ ?_) | omega | split | (clear_value *; split)

theorem keeps_syncGen  {s0 s : State} (hk : Keeps s0 s) : Keeps s0 (syncGen s) := by
  unfold syncGen
  repeat' first
    | with_reducible assumption | decide | intro _
    | ((fail_if_no_progress extract_lets +onlyGivenNames x); refine keeps_cut (s0 := s0) (x := x) ?_ ?_; on_goal 1 => subst x)
    | (fail_if_no_progress extract_lets +onlyGivenNames x)
    | with_reducible (first | apply keeps_genHold | apply keeps_ite | apply keeps_ite2 | apply keeps_ite22 | apply keeps_foldl | apply keeps_foldl2 | (refine keeps_eq2 (by with_reducible assumption) ?_) | (refine keeps_eq22 (by with_reducible assumption) ?_))
    | simp -zeta only [keeps_mk, keepsC_fold, id_eq] | (refine keepsC_le ?_ ?_ ?_) | omega | split | (clear_value *; split)

theorem keeps_leaveHold (old : State) {s0 new : State} (hk : Keeps s0 new) : Keeps s0 (leaveHold old new) := by
  unfold leaveHold
  repeat' first
    | with_reducible assumption | decide | intro _
    | ((fail_if_no_progress extract_lets +onlyGivenNames x); refine keeps_cut (s0 := s0) (x := x) ?_ ?_; on_goal 1 => subst x)
    | (fail_if_no_progress extract_lets +onlyGivenNames x)
    | with_reducible (first | apply keeps_State_forceFullAll | apply keeps_syncGen | apply keeps_ite | apply keeps_ite2 | apply keeps_ite22 | (refine keeps_eq2 (by with_reducible assumption) ?_) | (refine keeps_eq22 (by with_reducible assumption) ?_))
    | simp -zeta only [keeps_mk, keepsC_fold, id_eq] | (refine keepsC_le ?_ ?_ ?_) | omega | split | (clear_value *; split)

theorem keeps_State_beginResync (w : Twin) {s0 s : State} (hk : Keeps s0 s)  : Keeps s0 (State.beginResync s w) := by
  unfold State.beginResync
  repeat' first
    | with_reducible assumption | decide | intro _
    | ((fail_if_no_progress extract_lets +onlyGivenNames x); refine keeps_cut (s0 := s0) (x := x) ?_ ?_; on_goal 1 => subst x)
    | (fail_if_no_progress extract_lets +onlyGivenNames x)
    | with_reducible (first | apply keeps_State_setReg | apply keeps_State_sf | apply keeps_ite | apply keeps_ite2 | apply keeps_ite22 | apply keeps_foldl | apply keeps_foldl2 | (refine keeps_eq2 (by with_reducible assumption) ?_) | (refine keeps_eq22 (by with_reducible assumption) ?_))
    | simp -zeta only [keeps_mk, keepsC_fold, id_eq] | (refine keepsC_le ?_ ?_ ?_) | omega | split | (clear_value *; split)

theorem keeps_State_roleEvents (old new : Role) {s0 s : State} (hk : Keeps s0 s)  : Keeps s0 (State.roleEvents s old new) := by
  unfold State.roleEvents
  repeat' first
    | with_reducible assumption | intro _
    | ((fail_if_no_progress extract_lets +onlyGivenNames x); refine keeps_cut (s0 := s0) (x := x) ?_ ?_; on_goal 1 => subst x)
    | (fail_if_no_progress extract_lets +onlyGivenNames x) | with_reducible (first | apply keeps_State_raiseTh | apply keeps_ite)
    | simp -zeta only [keeps_mk, keepsC_fold, id_eq] | split

theorem keeps_revertEntered (w : Twin) (old new : Role) {s0 s : State} (h : Keeps s0 s) : Keeps s0 (revertEntered w old new s) := by
  unfold revertEntered
  refine keeps_ite h fun _ => ?_
  have h1 := keeps_restartFirmware w (keeps_revertRecord w 2 h)
  cases w <;> refine keeps_mk.2 (keepsC_roles h1 ?_) <;> split <;> simp

theorem keeps_State_setRoles (ra rb : Role) (hr : ¬(ra = .active ∧ rb = .active)) {s0 s : State} (h : Keeps s0 s) :
    Keeps s0 (s.setRoles ra rb) := by
  unfold State.setRoles
  have h1 : Keeps s0 { s with role := ⟨ra, rb⟩ } := keeps_mk.2 (keepsC_roles h hr)
  generalize ({ s with role := ⟨ra, rb⟩ } : State) = y at h1 ⊢
  repeat' first
    | with_reducible assumption
    | intro _
    | with_reducible first
      | apply keeps_State_sf
      | apply keeps_State_raiseTh
      | apply keeps_State_frameFlag
      | apply keeps_State_beginResync
      | apply keeps_State_roleEvents
      | apply keeps_leaveHold
      | apply keeps_revertEntered
      | apply keeps_ite
    | simp -zeta only [keeps_mk, keepsC_fold]
    | (extract_lets +onlyGivenNames x; refine keeps_cut (s0 := s0) (x := x) ?_ ?_; on_goal 1 => subst x)
    | extract_lets +onlyGivenNames x

theorem keeps_State_setRole (w : Twin) (r : Role) (hr : r ≠ .active) {s0 s : State} (h : Keeps s0 s) : Keeps s0 (s.setRole w r) := by
  cases w
  · exact keeps_State_setRoles _ _ (fun x => hr x.1) h
  · exact keeps_State_setRoles _ _ (fun x => hr x.2) h

theorem keeps_State_setRole_active (w : Twin) {s0 s : State} (hn : s.roleOf w.other ≠ .active) (h : Keeps s0 s) :
    Keeps s0 (s.setRole w .active) := by
  cases w
  · exact keeps_State_setRoles _ _ (fun x => hn x.2) h
  · exact keeps_State_setRoles _ _ (fun x => hn x.1) h

theorem keeps_State_setRoles2 (w : Twin) (rw ro : Role) (hr : ¬(rw = .active ∧ ro = .active)) {s0 s : State} (h : Keeps s0 s) :
    Keeps s0 (s.setRoles2 w rw ro) := by
  cases w
  · exact keeps_State_setRoles _ _ hr h
  · exact keeps_State_setRoles _ _ (fun x => hr x.symm) h

theorem keeps_State_isolate (w : Twin) {s0 s : State} (h : Keeps s0 s) : Keeps s0 (s.isolate w) :=
  keeps_State_setRole _ _ (by decide) (keeps_State_sb _ _ _ h)

theorem keeps_State_holdReset (w : Twin) {s0 s : State} (h : Keeps s0 s) : Keeps s0 (s.holdReset w) := by
  unfold State.holdReset
  have h0 := keeps_State_sb Reg.TWIN_CTL (Fld.rst w) true h
  refine keeps_ite ?_ fun _ => ?_ <;> refine keeps_State_setRole _ _ (by decide) (keeps_State_twinReset w (keeps_ite h0 fun _ => keeps_revertRecord w 2 h0))

theorem keeps_State_setHealth (w : Twin) (bit : Nat) {s0 s : State} (h : Keeps s0 s) : Keeps s0 (s.setHealth w bit) := by
  unfold State.setHealth
  refine keeps_ite ?_ fun _ => h
  cases w
  · exact keeps_same (keeps_State_orReg Reg.PERI_HEALTH_A (2 ^ bit) h) rfl rfl rfl rfl
  · exact keeps_same (keeps_State_orReg Reg.PERI_HEALTH_B (2 ^ bit) h) rfl rfl rfl rfl

theorem keeps_State_refuse  {s0 s : State} (hk : Keeps s0 s)  : Keeps s0 (State.refuse s) := by
  unfold State.refuse
  repeat' first
    | with_reducible assumption | intro _ | with_reducible apply keeps_State_sb

theorem keeps_State_addSwap (d : SwapDue) {s0 s : State} (hk : Keeps s0 s) : Keeps s0 (State.addSwap s d) := by
  unfold State.addSwap
  repeat' first
    | with_reducible assumption | decide | intro _
    | ((fail_if_no_progress extract_lets +onlyGivenNames x); refine keeps_cut (s0 := s0) (x := x) ?_ ?_; on_goal 1 => subst x)
    | (fail_if_no_progress extract_lets +onlyGivenNames x)
    | with_reducible (first | apply keeps_ite | apply keeps_ite2 | apply keeps_ite22 | (refine keeps_eq2 (by with_reducible assumption) ?_) | (refine keeps_eq22 (by with_reducible assumption) ?_))
    | simp -zeta only [keeps_mk, keepsC_fold, id_eq] | (refine keepsC_le ?_ ?_ ?_) | omega | split | (clear_value *; split)

theorem keeps_State_withdraw (w : Twin) {s0 s : State} (hk : Keeps s0 s) : Keeps s0 (State.withdraw s w) := by
  unfold State.withdraw
  repeat' first
    | with_reducible assumption | decide | intro _
    | ((fail_if_no_progress extract_lets +onlyGivenNames x); refine keeps_cut (s0 := s0) (x := x) ?_ ?_; on_goal 1 => subst x)
    | (fail_if_no_progress extract_lets +onlyGivenNames x)
    | with_reducible (first | apply keeps_State_isolate | apply keeps_ite | apply keeps_ite2 | apply keeps_ite22 | (refine keeps_eq2 (by with_reducible assumption) ?_) | (refine keeps_eq22 (by with_reducible assumption) ?_))
    | simp -zeta only [keeps_mk, keepsC_fold, id_eq] | (refine keepsC_le ?_ ?_ ?_) | omega | split | (clear_value *; split)

theorem keeps_State_doSwapDue {s0 s : State} (h : Keeps s0 s) : Keeps s0 s.doSwapDue := by
  unfold State.doSwapDue
  split
  · exact h
  · rename_i d _
    have h0 : Keeps s0 { s with swapDue := none } := keeps_same h rfl rfl rfl rfl
    generalize ({ s with swapDue := none } : State) = y at h0 ⊢
    refine keeps_ite ?_ fun _ => ?_
    · refine keeps_ite ?_ fun _ => h0
      have h1 := keeps_State_refuse h0
      refine keeps_ite ?_ fun _ => h1
      have h2 := keeps_State_sb Reg.TWIN_CTL (Fld.rst d.from_) false h1
      exact keeps_ite (keeps_State_sb _ _ _ h2) fun _ => h2
    · cases d.then_
      · exact keeps_State_setRoles2 _ _ _ (by decide) h0
      · exact keeps_State_setRoles2 _ _ _ (by decide) h0
      · exact keeps_State_setRoles2 _ _ _ (by decide) (keeps_State_sb _ _ _ h0)
      · exact keeps_State_holdReset _ (keeps_State_setRoles2 _ _ _ (by decide) h0)
      · exact keeps_same (keeps_State_setRoles2 _ _ _ (by decide) h0) rfl rfl rfl rfl

theorem keeps_State_takeActive (w : Twin) {s0 s : State} (hn : s.roleOf w.other ≠ .active) (h : Keeps s0 s) : Keeps s0 (s.takeActive w) := by
  unfold State.takeActive
  extract_lets o ro
  refine keeps_State_setRoles2 _ _ _ (fun x => ?_) h
  have := x.2
  simp only [ro] at this
  split at this
  · cases this
  · exact hn this

theorem keeps_State_resetKeepingDram (w : Twin) {s0 s : State} (h : Keeps s0 s) : Keeps s0 (s.resetKeepingDram w) := by
  have h1 := keeps_State_twinReset w h
  exact keeps_mk.2 ⟨h1.pending, h1.regs, fun x => Smap.wf_filter (h.mem x) _, h1.act, h1.now, h1.free⟩

theorem keeps_inPlaceStart (w : Twin) {s0 s : State} (h : Keeps s0 s) : Keeps s0 (inPlaceStart w s) := by
  unfold inPlaceStart
  refine keeps_startFirmware _ (keeps_State_resetKeepingDram _ (keeps_State_setRoles2 _ _ _ (fun x => ?_) h))
  exact absurd x.1 (by decide)

theorem keeps_inPlaceLatch  {s0 s : State} (hk : Keeps s0 s)  : Keeps s0 (inPlaceLatch s) := by
  unfold inPlaceLatch
  repeat' first
    | with_reducible assumption | intro _
    | ((fail_if_no_progress extract_lets +onlyGivenNames x); refine keeps_cut (s0 := s0) (x := x) ?_ ?_; on_goal 1 => subst x)
    | (fail_if_no_progress extract_lets +onlyGivenNames x) | with_reducible (first | apply keeps_inPlaceStart | apply keeps_ite)
    | simp -zeta only [keeps_mk, keepsC_fold, id_eq] | split

end Sys2Proof.Machine
end

