-- ==== Sys2Proof/Laws/Events.lean ====
section
/-!
SUPPORT. What raising an event can change: nothing but what `eventsOnly` names.
-/
set_option linter.unusedVariables false
namespace Sys2Proof.Machine

/-- `eventsOnly` from a state in canonical form, with the canonical form kept. -/
structure Evt (s u : State) : Prop where
  rest : u = s.withEvents u
  regs : s.regsWf = true → u.regsWf = true ∧ ∀ a, evtReg a = false → u.reg a = s.reg a
  bytes : Memory.wf s.mem = true → Memory.wf u.mem = true ∧ ∀ a, evtByte a = false → u.rdB a = s.rdB a

theorem Evt.only {s u : State} (h : Evt s u) (hr : s.regsWf = true) (hm : Memory.wf s.mem = true) : eventsOnly s u :=
  ⟨h.rest, (h.regs hr).2, (h.bytes hm).2⟩

theorem Evt.refl (s : State) : Evt s s := ⟨rfl, fun h => ⟨h, fun _ _ => rfl⟩, fun h => ⟨h, fun _ _ => rfl⟩⟩

theorem Evt.trans {s u v : State} (h : Evt s u) (g : Evt u v) : Evt s v := by
  refine ⟨?_, fun x => ?_, fun x => ?_⟩
  · rw [g.rest, h.rest]; rfl
  · have h1 := h.regs x
    have g1 := g.regs h1.1
    exact ⟨g1.1, fun a ha => (g1.2 a ha).trans (h1.2 a ha)⟩
  · have h1 := h.bytes x
    have g1 := g.bytes h1.1
    exact ⟨g1.1, fun a ha => (g1.2 a ha).trans (h1.2 a ha)⟩

theorem Evt.setReg {s u : State} (h : Evt s u) {a : Nat} (v : Word) (ha : evtReg a = true) : Evt s (u.setReg a v) := by
  refine h.trans ⟨rfl, fun x => ⟨State.regsWf_setReg x a v, fun b hb => State.reg_setReg_ne x (fun e => ?_) v⟩, fun x => ⟨x, fun _ _ => rfl⟩⟩
  rw [e, ha] at hb; cases hb

theorem Evt.wrB {s u : State} (h : Evt s u) {a : Nat} (v : Byte) (ha : evtByte a = true) : Evt s (u.wrB a v) := by
  refine h.trans ⟨rfl, fun x => ⟨x, fun _ _ => rfl⟩, fun x => ⟨State.memWf_wrB x a v, fun b hb => State.rdB_wrB_ne x (fun e => ?_) v⟩⟩
  rw [e, ha] at hb; cases hb

/-- A field in the low word of a register. -/
theorem State.sf_low (s : State) (a : Nat) (f : Fld) (v : Nat) (hf : f.hi < 32) :
    s.sf a f v = s.setReg a (BitVec.ofNat 32 (putFld (s.regNat a f) f v)) := by
  unfold State.sf
  simp only []
  rw [if_neg (by omega)]

theorem Evt.sf {s u : State} (h : Evt s u) {a : Nat} (f : Fld) (v : Nat) (hf : f.hi < 32) (ha : evtReg a = true) : Evt s (u.sf a f v) := by
  rw [State.sf_low _ _ _ _ hf]; exact h.setReg _ ha

theorem Evt.bump {s u : State} (h : Evt s u) {a : Nat} (f : Fld) (n : Nat) (hf : f.hi < 32) (ha : evtReg a = true) : Evt s (u.bump a f n) :=
  h.sf _ _ hf ha

theorem Evt.ite {s a b : State} {c : Prop} [Decidable c] (ha : Evt s a) (hb : Evt s b) : Evt s (if c then a else b) := by
  split
  · exact ha
  · exact hb

theorem getFld_lt (v : Word) (f : Fld) : getFld v f < 2 ^ (f.hi - f.lo + 1) := Nat.mod_lt _ (Nat.two_pow_pos _)

theorem evtReg_pend {n : Nat} (h : n < 256) : evtReg (Reg.EVT_PEND (n / 32)) = true := by
  have h1 : Reg.EVT_PEND 0 ≤ Reg.EVT_PEND (n / 32) ∧ Reg.EVT_PEND (n / 32) < Reg.EVT_PEND 8 := by
    simp only [Reg.EVT_PEND]; omega
  simp [evtReg, h1]

theorem evtReg_tpend (w : Twin) {n : Nat} (h : n < 256) : evtReg (Reg.EVT_TPEND w (n / 32)) = true := by
  have h1 : Reg.EVT_TPEND w 0 ≤ Reg.EVT_TPEND w (n / 32) ∧ Reg.EVT_TPEND w (n / 32) < Reg.EVT_TPEND w 8 := by
    simp only [Reg.EVT_TPEND]; omega
  cases w <;> simp [evtReg, twins, h1]

theorem evtReg_qcnt (w : Twin) {q : Nat} (h : q < 64) : evtReg (Reg.SORUS_QCNT w q) = true := by
  have h1 : Reg.SORUS_QCNT w 0 ≤ Reg.SORUS_QCNT w q ∧ Reg.SORUS_QCNT w q < Reg.SORUS_QCNT w 64 := by
    simp only [Reg.SORUS_QCNT]; omega
  cases w <;> simp [evtReg, twins, h1]

theorem Evt.logFirst {s u : State} (h : Evt s u) (b : Bool) (c : LogClock) : Evt s { u with logFirst := b, logCycle := c } :=
  h.trans ⟨rfl, fun x => ⟨x, fun _ _ => rfl⟩, fun x => ⟨x, fun _ _ => rfl⟩⟩

theorem Evt.onceMarks {s u : State} (h : Evt s u) (m : OnceMarks) : Evt s { u with once := m } :=
  h.trans ⟨rfl, fun x => ⟨x, fun _ _ => rfl⟩, fun x => ⟨x, fun _ _ => rfl⟩⟩

theorem Evt.wrBytes {s u : State} (h : Evt s u) (a : Nat) (l : List Byte) (ha : ∀ i, i < l.length → evtByte (a + i) = true) :
    Evt s (u.wrBytes a l) := by
  induction l generalizing u a with
  | nil => exact h
  | cons b l ih =>
    refine ih (h.wrB b (ha 0 (Nat.succ_pos _))) (a + 1) fun i hi => ?_
    have := ha (i + 1) (Nat.succ_lt_succ hi)
    rwa [show a + (i + 1) = a + 1 + i by omega] at this

theorem leBytes_length (n v : Nat) : (leBytes n v).length = n := by
  induction n generalizing v with
  | zero => rfl
  | succ n ih => simp [leBytes, ih]

theorem LogRec.bytes_length (r : LogRec) (first : Bool) (i : Nat) : (r.bytes first i).length = 16 := by
  simp [LogRec.bytes, leBytes_length]

theorem Evt.writeRecords {s u : State} (h : Evt s u) (first : Bool) (i : Nat) (l : List LogRec) : Evt s (u.writeRecords first i l) := by
  unfold State.writeRecords
  generalize l.zipIdx = m
  induction m generalizing u with
  | nil => exact h
  | cons e m ih =>
    rw [List.foldl_cons]
    refine ih (h.wrBytes _ _ fun j hj => ?_)
    rw [LogRec.bytes_length] at hj
    generalize i + e.2 = k
    have := Nat.mod_lt k (show 0 < 1024 by decide)
    simp only [evtByte, logAddr]
    exact decide_eq_true (.inl ⟨by omega, by omega⟩)

theorem Evt.logRecord {s u : State} (h : Evt s u) (src n data stamp : Nat) : Evt s (u.logRecord src n data stamp) := by
  unfold State.logRecord
  refine .ite (h.bump _ _ (by decide) (by decide)) ?_
  extract_lets head tail old recs s1 s2
  have h1 : Evt s s1 := .ite (h.bump _ _ (by decide) (by decide)) h
  have h2 : Evt s s2 := h1.writeRecords _ _ _
  exact (h2.logFirst false ⟨u.now, old.2, recs⟩).setReg _ (by decide)

theorem Evt.orReg {s u : State} (h : Evt s u) {a : Nat} (v : Nat) (ha : evtReg a = true) : Evt s (u.orReg a v) := h.setReg _ ha

theorem Evt.sendMsix {s u : State} (h : Evt s u) {v : Nat} (n : Nat) (hv : v < 256) : Evt s (u.sendMsix v n) := by
  unfold State.sendMsix
  refine .ite (h.trans ⟨rfl, fun x => ⟨x, fun _ _ => rfl⟩, fun x => ⟨x, fun _ _ => rfl⟩⟩) ?_
  refine h.wrB _ ?_
  simp only [evtByte, decide_eq_true_eq]
  omega

/-- What the Thallus side of a raise can change. -/
theorem Evt.accept {s u : State} (h : Evt s u) (src n data stamp : Nat) (hn : n < 256) : Evt s (u.accept src n data stamp) := by
  unfold State.accept
  extract_lets route s1 s2
  have h1 : Evt s s1 :=
    .ite (h.trans ⟨rfl, fun x => ⟨x, fun _ _ => rfl⟩, fun x => ⟨x, fun _ _ => rfl⟩⟩) (h.orReg _ (evtReg_pend hn))
  have h2 : Evt s s2 := .ite (h1.sendMsix _ (getFld_lt _ Fld.EVT_ROUTE_VECTOR)) h1
  exact .ite (h2.logRecord _ _ _ _) h2

theorem Evt.mark {s u : State} (h : Evt s u) (w : Twin) (n d : Nat) : Evt s (u.modTw w (·.mark n d)) := by
  cases w <;> exact h.trans ⟨rfl, fun x => ⟨x, fun _ _ => rfl⟩, fun x => ⟨x, fun _ _ => rfl⟩⟩

theorem Evt.bankViol {s u : State} (h : Evt s u) (w : Twin) (n : Nat) : Evt s (u.bankViol w n) := by
  have hw : evtReg (Reg.BANK_VIOL w) = true := by cases w <;> decide
  exact (h.bump _ _ (by decide) hw).sf _ _ (by decide) hw

theorem Evt.pushItem {s u : State} (h : Evt s u) (w : Twin) (q by_ : Nat) (soft : Bool) (k : Nat) (item : Item) :
    Evt s (pushItem w q by_ soft k item u).2.2 := by
  have hm : ∀ f : TwinState → Sorus, Evt s (u.modTw w (fun t => { t with sorus := f t })) := fun f => by
    cases w <;> exact h.trans ⟨rfl, fun x => ⟨x, fun _ _ => rfl⟩, fun x => ⟨x, fun _ _ => rfl⟩⟩
  unfold Machine.pushItem
  extract_lets
  split
  · exact h
  split
  · exact h
  split
  · exact h
  split
  · exact h
  split
  · exact h
  split
  · exact h
  split
  · exact h
  · exact hm fun _ => _

/-- What the queue routes of a raise can change. -/
theorem Evt.routeTwin (fuel : Nat) (w : Twin) {s u : State} (h : Evt s u) (src n data stamp : Nat) (hn : n < 256) :
    Evt s (routeTwin fuel w src n data stamp u) := by
  induction fuel generalizing u src n data stamp with
  | zero => exact h
  | succ fuel ih =>
    have hr : ∀ (en : Bool) (m d : Nat) (x : State), m < 256 → Evt s x →
        Evt s (if (!en || (x.tw w).marked m) = true then x
          else Machine.routeTwin fuel w (w.code + 1) m d stamp
            (if (x.modTw w (·.mark m d)).roleOf w = .active then (x.modTw w (·.mark m d)).accept (w.code + 1) m d stamp
             else x.modTw w (·.mark m d))) := by
      intro en m d x hm hx
      exact .ite hx (ih (.ite ((hx.mark w m d).accept _ _ _ _ hm) (hx.mark w m d)) _ _ _ _ hm)
    have hs : evtReg (Reg.SORUS_CNT w) = true := by cases w <;> decide
    have ht : evtReg (Reg.EVT_TSTAT w) = true := by cases w <;> decide
    simp only [Machine.routeTwin]
    have h1 : Evt s (u.orReg (Reg.EVT_TPEND w (n / 32)) (2 ^ (n % 32))) := h.orReg _ (evtReg_tpend w hn)
    generalize u.orReg (Reg.EVT_TPEND w (n / 32)) (2 ^ (n % 32)) = y at h1 ⊢
    have hq : getFld (y.reg (Reg.EVT_QROUTE w n)) Fld.EVT_QROUTE_QUEUE < 64 := getFld_lt _ _
    generalize getFld (y.reg (Reg.EVT_QROUTE w n)) Fld.EVT_QROUTE_QUEUE = q at hq ⊢
    have hp := h1.pushItem w q reqEvent false y.tickNo
      { typ := 4, prio := y.qPrio w q, more := false, dl := false, flowed := false, flow := 0, seq := 0, tick := 0, body := y.eventBody src n data stamp }
    generalize Machine.pushItem w q reqEvent false y.tickNo _ y = p at hp ⊢
    obtain ⟨r, c, z⟩ := p
    change Evt s z at hp
    have ho : Evt s ((z.bump (Reg.SORUS_QCNT w q) Fld.SORUS_QCNT_OVERFLOW).bump (Reg.SORUS_CNT w) Fld.SORUS_CNT_OVERFLOW) :=
      (hp.bump _ _ (by decide) (evtReg_qcnt w hq)).bump _ _ (by decide) hs
    have hv (i : Nat) : Evt s (((z.bankViol w i).bump (Reg.SORUS_QCNT w q) Fld.SORUS_QCNT_OVERFLOW).bump (Reg.SORUS_CNT w) Fld.SORUS_CNT_OVERFLOW) :=
      ((hp.bankViol w i).bump _ _ (by decide) (evtReg_qcnt w hq)).bump _ _ (by decide) hs
    have hd : Evt s (z.bump (Reg.EVT_TSTAT w) Fld.EVT_TSTAT_QDROP) := hp.bump _ _ (by decide) ht
    have he : Evt s (y.bump (Reg.EVT_TSTAT w) Fld.EVT_TSTAT_QDROP) := h1.bump _ _ (by decide) ht
    refine .ite h1 (.ite ?_ ?_)
    · refine hr true 81 _ _ (by decide) he
    cases r
    case done => exact hp
    case full =>
      refine hr true 81 _ _ (by decide) (Evt.bump ?_ _ _ (by decide) ht)
      exact hr _ 72 _ _ (by decide) ho
    case bank =>
      refine hr true 81 _ _ (by decide) (Evt.bump ?_ _ _ (by decide) ht)
      exact hr _ 76 _ _ (by decide) (hr _ 72 _ _ (by decide) (hv _))
    all_goals exact hr true 81 _ _ (by decide) hd

theorem Evt.raiseTwinAt {s u : State} (h : Evt s u) (w : Twin) (n data stamp : Nat) (hn : n < 256) : Evt s (u.raiseTwinAt w n data stamp) :=
  .routeTwin _ _ (.ite (h.accept _ _ _ _ hn) h) _ _ _ _ hn

theorem Evt.raiseTwin {s u : State} (h : Evt s u) (w : Twin) (n data : Nat) (hn : n < 256) : Evt s (u.raiseTwin w n data) :=
  h.raiseTwinAt _ _ _ _ hn

theorem Evt.raiseIf {s u : State} (h : Evt s u) (w : Twin) (ctl : Nat) (en : Fld) (n data : Nat) (hn : n < 256) :
    Evt s (u.raiseIf w ctl en n data) := .ite (h.raiseTwin _ _ _ hn) h

theorem Evt.raiseOnce {s u : State} (h : Evt s u) (w : Twin) (ctl : Nat) (en : Fld) (n data : Nat) (hn : n < 256) :
    Evt s (u.raiseOnce w ctl en n data) := .ite ((h.mark _ _ _).raiseTwin _ _ _ hn) h

theorem Evt.raiseThAt {s u : State} (h : Evt s u) (n data stamp : Nat) (hn : n < 256) : Evt s (u.raiseThAt n data stamp) :=
  .routeTwin _ _ (.routeTwin _ _ (h.accept _ _ _ _ hn) _ _ _ _ hn) _ _ _ _ hn

theorem Evt.raiseTh {s u : State} (h : Evt s u) (n data : Nat) (hn : n < 256) : Evt s (u.raiseTh n data) := h.raiseThAt _ _ _ hn

theorem Evt.raisePwr {s u : State} (h : Evt s u) (n data : Nat) (hn : n < 256) : Evt s (u.raisePwr n data) := by
  unfold State.raisePwr
  extract_lets
  exact .ite h ((h.onceMarks _).raiseTh _ _ hn)

end Sys2Proof.Machine
end

