-- ==== Sys2Proof/Laws/KeepsShow.lean ====
section
/-!
SUPPORT. Keeps, one lemma for each operation: what computes and emits the show.
-/
set_option linter.unreachableTactic false
set_option linter.unusedTactic false
set_option linter.unusedVariables false
set_option linter.unusedSimpArgs false
set_option linter.tactic.unusedName false
namespace Sys2Proof.Machine

/-! ### Machine/Sorus.lean -/

theorem keeps_State_setDbody (w : Twin) (r : Nat) (b : List Byte) {s0 s : State} (hk : Keeps s0 s)  : Keeps s0 (State.setDbody s w r b) := by
  unfold State.setDbody
  repeat' first
    | with_reducible assumption | intro _ | with_reducible (first | apply keeps_State_wr64 | apply keeps_foldl)

theorem keeps_pushLost (w : Twin) (q : Nat) {s0 s : State} (hk : Keeps s0 s) : Keeps s0 (pushLost w q s) := by
  unfold pushLost
  repeat' first
    | with_reducible assumption | decide | intro _
    | ((fail_if_no_progress extract_lets +onlyGivenNames x); refine keeps_cut (s0 := s0) (x := x) ?_ ?_; on_goal 1 => subst x)
    | (fail_if_no_progress extract_lets +onlyGivenNames x)
    | with_reducible (first | apply keeps_State_bump | apply keeps_State_raiseOnce | apply keeps_ite | apply keeps_ite2 | apply keeps_ite22 | (refine keeps_eq2 (by with_reducible assumption) ?_) | (refine keeps_eq22 (by with_reducible assumption) ?_))
    | simp -zeta only [keeps_mk, keepsC_fold, id_eq] | (refine keepsC_le ?_ ?_ ?_) | omega | split | (clear_value *; split)

theorem keeps_giveWay (w : Twin) (q : Nat) (t : Slot) {s0 s : State} (hk : Keeps s0 s) : Keeps s0 (giveWay w q t s) := by
  unfold giveWay
  repeat' first
    | with_reducible assumption | decide | intro _
    | ((fail_if_no_progress extract_lets +onlyGivenNames x); refine keeps_cut (s0 := s0) (x := x) ?_ ?_; on_goal 1 => subst x)
    | (fail_if_no_progress extract_lets +onlyGivenNames x)
    | with_reducible (first | apply keeps_State_sf | apply keeps_State_modTw | apply keeps_pushLost | apply keeps_ite | apply keeps_ite2 | apply keeps_ite22 | (refine keeps_eq2 (by with_reducible assumption) ?_) | (refine keeps_eq22 (by with_reducible assumption) ?_))
    | simp -zeta only [keeps_mk, keepsC_fold, id_eq] | (refine keepsC_le ?_ ?_ ?_) | omega | split | (clear_value *; split)

theorem keeps_pushPlaced (w : Twin) (q by_ : Nat) (soft : Bool) (stampTick : Nat) (item : Item) {s0 s : State} (hk : Keeps s0 s) : Keeps s0 (pushPlaced w q by_ soft stampTick item s).2.2 := by
  unfold pushPlaced
  repeat' first
    | with_reducible assumption | decide | intro _
    | ((fail_if_no_progress extract_lets +onlyGivenNames x); refine keeps_cut (s0 := s0) (x := x) ?_ ?_; on_goal 1 => subst x)
    | (fail_if_no_progress extract_lets +onlyGivenNames x)
    | with_reducible (first | apply keeps_pushItem | apply keeps_giveWay | apply keeps_ite | apply keeps_ite2 | apply keeps_ite22 | (refine keeps_eq2 (by with_reducible assumption) ?_) | (refine keeps_eq22 (by with_reducible assumption) ?_))
    | simp -zeta only [keeps_mk, keepsC_fold, id_eq] | (refine keepsC_le ?_ ?_ ?_) | omega | split | (clear_value *; split)

theorem keeps_pushCounted (w : Twin) (q by_ : Nat) (soft : Bool) (stampTick : Nat) (item : Item) {s0 s : State} (hk : Keeps s0 s) : Keeps s0 (pushCounted w q by_ soft stampTick item s).2 := by
  unfold pushCounted
  repeat' first
    | with_reducible assumption | decide | intro _
    | ((fail_if_no_progress extract_lets +onlyGivenNames x); refine keeps_cut (s0 := s0) (x := x) ?_ ?_; on_goal 1 => subst x)
    | (fail_if_no_progress extract_lets +onlyGivenNames x)
    | with_reducible (first | apply keeps_State_bump | apply keeps_State_bankViol | apply keeps_State_raiseOnce | apply keeps_pushLost | apply keeps_pushPlaced | apply keeps_ite | apply keeps_ite2 | apply keeps_ite22 | (refine keeps_eq2 (by with_reducible assumption) ?_) | (refine keeps_eq22 (by with_reducible assumption) ?_))
    | simp -zeta only [keeps_mk, keepsC_fold, id_eq] | (refine keepsC_le ?_ ?_ ?_) | omega | split | (clear_value *; split)

theorem keeps_State_modSorus (w : Twin) (f : Sorus → Sorus) {s0 s : State} (hk : Keeps s0 s)  : Keeps s0 (State.modSorus s w f) := by
  unfold State.modSorus
  repeat' first
    | with_reducible assumption | intro _
    | ((fail_if_no_progress extract_lets +onlyGivenNames x); refine keeps_cut (s0 := s0) (x := x) ?_ ?_; on_goal 1 => subst x)
    | (fail_if_no_progress extract_lets +onlyGivenNames x) | with_reducible apply keeps_State_modTw
    | simp -zeta only [keeps_mk, keepsC_fold, id_eq]

theorem keeps_drainFlow (w : Twin) (f fuel : Nat) {s0 s : State} (h : Keeps s0 s) : Keeps s0 (drainFlow w f fuel s) := by
  induction fuel generalizing s with
  | zero => exact h
  | succ fuel ih =>
    unfold drainFlow
    extract_lets
    split
    · exact h
    · split
      · refine ih (keeps_State_modSorus _ _ (keeps_ite (keeps_pushCounted _ _ _ _ _ _ h) fun _ => keeps_State_bump _ _ _ h))
      · exact h

theorem keeps_drainAll (w : Twin) {s0 s : State} (hk : Keeps s0 s)  : Keeps s0 (drainAll w s) := by
  unfold drainAll
  repeat' first
    | with_reducible assumption | intro _ | with_reducible (first | apply keeps_drainFlow | apply keeps_foldl)

theorem keeps_dropSlots (w : Twin) (q : Nat) (p : Slot → Bool) {s0 s : State} (hk : Keeps s0 s)  : Keeps s0 (dropSlots w q p s) := by
  unfold dropSlots
  repeat' first
    | with_reducible assumption | intro _
    | ((fail_if_no_progress extract_lets +onlyGivenNames x); refine keeps_cut (s0 := s0) (x := x) ?_ ?_; on_goal 1 => subst x)
    | (fail_if_no_progress extract_lets +onlyGivenNames x)
    | with_reducible (first | apply keeps_State_modSorus | apply keeps_drainFlow | apply keeps_ite | apply keeps_foldl)
    | simp -zeta only [keeps_mk, keepsC_fold, id_eq] | split

theorem keeps_dropOpenPkt (w : Twin) (q r : Nat) {s0 s : State} (hk : Keeps s0 s)  : Keeps s0 (dropOpenPkt w q r s) := by
  unfold dropOpenPkt
  repeat' first
    | with_reducible assumption | intro _ | with_reducible apply keeps_dropSlots

theorem keeps_pushWrite (r : Nat) (v : Word) (w : Twin) {s0 s : State} (hk : Keeps s0 s)  : Keeps s0 (pushWrite r v w s) := by
  unfold pushWrite
  repeat' first
    | with_reducible assumption | intro _
    | ((fail_if_no_progress extract_lets +onlyGivenNames x); refine keeps_cut (s0 := s0) (x := x) ?_ ?_; on_goal 1 => subst x)
    | (fail_if_no_progress extract_lets +onlyGivenNames x)
    | with_reducible (first | apply keeps_State_sf | apply keeps_pushCounted | apply keeps_tick | apply keeps_ite | apply keeps_ite2 | (refine keeps_eq2 (by with_reducible assumption) ?_) | (refine keeps_eq22 (by with_reducible assumption) ?_))
    | simp -zeta only [keeps_mk, keepsC_fold, id_eq] | split

theorem keeps_relWrite (r : Nat) (v : Word) (w : Twin) {s0 s : State} (h : Keeps s0 s) : Keeps s0 (relWrite r v w s) := by
  unfold relWrite
  extract_lets
  refine keeps_ite ?_ fun _ => ?_
  · exact keeps_State_raiseOnce _ _ _ _ _ (keeps_State_bump _ _ _ h)
  · exact keeps_drainFlow _ _ _ (keeps_State_modSorus _ _ h)

theorem keeps_showCur (w : Twin) (c : Nat) {s0 s : State} (hk : Keeps s0 s)  : Keeps s0 (showCur w c s) := by
  unfold showCur
  repeat' first
    | with_reducible assumption | intro _
    | ((fail_if_no_progress extract_lets +onlyGivenNames x); refine keeps_cut (s0 := s0) (x := x) ?_ ?_; on_goal 1 => subst x)
    | (fail_if_no_progress extract_lets +onlyGivenNames x) | with_reducible apply keeps_State_wr64
    | simp -zeta only [keeps_mk, keepsC_fold, id_eq] | split

theorem keeps_coreDone (w : Twin) (c : Nat) {s0 s : State} (hk : Keeps s0 s)  : Keeps s0 (coreDone w c s) := by
  unfold coreDone
  repeat' first
    | with_reducible assumption | intro _
    | ((fail_if_no_progress extract_lets +onlyGivenNames x); refine keeps_cut (s0 := s0) (x := x) ?_ ?_; on_goal 1 => subst x)
    | (fail_if_no_progress extract_lets +onlyGivenNames x)
    | with_reducible (first | apply keeps_State_sb | apply keeps_State_modSorus | apply keeps_dropOpenPkt | apply keeps_showCur | apply keeps_ite)
    | simp -zeta only [keeps_mk, keepsC_fold, id_eq] | split

theorem keeps_popItem (w : Twin) (q r : Nat) {s0 s : State} (hk : Keeps s0 s) : Keeps s0 (popItem w q r s).2 := by
  unfold popItem
  repeat' first
    | with_reducible assumption | decide | intro _
    | ((fail_if_no_progress extract_lets +onlyGivenNames x); refine keeps_cut (s0 := s0) (x := x) ?_ ?_; on_goal 1 => subst x)
    | (fail_if_no_progress extract_lets +onlyGivenNames x)
    | with_reducible (first | apply keeps_State_modSorus | apply keeps_ite | apply keeps_ite2 | apply keeps_ite22 | (refine keeps_eq2 (by with_reducible assumption) ?_) | (refine keeps_eq22 (by with_reducible assumption) ?_))
    | simp -zeta only [keeps_mk, keepsC_fold, id_eq] | (refine keepsC_le ?_ ?_ ?_) | omega | split | (clear_value *; split)

theorem keeps_popHeader (q r : Nat) (w : Twin) {s0 s : State} (hk : Keeps s0 s)  : Keeps s0 (popHeader q r w s).2 := by
  unfold popHeader
  repeat' first
    | with_reducible assumption | intro _
    | ((fail_if_no_progress extract_lets +onlyGivenNames x); refine keeps_cut (s0 := s0) (x := x) ?_ ?_; on_goal 1 => subst x)
    | (fail_if_no_progress extract_lets +onlyGivenNames x)
    | with_reducible (first | apply keeps_State_setDbody | apply keeps_popItem | (refine keeps_eq2 (by with_reducible assumption) ?_) | (refine keeps_eq22 (by with_reducible assumption) ?_))
    | simp -zeta only [keeps_mk, keepsC_fold, id_eq] | split

theorem keeps_rawPop (req : Requester) (q r : Nat) (w : Twin) {s0 s : State} (hk : Keeps s0 s) : Keeps s0 (rawPop req q r w s) := by
  unfold rawPop
  repeat' first
    | with_reducible assumption | decide | intro _
    | ((fail_if_no_progress extract_lets +onlyGivenNames x); refine keeps_cut (s0 := s0) (x := x) ?_ ?_; on_goal 1 => subst x)
    | (fail_if_no_progress extract_lets +onlyGivenNames x)
    | with_reducible (first | apply keeps_State_emit | apply keeps_State_unlatch | apply keeps_popHeader | apply keeps_ite | apply keeps_ite2 | apply keeps_ite22 | (refine keeps_eq2 (by with_reducible assumption) ?_) | (refine keeps_eq22 (by with_reducible assumption) ?_))
    | simp -zeta only [keeps_mk, keepsC_fold, id_eq] | (refine keepsC_le ?_ ?_ ?_) | omega | split | (clear_value *; split)

theorem keeps_windowHeader (q : Nat) (w : Twin) {s0 s : State} (hk : Keeps s0 s)  : Keeps s0 (windowHeader q w s).2 := by
  unfold windowHeader
  repeat' first
    | with_reducible assumption | intro _
    | ((fail_if_no_progress extract_lets +onlyGivenNames x); refine keeps_cut (s0 := s0) (x := x) ?_ ?_; on_goal 1 => subst x)
    | (fail_if_no_progress extract_lets +onlyGivenNames x)
    | with_reducible (first | apply keeps_State_sb | apply keeps_State_wr64 | apply keeps_State_raiseOnce | apply keeps_State_modSorus | apply keeps_popItem | apply keeps_foldl | (refine keeps_eq2 (by with_reducible assumption) ?_) | (refine keeps_eq22 (by with_reducible assumption) ?_))
    | simp -zeta only [keeps_mk, keepsC_fold, id_eq] | split

theorem keeps_windowPop (req : Requester) (q : Nat) (w : Twin) {s0 s : State} (hk : Keeps s0 s) : Keeps s0 (windowPop req q w s) := by
  unfold windowPop
  repeat' first
    | with_reducible assumption | decide | intro _
    | ((fail_if_no_progress extract_lets +onlyGivenNames x); refine keeps_cut (s0 := s0) (x := x) ?_ ?_; on_goal 1 => subst x)
    | (fail_if_no_progress extract_lets +onlyGivenNames x)
    | with_reducible (first | apply keeps_State_emit | apply keeps_State_unlatch | apply keeps_windowHeader | apply keeps_ite | apply keeps_ite2 | apply keeps_ite22 | (refine keeps_eq2 (by with_reducible assumption) ?_) | (refine keeps_eq22 (by with_reducible assumption) ?_))
    | simp -zeta only [keeps_mk, keepsC_fold, id_eq] | (refine keepsC_le ?_ ?_ ?_) | omega | split | (clear_value *; split)

theorem keeps_mirrorHeader (win : Bool) (q : Nat) (w : Twin) {s0 s : State} (hk : Keeps s0 s)  : Keeps s0 (mirrorHeader win q w s).2 := by
  unfold mirrorHeader
  repeat' first
    | with_reducible assumption | intro _ | with_reducible (first | apply keeps_State_bump | apply keeps_ite | apply keeps_ite2)
    | simp -zeta only [keeps_mk, keepsC_fold, id_eq] | split

theorem keeps_noTwinRead  {s0 s : State} (hk : Keeps s0 s) : Keeps s0 (noTwinRead s) := by
  unfold noTwinRead
  repeat' first
    | with_reducible assumption | decide | intro _
    | ((fail_if_no_progress extract_lets +onlyGivenNames x); refine keeps_cut (s0 := s0) (x := x) ?_ ?_; on_goal 1 => subst x)
    | (fail_if_no_progress extract_lets +onlyGivenNames x)
    | with_reducible (first | apply keeps_State_sb | apply keeps_State_raiseTh | apply keeps_ite | apply keeps_ite2 | apply keeps_ite22 | (refine keeps_eq2 (by with_reducible assumption) ?_) | (refine keeps_eq22 (by with_reducible assumption) ?_))
    | simp -zeta only [keeps_mk, keepsC_fold, id_eq] | (refine keepsC_le ?_ ?_ ?_) | omega | split | (clear_value *; split)

theorem keeps_mirrorPopRead (req : Requester) (win : Bool) (q : Nat) {s0 s : State} (hk : Keeps s0 s) : Keeps s0 (mirrorPopRead req win q s) := by
  unfold mirrorPopRead
  repeat' first
    | with_reducible assumption | decide | intro _
    | ((fail_if_no_progress extract_lets +onlyGivenNames x); refine keeps_cut (s0 := s0) (x := x) ?_ ?_; on_goal 1 => subst x)
    | (fail_if_no_progress extract_lets +onlyGivenNames x)
    | with_reducible (first | apply keeps_State_bump | apply keeps_State_emit | apply keeps_State_unlatch | apply keeps_mirrorHeader | apply keeps_noTwinRead | apply keeps_ite | apply keeps_ite2 | apply keeps_ite22 | (refine keeps_eq2 (by with_reducible assumption) ?_) | (refine keeps_eq22 (by with_reducible assumption) ?_))
    | simp -zeta only [keeps_mk, keepsC_fold, id_eq] | (refine keepsC_le ?_ ?_ ?_) | omega | split | (clear_value *; split)

theorem keeps_giveItem (w : Twin) (q c : Nat) (cause : Fld) {s0 s : State} (hk : Keeps s0 s)  : Keeps s0 (giveItem w q c cause s) := by
  unfold giveItem
  repeat' first
    | with_reducible assumption | intro _
    | ((fail_if_no_progress extract_lets +onlyGivenNames x); refine keeps_cut (s0 := s0) (x := x) ?_ ?_; on_goal 1 => subst x)
    | (fail_if_no_progress extract_lets +onlyGivenNames x)
    | with_reducible (first | apply keeps_State_sb | apply keeps_State_setDbody | apply keeps_State_modSorus | apply keeps_showCur | apply keeps_popItem | (refine keeps_eq2 (by with_reducible assumption) ?_) | (refine keeps_eq22 (by with_reducible assumption) ?_))
    | simp -zeta only [keeps_mk, keepsC_fold, id_eq] | split

theorem keeps_sorusAbort (w : Twin) (k : Nat) {s0 s : State} (hk : Keeps s0 s)  : Keeps s0 (sorusAbort w k s).2 := by
  unfold sorusAbort
  repeat' first
    | with_reducible assumption | decide | intro _
    | ((fail_if_no_progress extract_lets +onlyGivenNames x); refine keeps_cut (s0 := s0) (x := x) ?_ ?_; on_goal 1 => subst x)
    | (fail_if_no_progress extract_lets +onlyGivenNames x)
    | with_reducible (first | apply keeps_State_sb | apply keeps_State_bump | apply keeps_State_modSorus | apply keeps_dropSlots | apply keeps_step | apply keeps_ite | apply keeps_ite2 | apply keeps_ite22 | apply keeps_foldl | apply keeps_foldl2 | (refine keeps_eq2 (by with_reducible assumption) ?_) | (refine keeps_eq22 (by with_reducible assumption) ?_))
    | simp -zeta only [keeps_mk, keepsC_fold, id_eq] | (refine keepsC_le ?_ ?_ ?_) | omega | split | (clear_value *; split)

theorem keeps_tickItem (w : Twin) (k stamp flags recTick : Nat) {s0 s : State} (hk : Keeps s0 s)  : Keeps s0 (tickItem w k stamp flags recTick s) := by
  unfold tickItem
  repeat' first
    | with_reducible assumption | intro _
    | ((fail_if_no_progress extract_lets +onlyGivenNames x); refine keeps_cut (s0 := s0) (x := x) ?_ ?_; on_goal 1 => subst x)
    | (fail_if_no_progress extract_lets +onlyGivenNames x)
    | with_reducible (first | apply keeps_State_bump | apply keeps_pushCounted | apply keeps_tick | apply keeps_ite)
    | simp -zeta only [keeps_mk, keepsC_fold, id_eq] | split

theorem keeps_causeAll (w : Twin) (f : Fld) {s0 s : State} (hk : Keeps s0 s)  : Keeps s0 (causeAll w f s) := by
  unfold causeAll
  repeat' first
    | with_reducible assumption | intro _ | with_reducible (first | apply keeps_State_sb | apply keeps_foldl)

theorem keeps_sorusContextReset (w : Twin) {s0 s : State} (hk : Keeps s0 s)  : Keeps s0 (sorusContextReset w s) := by
  unfold sorusContextReset
  repeat' first
    | with_reducible assumption | intro _
    | with_reducible (first | apply keeps_State_reset | apply keeps_State_modSorus | apply keeps_causeAll)

theorem keeps_restartQueue (w : Twin) (q : Nat) {s0 s : State} (hk : Keeps s0 s)  : Keeps s0 (restartQueue w q s) := by
  unfold restartQueue
  repeat' first
    | with_reducible assumption | intro _
    | ((fail_if_no_progress extract_lets +onlyGivenNames x); refine keeps_cut (s0 := s0) (x := x) ?_ ?_; on_goal 1 => subst x)
    | (fail_if_no_progress extract_lets +onlyGivenNames x) | with_reducible apply keeps_State_modSorus
    | simp -zeta only [keeps_mk, keepsC_fold, id_eq]

theorem keeps_restartFlow (w : Twin) (f : Nat) {s0 s : State} (hk : Keeps s0 s)  : Keeps s0 (restartFlow w f s) := by
  unfold restartFlow
  repeat' first
    | with_reducible assumption | intro _ | with_reducible (first | apply keeps_State_modSorus | apply keeps_State_setFlow)

theorem keeps_execSorusPush (t : Nat) (via : Via) (v : Word) {s0 s : State} (hk : Keeps s0 s)  : KeepsO s0 (execSorusPush t via v s) := by
  unfold execSorusPush
  repeat' first
    | with_reducible assumption | intro _
    | with_reducible (first | apply keeps_State_beginAt | apply keeps_State_deliver | apply keeps_pushWrite | apply keepsO_next | apply keepsO_ite)

theorem keeps_execSorusRel (t : Nat) (via : Via) (v : Word) {s0 s : State} (hk : Keeps s0 s)  : KeepsO s0 (execSorusRel t via v s) := by
  unfold execSorusRel
  repeat' first
    | with_reducible assumption | intro _
    | with_reducible (first | apply keeps_State_beginAt | apply keeps_State_deliver | apply keeps_relWrite | apply keepsO_next | apply keepsO_ite)

theorem keeps_execSorusDone (t : Nat) (w : Twin) (c : Fin 16) {s0 s : State} (hk : Keeps s0 s)  : KeepsO s0 (execSorusDone t w c s) := by
  unfold execSorusDone
  repeat' first
    | with_reducible assumption | intro _
    | with_reducible (first | apply keeps_State_beginAt | apply keeps_State_deliver | apply keeps_coreDone | apply keepsO_next | apply keepsO_ite)

theorem keeps_execDropPkt (t : Nat) (via : Via) (q : Fin 64) {s0 s : State} (hk : Keeps s0 s)  : KeepsO s0 (execDropPkt t via q s) := by
  unfold execDropPkt
  repeat' first
    | with_reducible assumption | intro _
    | with_reducible (first | apply keeps_State_beginAt | apply keeps_State_deliver | apply keeps_dropOpenPkt | apply keepsO_next | apply keepsO_ite)

theorem keeps_execWinDropPkt (t : Nat) (via : Via) (q : Fin 64) {s0 s : State} (hk : Keeps s0 s)  : KeepsO s0 (execWinDropPkt t via q s) := by
  unfold execWinDropPkt
  repeat' first
    | with_reducible assumption | intro _
    | with_reducible (first | apply keeps_State_beginAt | apply keeps_State_deliver | apply keeps_dropOpenPkt | apply keepsO_next | apply keepsO_ite)

theorem keeps_popVia (via : Via) (win : Bool) (q : Nat) (pop : Twin → State → State) {s0 s : State} (hk : Keeps s0 s) (hf_pop : ∀ y0 x, Keeps s0 x → Keeps s0 (pop y0 x)) : Keeps s0 (popVia via win q pop s) := by
  unfold popVia
  repeat' first
    | with_reducible assumption | decide | intro _
    | ((fail_if_no_progress extract_lets +onlyGivenNames x); refine keeps_cut (s0 := s0) (x := x) ?_ ?_; on_goal 1 => subst x)
    | (fail_if_no_progress extract_lets +onlyGivenNames x)
    | with_reducible (first | apply hf_pop | apply keeps_State_emit | apply keeps_State_reach | apply keeps_mirrorPopRead | apply keeps_ite | apply keeps_ite2 | apply keeps_ite22 | apply keeps_foldl | apply keeps_foldl2 | (refine keeps_eq2 (by with_reducible assumption) ?_) | (refine keeps_eq22 (by with_reducible assumption) ?_))
    | simp -zeta only [keeps_mk, keepsC_fold, id_eq] | (refine keepsC_le ?_ ?_ ?_) | omega | split | (clear_value *; split)

theorem keeps_execSorusPop (t : Nat) (via : Via) (q : Fin 64) {s0 s : State} (hk : Keeps s0 s) : KeepsO s0 (execSorusPop t via q s) := by
  unfold execSorusPop
  repeat' first
    | with_reducible assumption | decide | intro _
    | ((fail_if_no_progress extract_lets +onlyGivenNames x); refine keeps_cut (s0 := s0) (x := x) ?_ ?_; on_goal 1 => subst x)
    | (fail_if_no_progress extract_lets +onlyGivenNames x)
    | with_reducible (first | apply keeps_State_beginAt | apply keeps_rawPop | apply keeps_popVia | apply keepsO_next | apply keepsO_ite | apply keeps_ite | apply keeps_ite2 | apply keeps_ite22 | (refine keeps_eq2 (by with_reducible assumption) ?_) | (refine keeps_eq22 (by with_reducible assumption) ?_))
    | simp -zeta only [keeps_mk, keepsC_fold, id_eq] | (refine keepsC_le ?_ ?_ ?_) | omega | split | (clear_value *; split)

theorem keeps_execWinHdrPop (t : Nat) (via : Via) (q : Fin 64) {s0 s : State} (hk : Keeps s0 s) : KeepsO s0 (execWinHdrPop t via q s) := by
  unfold execWinHdrPop
  repeat' first
    | with_reducible assumption | decide | intro _
    | ((fail_if_no_progress extract_lets +onlyGivenNames x); refine keeps_cut (s0 := s0) (x := x) ?_ ?_; on_goal 1 => subst x)
    | (fail_if_no_progress extract_lets +onlyGivenNames x)
    | with_reducible (first | apply keeps_State_beginAt | apply keeps_windowPop | apply keeps_popVia | apply keepsO_next | apply keepsO_ite | apply keeps_ite | apply keeps_ite2 | apply keeps_ite22 | (refine keeps_eq2 (by with_reducible assumption) ?_) | (refine keeps_eq22 (by with_reducible assumption) ?_))
    | simp -zeta only [keeps_mk, keepsC_fold, id_eq] | (refine keepsC_le ?_ ?_ ?_) | omega | split | (clear_value *; split)

theorem keeps_execMirrorPop (t : Nat) (req : Requester) (win : Bool) (q : Fin 64) {s0 s : State} (hk : Keeps s0 s) : KeepsO s0 (execMirrorPop t req win q s) := by
  unfold execMirrorPop
  repeat' first
    | with_reducible assumption | decide | intro _
    | ((fail_if_no_progress extract_lets +onlyGivenNames x); refine keeps_cut (s0 := s0) (x := x) ?_ ?_; on_goal 1 => subst x)
    | (fail_if_no_progress extract_lets +onlyGivenNames x)
    | with_reducible (first | apply keeps_State_beginAt | apply keeps_mirrorPopRead | apply keepsO_next | apply keepsO_ite | apply keeps_ite | apply keeps_ite2 | apply keeps_ite22 | (refine keeps_eq2 (by with_reducible assumption) ?_) | (refine keeps_eq22 (by with_reducible assumption) ?_))
    | simp -zeta only [keeps_mk, keepsC_fold, id_eq] | (refine keepsC_le ?_ ?_ ?_) | omega | split | (clear_value *; split)

theorem keeps_execSorusDispatch (t : Nat) (w : Twin) {s0 s : State} (hk : Keeps s0 s)  : KeepsO s0 (execSorusDispatch t w s) := by
  unfold execSorusDispatch
  repeat' first
    | with_reducible assumption | intro _
    | ((fail_if_no_progress extract_lets +onlyGivenNames x); refine keeps_cut (s0 := s0) (x := x) ?_ ?_; on_goal 1 => subst x)
    | (fail_if_no_progress extract_lets +onlyGivenNames x)
    | with_reducible (first | apply keeps_State_beginAt | apply keeps_giveItem | apply keepsO_next | apply keepsO_ite | apply keeps_ite)
    | simp -zeta only [keeps_mk, keepsC_fold, id_eq] | split

theorem keeps_execSorusPreempt (t : Nat) (w : Twin) {s0 s : State} (hk : Keeps s0 s)  : KeepsO s0 (execSorusPreempt t w s) := by
  unfold execSorusPreempt
  repeat' first
    | with_reducible assumption | intro _
    | ((fail_if_no_progress extract_lets +onlyGivenNames x); refine keeps_cut (s0 := s0) (x := x) ?_ ?_; on_goal 1 => subst x)
    | (fail_if_no_progress extract_lets +onlyGivenNames x)
    | with_reducible (first | apply keeps_State_beginAt | apply keeps_giveItem | apply keepsO_next | apply keepsO_ite | apply keeps_ite)
    | simp -zeta only [keeps_mk, keepsC_fold, id_eq] | split

/-! ### Machine/TimeBases.lean -/

theorem keeps_State_setTbState (n : Fin 4) (st : Nat) {s0 s : State} (hk : Keeps s0 s)  : Keeps s0 (State.setTbState s n st) := by
  unfold State.setTbState
  repeat' first
    | with_reducible assumption | intro _
    | ((fail_if_no_progress extract_lets +onlyGivenNames x); refine keeps_cut (s0 := s0) (x := x) ?_ ?_; on_goal 1 => subst x)
    | (fail_if_no_progress extract_lets +onlyGivenNames x)
    | with_reducible (first | apply keeps_State_setReg | apply keeps_State_sf | apply keeps_ite) | split

theorem keeps_State_runTb (n : Fin 4) (rate : Int) {s0 s : State} (hk : Keeps s0 s)  : Keeps s0 (State.runTb s n rate) := by
  unfold State.runTb
  repeat' first
    | with_reducible assumption | intro _ | with_reducible (first | apply keeps_State_setReg | apply keeps_State_setTb)

theorem keeps_State_slewOver (n : Fin 4) (x : Nat) {s0 s : State} (hk : Keeps s0 s) : Keeps s0 (State.slewOver s n x) := by
  unfold State.slewOver
  repeat' first
    | with_reducible assumption | decide | intro _
    | ((fail_if_no_progress extract_lets +onlyGivenNames x); refine keeps_cut (s0 := s0) (x := x) ?_ ?_; on_goal 1 => subst x)
    | (fail_if_no_progress extract_lets +onlyGivenNames x)
    | with_reducible (first | apply keeps_State_setReg | apply keeps_State_setTb | apply keeps_ite | apply keeps_ite2 | apply keeps_ite22 | (refine keeps_eq2 (by with_reducible assumption) ?_) | (refine keeps_eq22 (by with_reducible assumption) ?_))
    | simp -zeta only [keeps_mk, keepsC_fold, id_eq] | (refine keepsC_le ?_ ?_ ?_) | omega | split | (clear_value *; split)

theorem keeps_State_stepTb (n : Fin 4) (count : Nat) {s0 s : State} (hk : Keeps s0 s) : Keeps s0 (State.stepTb s n count) := by
  unfold State.stepTb
  repeat' first
    | with_reducible assumption | decide | intro _
    | ((fail_if_no_progress extract_lets +onlyGivenNames x); refine keeps_cut (s0 := s0) (x := x) ?_ ?_; on_goal 1 => subst x)
    | (fail_if_no_progress extract_lets +onlyGivenNames x)
    | with_reducible (first | apply keeps_State_sf | apply keeps_State_wr64 | apply keeps_State_setTb | apply keeps_State_raiseTh | apply keeps_State_slewOver | apply keeps_ite | apply keeps_ite2 | apply keeps_ite22 | (refine keeps_eq2 (by with_reducible assumption) ?_) | (refine keeps_eq22 (by with_reducible assumption) ?_))
    | simp -zeta only [keeps_mk, keepsC_fold, id_eq] | (refine keepsC_le ?_ ?_ ?_) | omega | split | (clear_value *; split)

theorem keeps_State_enterHoldover (n : Fin 4) (rate : Int) {s0 s : State} (hk : Keeps s0 s)  : Keeps s0 (State.enterHoldover s n rate) := by
  unfold State.enterHoldover
  repeat' first
    | with_reducible assumption | intro _
    | ((fail_if_no_progress extract_lets +onlyGivenNames x); refine keeps_cut (s0 := s0) (x := x) ?_ ?_; on_goal 1 => subst x)
    | (fail_if_no_progress extract_lets +onlyGivenNames x)
    | with_reducible (first | apply keeps_State_setReg | apply keeps_State_setTb | apply keeps_State_raiseTh | apply keeps_State_setTbState | apply keeps_State_runTb)
    | simp -zeta only [keeps_mk, keepsC_fold, id_eq]

theorem keeps_State_lossOfSource (n : Fin 4) {s0 s : State} (hk : Keeps s0 s)  : Keeps s0 (State.lossOfSource s n) := by
  unfold State.lossOfSource
  repeat' first
    | with_reducible assumption | intro _
    | ((fail_if_no_progress extract_lets +onlyGivenNames x); refine keeps_cut (s0 := s0) (x := x) ?_ ?_; on_goal 1 => subst x)
    | (fail_if_no_progress extract_lets +onlyGivenNames x)
    | with_reducible (first | apply keeps_State_enterHoldover | apply keeps_ite) | split

theorem keeps_State_slew (n : Fin 4) (ofs : Int) {s0 s : State} (hk : Keeps s0 s) : Keeps s0 (State.slew s n ofs) := by
  unfold State.slew
  repeat' first
    | with_reducible assumption | decide | intro _
    | ((fail_if_no_progress extract_lets +onlyGivenNames x); refine keeps_cut (s0 := s0) (x := x) ?_ ?_; on_goal 1 => subst x)
    | (fail_if_no_progress extract_lets +onlyGivenNames x)
    | with_reducible (first | apply keeps_State_setTb | apply keeps_State_setTbState | apply keeps_State_runTb | apply keeps_ite | apply keeps_ite2 | apply keeps_ite22 | (refine keeps_eq2 (by with_reducible assumption) ?_) | (refine keeps_eq22 (by with_reducible assumption) ?_))
    | simp -zeta only [keeps_mk, keepsC_fold, id_eq] | (refine keepsC_le ?_ ?_ ?_) | omega | split | (clear_value *; split)

theorem keeps_State_reslew (n : Fin 4) {s0 s : State} (hk : Keeps s0 s) : Keeps s0 (State.reslew s n) := by
  unfold State.reslew
  repeat' first
    | with_reducible assumption | decide | intro _
    | ((fail_if_no_progress extract_lets +onlyGivenNames x); refine keeps_cut (s0 := s0) (x := x) ?_ ?_; on_goal 1 => subst x)
    | (fail_if_no_progress extract_lets +onlyGivenNames x)
    | with_reducible (first | apply keeps_State_setTb | apply keeps_State_slewOver | apply keeps_ite | apply keeps_ite2 | apply keeps_ite22 | (refine keeps_eq2 (by with_reducible assumption) ?_) | (refine keeps_eq22 (by with_reducible assumption) ?_))
    | simp -zeta only [keeps_mk, keepsC_fold, id_eq] | (refine keepsC_le ?_ ?_ ?_) | omega | split | (clear_value *; split)

theorem keeps_State_endSlew (n : Fin 4) {s0 s : State} (hk : Keeps s0 s) : Keeps s0 (State.endSlew s n) := by
  unfold State.endSlew
  repeat' first
    | with_reducible assumption | decide | intro _
    | ((fail_if_no_progress extract_lets +onlyGivenNames x); refine keeps_cut (s0 := s0) (x := x) ?_ ?_; on_goal 1 => subst x)
    | (fail_if_no_progress extract_lets +onlyGivenNames x)
    | with_reducible (first | apply keeps_State_slewOver | apply keeps_ite | apply keeps_ite2 | apply keeps_ite22 | (refine keeps_eq2 (by with_reducible assumption) ?_) | (refine keeps_eq22 (by with_reducible assumption) ?_))
    | simp -zeta only [keeps_mk, keepsC_fold, id_eq] | (refine keepsC_le ?_ ?_ ?_) | omega | split | (clear_value *; split)

theorem keeps_State_keepMeas (n : Fin 4) (ofs : Int) (x0 : Nat) (rate : Int) {s0 s : State} (hk : Keeps s0 s) : Keeps s0 (State.keepMeas s n ofs x0 rate) := by
  unfold State.keepMeas
  repeat' first
    | with_reducible assumption | decide | intro _
    | ((fail_if_no_progress extract_lets +onlyGivenNames x); refine keeps_cut (s0 := s0) (x := x) ?_ ?_; on_goal 1 => subst x)
    | (fail_if_no_progress extract_lets +onlyGivenNames x)
    | with_reducible (first | apply keeps_State_setReg | apply keeps_State_setTb | apply keeps_ite | apply keeps_ite2 | apply keeps_ite22 | (refine keeps_eq2 (by with_reducible assumption) ?_) | (refine keeps_eq22 (by with_reducible assumption) ?_))
    | simp -zeta only [keeps_mk, keepsC_fold, id_eq] | (refine keepsC_le ?_ ?_ ?_) | omega | split | (clear_value *; split)

theorem keeps_State_measProtonema (n : Fin 4) (ofs : Int) (x0 : Nat) (given : Option Int) (phase : Bool) {s0 s : State} (hk : Keeps s0 s) : Keeps s0 (State.measProtonema s n ofs x0 given phase) := by
  unfold State.measProtonema
  repeat' first
    | with_reducible assumption | decide | intro _
    | ((fail_if_no_progress extract_lets +onlyGivenNames x); refine keeps_cut (s0 := s0) (x := x) ?_ ?_; on_goal 1 => subst x)
    | (fail_if_no_progress extract_lets +onlyGivenNames x)
    | with_reducible (first | apply keeps_State_setTb | apply keeps_State_setTbState | apply keeps_State_runTb | apply keeps_State_stepTb | apply keeps_State_keepMeas | apply keeps_ite | apply keeps_ite2 | apply keeps_ite22 | (refine keeps_eq2 (by with_reducible assumption) ?_) | (refine keeps_eq22 (by with_reducible assumption) ?_))
    | simp -zeta only [keeps_mk, keepsC_fold, id_eq] | (refine keepsC_le ?_ ?_ ?_) | omega | split | (clear_value *; split)

theorem keeps_State_measLocking (n : Fin 4) (ofs : Int) (x0 : Nat) (given : Option Int) (phase : Bool) {s0 s : State} (hk : Keeps s0 s) : Keeps s0 (State.measLocking s n ofs x0 given phase) := by
  unfold State.measLocking
  repeat' first
    | with_reducible assumption | decide | intro _
    | ((fail_if_no_progress extract_lets +onlyGivenNames x); refine keeps_cut (s0 := s0) (x := x) ?_ ?_; on_goal 1 => subst x)
    | (fail_if_no_progress extract_lets +onlyGivenNames x)
    | with_reducible (first | apply keeps_State_setTb | apply keeps_State_setTbState | apply keeps_State_runTb | apply keeps_State_stepTb | apply keeps_State_keepMeas | apply keeps_ite | apply keeps_ite2 | apply keeps_ite22 | (refine keeps_eq2 (by with_reducible assumption) ?_) | (refine keeps_eq22 (by with_reducible assumption) ?_))
    | simp -zeta only [keeps_mk, keepsC_fold, id_eq] | (refine keepsC_le ?_ ?_ ?_) | omega | split | (clear_value *; split)

theorem keeps_State_measLocked (n : Fin 4) (ofs : Int) (x0 : Nat) (given : Option Int) {s0 s : State} (hk : Keeps s0 s) : Keeps s0 (State.measLocked s n ofs x0 given) := by
  unfold State.measLocked
  repeat' first
    | with_reducible assumption | decide | intro _
    | ((fail_if_no_progress extract_lets +onlyGivenNames x); refine keeps_cut (s0 := s0) (x := x) ?_ ?_; on_goal 1 => subst x)
    | (fail_if_no_progress extract_lets +onlyGivenNames x)
    | with_reducible (first | apply keeps_State_setTb | apply keeps_State_runTb | apply keeps_State_keepMeas | apply keeps_ite | apply keeps_ite2 | apply keeps_ite22 | (refine keeps_eq2 (by with_reducible assumption) ?_) | (refine keeps_eq22 (by with_reducible assumption) ?_))
    | simp -zeta only [keeps_mk, keepsC_fold, id_eq] | (refine keepsC_le ?_ ?_ ?_) | omega | split | (clear_value *; split)

theorem keeps_State_measSlewing (n : Fin 4) (ofs : Int) (x0 : Nat) (given : Option Int) (phase : Bool) {s0 s : State} (hk : Keeps s0 s) : Keeps s0 (State.measSlewing s n ofs x0 given phase) := by
  unfold State.measSlewing
  repeat' first
    | with_reducible assumption | decide | intro _
    | ((fail_if_no_progress extract_lets +onlyGivenNames x); refine keeps_cut (s0 := s0) (x := x) ?_ ?_; on_goal 1 => subst x)
    | (fail_if_no_progress extract_lets +onlyGivenNames x)
    | with_reducible (first | apply keeps_State_setTb | apply keeps_State_setTbState | apply keeps_State_runTb | apply keeps_State_stepTb | apply keeps_State_slew | apply keeps_State_reslew | apply keeps_State_keepMeas | apply keeps_ite | apply keeps_ite2 | apply keeps_ite22 | (refine keeps_eq2 (by with_reducible assumption) ?_) | (refine keeps_eq22 (by with_reducible assumption) ?_))
    | simp -zeta only [keeps_mk, keepsC_fold, id_eq] | (refine keepsC_le ?_ ?_ ?_) | omega | split | (clear_value *; split)

theorem keeps_State_measHoldover (n : Fin 4) (ofs : Int) (x0 : Nat) (given : Option Int) (phase : Bool) {s0 s : State} (hk : Keeps s0 s) : Keeps s0 (State.measHoldover s n ofs x0 given phase) := by
  unfold State.measHoldover
  repeat' first
    | with_reducible assumption | decide | intro _
    | ((fail_if_no_progress extract_lets +onlyGivenNames x); refine keeps_cut (s0 := s0) (x := x) ?_ ?_; on_goal 1 => subst x)
    | (fail_if_no_progress extract_lets +onlyGivenNames x)
    | with_reducible (first | apply keeps_State_setTb | apply keeps_State_setTbState | apply keeps_State_runTb | apply keeps_State_stepTb | apply keeps_State_slew | apply keeps_State_keepMeas | apply keeps_ite | apply keeps_ite2 | apply keeps_ite22 | (refine keeps_eq2 (by with_reducible assumption) ?_) | (refine keeps_eq22 (by with_reducible assumption) ?_))
    | simp -zeta only [keeps_mk, keepsC_fold, id_eq] | (refine keepsC_le ?_ ?_ ?_) | omega | split | (clear_value *; split)

theorem keeps_State_rejectMeas (n : Fin 4) {s0 s : State} (hk : Keeps s0 s) : Keeps s0 (State.rejectMeas s n) := by
  unfold State.rejectMeas
  repeat' first
    | with_reducible assumption | decide | intro _
    | ((fail_if_no_progress extract_lets +onlyGivenNames x); refine keeps_cut (s0 := s0) (x := x) ?_ ?_; on_goal 1 => subst x)
    | (fail_if_no_progress extract_lets +onlyGivenNames x)
    | with_reducible (first | apply keeps_State_bump | apply keeps_State_setTb | apply keeps_State_raiseTh | apply keeps_State_lossOfSource | apply keeps_ite | apply keeps_ite2 | apply keeps_ite22 | (refine keeps_eq2 (by with_reducible assumption) ?_) | (refine keeps_eq22 (by with_reducible assumption) ?_))
    | simp -zeta only [keeps_mk, keepsC_fold, id_eq] | (refine keepsC_le ?_ ?_ ?_) | omega | split | (clear_value *; split)

theorem keeps_State_measure (n : Fin 4) (ofs : Int) (ts : Nat) (given : Option Int) (phase : Bool) {s0 s : State} (hk : Keeps s0 s) : Keeps s0 (State.measure s n ofs ts given phase) := by
  unfold State.measure
  repeat' first
    | with_reducible assumption | decide | intro _
    | ((fail_if_no_progress extract_lets +onlyGivenNames x); refine keeps_cut (s0 := s0) (x := x) ?_ ?_; on_goal 1 => subst x)
    | (fail_if_no_progress extract_lets +onlyGivenNames x)
    | with_reducible (first | apply keeps_State_endSlew | apply keeps_State_measProtonema | apply keeps_State_measLocking | apply keeps_State_measLocked | apply keeps_State_measSlewing | apply keeps_State_measHoldover | apply keeps_State_rejectMeas | apply keeps_ite | apply keeps_ite2 | apply keeps_ite22 | (refine keeps_eq2 (by with_reducible assumption) ?_) | (refine keeps_eq22 (by with_reducible assumption) ?_))
    | simp -zeta only [keeps_mk, keepsC_fold, id_eq] | (refine keepsC_le ?_ ?_ ?_) | omega | split | (clear_value *; split)

theorem keeps_submitMeas (n : Fin 4) (newSrc invalid : Bool) {s0 s : State} (hk : Keeps s0 s)  : Keeps s0 (submitMeas n newSrc invalid s) := by
  unfold submitMeas
  repeat' first
    | with_reducible assumption | intro _
    | ((fail_if_no_progress extract_lets +onlyGivenNames x); refine keeps_cut (s0 := s0) (x := x) ?_ ?_; on_goal 1 => subst x)
    | (fail_if_no_progress extract_lets +onlyGivenNames x)
    | with_reducible (first | apply keeps_State_setTb | apply keeps_State_lossOfSource | apply keeps_State_measure | apply keeps_ite)
    | simp -zeta only [keeps_mk, keepsC_fold, id_eq] | split

theorem keeps_execTbMeasSubmit (t : Nat) (src : Requester) (n : Fin 4) (newSrc invalid : Bool) {s0 s : State} (hk : Keeps s0 s)  : KeepsO s0 (execTbMeasSubmit t src n newSrc invalid s) := by
  unfold execTbMeasSubmit
  repeat' first
    | with_reducible assumption | intro _
    | with_reducible (first | apply keeps_State_beginAt | apply keeps_State_thWrite | apply keeps_submitMeas | apply keepsO_next | apply keepsO_ite)

theorem keeps_submitLoss (t : Nat) (src : Requester) (n : Fin 4) {s0 s : State} (hk : Keeps s0 s)  : Keeps s0 (submitLoss t src n s) := by
  unfold submitLoss
  repeat' first
    | with_reducible assumption | intro _
    | with_reducible (first | apply keeps_State_beginAt | apply keeps_State_thWrite | apply keeps_submitMeas)

theorem keeps_execTbMeasInvalid (t : Nat) (src : Requester) (n : Fin 4) {s0 s : State} (hk : Keeps s0 s)  : KeepsO s0 (execTbMeasInvalid t src n s) := by
  unfold execTbMeasInvalid
  repeat' first
    | with_reducible assumption | intro _ | with_reducible (first | apply keeps_submitLoss | apply keepsO_next | apply keepsO_ite)

theorem keeps_execTbMeasNewSrc (t : Nat) (src : Requester) (n : Fin 4) {s0 s : State} (hk : Keeps s0 s)  : KeepsO s0 (execTbMeasNewSrc t src n s) := by
  unfold execTbMeasNewSrc
  repeat' first
    | with_reducible assumption | intro _ | with_reducible (first | apply keeps_submitLoss | apply keepsO_next | apply keepsO_ite)

theorem keeps_execTbHoldover (t : Nat) (n : Fin 4) {s0 s : State} (hk : Keeps s0 s) : KeepsO s0 (execTbHoldover t n s) := by
  unfold execTbHoldover
  repeat' first
    | with_reducible assumption | decide | intro _
    | ((fail_if_no_progress extract_lets +onlyGivenNames x); refine keeps_cut (s0 := s0) (x := x) ?_ ?_; on_goal 1 => subst x)
    | (fail_if_no_progress extract_lets +onlyGivenNames x)
    | with_reducible (first | apply keeps_State_beginAt | apply keeps_State_lossOfSource | apply keepsO_next | apply keepsO_ite | apply keeps_ite | apply keeps_ite2 | apply keeps_ite22 | (refine keeps_eq2 (by with_reducible assumption) ?_) | (refine keeps_eq22 (by with_reducible assumption) ?_))
    | simp -zeta only [keeps_mk, keepsC_fold, id_eq] | (refine keepsC_le ?_ ?_ ?_) | omega | split | (clear_value *; split)

theorem keeps_execTbHoldLong (n : Fin 4) {s0 s : State} (hk : Keeps s0 s)  : KeepsO s0 (execTbHoldLong n s) := by
  unfold execTbHoldLong
  repeat' first
    | with_reducible assumption | intro _
    | ((fail_if_no_progress extract_lets +onlyGivenNames x); refine keeps_cut (s0 := s0) (x := x) ?_ ?_; on_goal 1 => subst x)
    | (fail_if_no_progress extract_lets +onlyGivenNames x)
    | with_reducible (first | apply keeps_State_sb | apply keeps_State_setTb | apply keeps_State_begin | apply keeps_State_beginAt | apply keeps_State_raiseTh | apply keepsO_next | apply keepsO_ite | apply keeps_ite)
    | simp -zeta only [keeps_mk, keepsC_fold, id_eq] | split

theorem keeps_execTbSlewEnd (n : Fin 4) {s0 s : State} (hk : Keeps s0 s) : KeepsO s0 (execTbSlewEnd n s) := by
  unfold execTbSlewEnd
  repeat' first
    | with_reducible assumption | decide | intro _
    | ((fail_if_no_progress extract_lets +onlyGivenNames x); refine keeps_cut (s0 := s0) (x := x) ?_ ?_; on_goal 1 => subst x)
    | (fail_if_no_progress extract_lets +onlyGivenNames x)
    | with_reducible (first | apply keeps_State_begin | apply keeps_State_beginAt | apply keeps_State_slewOver | apply keepsO_next | apply keepsO_ite | apply keeps_ite | apply keeps_ite2 | apply keeps_ite22 | (refine keeps_eq2 (by with_reducible assumption) ?_) | (refine keeps_eq22 (by with_reducible assumption) ?_))
    | simp -zeta only [keeps_mk, keepsC_fold, id_eq] | (refine keepsC_le ?_ ?_ ?_) | omega | split | (clear_value *; split)

theorem keeps_execLtcFrame (t : Nat) (hh mm ss ff : Byte) {s0 s : State} (hk : Keeps s0 s) : KeepsO s0 (execLtcFrame t hh mm ss ff s) := by
  unfold execLtcFrame
  repeat' first
    | with_reducible assumption | decide | intro _
    | ((fail_if_no_progress extract_lets +onlyGivenNames x); refine keeps_cut (s0 := s0) (x := x) ?_ ?_; on_goal 1 => subst x)
    | (fail_if_no_progress extract_lets +onlyGivenNames x)
    | with_reducible (first | apply keeps_State_setReg | apply keeps_State_bump | apply keeps_State_beginAt | apply keeps_State_stepTb | apply keeps_State_measure | apply keepsO_next | apply keepsO_ite | apply keeps_ite | apply keeps_ite2 | apply keeps_ite22 | (refine keeps_eq2 (by with_reducible assumption) ?_) | (refine keeps_eq22 (by with_reducible assumption) ?_))
    | simp -zeta only [keeps_mk, keepsC_fold, id_eq] | (refine keepsC_le ?_ ?_ ?_) | omega | split | (clear_value *; split)

theorem keeps_execLtcLoss (t : Nat) {s0 s : State} (hk : Keeps s0 s) : KeepsO s0 (execLtcLoss t s) := by
  unfold execLtcLoss
  repeat' first
    | with_reducible assumption | decide | intro _
    | ((fail_if_no_progress extract_lets +onlyGivenNames x); refine keeps_cut (s0 := s0) (x := x) ?_ ?_; on_goal 1 => subst x)
    | (fail_if_no_progress extract_lets +onlyGivenNames x)
    | with_reducible (first | apply keeps_State_beginAt | apply keeps_State_lossOfSource | apply keepsO_next | apply keepsO_ite | apply keeps_ite | apply keeps_ite2 | apply keeps_ite22 | (refine keeps_eq2 (by with_reducible assumption) ?_) | (refine keeps_eq22 (by with_reducible assumption) ?_))
    | simp -zeta only [keeps_mk, keepsC_fold, id_eq] | (refine keepsC_le ?_ ?_ ?_) | omega | split | (clear_value *; split)

theorem keeps_execWclkMeasurement (t : Nat) (hz : Nat) (rate : Int) {s0 s : State} (hk : Keeps s0 s)  : KeepsO s0 (execWclkMeasurement t hz rate s) := by
  unfold execWclkMeasurement
  repeat' first
    | with_reducible assumption | intro _
    | ((fail_if_no_progress extract_lets +onlyGivenNames x); refine keeps_cut (s0 := s0) (x := x) ?_ ?_; on_goal 1 => subst x)
    | (fail_if_no_progress extract_lets +onlyGivenNames x)
    | with_reducible (first | apply keeps_State_sf | apply keeps_State_sb | apply keeps_State_setTb | apply keeps_State_beginAt | apply keeps_State_runTb | apply keeps_State_measure | apply keepsO_next | apply keepsO_ite | apply keeps_ite)
    | simp -zeta only [keeps_mk, keepsC_fold, id_eq] | split

theorem keeps_State_writeMode (n : Fin 4) (mode : Nat) {s0 s : State} (hk : Keeps s0 s) : Keeps s0 (State.writeMode s n mode) := by
  unfold State.writeMode
  repeat' first
    | with_reducible assumption | decide | intro _
    | ((fail_if_no_progress extract_lets +onlyGivenNames x); refine keeps_cut (s0 := s0) (x := x) ?_ ?_; on_goal 1 => subst x)
    | (fail_if_no_progress extract_lets +onlyGivenNames x)
    | with_reducible (first | apply keeps_State_sf | apply keeps_State_setTb | apply keeps_State_setTbState | apply keeps_State_runTb | apply keeps_State_enterHoldover | apply keeps_ite | apply keeps_ite2 | apply keeps_ite22 | (refine keeps_eq2 (by with_reducible assumption) ?_) | (refine keeps_eq22 (by with_reducible assumption) ?_))
    | simp -zeta only [keeps_mk, keepsC_fold, id_eq] | (refine keepsC_le ?_ ?_ ?_) | omega | split | (clear_value *; split)

theorem keeps_execTbModeWrite (t : Nat) (src : Requester) (n : Fin 4) (mode : Fin 4) {s0 s : State} (hk : Keeps s0 s)  : KeepsO s0 (execTbModeWrite t src n mode s) := by
  unfold execTbModeWrite
  repeat' first
    | with_reducible assumption | intro _
    | with_reducible (first | apply keeps_State_beginAt | apply keeps_State_thWrite | apply keeps_State_writeMode | apply keepsO_next | apply keepsO_ite)

theorem keeps_setBaseCount (n : Fin 4) {s0 s : State} (hk : Keeps s0 s)  : Keeps s0 (setBaseCount n s) := by
  unfold setBaseCount
  repeat' first
    | with_reducible assumption | intro _
    | ((fail_if_no_progress extract_lets +onlyGivenNames x); refine keeps_cut (s0 := s0) (x := x) ?_ ?_; on_goal 1 => subst x)
    | (fail_if_no_progress extract_lets +onlyGivenNames x) | with_reducible (first | apply keeps_State_stepTb | apply keeps_ite)
    | split

theorem keeps_execTbSet (t : Nat) (src : Requester) (n : Fin 4) {s0 s : State} (hk : Keeps s0 s)  : KeepsO s0 (execTbSet t src n s) := by
  unfold execTbSet
  repeat' first
    | with_reducible assumption | intro _
    | with_reducible (first | apply keeps_State_beginAt | apply keeps_State_thWrite | apply keeps_setBaseCount | apply keepsO_next | apply keepsO_ite)

theorem keeps_State_writeTbRate (n : Fin 4) (v : Word) {s0 s : State} (hk : Keeps s0 s)  : Keeps s0 (State.writeTbRate s n v) := by
  unfold State.writeTbRate
  repeat' first
    | with_reducible assumption | intro _ | with_reducible (first | apply keeps_State_runTb | apply keeps_ite) | split

theorem keeps_State_writeTrim (v : Word) {s0 s : State} (hk : Keeps s0 s)  : Keeps s0 (State.writeTrim s v) := by
  unfold State.writeTrim
  repeat' first
    | with_reducible assumption | intro _
    | ((fail_if_no_progress extract_lets +onlyGivenNames x); refine keeps_cut (s0 := s0) (x := x) ?_ ?_; on_goal 1 => subst x)
    | (fail_if_no_progress extract_lets +onlyGivenNames x)
    | with_reducible (first | apply keeps_State_setReg | apply keeps_State_runTb)

theorem keeps_execTb3TrimWrite (t : Nat) (src : Requester) (v : Word) {s0 s : State} (hk : Keeps s0 s)  : KeepsO s0 (execTb3TrimWrite t src v s) := by
  unfold execTb3TrimWrite
  repeat' first
    | with_reducible assumption | intro _
    | with_reducible (first | apply keeps_State_beginAt | apply keeps_State_thWrite | apply keeps_State_writeTrim | apply keepsO_next | apply keepsO_ite)

/-! ### Machine/Banks.lean -/

theorem keeps_State_setBank (w : Twin) (n : Nat) (b : BankSt) {s0 s : State} (hk : Keeps s0 s)  : Keeps s0 (State.setBank s w n b) := by
  unfold State.setBank
  repeat' first
    | with_reducible assumption | intro _
    | ((fail_if_no_progress extract_lets +onlyGivenNames x); refine keeps_cut (s0 := s0) (x := x) ?_ ?_; on_goal 1 => subst x)
    | (fail_if_no_progress extract_lets +onlyGivenNames x) | with_reducible apply keeps_State_modTw
    | simp -zeta only [keeps_mk, keepsC_fold, id_eq]

theorem keeps_State_setBankState (w : Twin) (n st : Nat) {s0 s : State} (hk : Keeps s0 s)  : Keeps s0 (State.setBankState s w n st) := by
  unfold State.setBankState
  repeat' first
    | with_reducible assumption | intro _ | with_reducible apply keeps_State_sf

theorem keeps_State_clearBank (w : Twin) (n : Nat) {s0 s : State} (hk : Keeps s0 s)  : Keeps s0 (State.clearBank s w n) := by
  unfold State.clearBank
  repeat' first
    | with_reducible assumption | intro _ | with_reducible apply keeps_State_resetMem

theorem keeps_State_holdAccess (w : Twin) (n a : Nat) (v : Option Word) {s0 s : State} (hk : Keeps s0 s) : Keeps s0 (State.holdAccess s w n a v) := by
  unfold State.holdAccess
  repeat' first
    | with_reducible assumption | decide | intro _
    | ((fail_if_no_progress extract_lets +onlyGivenNames x); refine keeps_cut (s0 := s0) (x := x) ?_ ?_; on_goal 1 => subst x)
    | (fail_if_no_progress extract_lets +onlyGivenNames x)
    | with_reducible (first | apply keeps_State_setBank | apply keeps_ite | apply keeps_ite2 | apply keeps_ite22 | (refine keeps_eq2 (by with_reducible assumption) ?_) | (refine keeps_eq22 (by with_reducible assumption) ?_))
    | simp -zeta only [keeps_mk, keepsC_fold, id_eq] | (refine keepsC_le ?_ ?_ ?_) | omega | split | (clear_value *; split)

theorem keeps_serveHeld (l : List (Nat × Option Word)) {s0 s : State} (hk : Keeps s0 s) : Keeps s0 (serveHeld l s) := by
  unfold serveHeld
  repeat' first
    | with_reducible assumption | decide | intro _
    | ((fail_if_no_progress extract_lets +onlyGivenNames x); refine keeps_cut (s0 := s0) (x := x) ?_ ?_; on_goal 1 => subst x)
    | (fail_if_no_progress extract_lets +onlyGivenNames x)
    | with_reducible (first | apply keeps_State_wrBytes | apply keeps_State_emit | apply keeps_ite | apply keeps_ite2 | apply keeps_ite22 | apply keeps_foldl | apply keeps_foldl2 | (refine keeps_eq2 (by with_reducible assumption) ?_) | (refine keeps_eq22 (by with_reducible assumption) ?_))
    | simp -zeta only [keeps_mk, keepsC_fold, id_eq] | (refine keepsC_le ?_ ?_ ?_) | omega | split | (clear_value *; split)

theorem keeps_State_refuseBank (w : Twin) (n : Nat) {s0 s : State} (hk : Keeps s0 s)  : Keeps s0 (State.refuseBank s w n) := by
  unfold State.refuseBank
  repeat' first
    | with_reducible assumption | intro _ | with_reducible (first | apply keeps_State_bankViol | apply keeps_State_raiseOnce)

theorem keeps_startTransition (w : Twin) (n st : Nat) {s0 s : State} (hk : Keeps s0 s)  : Keeps s0 (startTransition w n st s) := by
  unfold startTransition
  repeat' first
    | with_reducible assumption | intro _
    | ((fail_if_no_progress extract_lets +onlyGivenNames x); refine keeps_cut (s0 := s0) (x := x) ?_ ?_; on_goal 1 => subst x)
    | (fail_if_no_progress extract_lets +onlyGivenNames x)
    | with_reducible (first | apply keeps_State_modTw | apply keeps_State_setBank | apply keeps_State_setBankState | apply keeps_ite)
    | simp -zeta only [keeps_mk, keepsC_fold, id_eq] | split

theorem keeps_bankCtlWrite (ag : BankAgent) (n : Nat) (v : Word) (w : Twin) {s0 s : State} (hk : Keeps s0 s)  : Keeps s0 (bankCtlWrite ag n v w s) := by
  unfold bankCtlWrite
  repeat' first
    | with_reducible assumption | intro _
    | ((fail_if_no_progress extract_lets +onlyGivenNames x); refine keeps_cut (s0 := s0) (x := x) ?_ ?_; on_goal 1 => subst x)
    | (fail_if_no_progress extract_lets +onlyGivenNames x)
    | with_reducible (first | apply keeps_State_sf | apply keeps_State_sb | apply keeps_State_setBank | apply keeps_State_refuseBank | apply keeps_startTransition | apply keeps_ite | apply keeps_ite2 | (refine keeps_eq2 (by with_reducible assumption) ?_) | (refine keeps_eq22 (by with_reducible assumption) ?_))
    | simp -zeta only [keeps_mk, keepsC_fold, id_eq] | split

theorem keeps_execBankOwnerWrite (t : Nat) (via : Via) (n : Fin 96) (v : Word) {s0 s : State} (hk : Keeps s0 s)  : KeepsO s0 (execBankOwnerWrite t via n v s) := by
  unfold execBankOwnerWrite
  repeat' first
    | with_reducible assumption | intro _
    | with_reducible (first | apply keeps_State_beginAt | apply keeps_State_deliver | apply keeps_bankCtlWrite | apply keepsO_next | apply keepsO_ite)

theorem keeps_execBankStateWrite (t : Nat) (via : Via) (n : Fin 96) (v : Word) {s0 s : State} (hk : Keeps s0 s)  : KeepsO s0 (execBankStateWrite t via n v s) := by
  unfold execBankStateWrite
  repeat' first
    | with_reducible assumption | intro _
    | with_reducible (first | apply keeps_State_beginAt | apply keeps_State_deliver | apply keeps_bankCtlWrite | apply keepsO_next | apply keepsO_ite)

theorem keeps_execBankGrant (t : Nat) (w : Twin) (n : Fin 96) {s0 s : State} (hk : Keeps s0 s) : KeepsO s0 (execBankGrant t w n s) := by
  unfold execBankGrant
  repeat' first
    | with_reducible assumption | decide | intro _
    | ((fail_if_no_progress extract_lets +onlyGivenNames x); refine keeps_cut (s0 := s0) (x := x) ?_ ?_; on_goal 1 => subst x)
    | (fail_if_no_progress extract_lets +onlyGivenNames x)
    | with_reducible (first | apply keeps_State_sb | apply keeps_State_beginAt | apply keeps_State_setBank | apply keeps_State_clearBank | apply keeps_serveHeld | apply keepsO_next | apply keepsO_ite | apply keeps_ite | apply keeps_ite2 | apply keeps_ite22 | (refine keeps_eq2 (by with_reducible assumption) ?_) | (refine keeps_eq22 (by with_reducible assumption) ?_))
    | simp -zeta only [keeps_mk, keepsC_fold, id_eq] | (refine keepsC_le ?_ ?_ ?_) | omega | split | (clear_value *; split)

theorem keeps_endTransition (w : Twin) (n : Nat) {s0 s : State} (hk : Keeps s0 s)  : Keeps s0 (endTransition w n s) := by
  unfold endTransition
  repeat' first
    | with_reducible assumption | intro _
    | ((fail_if_no_progress extract_lets +onlyGivenNames x); refine keeps_cut (s0 := s0) (x := x) ?_ ?_; on_goal 1 => subst x)
    | (fail_if_no_progress extract_lets +onlyGivenNames x)
    | with_reducible (first | apply keeps_State_raiseOnce | apply keeps_State_setBank | apply keeps_State_setBankState | apply keeps_State_clearBank | apply keeps_startTransition | apply keeps_ite)
    | simp -zeta only [keeps_mk, keepsC_fold, id_eq] | split

theorem keeps_execBankReady (t : Nat) (w : Twin) (n : Fin 96) {s0 s : State} (hk : Keeps s0 s)  : KeepsO s0 (execBankReady t w n s) := by
  unfold execBankReady
  repeat' first
    | with_reducible assumption | intro _
    | with_reducible (first | apply keeps_State_beginAt | apply keeps_endTransition | apply keepsO_next | apply keepsO_ite)

theorem keeps_execBankAccessFault (t : Nat) (w : Twin) (n : Fin 96) (agent : BankAgent) {s0 s : State} (hk : Keeps s0 s)  : KeepsO s0 (execBankAccessFault t w n agent s) := by
  unfold execBankAccessFault
  repeat' first
    | with_reducible assumption | intro _
    | ((fail_if_no_progress extract_lets +onlyGivenNames x); refine keeps_cut (s0 := s0) (x := x) ?_ ?_; on_goal 1 => subst x)
    | (fail_if_no_progress extract_lets +onlyGivenNames x)
    | with_reducible (first | apply keeps_State_emit | apply keeps_State_beginAt | apply keeps_State_refuseBank | apply keepsO_next | apply keepsO_ite | apply keeps_ite)
    | split

theorem keeps_execMemEccError (t : Nat) (w : Twin) (site : EccSite) (correctable : Bool) {s0 s : State} (hk : Keeps s0 s)  : KeepsO s0 (execMemEccError t w site correctable s) := by
  unfold execMemEccError
  repeat' first
    | with_reducible assumption | intro _
    | ((fail_if_no_progress extract_lets +onlyGivenNames x); refine keeps_cut (s0 := s0) (x := x) ?_ ?_; on_goal 1 => subst x)
    | (fail_if_no_progress extract_lets +onlyGivenNames x)
    | with_reducible (first | apply keeps_State_sf | apply keeps_State_bump | apply keeps_State_wr64 | apply keeps_State_beginAt | apply keeps_State_raiseOnce | apply keeps_State_setHealth | apply keepsO_next | apply keepsO_ite | apply keeps_ite | (refine keeps_eq2 (by with_reducible assumption) ?_) | (refine keeps_eq22 (by with_reducible assumption) ?_))
    | simp -zeta only [keeps_mk, keepsC_fold, id_eq] | split

theorem keeps_advanceTest (w : Twin) (bank win : Nat) {s0 s : State} (hk : Keeps s0 s)  : Keeps s0 (advanceTest w bank win s) := by
  unfold advanceTest
  repeat' first
    | with_reducible assumption | intro _
    | ((fail_if_no_progress extract_lets +onlyGivenNames x); refine keeps_cut (s0 := s0) (x := x) ?_ ?_; on_goal 1 => subst x)
    | (fail_if_no_progress extract_lets +onlyGivenNames x)
    | with_reducible (first | apply keeps_State_setReg | apply keeps_State_modTw | apply keeps_ite)
    | simp -zeta only [keeps_mk, keepsC_fold, id_eq] | split

theorem keeps_marchResult (w : Twin) (n : Nat) (march rerun : Passed) {s0 s : State} (hk : Keeps s0 s)  : Keeps s0 (marchResult w n march rerun s) := by
  unfold marchResult
  repeat' first
    | with_reducible assumption | intro _
    | with_reducible (first | apply keeps_State_sb | apply keeps_State_bump | apply keeps_State_raiseOnce | apply keeps_State_setHealth | apply keeps_ite)
    | split

theorem keeps_execBankTestWindow (t : Nat) (w : Twin) (march rerun : Passed) {s0 s : State} (hk : Keeps s0 s) : KeepsO s0 (execBankTestWindow t w march rerun s) := by
  unfold execBankTestWindow
  repeat' first
    | with_reducible assumption | decide | intro _
    | ((fail_if_no_progress extract_lets +onlyGivenNames x); refine keeps_cut (s0 := s0) (x := x) ?_ ?_; on_goal 1 => subst x)
    | (fail_if_no_progress extract_lets +onlyGivenNames x)
    | with_reducible (first | apply keeps_State_sf | apply keeps_State_modTw | apply keeps_State_beginAt | apply keeps_advanceTest | apply keeps_marchResult | apply keepsO_next | apply keepsO_ite | apply keeps_ite | apply keeps_ite2 | apply keeps_ite22 | (refine keeps_eq2 (by with_reducible assumption) ?_) | (refine keeps_eq22 (by with_reducible assumption) ?_))
    | simp -zeta only [keeps_mk, keepsC_fold, id_eq] | (refine keepsC_le ?_ ?_ ?_) | omega | split | (clear_value *; split)

theorem keeps_execBankTestAbort (t : Nat) (w : Twin) (n : Fin 96) {s0 s : State} (hk : Keeps s0 s) : KeepsO s0 (execBankTestAbort t w n s) := by
  unfold execBankTestAbort
  repeat' first
    | with_reducible assumption | decide | intro _
    | ((fail_if_no_progress extract_lets +onlyGivenNames x); refine keeps_cut (s0 := s0) (x := x) ?_ ?_; on_goal 1 => subst x)
    | (fail_if_no_progress extract_lets +onlyGivenNames x)
    | with_reducible (first | apply keeps_State_bump | apply keeps_State_modTw | apply keeps_State_beginAt | apply keeps_advanceTest | apply keepsO_next | apply keepsO_ite | apply keeps_ite | apply keeps_ite2 | apply keeps_ite22 | (refine keeps_eq2 (by with_reducible assumption) ?_) | (refine keeps_eq22 (by with_reducible assumption) ?_))
    | simp -zeta only [keeps_mk, keepsC_fold, id_eq] | (refine keepsC_le ?_ ?_ ?_) | omega | split | (clear_value *; split)

theorem keeps_execLmemScrub (t : Nat) (_w : Twin) (_c : Fin 16) {s0 s : State} (hk : Keeps s0 s)  : KeepsO s0 (execLmemScrub t _w _c s) := by
  unfold execLmemScrub
  repeat' first
    | with_reducible assumption | intro _ | with_reducible (first | apply keeps_State_beginAt | apply keepsO_next | apply keepsO_ite)

theorem keeps_execDramScrub (t : Nat) (w : Twin) {s0 s : State} (hk : Keeps s0 s)  : KeepsO s0 (execDramScrub t w s) := by
  unfold execDramScrub
  repeat' first
    | with_reducible assumption | intro _
    | ((fail_if_no_progress extract_lets +onlyGivenNames x); refine keeps_cut (s0 := s0) (x := x) ?_ ?_; on_goal 1 => subst x)
    | (fail_if_no_progress extract_lets +onlyGivenNames x)
    | with_reducible (first | apply keeps_State_sf | apply keeps_State_beginAt | apply keepsO_next | apply keepsO_ite | apply keeps_ite)
    | split

theorem keeps_execDramAccessDenied (t : Nat) (w : Twin) (agent : BankAgent) (acc : Access) (off : Nat) {s0 s : State} (hk : Keeps s0 s)  : KeepsO s0 (execDramAccessDenied t w agent acc off s) := by
  unfold execDramAccessDenied
  repeat' first
    | with_reducible assumption | intro _
    | ((fail_if_no_progress extract_lets +onlyGivenNames x); refine keeps_cut (s0 := s0) (x := x) ?_ ?_; on_goal 1 => subst x)
    | (fail_if_no_progress extract_lets +onlyGivenNames x)
    | with_reducible (first | apply keeps_State_emit | apply keeps_State_beginAt | apply keeps_State_refuseBank | apply keepsO_next | apply keepsO_ite | apply keeps_ite | (refine keeps_eq2 (by with_reducible assumption) ?_) | (refine keeps_eq22 (by with_reducible assumption) ?_))
    | simp -zeta only [keeps_mk, keepsC_fold, id_eq] | split

theorem keeps_loadBanks (w : Twin) {s0 s : State} (hk : Keeps s0 s)  : Keeps s0 (loadBanks w s) := by
  unfold loadBanks
  repeat' first
    | with_reducible assumption | intro _
    | ((fail_if_no_progress extract_lets +onlyGivenNames x); refine keeps_cut (s0 := s0) (x := x) ?_ ?_; on_goal 1 => subst x)
    | (fail_if_no_progress extract_lets +onlyGivenNames x)
    | with_reducible (first | apply keeps_State_sf | apply keeps_State_setBank | apply keeps_State_setBankState | apply keeps_State_clearBank | apply keeps_foldl)

theorem keeps_napBanks (w : Twin) {s0 s : State} (hk : Keeps s0 s)  : Keeps s0 (napBanks w s) := by
  unfold napBanks
  repeat' first
    | with_reducible assumption | intro _
    | ((fail_if_no_progress extract_lets +onlyGivenNames x); refine keeps_cut (s0 := s0) (x := x) ?_ ?_; on_goal 1 => subst x)
    | (fail_if_no_progress extract_lets +onlyGivenNames x)
    | with_reducible (first | apply keeps_State_setBank | apply keeps_State_setBankState | apply keeps_State_clearBank | apply keeps_ite | apply keeps_foldl)
    | simp -zeta only [keeps_mk, keepsC_fold, id_eq] | split

theorem keeps_wakeBanks (w : Twin) {s0 s : State} (hk : Keeps s0 s) : Keeps s0 (wakeBanks w s) := by
  unfold wakeBanks
  repeat' first
    | with_reducible assumption | decide | intro _
    | ((fail_if_no_progress extract_lets +onlyGivenNames x); refine keeps_cut (s0 := s0) (x := x) ?_ ?_; on_goal 1 => subst x)
    | (fail_if_no_progress extract_lets +onlyGivenNames x)
    | with_reducible (first | apply keeps_State_raiseOnce | apply keeps_State_setBank | apply keeps_State_setBankState | apply keeps_ite | apply keeps_ite2 | apply keeps_ite22 | apply keeps_foldl | apply keeps_foldl2 | (refine keeps_eq2 (by with_reducible assumption) ?_) | (refine keeps_eq22 (by with_reducible assumption) ?_))
    | simp -zeta only [keeps_mk, keepsC_fold, id_eq] | (refine keepsC_le ?_ ?_ ?_) | omega | split | (clear_value *; split)

/-! ### Machine/Peri.lean -/

theorem keeps_cutStream (h : Held) {s0 s : State} (hk : Keeps s0 s) : Keeps s0 (cutStream h s) := by
  unfold cutStream
  repeat' first
    | with_reducible assumption | decide | intro _
    | ((fail_if_no_progress extract_lets +onlyGivenNames x); refine keeps_cut (s0 := s0) (x := x) ?_ ?_; on_goal 1 => subst x)
    | (fail_if_no_progress extract_lets +onlyGivenNames x)
    | with_reducible (first | apply keeps_State_emit | apply keeps_State_emitAbort | apply keeps_ite | apply keeps_ite2 | apply keeps_ite22 | (refine keeps_eq2 (by with_reducible assumption) ?_) | (refine keeps_eq22 (by with_reducible assumption) ?_))
    | simp -zeta only [keeps_mk, keepsC_fold, id_eq] | (refine keepsC_le ?_ ?_ ?_) | omega | split | (clear_value *; split)

theorem keeps_mismatch (stream block : Nat) (ca cb : Word) (busy : Bool) (back : Nat) {s0 s : State} (hk : Keeps s0 s) : Keeps s0 (mismatch stream block ca cb busy back s) := by
  unfold mismatch
  repeat' first
    | with_reducible assumption | decide | intro _
    | ((fail_if_no_progress extract_lets +onlyGivenNames x); refine keeps_cut (s0 := s0) (x := x) ?_ ?_; on_goal 1 => subst x)
    | (fail_if_no_progress extract_lets +onlyGivenNames x)
    | with_reducible (first | apply keeps_State_setReg | apply keeps_State_sf | apply keeps_State_bump | apply keeps_State_wr64 | apply keeps_State_raiseTh | apply keeps_cutStream | apply keeps_ite | apply keeps_ite2 | apply keeps_ite22 | (refine keeps_eq2 (by with_reducible assumption) ?_) | (refine keeps_eq22 (by with_reducible assumption) ?_))
    | simp -zeta only [keeps_mk, keepsC_fold, id_eq] | (refine keepsC_le ?_ ?_ ?_) | omega | split | (clear_value *; split)

theorem keeps_State_uncompared (stream : Nat) {s0 s : State} (hk : Keeps s0 s)  : Keeps s0 (State.uncompared s stream) := by
  unfold State.uncompared
  repeat' first
    | with_reducible assumption | intro _ | with_reducible (first | apply keeps_State_bump | apply keeps_ite) | split

theorem keeps_State_setRing (stream : Nat) (r : Ring) {s0 s : State} (hk : Keeps s0 s) : Keeps s0 (State.setRing s stream r) := by
  unfold State.setRing
  repeat' first
    | with_reducible assumption | decide | intro _
    | ((fail_if_no_progress extract_lets +onlyGivenNames x); refine keeps_cut (s0 := s0) (x := x) ?_ ?_; on_goal 1 => subst x)
    | (fail_if_no_progress extract_lets +onlyGivenNames x)
    | with_reducible (first | apply keeps_ite | apply keeps_ite2 | apply keeps_ite22 | (refine keeps_eq2 (by with_reducible assumption) ?_) | (refine keeps_eq22 (by with_reducible assumption) ?_))
    | simp -zeta only [keeps_mk, keepsC_fold, id_eq] | (refine keepsC_le ?_ ?_ ?_) | omega | split | (clear_value *; split)

theorem keeps_ringClose (stream block : Nat) (sa sb : BlockSide) (held : Bool) {s0 s : State} (hk : Keeps s0 s) : Keeps s0 (ringClose stream block sa sb held s) := by
  unfold ringClose
  repeat' first
    | with_reducible assumption | decide | intro _
    | ((fail_if_no_progress extract_lets +onlyGivenNames x); refine keeps_cut (s0 := s0) (x := x) ?_ ?_; on_goal 1 => subst x)
    | (fail_if_no_progress extract_lets +onlyGivenNames x)
    | with_reducible (first | apply keeps_State_setRing | apply keeps_ite | apply keeps_ite2 | apply keeps_ite22 | (refine keeps_eq2 (by with_reducible assumption) ?_) | (refine keeps_eq22 (by with_reducible assumption) ?_))
    | simp -zeta only [keeps_mk, keepsC_fold, id_eq] | (refine keepsC_le ?_ ?_ ?_) | omega | split | (clear_value *; split)

theorem keeps_ringResume (stream : Nat) {s0 s : State} (hk : Keeps s0 s) : Keeps s0 (ringResume stream s) := by
  unfold ringResume
  repeat' first
    | with_reducible assumption | decide | intro _
    | ((fail_if_no_progress extract_lets +onlyGivenNames x); refine keeps_cut (s0 := s0) (x := x) ?_ ?_; on_goal 1 => subst x)
    | (fail_if_no_progress extract_lets +onlyGivenNames x)
    | with_reducible (first | apply keeps_State_setRing | apply keeps_ite | apply keeps_ite2 | apply keeps_ite22 | (refine keeps_eq2 (by with_reducible assumption) ?_) | (refine keeps_eq22 (by with_reducible assumption) ?_))
    | simp -zeta only [keeps_mk, keepsC_fold, id_eq] | (refine keepsC_le ?_ ?_ ?_) | omega | split | (clear_value *; split)

theorem keeps_streamBack (stream : Nat) (w : Twin) (sa sb : BlockSide) {s0 s : State} (hk : Keeps s0 s) : Keeps s0 (streamBack stream w sa sb s) := by
  unfold streamBack
  repeat' first
    | with_reducible assumption | decide | intro _
    | ((fail_if_no_progress extract_lets +onlyGivenNames x); refine keeps_cut (s0 := s0) (x := x) ?_ ?_; on_goal 1 => subst x)
    | (fail_if_no_progress extract_lets +onlyGivenNames x)
    | with_reducible (first | apply keeps_leaveHold | apply keeps_ite | apply keeps_ite2 | apply keeps_ite22 | (refine keeps_eq2 (by with_reducible assumption) ?_) | (refine keeps_eq22 (by with_reducible assumption) ?_))
    | simp -zeta only [keeps_mk, keepsC_fold, id_eq] | (refine keepsC_le ?_ ?_ ?_) | omega | split | (clear_value *; split)

theorem keeps_compareBlock (w : Twin) (stream block : Nat) (sa sb : BlockSide) (busy : Bool) (back : Nat) {s0 s : State} (hk : Keeps s0 s) : Keeps s0 (compareBlock w stream block sa sb busy back s) := by
  unfold compareBlock
  repeat' first
    | with_reducible assumption | decide | intro _
    | ((fail_if_no_progress extract_lets +onlyGivenNames x); refine keeps_cut (s0 := s0) (x := x) ?_ ?_; on_goal 1 => subst x)
    | (fail_if_no_progress extract_lets +onlyGivenNames x)
    | with_reducible (first | apply keeps_State_setHealth | apply keeps_mismatch | apply keeps_State_uncompared | apply keeps_ite | apply keeps_ite2 | apply keeps_ite22 | (refine keeps_eq2 (by with_reducible assumption) ?_) | (refine keeps_eq22 (by with_reducible assumption) ?_))
    | simp -zeta only [keeps_mk, keepsC_fold, id_eq] | (refine keepsC_le ?_ ?_ ?_) | omega | split | (clear_value *; split)

theorem keeps_closeBlock (stream block : Nat) (sa sb : BlockSide) (busy : Bool) (back : Nat) {s0 s : State} (hk : Keeps s0 s) : Keeps s0 (closeBlock stream block sa sb busy back s) := by
  unfold closeBlock
  repeat' first
    | with_reducible assumption | decide | intro _
    | ((fail_if_no_progress extract_lets +onlyGivenNames x); refine keeps_cut (s0 := s0) (x := x) ?_ ?_; on_goal 1 => subst x)
    | (fail_if_no_progress extract_lets +onlyGivenNames x)
    | with_reducible (first | apply keeps_ringClose | apply keeps_streamBack | apply keeps_compareBlock | apply keeps_ite | apply keeps_ite2 | apply keeps_ite22 | (refine keeps_eq2 (by with_reducible assumption) ?_) | (refine keeps_eq22 (by with_reducible assumption) ?_))
    | simp -zeta only [keeps_mk, keepsC_fold, id_eq] | (refine keepsC_le ?_ ?_ ?_) | omega | split | (clear_value *; split)

theorem keeps_settleArb (a : Arb) (te out : Nat) {s0 s : State} (hk : Keeps s0 s)  : Keeps s0 (settleArb a te out s) := by
  unfold settleArb
  repeat' first
    | with_reducible assumption | intro _
    | ((fail_if_no_progress extract_lets +onlyGivenNames x); refine keeps_cut (s0 := s0) (x := x) ?_ ?_; on_goal 1 => subst x)
    | (fail_if_no_progress extract_lets +onlyGivenNames x)
    | with_reducible (first | apply keeps_State_sf | apply keeps_State_bump | apply keeps_State_wr64 | apply keeps_State_raiseTh | apply keeps_ite)
    | simp -zeta only [keeps_mk, keepsC_fold, id_eq] | split

theorem keeps_outcomeRoles (w : Twin) (out : Nat) {s0 s : State} (h : Keeps s0 s) : Keeps s0 (outcomeRoles w out s) := by
  unfold outcomeRoles
  extract_lets o
  split
  · split
    · rename_i hr
      refine keeps_State_setRole_active _ ?_ h
      have : o.other = w := by cases w <;> rfl
      rw [this, hr]; decide
    · exact keeps_State_setRoles2 _ _ _ (by decide) (keeps_State_sb _ _ _ h)
  · exact keeps_State_isolate _ h
  · split
    · exact keeps_State_isolate _ h
    · exact keeps_State_setRoles2 _ _ _ (by decide) (keeps_State_sb _ _ _ (keeps_State_sb _ _ _ h))
  · exact keeps_State_setRole _ _ (by decide) h

theorem keeps_decideArb (a : Arb) {s0 s : State} (hk : Keeps s0 s)  : Keeps s0 (decideArb a s) := by
  unfold decideArb
  repeat' first
    | with_reducible assumption | decide | intro _
    | ((fail_if_no_progress extract_lets +onlyGivenNames x); refine keeps_cut (s0 := s0) (x := x) ?_ ?_; on_goal 1 => subst x)
    | (fail_if_no_progress extract_lets +onlyGivenNames x)
    | with_reducible (first | apply keeps_settleArb | apply keeps_outcomeRoles | apply keeps_ite) | split

theorem keeps_endArb (na nb : Bool) {s0 s : State} (hk : Keeps s0 s)  : Keeps s0 (endArb na nb s) := by
  unfold endArb
  repeat' first
    | with_reducible assumption | intro _
    | ((fail_if_no_progress extract_lets +onlyGivenNames x); refine keeps_cut (s0 := s0) (x := x) ?_ ?_; on_goal 1 => subst x)
    | (fail_if_no_progress extract_lets +onlyGivenNames x)
    | with_reducible (first | apply keeps_settleArb | apply keeps_ite | (refine keeps_eq2 (by with_reducible assumption) ?_) | (refine keeps_eq22 (by with_reducible assumption) ?_))
    | simp -zeta only [keeps_mk, keepsC_fold, id_eq] | split

theorem keeps_settle (o : Twin) {s0 s : State} (hk : Keeps s0 s)  : Keeps s0 (settle o s) := by
  unfold settle
  repeat' first
    | with_reducible assumption | decide | intro _
    | ((fail_if_no_progress extract_lets +onlyGivenNames x); refine keeps_cut (s0 := s0) (x := x) ?_ ?_; on_goal 1 => subst x)
    | (fail_if_no_progress extract_lets +onlyGivenNames x)
    | with_reducible (first | apply keeps_State_sf | apply keeps_State_setRole | apply keeps_ite)
    | simp -zeta only [keeps_mk, keepsC_fold, id_eq] | split

theorem keeps_compareDigests (arrA arrB : Bool) {s0 s : State} (hk : Keeps s0 s) : Keeps s0 (compareDigests arrA arrB s) := by
  unfold compareDigests
  repeat' first
    | with_reducible assumption | decide | intro _
    | ((fail_if_no_progress extract_lets +onlyGivenNames x); refine keeps_cut (s0 := s0) (x := x) ?_ ?_; on_goal 1 => subst x)
    | (fail_if_no_progress extract_lets +onlyGivenNames x)
    | with_reducible (first | apply keeps_State_setReg | apply keeps_State_sb | apply keeps_State_setRole | apply keeps_State_setHealth | apply keeps_State_addSwap | apply keeps_settle | apply keeps_ite | apply keeps_ite2 | apply keeps_ite22 | (refine keeps_eq2 (by with_reducible assumption) ?_) | (refine keeps_eq22 (by with_reducible assumption) ?_))
    | simp -zeta only [keeps_mk, keepsC_fold, id_eq] | (refine keepsC_le ?_ ?_ ?_) | omega | split | (clear_value *; split)

theorem keeps_digestCompare (arrA arrB : Bool) {s0 s : State} (hk : Keeps s0 s)  : Keeps s0 (digestCompare arrA arrB s) := by
  unfold digestCompare
  repeat' first
    | with_reducible assumption | intro _
    | ((fail_if_no_progress extract_lets +onlyGivenNames x); refine keeps_cut (s0 := s0) (x := x) ?_ ?_; on_goal 1 => subst x)
    | (fail_if_no_progress extract_lets +onlyGivenNames x) | with_reducible (first | apply keeps_compareDigests | apply keeps_ite)
    | simp -zeta only [keeps_mk, keepsC_fold, id_eq] | split

theorem keeps_lateDigest  {s0 s : State} (hk : Keeps s0 s)  : Keeps s0 (lateDigest s) := by
  unfold lateDigest
  repeat' first
    | with_reducible assumption | intro _
    | ((fail_if_no_progress extract_lets +onlyGivenNames x); refine keeps_cut (s0 := s0) (x := x) ?_ ?_; on_goal 1 => subst x)
    | (fail_if_no_progress extract_lets +onlyGivenNames x) | with_reducible (first | apply keeps_compareDigests | apply keeps_ite)
    | simp -zeta only [keeps_mk, keepsC_fold, id_eq] | split

theorem keeps_flagActions  {s0 s : State} (hk : Keeps s0 s)  : Keeps s0 (flagActions s) := by
  unfold flagActions
  repeat' first
    | with_reducible assumption | decide | intro _
    | ((fail_if_no_progress extract_lets +onlyGivenNames x); refine keeps_cut (s0 := s0) (x := x) ?_ ?_; on_goal 1 => subst x)
    | (fail_if_no_progress extract_lets +onlyGivenNames x)
    | with_reducible (first | apply keeps_State_sb | apply keeps_State_setRole | apply keeps_State_setRoles2 | apply keeps_State_isolate | apply keeps_ite | (refine keeps_eq2 (by with_reducible assumption) ?_) | (refine keeps_eq22 (by with_reducible assumption) ?_))
    | simp -zeta only [keeps_mk, keepsC_fold, id_eq] | split

theorem keeps_copyRegs (w : Twin) {s0 s : State} (hk : Keeps s0 s)  : Keeps s0 (copyRegs w s) := by
  unfold copyRegs
  repeat' first
    | with_reducible assumption | intro _
    | ((fail_if_no_progress extract_lets +onlyGivenNames x); refine keeps_cut (s0 := s0) (x := x) ?_ ?_; on_goal 1 => subst x)
    | (fail_if_no_progress extract_lets +onlyGivenNames x)
    | with_reducible (first | apply keeps_State_setReg | apply keeps_State_sf | apply keeps_State_resetRegs | apply keeps_foldl)

theorem keeps_copyMem (w : Twin) {s0 s : State} (hk : Keeps s0 s)  : Keeps s0 (copyMem w s) := by
  unfold copyMem
  repeat' first
    | with_reducible assumption | intro _
    | ((fail_if_no_progress extract_lets +onlyGivenNames x); refine keeps_cut (s0 := s0) (x := x) ?_ ?_; on_goal 1 => subst x)
    | (fail_if_no_progress extract_lets +onlyGivenNames x)
    | with_reducible (first | apply keeps_State_wrB | apply keeps_State_resetMem | apply keeps_foldl)

theorem keeps_joinAt (w : Twin) {s0 s : State} (hk : Keeps s0 s) : Keeps s0 (joinAt w s) := by
  unfold joinAt
  repeat' first
    | with_reducible assumption | decide | intro _
    | ((fail_if_no_progress extract_lets +onlyGivenNames x); refine keeps_cut (s0 := s0) (x := x) ?_ ?_; on_goal 1 => subst x)
    | (fail_if_no_progress extract_lets +onlyGivenNames x)
    | with_reducible (first | apply keeps_State_sf | apply keeps_State_modTw | apply keeps_causeAll | apply keeps_copyRegs | apply keeps_copyMem | apply keeps_ite | apply keeps_ite2 | apply keeps_ite22 | (refine keeps_eq2 (by with_reducible assumption) ?_) | (refine keeps_eq22 (by with_reducible assumption) ?_))
    | simp -zeta only [keeps_mk, keepsC_fold, id_eq] | (refine keepsC_le ?_ ?_ ?_) | omega | split | (clear_value *; split)

theorem keeps_sendWriting (w : Twin) {s0 s : State} (hk : Keeps s0 s) : Keeps s0 (sendWriting w s) := by
  unfold sendWriting
  repeat' first
    | with_reducible assumption | decide | intro _
    | ((fail_if_no_progress extract_lets +onlyGivenNames x); refine keeps_cut (s0 := s0) (x := x) ?_ ?_; on_goal 1 => subst x)
    | (fail_if_no_progress extract_lets +onlyGivenNames x)
    | with_reducible (first | apply keeps_State_wrBytes | apply keeps_State_modTw | apply keeps_ite | apply keeps_ite2 | apply keeps_ite22 | apply keeps_foldl | apply keeps_foldl2 | (refine keeps_eq2 (by with_reducible assumption) ?_) | (refine keeps_eq22 (by with_reducible assumption) ?_))
    | simp -zeta only [keeps_mk, keepsC_fold, id_eq] | (refine keepsC_le ?_ ?_ ?_) | omega | split | (clear_value *; split)

theorem keeps_resyncTick  {s0 s : State} (hk : Keeps s0 s) : Keeps s0 (resyncTick s) := by
  unfold resyncTick
  repeat' first
    | with_reducible assumption | decide | intro _
    | ((fail_if_no_progress extract_lets +onlyGivenNames x); refine keeps_cut (s0 := s0) (x := x) ?_ ?_; on_goal 1 => subst x)
    | (fail_if_no_progress extract_lets +onlyGivenNames x)
    | with_reducible (first | apply keeps_State_sf | apply keeps_State_setRole | apply keeps_joinAt | apply keeps_sendWriting | apply keeps_ite | apply keeps_ite2 | apply keeps_ite22 | (refine keeps_eq2 (by with_reducible assumption) ?_) | (refine keeps_eq22 (by with_reducible assumption) ?_))
    | simp -zeta only [keeps_mk, keepsC_fold, id_eq] | (refine keepsC_le ?_ ?_ ?_) | omega | split | (clear_value *; split)

theorem keeps_releaseDiverged (was : Roles) {s0 s : State} (hk : Keeps s0 s)  : Keeps s0 (releaseDiverged was s) := by
  unfold releaseDiverged
  repeat' first
    | with_reducible assumption | decide | intro _
    | ((fail_if_no_progress extract_lets +onlyGivenNames x); refine keeps_cut (s0 := s0) (x := x) ?_ ?_; on_goal 1 => subst x)
    | (fail_if_no_progress extract_lets +onlyGivenNames x)
    | with_reducible (first | apply keeps_State_each | apply keeps_State_setRole | apply keeps_ite | (refine keeps_eq2 (by with_reducible assumption) ?_) | (refine keeps_eq22 (by with_reducible assumption) ?_))
    | simp -zeta only [keeps_mk, keepsC_fold, id_eq] | split

theorem keeps_execPeriBlockClose (t : Nat) (stream : Fin 132) (block : Nat) (sa sb : BlockSide) (busy : Bool) (back : Nat) {s0 s : State} (hk : Keeps s0 s)  : KeepsO s0 (execPeriBlockClose t stream block sa sb busy back s) := by
  unfold execPeriBlockClose
  repeat' first
    | with_reducible assumption | intro _
    | with_reducible (first | apply keeps_State_beginAt | apply keeps_closeBlock | apply keepsO_next | apply keepsO_ite)

theorem keeps_execHealthFlag (t : Nat) (w : Twin) (bit : Fin 12) {s0 s : State} (hk : Keeps s0 s)  : KeepsO s0 (execHealthFlag t w bit s) := by
  unfold execHealthFlag
  repeat' first
    | with_reducible assumption | intro _
    | with_reducible (first | apply keeps_State_beginAt | apply keeps_State_setHealth | apply keepsO_next | apply keepsO_ite)

theorem keeps_execHeartbeat (t : Nat) (w : Twin) {s0 s : State} (hk : Keeps s0 s)  : KeepsO s0 (execHeartbeat t w s) := by
  unfold execHeartbeat
  repeat' first
    | with_reducible assumption | intro _
    | ((fail_if_no_progress extract_lets +onlyGivenNames x); refine keeps_cut (s0 := s0) (x := x) ?_ ?_; on_goal 1 => subst x)
    | (fail_if_no_progress extract_lets +onlyGivenNames x)
    | with_reducible (first | apply keeps_State_beginAt | apply keepsO_next | apply keepsO_ite | apply keeps_ite)
    | simp -zeta only [keeps_mk, keepsC_fold, id_eq] | split

theorem keeps_execHbLoss (t : Nat) (w : Twin) {s0 s : State} (hk : Keeps s0 s)  : KeepsO s0 (execHbLoss t w s) := by
  unfold execHbLoss
  repeat' first
    | with_reducible assumption | intro _
    | ((fail_if_no_progress extract_lets +onlyGivenNames x); refine keeps_cut (s0 := s0) (x := x) ?_ ?_; on_goal 1 => subst x)
    | (fail_if_no_progress extract_lets +onlyGivenNames x)
    | with_reducible (first | apply keeps_State_beginAt | apply keeps_State_setHealth | apply keepsO_next | apply keepsO_ite | apply keeps_ite | (refine keeps_eq2 (by with_reducible assumption) ?_) | (refine keeps_eq22 (by with_reducible assumption) ?_))
    | simp -zeta only [keeps_mk, keepsC_fold, id_eq] | split

theorem keeps_execResyncCopyDone (t : Nat) {s0 s : State} (hk : Keeps s0 s)  : KeepsO s0 (execResyncCopyDone t s) := by
  unfold execResyncCopyDone
  repeat' first
    | with_reducible assumption | intro _
    | ((fail_if_no_progress extract_lets +onlyGivenNames x); refine keeps_cut (s0 := s0) (x := x) ?_ ?_; on_goal 1 => subst x)
    | (fail_if_no_progress extract_lets +onlyGivenNames x)
    | with_reducible (first | apply keeps_State_beginAt | apply keepsO_next | apply keepsO_ite | apply keeps_ite)
    | simp -zeta only [keeps_mk, keepsC_fold, id_eq] | split

theorem keeps_execResyncFail (t : Nat) {s0 s : State} (hk : Keeps s0 s)  : KeepsO s0 (execResyncFail t s) := by
  unfold execResyncFail
  repeat' first
    | with_reducible assumption | intro _
    | ((fail_if_no_progress extract_lets +onlyGivenNames x); refine keeps_cut (s0 := s0) (x := x) ?_ ?_; on_goal 1 => subst x)
    | (fail_if_no_progress extract_lets +onlyGivenNames x)
    | with_reducible (first | apply keeps_State_sf | apply keeps_State_beginAt | apply keeps_State_raiseTh | apply keeps_State_isolate | apply keepsO_next | apply keepsO_ite | apply keeps_ite)
    | simp -zeta only [keeps_mk, keepsC_fold, id_eq] | split

theorem keeps_execStreamAbsent (t : Nat) (p : Fin 128) {s0 s : State} (hk : Keeps s0 s) : KeepsO s0 (execStreamAbsent t p s) := by
  unfold execStreamAbsent
  repeat' first
    | with_reducible assumption | decide | intro _
    | ((fail_if_no_progress extract_lets +onlyGivenNames x); refine keeps_cut (s0 := s0) (x := x) ?_ ?_; on_goal 1 => subst x)
    | (fail_if_no_progress extract_lets +onlyGivenNames x)
    | with_reducible (first | apply keeps_State_beginAt | apply keeps_leaveHold | apply keepsO_next | apply keepsO_ite | apply keeps_ite | apply keeps_ite2 | apply keeps_ite22 | (refine keeps_eq2 (by with_reducible assumption) ?_) | (refine keeps_eq22 (by with_reducible assumption) ?_))
    | simp -zeta only [keeps_mk, keepsC_fold, id_eq] | (refine keepsC_le ?_ ?_ ?_) | omega | split | (clear_value *; split)

/-! ### Machine/Net.lean -/

theorem keeps_State_modNet (w : Twin) (f : Net → Net) {s0 s : State} (hk : Keeps s0 s)  : Keeps s0 (State.modNet s w f) := by
  unfold State.modNet
  repeat' first
    | with_reducible assumption | intro _
    | ((fail_if_no_progress extract_lets +onlyGivenNames x); refine keeps_cut (s0 := s0) (x := x) ?_ ?_; on_goal 1 => subst x)
    | (fail_if_no_progress extract_lets +onlyGivenNames x) | with_reducible apply keeps_State_modTw
    | simp -zeta only [keeps_mk, keepsC_fold, id_eq]

theorem keeps_State_raiseOncePer (w : Twin) (n data : Nat) {s0 s : State} (hk : Keeps s0 s)  : Keeps s0 (State.raiseOncePer s w n data) := by
  unfold State.raiseOncePer
  repeat' first
    | with_reducible assumption | intro _
    | with_reducible (first | apply keeps_State_modTw | apply keeps_State_raiseTwin | apply keeps_ite)
    | simp -zeta only [keeps_mk, keepsC_fold, id_eq] | split

theorem keeps_State_raiseFirst (w : Twin) (n data : Nat) {s0 s : State} (hk : Keeps s0 s)  : Keeps s0 (State.raiseFirst s w n data) := by
  unfold State.raiseFirst
  repeat' first
    | with_reducible assumption | intro _
    | with_reducible (first | apply keeps_State_modTw | apply keeps_State_raiseTwin | apply keeps_ite) | split

theorem keeps_toSoftware (w : Twin) (n cls : Nat) (trunc : Bool) (t0 : Nat) (frame keep : List Byte) {s0 s : State} (hk : Keeps s0 s)  : Keeps s0 (toSoftware w n cls trunc t0 frame keep s) := by
  unfold toSoftware
  repeat' first
    | with_reducible assumption | intro _
    | ((fail_if_no_progress extract_lets +onlyGivenNames x); refine keeps_cut (s0 := s0) (x := x) ?_ ?_; on_goal 1 => subst x)
    | (fail_if_no_progress extract_lets +onlyGivenNames x)
    | with_reducible (first | apply keeps_State_wrBytes | apply keeps_State_bump | apply keeps_pushCounted | apply keeps_State_modNet | apply keeps_State_raiseFirst | apply keeps_tick | apply keeps_ite | apply keeps_ite2 | (refine keeps_eq2 (by with_reducible assumption) ?_) | (refine keeps_eq22 (by with_reducible assumption) ?_))
    | simp -zeta only [keeps_mk, keepsC_fold, id_eq] | split

theorem keeps_scheduleState (w : Twin) (n : Nat) (records : Option (List JoinRec)) {s0 s : State} (hk : Keeps s0 s)  : Keeps s0 (scheduleState w n records s) := by
  unfold scheduleState
  repeat' first
    | with_reducible assumption | intro _
    | ((fail_if_no_progress extract_lets +onlyGivenNames x); refine keeps_cut (s0 := s0) (x := x) ?_ ?_; on_goal 1 => subst x)
    | (fail_if_no_progress extract_lets +onlyGivenNames x) | with_reducible apply keeps_State_modNet
    | simp -zeta only [keeps_mk, keepsC_fold, id_eq]

theorem keeps_joinQuery (w : Twin) (n t0 : Nat) (frame : List Byte) {s0 s : State} (hk : Keeps s0 s) : Keeps s0 (joinQuery w n t0 frame s) := by
  unfold joinQuery
  repeat' first
    | with_reducible assumption | decide | intro _
    | ((fail_if_no_progress extract_lets +onlyGivenNames x); refine keeps_cut (s0 := s0) (x := x) ?_ ?_; on_goal 1 => subst x)
    | (fail_if_no_progress extract_lets +onlyGivenNames x)
    | with_reducible (first | apply keeps_State_modNet | apply keeps_ite | apply keeps_ite2 | apply keeps_ite22 | (refine keeps_eq2 (by with_reducible assumption) ?_) | (refine keeps_eq22 (by with_reducible assumption) ?_))
    | simp -zeta only [keeps_mk, keepsC_fold, id_eq] | (refine keepsC_le ?_ ?_ ?_) | omega | split | (clear_value *; split)

theorem keeps_sendReport (w : Twin) (n : Nat) (v6 : Bool) (version : Nat) (records : List JoinRec) {s0 s : State} (hk : Keeps s0 s) : Keeps s0 (sendReport w n v6 version records s) := by
  unfold sendReport
  repeat' first
    | with_reducible assumption | decide | intro _
    | ((fail_if_no_progress extract_lets +onlyGivenNames x); refine keeps_cut (s0 := s0) (x := x) ?_ ?_; on_goal 1 => subst x)
    | (fail_if_no_progress extract_lets +onlyGivenNames x)
    | with_reducible (first | apply keeps_State_bump | apply keeps_State_wr64 | apply keeps_State_emit | apply keeps_ite | apply keeps_ite2 | apply keeps_ite22 | (refine keeps_eq2 (by with_reducible assumption) ?_) | (refine keeps_eq22 (by with_reducible assumption) ?_))
    | simp -zeta only [keeps_mk, keepsC_fold, id_eq] | (refine keepsC_le ?_ ?_ ?_) | omega | split | (clear_value *; split)

theorem keeps_sendDue (w : Twin) (r : Report) {s0 s : State} (hk : Keeps s0 s)  : Keeps s0 (sendDue w r s) := by
  unfold sendDue
  repeat' first
    | with_reducible assumption | intro _
    | ((fail_if_no_progress extract_lets +onlyGivenNames x); refine keeps_cut (s0 := s0) (x := x) ?_ ?_; on_goal 1 => subst x)
    | (fail_if_no_progress extract_lets +onlyGivenNames x)
    | with_reducible (first | apply keeps_sendReport | apply keeps_ite | apply keeps_foldl)
    | simp -zeta only [keeps_mk, keepsC_fold, id_eq] | split

theorem keeps_joinReport (w : Twin) (r : Report) {s0 s : State} (hk : Keeps s0 s) : Keeps s0 (joinReport w r s) := by
  unfold joinReport
  repeat' first
    | with_reducible assumption | decide | intro _
    | ((fail_if_no_progress extract_lets +onlyGivenNames x); refine keeps_cut (s0 := s0) (x := x) ?_ ?_; on_goal 1 => subst x)
    | (fail_if_no_progress extract_lets +onlyGivenNames x)
    | with_reducible (first | apply keeps_State_modNet | apply keeps_sendDue | apply keeps_ite | apply keeps_ite2 | apply keeps_ite22 | (refine keeps_eq2 (by with_reducible assumption) ?_) | (refine keeps_eq22 (by with_reducible assumption) ?_))
    | simp -zeta only [keeps_mk, keepsC_fold, id_eq] | (refine keepsC_le ?_ ?_ ?_) | omega | split | (clear_value *; split)

theorem keeps_execJoinReport (t : Nat) (w : Twin) (n : Fin 4) {s0 s : State} (hk : Keeps s0 s) : KeepsO s0 (execJoinReport t w n s) := by
  unfold execJoinReport
  repeat' first
    | with_reducible assumption | decide | intro _
    | ((fail_if_no_progress extract_lets +onlyGivenNames x); refine keeps_cut (s0 := s0) (x := x) ?_ ?_; on_goal 1 => subst x)
    | (fail_if_no_progress extract_lets +onlyGivenNames x)
    | with_reducible (first | apply keeps_State_beginAt | apply keeps_joinReport | apply keepsO_next | apply keepsO_ite | apply keeps_ite | apply keeps_ite2 | apply keeps_ite22 | (refine keeps_eq2 (by with_reducible assumption) ?_) | (refine keeps_eq22 (by with_reducible assumption) ?_))
    | simp -zeta only [keeps_mk, keepsC_fold, id_eq] | (refine keepsC_le ?_ ?_ ?_) | omega | split | (clear_value *; split)

theorem keeps_doneDesc (w : Twin) (n status : Nat) {s0 s : State} (hk : Keeps s0 s)  : Keeps s0 (doneDesc w n status s) := by
  unfold doneDesc
  repeat' first
    | with_reducible assumption | intro _
    | ((fail_if_no_progress extract_lets +onlyGivenNames x); refine keeps_cut (s0 := s0) (x := x) ?_ ?_; on_goal 1 => subst x)
    | (fail_if_no_progress extract_lets +onlyGivenNames x) | with_reducible (first | apply keeps_State_wrB | apply keeps_State_sf)

theorem keeps_discardTx (w : Twin) (n fuel : Nat) {s0 s : State} (h : Keeps s0 s) : Keeps s0 (discardTx w n fuel s) := by
  induction fuel generalizing s with
  | zero => exact h
  | succ fuel ih =>
    unfold discardTx
    exact keeps_ite (ih (keeps_doneDesc _ _ _ h)) fun _ => h

theorem keeps_linkDown (w : Twin) (n : Nat) {s0 s : State} (hk : Keeps s0 s) : Keeps s0 (linkDown w n s) := by
  unfold linkDown
  repeat' first
    | with_reducible assumption | decide | intro _
    | ((fail_if_no_progress extract_lets +onlyGivenNames x); refine keeps_cut (s0 := s0) (x := x) ?_ ?_; on_goal 1 => subst x)
    | (fail_if_no_progress extract_lets +onlyGivenNames x)
    | with_reducible (first | apply keeps_State_sb | apply keeps_State_raiseTwin | apply keeps_discardTx | apply keeps_ite | apply keeps_ite2 | apply keeps_ite22 | (refine keeps_eq2 (by with_reducible assumption) ?_) | (refine keeps_eq22 (by with_reducible assumption) ?_))
    | simp -zeta only [keeps_mk, keepsC_fold, id_eq] | (refine keepsC_le ?_ ?_ ?_) | omega | split | (clear_value *; split)

theorem keeps_execNetLinkUp (t : Nat) (n : Fin 4) {s0 s : State} (hk : Keeps s0 s)  : KeepsO s0 (execNetLinkUp t n s) := by
  unfold execNetLinkUp
  repeat' first
    | with_reducible assumption | intro _
    | ((fail_if_no_progress extract_lets +onlyGivenNames x); refine keeps_cut (s0 := s0) (x := x) ?_ ?_; on_goal 1 => subst x)
    | (fail_if_no_progress extract_lets +onlyGivenNames x)
    | with_reducible (first | apply keeps_State_sb | apply keeps_State_beginAt | apply keeps_State_raiseTwin | apply keeps_scheduleState | apply keepsO_next | apply keepsO_ite | apply keeps_ite | apply keeps_foldl)
    | split

theorem keeps_execNetLinkDown (t : Nat) (n : Fin 4) (hiBer : Bool) {s0 s : State} (hk : Keeps s0 s) : KeepsO s0 (execNetLinkDown t n hiBer s) := by
  unfold execNetLinkDown
  repeat' first
    | with_reducible assumption | decide | intro _
    | ((fail_if_no_progress extract_lets +onlyGivenNames x); refine keeps_cut (s0 := s0) (x := x) ?_ ?_; on_goal 1 => subst x)
    | (fail_if_no_progress extract_lets +onlyGivenNames x)
    | with_reducible (first | apply keeps_State_sb | apply keeps_State_beginAt | apply keeps_linkDown | apply keepsO_next | apply keepsO_ite | apply keeps_ite | apply keeps_ite2 | apply keeps_ite22 | apply keeps_foldl | apply keeps_foldl2 | (refine keeps_eq2 (by with_reducible assumption) ?_) | (refine keeps_eq22 (by with_reducible assumption) ?_))
    | simp -zeta only [keeps_mk, keepsC_fold, id_eq] | (refine keepsC_le ?_ ?_ ?_) | omega | split | (clear_value *; split)

theorem keeps_freeSlot (v : Nat) (w : Twin) {s0 s : State} (hk : Keeps s0 s)  : Keeps s0 (freeSlot v w s) := by
  unfold freeSlot
  repeat' first
    | with_reducible assumption | intro _
    | ((fail_if_no_progress extract_lets +onlyGivenNames x); refine keeps_cut (s0 := s0) (x := x) ?_ ?_; on_goal 1 => subst x)
    | (fail_if_no_progress extract_lets +onlyGivenNames x) | with_reducible apply keeps_State_modNet
    | simp -zeta only [keeps_mk, keepsC_fold, id_eq]

theorem keeps_execNetRxfree (t : Nat) (via : Via) (slot : Nat) {s0 s : State} (hk : Keeps s0 s)  : KeepsO s0 (execNetRxfree t via slot s) := by
  unfold execNetRxfree
  repeat' first
    | with_reducible assumption | intro _
    | with_reducible (first | apply keeps_State_beginAt | apply keeps_State_deliver | apply keeps_freeSlot | apply keepsO_next | apply keepsO_ite)

theorem keeps_writeTxTail (n : Nat) (v : Word) (w : Twin) {s0 s : State} (hk : Keeps s0 s)  : Keeps s0 (writeTxTail n v w s) := by
  unfold writeTxTail
  repeat' first
    | with_reducible assumption | intro _
    | ((fail_if_no_progress extract_lets +onlyGivenNames x); refine keeps_cut (s0 := s0) (x := x) ?_ ?_; on_goal 1 => subst x)
    | (fail_if_no_progress extract_lets +onlyGivenNames x)
    | with_reducible (first | apply keeps_State_sf | apply keeps_discardTx | apply keeps_ite) | split

theorem keeps_execNetTxTail (t : Nat) (via : Via) (n : Fin 4) (v : Word) {s0 s : State} (hk : Keeps s0 s)  : KeepsO s0 (execNetTxTail t via n v s) := by
  unfold execNetTxTail
  repeat' first
    | with_reducible assumption | intro _
    | with_reducible (first | apply keeps_State_beginAt | apply keeps_State_deliver | apply keeps_writeTxTail | apply keepsO_next | apply keepsO_ite)

theorem keeps_reportsFirst (w : Twin) (n start : Nat) (frame : List Byte) {s0 s : State} (hk : Keeps s0 s) : Keeps s0 (reportsFirst w n start frame s) := by
  unfold reportsFirst
  repeat' first
    | with_reducible assumption | decide | intro _
    | ((fail_if_no_progress extract_lets +onlyGivenNames x); refine keeps_cut (s0 := s0) (x := x) ?_ ?_; on_goal 1 => subst x)
    | (fail_if_no_progress extract_lets +onlyGivenNames x)
    | with_reducible (first | apply keeps_joinReport | apply keeps_ite | apply keeps_ite2 | apply keeps_ite22 | apply keeps_foldl | apply keeps_foldl2 | (refine keeps_eq2 (by with_reducible assumption) ?_) | (refine keeps_eq22 (by with_reducible assumption) ?_))
    | simp -zeta only [keeps_mk, keepsC_fold, id_eq] | (refine keepsC_le ?_ ?_ ?_) | omega | split | (clear_value *; split)

theorem keeps_txOne (n : Nat) (w : Twin) {s0 s : State} (hk : Keeps s0 s) : Keeps s0 (txOne n w s) := by
  unfold txOne
  repeat' first
    | with_reducible assumption | decide | intro _
    | ((fail_if_no_progress extract_lets +onlyGivenNames x); refine keeps_cut (s0 := s0) (x := x) ?_ ?_; on_goal 1 => subst x)
    | (fail_if_no_progress extract_lets +onlyGivenNames x)
    | with_reducible (first | apply keeps_State_wrBytes | apply keeps_State_bump | apply keeps_State_wr64 | apply keeps_State_emit | apply keeps_doneDesc | apply keeps_reportsFirst | apply keeps_ite | apply keeps_ite2 | apply keeps_ite22 | (refine keeps_eq2 (by with_reducible assumption) ?_) | (refine keeps_eq22 (by with_reducible assumption) ?_))
    | simp -zeta only [keeps_mk, keepsC_fold, id_eq] | (refine keepsC_le ?_ ?_ ?_) | omega | split | (clear_value *; split)

theorem keeps_execNetTxDone (t : Nat) (n : Fin 4) {s0 s : State} (hk : Keeps s0 s)  : KeepsO s0 (execNetTxDone t n s) := by
  unfold execNetTxDone
  repeat' first
    | with_reducible assumption | intro _
    | ((fail_if_no_progress extract_lets +onlyGivenNames x); refine keeps_cut (s0 := s0) (x := x) ?_ ?_; on_goal 1 => subst x)
    | (fail_if_no_progress extract_lets +onlyGivenNames x)
    | with_reducible (first | apply keeps_State_each | apply keeps_State_beginAt | apply keeps_txOne | apply keepsO_next | apply keepsO_ite | apply keeps_ite)
    | split

/-! ### Machine/Ingest.lean -/

theorem keeps_State_setUniv (w : Twin) (e : Nat) (u : Univ) {s0 s : State} (hk : Keeps s0 s)  : Keeps s0 (State.setUniv s w e u) := by
  unfold State.setUniv
  repeat' first
    | with_reducible assumption | intro _
    | ((fail_if_no_progress extract_lets +onlyGivenNames x); refine keeps_cut (s0 := s0) (x := x) ?_ ?_; on_goal 1 => subst x)
    | (fail_if_no_progress extract_lets +onlyGivenNames x) | with_reducible apply keeps_State_modNet
    | simp -zeta only [keeps_mk, keepsC_fold, id_eq]

theorem keeps_leaveUniv (w : Twin) (e : Nat) (srcs : List SacnSrc) {s0 s : State} (hk : Keeps s0 s)  : Keeps s0 (leaveUniv w e srcs s).2 := by
  unfold leaveUniv
  repeat' first
    | with_reducible assumption | intro _
    | ((fail_if_no_progress extract_lets +onlyGivenNames x); refine keeps_cut (s0 := s0) (x := x) ?_ ?_; on_goal 1 => subst x)
    | (fail_if_no_progress extract_lets +onlyGivenNames x)
    | with_reducible (first | apply keeps_State_setUniv | apply keeps_ite | apply keeps_ite2)
    | simp -zeta only [keeps_mk, keepsC_fold, id_eq] | split

theorem keeps_countLost (w : Twin) (n : Nat) {s0 s : State} (hk : Keeps s0 s) : Keeps s0 (countLost w n s) := by
  unfold countLost
  repeat' first
    | with_reducible assumption | decide | intro _
    | ((fail_if_no_progress extract_lets +onlyGivenNames x); refine keeps_cut (s0 := s0) (x := x) ?_ ?_; on_goal 1 => subst x)
    | (fail_if_no_progress extract_lets +onlyGivenNames x)
    | with_reducible (first | apply keeps_State_modNet | apply keeps_ite | apply keeps_ite2 | apply keeps_ite22 | (refine keeps_eq2 (by with_reducible assumption) ?_) | (refine keeps_eq22 (by with_reducible assumption) ?_))
    | simp -zeta only [keeps_mk, keepsC_fold, id_eq] | (refine keepsC_le ?_ ?_ ?_) | omega | split | (clear_value *; split)

theorem keeps_lostEvent (w : Twin) {s0 s : State} (hk : Keeps s0 s) : Keeps s0 (lostEvent w s) := by
  unfold lostEvent
  repeat' first
    | with_reducible assumption | decide | intro _
    | ((fail_if_no_progress extract_lets +onlyGivenNames x); refine keeps_cut (s0 := s0) (x := x) ?_ ?_; on_goal 1 => subst x)
    | (fail_if_no_progress extract_lets +onlyGivenNames x)
    | with_reducible (first | apply keeps_State_raiseTwin | apply keeps_State_modNet | apply keeps_ite | apply keeps_ite2 | apply keeps_ite22 | (refine keeps_eq2 (by with_reducible assumption) ?_) | (refine keeps_eq22 (by with_reducible assumption) ?_))
    | simp -zeta only [keeps_mk, keepsC_fold, id_eq] | (refine keepsC_le ?_ ?_ ?_) | omega | split | (clear_value *; split)

theorem keeps_sacnData (w : Twin) (n e t0 : Nat) (frame b : List Byte) {s0 s : State} (hk : Keeps s0 s) : Keeps s0 (sacnData w n e t0 frame b s) := by
  unfold sacnData
  repeat' first
    | with_reducible assumption | decide | intro _
    | ((fail_if_no_progress extract_lets +onlyGivenNames x); refine keeps_cut (s0 := s0) (x := x) ?_ ?_; on_goal 1 => subst x)
    | (fail_if_no_progress extract_lets +onlyGivenNames x)
    | with_reducible (first | apply keeps_State_bump | apply keeps_State_raiseFirst | apply keeps_State_setUniv | apply keeps_leaveUniv | apply keeps_countLost | apply keeps_ite | apply keeps_ite2 | apply keeps_ite22 | (refine keeps_eq2 (by with_reducible assumption) ?_) | (refine keeps_eq22 (by with_reducible assumption) ?_))
    | simp -zeta only [keeps_mk, keepsC_fold, id_eq] | (refine keepsC_le ?_ ?_ ?_) | omega | split | (clear_value *; split)

theorem keeps_sacnSync (w : Twin) (a : Nat) {s0 s : State} (hk : Keeps s0 s)  : Keeps s0 (sacnSync w a s) := by
  unfold sacnSync
  repeat' first
    | with_reducible assumption | intro _
    | ((fail_if_no_progress extract_lets +onlyGivenNames x); refine keeps_cut (s0 := s0) (x := x) ?_ ?_; on_goal 1 => subst x)
    | (fail_if_no_progress extract_lets +onlyGivenNames x) | with_reducible (first | apply keeps_State_setUniv | apply keeps_foldl)
    | simp -zeta only [keeps_mk, keepsC_fold, id_eq]

theorem keeps_sacnFrame (w : Twin) (n t0 : Nat) (frame : List Byte) {s0 s : State} (hk : Keeps s0 s)  : Keeps s0 (sacnFrame w n t0 frame s) := by
  unfold sacnFrame
  repeat' first
    | with_reducible assumption | intro _
    | ((fail_if_no_progress extract_lets +onlyGivenNames x); refine keeps_cut (s0 := s0) (x := x) ?_ ?_; on_goal 1 => subst x)
    | (fail_if_no_progress extract_lets +onlyGivenNames x)
    | with_reducible (first | apply keeps_State_bump | apply keeps_toSoftware | apply keeps_sacnData | apply keeps_sacnSync)
    | simp -zeta only [keeps_mk, keepsC_fold, id_eq] | split

theorem keeps_State_setFlow (w : Twin) (f : Nat) (x : StFlow) {s0 s : State} (hk : Keeps s0 s)  : Keeps s0 (State.setFlow s w f x) := by
  unfold State.setFlow
  repeat' first
    | with_reducible assumption | intro _
    | ((fail_if_no_progress extract_lets +onlyGivenNames x); refine keeps_cut (s0 := s0) (x := x) ?_ ?_; on_goal 1 => subst x)
    | (fail_if_no_progress extract_lets +onlyGivenNames x)
    | with_reducible (first | apply keeps_State_reset | apply keeps_State_modNet) | simp -zeta only [keeps_mk, keepsC_fold, id_eq]

theorem keeps_stFail (w : Twin) (f : Nat) (ts : Nat) {s0 s : State} (hk : Keeps s0 s) : Keeps s0 (stFail w f ts s) := by
  unfold stFail
  repeat' first
    | with_reducible assumption | decide | intro _
    | ((fail_if_no_progress extract_lets +onlyGivenNames x); refine keeps_cut (s0 := s0) (x := x) ?_ ?_; on_goal 1 => subst x)
    | (fail_if_no_progress extract_lets +onlyGivenNames x)
    | with_reducible (first | apply keeps_State_bump | apply keeps_State_raiseOncePer | apply keeps_State_setFlow | apply keeps_ite | apply keeps_ite2 | apply keeps_ite22 | (refine keeps_eq2 (by with_reducible assumption) ?_) | (refine keeps_eq22 (by with_reducible assumption) ?_))
    | simp -zeta only [keeps_mk, keepsC_fold, id_eq] | (refine keepsC_le ?_ ?_ ?_) | omega | split | (clear_value *; split)

theorem keeps_stDone (w : Twin) (f : Nat) (ts stamp : Nat) {s0 s : State} (hk : Keeps s0 s) : Keeps s0 (stDone w f ts stamp s) := by
  unfold stDone
  repeat' first
    | with_reducible assumption | decide | intro _
    | ((fail_if_no_progress extract_lets +onlyGivenNames x); refine keeps_cut (s0 := s0) (x := x) ?_ ?_; on_goal 1 => subst x)
    | (fail_if_no_progress extract_lets +onlyGivenNames x)
    | with_reducible (first | apply keeps_State_bump | apply keeps_State_setFlow | apply keeps_ite | apply keeps_ite2 | apply keeps_ite22 | (refine keeps_eq2 (by with_reducible assumption) ?_) | (refine keeps_eq22 (by with_reducible assumption) ?_))
    | simp -zeta only [keeps_mk, keepsC_fold, id_eq] | (refine keepsC_le ?_ ?_ ?_) | omega | split | (clear_value *; split)

theorem keeps_stPacket (w : Twin) (n f t0 : Nat) (frame : List Byte) {s0 s : State} (hk : Keeps s0 s) : Keeps s0 (stPacket w n f t0 frame s) := by
  unfold stPacket
  repeat' first
    | with_reducible assumption | decide | intro _
    | ((fail_if_no_progress extract_lets +onlyGivenNames x); refine keeps_cut (s0 := s0) (x := x) ?_ ?_; on_goal 1 => subst x)
    | (fail_if_no_progress extract_lets +onlyGivenNames x)
    | with_reducible (first | apply keeps_State_wrBytes | apply keeps_State_bump | apply keeps_State_setFlow | apply keeps_stFail | apply keeps_stDone | apply keeps_ite | apply keeps_ite2 | apply keeps_ite22 | apply keeps_foldl | apply keeps_foldl2 | (refine keeps_eq2 (by with_reducible assumption) ?_) | (refine keeps_eq22 (by with_reducible assumption) ?_))
    | simp -zeta only [keeps_mk, keepsC_fold, id_eq] | (refine keepsC_le ?_ ?_ ?_) | omega | split | (clear_value *; split)

theorem keeps_rxFrame (n t0 : Nat) (good : Bool) (frame : List Byte) (w : Twin) {s0 s : State} (hk : Keeps s0 s)  : Keeps s0 (rxFrame n t0 good frame w s) := by
  unfold rxFrame
  repeat' first
    | with_reducible assumption | decide | intro _
    | ((fail_if_no_progress extract_lets +onlyGivenNames x); refine keeps_cut (s0 := s0) (x := x) ?_ ?_; on_goal 1 => subst x)
    | (fail_if_no_progress extract_lets +onlyGivenNames x)
    | with_reducible (first | apply keeps_State_bump | apply keeps_State_wr64 | apply keeps_State_raiseOncePer | apply keeps_toSoftware | apply keeps_joinQuery | apply keeps_sacnFrame | apply keeps_stPacket | apply keeps_ite | apply keeps_ite2 | apply keeps_ite22 | apply keeps_foldl | apply keeps_foldl2 | (refine keeps_eq2 (by with_reducible assumption) ?_) | (refine keeps_eq22 (by with_reducible assumption) ?_))
    | simp -zeta only [keeps_mk, keepsC_fold, id_eq] | (refine keepsC_le ?_ ?_ ?_) | omega | split | (clear_value *; split)

theorem keeps_execNetRxFrame (t t0 : Nat) (n : Fin 4) (good : Bool) (bytes : List Byte) {s0 s : State} (hk : Keeps s0 s) : KeepsO s0 (execNetRxFrame t t0 n good bytes s) := by
  unfold execNetRxFrame
  repeat' first
    | with_reducible assumption | decide | intro _
    | ((fail_if_no_progress extract_lets +onlyGivenNames x); refine keeps_cut (s0 := s0) (x := x) ?_ ?_; on_goal 1 => subst x)
    | (fail_if_no_progress extract_lets +onlyGivenNames x)
    | with_reducible (first | apply keeps_State_each | apply keeps_State_beginAt | apply keeps_rxFrame | apply keepsO_next | apply keepsO_ite | apply keeps_ite | apply keeps_ite2 | apply keeps_ite22 | (refine keeps_eq2 (by with_reducible assumption) ?_) | (refine keeps_eq22 (by with_reducible assumption) ?_))
    | simp -zeta only [keeps_mk, keepsC_fold, id_eq] | (refine keepsC_le ?_ ?_ ?_) | omega | split | (clear_value *; split)

theorem keeps_execSacnSrcLoss (t : Nat) (w : Twin) {s0 s : State} (hk : Keeps s0 s) : KeepsO s0 (execSacnSrcLoss t w s) := by
  unfold execSacnSrcLoss
  repeat' first
    | with_reducible assumption | decide | intro _
    | ((fail_if_no_progress extract_lets +onlyGivenNames x); refine keeps_cut (s0 := s0) (x := x) ?_ ?_; on_goal 1 => subst x)
    | (fail_if_no_progress extract_lets +onlyGivenNames x)
    | with_reducible (first | apply keeps_State_beginAt | apply keeps_leaveUniv | apply keeps_countLost | apply keepsO_next | apply keepsO_ite | apply keeps_ite | apply keeps_ite2 | apply keeps_ite22 | apply keeps_foldl | apply keeps_foldl2 | (refine keeps_eq2 (by with_reducible assumption) ?_) | (refine keeps_eq22 (by with_reducible assumption) ?_))
    | simp -zeta only [keeps_mk, keepsC_fold, id_eq] | (refine keepsC_le ?_ ?_ ?_) | omega | split | (clear_value *; split)

theorem keeps_execSacnSyncLoss (t : Nat) (w : Twin) {s0 s : State} (hk : Keeps s0 s)  : KeepsO s0 (execSacnSyncLoss t w s) := by
  unfold execSacnSyncLoss
  repeat' first
    | with_reducible assumption | decide | intro _
    | ((fail_if_no_progress extract_lets +onlyGivenNames x); refine keeps_cut (s0 := s0) (x := x) ?_ ?_; on_goal 1 => subst x)
    | (fail_if_no_progress extract_lets +onlyGivenNames x)
    | with_reducible (first | apply keeps_State_beginAt | apply keeps_State_raiseFirst | apply keeps_State_setUniv | apply keepsO_next | apply keepsO_ite | apply keeps_ite | apply keeps_ite2 | apply keeps_ite22 | apply keeps_foldl | apply keeps_foldl2 | (refine keeps_eq2 (by with_reducible assumption) ?_) | (refine keeps_eq22 (by with_reducible assumption) ?_))
    | simp -zeta only [keeps_mk, keepsC_fold, id_eq] | (refine keepsC_le ?_ ?_ ?_) | omega | split | (clear_value *; split)

theorem keeps_execStFlowLoss (t : Nat) (w : Twin) (f : Fin 8) {s0 s : State} (hk : Keeps s0 s)  : KeepsO s0 (execStFlowLoss t w f s) := by
  unfold execStFlowLoss
  repeat' first
    | with_reducible assumption | intro _
    | ((fail_if_no_progress extract_lets +onlyGivenNames x); refine keeps_cut (s0 := s0) (x := x) ?_ ?_; on_goal 1 => subst x)
    | (fail_if_no_progress extract_lets +onlyGivenNames x)
    | with_reducible (first | apply keeps_State_beginAt | apply keeps_State_raiseTwin | apply keeps_State_setFlow | apply keepsO_next | apply keepsO_ite | apply keeps_ite)
    | simp -zeta only [keeps_mk, keepsC_fold, id_eq] | split

theorem keeps_ingestTick (w : Twin) {s0 s : State} (hk : Keeps s0 s)  : Keeps s0 (ingestTick w s) := by
  unfold ingestTick
  repeat' first
    | with_reducible assumption | intro _
    | ((fail_if_no_progress extract_lets +onlyGivenNames x); refine keeps_cut (s0 := s0) (x := x) ?_ ?_; on_goal 1 => subst x)
    | (fail_if_no_progress extract_lets +onlyGivenNames x)
    | with_reducible (first | apply keeps_State_setReg | apply keeps_State_sb | apply keeps_State_bump | apply keeps_State_wr64 | apply keeps_State_modNet | apply keeps_State_setFlow | apply keeps_ite | apply keeps_foldl)
    | simp -zeta only [keeps_mk, keepsC_fold, id_eq] | split

theorem keeps_univChanged (w : Twin) (e oldUni newUni : Nat) (syncNow : Bool) {s0 s : State} (hk : Keeps s0 s)  : Keeps s0 (univChanged w e oldUni newUni syncNow s) := by
  unfold univChanged
  repeat' first
    | with_reducible assumption | intro _
    | ((fail_if_no_progress extract_lets +onlyGivenNames x); refine keeps_cut (s0 := s0) (x := x) ?_ ?_; on_goal 1 => subst x)
    | (fail_if_no_progress extract_lets +onlyGivenNames x) | with_reducible (first | apply keeps_State_setUniv | apply keeps_ite)
    | simp -zeta only [keeps_mk, keepsC_fold, id_eq] | split

theorem keeps_flowChanged (w : Twin) (f : Nat) {s0 s : State} (hk : Keeps s0 s)  : Keeps s0 (flowChanged w f s) := by
  unfold flowChanged
  repeat' first
    | with_reducible assumption | intro _
    | ((fail_if_no_progress extract_lets +onlyGivenNames x); refine keeps_cut (s0 := s0) (x := x) ?_ ?_; on_goal 1 => subst x)
    | (fail_if_no_progress extract_lets +onlyGivenNames x)
    | with_reducible (first | apply keeps_State_reset | apply keeps_State_setReg | apply keeps_State_sb | apply keeps_State_wr64 | apply keeps_State_resetMem | apply keeps_State_setFlow | apply keeps_foldl)

/-! ### Machine/Compose.lean -/

/-! ### Machine/Layers.lean -/

theorem keeps_State_modLay (w : Twin) (f : Layers → Layers) {s0 s : State} (hk : Keeps s0 s)  : Keeps s0 (State.modLay s w f) := by
  unfold State.modLay
  repeat' first
    | with_reducible assumption | intro _
    | ((fail_if_no_progress extract_lets +onlyGivenNames x); refine keeps_cut (s0 := s0) (x := x) ?_ ?_; on_goal 1 => subst x)
    | (fail_if_no_progress extract_lets +onlyGivenNames x) | with_reducible apply keeps_State_modTw
    | simp -zeta only [keeps_mk, keepsC_fold, id_eq]

theorem keeps_State_setLayer (w : Twin) (l : Nat) (x : Layer) {s0 s : State} (hk : Keeps s0 s)  : Keeps s0 (State.setLayer s w l x) := by
  unfold State.setLayer
  repeat' first
    | with_reducible assumption | intro _
    | ((fail_if_no_progress extract_lets +onlyGivenNames x); refine keeps_cut (s0 := s0) (x := x) ?_ ?_; on_goal 1 => subst x)
    | (fail_if_no_progress extract_lets +onlyGivenNames x)
    | with_reducible (first | apply keeps_State_reset | apply keeps_State_modLay) | simp -zeta only [keeps_mk, keepsC_fold, id_eq]

theorem keeps_fillSlot (w : Twin) (l i : Nat) {s0 s : State} (hk : Keeps s0 s)  : Keeps s0 (fillSlot w l i s) := by
  unfold fillSlot
  repeat' first
    | with_reducible assumption | intro _
    | ((fail_if_no_progress extract_lets +onlyGivenNames x); refine keeps_cut (s0 := s0) (x := x) ?_ ?_; on_goal 1 => subst x)
    | (fail_if_no_progress extract_lets +onlyGivenNames x)
    | with_reducible (first | apply keeps_State_sf | apply keeps_State_setLayer | apply keeps_ite)
    | simp -zeta only [keeps_mk, keepsC_fold, id_eq] | split

theorem keeps_landBytes (w : Twin) (n : Nat) (bs : List Byte) {s0 s : State} (h : Keeps s0 s) : Keeps s0 (landBytes w n bs s) := by
  induction bs generalizing s n with
  | nil => exact h
  | cons b l ih => exact ih _ (keeps_ite h fun _ => keeps_State_wrB h _ _)

theorem keeps_discardWrite (w : Twin) (hit : List (Nat × Nat)) (l0 : Nat) {s0 s : State} (hk : Keeps s0 s) : Keeps s0 (discardWrite w hit l0 s) := by
  unfold discardWrite
  repeat' first
    | with_reducible assumption | decide | intro _
    | ((fail_if_no_progress extract_lets +onlyGivenNames x); refine keeps_cut (s0 := s0) (x := x) ?_ ?_; on_goal 1 => subst x)
    | (fail_if_no_progress extract_lets +onlyGivenNames x)
    | with_reducible (first | apply keeps_State_sf | apply keeps_State_bump | apply keeps_State_raiseOnce | apply keeps_ite | apply keeps_ite2 | apply keeps_ite22 | apply keeps_foldl | apply keeps_foldl2 | (refine keeps_eq2 (by with_reducible assumption) ?_) | (refine keeps_eq22 (by with_reducible assumption) ?_))
    | simp -zeta only [keeps_mk, keepsC_fold, id_eq] | (refine keepsC_le ?_ ?_ ?_) | omega | split | (clear_value *; split)

theorem keeps_fillSlots (w : Twin) (off n : Nat) {s0 s : State} (hk : Keeps s0 s) : Keeps s0 (fillSlots w off n s) := by
  unfold fillSlots
  repeat' first
    | with_reducible assumption | decide | intro _
    | ((fail_if_no_progress extract_lets +onlyGivenNames x); refine keeps_cut (s0 := s0) (x := x) ?_ ?_; on_goal 1 => subst x)
    | (fail_if_no_progress extract_lets +onlyGivenNames x)
    | with_reducible (first | apply keeps_fillSlot | apply keeps_ite | apply keeps_ite2 | apply keeps_ite22 | apply keeps_foldl | apply keeps_foldl2 | (refine keeps_eq2 (by with_reducible assumption) ?_) | (refine keeps_eq22 (by with_reducible assumption) ?_))
    | simp -zeta only [keeps_mk, keepsC_fold, id_eq] | (refine keepsC_le ?_ ?_ ?_) | omega | split | (clear_value *; split)

theorem keeps_bulkInto (off : Nat) (bytes : List Byte) (w : Twin) {s0 s : State} (hk : Keeps s0 s) : Keeps s0 (bulkInto off bytes w s) := by
  unfold bulkInto
  repeat' first
    | with_reducible assumption | decide | intro _
    | ((fail_if_no_progress extract_lets +onlyGivenNames x); refine keeps_cut (s0 := s0) (x := x) ?_ ?_; on_goal 1 => subst x)
    | (fail_if_no_progress extract_lets +onlyGivenNames x)
    | with_reducible (first | apply keeps_landBytes | apply keeps_discardWrite | apply keeps_fillSlots | apply keeps_ite | apply keeps_ite2 | apply keeps_ite22 | (refine keeps_eq2 (by with_reducible assumption) ?_) | (refine keeps_eq22 (by with_reducible assumption) ?_))
    | simp -zeta only [keeps_mk, keepsC_fold, id_eq] | (refine keepsC_le ?_ ?_ ?_) | omega | split | (clear_value *; split)

theorem keeps_coreDram (w : Twin) (off : Nat) (v : Word) {s0 s : State} (hk : Keeps s0 s) : Keeps s0 (coreDram w off v s) := by
  unfold coreDram
  repeat' first
    | with_reducible assumption | decide | intro _
    | ((fail_if_no_progress extract_lets +onlyGivenNames x); refine keeps_cut (s0 := s0) (x := x) ?_ ?_; on_goal 1 => subst x)
    | (fail_if_no_progress extract_lets +onlyGivenNames x)
    | with_reducible (first | apply keeps_State_wrBytes | apply keeps_discardWrite | apply keeps_fillSlots | apply keeps_ite | apply keeps_ite2 | apply keeps_ite22 | (refine keeps_eq2 (by with_reducible assumption) ?_) | (refine keeps_eq22 (by with_reducible assumption) ?_))
    | simp -zeta only [keeps_mk, keepsC_fold, id_eq] | (refine keepsC_le ?_ ?_ ?_) | omega | split | (clear_value *; split)

theorem keeps_execBulkWrite (t : Nat) (off : Nat) (bytes : List Byte) {s0 s : State} (hk : Keeps s0 s)  : KeepsO s0 (execBulkWrite t off bytes s) := by
  unfold execBulkWrite
  repeat' first
    | with_reducible assumption | intro _
    | with_reducible (first | apply keeps_State_beginAt | apply keeps_State_deliver | apply keeps_bulkInto | apply keepsO_next | apply keepsO_ite)

theorem keeps_pendSet (w : Twin) (late : Bool) (l : Nat) (c : LayerSet) {s0 s : State} (hk : Keeps s0 s) : Keeps s0 (pendSet w late l c s) := by
  unfold pendSet
  repeat' first
    | with_reducible assumption | decide | intro _
    | ((fail_if_no_progress extract_lets +onlyGivenNames x); refine keeps_cut (s0 := s0) (x := x) ?_ ?_; on_goal 1 => subst x)
    | (fail_if_no_progress extract_lets +onlyGivenNames x)
    | with_reducible (first | apply keeps_State_setLayer | apply keeps_ite | apply keeps_ite2 | apply keeps_ite22 | (refine keeps_eq2 (by with_reducible assumption) ?_) | (refine keeps_eq22 (by with_reducible assumption) ?_))
    | simp -zeta only [keeps_mk, keepsC_fold, id_eq] | (refine keepsC_le ?_ ?_ ?_) | omega | split | (clear_value *; split)

theorem keeps_captureOne (w : Twin) (late : Bool) (l : Nat) (c : LayerSet) {s0 s : State} (hk : Keeps s0 s) : Keeps s0 (captureOne w late l c s) := by
  unfold captureOne
  repeat' first
    | with_reducible assumption | decide | intro _
    | ((fail_if_no_progress extract_lets +onlyGivenNames x); refine keeps_cut (s0 := s0) (x := x) ?_ ?_; on_goal 1 => subst x)
    | (fail_if_no_progress extract_lets +onlyGivenNames x)
    | with_reducible (first | apply keeps_State_setLayer | apply keeps_pendSet | apply keeps_ite | apply keeps_ite2 | apply keeps_ite22 | (refine keeps_eq2 (by with_reducible assumption) ?_) | (refine keeps_eq22 (by with_reducible assumption) ?_))
    | simp -zeta only [keeps_mk, keepsC_fold, id_eq] | (refine keepsC_le ?_ ?_ ?_) | omega | split | (clear_value *; split)

theorem keeps_lateEffects (w : Twin) (stamp : Nat) (ls : List Nat) {s0 s : State} (hk : Keeps s0 s) : Keeps s0 (lateEffects w stamp ls s) := by
  unfold lateEffects
  repeat' first
    | with_reducible assumption | decide | intro _
    | ((fail_if_no_progress extract_lets +onlyGivenNames x); refine keeps_cut (s0 := s0) (x := x) ?_ ?_; on_goal 1 => subst x)
    | (fail_if_no_progress extract_lets +onlyGivenNames x)
    | with_reducible (first | apply keeps_State_setReg | apply keeps_State_sb | apply keeps_State_bump | apply keeps_State_wr64 | apply keeps_State_raiseOnce | apply keeps_State_modLay | apply keeps_ite | apply keeps_ite2 | apply keeps_ite22 | apply keeps_foldl | apply keeps_foldl2 | (refine keeps_eq2 (by with_reducible assumption) ?_) | (refine keeps_eq22 (by with_reducible assumption) ?_))
    | simp -zeta only [keeps_mk, keepsC_fold, id_eq] | (refine keepsC_le ?_ ?_ ?_) | omega | split | (clear_value *; split)

theorem keeps_captureSets (w : Twin) (cs : List (Nat × LayerSet)) {s0 s : State} (hk : Keeps s0 s) : Keeps s0 (captureSets w cs s) := by
  unfold captureSets
  repeat' first
    | with_reducible assumption | decide | intro _
    | ((fail_if_no_progress extract_lets +onlyGivenNames x); refine keeps_cut (s0 := s0) (x := x) ?_ ?_; on_goal 1 => subst x)
    | (fail_if_no_progress extract_lets +onlyGivenNames x)
    | with_reducible (first | apply keeps_State_sb | apply keeps_State_raiseIf | apply keeps_State_modLay | apply keeps_captureOne | apply keeps_lateEffects | apply keeps_ite | apply keeps_ite2 | apply keeps_ite22 | apply keeps_foldl | apply keeps_foldl2 | (refine keeps_eq2 (by with_reducible assumption) ?_) | (refine keeps_eq22 (by with_reducible assumption) ?_))
    | simp -zeta only [keeps_mk, keepsC_fold, id_eq] | (refine keepsC_le ?_ ?_ ?_) | omega | split | (clear_value *; split)

theorem keeps_commitLayers (v : Word) (w : Twin) {s0 s : State} (hk : Keeps s0 s)  : Keeps s0 (commitLayers v w s) := by
  unfold commitLayers
  repeat' first
    | with_reducible assumption | intro _
    | ((fail_if_no_progress extract_lets +onlyGivenNames x); refine keeps_cut (s0 := s0) (x := x) ?_ ?_; on_goal 1 => subst x)
    | (fail_if_no_progress extract_lets +onlyGivenNames x)
    | with_reducible (first | apply keeps_State_sb | apply keeps_captureSets | apply keeps_foldl)
    | simp -zeta only [keeps_mk, keepsC_fold, id_eq]

theorem keeps_execLayerCmt (t : Nat) (via : Via) (v : Word) {s0 s : State} (hk : Keeps s0 s)  : KeepsO s0 (execLayerCmt t via v s) := by
  unfold execLayerCmt
  repeat' first
    | with_reducible assumption | intro _
    | with_reducible (first | apply keeps_State_beginAt | apply keeps_State_deliver | apply keeps_commitLayers | apply keepsO_next | apply keepsO_ite)

theorem keeps_relayLayer (v : Word) {s0 s : State} (hk : Keeps s0 s)  : Keeps s0 (relayLayer v s) := by
  unfold relayLayer
  repeat' first
    | with_reducible assumption | intro _
    | ((fail_if_no_progress extract_lets +onlyGivenNames x); refine keeps_cut (s0 := s0) (x := x) ?_ ?_; on_goal 1 => subst x)
    | (fail_if_no_progress extract_lets +onlyGivenNames x)
    | with_reducible (first | apply keeps_State_deliver | apply keeps_captureSets) | simp -zeta only [keeps_mk, keepsC_fold, id_eq]

theorem keeps_execLayerRelay (t : Nat) (src : Requester) (v : Word) {s0 s : State} (hk : Keeps s0 s)  : KeepsO s0 (execLayerRelay t src v s) := by
  unfold execLayerRelay
  repeat' first
    | with_reducible assumption | intro _
    | with_reducible (first | apply keeps_State_beginAt | apply keeps_State_thWrite | apply keeps_relayLayer | apply keepsO_next | apply keepsO_ite)

theorem keeps_clearDamaged (via : Via) (l mask : Nat) (w : Twin) {s0 s : State} (hk : Keeps s0 s) : Keeps s0 (clearDamaged via l mask w s) := by
  unfold clearDamaged
  repeat' first
    | with_reducible assumption | decide | intro _
    | ((fail_if_no_progress extract_lets +onlyGivenNames x); refine keeps_cut (s0 := s0) (x := x) ?_ ?_; on_goal 1 => subst x)
    | (fail_if_no_progress extract_lets +onlyGivenNames x)
    | with_reducible (first | apply keeps_State_plainWrite | apply keeps_ite | apply keeps_ite2 | apply keeps_ite22 | (refine keeps_eq2 (by with_reducible assumption) ?_) | (refine keeps_eq22 (by with_reducible assumption) ?_))
    | simp -zeta only [keeps_mk, keepsC_fold, id_eq] | (refine keepsC_le ?_ ?_ ?_) | omega | split | (clear_value *; split)

theorem keeps_execLayerDamagedClear (t : Nat) (via : Via) (l : Fin 16) (mask : Fin 16) {s0 s : State} (hk : Keeps s0 s) : KeepsO s0 (execLayerDamagedClear t via l mask s) := by
  unfold execLayerDamagedClear
  repeat' first
    | with_reducible assumption | decide | intro _
    | ((fail_if_no_progress extract_lets +onlyGivenNames x); refine keeps_cut (s0 := s0) (x := x) ?_ ?_; on_goal 1 => subst x)
    | (fail_if_no_progress extract_lets +onlyGivenNames x)
    | with_reducible (first | apply keeps_State_beginAt | apply keeps_State_deliver | apply keeps_clearDamaged | apply keepsO_next | apply keepsO_ite | apply keeps_ite | apply keeps_ite2 | apply keeps_ite22 | (refine keeps_eq2 (by with_reducible assumption) ?_) | (refine keeps_eq22 (by with_reducible assumption) ?_))
    | simp -zeta only [keeps_mk, keepsC_fold, id_eq] | (refine keepsC_le ?_ ?_ ?_) | omega | split | (clear_value *; split)

theorem keeps_State_show (w : Twin) (l : Nat) (slot : Option Nat) {s0 s : State} (hk : Keeps s0 s)  : Keeps s0 (State.show s w l slot) := by
  unfold State.show
  repeat' first
    | with_reducible assumption | intro _
    | ((fail_if_no_progress extract_lets +onlyGivenNames x); refine keeps_cut (s0 := s0) (x := x) ?_ ?_; on_goal 1 => subst x)
    | (fail_if_no_progress extract_lets +onlyGivenNames x) | with_reducible (first | apply keeps_State_sf | apply keeps_State_sb)
    | simp -zeta only [keeps_mk, keepsC_fold, id_eq] | split

theorem keeps_State_live (w : Twin) (l : Nat) (v : LayerVals) {s0 s : State} (hk : Keeps s0 s)  : Keeps s0 (State.live s w l v) := by
  unfold State.live
  repeat' first
    | with_reducible assumption | intro _
    | ((fail_if_no_progress extract_lets +onlyGivenNames x); refine keeps_cut (s0 := s0) (x := x) ?_ ?_; on_goal 1 => subst x)
    | (fail_if_no_progress extract_lets +onlyGivenNames x) | with_reducible (first | apply keeps_State_sf | apply keeps_State_sb)

theorem keeps_latchLayer (w : Twin) (l : Nat) (carried : Bool) {s0 s : State} (hk : Keeps s0 s)  : Keeps s0 (latchLayer w l carried s) := by
  unfold latchLayer
  repeat' first
    | with_reducible assumption | decide | intro _
    | ((fail_if_no_progress extract_lets +onlyGivenNames x); refine keeps_cut (s0 := s0) (x := x) ?_ ?_; on_goal 1 => subst x)
    | (fail_if_no_progress extract_lets +onlyGivenNames x)
    | with_reducible (first | apply keeps_State_sb | apply keeps_State_bump | apply keeps_State_raiseOncePer | apply keeps_State_setLayer | apply keeps_State_show | apply keeps_ite | apply keeps_ite2 | apply keeps_ite22 | apply keeps_foldl | apply keeps_foldl2 | (refine keeps_eq2 (by with_reducible assumption) ?_) | (refine keeps_eq22 (by with_reducible assumption) ?_))
    | simp -zeta only [keeps_mk, keepsC_fold, id_eq] | (refine keepsC_le ?_ ?_ ?_) | omega | split | (clear_value *; split)

theorem keeps_layerTick (w : Twin) (l : Nat) {s0 s : State} (hk : Keeps s0 s) : Keeps s0 (layerTick w l s) := by
  unfold layerTick
  repeat' first
    | with_reducible assumption | decide | intro _
    | ((fail_if_no_progress extract_lets +onlyGivenNames x); refine keeps_cut (s0 := s0) (x := x) ?_ ?_; on_goal 1 => subst x)
    | (fail_if_no_progress extract_lets +onlyGivenNames x)
    | with_reducible (first | apply keeps_State_setLayer | apply keeps_State_show | apply keeps_State_live | apply keeps_latchLayer | apply keeps_ite | apply keeps_ite2 | apply keeps_ite22 | (refine keeps_eq2 (by with_reducible assumption) ?_) | (refine keeps_eq22 (by with_reducible assumption) ?_))
    | simp -zeta only [keeps_mk, keepsC_fold, id_eq] | (refine keepsC_le ?_ ?_ ?_) | omega | split | (clear_value *; split)

theorem keeps_layerContextReset (w : Twin) {s0 s : State} (hk : Keeps s0 s)  : Keeps s0 (layerContextReset w s) := by
  unfold layerContextReset
  repeat' first
    | with_reducible assumption | intro _
    | ((fail_if_no_progress extract_lets +onlyGivenNames x); refine keeps_cut (s0 := s0) (x := x) ?_ ?_; on_goal 1 => subst x)
    | (fail_if_no_progress extract_lets +onlyGivenNames x)
    | with_reducible (first | apply keeps_State_setLayer | apply keeps_ite | apply keeps_foldl)
    | simp -zeta only [keeps_mk, keepsC_fold, id_eq] | split

theorem keeps_restartLayer (w : Twin) (l : Nat) {s0 s : State} (hk : Keeps s0 s)  : Keeps s0 (restartLayer w l s) := by
  unfold restartLayer
  repeat' first
    | with_reducible assumption | intro _
    | ((fail_if_no_progress extract_lets +onlyGivenNames x); refine keeps_cut (s0 := s0) (x := x) ?_ ?_; on_goal 1 => subst x)
    | (fail_if_no_progress extract_lets +onlyGivenNames x)
    | with_reducible (first | apply keeps_State_reset | apply keeps_State_setReg | apply keeps_State_sf | apply keeps_State_sb | apply keeps_State_setLayer | apply keeps_State_show)
    | simp -zeta only [keeps_mk, keepsC_fold, id_eq]

theorem keeps_judgeEarly (w : Twin) {s0 s : State} (hk : Keeps s0 s) : Keeps s0 (judgeEarly w s) := by
  unfold judgeEarly
  repeat' first
    | with_reducible assumption | decide | intro _
    | ((fail_if_no_progress extract_lets +onlyGivenNames x); refine keeps_cut (s0 := s0) (x := x) ?_ ?_; on_goal 1 => subst x)
    | (fail_if_no_progress extract_lets +onlyGivenNames x)
    | with_reducible (first | apply keeps_State_modLay | apply keeps_State_setLayer | apply keeps_pendSet | apply keeps_lateEffects | apply keeps_ite | apply keeps_ite2 | apply keeps_ite22 | apply keeps_foldl | apply keeps_foldl2 | (refine keeps_eq2 (by with_reducible assumption) ?_) | (refine keeps_eq22 (by with_reducible assumption) ?_))
    | simp -zeta only [keeps_mk, keepsC_fold, id_eq] | (refine keepsC_le ?_ ?_ ?_) | omega | split | (clear_value *; split)

theorem keeps_layerShadows (w : Twin) (l : Nat) {s0 s : State} (hk : Keeps s0 s)  : Keeps s0 (layerShadows w l s) := by
  unfold layerShadows
  repeat' first
    | with_reducible assumption | intro _
    | ((fail_if_no_progress extract_lets +onlyGivenNames x); refine keeps_cut (s0 := s0) (x := x) ?_ ?_; on_goal 1 => subst x)
    | (fail_if_no_progress extract_lets +onlyGivenNames x) | with_reducible (first | apply keeps_State_sf | apply keeps_State_sb)

theorem keeps_State_modFrame (w : Twin) (k : Nat) (f : FrameAcct → FrameAcct) {s0 s : State} (hk : Keeps s0 s)  : Keeps s0 (State.modFrame s w k f) := by
  unfold State.modFrame
  repeat' first
    | with_reducible assumption | intro _
    | ((fail_if_no_progress extract_lets +onlyGivenNames x); refine keeps_cut (s0 := s0) (x := x) ?_ ?_; on_goal 1 => subst x)
    | (fail_if_no_progress extract_lets +onlyGivenNames x) | with_reducible (first | apply keeps_State_modTw | apply keeps_ite)
    | simp -zeta only [keeps_mk, keepsC_fold, id_eq] | split

theorem keeps_execStripeComplete (t : Nat) (w : Twin) (stripe : Nat) {s0 s : State} (hk : Keeps s0 s) : KeepsO s0 (execStripeComplete t w stripe s) := by
  unfold execStripeComplete
  repeat' first
    | with_reducible assumption | decide | intro _
    | ((fail_if_no_progress extract_lets +onlyGivenNames x); refine keeps_cut (s0 := s0) (x := x) ?_ ?_; on_goal 1 => subst x)
    | (fail_if_no_progress extract_lets +onlyGivenNames x)
    | with_reducible (first | apply keeps_State_setReg | apply keeps_State_beginAt | apply keeps_State_modLay | apply keeps_State_modFrame | apply keepsO_next | apply keepsO_ite | apply keeps_ite | apply keeps_ite2 | apply keeps_ite22 | (refine keeps_eq2 (by with_reducible assumption) ?_) | (refine keeps_eq22 (by with_reducible assumption) ?_))
    | simp -zeta only [keeps_mk, keepsC_fold, id_eq] | (refine keepsC_le ?_ ?_ ?_) | omega | split | (clear_value *; split)

/-! ### Machine/Tables.lean -/

/-! ### Machine/Curves.lean -/

theorem keeps_State_modCurves (w : Twin) (f : Curves → Curves) {s0 s : State} (hk : Keeps s0 s)  : Keeps s0 (State.modCurves s w f) := by
  unfold State.modCurves
  repeat' first
    | with_reducible assumption | intro _
    | ((fail_if_no_progress extract_lets +onlyGivenNames x); refine keeps_cut (s0 := s0) (x := x) ?_ ?_; on_goal 1 => subst x)
    | (fail_if_no_progress extract_lets +onlyGivenNames x) | with_reducible apply keeps_State_modTw
    | simp -zeta only [keeps_mk, keepsC_fold, id_eq]

theorem keeps_upsetPoint (w : Twin) (c i : Nat) (us : List Upset) {s0 s : State} (hk : Keeps s0 s) : Keeps s0 (upsetPoint w c i us s) := by
  unfold upsetPoint
  repeat' first
    | with_reducible assumption | decide | intro _
    | ((fail_if_no_progress extract_lets +onlyGivenNames x); refine keeps_cut (s0 := s0) (x := x) ?_ ?_; on_goal 1 => subst x)
    | (fail_if_no_progress extract_lets +onlyGivenNames x)
    | with_reducible (first | apply keeps_State_modCurves | apply keeps_ite | apply keeps_ite2 | apply keeps_ite22 | apply keeps_foldl | apply keeps_foldl2 | (refine keeps_eq2 (by with_reducible assumption) ?_) | (refine keeps_eq22 (by with_reducible assumption) ?_))
    | simp -zeta only [keeps_mk, keepsC_fold, id_eq] | (refine keepsC_le ?_ ?_ ?_) | omega | split | (clear_value *; split)

theorem keeps_freshSlots (w : Twin) (cs : List Nat) {s0 s : State} (hk : Keeps s0 s) : Keeps s0 (freshSlots w cs s) := by
  unfold freshSlots
  repeat' first
    | with_reducible assumption | decide | intro _
    | ((fail_if_no_progress extract_lets +onlyGivenNames x); refine keeps_cut (s0 := s0) (x := x) ?_ ?_; on_goal 1 => subst x)
    | (fail_if_no_progress extract_lets +onlyGivenNames x)
    | with_reducible (first | apply keeps_State_modCurves | apply keeps_ite | apply keeps_ite2 | apply keeps_ite22 | (refine keeps_eq2 (by with_reducible assumption) ?_) | (refine keeps_eq22 (by with_reducible assumption) ?_))
    | simp -zeta only [keeps_mk, keepsC_fold, id_eq] | (refine keepsC_le ?_ ?_ ?_) | omega | split | (clear_value *; split)

theorem keeps_writePoint (w : Twin) (c i v : Nat) {s0 s : State} (hk : Keeps s0 s) : Keeps s0 (writePoint w c i v s) := by
  unfold writePoint
  repeat' first
    | with_reducible assumption | decide | intro _
    | ((fail_if_no_progress extract_lets +onlyGivenNames x); refine keeps_cut (s0 := s0) (x := x) ?_ ?_; on_goal 1 => subst x)
    | (fail_if_no_progress extract_lets +onlyGivenNames x)
    | with_reducible (first | apply keeps_State_wrBytes | apply keeps_State_modCurves | apply keeps_ite | apply keeps_ite2 | apply keeps_ite22 | (refine keeps_eq2 (by with_reducible assumption) ?_) | (refine keeps_eq22 (by with_reducible assumption) ?_))
    | simp -zeta only [keeps_mk, keepsC_fold, id_eq] | (refine keepsC_le ?_ ?_ ?_) | omega | split | (clear_value *; split)

theorem keeps_watchSpare (w : Twin) {s0 s : State} (hk : Keeps s0 s) : Keeps s0 (watchSpare w s) := by
  unfold watchSpare
  repeat' first
    | with_reducible assumption | decide | intro _
    | ((fail_if_no_progress extract_lets +onlyGivenNames x); refine keeps_cut (s0 := s0) (x := x) ?_ ?_; on_goal 1 => subst x)
    | (fail_if_no_progress extract_lets +onlyGivenNames x)
    | with_reducible (first | apply keeps_State_raiseIf | apply keeps_State_modCurves | apply keeps_ite | apply keeps_ite2 | apply keeps_ite22 | (refine keeps_eq2 (by with_reducible assumption) ?_) | (refine keeps_eq22 (by with_reducible assumption) ?_))
    | simp -zeta only [keeps_mk, keepsC_fold, id_eq] | (refine keepsC_le ?_ ?_ ?_) | omega | split | (clear_value *; split)

theorem keeps_scrubPoint (w : Twin) (c i : Nat) {s0 s : State} (hk : Keeps s0 s) : Keeps s0 (scrubPoint w c i s) := by
  unfold scrubPoint
  repeat' first
    | with_reducible assumption | decide | intro _
    | ((fail_if_no_progress extract_lets +onlyGivenNames x); refine keeps_cut (s0 := s0) (x := x) ?_ ?_; on_goal 1 => subst x)
    | (fail_if_no_progress extract_lets +onlyGivenNames x)
    | with_reducible (first | apply keeps_State_bump | apply keeps_State_raiseIf | apply keeps_State_raiseOnce | apply keeps_State_setHealth | apply keeps_writePoint | apply keeps_ite | apply keeps_ite2 | apply keeps_ite22 | (refine keeps_eq2 (by with_reducible assumption) ?_) | (refine keeps_eq22 (by with_reducible assumption) ?_))
    | simp -zeta only [keeps_mk, keepsC_fold, id_eq] | (refine keepsC_le ?_ ?_ ?_) | omega | split | (clear_value *; split)

theorem keeps_scrubPassed (w : Twin) {s0 s : State} (hk : Keeps s0 s) : Keeps s0 (scrubPassed w s) := by
  unfold scrubPassed
  repeat' first
    | with_reducible assumption | decide | intro _
    | ((fail_if_no_progress extract_lets +onlyGivenNames x); refine keeps_cut (s0 := s0) (x := x) ?_ ?_; on_goal 1 => subst x)
    | (fail_if_no_progress extract_lets +onlyGivenNames x)
    | with_reducible (first | apply keeps_State_setReg | apply keeps_ite | apply keeps_ite2 | apply keeps_ite22 | (refine keeps_eq2 (by with_reducible assumption) ?_) | (refine keeps_eq22 (by with_reducible assumption) ?_))
    | simp -zeta only [keeps_mk, keepsC_fold, id_eq] | (refine keepsC_le ?_ ?_ ?_) | omega | split | (clear_value *; split)

theorem keeps_execCurvScrub (t : Nat) (w : Twin) (bad : List Upset) {s0 s : State} (hk : Keeps s0 s) : KeepsO s0 (execCurvScrub t w bad s) := by
  unfold execCurvScrub
  repeat' first
    | with_reducible assumption | decide | intro _
    | ((fail_if_no_progress extract_lets +onlyGivenNames x); refine keeps_cut (s0 := s0) (x := x) ?_ ?_; on_goal 1 => subst x)
    | (fail_if_no_progress extract_lets +onlyGivenNames x)
    | with_reducible (first | apply keeps_State_beginAt | apply keeps_State_modCurves | apply keeps_upsetPoint | apply keeps_scrubPoint | apply keeps_scrubPassed | apply keepsO_next | apply keepsO_ite | apply keeps_ite | apply keeps_ite2 | apply keeps_ite22 | (refine keeps_eq2 (by with_reducible assumption) ?_) | (refine keeps_eq22 (by with_reducible assumption) ?_))
    | simp -zeta only [keeps_mk, keepsC_fold, id_eq] | (refine keepsC_le ?_ ?_ ?_) | omega | split | (clear_value *; split)

theorem keeps_execCurvParityRetry (t : Nat) (w : Twin) (slot : Fin 256) (pt : LaneRead) {s0 s : State} (hk : Keeps s0 s) : KeepsO s0 (execCurvParityRetry t w slot pt s) := by
  unfold execCurvParityRetry
  repeat' first
    | with_reducible assumption | decide | intro _
    | ((fail_if_no_progress extract_lets +onlyGivenNames x); refine keeps_cut (s0 := s0) (x := x) ?_ ?_; on_goal 1 => subst x)
    | (fail_if_no_progress extract_lets +onlyGivenNames x)
    | with_reducible (first | apply keeps_State_bump | apply keeps_State_beginAt | apply keeps_upsetPoint | apply keepsO_next | apply keepsO_ite | apply keeps_ite | apply keeps_ite2 | apply keeps_ite22 | (refine keeps_eq2 (by with_reducible assumption) ?_) | (refine keeps_eq22 (by with_reducible assumption) ?_))
    | simp -zeta only [keeps_mk, keepsC_fold, id_eq] | (refine keepsC_le ?_ ?_ ?_) | omega | split | (clear_value *; split)

/-! ### Machine/Colour.lean -/

theorem keeps_State_modMasters (w : Twin) (f : Masters → Masters) {s0 s : State} (hk : Keeps s0 s)  : Keeps s0 (State.modMasters s w f) := by
  unfold State.modMasters
  repeat' first
    | with_reducible assumption | intro _
    | ((fail_if_no_progress extract_lets +onlyGivenNames x); refine keeps_cut (s0 := s0) (x := x) ?_ ?_; on_goal 1 => subst x)
    | (fail_if_no_progress extract_lets +onlyGivenNames x) | with_reducible apply keeps_State_modTw
    | simp -zeta only [keeps_mk, keepsC_fold, id_eq]

theorem keeps_showPending (w : Twin) {s0 s : State} (hk : Keeps s0 s)  : Keeps s0 (showPending w s) := by
  unfold showPending
  repeat' first
    | with_reducible assumption | intro _
    | ((fail_if_no_progress extract_lets +onlyGivenNames x); refine keeps_cut (s0 := s0) (x := x) ?_ ?_; on_goal 1 => subst x)
    | (fail_if_no_progress extract_lets +onlyGivenNames x) | with_reducible apply keeps_State_sb

theorem keeps_mastersLate (w : Twin) (stamp : Nat) {s0 s : State} (hk : Keeps s0 s) : Keeps s0 (mastersLate w stamp s) := by
  unfold mastersLate
  repeat' first
    | with_reducible assumption | decide | intro _
    | ((fail_if_no_progress extract_lets +onlyGivenNames x); refine keeps_cut (s0 := s0) (x := x) ?_ ?_; on_goal 1 => subst x)
    | (fail_if_no_progress extract_lets +onlyGivenNames x)
    | with_reducible (first | apply keeps_State_setReg | apply keeps_State_sb | apply keeps_State_wr64 | apply keeps_State_raiseOnce | apply keeps_State_modLay | apply keeps_ite | apply keeps_ite2 | apply keeps_ite22 | (refine keeps_eq2 (by with_reducible assumption) ?_) | (refine keeps_eq22 (by with_reducible assumption) ?_))
    | simp -zeta only [keeps_mk, keepsC_fold, id_eq] | (refine keepsC_le ?_ ?_ ?_) | omega | split | (clear_value *; split)

theorem keeps_captureFirst (w : Twin) (c : Nat) {s0 s : State} (hk : Keeps s0 s) : Keeps s0 (captureFirst w c s) := by
  unfold captureFirst
  repeat' first
    | with_reducible assumption | decide | intro _
    | ((fail_if_no_progress extract_lets +onlyGivenNames x); refine keeps_cut (s0 := s0) (x := x) ?_ ?_; on_goal 1 => subst x)
    | (fail_if_no_progress extract_lets +onlyGivenNames x)
    | with_reducible (first | apply keeps_State_modTw | apply keeps_State_modCurves | apply keeps_ite | apply keeps_ite2 | apply keeps_ite22 | (refine keeps_eq2 (by with_reducible assumption) ?_) | (refine keeps_eq22 (by with_reducible assumption) ?_))
    | simp -zeta only [keeps_mk, keepsC_fold, id_eq] | (refine keepsC_le ?_ ?_ ?_) | omega | split | (clear_value *; split)

theorem keeps_commitMasters (v : Word) (w : Twin) {s0 x0 : State} (hk : Keeps s0 x0) : Keeps s0 (commitMasters v w x0) := by
  unfold commitMasters
  repeat' first
    | with_reducible assumption | decide | intro _
    | ((fail_if_no_progress extract_lets +onlyGivenNames x); refine keeps_cut (s0 := s0) (x := x) ?_ ?_; on_goal 1 => subst x)
    | (fail_if_no_progress extract_lets +onlyGivenNames x)
    | with_reducible (first | apply keeps_State_sb | apply keeps_State_raiseIf | apply keeps_watchSpare | apply keeps_State_modMasters | apply keeps_showPending | apply keeps_mastersLate | apply keeps_captureFirst | apply keeps_ite | apply keeps_ite2 | apply keeps_ite22 | (refine keeps_eq2 (by with_reducible assumption) ?_) | (refine keeps_eq22 (by with_reducible assumption) ?_))
    | simp -zeta only [keeps_mk, keepsC_fold, id_eq] | (refine keepsC_le ?_ ?_ ?_) | omega | split | (clear_value *; split)

theorem keeps_execColrCmt (t : Nat) (via : Via) (v : Word) {s0 s : State} (hk : Keeps s0 s)  : KeepsO s0 (execColrCmt t via v s) := by
  unfold execColrCmt
  repeat' first
    | with_reducible assumption | intro _
    | with_reducible (first | apply keeps_State_beginAt | apply keeps_State_deliver | apply keeps_commitMasters | apply keepsO_next | apply keepsO_ite)

theorem keeps_judgeEarlyMasters (w : Twin) {s0 s : State} (hk : Keeps s0 s) : Keeps s0 (judgeEarlyMasters w s) := by
  unfold judgeEarlyMasters
  repeat' first
    | with_reducible assumption | decide | intro _
    | ((fail_if_no_progress extract_lets +onlyGivenNames x); refine keeps_cut (s0 := s0) (x := x) ?_ ?_; on_goal 1 => subst x)
    | (fail_if_no_progress extract_lets +onlyGivenNames x)
    | with_reducible (first | apply keeps_watchSpare | apply keeps_State_modMasters | apply keeps_showPending | apply keeps_mastersLate | apply keeps_ite | apply keeps_ite2 | apply keeps_ite22 | apply keeps_foldl | apply keeps_foldl2 | (refine keeps_eq2 (by with_reducible assumption) ?_) | (refine keeps_eq22 (by with_reducible assumption) ?_))
    | simp -zeta only [keeps_mk, keepsC_fold, id_eq] | (refine keepsC_le ?_ ?_ ?_) | omega | split | (clear_value *; split)

theorem keeps_judgePlaced  {s0 s : State} (hk : Keeps s0 s) : Keeps s0 (judgePlaced s) := by
  unfold judgePlaced
  repeat' first
    | with_reducible assumption | decide | intro _
    | ((fail_if_no_progress extract_lets +onlyGivenNames x); refine keeps_cut (s0 := s0) (x := x) ?_ ?_; on_goal 1 => subst x)
    | (fail_if_no_progress extract_lets +onlyGivenNames x)
    | with_reducible (first | apply keeps_State_each | apply keeps_judgeEarly | apply keeps_judgeEarlyMasters | apply keeps_ite | apply keeps_ite2 | apply keeps_ite22 | (refine keeps_eq2 (by with_reducible assumption) ?_) | (refine keeps_eq22 (by with_reducible assumption) ?_))
    | simp -zeta only [keeps_mk, keepsC_fold, id_eq] | (refine keepsC_le ?_ ?_ ?_) | omega | split | (clear_value *; split)

theorem keeps_mastersTick (w : Twin) {s0 s : State} (hk : Keeps s0 s) : Keeps s0 (mastersTick w s) := by
  unfold mastersTick
  repeat' first
    | with_reducible assumption | decide | intro _
    | ((fail_if_no_progress extract_lets +onlyGivenNames x); refine keeps_cut (s0 := s0) (x := x) ?_ ?_; on_goal 1 => subst x)
    | (fail_if_no_progress extract_lets +onlyGivenNames x)
    | with_reducible (first | apply keeps_State_sf | apply keeps_watchSpare | apply keeps_State_modMasters | apply keeps_showPending | apply keeps_ite | apply keeps_ite2 | apply keeps_ite22 | (refine keeps_eq2 (by with_reducible assumption) ?_) | (refine keeps_eq22 (by with_reducible assumption) ?_))
    | simp -zeta only [keeps_mk, keepsC_fold, id_eq] | (refine keepsC_le ?_ ?_ ?_) | omega | split | (clear_value *; split)

theorem keeps_State_putZone (w : Twin) (z : Nat) (x : Zone) {s0 s : State} (hk : Keeps s0 s)  : Keeps s0 (State.putZone s w z x) := by
  unfold State.putZone
  repeat' first
    | with_reducible assumption | intro _
    | ((fail_if_no_progress extract_lets +onlyGivenNames x); refine keeps_cut (s0 := s0) (x := x) ?_ ?_; on_goal 1 => subst x)
    | (fail_if_no_progress extract_lets +onlyGivenNames x) | with_reducible (first | apply keeps_State_modTw | apply keeps_ite)
    | simp -zeta only [keeps_mk, keepsC_fold, id_eq] | split

theorem keeps_zonesTick (w : Twin) (due : List (Nat × List Nat)) (reports : List (Nat × Int)) {s0 s : State} (hk : Keeps s0 s) : Keeps s0 (zonesTick w due reports s) := by
  unfold zonesTick
  repeat' first
    | with_reducible assumption | decide | intro _
    | ((fail_if_no_progress extract_lets +onlyGivenNames x); refine keeps_cut (s0 := s0) (x := x) ?_ ?_; on_goal 1 => subst x)
    | (fail_if_no_progress extract_lets +onlyGivenNames x)
    | with_reducible (first | apply keeps_State_modTw | apply keeps_State_raiseIf | apply keeps_State_raiseOnce | apply keeps_ite | apply keeps_ite2 | apply keeps_ite22 | (refine keeps_eq2 (by with_reducible assumption) ?_) | (refine keeps_eq22 (by with_reducible assumption) ?_))
    | simp -zeta only [keeps_mk, keepsC_fold, id_eq] | (refine keepsC_le ?_ ?_ ?_) | omega | split | (clear_value *; split)

theorem keeps_forceZone (v : Word) (w : Twin) {s0 s : State} (hk : Keeps s0 s)  : Keeps s0 (forceZone v w s) := by
  unfold forceZone
  repeat' first
    | with_reducible assumption | intro _
    | ((fail_if_no_progress extract_lets +onlyGivenNames x); refine keeps_cut (s0 := s0) (x := x) ?_ ?_; on_goal 1 => subst x)
    | (fail_if_no_progress extract_lets +onlyGivenNames x) | with_reducible (first | apply keeps_State_modTw | apply keeps_ite)
    | simp -zeta only [keeps_mk, keepsC_fold, id_eq] | split

theorem keeps_execColrZoneForce (t : Nat) (via : Via) (v : Word) {s0 s : State} (hk : Keeps s0 s)  : KeepsO s0 (execColrZoneForce t via v s) := by
  unfold execColrZoneForce
  repeat' first
    | with_reducible assumption | intro _
    | with_reducible (first | apply keeps_State_beginAt | apply keeps_State_deliver | apply keeps_forceZone | apply keepsO_next | apply keepsO_ite)

theorem keeps_execZoneCold (w : Twin) (z : Fin 4096) {s0 s : State} (hk : Keeps s0 s) : KeepsO s0 (execZoneCold w z s) := by
  unfold execZoneCold
  repeat' first
    | with_reducible assumption | decide | intro _
    | ((fail_if_no_progress extract_lets +onlyGivenNames x); refine keeps_cut (s0 := s0) (x := x) ?_ ?_; on_goal 1 => subst x)
    | (fail_if_no_progress extract_lets +onlyGivenNames x)
    | with_reducible (first | apply keeps_State_fresh | apply keeps_State_begin | apply keeps_State_beginAt | apply keeps_State_raiseIf | apply keeps_State_putZone | apply keepsO_next | apply keepsO_ite | apply keeps_ite | apply keeps_ite2 | apply keeps_ite22 | (refine keeps_eq2 (by with_reducible assumption) ?_) | (refine keeps_eq22 (by with_reducible assumption) ?_))
    | simp -zeta only [keeps_mk, keepsC_fold, id_eq] | (refine keepsC_le ?_ ?_ ?_) | omega | split | (clear_value *; split)

theorem keeps_execZoneRampEnd (w : Twin) (z : Fin 4096) {s0 s : State} (hk : Keeps s0 s)  : KeepsO s0 (execZoneRampEnd w z s) := by
  unfold execZoneRampEnd
  repeat' first
    | with_reducible assumption | intro _
    | ((fail_if_no_progress extract_lets +onlyGivenNames x); refine keeps_cut (s0 := s0) (x := x) ?_ ?_; on_goal 1 => subst x)
    | (fail_if_no_progress extract_lets +onlyGivenNames x)
    | with_reducible (first | apply keeps_State_fresh | apply keeps_State_begin | apply keeps_State_beginAt | apply keeps_State_putZone | apply keepsO_next | apply keepsO_ite | apply keeps_ite)
    | simp -zeta only [keeps_mk, keepsC_fold, id_eq] | split

/-! ### Machine/Map.lean -/

theorem keeps_State_modHlth (w : Twin) (f : Health → Health) {s0 s : State} (hk : Keeps s0 s)  : Keeps s0 (State.modHlth s w f) := by
  unfold State.modHlth
  repeat' first
    | with_reducible assumption | intro _
    | ((fail_if_no_progress extract_lets +onlyGivenNames x); refine keeps_cut (s0 := s0) (x := x) ?_ ?_; on_goal 1 => subst x)
    | (fail_if_no_progress extract_lets +onlyGivenNames x) | with_reducible apply keeps_State_modTw
    | simp -zeta only [keeps_mk, keepsC_fold, id_eq]

theorem keeps_State_setChan (w : Twin) (fx c : Nat) (x : Channel) {s0 s : State} (hk : Keeps s0 s)  : Keeps s0 (State.setChan s w fx c x) := by
  unfold State.setChan
  repeat' first
    | with_reducible assumption | intro _
    | ((fail_if_no_progress extract_lets +onlyGivenNames x); refine keeps_cut (s0 := s0) (x := x) ?_ ?_; on_goal 1 => subst x)
    | (fail_if_no_progress extract_lets +onlyGivenNames x)
    | with_reducible (first | apply keeps_State_reset | apply keeps_State_modHlth) | simp -zeta only [keeps_mk, keepsC_fold, id_eq]

theorem keeps_State_setHealthEntry (w : Twin) (fx : Nat) (x : HealthEntry) {s0 s : State} (hk : Keeps s0 s)  : Keeps s0 (State.setHealthEntry s w fx x) := by
  unfold State.setHealthEntry
  repeat' first
    | with_reducible assumption | intro _
    | ((fail_if_no_progress extract_lets +onlyGivenNames x); refine keeps_cut (s0 := s0) (x := x) ?_ ?_; on_goal 1 => subst x)
    | (fail_if_no_progress extract_lets +onlyGivenNames x)
    | with_reducible (first | apply keeps_State_reset | apply keeps_State_modHlth) | simp -zeta only [keeps_mk, keepsC_fold, id_eq]

theorem keeps_blindChannels (w : Twin) (lits : List Lit) {s0 s : State} (hk : Keeps s0 s)  : Keeps s0 (blindChannels w lits s) := by
  unfold blindChannels
  repeat' first
    | with_reducible assumption | intro _
    | ((fail_if_no_progress extract_lets +onlyGivenNames x); refine keeps_cut (s0 := s0) (x := x) ?_ ?_; on_goal 1 => subst x)
    | (fail_if_no_progress extract_lets +onlyGivenNames x)
    | with_reducible (first | apply keeps_State_bump | apply keeps_State_raiseOnce | apply keeps_State_setChan | apply keeps_State_setHealthEntry | apply keeps_ite | apply keeps_foldl)
    | simp -zeta only [keeps_mk, keepsC_fold, id_eq] | split

theorem keeps_buildSlice (w : Twin) (f : FrameAcct) (key : Nat) {s0 s : State} (hk : Keeps s0 s) : Keeps s0 (buildSlice w f key s).2 := by
  unfold buildSlice
  repeat' first
    | with_reducible assumption | decide | intro _
    | ((fail_if_no_progress extract_lets +onlyGivenNames x); refine keeps_cut (s0 := s0) (x := x) ?_ ?_; on_goal 1 => subst x)
    | (fail_if_no_progress extract_lets +onlyGivenNames x)
    | with_reducible (first | apply keeps_State_bump | apply keeps_blindChannels | apply keeps_ite | apply keeps_ite2 | apply keeps_ite22 | apply keeps_foldl | apply keeps_foldl2 | (refine keeps_eq2 (by with_reducible assumption) ?_) | (refine keeps_eq22 (by with_reducible assumption) ?_))
    | simp -zeta only [keeps_mk, keepsC_fold, id_eq] | (refine keepsC_le ?_ ?_ ?_) | omega | split | (clear_value *; split)

theorem keeps_execSliceReady (t : Nat) (w : Twin) (key : SliceKey) {s0 s : State} (hk : Keeps s0 s)  : KeepsO s0 (execSliceReady t w key s) := by
  unfold execSliceReady
  repeat' first
    | with_reducible assumption | intro _
    | ((fail_if_no_progress extract_lets +onlyGivenNames x); refine keeps_cut (s0 := s0) (x := x) ?_ ?_; on_goal 1 => subst x)
    | (fail_if_no_progress extract_lets +onlyGivenNames x)
    | with_reducible (first | apply keeps_State_beginAt | apply keeps_State_modFrame | apply keeps_buildSlice | apply keepsO_next | apply keepsO_ite | apply keeps_ite | apply keeps_ite2 | (refine keeps_eq2 (by with_reducible assumption) ?_) | (refine keeps_eq22 (by with_reducible assumption) ?_))
    | simp -zeta only [keeps_mk, keepsC_fold, id_eq] | split

theorem keeps_execPatchDone (t : Nat) (w : Twin) {s0 s : State} (hk : Keeps s0 s)  : KeepsO s0 (execPatchDone t w s) := by
  unfold execPatchDone
  repeat' first
    | with_reducible assumption | intro _
    | ((fail_if_no_progress extract_lets +onlyGivenNames x); refine keeps_cut (s0 := s0) (x := x) ?_ ?_; on_goal 1 => subst x)
    | (fail_if_no_progress extract_lets +onlyGivenNames x)
    | with_reducible (first | apply keeps_State_beginAt | apply keeps_State_modFrame | apply keepsO_next | apply keepsO_ite | apply keeps_ite)
    | simp -zeta only [keeps_mk, keepsC_fold, id_eq] | split

/-! ### Machine/Frame.lean -/

theorem keeps_State_setStrand (w : Twin) (p : Nat) (x : Strand) {s0 s : State} (hk : Keeps s0 s)  : Keeps s0 (State.setStrand s w p x) := by
  unfold State.setStrand
  repeat' first
    | with_reducible assumption | intro _
    | ((fail_if_no_progress extract_lets +onlyGivenNames x); refine keeps_cut (s0 := s0) (x := x) ?_ ?_; on_goal 1 => subst x)
    | (fail_if_no_progress extract_lets +onlyGivenNames x)
    | with_reducible (first | apply keeps_State_reset | apply keeps_State_modTw) | simp -zeta only [keeps_mk, keepsC_fold, id_eq]

theorem keeps_setEmitted (w : Twin) (key : Nat) (b : List Byte) {s0 s : State} (hk : Keeps s0 s)  : Keeps s0 (setEmitted w key b s) := by
  unfold setEmitted
  repeat' first
    | with_reducible assumption | intro _
    | ((fail_if_no_progress extract_lets +onlyGivenNames x); refine keeps_cut (s0 := s0) (x := x) ?_ ?_; on_goal 1 => subst x)
    | (fail_if_no_progress extract_lets +onlyGivenNames x) | with_reducible apply keeps_State_modTw
    | simp -zeta only [keeps_mk, keepsC_fold, id_eq]

theorem keeps_raiseComp (w : Twin) (k at_ : Nat) {s0 s : State} (hk : Keeps s0 s)  : Keeps s0 (raiseComp w k at_ s) := by
  unfold raiseComp
  repeat' first
    | with_reducible assumption | intro _
    | ((fail_if_no_progress extract_lets +onlyGivenNames x); refine keeps_cut (s0 := s0) (x := x) ?_ ?_; on_goal 1 => subst x)
    | (fail_if_no_progress extract_lets +onlyGivenNames x)
    | with_reducible (first | apply keeps_State_raiseTwinAt | apply keeps_State_modFrame | apply keeps_ite)
    | simp -zeta only [keeps_mk, keepsC_fold, id_eq] | split

theorem keeps_raiseEmit (w : Twin) (k at_ : Nat) {s0 s : State} (hk : Keeps s0 s) : Keeps s0 (raiseEmit w k at_ s) := by
  unfold raiseEmit
  repeat' first
    | with_reducible assumption | decide | intro _
    | ((fail_if_no_progress extract_lets +onlyGivenNames x); refine keeps_cut (s0 := s0) (x := x) ?_ ?_; on_goal 1 => subst x)
    | (fail_if_no_progress extract_lets +onlyGivenNames x)
    | with_reducible (first | apply keeps_State_raiseTwinAt | apply keeps_State_modFrame | apply keeps_ite | apply keeps_ite2 | apply keeps_ite22 | (refine keeps_eq2 (by with_reducible assumption) ?_) | (refine keeps_eq22 (by with_reducible assumption) ?_))
    | simp -zeta only [keeps_mk, keepsC_fold, id_eq] | (refine keepsC_le ?_ ?_ ?_) | omega | split | (clear_value *; split)

theorem keeps_markStale (w : Twin) (k key at_ : Nat) {s0 s : State} (hk : Keeps s0 s)  : Keeps s0 (markStale w k key at_ s) := by
  unfold markStale
  repeat' first
    | with_reducible assumption | intro _
    | ((fail_if_no_progress extract_lets +onlyGivenNames x); refine keeps_cut (s0 := s0) (x := x) ?_ ?_; on_goal 1 => subst x)
    | (fail_if_no_progress extract_lets +onlyGivenNames x)
    | with_reducible (first | apply keeps_State_raiseTwinAt | apply keeps_State_modFrame | apply keeps_ite)
    | simp -zeta only [keeps_mk, keepsC_fold, id_eq] | split

theorem keeps_markSlice (w : Twin) (k key at_ : Nat) {s0 s : State} (hk : Keeps s0 s) : Keeps s0 (markSlice w k key at_ s) := by
  unfold markSlice
  repeat' first
    | with_reducible assumption | decide | intro _
    | ((fail_if_no_progress extract_lets +onlyGivenNames x); refine keeps_cut (s0 := s0) (x := x) ?_ ?_; on_goal 1 => subst x)
    | (fail_if_no_progress extract_lets +onlyGivenNames x)
    | with_reducible (first | apply keeps_markStale | apply keeps_ite | apply keeps_ite2 | apply keeps_ite22 | (refine keeps_eq2 (by with_reducible assumption) ?_) | (refine keeps_eq22 (by with_reducible assumption) ?_))
    | simp -zeta only [keeps_mk, keepsC_fold, id_eq] | (refine keepsC_le ?_ ?_ ?_) | omega | split | (clear_value *; split)

theorem keeps_settleKey (w : Twin) (k key : Nat) (changed : Bool) {s0 s : State} (hk : Keeps s0 s) : Keeps s0 (settleKey w k key changed s) := by
  unfold settleKey
  repeat' first
    | with_reducible assumption | decide | intro _
    | ((fail_if_no_progress extract_lets +onlyGivenNames x); refine keeps_cut (s0 := s0) (x := x) ?_ ?_; on_goal 1 => subst x)
    | (fail_if_no_progress extract_lets +onlyGivenNames x)
    | with_reducible (first | apply keeps_State_modFrame | apply keeps_ite | apply keeps_ite2 | apply keeps_ite22 | (refine keeps_eq2 (by with_reducible assumption) ?_) | (refine keeps_eq22 (by with_reducible assumption) ?_))
    | simp -zeta only [keeps_mk, keepsC_fold, id_eq] | (refine keepsC_le ?_ ?_ ?_) | omega | split | (clear_value *; split)

theorem keeps_recordEmission (w : Twin) (x : Slice) {s0 s : State} (hk : Keeps s0 s) : Keeps s0 (recordEmission w x s) := by
  unfold recordEmission
  repeat' first
    | with_reducible assumption | decide | intro _
    | ((fail_if_no_progress extract_lets +onlyGivenNames x); refine keeps_cut (s0 := s0) (x := x) ?_ ?_; on_goal 1 => subst x)
    | (fail_if_no_progress extract_lets +onlyGivenNames x)
    | with_reducible (first | apply keeps_State_setReg | apply keeps_State_bump | apply keeps_State_modTw | apply keeps_State_modHlth | apply keeps_setEmitted | apply keeps_ite | apply keeps_ite2 | apply keeps_ite22 | apply keeps_foldl | apply keeps_foldl2 | (refine keeps_eq2 (by with_reducible assumption) ?_) | (refine keeps_eq22 (by with_reducible assumption) ?_))
    | simp -zeta only [keeps_mk, keepsC_fold, id_eq] | (refine keepsC_le ?_ ?_ ?_) | omega | split | (clear_value *; split)

theorem keeps_markSlip (w : Twin) (k p : Nat) {s0 s : State} (hk : Keeps s0 s)  : Keeps s0 (markSlip w k p s) := by
  unfold markSlip
  repeat' first
    | with_reducible assumption | intro _
    | ((fail_if_no_progress extract_lets +onlyGivenNames x); refine keeps_cut (s0 := s0) (x := x) ?_ ?_; on_goal 1 => subst x)
    | (fail_if_no_progress extract_lets +onlyGivenNames x) | with_reducible (first | apply keeps_State_modFrame | apply keeps_ite)
    | simp -zeta only [keeps_mk, keepsC_fold, id_eq] | split

theorem keeps_closeFrame (at_ : Nat) (w : Twin) (f : FrameAcct) {s0 s : State} (hk : Keeps s0 s) : Keeps s0 (closeFrame at_ w f s) := by
  unfold closeFrame
  repeat' first
    | with_reducible assumption | decide | intro _
    | ((fail_if_no_progress extract_lets +onlyGivenNames x); refine keeps_cut (s0 := s0) (x := x) ?_ ?_; on_goal 1 => subst x)
    | (fail_if_no_progress extract_lets +onlyGivenNames x)
    | with_reducible (first | apply keeps_State_modFrame | apply keeps_raiseComp | apply keeps_markStale | apply keeps_markSlice | apply keeps_ite | apply keeps_ite2 | apply keeps_ite22 | apply keeps_foldl | apply keeps_foldl2 | (refine keeps_eq2 (by with_reducible assumption) ?_) | (refine keeps_eq22 (by with_reducible assumption) ?_))
    | simp -zeta only [keeps_mk, keepsC_fold, id_eq] | (refine keepsC_le ?_ ?_ ?_) | omega | split | (clear_value *; split)

theorem keeps_lagging (f : FrameAcct) {s0 s : State} (hk : Keeps s0 s) : Keeps s0 (lagging f s) := by
  unfold lagging
  repeat' first
    | with_reducible assumption | decide | intro _
    | ((fail_if_no_progress extract_lets +onlyGivenNames x); refine keeps_cut (s0 := s0) (x := x) ?_ ?_; on_goal 1 => subst x)
    | (fail_if_no_progress extract_lets +onlyGivenNames x)
    | with_reducible (first | apply keeps_State_setHealth | apply keeps_ite | apply keeps_ite2 | apply keeps_ite22 | (refine keeps_eq2 (by with_reducible assumption) ?_) | (refine keeps_eq22 (by with_reducible assumption) ?_))
    | simp -zeta only [keeps_mk, keepsC_fold, id_eq] | (refine keepsC_le ?_ ?_ ?_) | omega | split | (clear_value *; split)

theorem keeps_computeDeadline  {s0 s : State} (hk : Keeps s0 s)  : Keeps s0 (computeDeadline s) := by
  unfold computeDeadline
  repeat' first
    | with_reducible assumption | intro _
    | ((fail_if_no_progress extract_lets +onlyGivenNames x); refine keeps_cut (s0 := s0) (x := x) ?_ ?_; on_goal 1 => subst x)
    | (fail_if_no_progress extract_lets +onlyGivenNames x)
    | with_reducible (first | apply keeps_State_each | apply keeps_State_at | apply keeps_sorusAbort | apply keeps_State_modFrame | apply keeps_raiseComp | apply keeps_closeFrame | apply keeps_lagging | apply keeps_ite | apply keeps_ite2 | (refine keeps_eq2 (by with_reducible assumption) ?_) | (refine keeps_eq22 (by with_reducible assumption) ?_))
    | simp -zeta only [keeps_mk, keepsC_fold, id_eq] | split

theorem keeps_execComputeDeadline  {s0 s : State} (hk : Keeps s0 s)  : KeepsO s0 (execComputeDeadline s) := by
  unfold execComputeDeadline
  repeat' first
    | with_reducible assumption | intro _
    | with_reducible (first | apply keeps_State_begin | apply keeps_computeDeadline | apply keepsO_next | apply keepsO_ite)

/-! ### Machine/Proren.lean -/

theorem keeps_sendPkt (w : Twin) (p at_ : Nat) (b : List Byte) {s0 s : State} (hk : Keeps s0 s) : Keeps s0 (sendPkt w p at_ b s) := by
  unfold sendPkt
  repeat' first
    | with_reducible assumption | decide | intro _
    | ((fail_if_no_progress extract_lets +onlyGivenNames x); refine keeps_cut (s0 := s0) (x := x) ?_ ?_; on_goal 1 => subst x)
    | (fail_if_no_progress extract_lets +onlyGivenNames x)
    | with_reducible (first | apply keeps_State_emitPkt | apply keeps_ite | apply keeps_ite2 | apply keeps_ite22 | (refine keeps_eq2 (by with_reducible assumption) ?_) | (refine keeps_eq22 (by with_reducible assumption) ?_))
    | simp -zeta only [keeps_mk, keepsC_fold, id_eq] | (refine keepsC_le ?_ ?_ ?_) | omega | split | (clear_value *; split)

theorem keeps_sendPkts (w : Twin) (p at_ : Nat) (l : List (List Byte)) {s0 s : State} (h : Keeps s0 s) : Keeps s0 (sendPkts w p at_ l s).2 := by
  induction l generalizing s at_ with
  | nil => exact h
  | cons b l ih => exact ih _ (keeps_sendPkt _ _ _ _ h)

theorem keeps_showStatic (w : Twin) (p : Nat) {s0 s : State} (hk : Keeps s0 s)  : Keeps s0 (showStatic w p s) := by
  unfold showStatic
  repeat' first
    | with_reducible assumption | intro _
    | ((fail_if_no_progress extract_lets +onlyGivenNames x); refine keeps_cut (s0 := s0) (x := x) ?_ ?_; on_goal 1 => subst x)
    | (fail_if_no_progress extract_lets +onlyGivenNames x) | with_reducible apply keeps_State_sf

theorem keeps_prnData (w : Twin) (f : FrameAcct) (p start window line : Nat) (full : Bool) (x : Slice) {s0 s : State} (hk : Keeps s0 s)  : Keeps s0 (prnData w f p start window line full x s) := by
  unfold prnData
  repeat' first
    | with_reducible assumption | intro _
    | ((fail_if_no_progress extract_lets +onlyGivenNames x); refine keeps_cut (s0 := s0) (x := x) ?_ ?_; on_goal 1 => subst x)
    | (fail_if_no_progress extract_lets +onlyGivenNames x)
    | with_reducible (first | apply keeps_State_sb | apply keeps_State_bump | apply keeps_State_modFrame | apply keeps_recordEmission | apply keeps_State_setStrand | apply keeps_sendPkts)
    | simp -zeta only [keeps_mk, keepsC_fold, id_eq]

theorem keeps_prnStatic (w : Twin) (f : FrameAcct) (p start stop : Nat) (x : Slice) {s0 s : State} (hk : Keeps s0 s)  : Keeps s0 (prnStatic w f p start stop x s) := by
  unfold prnStatic
  repeat' first
    | with_reducible assumption | intro _
    | ((fail_if_no_progress extract_lets +onlyGivenNames x); refine keeps_cut (s0 := s0) (x := x) ?_ ?_; on_goal 1 => subst x)
    | (fail_if_no_progress extract_lets +onlyGivenNames x)
    | with_reducible (first | apply keeps_State_sb | apply keeps_State_bump | apply keeps_State_modFrame | apply keeps_recordEmission | apply keeps_State_setStrand | apply keeps_sendPkts)
    | simp -zeta only [keeps_mk, keepsC_fold, id_eq]

theorem keeps_prnStale (w : Twin) (f : FrameAcct) (p start : Nat) {s0 s : State} (hk : Keeps s0 s) : Keeps s0 (prnStale w f p start s) := by
  unfold prnStale
  repeat' first
    | with_reducible assumption | decide | intro _
    | ((fail_if_no_progress extract_lets +onlyGivenNames x); refine keeps_cut (s0 := s0) (x := x) ?_ ?_; on_goal 1 => subst x)
    | (fail_if_no_progress extract_lets +onlyGivenNames x)
    | with_reducible (first | apply keeps_State_sb | apply keeps_State_setStrand | apply keeps_markStale | apply keeps_sendPkt | apply keeps_ite | apply keeps_ite2 | apply keeps_ite22 | (refine keeps_eq2 (by with_reducible assumption) ?_) | (refine keeps_eq22 (by with_reducible assumption) ?_))
    | simp -zeta only [keeps_mk, keepsC_fold, id_eq] | (refine keepsC_le ?_ ?_ ?_) | omega | split | (clear_value *; split)

theorem keeps_staleOrHold (w : Twin) (f : FrameAcct) (p : Nat) (stale : State → State) {s0 s : State} (hk : Keeps s0 s) (hf_stale : ∀  x, Keeps s0 x → Keeps s0 (stale  x)) : Keeps s0 (staleOrHold w f p stale s) := by
  unfold staleOrHold
  repeat' first
    | with_reducible assumption | decide | intro _
    | ((fail_if_no_progress extract_lets +onlyGivenNames x); refine keeps_cut (s0 := s0) (x := x) ?_ ?_; on_goal 1 => subst x)
    | (fail_if_no_progress extract_lets +onlyGivenNames x)
    | with_reducible (first | apply hf_stale | apply keeps_State_modFrame | apply keeps_ite | apply keeps_ite2 | apply keeps_ite22 | (refine keeps_eq2 (by with_reducible assumption) ?_) | (refine keeps_eq22 (by with_reducible assumption) ?_))
    | simp -zeta only [keeps_mk, keepsC_fold, id_eq] | (refine keepsC_le ?_ ?_ ?_) | omega | split | (clear_value *; split)

theorem keeps_prnConfig (w : Twin) (f : FrameAcct) (p start budget : Nat) {s0 s : State} (hk : Keeps s0 s) : Keeps s0 (prnConfig w f p start budget s) := by
  unfold prnConfig
  repeat' first
    | with_reducible assumption | decide | intro _
    | ((fail_if_no_progress extract_lets +onlyGivenNames x); refine keeps_cut (s0 := s0) (x := x) ?_ ?_; on_goal 1 => subst x)
    | (fail_if_no_progress extract_lets +onlyGivenNames x)
    | with_reducible (first | apply keeps_State_sb | apply keeps_State_bump | apply keeps_State_setStrand | apply keeps_markStale | apply keeps_sendPkts | apply keeps_staleOrHold | apply keeps_ite | apply keeps_ite2 | apply keeps_ite22 | (refine keeps_eq2 (by with_reducible assumption) ?_) | (refine keeps_eq22 (by with_reducible assumption) ?_))
    | simp -zeta only [keeps_mk, keepsC_fold, id_eq] | (refine keepsC_le ?_ ?_ ?_) | omega | split | (clear_value *; split)

theorem keeps_prnEmit (w : Twin) (f : FrameAcct) (p start stop : Nat) {s0 s : State} (hk : Keeps s0 s) : Keeps s0 (prnEmit w f p start stop s) := by
  unfold prnEmit
  repeat' first
    | with_reducible assumption | decide | intro _
    | ((fail_if_no_progress extract_lets +onlyGivenNames x); refine keeps_cut (s0 := s0) (x := x) ?_ ?_; on_goal 1 => subst x)
    | (fail_if_no_progress extract_lets +onlyGivenNames x)
    | with_reducible (first | apply keeps_State_setStrand | apply keeps_raiseEmit | apply keeps_settleKey | apply keeps_showStatic | apply keeps_prnData | apply keeps_prnStatic | apply keeps_prnStale | apply keeps_staleOrHold | apply keeps_prnConfig | apply keeps_ite | apply keeps_ite2 | apply keeps_ite22 | (refine keeps_eq2 (by with_reducible assumption) ?_) | (refine keeps_eq22 (by with_reducible assumption) ?_))
    | simp -zeta only [keeps_mk, keepsC_fold, id_eq] | (refine keepsC_le ?_ ?_ ?_) | omega | split | (clear_value *; split)

theorem keeps_prnLatch (w : Twin) (f : FrameAcct) (p at_ : Nat) {s0 s : State} (hk : Keeps s0 s) : Keeps s0 (prnLatch w f p at_ s) := by
  unfold prnLatch
  repeat' first
    | with_reducible assumption | decide | intro _
    | ((fail_if_no_progress extract_lets +onlyGivenNames x); refine keeps_cut (s0 := s0) (x := x) ?_ ?_; on_goal 1 => subst x)
    | (fail_if_no_progress extract_lets +onlyGivenNames x)
    | with_reducible (first | apply keeps_sendPkt | apply keeps_ite | apply keeps_ite2 | apply keeps_ite22 | (refine keeps_eq2 (by with_reducible assumption) ?_) | (refine keeps_eq22 (by with_reducible assumption) ?_))
    | simp -zeta only [keeps_mk, keepsC_fold, id_eq] | (refine keepsC_le ?_ ?_ ?_) | omega | split | (clear_value *; split)

theorem keeps_refreshCfg (w : Twin) (p k at_ : Nat) {s0 s : State} (hk : Keeps s0 s)  : Keeps s0 (refreshCfg w p k at_ s) := by
  unfold refreshCfg
  repeat' first
    | with_reducible assumption | intro _
    | ((fail_if_no_progress extract_lets +onlyGivenNames x); refine keeps_cut (s0 := s0) (x := x) ?_ ?_; on_goal 1 => subst x)
    | (fail_if_no_progress extract_lets +onlyGivenNames x)
    | with_reducible (first | apply keeps_State_bump | apply keeps_State_setStrand | apply keeps_sendPkts | apply keeps_ite)
    | simp -zeta only [keeps_mk, keepsC_fold, id_eq] | split

theorem keeps_prnPoll (w : Twin) (p k at_ : Nat) {s0 s : State} (hk : Keeps s0 s)  : Keeps s0 (prnPoll w p k at_ s) := by
  unfold prnPoll
  repeat' first
    | with_reducible assumption | intro _
    | ((fail_if_no_progress extract_lets +onlyGivenNames x); refine keeps_cut (s0 := s0) (x := x) ?_ ?_; on_goal 1 => subst x)
    | (fail_if_no_progress extract_lets +onlyGivenNames x)
    | with_reducible (first | apply keeps_State_sf | apply keeps_State_setStrand | apply keeps_sendPkt | apply keeps_refreshCfg | apply keeps_ite)
    | simp -zeta only [keeps_mk, keepsC_fold, id_eq] | split

theorem keeps_delaysTick (w : Twin) (p : Nat) {s0 s : State} (hk : Keeps s0 s)  : Keeps s0 (delaysTick w p s) := by
  unfold delaysTick
  repeat' first
    | with_reducible assumption | intro _
    | ((fail_if_no_progress extract_lets +onlyGivenNames x); refine keeps_cut (s0 := s0) (x := x) ?_ ?_; on_goal 1 => subst x)
    | (fail_if_no_progress extract_lets +onlyGivenNames x)
    | with_reducible (first | apply keeps_State_sf | apply keeps_State_setStrand | apply keeps_foldl)
    | simp -zeta only [keeps_mk, keepsC_fold, id_eq]

theorem keeps_State_eachUp (f : Twin → State → State) {s0 s : State} (hk : Keeps s0 s) (h_f : ∀ (y0 : Twin) (y1 : State), Keeps s0 y1 → Keeps s0 (f y0 y1)) : Keeps s0 (State.eachUp s f) := by
  unfold State.eachUp
  repeat' first
    | with_reducible assumption | intro _ | with_reducible (first | apply h_f | apply keeps_State_each)

theorem keeps_slotFails (w : Twin) (p addr : Nat) {s0 s : State} (hk : Keeps s0 s)  : Keeps s0 (slotFails w p addr s) := by
  unfold slotFails
  repeat' first
    | with_reducible assumption | intro _
    | ((fail_if_no_progress extract_lets +onlyGivenNames x); refine keeps_cut (s0 := s0) (x := x) ?_ ?_; on_goal 1 => subst x)
    | (fail_if_no_progress extract_lets +onlyGivenNames x)
    | with_reducible (first | apply keeps_State_sf | apply keeps_State_bump | apply keeps_State_raiseOncePer | apply keeps_State_setStrand | apply keeps_ite)
    | simp -zeta only [keeps_mk, keepsC_fold, id_eq] | split

theorem keeps_upDiscard (w : Twin) (p : Nat) {s0 s : State} (hk : Keeps s0 s)  : Keeps s0 (upDiscard w p s) := by
  unfold upDiscard
  repeat' first
    | with_reducible assumption | intro _
    | ((fail_if_no_progress extract_lets +onlyGivenNames x); refine keeps_cut (s0 := s0) (x := x) ?_ ?_; on_goal 1 => subst x)
    | (fail_if_no_progress extract_lets +onlyGivenNames x)
    | with_reducible (first | apply keeps_State_bump | apply keeps_State_raiseOncePer | apply keeps_ite) | split

theorem keeps_takeStatus (w : Twin) (p addr : Nat) (e : Int) (b : List Byte) {s0 s : State} (hk : Keeps s0 s) : Keeps s0 (takeStatus w p addr e b s) := by
  unfold takeStatus
  repeat' first
    | with_reducible assumption | decide | intro _
    | ((fail_if_no_progress extract_lets +onlyGivenNames x); refine keeps_cut (s0 := s0) (x := x) ?_ ?_; on_goal 1 => subst x)
    | (fail_if_no_progress extract_lets +onlyGivenNames x)
    | with_reducible (first | apply keeps_State_bump | apply keeps_State_modHlth | apply keeps_State_setStrand | apply keeps_ite | apply keeps_ite2 | apply keeps_ite22 | (refine keeps_eq2 (by with_reducible assumption) ?_) | (refine keeps_eq22 (by with_reducible assumption) ?_))
    | simp -zeta only [keeps_mk, keepsC_fold, id_eq] | (refine keepsC_le ?_ ?_ ?_) | omega | split | (clear_value *; split)

theorem keeps_execPrnStatus (t : Nat) (p : Fin 128) (slot : Nat) (bytes : List Byte) {s0 s : State} (hk : Keeps s0 s)  : KeepsO s0 (execPrnStatus t p slot bytes s) := by
  unfold execPrnStatus
  repeat' first
    | with_reducible assumption | intro _
    | ((fail_if_no_progress extract_lets +onlyGivenNames x); refine keeps_cut (s0 := s0) (x := x) ?_ ?_; on_goal 1 => subst x)
    | (fail_if_no_progress extract_lets +onlyGivenNames x)
    | with_reducible (first | apply keeps_State_beginAt | apply keeps_State_eachUp | apply keeps_slotFails | apply keeps_upDiscard | apply keeps_takeStatus | apply keepsO_next | apply keepsO_ite | apply keeps_ite)
    | simp -zeta only [keeps_mk, keepsC_fold, id_eq] | split

theorem keeps_execPrnSlotMiss (t : Nat) (p : Fin 128) (slot : Nat) {s0 s : State} (hk : Keeps s0 s)  : KeepsO s0 (execPrnSlotMiss t p slot s) := by
  unfold execPrnSlotMiss
  repeat' first
    | with_reducible assumption | intro _
    | ((fail_if_no_progress extract_lets +onlyGivenNames x); refine keeps_cut (s0 := s0) (x := x) ?_ ?_; on_goal 1 => subst x)
    | (fail_if_no_progress extract_lets +onlyGivenNames x)
    | with_reducible (first | apply keeps_State_beginAt | apply keeps_State_eachUp | apply keeps_slotFails | apply keepsO_next | apply keepsO_ite)
    | simp -zeta only [keeps_mk, keepsC_fold, id_eq] | split

theorem keeps_execPrnUpErr (t : Nat) (p : Fin 128) {s0 s : State} (hk : Keeps s0 s)  : KeepsO s0 (execPrnUpErr t p s) := by
  unfold execPrnUpErr
  repeat' first
    | with_reducible assumption | intro _
    | ((fail_if_no_progress extract_lets +onlyGivenNames x); refine keeps_cut (s0 := s0) (x := x) ?_ ?_; on_goal 1 => subst x)
    | (fail_if_no_progress extract_lets +onlyGivenNames x)
    | with_reducible (first | apply keeps_State_beginAt | apply keeps_State_eachUp | apply keeps_upDiscard | apply keepsO_next | apply keepsO_ite | apply keeps_ite)
    | split

theorem keeps_requestEnum (p : Nat) (w : Twin) {s0 s : State} (hk : Keeps s0 s)  : Keeps s0 (requestEnum p w s) := by
  unfold requestEnum
  repeat' first
    | with_reducible assumption | intro _
    | ((fail_if_no_progress extract_lets +onlyGivenNames x); refine keeps_cut (s0 := s0) (x := x) ?_ ?_; on_goal 1 => subst x)
    | (fail_if_no_progress extract_lets +onlyGivenNames x) | with_reducible (first | apply keeps_State_setStrand | apply keeps_ite)
    | simp -zeta only [keeps_mk, keepsC_fold, id_eq] | split

theorem keeps_execStrdEnum (t : Nat) (via : Via) (p : Fin 128) {s0 s : State} (hk : Keeps s0 s)  : KeepsO s0 (execStrdEnum t via p s) := by
  unfold execStrdEnum
  repeat' first
    | with_reducible assumption | intro _
    | with_reducible (first | apply keeps_State_beginAt | apply keeps_State_deliver | apply keeps_requestEnum | apply keepsO_next | apply keepsO_ite)

theorem keeps_forceFull (p : Nat) (w : Twin) {s0 s : State} (hk : Keeps s0 s)  : Keeps s0 (forceFull p w s) := by
  unfold forceFull
  repeat' first
    | with_reducible assumption | intro _
    | ((fail_if_no_progress extract_lets +onlyGivenNames x); refine keeps_cut (s0 := s0) (x := x) ?_ ?_; on_goal 1 => subst x)
    | (fail_if_no_progress extract_lets +onlyGivenNames x) | with_reducible apply keeps_ite
    | simp -zeta only [keeps_mk, keepsC_fold, id_eq] | split

theorem keeps_execStrdFull (t : Nat) (via : Via) (p : Fin 128) {s0 s : State} (hk : Keeps s0 s)  : KeepsO s0 (execStrdFull t via p s) := by
  unfold execStrdFull
  repeat' first
    | with_reducible assumption | intro _
    | with_reducible (first | apply keeps_State_beginAt | apply keeps_State_deliver | apply keeps_forceFull | apply keepsO_next | apply keepsO_ite)

theorem keeps_setPrnState (w : Twin) (p st : Nat) {s0 s : State} (hk : Keeps s0 s)  : Keeps s0 (setPrnState w p st s) := by
  unfold setPrnState
  repeat' first
    | with_reducible assumption | intro _ | with_reducible apply keeps_State_sf

theorem keeps_setRun (w : Twin) (p : Nat) (r : EnumRun) {s0 s : State} (hk : Keeps s0 s)  : Keeps s0 (setRun w p r s) := by
  unfold setRun
  repeat' first
    | with_reducible assumption | intro _
    | ((fail_if_no_progress extract_lets +onlyGivenNames x); refine keeps_cut (s0 := s0) (x := x) ?_ ?_; on_goal 1 => subst x)
    | (fail_if_no_progress extract_lets +onlyGivenNames x) | with_reducible apply keeps_State_setStrand
    | simp -zeta only [keeps_mk, keepsC_fold, id_eq]

theorem keeps_enumFault (w : Twin) (p : Nat) {s0 s : State} (hk : Keeps s0 s)  : Keeps s0 (enumFault w p s) := by
  unfold enumFault
  repeat' first
    | with_reducible assumption | intro _
    | ((fail_if_no_progress extract_lets +onlyGivenNames x); refine keeps_cut (s0 := s0) (x := x) ?_ ?_; on_goal 1 => subst x)
    | (fail_if_no_progress extract_lets +onlyGivenNames x)
    | with_reducible (first | apply keeps_State_sb | apply keeps_State_raiseIf | apply keeps_setRun | apply keeps_ite)
    | simp -zeta only [keeps_mk, keepsC_fold, id_eq] | split

theorem keeps_startEnum (w : Twin) (p : Nat) {s0 s : State} (hk : Keeps s0 s) : Keeps s0 (startEnum w p s) := by
  unfold startEnum
  repeat' first
    | with_reducible assumption | decide | intro _
    | ((fail_if_no_progress extract_lets +onlyGivenNames x); refine keeps_cut (s0 := s0) (x := x) ?_ ?_; on_goal 1 => subst x)
    | (fail_if_no_progress extract_lets +onlyGivenNames x)
    | with_reducible (first | apply keeps_State_sb | apply keeps_State_emitWake | apply keeps_State_setStrand | apply keeps_sendPkt | apply keeps_setPrnState | apply keeps_ite | apply keeps_ite2 | apply keeps_ite22 | (refine keeps_eq2 (by with_reducible assumption) ?_) | (refine keeps_eq22 (by with_reducible assumption) ?_))
    | simp -zeta only [keeps_mk, keepsC_fold, id_eq] | (refine keepsC_le ?_ ?_ ?_) | omega | split | (clear_value *; split)

theorem keeps_execPrnEnum (p : Fin 128) {s0 s : State} (hk : Keeps s0 s)  : KeepsO s0 (execPrnEnum p s) := by
  unfold execPrnEnum
  repeat' first
    | with_reducible assumption | intro _
    | ((fail_if_no_progress extract_lets +onlyGivenNames x); refine keeps_cut (s0 := s0) (x := x) ?_ ?_; on_goal 1 => subst x)
    | (fail_if_no_progress extract_lets +onlyGivenNames x)
    | with_reducible (first | apply keeps_State_begin | apply keeps_State_beginAt | apply keeps_State_eachUp | apply keeps_startEnum | apply keepsO_next | apply keepsO_ite | apply keeps_ite)
    | split

theorem keeps_nextEcho (w : Twin) (p at_ : Nat) (r : EnumRun) {s0 s : State} (hk : Keeps s0 s) : Keeps s0 (nextEcho w p at_ r s) := by
  unfold nextEcho
  repeat' first
    | with_reducible assumption | decide | intro _
    | ((fail_if_no_progress extract_lets +onlyGivenNames x); refine keeps_cut (s0 := s0) (x := x) ?_ ?_; on_goal 1 => subst x)
    | (fail_if_no_progress extract_lets +onlyGivenNames x)
    | with_reducible (first | apply keeps_State_bump | apply keeps_sendPkt | apply keeps_sendPkts | apply keeps_setPrnState | apply keeps_setRun | apply keeps_ite | apply keeps_ite2 | apply keeps_ite22 | (refine keeps_eq2 (by with_reducible assumption) ?_) | (refine keeps_eq22 (by with_reducible assumption) ?_))
    | simp -zeta only [keeps_mk, keepsC_fold, id_eq] | (refine keepsC_le ?_ ?_ ?_) | omega | split | (clear_value *; split)

theorem keeps_countEnd (w : Twin) (p : Nat) {s0 s : State} (hk : Keeps s0 s) : Keeps s0 (countEnd w p s) := by
  unfold countEnd
  repeat' first
    | with_reducible assumption | decide | intro _
    | ((fail_if_no_progress extract_lets +onlyGivenNames x); refine keeps_cut (s0 := s0) (x := x) ?_ ?_; on_goal 1 => subst x)
    | (fail_if_no_progress extract_lets +onlyGivenNames x)
    | with_reducible (first | apply keeps_State_at | apply keeps_sendPkts | apply keeps_setPrnState | apply keeps_setRun | apply keeps_enumFault | apply keeps_nextEcho | apply keeps_ite | apply keeps_ite2 | apply keeps_ite22 | (refine keeps_eq2 (by with_reducible assumption) ?_) | (refine keeps_eq22 (by with_reducible assumption) ?_))
    | simp -zeta only [keeps_mk, keepsC_fold, id_eq] | (refine keepsC_le ?_ ?_ ?_) | omega | split | (clear_value *; split)

theorem keeps_execEnumCountWaitEnd (p : Fin 128) {s0 s : State} (hk : Keeps s0 s)  : KeepsO s0 (execEnumCountWaitEnd p s) := by
  unfold execEnumCountWaitEnd
  repeat' first
    | with_reducible assumption | intro _
    | with_reducible (first | apply keeps_State_begin | apply keeps_State_eachUp | apply keeps_countEnd | apply keepsO_next | apply keepsO_ite)

theorem keeps_enumReply (w : Twin) (p : Nat) (b : List Byte) {s0 s : State} (hk : Keeps s0 s) : Keeps s0 (enumReply w p b s) := by
  unfold enumReply
  repeat' first
    | with_reducible assumption | decide | intro _
    | ((fail_if_no_progress extract_lets +onlyGivenNames x); refine keeps_cut (s0 := s0) (x := x) ?_ ?_; on_goal 1 => subst x)
    | (fail_if_no_progress extract_lets +onlyGivenNames x)
    | with_reducible (first | apply keeps_upDiscard | apply keeps_setRun | apply keeps_enumFault | apply keeps_nextEcho | apply keeps_ite | apply keeps_ite2 | apply keeps_ite22 | (refine keeps_eq2 (by with_reducible assumption) ?_) | (refine keeps_eq22 (by with_reducible assumption) ?_))
    | simp -zeta only [keeps_mk, keepsC_fold, id_eq] | (refine keepsC_le ?_ ?_ ?_) | omega | split | (clear_value *; split)

theorem keeps_execEnumReply (t : Nat) (p : Fin 128) (bytes : List Byte) {s0 s : State} (hk : Keeps s0 s)  : KeepsO s0 (execEnumReply t p bytes s) := by
  unfold execEnumReply
  repeat' first
    | with_reducible assumption | intro _
    | with_reducible (first | apply keeps_State_beginAt | apply keeps_State_eachUp | apply keeps_enumReply | apply keepsO_next | apply keepsO_ite)

theorem keeps_echoTimeout (w : Twin) (p : Nat) {s0 s : State} (hk : Keeps s0 s)  : Keeps s0 (echoTimeout w p s) := by
  unfold echoTimeout
  repeat' first
    | with_reducible assumption | intro _
    | ((fail_if_no_progress extract_lets +onlyGivenNames x); refine keeps_cut (s0 := s0) (x := x) ?_ ?_; on_goal 1 => subst x)
    | (fail_if_no_progress extract_lets +onlyGivenNames x)
    | with_reducible (first | apply keeps_State_at | apply keeps_setRun | apply keeps_enumFault | apply keeps_nextEcho | apply keeps_ite)
    | simp -zeta only [keeps_mk, keepsC_fold, id_eq] | split

theorem keeps_execEnumEchoTimeout (p : Fin 128) {s0 s : State} (hk : Keeps s0 s)  : KeepsO s0 (execEnumEchoTimeout p s) := by
  unfold execEnumEchoTimeout
  repeat' first
    | with_reducible assumption | intro _
    | with_reducible (first | apply keeps_State_begin | apply keeps_State_eachUp | apply keeps_echoTimeout | apply keepsO_next | apply keepsO_ite)

theorem keeps_enumDone (w : Twin) (p : Nat) {s0 s : State} (hk : Keeps s0 s) : Keeps s0 (enumDone w p s) := by
  unfold enumDone
  repeat' first
    | with_reducible assumption | decide | intro _
    | ((fail_if_no_progress extract_lets +onlyGivenNames x); refine keeps_cut (s0 := s0) (x := x) ?_ ?_; on_goal 1 => subst x)
    | (fail_if_no_progress extract_lets +onlyGivenNames x)
    | with_reducible (first | apply keeps_State_sf | apply keeps_State_sb | apply keeps_State_wr64 | apply keeps_State_raiseIf | apply keeps_State_setStrand | apply keeps_setPrnState | apply keeps_ite | apply keeps_ite2 | apply keeps_ite22 | (refine keeps_eq2 (by with_reducible assumption) ?_) | (refine keeps_eq22 (by with_reducible assumption) ?_))
    | simp -zeta only [keeps_mk, keepsC_fold, id_eq] | (refine keepsC_le ?_ ?_ ?_) | omega | split | (clear_value *; split)

theorem keeps_execPrnEnumDone (t : Nat) (p : Fin 128) {s0 s : State} (hk : Keeps s0 s)  : KeepsO s0 (execPrnEnumDone t p s) := by
  unfold execPrnEnumDone
  repeat' first
    | with_reducible assumption | intro _
    | with_reducible (first | apply keeps_State_beginAt | apply keeps_State_eachUp | apply keeps_enumDone | apply keepsO_next | apply keepsO_ite)

theorem keeps_execPrnUpLock (t : Nat) (p : Fin 128) {s0 s : State} (hk : Keeps s0 s)  : KeepsO s0 (execPrnUpLock t p s) := by
  unfold execPrnUpLock
  repeat' first
    | with_reducible assumption | intro _
    | ((fail_if_no_progress extract_lets +onlyGivenNames x); refine keeps_cut (s0 := s0) (x := x) ?_ ?_; on_goal 1 => subst x)
    | (fail_if_no_progress extract_lets +onlyGivenNames x)
    | with_reducible (first | apply keeps_State_sb | apply keeps_State_beginAt | apply keeps_State_setStrand | apply keeps_State_eachUp | apply keeps_startEnum | apply keepsO_next | apply keepsO_ite | apply keeps_ite | (refine keeps_eq2 (by with_reducible assumption) ?_) | (refine keeps_eq22 (by with_reducible assumption) ?_))
    | simp -zeta only [keeps_mk, keepsC_fold, id_eq] | split

theorem keeps_execPrnUpLockLoss (t : Nat) (p : Fin 128) {s0 s : State} (hk : Keeps s0 s)  : KeepsO s0 (execPrnUpLockLoss t p s) := by
  unfold execPrnUpLockLoss
  repeat' first
    | with_reducible assumption | intro _
    | ((fail_if_no_progress extract_lets +onlyGivenNames x); refine keeps_cut (s0 := s0) (x := x) ?_ ?_; on_goal 1 => subst x)
    | (fail_if_no_progress extract_lets +onlyGivenNames x)
    | with_reducible (first | apply keeps_State_sb | apply keeps_State_beginAt | apply keeps_State_setStrand | apply keeps_State_eachUp | apply keepsO_next | apply keepsO_ite | apply keeps_ite)
    | simp -zeta only [keeps_mk, keepsC_fold, id_eq] | split

theorem keeps_nodeWake (p : Nat) {s0 s : State} (hk : Keeps s0 s)  : Keeps s0 (nodeWake p s) := by
  unfold nodeWake
  repeat' first
    | with_reducible assumption | intro _
    | ((fail_if_no_progress extract_lets +onlyGivenNames x); refine keeps_cut (s0 := s0) (x := x) ?_ ?_; on_goal 1 => subst x)
    | (fail_if_no_progress extract_lets +onlyGivenNames x)
    | with_reducible (first | apply keeps_State_raiseIf | apply keeps_State_eachUp | apply keeps_startEnum | apply keeps_ite) | split

theorem keeps_execHoldKeepalive  {s0 s : State} (hk : Keeps s0 s) : KeepsO s0 (execHoldKeepalive s) := by
  unfold execHoldKeepalive
  repeat' first
    | with_reducible assumption | decide | intro _
    | ((fail_if_no_progress extract_lets +onlyGivenNames x); refine keeps_cut (s0 := s0) (x := x) ?_ ?_; on_goal 1 => subst x)
    | (fail_if_no_progress extract_lets +onlyGivenNames x)
    | with_reducible (first | apply keeps_State_at | apply keeps_State_begin | apply keeps_genHold | apply keeps_syncGen | apply keepsO_next | apply keepsO_ite | apply keeps_ite | apply keeps_ite2 | apply keeps_ite22 | apply keeps_foldl | apply keeps_foldl2 | (refine keeps_eq2 (by with_reducible assumption) ?_) | (refine keeps_eq22 (by with_reducible assumption) ?_))
    | simp -zeta only [keeps_mk, keepsC_fold, id_eq] | (refine keepsC_le ?_ ?_ ?_) | omega | split | (clear_value *; split)

/-! ### Machine/Wire.lean -/

theorem keeps_State_setDmx (w : Twin) (p : Nat) (x : DmxPort) {s0 s : State} (hk : Keeps s0 s)  : Keeps s0 (State.setDmx s w p x) := by
  unfold State.setDmx
  repeat' first
    | with_reducible assumption | intro _
    | ((fail_if_no_progress extract_lets +onlyGivenNames x); refine keeps_cut (s0 := s0) (x := x) ?_ ?_; on_goal 1 => subst x)
    | (fail_if_no_progress extract_lets +onlyGivenNames x)
    | with_reducible (first | apply keeps_State_reset | apply keeps_State_modTw) | simp -zeta only [keeps_mk, keepsC_fold, id_eq]

theorem keeps_sendWire (w : Twin) (p stop : Nat) (b : List Byte) {s0 s : State} (hk : Keeps s0 s) : Keeps s0 (sendWire w p stop b s) := by
  unfold sendWire
  repeat' first
    | with_reducible assumption | decide | intro _
    | ((fail_if_no_progress extract_lets +onlyGivenNames x); refine keeps_cut (s0 := s0) (x := x) ?_ ?_; on_goal 1 => subst x)
    | (fail_if_no_progress extract_lets +onlyGivenNames x)
    | with_reducible (first | apply keeps_State_emit | apply keeps_State_setDmx | apply keeps_ite | apply keeps_ite2 | apply keeps_ite22 | (refine keeps_eq2 (by with_reducible assumption) ?_) | (refine keeps_eq22 (by with_reducible assumption) ?_))
    | simp -zeta only [keeps_mk, keepsC_fold, id_eq] | (refine keepsC_le ?_ ?_ ?_) | omega | split | (clear_value *; split)

theorem keeps_repeatWire (w : Twin) (f : FrameAcct) (p stop : Nat) (b : List Byte) {s0 s : State} (hk : Keeps s0 s)  : Keeps s0 (repeatWire w f p stop b s) := by
  unfold repeatWire
  repeat' first
    | with_reducible assumption | intro _ | with_reducible (first | apply keeps_State_bump | apply keeps_sendWire | apply keeps_ite)
    | split

theorem keeps_wireEmit (w : Twin) (f : FrameAcct) (p key start : Nat) {s0 s : State} (hk : Keeps s0 s) : Keeps s0 (wireEmit w f p key start s) := by
  unfold wireEmit
  repeat' first
    | with_reducible assumption | decide | intro _
    | ((fail_if_no_progress extract_lets +onlyGivenNames x); refine keeps_cut (s0 := s0) (x := x) ?_ ?_; on_goal 1 => subst x)
    | (fail_if_no_progress extract_lets +onlyGivenNames x)
    | with_reducible (first | apply keeps_State_bump | apply keeps_State_modFrame | apply keeps_raiseEmit | apply keeps_markSlice | apply keeps_settleKey | apply keeps_recordEmission | apply keeps_sendWire | apply keeps_repeatWire | apply keeps_ite | apply keeps_ite2 | apply keeps_ite22 | (refine keeps_eq2 (by with_reducible assumption) ?_) | (refine keeps_eq22 (by with_reducible assumption) ?_))
    | simp -zeta only [keeps_mk, keepsC_fold, id_eq] | (refine keepsC_le ?_ ?_ ?_) | omega | split | (clear_value *; split)

theorem keeps_State_setSacnOut (w : Twin) (u : Nat) (x : SacnOut) {s0 s : State} (hk : Keeps s0 s)  : Keeps s0 (State.setSacnOut s w u x) := by
  unfold State.setSacnOut
  repeat' first
    | with_reducible assumption | intro _
    | ((fail_if_no_progress extract_lets +onlyGivenNames x); refine keeps_cut (s0 := s0) (x := x) ?_ ?_; on_goal 1 => subst x)
    | (fail_if_no_progress extract_lets +onlyGivenNames x)
    | with_reducible (first | apply keeps_State_reset | apply keeps_State_modTw) | simp -zeta only [keeps_mk, keepsC_fold, id_eq]

theorem keeps_sendNet (w : Twin) (n : Nat) (v6 : Bool) (u : Nat) (b : List Byte) {s0 s : State} (hk : Keeps s0 s) : Keeps s0 (sendNet w n v6 u b s) := by
  unfold sendNet
  repeat' first
    | with_reducible assumption | decide | intro _
    | ((fail_if_no_progress extract_lets +onlyGivenNames x); refine keeps_cut (s0 := s0) (x := x) ?_ ?_; on_goal 1 => subst x)
    | (fail_if_no_progress extract_lets +onlyGivenNames x)
    | with_reducible (first | apply keeps_State_bump | apply keeps_State_wr64 | apply keeps_State_emit | apply keeps_ite | apply keeps_ite2 | apply keeps_ite22 | (refine keeps_eq2 (by with_reducible assumption) ?_) | (refine keeps_eq22 (by with_reducible assumption) ?_))
    | simp -zeta only [keeps_mk, keepsC_fold, id_eq] | (refine keepsC_le ?_ ?_ ?_) | omega | split | (clear_value *; split)

theorem keeps_releaseUniv (w : Twin) (f : FrameAcct) (u start stop : Nat) (pkt : List Byte) {s0 s : State} (hk : Keeps s0 s) : Keeps s0 (releaseUniv w f u start stop pkt s) := by
  unfold releaseUniv
  repeat' first
    | with_reducible assumption | decide | intro _
    | ((fail_if_no_progress extract_lets +onlyGivenNames x); refine keeps_cut (s0 := s0) (x := x) ?_ ?_; on_goal 1 => subst x)
    | (fail_if_no_progress extract_lets +onlyGivenNames x)
    | with_reducible (first | apply keeps_State_bump | apply keeps_State_modFrame | apply keeps_raiseEmit | apply keeps_markStale | apply keeps_sendNet | apply keeps_ite | apply keeps_ite2 | apply keeps_ite22 | apply keeps_foldl | apply keeps_foldl2 | (refine keeps_eq2 (by with_reducible assumption) ?_) | (refine keeps_eq22 (by with_reducible assumption) ?_))
    | simp -zeta only [keeps_mk, keepsC_fold, id_eq] | (refine keepsC_le ?_ ?_ ?_) | omega | split | (clear_value *; split)

theorem keeps_univEmit (w : Twin) (f : FrameAcct) (u start : Nat) {s0 s : State} (hk : Keeps s0 s) : Keeps s0 (univEmit w f u start s) := by
  unfold univEmit
  repeat' first
    | with_reducible assumption | decide | intro _
    | ((fail_if_no_progress extract_lets +onlyGivenNames x); refine keeps_cut (s0 := s0) (x := x) ?_ ?_; on_goal 1 => subst x)
    | (fail_if_no_progress extract_lets +onlyGivenNames x)
    | with_reducible (first | apply keeps_markStale | apply keeps_settleKey | apply keeps_recordEmission | apply keeps_State_setSacnOut | apply keeps_releaseUniv | apply keeps_ite | apply keeps_ite2 | apply keeps_ite22 | (refine keeps_eq2 (by with_reducible assumption) ?_) | (refine keeps_eq22 (by with_reducible assumption) ?_))
    | simp -zeta only [keeps_mk, keepsC_fold, id_eq] | (refine keepsC_le ?_ ?_ ?_) | omega | split | (clear_value *; split)

theorem keeps_sendSyncs (w : Twin) (f : FrameAcct) {s0 s : State} (hk : Keeps s0 s) : Keeps s0 (sendSyncs w f s) := by
  unfold sendSyncs
  repeat' first
    | with_reducible assumption | decide | intro _
    | ((fail_if_no_progress extract_lets +onlyGivenNames x); refine keeps_cut (s0 := s0) (x := x) ?_ ?_; on_goal 1 => subst x)
    | (fail_if_no_progress extract_lets +onlyGivenNames x)
    | with_reducible (first | apply keeps_State_bump | apply keeps_State_modTw | apply keeps_sacnSync | apply keeps_sendNet | apply keeps_ite | apply keeps_ite2 | apply keeps_ite22 | apply keeps_foldl | apply keeps_foldl2 | (refine keeps_eq2 (by with_reducible assumption) ?_) | (refine keeps_eq22 (by with_reducible assumption) ?_))
    | simp -zeta only [keeps_mk, keepsC_fold, id_eq] | (refine keepsC_le ?_ ?_ ?_) | omega | split | (clear_value *; split)

theorem keeps_showDmx (w : Twin) (p : Nat) {s0 s : State} (hk : Keeps s0 s)  : Keeps s0 (showDmx w p s) := by
  unfold showDmx
  repeat' first
    | with_reducible assumption | intro _
    | ((fail_if_no_progress extract_lets +onlyGivenNames x); refine keeps_cut (s0 := s0) (x := x) ?_ ?_; on_goal 1 => subst x)
    | (fail_if_no_progress extract_lets +onlyGivenNames x) | with_reducible (first | apply keeps_State_sf | apply keeps_State_sb)

theorem keeps_submitRdm (v : Word) (w : Twin) {s0 s : State} (hk : Keeps s0 s)  : Keeps s0 (submitRdm v w s) := by
  unfold submitRdm
  repeat' first
    | with_reducible assumption | intro _
    | ((fail_if_no_progress extract_lets +onlyGivenNames x); refine keeps_cut (s0 := s0) (x := x) ?_ ?_; on_goal 1 => subst x)
    | (fail_if_no_progress extract_lets +onlyGivenNames x)
    | with_reducible (first | apply keeps_State_sf | apply keeps_State_sb | apply keeps_State_raiseIf | apply keeps_State_setDmx | apply keeps_ite)
    | simp -zeta only [keeps_mk, keepsC_fold, id_eq] | split

theorem keeps_execRdmSubmit (t : Nat) (via : Via) (v : Word) {s0 s : State} (hk : Keeps s0 s)  : KeepsO s0 (execRdmSubmit t via v s) := by
  unfold execRdmSubmit
  repeat' first
    | with_reducible assumption | intro _
    | with_reducible (first | apply keeps_State_beginAt | apply keeps_State_deliver | apply keeps_submitRdm | apply keepsO_next | apply keepsO_ite)

theorem keeps_rdmTick (w : Twin) (p : Nat) {s0 s : State} (hk : Keeps s0 s)  : Keeps s0 (rdmTick w p s) := by
  unfold rdmTick
  repeat' first
    | with_reducible assumption | intro _
    | ((fail_if_no_progress extract_lets +onlyGivenNames x); refine keeps_cut (s0 := s0) (x := x) ?_ ?_; on_goal 1 => subst x)
    | (fail_if_no_progress extract_lets +onlyGivenNames x)
    | with_reducible (first | apply keeps_State_setDmx | apply keeps_showDmx | apply keeps_ite)
    | simp -zeta only [keeps_mk, keepsC_fold, id_eq] | split

theorem keeps_startDisc (p : Nat) (w : Twin) {s0 s : State} (hk : Keeps s0 s)  : Keeps s0 (startDisc p w s) := by
  unfold startDisc
  repeat' first
    | with_reducible assumption | intro _
    | ((fail_if_no_progress extract_lets +onlyGivenNames x); refine keeps_cut (s0 := s0) (x := x) ?_ ?_; on_goal 1 => subst x)
    | (fail_if_no_progress extract_lets +onlyGivenNames x)
    | with_reducible (first | apply keeps_State_sb | apply keeps_State_setDmx | apply keeps_showDmx | apply keeps_ite)
    | simp -zeta only [keeps_mk, keepsC_fold, id_eq] | split

theorem keeps_execRdmDisc (t : Nat) (via : Via) (p : Fin 128) {s0 s : State} (hk : Keeps s0 s)  : KeepsO s0 (execRdmDisc t via p s) := by
  unfold execRdmDisc
  repeat' first
    | with_reducible assumption | intro _
    | with_reducible (first | apply keeps_State_beginAt | apply keeps_State_deliver | apply keeps_startDisc | apply keepsO_next | apply keepsO_ite)

theorem keeps_execRdmDiscPeriod (w : Twin) (p : Fin 128) {s0 s : State} (hk : Keeps s0 s)  : KeepsO s0 (execRdmDiscPeriod w p s) := by
  unfold execRdmDiscPeriod
  repeat' first
    | with_reducible assumption | intro _
    | ((fail_if_no_progress extract_lets +onlyGivenNames x); refine keeps_cut (s0 := s0) (x := x) ?_ ?_; on_goal 1 => subst x)
    | (fail_if_no_progress extract_lets +onlyGivenNames x)
    | with_reducible (first | apply keeps_State_begin | apply keeps_State_beginAt | apply keeps_State_setDmx | apply keeps_startDisc | apply keepsO_next | apply keepsO_ite | apply keeps_ite)
    | simp -zeta only [keeps_mk, keepsC_fold, id_eq] | split

theorem keeps_rdmItem (w : Twin) (p : Nat) (r : RdmReq) (status len stamp : Nat) {s0 s : State} (hk : Keeps s0 s)  : Keeps s0 (rdmItem w p r status len stamp s) := by
  unfold rdmItem
  repeat' first
    | with_reducible assumption | intro _
    | ((fail_if_no_progress extract_lets +onlyGivenNames x); refine keeps_cut (s0 := s0) (x := x) ?_ ?_; on_goal 1 => subst x)
    | (fail_if_no_progress extract_lets +onlyGivenNames x)
    | with_reducible (first | apply keeps_pushCounted | apply keeps_tick | apply keeps_ite)
    | simp -zeta only [keeps_mk, keepsC_fold, id_eq] | split

theorem keeps_endRdm (w : Twin) (p at_ : Nat) {s0 s : State} (hk : Keeps s0 s) : Keeps s0 (endRdm w p at_ s) := by
  unfold endRdm
  repeat' first
    | with_reducible assumption | decide | intro _
    | ((fail_if_no_progress extract_lets +onlyGivenNames x); refine keeps_cut (s0 := s0) (x := x) ?_ ?_; on_goal 1 => subst x)
    | (fail_if_no_progress extract_lets +onlyGivenNames x)
    | with_reducible (first | apply keeps_State_setDmx | apply keeps_showDmx | apply keeps_ite | apply keeps_ite2 | apply keeps_ite22 | (refine keeps_eq2 (by with_reducible assumption) ?_) | (refine keeps_eq22 (by with_reducible assumption) ?_))
    | simp -zeta only [keeps_mk, keepsC_fold, id_eq] | (refine keepsC_le ?_ ?_ ?_) | omega | split | (clear_value *; split)

theorem keeps_runRdm (w : Twin) (p : Nat) (job : RdmJob) (slots : List Byte) (broadcast : Bool) {s0 s : State} (hk : Keeps s0 s) : Keeps s0 (runRdm w p job slots broadcast s) := by
  unfold runRdm
  repeat' first
    | with_reducible assumption | decide | intro _
    | ((fail_if_no_progress extract_lets +onlyGivenNames x); refine keeps_cut (s0 := s0) (x := x) ?_ ?_; on_goal 1 => subst x)
    | (fail_if_no_progress extract_lets +onlyGivenNames x)
    | with_reducible (first | apply keeps_State_emit | apply keeps_State_setDmx | apply keeps_ite | apply keeps_ite2 | apply keeps_ite22 | (refine keeps_eq2 (by with_reducible assumption) ?_) | (refine keeps_eq22 (by with_reducible assumption) ?_))
    | simp -zeta only [keeps_mk, keepsC_fold, id_eq] | (refine keepsC_le ?_ ?_ ?_) | omega | split | (clear_value *; split)

theorem keeps_startStep (w : Twin) (p : Nat) {s0 s : State} (hk : Keeps s0 s)  : Keeps s0 (startStep w p s) := by
  unfold startStep
  repeat' first
    | with_reducible assumption | intro _
    | ((fail_if_no_progress extract_lets +onlyGivenNames x); refine keeps_cut (s0 := s0) (x := x) ?_ ?_; on_goal 1 => subst x)
    | (fail_if_no_progress extract_lets +onlyGivenNames x)
    | with_reducible (first | apply keeps_State_setDmx | apply keeps_endRdm | apply keeps_runRdm | apply keeps_ite)
    | simp -zeta only [keeps_mk, keepsC_fold, id_eq] | split

theorem keeps_startReq (w : Twin) (p : Nat) {s0 s : State} (hk : Keeps s0 s)  : Keeps s0 (startReq w p s) := by
  unfold startReq
  repeat' first
    | with_reducible assumption | intro _
    | ((fail_if_no_progress extract_lets +onlyGivenNames x); refine keeps_cut (s0 := s0) (x := x) ?_ ?_; on_goal 1 => subst x)
    | (fail_if_no_progress extract_lets +onlyGivenNames x)
    | with_reducible (first | apply keeps_State_bump | apply keeps_State_setDmx | apply keeps_showDmx | apply keeps_rdmItem | apply keeps_endRdm | apply keeps_runRdm | apply keeps_ite)
    | simp -zeta only [keeps_mk, keepsC_fold, id_eq] | split

theorem keeps_execRdmRequestStart (t : Nat) (w : Twin) (p : Fin 128) {s0 s : State} (hk : Keeps s0 s)  : KeepsO s0 (execRdmRequestStart t w p s) := by
  unfold execRdmRequestStart
  repeat' first
    | with_reducible assumption | intro _
    | ((fail_if_no_progress extract_lets +onlyGivenNames x); refine keeps_cut (s0 := s0) (x := x) ?_ ?_; on_goal 1 => subst x)
    | (fail_if_no_progress extract_lets +onlyGivenNames x)
    | with_reducible (first | apply keeps_State_beginAt | apply keeps_startStep | apply keeps_startReq | apply keepsO_next | apply keepsO_ite | apply keeps_ite)
    | split

theorem keeps_endStep (w : Twin) (p at_ : Nat) (resp : Option (Option Nat)) {s0 s : State} (hk : Keeps s0 s)  : Keeps s0 (endStep w p at_ resp s) := by
  unfold endStep
  repeat' first
    | with_reducible assumption | intro _
    | ((fail_if_no_progress extract_lets +onlyGivenNames x); refine keeps_cut (s0 := s0) (x := x) ?_ ?_; on_goal 1 => subst x)
    | (fail_if_no_progress extract_lets +onlyGivenNames x)
    | with_reducible (first | apply keeps_State_sb | apply keeps_State_setDmx | apply keeps_endRdm | apply keeps_ite | apply keeps_ite2 | (refine keeps_eq2 (by with_reducible assumption) ?_) | (refine keeps_eq22 (by with_reducible assumption) ?_))
    | simp -zeta only [keeps_mk, keepsC_fold, id_eq] | split

theorem keeps_cutRdm (w : Twin) (p : Nat) (r : RdmRun) (at_ : Nat) {s0 s : State} (hk : Keeps s0 s)  : Keeps s0 (cutRdm w p r at_ s) := by
  unfold cutRdm
  repeat' first
    | with_reducible assumption | intro _
    | ((fail_if_no_progress extract_lets +onlyGivenNames x); refine keeps_cut (s0 := s0) (x := x) ?_ ?_; on_goal 1 => subst x)
    | (fail_if_no_progress extract_lets +onlyGivenNames x)
    | with_reducible (first | apply keeps_State_bump | apply keeps_State_raiseIf | apply keeps_rdmItem | apply keeps_endRdm | apply keeps_ite)
    | simp -zeta only [keeps_mk, keepsC_fold, id_eq] | split

theorem keeps_respondRdm (p : Nat) (good : Bool) (b : List Byte) (w : Twin) {s0 s : State} (hk : Keeps s0 s) : Keeps s0 (respondRdm p good b w s) := by
  unfold respondRdm
  repeat' first
    | with_reducible assumption | decide | intro _
    | ((fail_if_no_progress extract_lets +onlyGivenNames x); refine keeps_cut (s0 := s0) (x := x) ?_ ?_; on_goal 1 => subst x)
    | (fail_if_no_progress extract_lets +onlyGivenNames x)
    | with_reducible (first | apply keeps_State_wrBytes | apply keeps_State_bump | apply keeps_rdmItem | apply keeps_endRdm | apply keeps_endStep | apply keeps_cutRdm | apply keeps_ite | apply keeps_ite2 | apply keeps_ite22 | (refine keeps_eq2 (by with_reducible assumption) ?_) | (refine keeps_eq22 (by with_reducible assumption) ?_))
    | simp -zeta only [keeps_mk, keepsC_fold, id_eq] | (refine keepsC_le ?_ ?_ ?_) | omega | split | (clear_value *; split)

theorem keeps_execRdmResponse (t : Nat) (p : Fin 128) (good : Bool) (bytes : List Byte) {s0 s : State} (hk : Keeps s0 s)  : KeepsO s0 (execRdmResponse t p good bytes s) := by
  unfold execRdmResponse
  repeat' first
    | with_reducible assumption | intro _
    | with_reducible (first | apply keeps_State_beginAt | apply keeps_State_eachUp | apply keeps_respondRdm | apply keepsO_next | apply keepsO_ite)

theorem keeps_silentRdm (p : Nat) (w : Twin) {s0 s : State} (hk : Keeps s0 s)  : Keeps s0 (silentRdm p w s) := by
  unfold silentRdm
  repeat' first
    | with_reducible assumption | intro _
    | ((fail_if_no_progress extract_lets +onlyGivenNames x); refine keeps_cut (s0 := s0) (x := x) ?_ ?_; on_goal 1 => subst x)
    | (fail_if_no_progress extract_lets +onlyGivenNames x)
    | with_reducible (first | apply keeps_State_bump | apply keeps_State_at | apply keeps_rdmItem | apply keeps_endRdm | apply keeps_endStep | apply keeps_ite)
    | simp -zeta only [keeps_mk, keepsC_fold, id_eq] | split

theorem keeps_execRdmResponseTimeout (p : Fin 128) {s0 s : State} (hk : Keeps s0 s)  : KeepsO s0 (execRdmResponseTimeout p s) := by
  unfold execRdmResponseTimeout
  repeat' first
    | with_reducible assumption | intro _
    | with_reducible (first | apply keeps_State_begin | apply keeps_State_eachUp | apply keeps_silentRdm | apply keepsO_next | apply keepsO_ite)

theorem keeps_execRdmDiscDone (t : Nat) (w : Twin) (p : Fin 128) {s0 s : State} (hk : Keeps s0 s)  : KeepsO s0 (execRdmDiscDone t w p s) := by
  unfold execRdmDiscDone
  repeat' first
    | with_reducible assumption | intro _
    | ((fail_if_no_progress extract_lets +onlyGivenNames x); refine keeps_cut (s0 := s0) (x := x) ?_ ?_; on_goal 1 => subst x)
    | (fail_if_no_progress extract_lets +onlyGivenNames x)
    | with_reducible (first | apply keeps_State_beginAt | apply keeps_State_raiseIf | apply keeps_State_setDmx | apply keeps_showDmx | apply keepsO_next | apply keepsO_ite | apply keeps_ite)
    | simp -zeta only [keeps_mk, keepsC_fold, id_eq] | split

theorem keeps_rdmContextReset (w : Twin) {s0 s : State} (hk : Keeps s0 s)  : Keeps s0 (rdmContextReset w s) := by
  unfold rdmContextReset
  repeat' first
    | with_reducible assumption | intro _
    | ((fail_if_no_progress extract_lets +onlyGivenNames x); refine keeps_cut (s0 := s0) (x := x) ?_ ?_; on_goal 1 => subst x)
    | (fail_if_no_progress extract_lets +onlyGivenNames x) | with_reducible apply keeps_State_modTw
    | simp -zeta only [keeps_mk, keepsC_fold, id_eq]

theorem keeps_slipRdm (w : Twin) (p : Nat) {s0 s : State} (hk : Keeps s0 s)  : Keeps s0 (slipRdm w p s) := by
  unfold slipRdm
  repeat' first
    | with_reducible assumption | intro _
    | ((fail_if_no_progress extract_lets +onlyGivenNames x); refine keeps_cut (s0 := s0) (x := x) ?_ ?_; on_goal 1 => subst x)
    | (fail_if_no_progress extract_lets +onlyGivenNames x)
    | with_reducible (first | apply keeps_rdmItem | apply keeps_endRdm | apply keeps_ite)
    | simp -zeta only [keeps_mk, keepsC_fold, id_eq] | split

/-! ### Machine/Emit.lean -/

theorem keeps_putEntries (w : Twin) (l : List ((Nat × Nat × Nat) × List Byte)) {s0 s : State} (hk : Keeps s0 s) : Keeps s0 (putEntries w l s) := by
  unfold putEntries
  repeat' first
    | with_reducible assumption | decide | intro _
    | ((fail_if_no_progress extract_lets +onlyGivenNames x); refine keeps_cut (s0 := s0) (x := x) ?_ ?_; on_goal 1 => subst x)
    | (fail_if_no_progress extract_lets +onlyGivenNames x)
    | with_reducible (first | apply keeps_State_wrBytes | apply keeps_ite | apply keeps_ite2 | apply keeps_ite22 | apply keeps_foldl | apply keeps_foldl2 | (refine keeps_eq2 (by with_reducible assumption) ?_) | (refine keeps_eq22 (by with_reducible assumption) ?_))
    | simp -zeta only [keeps_mk, keepsC_fold, id_eq] | (refine keepsC_le ?_ ?_ ?_) | omega | split | (clear_value *; split)

theorem keeps_onOldTables (w : Twin) (k : Nat) (f : State → State) {s0 s : State} (hk : Keeps s0 s) (hf_f : ∀  x, Keeps s0 x → Keeps s0 (f  x)) : Keeps s0 (onOldTables w k f s) := by
  unfold onOldTables
  repeat' first
    | with_reducible assumption | decide | intro _
    | ((fail_if_no_progress extract_lets +onlyGivenNames x); refine keeps_cut (s0 := s0) (x := x) ?_ ?_; on_goal 1 => subst x)
    | (fail_if_no_progress extract_lets +onlyGivenNames x)
    | with_reducible (first | apply hf_f | apply keeps_putEntries | apply keeps_ite | apply keeps_ite2 | apply keeps_ite22 | (refine keeps_eq2 (by with_reducible assumption) ?_) | (refine keeps_eq22 (by with_reducible assumption) ?_))
    | simp -zeta only [keeps_mk, keepsC_fold, id_eq] | (refine keepsC_le ?_ ?_ ?_) | omega | split | (clear_value *; split)

theorem keeps_State_asOf (w : Twin) (k : Nat) {s0 s : State} (hk : Keeps s0 s) : Keeps s0 (State.asOf s w k) := by
  unfold State.asOf
  repeat' first
    | with_reducible assumption | decide | intro _
    | ((fail_if_no_progress extract_lets +onlyGivenNames x); refine keeps_cut (s0 := s0) (x := x) ?_ ?_; on_goal 1 => subst x)
    | (fail_if_no_progress extract_lets +onlyGivenNames x)
    | with_reducible (first | apply keeps_putEntries | apply keeps_ite | apply keeps_ite2 | apply keeps_ite22 | (refine keeps_eq2 (by with_reducible assumption) ?_) | (refine keeps_eq22 (by with_reducible assumption) ?_))
    | simp -zeta only [keeps_mk, keepsC_fold, id_eq] | (refine keepsC_le ?_ ?_ ?_) | omega | split | (clear_value *; split)

theorem keeps_turnPort (p a b : Nat) {s0 s : State} (hk : Keeps s0 s) : Keeps s0 (turnPort p a b s) := by
  unfold turnPort
  repeat' first
    | with_reducible assumption | decide | intro _
    | ((fail_if_no_progress extract_lets +onlyGivenNames x); refine keeps_cut (s0 := s0) (x := x) ?_ ?_; on_goal 1 => subst x)
    | (fail_if_no_progress extract_lets +onlyGivenNames x)
    | with_reducible (first | apply keeps_ite | apply keeps_ite2 | apply keeps_ite22 | (refine keeps_eq2 (by with_reducible assumption) ?_) | (refine keeps_eq22 (by with_reducible assumption) ?_))
    | simp -zeta only [keeps_mk, keepsC_fold, id_eq] | (refine keepsC_le ?_ ?_ ?_) | omega | split | (clear_value *; split)

theorem keeps_portSwitched (w : Twin) (p a : Nat) {s0 s : State} (hk : Keeps s0 s) : Keeps s0 (portSwitched w p a s) := by
  unfold portSwitched
  repeat' first
    | with_reducible assumption | decide | intro _
    | ((fail_if_no_progress extract_lets +onlyGivenNames x); refine keeps_cut (s0 := s0) (x := x) ?_ ?_; on_goal 1 => subst x)
    | (fail_if_no_progress extract_lets +onlyGivenNames x)
    | with_reducible (first | apply keeps_State_modTw | apply keeps_State_setStrand | apply keeps_setPrnState | apply keeps_State_setDmx | apply keeps_showDmx | apply keeps_turnPort | apply keeps_ite | apply keeps_ite2 | apply keeps_ite22 | (refine keeps_eq2 (by with_reducible assumption) ?_) | (refine keeps_eq22 (by with_reducible assumption) ?_))
    | simp -zeta only [keeps_mk, keepsC_fold, id_eq] | (refine keepsC_le ?_ ?_ ?_) | omega | split | (clear_value *; split)

theorem keeps_dropOld (w : Twin) {s0 s : State} (hk : Keeps s0 s) : Keeps s0 (dropOld w s) := by
  unfold dropOld
  repeat' first
    | with_reducible assumption | decide | intro _
    | ((fail_if_no_progress extract_lets +onlyGivenNames x); refine keeps_cut (s0 := s0) (x := x) ?_ ?_; on_goal 1 => subst x)
    | (fail_if_no_progress extract_lets +onlyGivenNames x)
    | with_reducible (first | apply keeps_State_modTw | apply keeps_portSwitched | apply keeps_ite | apply keeps_ite2 | apply keeps_ite22 | apply keeps_foldl | apply keeps_foldl2 | (refine keeps_eq2 (by with_reducible assumption) ?_) | (refine keeps_eq22 (by with_reducible assumption) ?_))
    | simp -zeta only [keeps_mk, keepsC_fold, id_eq] | (refine keepsC_le ?_ ?_ ?_) | omega | split | (clear_value *; split)

theorem keeps_emitSlice (k key start : Nat) (w : Twin) {s0 s : State} (hk : Keeps s0 s)  : Keeps s0 (emitSlice k key start w s) := by
  unfold emitSlice
  repeat' first
    | with_reducible assumption | intro _
    | ((fail_if_no_progress extract_lets +onlyGivenNames x); refine keeps_cut (s0 := s0) (x := x) ?_ ?_; on_goal 1 => subst x)
    | (fail_if_no_progress extract_lets +onlyGivenNames x)
    | with_reducible (first | apply keeps_State_modFrame | apply keeps_settleKey | apply keeps_prnEmit | apply keeps_wireEmit | apply keeps_univEmit | apply keeps_ite)
    | simp -zeta only [keeps_mk, keepsC_fold, id_eq] | split

theorem keeps_emitOne (k key start : Nat) (w : Twin) {s0 s : State} (hk : Keeps s0 s) : Keeps s0 (emitOne k key start w s) := by
  unfold emitOne
  repeat' first
    | with_reducible assumption | decide | intro _
    | ((fail_if_no_progress extract_lets +onlyGivenNames x); refine keeps_cut (s0 := s0) (x := x) ?_ ?_; on_goal 1 => subst x)
    | (fail_if_no_progress extract_lets +onlyGivenNames x)
    | with_reducible (first | apply keeps_onOldTables | apply keeps_emitSlice | apply keeps_ite | apply keeps_ite2 | apply keeps_ite22 | (refine keeps_eq2 (by with_reducible assumption) ?_) | (refine keeps_eq22 (by with_reducible assumption) ?_))
    | simp -zeta only [keeps_mk, keepsC_fold, id_eq] | (refine keepsC_le ?_ ?_ ?_) | omega | split | (clear_value *; split)

theorem keeps_emitKey (k key start : Nat) {s0 s : State} (hk : Keeps s0 s)  : Keeps s0 (emitKey k key start s) := by
  unfold emitKey
  repeat' first
    | with_reducible assumption | intro _
    | ((fail_if_no_progress extract_lets +onlyGivenNames x); refine keeps_cut (s0 := s0) (x := x) ?_ ?_; on_goal 1 => subst x)
    | (fail_if_no_progress extract_lets +onlyGivenNames x)
    | with_reducible (first | apply keeps_State_each | apply keeps_emitOne | apply keeps_ite)
    | simp -zeta only [keeps_mk, keepsC_fold, id_eq] | split

theorem keeps_settleFrame (k : Nat) {s0 s : State} (hk : Keeps s0 s) : Keeps s0 (settleFrame k s) := by
  unfold settleFrame
  repeat' first
    | with_reducible assumption | decide | intro _
    | ((fail_if_no_progress extract_lets +onlyGivenNames x); refine keeps_cut (s0 := s0) (x := x) ?_ ?_; on_goal 1 => subst x)
    | (fail_if_no_progress extract_lets +onlyGivenNames x)
    | with_reducible (first | apply keeps_State_asOf | apply keeps_emitKey | apply keeps_ite | apply keeps_ite2 | apply keeps_ite22 | apply keeps_foldl | apply keeps_foldl2 | (refine keeps_eq2 (by with_reducible assumption) ?_) | (refine keeps_eq22 (by with_reducible assumption) ?_))
    | simp -zeta only [keeps_mk, keepsC_fold, id_eq] | (refine keepsC_le ?_ ?_ ?_) | omega | split | (clear_value *; split)

theorem keeps_slipStream (k p : Nat) {s0 s : State} (hk : Keeps s0 s)  : Keeps s0 (slipStream k p s) := by
  unfold slipStream
  repeat' first
    | with_reducible assumption | intro _
    | ((fail_if_no_progress extract_lets +onlyGivenNames x); refine keeps_cut (s0 := s0) (x := x) ?_ ?_; on_goal 1 => subst x)
    | (fail_if_no_progress extract_lets +onlyGivenNames x)
    | with_reducible (first | apply keeps_State_bump | apply keeps_State_each | apply keeps_State_raiseTh | apply keeps_markSlip | apply keeps_slipRdm | apply keeps_ite)
    | simp -zeta only [keeps_mk, keepsC_fold, id_eq] | split

theorem keeps_latchTwin (k at_ : Nat) (deferred : Bool) (w : Twin) {s0 s : State} (hk : Keeps s0 s)  : Keeps s0 (latchTwin k at_ deferred w s) := by
  unfold latchTwin
  repeat' first
    | with_reducible assumption | intro _
    | ((fail_if_no_progress extract_lets +onlyGivenNames x); refine keeps_cut (s0 := s0) (x := x) ?_ ?_; on_goal 1 => subst x)
    | (fail_if_no_progress extract_lets +onlyGivenNames x)
    | with_reducible (first | apply keeps_prnLatch | apply keeps_prnPoll | apply keeps_sendSyncs | apply keeps_ite | apply keeps_foldl)
    | simp -zeta only [keeps_mk, keepsC_fold, id_eq] | split

theorem keeps_latchRelease (k : Nat) {s0 s : State} (hk : Keeps s0 s) : Keeps s0 (latchRelease k s) := by
  unfold latchRelease
  repeat' first
    | with_reducible assumption | decide | intro _
    | ((fail_if_no_progress extract_lets +onlyGivenNames x); refine keeps_cut (s0 := s0) (x := x) ?_ ?_; on_goal 1 => subst x)
    | (fail_if_no_progress extract_lets +onlyGivenNames x)
    | with_reducible (first | apply keeps_leaveHold | apply keeps_ite | apply keeps_ite2 | apply keeps_ite22 | (refine keeps_eq2 (by with_reducible assumption) ?_) | (refine keeps_eq22 (by with_reducible assumption) ?_))
    | simp -zeta only [keeps_mk, keepsC_fold, id_eq] | (refine keepsC_le ?_ ?_ ?_) | omega | split | (clear_value *; split)

theorem keeps_latch  {s0 s : State} (hk : Keeps s0 s) : Keeps s0 (latch s) := by
  unfold latch
  repeat' first
    | with_reducible assumption | decide | intro _
    | ((fail_if_no_progress extract_lets +onlyGivenNames x); refine keeps_cut (s0 := s0) (x := x) ?_ ?_; on_goal 1 => subst x)
    | (fail_if_no_progress extract_lets +onlyGivenNames x)
    | with_reducible (first | apply keeps_State_sb | apply keeps_State_peak | apply keeps_State_wr64 | apply keeps_State_each | apply keeps_State_at | apply keeps_inPlaceLatch | apply keeps_State_modFrame | apply keeps_lagging | apply keeps_onOldTables | apply keeps_State_asOf | apply keeps_dropOld | apply keeps_settleFrame | apply keeps_slipStream | apply keeps_latchTwin | apply keeps_latchRelease | apply keeps_ite | apply keeps_ite2 | apply keeps_ite22 | apply keeps_foldl | apply keeps_foldl2 | (refine keeps_eq2 (by with_reducible assumption) ?_) | (refine keeps_eq22 (by with_reducible assumption) ?_))
    | simp -zeta only [keeps_mk, keepsC_fold, id_eq] | (refine keepsC_le ?_ ?_ ?_) | omega | split | (clear_value *; split)

theorem keeps_execSorediumLatch  {s0 s : State} (hk : Keeps s0 s)  : KeepsO s0 (execSorediumLatch s) := by
  unfold execSorediumLatch
  repeat' first
    | with_reducible assumption | intro _
    | with_reducible (first | apply keeps_State_begin | apply keeps_latch | apply keepsO_next | apply keepsO_ite)

theorem keeps_execEmissionStart (key : SliceKey) {s0 s : State} (hk : Keeps s0 s)  : KeepsO s0 (execEmissionStart key s) := by
  unfold execEmissionStart
  repeat' first
    | with_reducible assumption | intro _
    | ((fail_if_no_progress extract_lets +onlyGivenNames x); refine keeps_cut (s0 := s0) (x := x) ?_ ?_; on_goal 1 => subst x)
    | (fail_if_no_progress extract_lets +onlyGivenNames x)
    | with_reducible (first | apply keeps_State_at | apply keeps_State_begin | apply keeps_emitKey | apply keeps_latch | apply keepsO_next | apply keepsO_ite | apply keeps_ite)
    | simp -zeta only [keeps_mk, keepsC_fold, id_eq] | split

theorem keeps_setPortMap (r : Nat → Nat) (l : List Nat) {s0 s : State} (hk : Keeps s0 s)  : Keeps s0 (setPortMap r l s) := by
  unfold setPortMap
  repeat' first
    | with_reducible assumption | intro _ | with_reducible (first | apply keeps_State_setReg | apply keeps_foldl)

theorem keeps_setBitMap (a n : Nat) (l : List Nat) {s0 s : State} (hk : Keeps s0 s)  : Keeps s0 (setBitMap a n l s) := by
  unfold setBitMap
  repeat' first
    | with_reducible assumption | intro _
    | ((fail_if_no_progress extract_lets +onlyGivenNames x); refine keeps_cut (s0 := s0) (x := x) ?_ ?_; on_goal 1 => subst x)
    | (fail_if_no_progress extract_lets +onlyGivenNames x)
    | with_reducible (first | apply keeps_State_wrB | apply keeps_State_resetMem | apply keeps_foldl)

theorem keeps_showGroups (w : Twin) (f : FrameAcct) {s0 s : State} (hk : Keeps s0 s) : Keeps s0 (showGroups w f s) := by
  unfold showGroups
  repeat' first
    | with_reducible assumption | decide | intro _
    | ((fail_if_no_progress extract_lets +onlyGivenNames x); refine keeps_cut (s0 := s0) (x := x) ?_ ?_; on_goal 1 => subst x)
    | (fail_if_no_progress extract_lets +onlyGivenNames x)
    | with_reducible (first | apply keeps_State_sf | apply keeps_setBitMap | apply keeps_ite | apply keeps_ite2 | apply keeps_ite22 | apply keeps_foldl | apply keeps_foldl2 | (refine keeps_eq2 (by with_reducible assumption) ?_) | (refine keeps_eq22 (by with_reducible assumption) ?_))
    | simp -zeta only [keeps_mk, keepsC_fold, id_eq] | (refine keepsC_le ?_ ?_ ?_) | omega | split | (clear_value *; split)

theorem keeps_writeRecord (w : Twin) (f : FrameAcct) {s0 s : State} (hk : Keeps s0 s) : Keeps s0 (writeRecord w f s) := by
  unfold writeRecord
  repeat' first
    | with_reducible assumption | decide | intro _
    | ((fail_if_no_progress extract_lets +onlyGivenNames x); refine keeps_cut (s0 := s0) (x := x) ?_ ?_; on_goal 1 => subst x)
    | (fail_if_no_progress extract_lets +onlyGivenNames x)
    | with_reducible (first | apply keeps_State_wrBytes | apply keeps_State_setReg | apply keeps_State_sf | apply keeps_State_bump | apply keeps_State_peak | apply keeps_State_modTw | apply keeps_State_raiseIf | apply keeps_setPortMap | apply keeps_setBitMap | apply keeps_showGroups | apply keeps_ite | apply keeps_ite2 | apply keeps_ite22 | apply keeps_foldl | apply keeps_foldl2 | (refine keeps_eq2 (by with_reducible assumption) ?_) | (refine keeps_eq22 (by with_reducible assumption) ?_))
    | simp -zeta only [keeps_mk, keepsC_fold, id_eq] | (refine keepsC_le ?_ ?_ ?_) | omega | split | (clear_value *; split)

theorem keeps_recordsDue (w : Twin) {s0 s : State} (hk : Keeps s0 s)  : Keeps s0 (recordsDue w s) := by
  unfold recordsDue
  repeat' first
    | with_reducible assumption | intro _ | with_reducible (first | apply keeps_writeRecord | apply keeps_foldl)

theorem keeps_execFrameRecord (w : Twin) {s0 s : State} (hk : Keeps s0 s)  : KeepsO s0 (execFrameRecord w s) := by
  unfold execFrameRecord
  repeat' first
    | with_reducible assumption | intro _
    | ((fail_if_no_progress extract_lets +onlyGivenNames x); refine keeps_cut (s0 := s0) (x := x) ?_ ?_; on_goal 1 => subst x)
    | (fail_if_no_progress extract_lets +onlyGivenNames x)
    | with_reducible (first | apply keeps_State_at | apply keeps_State_begin | apply keeps_writeRecord | apply keepsO_next | apply keepsO_ite | apply keeps_ite)
    | simp -zeta only [keeps_mk, keepsC_fold, id_eq] | split

end Sys2Proof.Machine
end

