-- ==== Sys2Proof/Laws/KeepsBoard.lean ====
section
/-!
SUPPORT. Keeps, one lemma for each operation: the tick generator, health, grafts, flash, update, mailbox, bridge, control channel and calibration.
-/
set_option linter.unreachableTactic false
set_option linter.unusedTactic false
set_option linter.unusedVariables false
set_option linter.unusedSimpArgs false
set_option linter.tactic.unusedName false
namespace Sys2Proof.Machine

/-! ### Machine/TickGen.lean -/

theorem keeps_captureTiming (at_ : Nat) {s0 s : State} (hk : Keeps s0 s)  : Keeps s0 (captureTiming at_ s) := by
  unfold captureTiming
  repeat' first
    | with_reducible assumption | intro _
    | ((fail_if_no_progress extract_lets +onlyGivenNames x); refine keeps_cut (s0 := s0) (x := x) ?_ ?_; on_goal 1 => subst x)
    | (fail_if_no_progress extract_lets +onlyGivenNames x) | with_reducible apply keeps_State_sb
    | simp -zeta only [keeps_mk, keepsC_fold, id_eq]

theorem keeps_cancelTiming  {s0 s : State} (hk : Keeps s0 s)  : Keeps s0 (cancelTiming s) := by
  unfold cancelTiming
  repeat' first
    | with_reducible assumption | intro _
    | ((fail_if_no_progress extract_lets +onlyGivenNames x); refine keeps_cut (s0 := s0) (x := x) ?_ ?_; on_goal 1 => subst x)
    | (fail_if_no_progress extract_lets +onlyGivenNames x) | with_reducible apply keeps_State_sb
    | simp -zeta only [keeps_mk, keepsC_fold, id_eq]

theorem keeps_execTgenCommit (t : Nat) (src : Requester) (cancel : Bool) {s0 s : State} (hk : Keeps s0 s)  : KeepsO s0 (execTgenCommit t src cancel s) := by
  unfold execTgenCommit
  repeat' first
    | with_reducible assumption | intro _
    | with_reducible (first | apply keeps_State_beginAt | apply keeps_State_thWrite | apply keeps_captureTiming | apply keeps_cancelTiming | apply keepsO_next | apply keepsO_ite | apply keeps_ite)
    | split

theorem keeps_execTgenCancel (t : Nat) (src : Requester) {s0 s : State} (hk : Keeps s0 s)  : KeepsO s0 (execTgenCancel t src s) := by
  unfold execTgenCancel
  repeat' first
    | with_reducible assumption | intro _
    | with_reducible (first | apply keeps_State_beginAt | apply keeps_State_thWrite | apply keeps_cancelTiming | apply keepsO_next | apply keepsO_ite)

theorem keeps_writePhase (v : BitVec 64) {s0 s : State} (hk : Keeps s0 s)  : Keeps s0 (writePhase v s) := by
  unfold writePhase
  repeat' first
    | with_reducible assumption | intro _
    | ((fail_if_no_progress extract_lets +onlyGivenNames x); refine keeps_cut (s0 := s0) (x := x) ?_ ?_; on_goal 1 => subst x)
    | (fail_if_no_progress extract_lets +onlyGivenNames x) | with_reducible apply keeps_State_wr64
    | simp -zeta only [keeps_mk, keepsC_fold, id_eq]

theorem keeps_execTgenPhaseWrite (t : Nat) (src : Requester) (v : BitVec 64) {s0 s : State} (hk : Keeps s0 s) : KeepsO s0 (execTgenPhaseWrite t src v s) := by
  unfold execTgenPhaseWrite
  repeat' first
    | with_reducible assumption | decide | intro _
    | ((fail_if_no_progress extract_lets +onlyGivenNames x); refine keeps_cut (s0 := s0) (x := x) ?_ ?_; on_goal 1 => subst x)
    | (fail_if_no_progress extract_lets +onlyGivenNames x)
    | with_reducible (first | apply keeps_State_beginAt | apply keeps_State_thWrite | apply keeps_State_wholeAccess | apply keeps_writePhase | apply keepsO_next | apply keepsO_ite | apply keeps_ite | apply keeps_ite2 | apply keeps_ite22 | (refine keeps_eq2 (by with_reducible assumption) ?_) | (refine keeps_eq22 (by with_reducible assumption) ?_))
    | simp -zeta only [keeps_mk, keepsC_fold, id_eq] | (refine keepsC_le ?_ ?_ ?_) | omega | split | (clear_value *; split)

theorem keeps_applyTiming (x : TimingSet) (c : Nat) {s0 s : State} (hk : Keeps s0 s)  : Keeps s0 (applyTiming x c s) := by
  unfold applyTiming
  repeat' first
    | with_reducible assumption | intro _
    | ((fail_if_no_progress extract_lets +onlyGivenNames x); refine keeps_cut (s0 := s0) (x := x) ?_ ?_; on_goal 1 => subst x)
    | (fail_if_no_progress extract_lets +onlyGivenNames x)
    | with_reducible (first | apply keeps_State_setReg | apply keeps_State_sf | apply keeps_State_wr64)

theorem keeps_showWaiting  {s0 s : State} (hk : Keeps s0 s)  : Keeps s0 (showWaiting s) := by
  unfold showWaiting
  repeat' first
    | with_reducible assumption | intro _ | with_reducible apply keeps_State_sb

theorem keeps_timingTick (raw c : Nat) {s0 s : State} (hk : Keeps s0 s) : Keeps s0 (timingTick raw c s).2 := by
  unfold timingTick
  repeat' first
    | with_reducible assumption | decide | intro _
    | ((fail_if_no_progress extract_lets +onlyGivenNames x); refine keeps_cut (s0 := s0) (x := x) ?_ ?_; on_goal 1 => subst x)
    | (fail_if_no_progress extract_lets +onlyGivenNames x)
    | with_reducible (first | apply keeps_State_sf | apply keeps_State_sb | apply keeps_State_raiseTh | apply keeps_cancelTiming | apply keeps_applyTiming | apply keeps_ite | apply keeps_ite2 | apply keeps_ite22 | (refine keeps_eq2 (by with_reducible assumption) ?_) | (refine keeps_eq22 (by with_reducible assumption) ?_))
    | simp -zeta only [keeps_mk, keepsC_fold, id_eq] | (refine keepsC_le ?_ ?_ ?_) | omega | split | (clear_value *; split)

theorem keeps_moveTick  {s0 s : State} (hk : Keeps s0 s)  : Keeps s0 (moveTick s).2 := by
  unfold moveTick
  repeat' first
    | with_reducible assumption | intro _
    | ((fail_if_no_progress extract_lets +onlyGivenNames x); refine keeps_cut (s0 := s0) (x := x) ?_ ?_; on_goal 1 => subst x)
    | (fail_if_no_progress extract_lets +onlyGivenNames x)
    | with_reducible (first | apply keeps_State_sf | apply keeps_State_sb | apply keeps_showWaiting | apply keeps_ite | apply keeps_ite2)
    | simp -zeta only [keeps_mk, keepsC_fold, id_eq] | split

theorem keeps_phaseTick  {s0 s : State} (hk : Keeps s0 s)  : Keeps s0 (phaseTick s).2 := by
  unfold phaseTick
  repeat' first
    | with_reducible assumption | intro _
    | ((fail_if_no_progress extract_lets +onlyGivenNames x); refine keeps_cut (s0 := s0) (x := x) ?_ ?_; on_goal 1 => subst x)
    | (fail_if_no_progress extract_lets +onlyGivenNames x) | with_reducible apply keeps_State_wr64
    | simp -zeta only [keeps_mk, keepsC_fold, id_eq] | split

theorem keeps_advanceTick  {s0 s : State} (hk : Keeps s0 s) : Keeps s0 (advanceTick s) := by
  unfold advanceTick
  repeat' first
    | with_reducible assumption | decide | intro _
    | ((fail_if_no_progress extract_lets +onlyGivenNames x); refine keeps_cut (s0 := s0) (x := x) ?_ ?_; on_goal 1 => subst x)
    | (fail_if_no_progress extract_lets +onlyGivenNames x)
    | with_reducible (first | apply keeps_State_setReg | apply keeps_State_sf | apply keeps_State_wr64 | apply keeps_State_at | apply keeps_State_raiseTh | apply keeps_timingTick | apply keeps_moveTick | apply keeps_phaseTick | apply keeps_ite | apply keeps_ite2 | apply keeps_ite22 | (refine keeps_eq2 (by with_reducible assumption) ?_) | (refine keeps_eq22 (by with_reducible assumption) ?_))
    | simp -zeta only [keeps_mk, keepsC_fold, id_eq] | (refine keepsC_le ?_ ?_ ?_) | omega | split | (clear_value *; split)

theorem keeps_armTick  {s0 s : State} (hk : Keeps s0 s) : Keeps s0 (armTick s) := by
  unfold armTick
  repeat' first
    | with_reducible assumption | decide | intro _
    | ((fail_if_no_progress extract_lets +onlyGivenNames x); refine keeps_cut (s0 := s0) (x := x) ?_ ?_; on_goal 1 => subst x)
    | (fail_if_no_progress extract_lets +onlyGivenNames x)
    | with_reducible (first | apply keeps_judgePlaced | apply keeps_captureTiming | apply keeps_showWaiting | apply keeps_ite | apply keeps_ite2 | apply keeps_ite22 | (refine keeps_eq2 (by with_reducible assumption) ?_) | (refine keeps_eq22 (by with_reducible assumption) ?_))
    | simp -zeta only [keeps_mk, keepsC_fold, id_eq] | (refine keepsC_le ?_ ?_ ?_) | omega | split | (clear_value *; split)

/-! ### Machine/Health.lean -/

theorem keeps_confirm (w : Twin) (fx c r : Nat) {s0 : State} {acc : HealthNews × State} (hk : Keeps s0 acc.2)  : Keeps s0 (confirm w fx c r acc).2 := by
  obtain ⟨q, s⟩ := acc
  change Keeps s0 s at hk
  unfold confirm
  repeat' first
    | with_reducible assumption | intro _
    | ((fail_if_no_progress extract_lets +onlyGivenNames x); refine keeps_cut (s0 := s0) (x := x) ?_ ?_; on_goal 1 => subst x)
    | (fail_if_no_progress extract_lets +onlyGivenNames x)
    | with_reducible (first | apply keeps_State_bump | apply keeps_State_setChan | apply keeps_State_setHealthEntry | apply keeps_ite | apply keeps_ite2 | (refine keeps_eq2 (by with_reducible assumption) ?_) | (refine keeps_eq22 (by with_reducible assumption) ?_))
    | simp -zeta only [keeps_mk, keepsC_fold, id_eq] | split

theorem keeps_unblind (w : Twin) (fx c : Nat) {s0 s : State} (hk : Keeps s0 s)  : Keeps s0 (unblind w fx c s) := by
  unfold unblind
  repeat' first
    | with_reducible assumption | intro _
    | ((fail_if_no_progress extract_lets +onlyGivenNames x); refine keeps_cut (s0 := s0) (x := x) ?_ ?_; on_goal 1 => subst x)
    | (fail_if_no_progress extract_lets +onlyGivenNames x)
    | with_reducible (first | apply keeps_State_sf | apply keeps_State_setHealthEntry | apply keeps_ite)
    | simp -zeta only [keeps_mk, keepsC_fold, id_eq] | split

theorem keeps_result (w : Twin) (fx c r : Nat) {s0 : State} {acc : HealthNews × State} (hk : Keeps s0 acc.2)  : Keeps s0 (result w fx c r acc).2 := by
  obtain ⟨q, s⟩ := acc
  change Keeps s0 s at hk
  unfold result
  repeat' first
    | with_reducible assumption | intro _
    | ((fail_if_no_progress extract_lets +onlyGivenNames x); refine keeps_cut (s0 := s0) (x := x) ?_ ?_; on_goal 1 => subst x)
    | (fail_if_no_progress extract_lets +onlyGivenNames x)
    | with_reducible (first | apply keeps_State_setChan | apply keeps_confirm | apply keeps_unblind | apply keeps_ite | apply keeps_ite2 | (refine keeps_eq2 (by with_reducible assumption) ?_) | (refine keeps_eq22 (by with_reducible assumption) ?_))
    | simp -zeta only [keeps_mk, keepsC_fold, id_eq] | split

theorem keeps_limits (w : Twin) (fx : Nat) (nodeHot supply : Bool) {s0 : State} {acc : HealthNews × State} (hk : Keeps s0 acc.2)  : Keeps s0 (limits w fx nodeHot supply acc).2 := by
  obtain ⟨q, s⟩ := acc
  change Keeps s0 s at hk
  unfold limits
  repeat' first
    | with_reducible assumption | intro _
    | ((fail_if_no_progress extract_lets +onlyGivenNames x); refine keeps_cut (s0 := s0) (x := x) ?_ ?_; on_goal 1 => subst x)
    | (fail_if_no_progress extract_lets +onlyGivenNames x)
    | with_reducible (first | apply keeps_State_setHealthEntry | apply keeps_ite | apply keeps_ite2 | (refine keeps_eq2 (by with_reducible assumption) ?_) | (refine keeps_eq22 (by with_reducible assumption) ?_))
    | simp -zeta only [keeps_mk, keepsC_fold, id_eq] | split

theorem keeps_limitsOf (w : Twin) {s0 : State} {acc : HealthNews × State} (hk : Keeps s0 acc.2) : Keeps s0 (limitsOf w acc).2 := by
  obtain ⟨q, s⟩ := acc
  change Keeps s0 s at hk
  unfold limitsOf
  repeat' first
    | with_reducible assumption | decide | intro _
    | ((fail_if_no_progress extract_lets +onlyGivenNames x); refine keeps_cut (s0 := s0) (x := x) ?_ ?_; on_goal 1 => subst x)
    | (fail_if_no_progress extract_lets +onlyGivenNames x)
    | with_reducible (first | apply keeps_limits | apply keeps_ite | apply keeps_ite2 | apply keeps_ite22 | apply keeps_foldl | apply keeps_foldl2 | (refine keeps_eq2 (by with_reducible assumption) ?_) | (refine keeps_eq22 (by with_reducible assumption) ?_))
    | simp -zeta only [keeps_mk, keepsC_fold, id_eq] | (refine keepsC_le ?_ ?_ ?_) | omega | split | (clear_value *; split)

theorem keeps_applyStatus (w : Twin) (p : Nat) (b : List Byte) {s0 : State} {acc : HealthNews × State} (hk : Keeps s0 acc.2) : Keeps s0 (applyStatus w p b acc).2 := by
  obtain ⟨q, s⟩ := acc
  change Keeps s0 s at hk
  unfold applyStatus
  repeat' first
    | with_reducible assumption | decide | intro _
    | ((fail_if_no_progress extract_lets +onlyGivenNames x); refine keeps_cut (s0 := s0) (x := x) ?_ ?_; on_goal 1 => subst x)
    | (fail_if_no_progress extract_lets +onlyGivenNames x)
    | with_reducible (first | apply keeps_State_bump | apply keeps_State_modHlth | apply keeps_State_setHealthEntry | apply keeps_result | apply keeps_ite | apply keeps_ite2 | apply keeps_ite22 | apply keeps_foldl | apply keeps_foldl2 | (refine keeps_eq2 (by with_reducible assumption) ?_) | (refine keeps_eq22 (by with_reducible assumption) ?_))
    | simp -zeta only [keeps_mk, keepsC_fold, id_eq] | (refine keepsC_le ?_ ?_ ?_) | omega | split | (clear_value *; split)

theorem keeps_applyPost (w : Twin) (x : Nat × Nat × Nat × Nat) {s0 : State} {acc : HealthNews × State} (hk : Keeps s0 acc.2) : Keeps s0 (applyPost w x acc).2 := by
  obtain ⟨q, s⟩ := acc
  change Keeps s0 s at hk
  unfold applyPost
  repeat' first
    | with_reducible assumption | decide | intro _
    | ((fail_if_no_progress extract_lets +onlyGivenNames x); refine keeps_cut (s0 := s0) (x := x) ?_ ?_; on_goal 1 => subst x)
    | (fail_if_no_progress extract_lets +onlyGivenNames x)
    | with_reducible (first | apply keeps_State_setHealthEntry | apply keeps_confirm | apply keeps_ite | apply keeps_ite2 | apply keeps_ite22 | apply keeps_foldl | apply keeps_foldl2 | (refine keeps_eq2 (by with_reducible assumption) ?_) | (refine keeps_eq22 (by with_reducible assumption) ?_))
    | simp -zeta only [keeps_mk, keepsC_fold, id_eq] | (refine keepsC_le ?_ ?_ ?_) | omega | split | (clear_value *; split)

theorem keeps_waitTick (w : Twin) {s0 s : State} (hk : Keeps s0 s) : Keeps s0 (waitTick w s) := by
  unfold waitTick
  repeat' first
    | with_reducible assumption | decide | intro _
    | ((fail_if_no_progress extract_lets +onlyGivenNames x); refine keeps_cut (s0 := s0) (x := x) ?_ ?_; on_goal 1 => subst x)
    | (fail_if_no_progress extract_lets +onlyGivenNames x)
    | with_reducible (first | apply keeps_State_setChan | apply keeps_ite | apply keeps_ite2 | apply keeps_ite22 | apply keeps_foldl | apply keeps_foldl2 | (refine keeps_eq2 (by with_reducible assumption) ?_) | (refine keeps_eq22 (by with_reducible assumption) ?_))
    | simp -zeta only [keeps_mk, keepsC_fold, id_eq] | (refine keepsC_le ?_ ?_ ?_) | omega | split | (clear_value *; split)

theorem keeps_voidPulses (w : Twin) {s0 s : State} (hk : Keeps s0 s)  : Keeps s0 (voidPulses w s) := by
  unfold voidPulses
  repeat' first
    | with_reducible assumption | intro _
    | ((fail_if_no_progress extract_lets +onlyGivenNames x); refine keeps_cut (s0 := s0) (x := x) ?_ ?_; on_goal 1 => subst x)
    | (fail_if_no_progress extract_lets +onlyGivenNames x)
    | with_reducible (first | apply keeps_State_bump | apply keeps_State_modHlth | apply keeps_ite)
    | simp -zeta only [keeps_mk, keepsC_fold, id_eq] | split

theorem keeps_setNoReport (w : Twin) (fx : Nat) {s0 s : State} (hk : Keeps s0 s)  : Keeps s0 (setNoReport w s fx) := by
  unfold setNoReport
  repeat' first
    | with_reducible assumption | intro _
    | ((fail_if_no_progress extract_lets +onlyGivenNames x); refine keeps_cut (s0 := s0) (x := x) ?_ ?_; on_goal 1 => subst x)
    | (fail_if_no_progress extract_lets +onlyGivenNames x) | with_reducible apply keeps_State_setHealthEntry
    | simp -zeta only [keeps_mk, keepsC_fold, id_eq]

theorem keeps_healthEvent (w : Twin) (en : Fld) (n : Nat) (l : List Nat) {s0 s : State} (hk : Keeps s0 s)  : Keeps s0 (healthEvent w en n l s) := by
  unfold healthEvent
  repeat' first
    | with_reducible assumption | intro _
    | ((fail_if_no_progress extract_lets +onlyGivenNames x); refine keeps_cut (s0 := s0) (x := x) ?_ ?_; on_goal 1 => subst x)
    | (fail_if_no_progress extract_lets +onlyGivenNames x) | with_reducible apply keeps_State_raiseOnce
    | simp -zeta only [keeps_mk, keepsC_fold, id_eq] | split

theorem keeps_noReports (w : Twin) {s0 s : State} (hk : Keeps s0 s)  : Keeps s0 (noReports w s) := by
  unfold noReports
  repeat' first
    | with_reducible assumption | intro _
    | ((fail_if_no_progress extract_lets +onlyGivenNames x); refine keeps_cut (s0 := s0) (x := x) ?_ ?_; on_goal 1 => subst x)
    | (fail_if_no_progress extract_lets +onlyGivenNames x)
    | with_reducible (first | apply keeps_setNoReport | apply keeps_healthEvent | apply keeps_foldl)

theorem keeps_healthTick (w : Twin) {s0 s : State} (hk : Keeps s0 s) : Keeps s0 (healthTick w s).2 := by
  unfold healthTick
  repeat' first
    | with_reducible assumption | decide | intro _
    | ((fail_if_no_progress extract_lets +onlyGivenNames x); refine keeps_cut (s0 := s0) (x := x) ?_ ?_; on_goal 1 => subst x)
    | (fail_if_no_progress extract_lets +onlyGivenNames x)
    | with_reducible (first | apply keeps_State_bump | apply keeps_State_modHlth | apply keeps_limitsOf | apply keeps_applyStatus | apply keeps_applyPost | apply keeps_waitTick | apply keeps_voidPulses | apply keeps_healthEvent | apply keeps_noReports | apply keeps_ite | apply keeps_ite2 | apply keeps_ite22 | apply keeps_foldl | apply keeps_foldl2 | (refine keeps_eq2 (by with_reducible assumption) ?_) | (refine keeps_eq22 (by with_reducible assumption) ?_))
    | simp -zeta only [keeps_mk, keepsC_fold, id_eq] | (refine keepsC_le ?_ ?_ ?_) | omega | split | (clear_value *; split)

theorem keeps_restartFixture (w : Twin) (fx : Nat) {s0 s : State} (hk : Keeps s0 s)  : Keeps s0 (restartFixture w fx s) := by
  unfold restartFixture
  repeat' first
    | with_reducible assumption | intro _
    | ((fail_if_no_progress extract_lets +onlyGivenNames x); refine keeps_cut (s0 := s0) (x := x) ?_ ?_; on_goal 1 => subst x)
    | (fail_if_no_progress extract_lets +onlyGivenNames x)
    | with_reducible (first | apply keeps_State_reset | apply keeps_State_sf | apply keeps_State_modHlth | apply keeps_State_setHealthEntry)
    | simp -zeta only [keeps_mk, keepsC_fold, id_eq]

theorem keeps_postHealth (v : Word) (w : Twin) {s0 s : State} (hk : Keeps s0 s)  : Keeps s0 (postHealth v w s) := by
  unfold postHealth
  repeat' first
    | with_reducible assumption | intro _
    | ((fail_if_no_progress extract_lets +onlyGivenNames x); refine keeps_cut (s0 := s0) (x := x) ?_ ?_; on_goal 1 => subst x)
    | (fail_if_no_progress extract_lets +onlyGivenNames x)
    | with_reducible (first | apply keeps_State_bump | apply keeps_State_modHlth | apply keeps_ite)
    | simp -zeta only [keeps_mk, keepsC_fold, id_eq] | split

theorem keeps_execHlthPost (t : Nat) (via : Via) (v : Word) {s0 s : State} (hk : Keeps s0 s)  : KeepsO s0 (execHlthPost t via v s) := by
  unfold execHlthPost
  repeat' first
    | with_reducible assumption | intro _
    | with_reducible (first | apply keeps_State_beginAt | apply keeps_State_deliver | apply keeps_postHealth | apply keepsO_next | apply keepsO_ite)

theorem keeps_execHlthNoReport (t : Nat) (w : Twin) (fixture : Nat) {s0 s : State} (hk : Keeps s0 s)  : KeepsO s0 (execHlthNoReport t w fixture s) := by
  unfold execHlthNoReport
  repeat' first
    | with_reducible assumption | intro _
    | ((fail_if_no_progress extract_lets +onlyGivenNames x); refine keeps_cut (s0 := s0) (x := x) ?_ ?_; on_goal 1 => subst x)
    | (fail_if_no_progress extract_lets +onlyGivenNames x)
    | with_reducible (first | apply keeps_State_beginAt | apply keeps_setNoReport | apply keeps_healthEvent | apply keepsO_next | apply keepsO_ite | apply keeps_ite)
    | split

theorem keeps_execDiagVoid (w : Twin) {s0 s : State} (hk : Keeps s0 s)  : KeepsO s0 (execDiagVoid w s) := by
  unfold execDiagVoid
  repeat' first
    | with_reducible assumption | intro _
    | with_reducible (first | apply keeps_State_begin | apply keeps_voidPulses | apply keepsO_next | apply keepsO_ite)

/-! ### Machine/RejCheck.lean -/

theorem keeps_writeSections (rd : Nat → Byte) (secs : List DirEnt) (w : Twin) {s0 s : State} (hk : Keeps s0 s)  : Keeps s0 (writeSections rd secs w s) := by
  unfold writeSections
  repeat' first
    | with_reducible assumption | intro _ | with_reducible (first | apply keeps_State_wrBytes | apply keeps_foldl)

/-! ### Machine/Rejor.lean -/

theorem keeps_defaultEntries (w : Twin) {s0 s : State} (hk : Keeps s0 s)  : Keeps s0 (defaultEntries w s) := by
  unfold defaultEntries
  repeat' first
    | with_reducible assumption | intro _
    | ((fail_if_no_progress extract_lets +onlyGivenNames x); refine keeps_cut (s0 := s0) (x := x) ?_ ?_; on_goal 1 => subst x)
    | (fail_if_no_progress extract_lets +onlyGivenNames x) | with_reducible apply keeps_State_wrBytes
    | simp -zeta only [keeps_mk, keepsC_fold, id_eq]

theorem keeps_wholeImage (rd : Nat → Byte) (secs : List DirEnt) (w : Twin) {s0 s : State} (hk : Keeps s0 s) : Keeps s0 (wholeImage rd secs w s) := by
  unfold wholeImage
  repeat' first
    | with_reducible assumption | decide | intro _
    | ((fail_if_no_progress extract_lets +onlyGivenNames x); refine keeps_cut (s0 := s0) (x := x) ?_ ?_; on_goal 1 => subst x)
    | (fail_if_no_progress extract_lets +onlyGivenNames x)
    | with_reducible (first | apply keeps_State_resetMem | apply keeps_writeSections | apply keeps_defaultEntries | apply keeps_ite | apply keeps_ite2 | apply keeps_ite22 | (refine keeps_eq2 (by with_reducible assumption) ?_) | (refine keeps_eq22 (by with_reducible assumption) ?_))
    | simp -zeta only [keeps_mk, keepsC_fold, id_eq] | (refine keepsC_le ?_ ?_ ?_) | omega | split | (clear_value *; split)

theorem keeps_imageDefaults (w : Twin) {s0 s : State} (hk : Keeps s0 s)  : Keeps s0 (imageDefaults w s) := by
  unfold imageDefaults
  repeat' first
    | with_reducible assumption | intro _
    | ((fail_if_no_progress extract_lets +onlyGivenNames x); refine keeps_cut (s0 := s0) (x := x) ?_ ?_; on_goal 1 => subst x)
    | (fail_if_no_progress extract_lets +onlyGivenNames x)
    | with_reducible (first | apply keeps_State_sf | apply keeps_State_live | apply keeps_layerShadows | apply keeps_foldl)

theorem keeps_buildTwin (w : Twin) (curves : List Nat) (id : Nat) {s0 s : State} (hk : Keeps s0 s) : Keeps s0 (buildTwin w curves id s) := by
  unfold buildTwin
  repeat' first
    | with_reducible assumption | decide | intro _
    | ((fail_if_no_progress extract_lets +onlyGivenNames x); refine keeps_cut (s0 := s0) (x := x) ?_ ?_; on_goal 1 => subst x)
    | (fail_if_no_progress extract_lets +onlyGivenNames x)
    | with_reducible (first | apply keeps_State_setReg | apply keeps_State_modTw | apply keeps_loadBanks | apply keeps_State_modCurves | apply keeps_freshSlots | apply keeps_watchSpare | apply keeps_requestEnum | apply keeps_startDisc | apply keeps_imageDefaults | apply keeps_ite | apply keeps_ite2 | apply keeps_ite22 | apply keeps_foldl | apply keeps_foldl2 | (refine keeps_eq2 (by with_reducible assumption) ?_) | (refine keeps_eq22 (by with_reducible assumption) ?_))
    | simp -zeta only [keeps_mk, keepsC_fold, id_eq] | (refine keepsC_le ?_ ?_ ?_) | omega | split | (clear_value *; split)

theorem keeps_periImage (w : Twin) {s0 s : State} (hk : Keeps s0 s)  : Keeps s0 (periImage w s) := by
  unfold periImage
  repeat' first
    | with_reducible assumption | intro _
    | ((fail_if_no_progress extract_lets +onlyGivenNames x); refine keeps_cut (s0 := s0) (x := x) ?_ ?_; on_goal 1 => subst x)
    | (fail_if_no_progress extract_lets +onlyGivenNames x) | with_reducible apply keeps_State_sf

theorem keeps_powerImage (w : Twin) {s0 s : State} (hk : Keeps s0 s)  : Keeps s0 (powerImage w s) := by
  unfold powerImage
  repeat' first
    | with_reducible assumption | intro _ | with_reducible apply keeps_State_sf

theorem keeps_enterState (st : Nat) {s0 s : State} (hk : Keeps s0 s)  : Keeps s0 (enterState st s) := by
  unfold enterState
  repeat' first
    | with_reducible assumption | intro _
    | ((fail_if_no_progress extract_lets +onlyGivenNames x); refine keeps_cut (s0 := s0) (x := x) ?_ ?_; on_goal 1 => subst x)
    | (fail_if_no_progress extract_lets +onlyGivenNames x) | with_reducible apply keeps_State_sf
    | simp -zeta only [keeps_mk, keepsC_fold, id_eq]

theorem keeps_restoreTick (v : Saved) {s0 s : State} (hk : Keeps s0 s) : Keeps s0 (restoreTick v s) := by
  unfold restoreTick
  repeat' first
    | with_reducible assumption | decide | intro _
    | ((fail_if_no_progress extract_lets +onlyGivenNames x); refine keeps_cut (s0 := s0) (x := x) ?_ ?_; on_goal 1 => subst x)
    | (fail_if_no_progress extract_lets +onlyGivenNames x)
    | with_reducible (first | apply keeps_State_sf | apply keeps_State_sb | apply keeps_State_raiseTh | apply keeps_judgePlaced | apply keeps_showWaiting | apply keeps_enterState | apply keeps_ite | apply keeps_ite2 | apply keeps_ite22 | (refine keeps_eq2 (by with_reducible assumption) ?_) | (refine keeps_eq22 (by with_reducible assumption) ?_))
    | simp -zeta only [keeps_mk, keepsC_fold, id_eq] | (refine keepsC_le ?_ ?_ ?_) | omega | split | (clear_value *; split)

theorem keeps_baseImage (v : Nat → Nat → Nat) (n : Fin 4) {s0 s : State} (hk : Keeps s0 s)  : Keeps s0 (baseImage v n s) := by
  unfold baseImage
  repeat' first
    | with_reducible assumption | intro _
    | ((fail_if_no_progress extract_lets +onlyGivenNames x); refine keeps_cut (s0 := s0) (x := x) ?_ ?_; on_goal 1 => subst x)
    | (fail_if_no_progress extract_lets +onlyGivenNames x)
    | with_reducible (first | apply keeps_State_setReg | apply keeps_State_sf | apply keeps_State_sb | apply keeps_State_writeMode | apply keeps_ite)
    | split

theorem keeps_timeImage (v : Nat → Nat → Nat) {s0 s : State} (hk : Keeps s0 s)  : Keeps s0 (timeImage v s) := by
  unfold timeImage
  repeat' first
    | with_reducible assumption | intro _
    | ((fail_if_no_progress extract_lets +onlyGivenNames x); refine keeps_cut (s0 := s0) (x := x) ?_ ?_; on_goal 1 => subst x)
    | (fail_if_no_progress extract_lets +onlyGivenNames x)
    | with_reducible (first | apply keeps_State_setReg | apply keeps_State_sf | apply keeps_baseImage | apply keeps_foldl)
    | simp -zeta only [keeps_mk, keepsC_fold, id_eq]

theorem keeps_minimalConfig  {s0 s : State} (hk : Keeps s0 s)  : Keeps s0 (minimalConfig s) := by
  unfold minimalConfig
  repeat' first
    | with_reducible assumption | intro _
    | ((fail_if_no_progress extract_lets +onlyGivenNames x); refine keeps_cut (s0 := s0) (x := x) ?_ ?_; on_goal 1 => subst x)
    | (fail_if_no_progress extract_lets +onlyGivenNames x)
    | with_reducible (first | apply keeps_State_sf | apply keeps_State_sb | apply keeps_State_each | apply keeps_State_raiseTh | apply keeps_armTick | apply keeps_wholeImage | apply keeps_buildTwin | apply keeps_periImage | apply keeps_enterState)

theorem keeps_stageImage (rd : Nat → Byte) {s0 s : State} (hk : Keeps s0 s) : Keeps s0 (stageImage rd s) := by
  unfold stageImage
  repeat' first
    | with_reducible assumption | decide | intro _
    | ((fail_if_no_progress extract_lets +onlyGivenNames x); refine keeps_cut (s0 := s0) (x := x) ?_ ?_; on_goal 1 => subst x)
    | (fail_if_no_progress extract_lets +onlyGivenNames x)
    | with_reducible (first | apply keeps_State_wrBytes | apply keeps_State_each | apply keeps_ite | apply keeps_ite2 | apply keeps_ite22 | (refine keeps_eq2 (by with_reducible assumption) ?_) | (refine keeps_eq22 (by with_reducible assumption) ?_))
    | simp -zeta only [keeps_mk, keepsC_fold, id_eq] | (refine keepsC_le ?_ ?_ ?_) | omega | split | (clear_value *; split)

theorem keeps_trySlot (slot : Nat) {s0 s : State} (hk : Keeps s0 s) : Keeps s0 (trySlot slot s).2 := by
  unfold trySlot
  repeat' first
    | with_reducible assumption | decide | intro _
    | ((fail_if_no_progress extract_lets +onlyGivenNames x); refine keeps_cut (s0 := s0) (x := x) ?_ ?_; on_goal 1 => subst x)
    | (fail_if_no_progress extract_lets +onlyGivenNames x)
    | with_reducible (first | apply keeps_State_setReg | apply keeps_State_sf | apply keeps_State_each | apply keeps_wholeImage | apply keeps_buildTwin | apply keeps_stageImage | apply keeps_ite | apply keeps_ite2 | apply keeps_ite22 | (refine keeps_eq2 (by with_reducible assumption) ?_) | (refine keeps_eq22 (by with_reducible assumption) ?_))
    | simp -zeta only [keeps_mk, keepsC_fold, id_eq] | (refine keepsC_le ?_ ?_ ?_) | omega | split | (clear_value *; split)

theorem keeps_beginLoad  {s0 s : State} (hk : Keeps s0 s)  : Keeps s0 (beginLoad s) := by
  unfold beginLoad
  repeat' first
    | with_reducible assumption | intro _
    | ((fail_if_no_progress extract_lets +onlyGivenNames x); refine keeps_cut (s0 := s0) (x := x) ?_ ?_; on_goal 1 => subst x)
    | (fail_if_no_progress extract_lets +onlyGivenNames x)
    | with_reducible (first | apply keeps_State_setReg | apply keeps_minimalConfig | apply keeps_trySlot | apply keeps_ite | apply keeps_ite2 | (refine keeps_eq2 (by with_reducible assumption) ?_) | (refine keeps_eq22 (by with_reducible assumption) ?_))
    | simp -zeta only [keeps_mk, keepsC_fold, id_eq] | split

theorem keeps_finishLoad (w : Twin) {s0 s : State} (hk : Keeps s0 s)  : Keeps s0 (finishLoad w s) := by
  unfold finishLoad
  repeat' first
    | with_reducible assumption | intro _
    | ((fail_if_no_progress extract_lets +onlyGivenNames x); refine keeps_cut (s0 := s0) (x := x) ?_ ?_; on_goal 1 => subst x)
    | (fail_if_no_progress extract_lets +onlyGivenNames x)
    | with_reducible (first | apply keeps_State_setReg | apply keeps_State_sf | apply keeps_State_wr64 | apply keeps_State_each | apply keeps_State_raiseTwin | apply keeps_State_raiseTh | apply keeps_scheduleState | apply keeps_armTick | apply keeps_periImage | apply keeps_powerImage | apply keeps_enterState | apply keeps_restoreTick | apply keeps_timeImage | apply keeps_ite | apply keeps_foldl)
    | simp -zeta only [keeps_mk, keepsC_fold, id_eq] | split

theorem keeps_execRejLoaded (t : Nat) {s0 s : State} (hk : Keeps s0 s)  : KeepsO s0 (execRejLoaded t s) := by
  unfold execRejLoaded
  repeat' first
    | with_reducible assumption | intro _
    | ((fail_if_no_progress extract_lets +onlyGivenNames x); refine keeps_cut (s0 := s0) (x := x) ?_ ?_; on_goal 1 => subst x)
    | (fail_if_no_progress extract_lets +onlyGivenNames x)
    | with_reducible (first | apply keeps_State_beginAt | apply keeps_finishLoad | apply keepsO_next | apply keepsO_ite | apply keeps_ite)
    | simp -zeta only [keeps_mk, keepsC_fold, id_eq] | split

theorem keeps_setGraftState (w : Twin) (v : Nat) {s0 s : State} (hk : Keeps s0 s)  : Keeps s0 (setGraftState w v s) := by
  unfold setGraftState
  repeat' first
    | with_reducible assumption | intro _ | with_reducible apply keeps_State_sf

theorem keeps_showRefusal (b : Bad) (w : Twin) {s0 s : State} (hk : Keeps s0 s)  : Keeps s0 (showRefusal b w s) := by
  unfold showRefusal
  repeat' first
    | with_reducible assumption | intro _
    | ((fail_if_no_progress extract_lets +onlyGivenNames x); refine keeps_cut (s0 := s0) (x := x) ?_ ?_; on_goal 1 => subst x)
    | (fail_if_no_progress extract_lets +onlyGivenNames x)
    | with_reducible (first | apply keeps_State_setReg | apply keeps_State_sf | apply keeps_State_sb | apply keeps_State_raiseTwin)

theorem keeps_releaseOther (w : Twin) (cs : List Nat) {s0 s : State} (hk : Keeps s0 s) : Keeps s0 (releaseOther w cs s) := by
  unfold releaseOther
  repeat' first
    | with_reducible assumption | decide | intro _
    | ((fail_if_no_progress extract_lets +onlyGivenNames x); refine keeps_cut (s0 := s0) (x := x) ?_ ?_; on_goal 1 => subst x)
    | (fail_if_no_progress extract_lets +onlyGivenNames x)
    | with_reducible (first | apply keeps_State_wrBytes | apply keeps_State_modCurves | apply keeps_freshSlots | apply keeps_ite | apply keeps_ite2 | apply keeps_ite22 | apply keeps_foldl | apply keeps_foldl2 | (refine keeps_eq2 (by with_reducible assumption) ?_) | (refine keeps_eq22 (by with_reducible assumption) ?_))
    | simp -zeta only [keeps_mk, keepsC_fold, id_eq] | (refine keepsC_le ?_ ?_ ?_) | omega | split | (clear_value *; split)

theorem keeps_releaseSlots (restore : Bool) (w : Twin) (g : Graft) {s0 s : State} (hk : Keeps s0 s) : Keeps s0 (releaseSlots restore w g s) := by
  unfold releaseSlots
  repeat' first
    | with_reducible assumption | decide | intro _
    | ((fail_if_no_progress extract_lets +onlyGivenNames x); refine keeps_cut (s0 := s0) (x := x) ?_ ?_; on_goal 1 => subst x)
    | (fail_if_no_progress extract_lets +onlyGivenNames x)
    | with_reducible (first | apply keeps_State_wrBytes | apply keeps_State_modCurves | apply keeps_freshSlots | apply keeps_releaseOther | apply keeps_ite | apply keeps_ite2 | apply keeps_ite22 | apply keeps_foldl | apply keeps_foldl2 | (refine keeps_eq2 (by with_reducible assumption) ?_) | (refine keeps_eq22 (by with_reducible assumption) ?_))
    | simp -zeta only [keeps_mk, keepsC_fold, id_eq] | (refine keepsC_le ?_ ?_ ?_) | omega | split | (clear_value *; split)

theorem keeps_refuseGraft (b : Bad) (w : Twin) {s0 s : State} (hk : Keeps s0 s)  : Keeps s0 (refuseGraft b w s) := by
  unfold refuseGraft
  repeat' first
    | with_reducible assumption | intro _
    | ((fail_if_no_progress extract_lets +onlyGivenNames x); refine keeps_cut (s0 := s0) (x := x) ?_ ?_; on_goal 1 => subst x)
    | (fail_if_no_progress extract_lets +onlyGivenNames x)
    | with_reducible (first | apply keeps_State_modTw | apply keeps_watchSpare | apply keeps_setGraftState | apply keeps_showRefusal | apply keeps_releaseSlots)
    | simp -zeta only [keeps_mk, keepsC_fold, id_eq] | split

theorem keeps_forgetGraft (w : Twin) {s0 s : State} (hk : Keeps s0 s) : Keeps s0 (forgetGraft w s) := by
  unfold forgetGraft
  repeat' first
    | with_reducible assumption | decide | intro _
    | ((fail_if_no_progress extract_lets +onlyGivenNames x); refine keeps_cut (s0 := s0) (x := x) ?_ ?_; on_goal 1 => subst x)
    | (fail_if_no_progress extract_lets +onlyGivenNames x)
    | with_reducible (first | apply keeps_State_modTw | apply keeps_watchSpare | apply keeps_setGraftState | apply keeps_releaseSlots | apply keeps_ite | apply keeps_ite2 | apply keeps_ite22 | (refine keeps_eq2 (by with_reducible assumption) ?_) | (refine keeps_eq22 (by with_reducible assumption) ?_))
    | simp -zeta only [keeps_mk, keepsC_fold, id_eq] | (refine keepsC_le ?_ ?_ ?_) | omega | split | (clear_value *; split)

theorem keeps_dropGrafts  {s0 s : State} (hk : Keeps s0 s) : Keeps s0 (dropGrafts s) := by
  unfold dropGrafts
  repeat' first
    | with_reducible assumption | decide | intro _
    | ((fail_if_no_progress extract_lets +onlyGivenNames x); refine keeps_cut (s0 := s0) (x := x) ?_ ?_; on_goal 1 => subst x)
    | (fail_if_no_progress extract_lets +onlyGivenNames x)
    | with_reducible (first | apply keeps_State_each | apply keeps_forgetGraft | apply keeps_ite | apply keeps_ite2 | apply keeps_ite22 | (refine keeps_eq2 (by with_reducible assumption) ?_) | (refine keeps_eq22 (by with_reducible assumption) ?_))
    | simp -zeta only [keeps_mk, keepsC_fold, id_eq] | (refine keepsC_le ?_ ?_ ?_) | omega | split | (clear_value *; split)

theorem keeps_graftGo (w : Twin) {s0 s : State} (hk : Keeps s0 s) : Keeps s0 (graftGo w s) := by
  unfold graftGo
  repeat' first
    | with_reducible assumption | decide | intro _
    | ((fail_if_no_progress extract_lets +onlyGivenNames x); refine keeps_cut (s0 := s0) (x := x) ?_ ?_; on_goal 1 => subst x)
    | (fail_if_no_progress extract_lets +onlyGivenNames x)
    | with_reducible (first | apply keeps_State_modTw | apply keeps_State_modCurves | apply keeps_watchSpare | apply keeps_setGraftState | apply keeps_showRefusal | apply keeps_ite | apply keeps_ite2 | apply keeps_ite22 | (refine keeps_eq2 (by with_reducible assumption) ?_) | (refine keeps_eq22 (by with_reducible assumption) ?_))
    | simp -zeta only [keeps_mk, keepsC_fold, id_eq] | (refine keepsC_le ?_ ?_ ?_) | omega | split | (clear_value *; split)

theorem keeps_graftGoVia (via : Via) {s0 s : State} (hk : Keeps s0 s)  : Keeps s0 (graftGoVia via s) := by
  unfold graftGoVia
  repeat' first
    | with_reducible assumption | intro _
    | ((fail_if_no_progress extract_lets +onlyGivenNames x); refine keeps_cut (s0 := s0) (x := x) ?_ ?_; on_goal 1 => subst x)
    | (fail_if_no_progress extract_lets +onlyGivenNames x)
    | with_reducible (first | apply keeps_State_deliver | apply keeps_graftGo | apply keeps_ite)
    | simp -zeta only [keeps_mk, keepsC_fold, id_eq] | split

theorem keeps_execGraftGo (t : Nat) (via : Via) {s0 s : State} (hk : Keeps s0 s)  : KeepsO s0 (execGraftGo t via s) := by
  unfold execGraftGo
  repeat' first
    | with_reducible assumption | intro _
    | with_reducible (first | apply keeps_State_beginAt | apply keeps_graftGoVia | apply keepsO_next | apply keepsO_ite)

theorem keeps_refuseBoth (b : Bad) {s0 s : State} (hk : Keeps s0 s) : Keeps s0 (refuseBoth b s) := by
  unfold refuseBoth
  repeat' first
    | with_reducible assumption | decide | intro _
    | ((fail_if_no_progress extract_lets +onlyGivenNames x); refine keeps_cut (s0 := s0) (x := x) ?_ ?_; on_goal 1 => subst x)
    | (fail_if_no_progress extract_lets +onlyGivenNames x)
    | with_reducible (first | apply keeps_State_each | apply keeps_refuseGraft | apply keeps_ite | apply keeps_ite2 | apply keeps_ite22 | (refine keeps_eq2 (by with_reducible assumption) ?_) | (refine keeps_eq22 (by with_reducible assumption) ?_))
    | simp -zeta only [keeps_mk, keepsC_fold, id_eq] | (refine keepsC_le ?_ ?_ ?_) | omega | split | (clear_value *; split)

theorem keeps_execGraftArmed (t : Nat) (w : Twin) {s0 s : State} (hk : Keeps s0 s) : KeepsO s0 (execGraftArmed t w s) := by
  unfold execGraftArmed
  repeat' first
    | with_reducible assumption | decide | intro _
    | ((fail_if_no_progress extract_lets +onlyGivenNames x); refine keeps_cut (s0 := s0) (x := x) ?_ ?_; on_goal 1 => subst x)
    | (fail_if_no_progress extract_lets +onlyGivenNames x)
    | with_reducible (first | apply keeps_State_modTw | apply keeps_State_beginAt | apply keeps_freshSlots | apply keeps_writeSections | apply keeps_setGraftState | apply keeps_refuseGraft | apply keeps_forgetGraft | apply keeps_refuseBoth | apply keepsO_next | apply keepsO_ite | apply keeps_ite | apply keeps_ite2 | apply keeps_ite22 | (refine keeps_eq2 (by with_reducible assumption) ?_) | (refine keeps_eq22 (by with_reducible assumption) ?_))
    | simp -zeta only [keeps_mk, keepsC_fold, id_eq] | (refine keepsC_le ?_ ?_ ?_) | omega | split | (clear_value *; split)

theorem keeps_cancelGraft (w : Twin) {s0 s : State} (hk : Keeps s0 s) : Keeps s0 (cancelGraft w s) := by
  unfold cancelGraft
  repeat' first
    | with_reducible assumption | decide | intro _
    | ((fail_if_no_progress extract_lets +onlyGivenNames x); refine keeps_cut (s0 := s0) (x := x) ?_ ?_; on_goal 1 => subst x)
    | (fail_if_no_progress extract_lets +onlyGivenNames x)
    | with_reducible (first | apply keeps_refuseGraft | apply keeps_ite | apply keeps_ite2 | apply keeps_ite22 | (refine keeps_eq2 (by with_reducible assumption) ?_) | (refine keeps_eq22 (by with_reducible assumption) ?_))
    | simp -zeta only [keeps_mk, keepsC_fold, id_eq] | (refine keepsC_le ?_ ?_ ?_) | omega | split | (clear_value *; split)

theorem keeps_execGraftCancel (t : Nat) (via : Via) {s0 s : State} (hk : Keeps s0 s)  : KeepsO s0 (execGraftCancel t via s) := by
  unfold execGraftCancel
  repeat' first
    | with_reducible assumption | intro _
    | with_reducible (first | apply keeps_State_beginAt | apply keeps_State_deliver | apply keeps_cancelGraft | apply keepsO_next | apply keepsO_ite)

theorem keeps_execGraftCatchupDone (t : Nat) (w : Twin) {s0 s : State} (hk : Keeps s0 s)  : KeepsO s0 (execGraftCatchupDone t w s) := by
  unfold execGraftCatchupDone
  repeat' first
    | with_reducible assumption | intro _
    | ((fail_if_no_progress extract_lets +onlyGivenNames x); refine keeps_cut (s0 := s0) (x := x) ?_ ?_; on_goal 1 => subst x)
    | (fail_if_no_progress extract_lets +onlyGivenNames x)
    | with_reducible (first | apply keeps_State_modTw | apply keeps_State_beginAt | apply keeps_setGraftState | apply keepsO_next | apply keepsO_ite | apply keeps_ite)
    | simp -zeta only [keeps_mk, keepsC_fold, id_eq] | split

theorem keeps_graftTime (w : Twin) {s0 s : State} (hk : Keeps s0 s)  : Keeps s0 (graftTime w s) := by
  unfold graftTime
  repeat' first
    | with_reducible assumption | intro _
    | ((fail_if_no_progress extract_lets +onlyGivenNames x); refine keeps_cut (s0 := s0) (x := x) ?_ ?_; on_goal 1 => subst x)
    | (fail_if_no_progress extract_lets +onlyGivenNames x)
    | with_reducible (first | apply keeps_State_sb | apply keeps_State_each | apply keeps_captureTiming | apply keeps_timeImage | apply keeps_ite)
    | simp -zeta only [keeps_mk, keepsC_fold, id_eq] | split

theorem keeps_dropCommits (w : Twin) (e : GraftEnt) {s0 s : State} (hk : Keeps s0 s) : Keeps s0 (dropCommits w e s) := by
  unfold dropCommits
  repeat' first
    | with_reducible assumption | decide | intro _
    | ((fail_if_no_progress extract_lets +onlyGivenNames x); refine keeps_cut (s0 := s0) (x := x) ?_ ?_; on_goal 1 => subst x)
    | (fail_if_no_progress extract_lets +onlyGivenNames x)
    | with_reducible (first | apply keeps_State_sb | apply keeps_State_setLayer | apply keeps_State_modMasters | apply keeps_ite | apply keeps_ite2 | apply keeps_ite22 | (refine keeps_eq2 (by with_reducible assumption) ?_) | (refine keeps_eq22 (by with_reducible assumption) ?_))
    | simp -zeta only [keeps_mk, keepsC_fold, id_eq] | (refine keepsC_le ?_ ?_ ?_) | omega | split | (clear_value *; split)

theorem keeps_liveDefaults (w : Twin) (e : GraftEnt) {s0 s : State} (hk : Keeps s0 s)  : Keeps s0 (liveDefaults w e s) := by
  unfold liveDefaults
  repeat' first
    | with_reducible assumption | intro _
    | ((fail_if_no_progress extract_lets +onlyGivenNames x); refine keeps_cut (s0 := s0) (x := x) ?_ ?_; on_goal 1 => subst x)
    | (fail_if_no_progress extract_lets +onlyGivenNames x)
    | with_reducible (first | apply keeps_State_sf | apply keeps_State_sb | apply keeps_State_live | apply keeps_layerShadows | apply keeps_ite)
    | simp -zeta only [keeps_mk, keepsC_fold, id_eq] | split

theorem keeps_portChanged (w : Twin) (p : Nat) (old new : List Byte) {s0 s : State} (hk : Keeps s0 s) : Keeps s0 (portChanged w p old new s) := by
  unfold portChanged
  repeat' first
    | with_reducible assumption | decide | intro _
    | ((fail_if_no_progress extract_lets +onlyGivenNames x); refine keeps_cut (s0 := s0) (x := x) ?_ ?_; on_goal 1 => subst x)
    | (fail_if_no_progress extract_lets +onlyGivenNames x)
    | with_reducible (first | apply keeps_requestEnum | apply keeps_portSwitched | apply keeps_ite | apply keeps_ite2 | apply keeps_ite22 | (refine keeps_eq2 (by with_reducible assumption) ?_) | (refine keeps_eq22 (by with_reducible assumption) ?_))
    | simp -zeta only [keeps_mk, keepsC_fold, id_eq] | (refine keepsC_le ?_ ?_ ?_) | omega | split | (clear_value *; split)

theorem keeps_entryChanged (w : Twin) (old : List Byte) (e : GraftEnt) {s0 s : State} (hk : Keeps s0 s)  : Keeps s0 (entryChanged w old e s) := by
  unfold entryChanged
  repeat' first
    | with_reducible assumption | intro _
    | ((fail_if_no_progress extract_lets +onlyGivenNames x); refine keeps_cut (s0 := s0) (x := x) ?_ ?_; on_goal 1 => subst x)
    | (fail_if_no_progress extract_lets +onlyGivenNames x)
    | with_reducible (first | apply keeps_State_sf | apply keeps_restartQueue | apply keeps_restartFlow | apply keeps_State_setBank | apply keeps_State_setBankState | apply keeps_State_clearBank | apply keeps_univChanged | apply keeps_flowChanged | apply keeps_restartLayer | apply keeps_restartFixture | apply keeps_portChanged | apply keeps_ite)
    | simp -zeta only [keeps_mk, keepsC_fold, id_eq] | split

theorem keeps_cfgChanged (w : Twin) (k : Nat) (before : State) {s0 s : State} (hk : Keeps s0 s)  : Keeps s0 (cfgChanged w k before s) := by
  unfold cfgChanged
  repeat' first
    | with_reducible assumption | intro _
    | ((fail_if_no_progress extract_lets +onlyGivenNames x); refine keeps_cut (s0 := s0) (x := x) ?_ ?_; on_goal 1 => subst x)
    | (fail_if_no_progress extract_lets +onlyGivenNames x)
    | with_reducible (first | apply keeps_State_setStrand | apply keeps_ite | apply keeps_foldl)
    | simp -zeta only [keeps_mk, keepsC_fold, id_eq] | split

theorem keeps_applyGraft (k : Nat) (w : Twin) {s0 s : State} (hk : Keeps s0 s) : Keeps s0 (applyGraft k w s) := by
  unfold applyGraft
  repeat' first
    | with_reducible assumption | decide | intro _
    | ((fail_if_no_progress extract_lets +onlyGivenNames x); refine keeps_cut (s0 := s0) (x := x) ?_ ?_; on_goal 1 => subst x)
    | (fail_if_no_progress extract_lets +onlyGivenNames x)
    | with_reducible (first | apply keeps_State_setReg | apply keeps_State_sf | apply keeps_State_sb | apply keeps_State_modTw | apply keeps_State_raiseTwin | apply keeps_State_frameFlag | apply keeps_scheduleState | apply keeps_State_modLay | apply keeps_watchSpare | apply keeps_writeSections | apply keeps_powerImage | apply keeps_setGraftState | apply keeps_releaseSlots | apply keeps_dropCommits | apply keeps_liveDefaults | apply keeps_entryChanged | apply keeps_cfgChanged | apply keeps_ite | apply keeps_ite2 | apply keeps_ite22 | apply keeps_foldl | apply keeps_foldl2 | (refine keeps_eq2 (by with_reducible assumption) ?_) | (refine keeps_eq22 (by with_reducible assumption) ?_))
    | simp -zeta only [keeps_mk, keepsC_fold, id_eq] | (refine keepsC_le ?_ ?_ ?_) | omega | split | (clear_value *; split)

theorem keeps_graftTick (fate : GraftFate) (k : Nat) {s0 s : State} (hk : Keeps s0 s) : Keeps s0 (graftTick fate k s) := by
  unfold graftTick
  repeat' first
    | with_reducible assumption | decide | intro _
    | ((fail_if_no_progress extract_lets +onlyGivenNames x); refine keeps_cut (s0 := s0) (x := x) ?_ ?_; on_goal 1 => subst x)
    | (fail_if_no_progress extract_lets +onlyGivenNames x)
    | with_reducible (first | apply keeps_State_setRole | apply keeps_State_refuse | apply keeps_refuseGraft | apply keeps_forgetGraft | apply keeps_refuseBoth | apply keeps_applyGraft | apply keeps_ite | apply keeps_ite2 | apply keeps_ite22 | (refine keeps_eq2 (by with_reducible assumption) ?_) | (refine keeps_eq22 (by with_reducible assumption) ?_))
    | simp -zeta only [keeps_mk, keepsC_fold, id_eq] | (refine keepsC_le ?_ ?_ ?_) | omega | split | (clear_value *; split)

/-! ### Machine/Flash.lean -/

theorem keeps_detectFlash  {s0 s : State} (hk : Keeps s0 s)  : Keeps s0 (detectFlash s) := by
  unfold detectFlash
  repeat' first
    | with_reducible assumption | intro _
    | with_reducible (first | apply keeps_State_setReg | apply keeps_State_sf | apply keeps_ite) | split

theorem keeps_flashRefuse (ch reason : Nat) {s0 s : State} (hk : Keeps s0 s)  : Keeps s0 (flashRefuse ch reason s) := by
  unfold flashRefuse
  repeat' first
    | with_reducible assumption | intro _ | with_reducible apply keeps_State_sf

theorem keeps_endVerify (slot code : Nat) {s0 s : State} (hk : Keeps s0 s)  : Keeps s0 (endVerify slot code s) := by
  unfold endVerify
  repeat' first
    | with_reducible assumption | intro _
    | ((fail_if_no_progress extract_lets +onlyGivenNames x); refine keeps_cut (s0 := s0) (x := x) ?_ ?_; on_goal 1 => subst x)
    | (fail_if_no_progress extract_lets +onlyGivenNames x)
    | with_reducible (first | apply keeps_State_sf | apply keeps_State_sb | apply keeps_ite) | split

theorem keeps_touchSlots (j : FlashJob) {s0 s : State} (hk : Keeps s0 s)  : Keeps s0 (touchSlots j s) := by
  unfold touchSlots
  repeat' first
    | with_reducible assumption | intro _
    | ((fail_if_no_progress extract_lets +onlyGivenNames x); refine keeps_cut (s0 := s0) (x := x) ?_ ?_; on_goal 1 => subst x)
    | (fail_if_no_progress extract_lets +onlyGivenNames x)
    | with_reducible (first | apply keeps_State_sf | apply keeps_endVerify | apply keeps_ite | apply keeps_foldl)
    | simp -zeta only [keeps_mk, keepsC_fold, id_eq] | split

theorem keeps_flashStart (src : Requester) (ch op len : Nat) {s0 s : State} (hk : Keeps s0 s)  : Keeps s0 (flashStart src ch op len s) := by
  unfold flashStart
  repeat' first
    | with_reducible assumption | intro _
    | ((fail_if_no_progress extract_lets +onlyGivenNames x); refine keeps_cut (s0 := s0) (x := x) ?_ ?_; on_goal 1 => subst x)
    | (fail_if_no_progress extract_lets +onlyGivenNames x)
    | with_reducible (first | apply keeps_flashRefuse | apply keeps_touchSlots | apply keeps_ite)
    | simp -zeta only [keeps_mk, keepsC_fold, id_eq] | split

theorem keeps_execFlashRead (t : Nat) (src : Requester) (ch : Fin 2) (len : Nat) {s0 s : State} (hk : Keeps s0 s)  : KeepsO s0 (execFlashRead t src ch len s) := by
  unfold execFlashRead
  repeat' first
    | with_reducible assumption | intro _
    | with_reducible (first | apply keeps_State_beginAt | apply keeps_State_thWrite | apply keeps_flashStart | apply keepsO_next | apply keepsO_ite)

theorem keeps_execFlashProgram (t : Nat) (src : Requester) (ch : Fin 2) (len : Nat) {s0 s : State} (hk : Keeps s0 s)  : KeepsO s0 (execFlashProgram t src ch len s) := by
  unfold execFlashProgram
  repeat' first
    | with_reducible assumption | intro _
    | with_reducible (first | apply keeps_State_beginAt | apply keeps_State_thWrite | apply keeps_flashStart | apply keepsO_next | apply keepsO_ite)

theorem keeps_execFlashErase4k (t : Nat) (src : Requester) (ch : Fin 2) {s0 s : State} (hk : Keeps s0 s)  : KeepsO s0 (execFlashErase4k t src ch s) := by
  unfold execFlashErase4k
  repeat' first
    | with_reducible assumption | intro _
    | with_reducible (first | apply keeps_State_beginAt | apply keeps_State_thWrite | apply keeps_flashStart | apply keepsO_next | apply keepsO_ite)

theorem keeps_execFlashErase64k (t : Nat) (src : Requester) (ch : Fin 2) {s0 s : State} (hk : Keeps s0 s)  : KeepsO s0 (execFlashErase64k t src ch s) := by
  unfold execFlashErase64k
  repeat' first
    | with_reducible assumption | intro _
    | with_reducible (first | apply keeps_State_beginAt | apply keeps_State_thWrite | apply keeps_flashStart | apply keepsO_next | apply keepsO_ite)

theorem keeps_execFlashReadSfdp (t : Nat) (src : Requester) (ch : Fin 2) (len : Nat) {s0 s : State} (hk : Keeps s0 s)  : KeepsO s0 (execFlashReadSfdp t src ch len s) := by
  unfold execFlashReadSfdp
  repeat' first
    | with_reducible assumption | intro _
    | with_reducible (first | apply keeps_State_beginAt | apply keeps_State_thWrite | apply keeps_flashStart | apply keepsO_next | apply keepsO_ite)

theorem keeps_execFlashCopy (t : Nat) (src : Requester) (ch : Fin 2) (len : Nat) {s0 s : State} (hk : Keeps s0 s)  : KeepsO s0 (execFlashCopy t src ch len s) := by
  unfold execFlashCopy
  repeat' first
    | with_reducible assumption | intro _
    | with_reducible (first | apply keeps_State_beginAt | apply keeps_State_thWrite | apply keeps_flashStart | apply keepsO_next | apply keepsO_ite)

theorem keeps_flashTake (a n : Nat) {s0 s : State} (hk : Keeps s0 s)  : Keeps s0 (flashTake a n s).2 := by
  unfold flashTake
  repeat' first
    | with_reducible assumption | intro _ | with_reducible (first | apply keeps_State_fresh | apply keeps_ite | apply keeps_ite2)
    | simp -zeta only [keeps_mk, keepsC_fold, id_eq] | split

theorem keeps_flashPut (a : Nat) (bs : List Byte) {s0 s : State} (hk : Keeps s0 s)  : Keeps s0 (flashPut a bs s) := by
  unfold flashPut
  repeat' first
    | with_reducible assumption | intro _ | with_reducible (first | apply keeps_State_wrBytes | apply keeps_ite) | split

theorem keeps_flashErase (a n : Nat) {s0 s : State} (hk : Keeps s0 s)  : Keeps s0 (flashErase a n s) := by
  unfold flashErase
  repeat' first
    | with_reducible assumption | intro _ | with_reducible (first | apply keeps_State_resetMem | apply keeps_ite) | split

theorem keeps_flashRun (j : FlashJob) {s0 s : State} (hk : Keeps s0 s)  : Keeps s0 (flashRun j s) := by
  unfold flashRun
  repeat' first
    | with_reducible assumption | intro _
    | ((fail_if_no_progress extract_lets +onlyGivenNames x); refine keeps_cut (s0 := s0) (x := x) ?_ ?_; on_goal 1 => subst x)
    | (fail_if_no_progress extract_lets +onlyGivenNames x)
    | with_reducible (first | apply keeps_State_wrBytes | apply keeps_State_each | apply keeps_State_fresh | apply keeps_flashTake | apply keeps_flashPut | apply keeps_flashErase | (refine keeps_eq2 (by with_reducible assumption) ?_) | (refine keeps_eq22 (by with_reducible assumption) ?_))
    | simp -zeta only [keeps_mk, keepsC_fold, id_eq] | split

theorem keeps_execFlashCmdDone (t : Nat) (ch : Fin 2) {s0 s : State} (hk : Keeps s0 s)  : KeepsO s0 (execFlashCmdDone t ch s) := by
  unfold execFlashCmdDone
  repeat' first
    | with_reducible assumption | intro _
    | ((fail_if_no_progress extract_lets +onlyGivenNames x); refine keeps_cut (s0 := s0) (x := x) ?_ ?_; on_goal 1 => subst x)
    | (fail_if_no_progress extract_lets +onlyGivenNames x)
    | with_reducible (first | apply keeps_State_sb | apply keeps_State_beginAt | apply keeps_flashRun | apply keepsO_next | apply keepsO_ite | apply keeps_ite)
    | simp -zeta only [keeps_mk, keepsC_fold, id_eq] | split

theorem keeps_execFlashTimeout (t : Nat) (ch : Fin 2) {s0 s : State} (hk : Keeps s0 s)  : KeepsO s0 (execFlashTimeout t ch s) := by
  unfold execFlashTimeout
  repeat' first
    | with_reducible assumption | intro _
    | ((fail_if_no_progress extract_lets +onlyGivenNames x); refine keeps_cut (s0 := s0) (x := x) ?_ ?_; on_goal 1 => subst x)
    | (fail_if_no_progress extract_lets +onlyGivenNames x)
    | with_reducible (first | apply keeps_State_wrBytes | apply keeps_State_fresh | apply keeps_State_beginAt | apply keeps_flashRefuse | apply keepsO_next | apply keepsO_ite | apply keeps_ite)
    | simp -zeta only [keeps_mk, keepsC_fold, id_eq] | split

theorem keeps_execBootRecordWrite (t : Nat) {s0 s : State} (hk : Keeps s0 s)  : KeepsO s0 (execBootRecordWrite t s) := by
  unfold execBootRecordWrite
  repeat' first
    | with_reducible assumption | intro _
    | ((fail_if_no_progress extract_lets +onlyGivenNames x); refine keeps_cut (s0 := s0) (x := x) ?_ ?_; on_goal 1 => subst x)
    | (fail_if_no_progress extract_lets +onlyGivenNames x)
    | with_reducible (first | apply keeps_State_beginAt | apply keeps_programRecord | apply keepsO_next | apply keepsO_ite | apply keeps_ite)
    | simp -zeta only [keeps_mk, keepsC_fold, id_eq] | split

theorem keeps_bootVerify (slot : Nat) {s0 s : State} (hk : Keeps s0 s)  : Keeps s0 (bootVerify slot s) := by
  unfold bootVerify
  repeat' first
    | with_reducible assumption | intro _
    | ((fail_if_no_progress extract_lets +onlyGivenNames x); refine keeps_cut (s0 := s0) (x := x) ?_ ?_; on_goal 1 => subst x)
    | (fail_if_no_progress extract_lets +onlyGivenNames x)
    | with_reducible (first | apply keeps_State_sb | apply keeps_flashRefuse | apply keeps_ite)
    | simp -zeta only [keeps_mk, keepsC_fold, id_eq] | split

theorem keeps_execBootVerify (t : Nat) (src : Requester) (v : Word) {s0 s : State} (hk : Keeps s0 s)  : KeepsO s0 (execBootVerify t src v s) := by
  unfold execBootVerify
  repeat' first
    | with_reducible assumption | intro _
    | with_reducible (first | apply keeps_State_beginAt | apply keeps_State_thWrite | apply keeps_bootVerify | apply keepsO_next | apply keepsO_ite)

theorem keeps_execBootVerifyDone (t : Nat) {s0 s : State} (hk : Keeps s0 s)  : KeepsO s0 (execBootVerifyDone t s) := by
  unfold execBootVerifyDone
  repeat' first
    | with_reducible assumption | intro _
    | ((fail_if_no_progress extract_lets +onlyGivenNames x); refine keeps_cut (s0 := s0) (x := x) ?_ ?_; on_goal 1 => subst x)
    | (fail_if_no_progress extract_lets +onlyGivenNames x)
    | with_reducible (first | apply keeps_State_beginAt | apply keeps_endVerify | apply keepsO_next | apply keepsO_ite | apply keeps_ite)
    | simp -zeta only [keeps_mk, keepsC_fold, id_eq] | split

/-! ### Machine/Update.lean -/

theorem keeps_State_keyErr  {s0 s : State} (hk : Keeps s0 s)  : Keeps s0 (State.keyErr s) := by
  unfold State.keyErr
  repeat' first
    | with_reducible assumption | intro _ | with_reducible apply keeps_State_bump

theorem keeps_restartNow (w : Twin) {s0 s : State} (hk : Keeps s0 s)  : Keeps s0 (restartNow w s) := by
  unfold restartNow
  repeat' first
    | with_reducible assumption | decide | intro _
    | ((fail_if_no_progress extract_lets +onlyGivenNames x); refine keeps_cut (s0 := s0) (x := x) ?_ ?_; on_goal 1 => subst x)
    | (fail_if_no_progress extract_lets +onlyGivenNames x)
    | with_reducible (first | apply keeps_restartFirmware | apply keeps_State_setRole | apply keeps_ite) | split

theorem keeps_restartOn (w : Twin) {s0 s : State} (hk : Keeps s0 s) : Keeps s0 (restartOn w s) := by
  unfold restartOn
  repeat' first
    | with_reducible assumption | decide | intro _
    | ((fail_if_no_progress extract_lets +onlyGivenNames x); refine keeps_cut (s0 := s0) (x := x) ?_ ?_; on_goal 1 => subst x)
    | (fail_if_no_progress extract_lets +onlyGivenNames x)
    | with_reducible (first | apply keeps_startFirmware | apply keeps_State_addSwap | apply keeps_State_resetKeepingDram | apply keeps_inPlaceStart | apply keeps_restartNow | apply keeps_ite | apply keeps_ite2 | apply keeps_ite22 | (refine keeps_eq2 (by with_reducible assumption) ?_) | (refine keeps_eq22 (by with_reducible assumption) ?_))
    | simp -zeta only [keeps_mk, keepsC_fold, id_eq] | (refine keepsC_le ?_ ?_ ?_) | omega | split | (clear_value *; split)

theorem keeps_swapTick  {s0 s : State} (hk : Keeps s0 s)  : Keeps s0 (swapTick s) := by
  unfold swapTick
  repeat' first
    | with_reducible assumption | intro _
    | ((fail_if_no_progress extract_lets +onlyGivenNames x); refine keeps_cut (s0 := s0) (x := x) ?_ ?_; on_goal 1 => subst x)
    | (fail_if_no_progress extract_lets +onlyGivenNames x)
    | with_reducible (first | apply keeps_State_doSwapDue | apply keeps_restartNow | apply keeps_restartOn | apply keeps_ite)
    | simp -zeta only [keeps_mk, keepsC_fold, id_eq] | split

theorem keeps_inPlaceTick  {s0 s : State} (hk : Keeps s0 s)  : Keeps s0 (inPlaceTick s) := by
  unfold inPlaceTick
  repeat' first
    | with_reducible assumption | intro _
    | ((fail_if_no_progress extract_lets +onlyGivenNames x); refine keeps_cut (s0 := s0) (x := x) ?_ ?_; on_goal 1 => subst x)
    | (fail_if_no_progress extract_lets +onlyGivenNames x)
    | with_reducible (first | apply keeps_inPlaceStart | apply keeps_restartOn | apply keeps_ite)
    | simp -zeta only [keeps_mk, keepsC_fold, id_eq] | split

theorem keeps_execInPlaceRestart (t : Nat) {s0 s : State} (hk : Keeps s0 s)  : KeepsO s0 (execInPlaceRestart t s) := by
  unfold execInPlaceRestart
  repeat' first
    | with_reducible assumption | intro _
    | ((fail_if_no_progress extract_lets +onlyGivenNames x); refine keeps_cut (s0 := s0) (x := x) ?_ ?_; on_goal 1 => subst x)
    | (fail_if_no_progress extract_lets +onlyGivenNames x)
    | with_reducible (first | apply keeps_State_beginAt | apply keeps_inPlaceTick | apply keepsO_next | apply keepsO_ite | apply keeps_ite)
    | split

theorem keeps_inPlaceReturn {s0 s : State} (hk : Keeps s0 s) : Keeps s0 (inPlaceReturn s) := by
  unfold inPlaceReturn
  split
  · exact hk
  · rename_i h _
    split
    · exact hk
    split
    · extract_lets b x
      have h1 : Keeps s0 x := keeps_same hk rfl rfl rfl rfl
      exact keeps_ite h1 fun _ => keeps_State_setRole _ _ (by decide) h1
    rename_i hn
    extract_lets w own keep s1 s2 tw cv s3 s4 dev boot s5
    have k1 : Keeps s0 s1 := keeps_foldl hk fun x e hx => keeps_State_setReg hx _ _
    have r1 : s1.role = s.role := role_foldl _ (fun x e => role_setReg _ _ _) _ _
    have k2 : Keeps s0 s2 := keeps_foldl k1 fun x e hx => keeps_State_wrB hx _ _
    have r2 : s2.role = s.role := (role_foldl _ (fun x e => role_wrB _ _ _) _ _).trans r1
    have k3 : Keeps s0 s3 := keeps_State_modTw _ _ k2
    have r3 : s3.role = s.role := (role_modTw _ _ _).trans r2
    have k4 : Keeps s0 s4 := keeps_setGraftState _ _ k3
    have r4 : s4.role = s.role := (role_sf _ _ _ _).trans r3
    have k5 : Keeps s0 s5 := keeps_same k4 rfl rfl rfl rfl
    refine keeps_State_forceFullAll (keeps_State_setRole_active _ ?_ k5)
    rw [roleOf_congr (u := s5) (s := s) r4]
    exact roleOf_of_active_none (by simpa using hn) _

theorem keeps_execInPlaceRebuildDone (t : Nat) {s0 s : State} (hk : Keeps s0 s)  : KeepsO s0 (execInPlaceRebuildDone t s) := by
  unfold execInPlaceRebuildDone
  repeat' first
    | with_reducible assumption | intro _
    | ((fail_if_no_progress extract_lets +onlyGivenNames x); refine keeps_cut (s0 := s0) (x := x) ?_ ?_; on_goal 1 => subst x)
    | (fail_if_no_progress extract_lets +onlyGivenNames x)
    | with_reducible (first | apply keeps_State_beginAt | apply keepsO_next | apply keepsO_ite | apply keeps_ite)
    | simp -zeta only [keeps_mk, keepsC_fold, id_eq] | split

theorem keeps_bootCtl (v : Word) {s0 s : State} (hk : Keeps s0 s)  : Keeps s0 (bootCtl v s) := by
  unfold bootCtl
  repeat' first
    | with_reducible assumption | intro _
    | ((fail_if_no_progress extract_lets +onlyGivenNames x); refine keeps_cut (s0 := s0) (x := x) ?_ ?_; on_goal 1 => subst x)
    | (fail_if_no_progress extract_lets +onlyGivenNames x)
    | with_reducible (first | apply keeps_State_sf | apply keeps_State_setRec | apply keeps_State_keyErr | apply keeps_restartOn | apply keeps_ite)
    | simp -zeta only [keeps_mk, keepsC_fold, id_eq] | split

theorem keeps_execBootAct (t : Nat) (src : Requester) (v : Word) {s0 s : State} (hk : Keeps s0 s)  : KeepsO s0 (execBootAct t src v s) := by
  unfold execBootAct
  repeat' first
    | with_reducible assumption | intro _
    | with_reducible (first | apply keeps_State_beginAt | apply keeps_State_thWrite | apply keeps_bootCtl | apply keepsO_next | apply keepsO_ite)

theorem keeps_trialStarts (w : Twin) {s0 s : State} (hk : Keeps s0 s)  : Keeps s0 (trialStarts w s) := by
  unfold trialStarts
  repeat' first
    | with_reducible assumption | intro _
    | ((fail_if_no_progress extract_lets +onlyGivenNames x); refine keeps_cut (s0 := s0) (x := x) ?_ ?_; on_goal 1 => subst x)
    | (fail_if_no_progress extract_lets +onlyGivenNames x) | with_reducible (first | apply keeps_State_raiseTh | apply keeps_ite)
    | simp -zeta only [keeps_mk, keepsC_fold, id_eq] | split

theorem keeps_revert (w : Twin) (reason : Nat) {s0 s : State} (hk : Keeps s0 s)  : Keeps s0 (revert w reason s) := by
  unfold revert
  repeat' first
    | with_reducible assumption | intro _ | with_reducible (first | apply keeps_revertRecord | apply keeps_restartOn)

theorem keeps_execTrialExpired (t : Nat) {s0 s : State} (hk : Keeps s0 s)  : KeepsO s0 (execTrialExpired t s) := by
  unfold execTrialExpired
  repeat' first
    | with_reducible assumption | intro _
    | ((fail_if_no_progress extract_lets +onlyGivenNames x); refine keeps_cut (s0 := s0) (x := x) ?_ ?_; on_goal 1 => subst x)
    | (fail_if_no_progress extract_lets +onlyGivenNames x)
    | with_reducible (first | apply keeps_State_each | apply keeps_State_beginAt | apply keeps_revert | apply keepsO_next | apply keepsO_ite | (refine keeps_eq2 (by with_reducible assumption) ?_) | (refine keeps_eq22 (by with_reducible assumption) ?_))
    | simp -zeta only [keeps_mk, keepsC_fold, id_eq] | split

theorem keeps_execTrialStartTimeout (t : Nat) {s0 s : State} (hk : Keeps s0 s)  : KeepsO s0 (execTrialStartTimeout t s) := by
  unfold execTrialStartTimeout
  repeat' first
    | with_reducible assumption | intro _
    | ((fail_if_no_progress extract_lets +onlyGivenNames x); refine keeps_cut (s0 := s0) (x := x) ?_ ?_; on_goal 1 => subst x)
    | (fail_if_no_progress extract_lets +onlyGivenNames x)
    | with_reducible (first | apply keeps_State_each | apply keeps_State_beginAt | apply keeps_revert | apply keepsO_next | apply keepsO_ite | (refine keeps_eq2 (by with_reducible assumption) ?_) | (refine keeps_eq22 (by with_reducible assumption) ?_))
    | simp -zeta only [keeps_mk, keepsC_fold, id_eq] | split

theorem keeps_confirmRefused (w : Twin) {s0 s : State} (hk : Keeps s0 s)  : Keeps s0 (confirmRefused w s) := by
  unfold confirmRefused
  repeat' first
    | with_reducible assumption | intro _ | with_reducible apply keeps_State_sb

theorem keeps_confirm18 (v : Word) (w : Twin) {s0 s : State} (hk : Keeps s0 s)  : Keeps s0 (confirm18 v w s) := by
  unfold confirm18
  repeat' first
    | with_reducible assumption | intro _
    | ((fail_if_no_progress extract_lets +onlyGivenNames x); refine keeps_cut (s0 := s0) (x := x) ?_ ?_; on_goal 1 => subst x)
    | (fail_if_no_progress extract_lets +onlyGivenNames x)
    | with_reducible (first | apply keeps_State_raiseTh | apply keeps_State_setRec | apply keeps_confirmRefused | apply keeps_ite)
    | simp -zeta only [keeps_mk, keepsC_fold, id_eq] | split

theorem keeps_confirmVia (via : Via) (v : Word) (w : Twin) {s0 s : State} (hk : Keeps s0 s)  : Keeps s0 (confirmVia via v w s) := by
  unfold confirmVia
  repeat' first
    | with_reducible assumption | intro _ | with_reducible (first | apply keeps_confirm18 | apply keeps_ite) | split

theorem keeps_execUpdHealthConfirm (t : Nat) (via : Via) (v : Word) {s0 s : State} (hk : Keeps s0 s)  : KeepsO s0 (execUpdHealthConfirm t via v s) := by
  unfold execUpdHealthConfirm
  repeat' first
    | with_reducible assumption | intro _
    | with_reducible (first | apply keeps_State_beginAt | apply keeps_State_deliver | apply keeps_confirmVia | apply keepsO_next | apply keepsO_ite)

theorem keeps_settingsStart (w : Twin) {s0 s : State} (hk : Keeps s0 s)  : Keeps s0 (settingsStart w s) := by
  unfold settingsStart
  repeat' first
    | with_reducible assumption | decide | intro _
    | ((fail_if_no_progress extract_lets +onlyGivenNames x); refine keeps_cut (s0 := s0) (x := x) ?_ ?_; on_goal 1 => subst x)
    | (fail_if_no_progress extract_lets +onlyGivenNames x)
    | with_reducible (first | apply keeps_State_setReg | apply keeps_State_sf | apply keeps_State_sb | apply keeps_State_modTw | apply keeps_State_raiseTwin | apply keeps_ite | apply keeps_ite2 | apply keeps_ite22 | apply keeps_foldl | apply keeps_foldl2 | (refine keeps_eq2 (by with_reducible assumption) ?_) | (refine keeps_eq22 (by with_reducible assumption) ?_))
    | simp -zeta only [keeps_mk, keepsC_fold, id_eq] | (refine keepsC_le ?_ ?_ ?_) | omega | split | (clear_value *; split)

theorem keeps_putSettings (h seq format : Nat) (body : List Byte) {s0 s : State} (hk : Keeps s0 s)  : Keeps s0 (putSettings h seq format body s) := by
  unfold putSettings
  repeat' first
    | with_reducible assumption | intro _
    | ((fail_if_no_progress extract_lets +onlyGivenNames x); refine keeps_cut (s0 := s0) (x := x) ?_ ?_; on_goal 1 => subst x)
    | (fail_if_no_progress extract_lets +onlyGivenNames x)
    | with_reducible (first | apply keeps_State_wrBytes | apply keeps_flashErase) | simp -zeta only [keeps_mk, keepsC_fold, id_eq]

theorem keeps_execSettingsWrite (t : Nat) (w : Twin) {s0 s : State} (hk : Keeps s0 s)  : KeepsO s0 (execSettingsWrite t w s) := by
  unfold execSettingsWrite
  repeat' first
    | with_reducible assumption | intro _
    | ((fail_if_no_progress extract_lets +onlyGivenNames x); refine keeps_cut (s0 := s0) (x := x) ?_ ?_; on_goal 1 => subst x)
    | (fail_if_no_progress extract_lets +onlyGivenNames x)
    | with_reducible (first | apply keeps_State_sb | apply keeps_State_modTw | apply keeps_State_fresh | apply keeps_State_beginAt | apply keeps_State_setRec | apply keeps_putSettings | apply keepsO_next | apply keepsO_ite | apply keeps_ite | apply keeps_ite2 | (refine keeps_eq2 (by with_reducible assumption) ?_) | (refine keeps_eq22 (by with_reducible assumption) ?_))
    | simp -zeta only [keeps_mk, keepsC_fold, id_eq] | split

theorem keeps_otpRefuse  {s0 s : State} (hk : Keeps s0 s)  : Keeps s0 (otpRefuse s) := by
  unfold otpRefuse
  repeat' first
    | with_reducible assumption | intro _ | with_reducible apply keeps_State_sb

theorem keeps_otpCmd (v : Word) {s0 s : State} (hk : Keeps s0 s)  : Keeps s0 (otpCmd v s) := by
  unfold otpCmd
  repeat' first
    | with_reducible assumption | intro _
    | ((fail_if_no_progress extract_lets +onlyGivenNames x); refine keeps_cut (s0 := s0) (x := x) ?_ ?_; on_goal 1 => subst x)
    | (fail_if_no_progress extract_lets +onlyGivenNames x)
    | with_reducible (first | apply keeps_State_wrBytes | apply keeps_State_sf | apply keeps_State_keyErr | apply keeps_otpRefuse | apply keeps_ite)
    | simp -zeta only [keeps_mk, keepsC_fold, id_eq] | split

theorem keeps_execOtpProgram (t : Nat) (src : Requester) (v : Word) {s0 s : State} (hk : Keeps s0 s)  : KeepsO s0 (execOtpProgram t src v s) := by
  unfold execOtpProgram
  repeat' first
    | with_reducible assumption | intro _
    | with_reducible (first | apply keeps_State_beginAt | apply keeps_State_thWrite | apply keeps_otpCmd | apply keepsO_next | apply keepsO_ite)

theorem keeps_execOtpRevoke (t : Nat) (src : Requester) (v : Word) {s0 s : State} (hk : Keeps s0 s)  : KeepsO s0 (execOtpRevoke t src v s) := by
  unfold execOtpRevoke
  repeat' first
    | with_reducible assumption | intro _
    | with_reducible (first | apply keeps_State_beginAt | apply keeps_State_thWrite | apply keeps_otpCmd | apply keepsO_next | apply keepsO_ite)

theorem keeps_rejBoot (v : Word) {s0 s : State} (hk : Keeps s0 s)  : Keeps s0 (rejBoot v s) := by
  unfold rejBoot
  repeat' first
    | with_reducible assumption | intro _
    | with_reducible (first | apply keeps_State_sf | apply keeps_State_plainWrite | apply keeps_ite) | split

theorem keeps_execRejBootWrite (t : Nat) (src : Requester) (v : Word) {s0 s : State} (hk : Keeps s0 s)  : KeepsO s0 (execRejBootWrite t src v s) := by
  unfold execRejBootWrite
  repeat' first
    | with_reducible assumption | intro _
    | with_reducible (first | apply keeps_State_beginAt | apply keeps_State_thWrite | apply keeps_rejBoot | apply keepsO_next | apply keepsO_ite)

theorem keeps_setPkg (w : Twin) (f : Fld) (v : Nat) {s0 s : State} (hk : Keeps s0 s)  : Keeps s0 (setPkg w f v s) := by
  unfold setPkg
  repeat' first
    | with_reducible assumption | intro _ | with_reducible apply keeps_State_sf

theorem keeps_pkgRefuse (w : Twin) (reason : Nat) {s0 s : State} (hk : Keeps s0 s)  : Keeps s0 (pkgRefuse w reason s) := by
  unfold pkgRefuse
  repeat' first
    | with_reducible assumption | intro _ | with_reducible (first | apply keeps_State_raiseTwin | apply keeps_setPkg)

theorem keeps_exportStart (w : Twin) {s0 s : State} (hk : Keeps s0 s)  : Keeps s0 (exportStart w s) := by
  unfold exportStart
  repeat' first
    | with_reducible assumption | intro _ | with_reducible (first | apply keeps_setPkg | apply keeps_pkgRefuse | apply keeps_ite)
    | split

theorem keeps_packageBody (w : Twin) {s0 s : State} (hk : Keeps s0 s)  : Keeps s0 (packageBody w s).2 := by
  unfold packageBody
  repeat' first
    | with_reducible assumption | intro _
    | ((fail_if_no_progress extract_lets +onlyGivenNames x); refine keeps_cut (s0 := s0) (x := x) ?_ ?_; on_goal 1 => subst x)
    | (fail_if_no_progress extract_lets +onlyGivenNames x)
    | with_reducible (first | apply keeps_State_fresh | (refine keeps_eq2 (by with_reducible assumption) ?_) | (refine keeps_eq22 (by with_reducible assumption) ?_))
    | simp -zeta only [keeps_mk, keepsC_fold, id_eq] | split

theorem keeps_package (w : Twin) {s0 s : State} (hk : Keeps s0 s)  : Keeps s0 (package w s).2 := by
  unfold package
  repeat' first
    | with_reducible assumption | intro _
    | ((fail_if_no_progress extract_lets +onlyGivenNames x); refine keeps_cut (s0 := s0) (x := x) ?_ ?_; on_goal 1 => subst x)
    | (fail_if_no_progress extract_lets +onlyGivenNames x)
    | with_reducible (first | apply keeps_packageBody | (refine keeps_eq2 (by with_reducible assumption) ?_) | (refine keeps_eq22 (by with_reducible assumption) ?_))
    | simp -zeta only [keeps_mk, keepsC_fold, id_eq]

theorem keeps_importStart (w : Twin) {s0 s : State} (hk : Keeps s0 s)  : Keeps s0 (importStart w s) := by
  unfold importStart
  repeat' first
    | with_reducible assumption | intro _
    | ((fail_if_no_progress extract_lets +onlyGivenNames x); refine keeps_cut (s0 := s0) (x := x) ?_ ?_; on_goal 1 => subst x)
    | (fail_if_no_progress extract_lets +onlyGivenNames x)
    | with_reducible (first | apply keeps_State_modTw | apply keeps_setPkg | apply keeps_pkgRefuse)
    | simp -zeta only [keeps_mk, keepsC_fold, id_eq] | split

theorem keeps_pkgCmd (v : Word) (w : Twin) {s0 s : State} (hk : Keeps s0 s)  : Keeps s0 (pkgCmd v w s) := by
  unfold pkgCmd
  repeat' first
    | with_reducible assumption | intro _
    | ((fail_if_no_progress extract_lets +onlyGivenNames x); refine keeps_cut (s0 := s0) (x := x) ?_ ?_; on_goal 1 => subst x)
    | (fail_if_no_progress extract_lets +onlyGivenNames x)
    | with_reducible (first | apply keeps_exportStart | apply keeps_importStart) | simp -zeta only [keeps_mk, keepsC_fold, id_eq]
    | split

theorem keeps_execPkgExport (t : Nat) (via : Via) (v : Word) {s0 s : State} (hk : Keeps s0 s)  : KeepsO s0 (execPkgExport t via v s) := by
  unfold execPkgExport
  repeat' first
    | with_reducible assumption | intro _
    | with_reducible (first | apply keeps_State_beginAt | apply keeps_State_deliver | apply keeps_pkgCmd | apply keepsO_next | apply keepsO_ite | apply keeps_ite)
    | split

theorem keeps_execPkgImport (t : Nat) (via : Via) (v : Word) {s0 s : State} (hk : Keeps s0 s)  : KeepsO s0 (execPkgImport t via v s) := by
  unfold execPkgImport
  repeat' first
    | with_reducible assumption | intro _
    | with_reducible (first | apply keeps_State_beginAt | apply keeps_State_deliver | apply keeps_pkgCmd | apply keepsO_next | apply keepsO_ite | apply keeps_ite)
    | split

theorem keeps_importSettings (b : List Byte) {s0 s : State} (hk : Keeps s0 s)  : Keeps s0 (importSettings b s) := by
  unfold importSettings
  repeat' first
    | with_reducible assumption | intro _
    | ((fail_if_no_progress extract_lets +onlyGivenNames x); refine keeps_cut (s0 := s0) (x := x) ?_ ?_; on_goal 1 => subst x)
    | (fail_if_no_progress extract_lets +onlyGivenNames x)
    | with_reducible (first | apply keeps_State_wrBytes | apply keeps_flashErase | apply keeps_ite) | split

theorem keeps_importTick (w : Twin) {s0 s : State} (hk : Keeps s0 s)  : Keeps s0 (importTick w s) := by
  unfold importTick
  repeat' first
    | with_reducible assumption | intro _
    | ((fail_if_no_progress extract_lets +onlyGivenNames x); refine keeps_cut (s0 := s0) (x := x) ?_ ?_; on_goal 1 => subst x)
    | (fail_if_no_progress extract_lets +onlyGivenNames x)
    | with_reducible (first | apply keeps_State_reset | apply keeps_State_wrBytes | apply keeps_State_setReg | apply keeps_State_modTw | apply keeps_State_writeTrim | apply keeps_setPkg | apply keeps_importSettings | apply keeps_ite | apply keeps_foldl)
    | simp -zeta only [keeps_mk, keepsC_fold, id_eq] | split

theorem keeps_execPkgDone (t : Nat) (w : Twin) {s0 s : State} (hk : Keeps s0 s)  : KeepsO s0 (execPkgDone t w s) := by
  unfold execPkgDone
  repeat' first
    | with_reducible assumption | intro _
    | ((fail_if_no_progress extract_lets +onlyGivenNames x); refine keeps_cut (s0 := s0) (x := x) ?_ ?_; on_goal 1 => subst x)
    | (fail_if_no_progress extract_lets +onlyGivenNames x)
    | with_reducible (first | apply keeps_State_wrBytes | apply keeps_State_beginAt | apply keeps_State_raiseTwin | apply keeps_setPkg | apply keeps_package | apply keepsO_next | apply keepsO_ite | apply keeps_ite | apply keeps_ite2 | (refine keeps_eq2 (by with_reducible assumption) ?_) | (refine keeps_eq22 (by with_reducible assumption) ?_))
    | simp -zeta only [keeps_mk, keepsC_fold, id_eq] | split

/-! ### Machine/Mailbox.lean -/

theorem keeps_State_setMbxPort (portB : Bool) (x : MbxAcc) {s0 s : State} (hk : Keeps s0 s)  : Keeps s0 (State.setMbxPort s portB x) := by
  unfold State.setMbxPort
  repeat' first
    | with_reducible assumption | intro _
    | ((fail_if_no_progress extract_lets +onlyGivenNames x); refine keeps_cut (s0 := s0) (x := x) ?_ ?_; on_goal 1 => subst x)
    | (fail_if_no_progress extract_lets +onlyGivenNames x) | with_reducible apply keeps_ite
    | simp -zeta only [keeps_mk, keepsC_fold, id_eq] | split

theorem keeps_State_raiseThOnce (n data : Nat) {s0 s : State} (hk : Keeps s0 s)  : Keeps s0 (State.raiseThOnce s n data) := by
  unfold State.raiseThOnce
  repeat' first
    | with_reducible assumption | intro _
    | ((fail_if_no_progress extract_lets +onlyGivenNames x); refine keeps_cut (s0 := s0) (x := x) ?_ ?_; on_goal 1 => subst x)
    | (fail_if_no_progress extract_lets +onlyGivenNames x) | with_reducible (first | apply keeps_State_raiseTh | apply keeps_ite)
    | simp -zeta only [keeps_mk, keepsC_fold, id_eq] | split

theorem keeps_mbxBusy (portB read : Bool) (word : Nat) (src : Option Requester) {s0 s : State} (hk : Keeps s0 s)  : Keeps s0 (mbxBusy portB read word src s) := by
  unfold mbxBusy
  repeat' first
    | with_reducible assumption | intro _
    | ((fail_if_no_progress extract_lets +onlyGivenNames x); refine keeps_cut (s0 := s0) (x := x) ?_ ?_; on_goal 1 => subst x)
    | (fail_if_no_progress extract_lets +onlyGivenNames x)
    | with_reducible (first | apply keeps_State_sf | apply keeps_State_sb | apply keeps_State_bump | apply keeps_State_raiseThOnce | apply keeps_ite)
    | split

theorem keeps_State_putMbx (word : Nat) (v : Word) {s0 s : State} (hk : Keeps s0 s)  : Keeps s0 (State.putMbx s word v) := by
  unfold State.putMbx
  repeat' first
    | with_reducible assumption | intro _ | with_reducible apply keeps_State_wrBytes

theorem keeps_mbxStands (portB : Bool) (src : Option Requester) (word : Nat) (v : Word) {s0 s : State} (hk : Keeps s0 s)  : Keeps s0 (mbxStands portB src word v s) := by
  unfold mbxStands
  repeat' first
    | with_reducible assumption | intro _
    | ((fail_if_no_progress extract_lets +onlyGivenNames x); refine keeps_cut (s0 := s0) (x := x) ?_ ?_; on_goal 1 => subst x)
    | (fail_if_no_progress extract_lets +onlyGivenNames x)
    | with_reducible (first | apply keeps_State_raiseTh | apply keeps_State_setMbxPort | apply keeps_State_putMbx | apply keeps_ite)
    | simp -zeta only [keeps_mk, keepsC_fold, id_eq] | split

theorem keeps_mbxWriteAt (portB : Bool) (src : Option Requester) (word : Nat) (v : Word) {s0 s : State} (hk : Keeps s0 s)  : Keeps s0 (mbxWriteAt portB src word v s) := by
  unfold mbxWriteAt
  repeat' first
    | with_reducible assumption | intro _
    | ((fail_if_no_progress extract_lets +onlyGivenNames x); refine keeps_cut (s0 := s0) (x := x) ?_ ?_; on_goal 1 => subst x)
    | (fail_if_no_progress extract_lets +onlyGivenNames x)
    | with_reducible (first | apply keeps_mbxBusy | apply keeps_mbxStands | apply keeps_ite)
    | simp -zeta only [keeps_mk, keepsC_fold, id_eq] | split

theorem keeps_mbxReadAt (portB : Bool) (src : Option Requester) (word : Nat) {s0 s : State} (hk : Keeps s0 s)  : Keeps s0 (mbxReadAt portB src word s).2 := by
  unfold mbxReadAt
  repeat' first
    | with_reducible assumption | intro _
    | ((fail_if_no_progress extract_lets +onlyGivenNames x); refine keeps_cut (s0 := s0) (x := x) ?_ ?_; on_goal 1 => subst x)
    | (fail_if_no_progress extract_lets +onlyGivenNames x)
    | with_reducible (first | apply keeps_State_fresh | apply keeps_State_setMbxPort | apply keeps_mbxBusy | apply keeps_ite | apply keeps_ite2)
    | simp -zeta only [keeps_mk, keepsC_fold, id_eq] | split

theorem keeps_execMbxWrite (t : Nat) (portB : Bool) (src : Requester) (word : Nat) (v : LaneWord) {s0 s : State} (hk : Keeps s0 s)  : KeepsO s0 (execMbxWrite t portB src word v s) := by
  unfold execMbxWrite
  repeat' first
    | with_reducible assumption | intro _
    | ((fail_if_no_progress extract_lets +onlyGivenNames x); refine keeps_cut (s0 := s0) (x := x) ?_ ?_; on_goal 1 => subst x)
    | (fail_if_no_progress extract_lets +onlyGivenNames x)
    | with_reducible (first | apply keeps_State_beginAt | apply keeps_State_thWrite | apply keeps_mbxWriteAt | apply keepsO_next | apply keepsO_ite | apply keeps_ite)
    | split

theorem keeps_execMbxRead (t : Nat) (portB : Bool) (src : Requester) (word : Nat) {s0 s : State} (hk : Keeps s0 s)  : KeepsO s0 (execMbxRead t portB src word s) := by
  unfold execMbxRead
  repeat' first
    | with_reducible assumption | intro _
    | ((fail_if_no_progress extract_lets +onlyGivenNames x); refine keeps_cut (s0 := s0) (x := x) ?_ ?_; on_goal 1 => subst x)
    | (fail_if_no_progress extract_lets +onlyGivenNames x)
    | with_reducible (first | apply keeps_State_emit | apply keeps_State_beginAt | apply keeps_mbxReadAt | apply keepsO_next | apply keepsO_ite | apply keeps_ite | apply keeps_ite2 | (refine keeps_eq2 (by with_reducible assumption) ?_) | (refine keeps_eq22 (by with_reducible assumption) ?_))
    | simp -zeta only [keeps_mk, keepsC_fold, id_eq] | split

/-! ### Machine/Rhizoid.lean -/

theorem keeps_State_modBridge (w : Twin) (f : Bridge → Bridge) {s0 s : State} (hk : Keeps s0 s)  : Keeps s0 (State.modBridge s w f) := by
  unfold State.modBridge
  repeat' first
    | with_reducible assumption | intro _
    | ((fail_if_no_progress extract_lets +onlyGivenNames x); refine keeps_cut (s0 := s0) (x := x) ?_ ?_; on_goal 1 => subst x)
    | (fail_if_no_progress extract_lets +onlyGivenNames x) | with_reducible apply keeps_State_modTw
    | simp -zeta only [keeps_mk, keepsC_fold, id_eq]

theorem keeps_dropTouched (w : Twin) (a : Nat) {s0 s : State} (hk : Keeps s0 s)  : Keeps s0 (dropTouched w a s) := by
  unfold dropTouched
  repeat' first
    | with_reducible assumption | intro _
    | ((fail_if_no_progress extract_lets +onlyGivenNames x); refine keeps_cut (s0 := s0) (x := x) ?_ ?_; on_goal 1 => subst x)
    | (fail_if_no_progress extract_lets +onlyGivenNames x) | with_reducible apply keeps_State_modBridge
    | simp -zeta only [keeps_mk, keepsC_fold, id_eq] | split

theorem keeps_bridgeWrite (req : Nat) (locked : Bool) (a : Nat) (v : Word) (w : Twin) {s0 s : State} (hk : Keeps s0 s)  : Keeps s0 (bridgeWrite req locked a v w s) := by
  unfold bridgeWrite
  repeat' first
    | with_reducible assumption | intro _
    | ((fail_if_no_progress extract_lets +onlyGivenNames x); refine keeps_cut (s0 := s0) (x := x) ?_ ?_; on_goal 1 => subst x)
    | (fail_if_no_progress extract_lets +onlyGivenNames x)
    | with_reducible (first | apply keeps_State_modBridge | apply keeps_dropTouched) | simp -zeta only [keeps_mk, keepsC_fold, id_eq]

theorem keeps_rzNext  {s0 s : State} (hk : Keeps s0 s)  : Keeps s0 (rzNext s) := by
  unfold rzNext
  repeat' first
    | with_reducible assumption | intro _
    | ((fail_if_no_progress extract_lets +onlyGivenNames x); refine keeps_cut (s0 := s0) (x := x) ?_ ?_; on_goal 1 => subst x)
    | (fail_if_no_progress extract_lets +onlyGivenNames x) | with_reducible (first | apply keeps_State_emit | apply keeps_ite)
    | simp -zeta only [keeps_mk, keepsC_fold, id_eq] | split

theorem keeps_bridgeRead (req : Nat) (locked : Bool) (a : Nat) (w : Twin) {s0 s : State} (hk : Keeps s0 s) : Keeps s0 (bridgeRead req locked a w s) := by
  unfold bridgeRead
  repeat' first
    | with_reducible assumption | decide | intro _
    | ((fail_if_no_progress extract_lets +onlyGivenNames x); refine keeps_cut (s0 := s0) (x := x) ?_ ?_; on_goal 1 => subst x)
    | (fail_if_no_progress extract_lets +onlyGivenNames x)
    | with_reducible (first | apply keeps_State_emit | apply keeps_State_modBridge | apply keeps_rzNext | apply keeps_ite | apply keeps_ite2 | apply keeps_ite22 | (refine keeps_eq2 (by with_reducible assumption) ?_) | (refine keeps_eq22 (by with_reducible assumption) ?_))
    | simp -zeta only [keeps_mk, keepsC_fold, id_eq] | (refine keepsC_le ?_ ?_ ?_) | omega | split | (clear_value *; split)

theorem keeps_execRzOutboundWrite (t : Nat) {s0 s : State} (hk : Keeps s0 s)  : KeepsO s0 (execRzOutboundWrite t s) := by
  unfold execRzOutboundWrite
  repeat' first
    | with_reducible assumption | decide | intro _
    | ((fail_if_no_progress extract_lets +onlyGivenNames x); refine keeps_cut (s0 := s0) (x := x) ?_ ?_; on_goal 1 => subst x)
    | (fail_if_no_progress extract_lets +onlyGivenNames x)
    | with_reducible (first | apply keeps_State_emit | apply keeps_State_beginAt | apply keepsO_next | apply keepsO_ite | apply keeps_ite | apply keeps_ite2 | apply keeps_ite22 | apply keeps_foldl | apply keeps_foldl2 | (refine keeps_eq2 (by with_reducible assumption) ?_) | (refine keeps_eq22 (by with_reducible assumption) ?_))
    | simp -zeta only [keeps_mk, keepsC_fold, id_eq] | (refine keepsC_le ?_ ?_ ?_) | omega | split | (clear_value *; split)

theorem keeps_execRzOutboundRead (t : Nat) (req : Requester) (addr : Nat) {s0 s : State} (hk : Keeps s0 s)  : KeepsO s0 (execRzOutboundRead t req addr s) := by
  unfold execRzOutboundRead
  repeat' first
    | with_reducible assumption | intro _
    | ((fail_if_no_progress extract_lets +onlyGivenNames x); refine keeps_cut (s0 := s0) (x := x) ?_ ?_; on_goal 1 => subst x)
    | (fail_if_no_progress extract_lets +onlyGivenNames x)
    | with_reducible (first | apply keeps_State_beginAt | apply keeps_bridgeRead | apply keepsO_next | apply keepsO_ite | apply keeps_ite)
    | simp -zeta only [keeps_mk, keepsC_fold, id_eq] | split

theorem keeps_execRzLockedRead (t : Nat) (w : Twin) (c : Fin 16) (addr : Nat) {s0 s : State} (hk : Keeps s0 s)  : KeepsO s0 (execRzLockedRead t w c addr s) := by
  unfold execRzLockedRead
  repeat' first
    | with_reducible assumption | intro _
    | ((fail_if_no_progress extract_lets +onlyGivenNames x); refine keeps_cut (s0 := s0) (x := x) ?_ ?_; on_goal 1 => subst x)
    | (fail_if_no_progress extract_lets +onlyGivenNames x)
    | with_reducible (first | apply keeps_State_beginAt | apply keeps_bridgeRead | apply keepsO_next | apply keepsO_ite | apply keeps_ite)
    | split

theorem keeps_logWrite (x : RzTxn) (reason : Nat) (w : Twin) {s0 s : State} (hk : Keeps s0 s)  : Keeps s0 (logWrite x reason w s) := by
  unfold logWrite
  repeat' first
    | with_reducible assumption | intro _
    | ((fail_if_no_progress extract_lets +onlyGivenNames x); refine keeps_cut (s0 := s0) (x := x) ?_ ?_; on_goal 1 => subst x)
    | (fail_if_no_progress extract_lets +onlyGivenNames x)
    | with_reducible (first | apply keeps_State_wrBytes | apply keeps_State_sf | apply keeps_State_bump | apply keeps_State_raiseOnce)
    | simp -zeta only [keeps_mk, keepsC_fold, id_eq] | split

theorem keeps_writeLeft (x : RzTxn) (w : Twin) {s0 s : State} (hk : Keeps s0 s)  : Keeps s0 (writeLeft x w s) := by
  unfold writeLeft
  repeat' first
    | with_reducible assumption | intro _
    | ((fail_if_no_progress extract_lets +onlyGivenNames x); refine keeps_cut (s0 := s0) (x := x) ?_ ?_; on_goal 1 => subst x)
    | (fail_if_no_progress extract_lets +onlyGivenNames x) | with_reducible (first | apply keeps_State_modBridge | apply keeps_ite)
    | simp -zeta only [keeps_mk, keepsC_fold, id_eq] | split

theorem keeps_readLeft (x : RzTxn) (w : Twin) {s0 s : State} (hk : Keeps s0 s) : Keeps s0 (readLeft x w s) := by
  unfold readLeft
  repeat' first
    | with_reducible assumption | decide | intro _
    | ((fail_if_no_progress extract_lets +onlyGivenNames x); refine keeps_cut (s0 := s0) (x := x) ?_ ?_; on_goal 1 => subst x)
    | (fail_if_no_progress extract_lets +onlyGivenNames x)
    | with_reducible (first | apply keeps_State_modBridge | apply keeps_ite | apply keeps_ite2 | apply keeps_ite22 | (refine keeps_eq2 (by with_reducible assumption) ?_) | (refine keeps_eq22 (by with_reducible assumption) ?_))
    | simp -zeta only [keeps_mk, keepsC_fold, id_eq] | (refine keepsC_le ?_ ?_ ?_) | omega | split | (clear_value *; split)

theorem keeps_endTxn  {s0 s : State} (hk : Keeps s0 s)  : Keeps s0 (endTxn s) := by
  unfold endTxn
  repeat' first
    | with_reducible assumption | intro _
    | ((fail_if_no_progress extract_lets +onlyGivenNames x); refine keeps_cut (s0 := s0) (x := x) ?_ ?_; on_goal 1 => subst x)
    | (fail_if_no_progress extract_lets +onlyGivenNames x) | simp -zeta only [keeps_mk, keepsC_fold, id_eq]

theorem keeps_noFarData (x : RzTxn) {s0 s : State} (hk : Keeps s0 s) : Keeps s0 (noFarData x s) := by
  unfold noFarData
  repeat' first
    | with_reducible assumption | decide | intro _
    | ((fail_if_no_progress extract_lets +onlyGivenNames x); refine keeps_cut (s0 := s0) (x := x) ?_ ?_; on_goal 1 => subst x)
    | (fail_if_no_progress extract_lets +onlyGivenNames x)
    | with_reducible (first | apply keeps_State_sb | apply keeps_State_emit | apply keeps_State_raiseTh | apply keeps_ite | apply keeps_ite2 | apply keeps_ite22 | (refine keeps_eq2 (by with_reducible assumption) ?_) | (refine keeps_eq22 (by with_reducible assumption) ?_))
    | simp -zeta only [keeps_mk, keepsC_fold, id_eq] | (refine keepsC_le ?_ ?_ ?_) | omega | split | (clear_value *; split)

theorem keeps_farData (late : Bool) (x : RzTxn) (v : Word) {s0 s : State} (hk : Keeps s0 s) : Keeps s0 (farData late x v s) := by
  unfold farData
  repeat' first
    | with_reducible assumption | decide | intro _
    | ((fail_if_no_progress extract_lets +onlyGivenNames x); refine keeps_cut (s0 := s0) (x := x) ?_ ?_; on_goal 1 => subst x)
    | (fail_if_no_progress extract_lets +onlyGivenNames x)
    | with_reducible (first | apply keeps_State_emit | apply keeps_noFarData | apply keeps_ite | apply keeps_ite2 | apply keeps_ite22 | (refine keeps_eq2 (by with_reducible assumption) ?_) | (refine keeps_eq22 (by with_reducible assumption) ?_))
    | simp -zeta only [keeps_mk, keepsC_fold, id_eq] | (refine keepsC_le ?_ ?_ ?_) | omega | split | (clear_value *; split)

theorem keeps_rzFail (x : RzTxn) (reason : Nat) {s0 s : State} (hk : Keeps s0 s) : Keeps s0 (rzFail x reason s) := by
  unfold rzFail
  repeat' first
    | with_reducible assumption | decide | intro _
    | ((fail_if_no_progress extract_lets +onlyGivenNames x); refine keeps_cut (s0 := s0) (x := x) ?_ ?_; on_goal 1 => subst x)
    | (fail_if_no_progress extract_lets +onlyGivenNames x)
    | with_reducible (first | apply keeps_State_each | apply keeps_rzNext | apply keeps_logWrite | apply keeps_writeLeft | apply keeps_readLeft | apply keeps_endTxn | apply keeps_noFarData | apply keeps_ite | apply keeps_ite2 | apply keeps_ite22 | (refine keeps_eq2 (by with_reducible assumption) ?_) | (refine keeps_eq22 (by with_reducible assumption) ?_))
    | simp -zeta only [keeps_mk, keepsC_fold, id_eq] | (refine keepsC_le ?_ ?_ ?_) | omega | split | (clear_value *; split)

theorem keeps_rzReady (x : RzTxn) (v : Word) {s0 s : State} (hk : Keeps s0 s) : Keeps s0 (rzReady x v s) := by
  unfold rzReady
  repeat' first
    | with_reducible assumption | decide | intro _
    | ((fail_if_no_progress extract_lets +onlyGivenNames x); refine keeps_cut (s0 := s0) (x := x) ?_ ?_; on_goal 1 => subst x)
    | (fail_if_no_progress extract_lets +onlyGivenNames x)
    | with_reducible (first | apply keeps_State_each | apply keeps_State_modBridge | apply keeps_rzNext | apply keeps_writeLeft | apply keeps_readLeft | apply keeps_endTxn | apply keeps_farData | apply keeps_ite | apply keeps_ite2 | apply keeps_ite22 | (refine keeps_eq2 (by with_reducible assumption) ?_) | (refine keeps_eq22 (by with_reducible assumption) ?_))
    | simp -zeta only [keeps_mk, keepsC_fold, id_eq] | (refine keepsC_le ?_ ?_ ?_) | omega | split | (clear_value *; split)

theorem keeps_rzRetry (x : RzTxn) (crossing : Bool) {s0 s : State} (hk : Keeps s0 s)  : Keeps s0 (rzRetry x crossing s) := by
  unfold rzRetry
  repeat' first
    | with_reducible assumption | intro _
    | ((fail_if_no_progress extract_lets +onlyGivenNames x); refine keeps_cut (s0 := s0) (x := x) ?_ ?_; on_goal 1 => subst x)
    | (fail_if_no_progress extract_lets +onlyGivenNames x)
    | with_reducible (first | apply keeps_State_bump | apply keeps_State_each | apply keeps_State_raiseOnce | apply keeps_rzFail | apply keeps_ite)
    | simp -zeta only [keeps_mk, keepsC_fold, id_eq] | split

theorem keeps_execRzTargetResponse (t : Nat) (r : RzResponse) {s0 s : State} (hk : Keeps s0 s)  : KeepsO s0 (execRzTargetResponse t r s) := by
  unfold execRzTargetResponse
  repeat' first
    | with_reducible assumption | intro _
    | ((fail_if_no_progress extract_lets +onlyGivenNames x); refine keeps_cut (s0 := s0) (x := x) ?_ ?_; on_goal 1 => subst x)
    | (fail_if_no_progress extract_lets +onlyGivenNames x)
    | with_reducible (first | apply keeps_State_beginAt | apply keeps_rzFail | apply keeps_rzReady | apply keeps_rzRetry | apply keepsO_next | apply keepsO_ite)
    | simp -zeta only [keeps_mk, keepsC_fold, id_eq] | split

theorem keeps_execRzPhaseTimeout (t : Nat) {s0 s : State} (hk : Keeps s0 s)  : KeepsO s0 (execRzPhaseTimeout t s) := by
  unfold execRzPhaseTimeout
  repeat' first
    | with_reducible assumption | intro _
    | ((fail_if_no_progress extract_lets +onlyGivenNames x); refine keeps_cut (s0 := s0) (x := x) ?_ ?_; on_goal 1 => subst x)
    | (fail_if_no_progress extract_lets +onlyGivenNames x)
    | with_reducible (first | apply keeps_State_beginAt | apply keeps_rzFail | apply keepsO_next | apply keepsO_ite)
    | simp -zeta only [keeps_mk, keepsC_fold, id_eq] | split

theorem keeps_execRzLockTimeout  {s0 s : State} (hk : Keeps s0 s)  : KeepsO s0 (execRzLockTimeout s) := by
  unfold execRzLockTimeout
  repeat' first
    | with_reducible assumption | decide | intro _
    | ((fail_if_no_progress extract_lets +onlyGivenNames x); refine keeps_cut (s0 := s0) (x := x) ?_ ?_; on_goal 1 => subst x)
    | (fail_if_no_progress extract_lets +onlyGivenNames x)
    | with_reducible (first | apply keeps_State_bump | apply keeps_State_each | apply keeps_State_at | apply keeps_State_begin | apply keeps_State_raiseOnce | apply keeps_rzNext | apply keeps_rzFail | apply keepsO_next | apply keepsO_ite | apply keeps_ite | apply keeps_ite2 | apply keeps_ite22 | apply keeps_foldl | apply keeps_foldl2 | (refine keeps_eq2 (by with_reducible assumption) ?_) | (refine keeps_eq22 (by with_reducible assumption) ?_))
    | simp -zeta only [keeps_mk, keepsC_fold, id_eq] | (refine keepsC_le ?_ ?_ ?_) | omega | split | (clear_value *; split)

theorem keeps_rzGrant (far : Nat) {s0 s : State} (hk : Keeps s0 s)  : Keeps s0 (rzGrant far s) := by
  unfold rzGrant
  repeat' first
    | with_reducible assumption | intro _
    | ((fail_if_no_progress extract_lets +onlyGivenNames x); refine keeps_cut (s0 := s0) (x := x) ?_ ?_; on_goal 1 => subst x)
    | (fail_if_no_progress extract_lets +onlyGivenNames x) | simp -zeta only [keeps_mk, keepsC_fold, id_eq]

theorem keeps_endGrant  {s0 s : State} (hk : Keeps s0 s)  : Keeps s0 (endGrant s) := by
  unfold endGrant
  repeat' first
    | with_reducible assumption | intro _
    | ((fail_if_no_progress extract_lets +onlyGivenNames x); refine keeps_cut (s0 := s0) (x := x) ?_ ?_; on_goal 1 => subst x)
    | (fail_if_no_progress extract_lets +onlyGivenNames x) | with_reducible apply keeps_rzNext
    | simp -zeta only [keeps_mk, keepsC_fold, id_eq]

theorem keeps_execRzRequest (t : Nat) (far : Fin 2) {s0 s : State} (hk : Keeps s0 s)  : KeepsO s0 (execRzRequest t far s) := by
  unfold execRzRequest
  repeat' first
    | with_reducible assumption | intro _
    | ((fail_if_no_progress extract_lets +onlyGivenNames x); refine keeps_cut (s0 := s0) (x := x) ?_ ?_; on_goal 1 => subst x)
    | (fail_if_no_progress extract_lets +onlyGivenNames x)
    | with_reducible (first | apply keeps_State_beginAt | apply keeps_rzGrant | apply keepsO_next | apply keepsO_ite | apply keeps_ite)
    | split

theorem keeps_execRzGrantLost (t : Nat) {s0 s : State} (hk : Keeps s0 s) : KeepsO s0 (execRzGrantLost t s) := by
  unfold execRzGrantLost
  repeat' first
    | with_reducible assumption | decide | intro _
    | ((fail_if_no_progress extract_lets +onlyGivenNames x); refine keeps_cut (s0 := s0) (x := x) ?_ ?_; on_goal 1 => subst x)
    | (fail_if_no_progress extract_lets +onlyGivenNames x)
    | with_reducible (first | apply keeps_State_bump | apply keeps_State_beginAt | apply keeps_endGrant | apply keepsO_next | apply keepsO_ite | apply keeps_ite | apply keeps_ite2 | apply keeps_ite22 | (refine keeps_eq2 (by with_reducible assumption) ?_) | (refine keeps_eq22 (by with_reducible assumption) ?_))
    | simp -zeta only [keeps_mk, keepsC_fold, id_eq] | (refine keepsC_le ?_ ?_ ?_) | omega | split | (clear_value *; split)

theorem keeps_execRzCrossing (t : Nat) (far : Fin 2) {s0 s : State} (hk : Keeps s0 s)  : KeepsO s0 (execRzCrossing t far s) := by
  unfold execRzCrossing
  repeat' first
    | with_reducible assumption | intro _
    | ((fail_if_no_progress extract_lets +onlyGivenNames x); refine keeps_cut (s0 := s0) (x := x) ?_ ?_; on_goal 1 => subst x)
    | (fail_if_no_progress extract_lets +onlyGivenNames x)
    | with_reducible (first | apply keeps_State_bump | apply keeps_State_beginAt | apply keeps_rzRetry | apply keeps_rzGrant | apply keepsO_next | apply keepsO_ite | apply keeps_ite)
    | simp -zeta only [keeps_mk, keepsC_fold, id_eq] | split

theorem keeps_semRead (n owner : Nat) {s0 s : State} (hk : Keeps s0 s)  : Keeps s0 (semRead n owner s).2 := by
  unfold semRead
  repeat' first
    | with_reducible assumption | intro _
    | ((fail_if_no_progress extract_lets +onlyGivenNames x); refine keeps_cut (s0 := s0) (x := x) ?_ ?_; on_goal 1 => subst x)
    | (fail_if_no_progress extract_lets +onlyGivenNames x)
    | with_reducible (first | apply keeps_State_sf | apply keeps_ite | apply keeps_ite2)
    | simp -zeta only [keeps_mk, keepsC_fold, id_eq] | split

theorem keeps_semWrite (n owner : Nat) {s0 s : State} (hk : Keeps s0 s)  : Keeps s0 (semWrite n owner s) := by
  unfold semWrite
  repeat' first
    | with_reducible assumption | intro _ | with_reducible (first | apply keeps_State_sf | apply keeps_ite) | split

theorem keeps_semReadBy (src : Requester) (n : Nat) {s0 s : State} (hk : Keeps s0 s)  : Keeps s0 (semReadBy src n s).2 := by
  unfold semReadBy
  repeat' first
    | with_reducible assumption | intro _
    | ((fail_if_no_progress extract_lets +onlyGivenNames x); refine keeps_cut (s0 := s0) (x := x) ?_ ?_; on_goal 1 => subst x)
    | (fail_if_no_progress extract_lets +onlyGivenNames x)
    | with_reducible (first | apply keeps_semRead | apply keeps_ite | apply keeps_ite2 | (refine keeps_eq2 (by with_reducible assumption) ?_) | (refine keeps_eq22 (by with_reducible assumption) ?_))
    | simp -zeta only [keeps_mk, keepsC_fold, id_eq] | split

theorem keeps_execRzpSemRead (t : Nat) (src : Requester) (n : Fin 32) {s0 s : State} (hk : Keeps s0 s)  : KeepsO s0 (execRzpSemRead t src n s) := by
  unfold execRzpSemRead
  repeat' first
    | with_reducible assumption | intro _
    | ((fail_if_no_progress extract_lets +onlyGivenNames x); refine keeps_cut (s0 := s0) (x := x) ?_ ?_; on_goal 1 => subst x)
    | (fail_if_no_progress extract_lets +onlyGivenNames x)
    | with_reducible (first | apply keeps_State_emit | apply keeps_State_beginAt | apply keeps_semReadBy | apply keepsO_next | apply keepsO_ite | apply keeps_ite)
    | split

theorem keeps_execRzpSemWrite (t : Nat) (src : Requester) (n : Fin 32) (_v : Word) {s0 s : State} (hk : Keeps s0 s)  : KeepsO s0 (execRzpSemWrite t src n _v s) := by
  unfold execRzpSemWrite
  repeat' first
    | with_reducible assumption | intro _
    | with_reducible (first | apply keeps_State_beginAt | apply keeps_State_thWrite | apply keeps_semWrite | apply keepsO_next | apply keepsO_ite)

theorem keeps_dropHeld  {s0 s : State} (hk : Keeps s0 s)  : Keeps s0 (dropHeld s) := by
  unfold dropHeld
  repeat' first
    | with_reducible assumption | intro _
    | ((fail_if_no_progress extract_lets +onlyGivenNames x); refine keeps_cut (s0 := s0) (x := x) ?_ ?_; on_goal 1 => subst x)
    | (fail_if_no_progress extract_lets +onlyGivenNames x)
    | with_reducible (first | apply keeps_State_each | apply keeps_State_modBridge) | simp -zeta only [keeps_mk, keepsC_fold, id_eq]

theorem keeps_inbound (far a : Nat) (acc : FarAccess) {s0 s : State} (hk : Keeps s0 s)  : Keeps s0 (inbound far a acc s) := by
  unfold inbound
  repeat' first
    | with_reducible assumption | intro _
    | ((fail_if_no_progress extract_lets +onlyGivenNames x); refine keeps_cut (s0 := s0) (x := x) ?_ ?_; on_goal 1 => subst x)
    | (fail_if_no_progress extract_lets +onlyGivenNames x)
    | with_reducible (first | apply keeps_State_wrBytes | apply keeps_State_fresh | apply keeps_State_emit | apply keeps_State_deliver | apply keeps_mbxWriteAt | apply keeps_mbxReadAt | apply keeps_semRead | apply keeps_semWrite | apply keeps_ite | apply keeps_ite2 | (refine keeps_eq2 (by with_reducible assumption) ?_) | (refine keeps_eq22 (by with_reducible assumption) ?_))
    | simp -zeta only [keeps_mk, keepsC_fold, id_eq] | split

theorem keeps_execRzInbound (t : Nat) (far : Fin 2) (addr : Nat) (acc : FarAccess) {s0 s : State} (hk : Keeps s0 s)  : KeepsO s0 (execRzInbound t far addr acc s) := by
  unfold execRzInbound
  repeat' first
    | with_reducible assumption | intro _
    | ((fail_if_no_progress extract_lets +onlyGivenNames x); refine keeps_cut (s0 := s0) (x := x) ?_ ?_; on_goal 1 => subst x)
    | (fail_if_no_progress extract_lets +onlyGivenNames x)
    | with_reducible (first | apply keeps_State_beginAt | apply keeps_endGrant | apply keeps_dropHeld | apply keeps_inbound | apply keepsO_next | apply keepsO_ite | apply keeps_ite | (refine keeps_eq2 (by with_reducible assumption) ?_) | (refine keeps_eq22 (by with_reducible assumption) ?_))
    | simp -zeta only [keeps_mk, keepsC_fold, id_eq] | split

theorem keeps_execRzPrefetchExpire (t : Nat) {s0 s : State} (hk : Keeps s0 s)  : KeepsO s0 (execRzPrefetchExpire t s) := by
  unfold execRzPrefetchExpire
  repeat' first
    | with_reducible assumption | intro _
    | ((fail_if_no_progress extract_lets +onlyGivenNames x); refine keeps_cut (s0 := s0) (x := x) ?_ ?_; on_goal 1 => subst x)
    | (fail_if_no_progress extract_lets +onlyGivenNames x)
    | with_reducible (first | apply keeps_State_each | apply keeps_State_beginAt | apply keeps_State_modBridge | apply keepsO_next | apply keepsO_ite)
    | simp -zeta only [keeps_mk, keepsC_fold, id_eq]

theorem keeps_lineSample (prev now_ : Nat) (w : Twin) {s0 s : State} (hk : Keeps s0 s)  : Keeps s0 (lineSample prev now_ w s) := by
  unfold lineSample
  repeat' first
    | with_reducible assumption | intro _
    | ((fail_if_no_progress extract_lets +onlyGivenNames x); refine keeps_cut (s0 := s0) (x := x) ?_ ?_; on_goal 1 => subst x)
    | (fail_if_no_progress extract_lets +onlyGivenNames x)
    | with_reducible (first | apply keeps_State_sf | apply keeps_State_raiseOnce | apply keeps_ite | apply keeps_foldl) | split

theorem keeps_execRzLinePoll (t : Nat) (lines : Byte) {s0 s : State} (hk : Keeps s0 s)  : KeepsO s0 (execRzLinePoll t lines s) := by
  unfold execRzLinePoll
  repeat' first
    | with_reducible assumption | intro _
    | ((fail_if_no_progress extract_lets +onlyGivenNames x); refine keeps_cut (s0 := s0) (x := x) ?_ ?_; on_goal 1 => subst x)
    | (fail_if_no_progress extract_lets +onlyGivenNames x)
    | with_reducible (first | apply keeps_State_each | apply keeps_State_beginAt | apply keeps_lineSample | apply keepsO_next | apply keepsO_ite | apply keeps_ite)
    | simp -zeta only [keeps_mk, keepsC_fold, id_eq] | split

/-! ### Machine/Control.lean -/

theorem keeps_State_modCtl (w : Twin) (f : Control → Control) {s0 s : State} (hk : Keeps s0 s)  : Keeps s0 (State.modCtl s w f) := by
  unfold State.modCtl
  repeat' first
    | with_reducible assumption | intro _
    | ((fail_if_no_progress extract_lets +onlyGivenNames x); refine keeps_cut (s0 := s0) (x := x) ?_ ?_; on_goal 1 => subst x)
    | (fail_if_no_progress extract_lets +onlyGivenNames x) | with_reducible apply keeps_State_modTw
    | simp -zeta only [keeps_mk, keepsC_fold, id_eq]

theorem keeps_sendReply (w : Twin) (n : Nat) (bs : List Byte) {s0 s : State} (hk : Keeps s0 s)  : Keeps s0 (sendReply w n bs s) := by
  unfold sendReply
  repeat' first
    | with_reducible assumption | intro _ | with_reducible (first | apply keeps_State_emit | apply keeps_ite) | split

theorem keeps_ctlDrop (w : Twin) (n : Nat) (f : Fld) {s0 s : State} (hk : Keeps s0 s)  : Keeps s0 (ctlDrop w n f s) := by
  unfold ctlDrop
  repeat' first
    | with_reducible assumption | intro _ | with_reducible (first | apply keeps_State_bump | apply keeps_State_raiseOnce)

theorem keeps_expireSessions (w : Twin) {s0 s : State} (hk : Keeps s0 s)  : Keeps s0 (expireSessions w s) := by
  unfold expireSessions
  repeat' first
    | with_reducible assumption | intro _
    | ((fail_if_no_progress extract_lets +onlyGivenNames x); refine keeps_cut (s0 := s0) (x := x) ?_ ?_; on_goal 1 => subst x)
    | (fail_if_no_progress extract_lets +onlyGivenNames x) | with_reducible apply keeps_State_modCtl
    | simp -zeta only [keeps_mk, keepsC_fold, id_eq]

theorem keeps_State_eachCtl (n : Nat) (f : Twin → State → State) {s0 s : State} (hk : Keeps s0 s) (h_f : ∀ (y0 : Twin) (y1 : State), Keeps s0 y1 → Keeps s0 (f y0 y1)) : Keeps s0 (State.eachCtl s n f) := by
  unfold State.eachCtl
  repeat' first
    | with_reducible assumption | intro _ | with_reducible (first | apply h_f | apply keeps_State_each | apply keeps_expireSessions)

theorem keeps_ctlHello (n : Nat) (m : List Byte) (w : Twin) {s0 s : State} (hk : Keeps s0 s)  : Keeps s0 (ctlHello n m w s) := by
  unfold ctlHello
  repeat' first
    | with_reducible assumption | intro _
    | ((fail_if_no_progress extract_lets +onlyGivenNames x); refine keeps_cut (s0 := s0) (x := x) ?_ ?_; on_goal 1 => subst x)
    | (fail_if_no_progress extract_lets +onlyGivenNames x)
    | with_reducible (first | apply keeps_State_modCtl | apply keeps_sendReply | apply keeps_ctlDrop | apply keeps_ite)
    | simp -zeta only [keeps_mk, keepsC_fold, id_eq] | split

theorem keeps_execCtlHello (t : Nat) (n : Fin 4) (msg : List Byte) {s0 s : State} (hk : Keeps s0 s)  : KeepsO s0 (execCtlHello t n msg s) := by
  unfold execCtlHello
  repeat' first
    | with_reducible assumption | intro _
    | ((fail_if_no_progress extract_lets +onlyGivenNames x); refine keeps_cut (s0 := s0) (x := x) ?_ ?_; on_goal 1 => subst x)
    | (fail_if_no_progress extract_lets +onlyGivenNames x)
    | with_reducible (first | apply keeps_State_beginAt | apply keeps_State_eachCtl | apply keeps_ctlHello | apply keepsO_next | apply keepsO_ite)

theorem keeps_ctlAccept (n : Nat) (m : List Byte) (w : Twin) {s0 s : State} (hk : Keeps s0 s)  : Keeps s0 (ctlAccept n m w s).2 := by
  unfold ctlAccept
  repeat' first
    | with_reducible assumption | intro _
    | ((fail_if_no_progress extract_lets +onlyGivenNames x); refine keeps_cut (s0 := s0) (x := x) ?_ ?_; on_goal 1 => subst x)
    | (fail_if_no_progress extract_lets +onlyGivenNames x)
    | with_reducible (first | apply keeps_State_accept | apply keeps_State_modCtl | apply keeps_ctlDrop | apply keeps_ite | apply keeps_ite2)
    | simp -zeta only [keeps_mk, keepsC_fold, id_eq] | split

theorem keeps_ctlClose (n : Nat) (m : List Byte) (w : Twin) {s0 s : State} (hk : Keeps s0 s)  : Keeps s0 (ctlClose n m w s) := by
  unfold ctlClose
  repeat' first
    | with_reducible assumption | intro _
    | ((fail_if_no_progress extract_lets +onlyGivenNames x); refine keeps_cut (s0 := s0) (x := x) ?_ ?_; on_goal 1 => subst x)
    | (fail_if_no_progress extract_lets +onlyGivenNames x)
    | with_reducible (first | apply keeps_State_modCtl | apply keeps_ctlAccept | apply keeps_ite | apply keeps_ite2 | (refine keeps_eq2 (by with_reducible assumption) ?_) | (refine keeps_eq22 (by with_reducible assumption) ?_))
    | simp -zeta only [keeps_mk, keepsC_fold, id_eq] | split

theorem keeps_execCtlClose (t : Nat) (n : Fin 4) (msg : List Byte) {s0 s : State} (hk : Keeps s0 s)  : KeepsO s0 (execCtlClose t n msg s) := by
  unfold execCtlClose
  repeat' first
    | with_reducible assumption | intro _
    | ((fail_if_no_progress extract_lets +onlyGivenNames x); refine keeps_cut (s0 := s0) (x := x) ?_ ?_; on_goal 1 => subst x)
    | (fail_if_no_progress extract_lets +onlyGivenNames x)
    | with_reducible (first | apply keeps_State_beginAt | apply keeps_State_eachCtl | apply keeps_ctlClose | apply keepsO_next | apply keepsO_ite)

theorem keeps_execCtlSessionTimeout (t : Nat) {s0 s : State} (hk : Keeps s0 s)  : KeepsO s0 (execCtlSessionTimeout t s) := by
  unfold execCtlSessionTimeout
  repeat' first
    | with_reducible assumption | intro _
    | with_reducible (first | apply keeps_State_each | apply keeps_State_beginAt | apply keeps_expireSessions | apply keepsO_next | apply keepsO_ite)

theorem keeps_ctlKeyData (v : Word) (w : Twin) {s0 s : State} (hk : Keeps s0 s)  : Keeps s0 (ctlKeyData v w s) := by
  unfold ctlKeyData
  repeat' first
    | with_reducible assumption | intro _
    | ((fail_if_no_progress extract_lets +onlyGivenNames x); refine keeps_cut (s0 := s0) (x := x) ?_ ?_; on_goal 1 => subst x)
    | (fail_if_no_progress extract_lets +onlyGivenNames x)
    | with_reducible (first | apply keeps_State_sf | apply keeps_State_modCtl | apply keeps_ite)
    | simp -zeta only [keeps_mk, keepsC_fold, id_eq] | split

theorem keeps_execCtlKeyData (t : Nat) (via : Via) (v : Word) {s0 s : State} (hk : Keeps s0 s)  : KeepsO s0 (execCtlKeyData t via v s) := by
  unfold execCtlKeyData
  repeat' first
    | with_reducible assumption | intro _
    | with_reducible (first | apply keeps_State_beginAt | apply keeps_State_deliver | apply keeps_ctlKeyData | apply keepsO_next | apply keepsO_ite)

theorem keeps_ctlKeySel (v : Word) (w : Twin) {s0 s : State} (hk : Keeps s0 s)  : Keeps s0 (ctlKeySel v w s) := by
  unfold ctlKeySel
  repeat' first
    | with_reducible assumption | intro _
    | ((fail_if_no_progress extract_lets +onlyGivenNames x); refine keeps_cut (s0 := s0) (x := x) ?_ ?_; on_goal 1 => subst x)
    | (fail_if_no_progress extract_lets +onlyGivenNames x)
    | with_reducible (first | apply keeps_State_sf | apply keeps_State_modCtl | apply keeps_ite)
    | simp -zeta only [keeps_mk, keepsC_fold, id_eq] | split

theorem keeps_execCtlKeyClear (t : Nat) (via : Via) (v : Word) {s0 s : State} (hk : Keeps s0 s)  : KeepsO s0 (execCtlKeyClear t via v s) := by
  unfold execCtlKeyClear
  repeat' first
    | with_reducible assumption | intro _
    | with_reducible (first | apply keeps_State_beginAt | apply keeps_State_deliver | apply keeps_ctlKeySel | apply keepsO_next | apply keepsO_ite)

/-! ### Machine/Cal.lean -/

theorem keeps_State_setCalUnit (u : Nat) (x : CalUnit) {s0 s : State} (hk : Keeps s0 s)  : Keeps s0 (State.setCalUnit s u x) := by
  unfold State.setCalUnit
  repeat' first
    | with_reducible assumption | intro _
    | ((fail_if_no_progress extract_lets +onlyGivenNames x); refine keeps_cut (s0 := s0) (x := x) ?_ ?_; on_goal 1 => subst x)
    | (fail_if_no_progress extract_lets +onlyGivenNames x) | with_reducible apply keeps_State_reset
    | simp -zeta only [keeps_mk, keepsC_fold, id_eq]

theorem keeps_raiseCalFail (u : Nat) {s0 s : State} (hk : Keeps s0 s)  : Keeps s0 (raiseCalFail u s) := by
  unfold raiseCalFail
  repeat' first
    | with_reducible assumption | intro _
    | ((fail_if_no_progress extract_lets +onlyGivenNames x); refine keeps_cut (s0 := s0) (x := x) ?_ ?_; on_goal 1 => subst x)
    | (fail_if_no_progress extract_lets +onlyGivenNames x) | with_reducible (first | apply keeps_State_raiseTh | apply keeps_ite)
    | simp -zeta only [keeps_mk, keepsC_fold, id_eq] | split

theorem keeps_takeUnit (u : Nat) {s0 s : State} (hk : Keeps s0 s)  : Keeps s0 (takeUnit u s) := by
  unfold takeUnit
  repeat' first
    | with_reducible assumption | intro _
    | ((fail_if_no_progress extract_lets +onlyGivenNames x); refine keeps_cut (s0 := s0) (x := x) ?_ ?_; on_goal 1 => subst x)
    | (fail_if_no_progress extract_lets +onlyGivenNames x)
    | with_reducible (first | apply keeps_State_sf | apply keeps_State_setCalUnit) | simp -zeta only [keeps_mk, keepsC_fold, id_eq]

theorem keeps_endRun  {s0 s : State} (hk : Keeps s0 s)  : Keeps s0 (endRun s) := by
  unfold endRun
  repeat' first
    | with_reducible assumption | intro _
    | ((fail_if_no_progress extract_lets +onlyGivenNames x); refine keeps_cut (s0 := s0) (x := x) ?_ ?_; on_goal 1 => subst x)
    | (fail_if_no_progress extract_lets +onlyGivenNames x)
    | with_reducible (first | apply keeps_State_sb | apply keeps_State_raiseTh) | simp -zeta only [keeps_mk, keepsC_fold, id_eq]

theorem keeps_calNext (l : List Nat) {s0 s : State} (h : Keeps s0 s) : Keeps s0 (calNext l s) := by
  induction l generalizing s with
  | nil => exact keeps_endRun (keeps_same h rfl rfl rfl rfl)
  | cons u l ih =>
    unfold calNext
    split
    · exact keeps_takeUnit _ (keeps_same h rfl rfl rfl rfl)
    · exact keeps_same h rfl rfl rfl rfl
    · exact ih (keeps_State_setCalUnit _ _ h)
    · exact ih (keeps_State_setCalUnit _ _ h)

theorem keeps_startRun (units : List Nat) (powerUp : Bool) {s0 s : State} (hk : Keeps s0 s)  : Keeps s0 (startRun units powerUp s) := by
  unfold startRun
  repeat' first
    | with_reducible assumption | intro _
    | ((fail_if_no_progress extract_lets +onlyGivenNames x); refine keeps_cut (s0 := s0) (x := x) ?_ ?_; on_goal 1 => subst x)
    | (fail_if_no_progress extract_lets +onlyGivenNames x)
    | with_reducible (first | apply keeps_State_sb | apply keeps_State_setCalUnit | apply keeps_calNext | apply keeps_foldl)
    | simp -zeta only [keeps_mk, keepsC_fold, id_eq]

theorem keeps_calRequest (units : List Nat) {s0 s : State} (hk : Keeps s0 s)  : Keeps s0 (calRequest units s) := by
  unfold calRequest
  repeat' first
    | with_reducible assumption | intro _
    | ((fail_if_no_progress extract_lets +onlyGivenNames x); refine keeps_cut (s0 := s0) (x := x) ?_ ?_; on_goal 1 => subst x)
    | (fail_if_no_progress extract_lets +onlyGivenNames x)
    | with_reducible (first | apply keeps_State_sb | apply keeps_startRun | apply keeps_ite | apply keeps_ite2 | (refine keeps_eq2 (by with_reducible assumption) ?_) | (refine keeps_eq22 (by with_reducible assumption) ?_))
    | simp -zeta only [keeps_mk, keepsC_fold, id_eq] | split

theorem keeps_execCalAll (t : Nat) (src : Requester) {s0 s : State} (hk : Keeps s0 s)  : KeepsO s0 (execCalAll t src s) := by
  unfold execCalAll
  repeat' first
    | with_reducible assumption | intro _
    | with_reducible (first | apply keeps_State_beginAt | apply keeps_State_thWrite | apply keeps_calRequest | apply keepsO_next | apply keepsO_ite)

theorem keeps_execCalUnit (t : Nat) (src : Requester) (unit : Nat) {s0 s : State} (hk : Keeps s0 s)  : KeepsO s0 (execCalUnit t src unit s) := by
  unfold execCalUnit
  repeat' first
    | with_reducible assumption | decide | intro _
    | ((fail_if_no_progress extract_lets +onlyGivenNames x); refine keeps_cut (s0 := s0) (x := x) ?_ ?_; on_goal 1 => subst x)
    | (fail_if_no_progress extract_lets +onlyGivenNames x)
    | with_reducible (first | apply keeps_State_beginAt | apply keeps_State_thWrite | apply keeps_calRequest | apply keepsO_next | apply keepsO_ite | apply keeps_ite | apply keeps_ite2 | apply keeps_ite22 | apply keeps_foldl | apply keeps_foldl2 | (refine keeps_eq2 (by with_reducible assumption) ?_) | (refine keeps_eq22 (by with_reducible assumption) ?_))
    | simp -zeta only [keeps_mk, keepsC_fold, id_eq] | (refine keepsC_le ?_ ?_ ?_) | omega | split | (clear_value *; split)

theorem keeps_execCalPeriod  {s0 s : State} (hk : Keeps s0 s)  : KeepsO s0 (execCalPeriod s) := by
  unfold execCalPeriod
  repeat' first
    | with_reducible assumption | intro _
    | ((fail_if_no_progress extract_lets +onlyGivenNames x); refine keeps_cut (s0 := s0) (x := x) ?_ ?_; on_goal 1 => subst x)
    | (fail_if_no_progress extract_lets +onlyGivenNames x)
    | with_reducible (first | apply keeps_State_at | apply keeps_State_begin | apply keeps_calRequest | apply keepsO_next | apply keepsO_ite | apply keeps_ite)
    | split

theorem keeps_execCalRun (t : Nat) {s0 s : State} (hk : Keeps s0 s)  : KeepsO s0 (execCalRun t s) := by
  unfold execCalRun
  repeat' first
    | with_reducible assumption | intro _
    | ((fail_if_no_progress extract_lets +onlyGivenNames x); refine keeps_cut (s0 := s0) (x := x) ?_ ?_; on_goal 1 => subst x)
    | (fail_if_no_progress extract_lets +onlyGivenNames x)
    | with_reducible (first | apply keeps_State_sb | apply keeps_State_beginAt | apply keeps_startRun | apply keepsO_next | apply keepsO_ite | apply keeps_ite)
    | simp -zeta only [keeps_mk, keepsC_fold, id_eq] | split

theorem keeps_calApplied (u code : Nat) {s0 s : State} (hk : Keeps s0 s)  : Keeps s0 (calApplied u code s) := by
  unfold calApplied
  repeat' first
    | with_reducible assumption | intro _
    | ((fail_if_no_progress extract_lets +onlyGivenNames x); refine keeps_cut (s0 := s0) (x := x) ?_ ?_; on_goal 1 => subst x)
    | (fail_if_no_progress extract_lets +onlyGivenNames x) | with_reducible apply keeps_State_setCalUnit
    | simp -zeta only [keeps_mk, keepsC_fold, id_eq]

theorem keeps_calResult (u : Nat) (ok : Bool) (code : Nat) {s0 s : State} (hk : Keeps s0 s)  : Keeps s0 (calResult u ok code s) := by
  unfold calResult
  repeat' first
    | with_reducible assumption | intro _
    | ((fail_if_no_progress extract_lets +onlyGivenNames x); refine keeps_cut (s0 := s0) (x := x) ?_ ?_; on_goal 1 => subst x)
    | (fail_if_no_progress extract_lets +onlyGivenNames x)
    | with_reducible (first | apply keeps_State_setReg | apply keeps_State_sb | apply keeps_State_setCalUnit | apply keeps_raiseCalFail | apply keeps_endRun | apply keeps_calNext | apply keeps_calApplied | apply keeps_ite)
    | simp -zeta only [keeps_mk, keepsC_fold, id_eq] | split

theorem keeps_execCalUnitDone (t : Nat) (ok : Passed) (code : Nat) {s0 s : State} (hk : Keeps s0 s)  : KeepsO s0 (execCalUnitDone t ok code s) := by
  unfold execCalUnitDone
  repeat' first
    | with_reducible assumption | intro _
    | ((fail_if_no_progress extract_lets +onlyGivenNames x); refine keeps_cut (s0 := s0) (x := x) ?_ ?_; on_goal 1 => subst x)
    | (fail_if_no_progress extract_lets +onlyGivenNames x)
    | with_reducible (first | apply keeps_State_beginAt | apply keeps_calResult | apply keepsO_next | apply keepsO_ite | apply keeps_ite)
    | simp -zeta only [keeps_mk, keepsC_fold, id_eq] | split

theorem keeps_strandApply (p : Nat) {s0 s : State} (hk : Keeps s0 s)  : Keeps s0 (strandApply p s) := by
  unfold strandApply
  repeat' first
    | with_reducible assumption | intro _
    | ((fail_if_no_progress extract_lets +onlyGivenNames x); refine keeps_cut (s0 := s0) (x := x) ?_ ?_; on_goal 1 => subst x)
    | (fail_if_no_progress extract_lets +onlyGivenNames x) | with_reducible (first | apply keeps_calApplied | apply keeps_ite)
    | simp -zeta only [keeps_mk, keepsC_fold, id_eq] | split

theorem keeps_execCalStrandApply (p : Fin 128) {s0 s : State} (hk : Keeps s0 s)  : KeepsO s0 (execCalStrandApply p s) := by
  unfold execCalStrandApply
  repeat' first
    | with_reducible assumption | intro _
    | ((fail_if_no_progress extract_lets +onlyGivenNames x); refine keeps_cut (s0 := s0) (x := x) ?_ ?_; on_goal 1 => subst x)
    | (fail_if_no_progress extract_lets +onlyGivenNames x)
    | with_reducible (first | apply keeps_State_at | apply keeps_State_begin | apply keeps_strandApply | apply keepsO_next | apply keepsO_ite | apply keeps_ite)
    | split

theorem keeps_powerUpRun  {s0 s : State} (hk : Keeps s0 s)  : Keeps s0 (powerUpRun s) := by
  unfold powerUpRun
  repeat' first
    | with_reducible assumption | intro _
    | ((fail_if_no_progress extract_lets +onlyGivenNames x); refine keeps_cut (s0 := s0) (x := x) ?_ ?_; on_goal 1 => subst x)
    | (fail_if_no_progress extract_lets +onlyGivenNames x) | with_reducible apply keeps_startRun
    | simp -zeta only [keeps_mk, keepsC_fold, id_eq]

theorem keeps_calAtStart (w : Twin) {s0 s : State} (hk : Keeps s0 s)  : Keeps s0 (calAtStart w s) := by
  unfold calAtStart
  repeat' first
    | with_reducible assumption | intro _
    | ((fail_if_no_progress extract_lets +onlyGivenNames x); refine keeps_cut (s0 := s0) (x := x) ?_ ?_; on_goal 1 => subst x)
    | (fail_if_no_progress extract_lets +onlyGivenNames x)
    | with_reducible (first | apply keeps_State_fresh | apply keeps_State_setCalUnit | apply keeps_calApplied | apply keeps_foldl)
    | simp -zeta only [keeps_mk, keepsC_fold, id_eq]

theorem keeps_voidMonitor (rail : Nat) {s0 s : State} (hk : Keeps s0 s)  : Keeps s0 (voidMonitor rail s) := by
  unfold voidMonitor
  repeat' first
    | with_reducible assumption | intro _
    | ((fail_if_no_progress extract_lets +onlyGivenNames x); refine keeps_cut (s0 := s0) (x := x) ?_ ?_; on_goal 1 => subst x)
    | (fail_if_no_progress extract_lets +onlyGivenNames x) | with_reducible apply keeps_ite
    | simp -zeta only [keeps_mk, keepsC_fold, id_eq] | split

theorem keeps_calResume  {s0 s : State} (hk : Keeps s0 s)  : Keeps s0 (calResume s) := by
  unfold calResume
  repeat' first
    | with_reducible assumption | intro _
    | ((fail_if_no_progress extract_lets +onlyGivenNames x); refine keeps_cut (s0 := s0) (x := x) ?_ ?_; on_goal 1 => subst x)
    | (fail_if_no_progress extract_lets +onlyGivenNames x) | with_reducible (first | apply keeps_calNext | apply keeps_ite)
    | simp -zeta only [keeps_mk, keepsC_fold, id_eq] | split

end Sys2Proof.Machine
end

