-- ==== Sys2Proof/Laws/KeepsTop.lean ====
section
/-!
SUPPORT. Keeps, one lemma for each operation: resets, twin control, power, the tick, register views and accesses.
-/
set_option linter.unreachableTactic false
set_option linter.unusedTactic false
set_option linter.unusedVariables false
set_option linter.unusedSimpArgs false
set_option linter.tactic.unusedName false
namespace Sys2Proof.Machine

/-! ### Machine/Reset.lean -/

theorem keeps_deviceReset {s0 s : State} (hk : Keeps s0 s) : Keeps s0 (deviceReset s) := by
  unfold deviceReset
  extract_lets
  refine keeps_syncGen (keeps_State_sb _ _ _ (keeps_State_sb _ _ _ ?_))
  refine keeps_mk.2 ⟨hk.pending, fun x => Smap.wf_filter (hk.regs x) _, fun x => Smap.wf_filter (hk.mem x) _, fun _ => rfl, hk.now, hk.free⟩

theorem keeps_powerOn {s0 s : State} (hk : Keeps s0 s) : Keeps s0 (powerOn s) := by
  unfold powerOn
  extract_lets
  refine keeps_State_sf _ _ _ ?_
  exact keeps_mk.2 ⟨hk.pending, fun _ => rfl, fun x => Smap.wf_filter (hk.mem x) _, fun _ => rfl, hk.now, hk.free⟩

theorem keeps_readRecord  {s0 s : State} (hk : Keeps s0 s)  : Keeps s0 (readRecord s) := by
  unfold readRecord
  repeat' first
    | with_reducible assumption | intro _
    | ((fail_if_no_progress extract_lets +onlyGivenNames x); refine keeps_cut (s0 := s0) (x := x) ?_ ?_; on_goal 1 => subst x)
    | (fail_if_no_progress extract_lets +onlyGivenNames x)
    | with_reducible (first | apply keeps_State_sb | apply keeps_State_each | apply keeps_revertRecord)
    | simp -zeta only [keeps_mk, keepsC_fold, id_eq] | split

theorem keeps_releaseReset  {s0 s : State} (hk : Keeps s0 s) : Keeps s0 (releaseReset s) := by
  unfold releaseReset
  repeat' first
    | with_reducible assumption | decide | intro _
    | ((fail_if_no_progress extract_lets +onlyGivenNames x); refine keeps_cut (s0 := s0) (x := x) ?_ ?_; on_goal 1 => subst x)
    | (fail_if_no_progress extract_lets +onlyGivenNames x)
    | with_reducible (first | apply keeps_State_each | apply keeps_startFirmware | apply keeps_beginLoad | apply keeps_detectFlash | apply keeps_powerUpRun | apply keeps_readRecord | apply keeps_ite | apply keeps_ite2 | apply keeps_ite22 | (refine keeps_eq2 (by with_reducible assumption) ?_) | (refine keeps_eq22 (by with_reducible assumption) ?_))
    | simp -zeta only [keeps_mk, keepsC_fold, id_eq] | (refine keepsC_le ?_ ?_ ?_) | omega | split | (clear_value *; split)

theorem keeps_clearSave  {s0 s : State} (hk : Keeps s0 s)  : Keeps s0 (clearSave s) := by
  unfold clearSave
  repeat' first
    | with_reducible assumption | intro _
    | ((fail_if_no_progress extract_lets +onlyGivenNames x); refine keeps_cut (s0 := s0) (x := x) ?_ ?_; on_goal 1 => subst x)
    | (fail_if_no_progress extract_lets +onlyGivenNames x) | with_reducible apply keeps_State_wrB
    | simp -zeta only [keeps_mk, keepsC_fold, id_eq]

theorem keeps_execResetNAssert (t : Nat) {s0 s : State} (hk : Keeps s0 s)  : KeepsO s0 (execResetNAssert t s) := by
  unfold execResetNAssert
  repeat' first
    | with_reducible assumption | intro _
    | ((fail_if_no_progress extract_lets +onlyGivenNames x); refine keeps_cut (s0 := s0) (x := x) ?_ ?_; on_goal 1 => subst x)
    | (fail_if_no_progress extract_lets +onlyGivenNames x)
    | with_reducible (first | apply keeps_State_beginAt | apply keeps_deviceReset | apply keeps_clearSave | apply keepsO_next | apply keepsO_ite)
    | simp -zeta only [keeps_mk, keepsC_fold, id_eq]

theorem keeps_execResetNRelease (t : Nat) {s0 s : State} (hk : Keeps s0 s)  : KeepsO s0 (execResetNRelease t s) := by
  unfold execResetNRelease
  repeat' first
    | with_reducible assumption | intro _
    | ((fail_if_no_progress extract_lets +onlyGivenNames x); refine keeps_cut (s0 := s0) (x := x) ?_ ?_; on_goal 1 => subst x)
    | (fail_if_no_progress extract_lets +onlyGivenNames x)
    | with_reducible (first | apply keeps_State_beginAt | apply keeps_releaseReset | apply keepsO_next | apply keepsO_ite | apply keeps_ite)
    | split

theorem keeps_execPowerOnReset (t : Nat) {s0 s : State} (hk : Keeps s0 s)  : KeepsO s0 (execPowerOnReset t s) := by
  unfold execPowerOnReset
  repeat' first
    | with_reducible assumption | intro _
    | with_reducible (first | apply keeps_State_beginAt | apply keeps_powerOn | apply keepsO_next | apply keepsO_ite)

theorem keeps_execPowerOnResetEnd (t : Nat) {s0 s : State} (hk : Keeps s0 s)  : KeepsO s0 (execPowerOnResetEnd t s) := by
  unfold execPowerOnResetEnd
  repeat' first
    | with_reducible assumption | intro _
    | ((fail_if_no_progress extract_lets +onlyGivenNames x); refine keeps_cut (s0 := s0) (x := x) ?_ ?_; on_goal 1 => subst x)
    | (fail_if_no_progress extract_lets +onlyGivenNames x)
    | with_reducible (first | apply keeps_State_sf | apply keeps_State_beginAt | apply keeps_releaseReset | apply keepsO_next | apply keepsO_ite)

theorem keeps_resetAndRelease  {s0 s : State} (hk : Keeps s0 s)  : Keeps s0 (resetAndRelease s) := by
  unfold resetAndRelease
  repeat' first
    | with_reducible assumption | intro _
    | with_reducible (first | apply keeps_State_at | apply keeps_deviceReset | apply keeps_releaseReset)

theorem keeps_devCtl (dev ctx : Bool) (key : Nat) {s0 s : State} (hk : Keeps s0 s)  : Keeps s0 (devCtl dev ctx key s) := by
  unfold devCtl
  repeat' first
    | with_reducible assumption | intro _
    | ((fail_if_no_progress extract_lets +onlyGivenNames x); refine keeps_cut (s0 := s0) (x := x) ?_ ?_; on_goal 1 => subst x)
    | (fail_if_no_progress extract_lets +onlyGivenNames x)
    | with_reducible (first | apply keeps_State_sf | apply keeps_State_keyErr | apply keeps_resetAndRelease | apply keeps_ite)
    | simp -zeta only [keeps_mk, keepsC_fold, id_eq] | split

theorem keeps_execDevRst (t : Nat) (src : Requester) (key : Byte) (ctxRst : Bool) {s0 s : State} (hk : Keeps s0 s)  : KeepsO s0 (execDevRst t src key ctxRst s) := by
  unfold execDevRst
  repeat' first
    | with_reducible assumption | intro _
    | with_reducible (first | apply keeps_State_beginAt | apply keeps_State_thWrite | apply keeps_devCtl | apply keepsO_next | apply keepsO_ite)

theorem keeps_execCtxRst (t : Nat) (src : Requester) (key : Byte) {s0 s : State} (hk : Keeps s0 s)  : KeepsO s0 (execCtxRst t src key s) := by
  unfold execCtxRst
  repeat' first
    | with_reducible assumption | intro _
    | with_reducible (first | apply keeps_State_beginAt | apply keeps_State_thWrite | apply keeps_devCtl | apply keepsO_next | apply keepsO_ite)

theorem keeps_execTapInstruction (t : Nat) (code : Nat) {s0 s : State} (hk : Keeps s0 s)  : KeepsO s0 (execTapInstruction t code s) := by
  unfold execTapInstruction
  repeat' first
    | with_reducible assumption | intro _
    | ((fail_if_no_progress extract_lets +onlyGivenNames x); refine keeps_cut (s0 := s0) (x := x) ?_ ?_; on_goal 1 => subst x)
    | (fail_if_no_progress extract_lets +onlyGivenNames x)
    | with_reducible (first | apply keeps_State_beginAt | apply keeps_deviceReset | apply keepsO_next | apply keepsO_ite | apply keeps_ite)
    | simp -zeta only [keeps_mk, keepsC_fold, id_eq] | split

/-! ### Machine/TwinCtl.lean -/

theorem keeps_firstActive (w : Twin) {s0 s : State} (hn : s.active = none) (hk : Keeps s0 s) : Keeps s0 (firstActive w s) := by
  unfold firstActive
  have h1 (v : Twin) : Keeps s0 (s.takeActive v) := keeps_State_takeActive _ (roleOf_of_active_none hn _) hk
  exact keeps_ite (keeps_ite (keeps_ite hk fun _ => keeps_same (h1 _) rfl rfl rfl rfl) fun _ => h1 _) fun _ => hk

theorem keeps_ite_firstActive (w : Twin) {s0 a x : State} (ha : Keeps s0 a) (hk : Keeps s0 x) :
    Keeps s0 (if x.active.isSome = true then a else firstActive w x) := by
  split
  · exact ha
  · rename_i hn
    exact keeps_firstActive _ (by simpa using hn) hk

theorem keepsO_ite_takeActive (w : Twin) {s0 x : State} {P : Prop} [Decidable P] (hk : Keeps s0 x) :
    KeepsO s0 (if x.active.isNone = true ∧ P then .next (x.takeActive w) else .next x) := by
  split
  · rename_i h
    exact keepsO_next (keeps_State_takeActive _ (roleOf_of_active_none (by simpa using h.1) _) hk)
  · exact keepsO_next hk

theorem keeps_ite_setActive (w : Twin) {s0 x : State} {P : Prop} {b : Bool} [Decidable (x.active = none ∧ P)] (hk : Keeps s0 x) :
    Keeps s0 (if (b && decide (x.active = none ∧ P)) = true then x.setRole w .active else x) := by
  split
  · rename_i h
    have h1 : x.active = none ∧ P := by simp only [Bool.and_eq_true, decide_eq_true_eq] at h; exact h.2
    exact keeps_State_setRole_active _ (roleOf_of_active_none h1.1 _) hk
  · exact hk

theorem keeps_startDone (w : Twin) {s0 s : State} (hk : Keeps s0 s) : Keeps s0 (startDone w s) := by
  unfold startDone
  repeat' first
    | with_reducible assumption | decide | intro _
    | ((fail_if_no_progress extract_lets +onlyGivenNames x); refine keeps_cut (s0 := s0) (x := x) ?_ ?_; on_goal 1 => subst x)
    | (fail_if_no_progress extract_lets +onlyGivenNames x)
    | with_reducible (first | apply keeps_ite_firstActive | apply keeps_State_setStarted | apply keeps_State_setRoles | apply keeps_State_setRole | apply keeps_trialStarts | apply keeps_settingsStart | apply keeps_calAtStart | apply keeps_firstActive | apply keeps_ite | apply keeps_ite2 | apply keeps_ite22 | (refine keeps_eq2 (by with_reducible assumption) ?_) | (refine keeps_eq22 (by with_reducible assumption) ?_))
    | simp -zeta only [keeps_mk, keepsC_fold, id_eq] | (refine keepsC_le ?_ ?_ ?_) | omega | split | (clear_value *; split)

theorem keeps_execTwinStartComplete (t : Nat) (w : Twin) {s0 s : State} (hk : Keeps s0 s)  : KeepsO s0 (execTwinStartComplete t w s) := by
  unfold execTwinStartComplete
  repeat' first
    | with_reducible assumption | intro _
    | with_reducible (first | apply keeps_State_beginAt | apply keeps_startDone | apply keepsO_next | apply keepsO_ite)

theorem keeps_execFwTrial (t : Nat) {s0 s : State} (hk : Keeps s0 s)  : KeepsO s0 (execFwTrial t s) := by
  unfold execFwTrial
  repeat' first
    | with_reducible assumption | intro _
    | ((fail_if_no_progress extract_lets +onlyGivenNames x); refine keeps_cut (s0 := s0) (x := x) ?_ ?_; on_goal 1 => subst x)
    | (fail_if_no_progress extract_lets +onlyGivenNames x)
    | with_reducible (first | apply keeps_State_each | apply keeps_State_beginAt | apply keeps_startDone | apply keepsO_next | apply keepsO_ite)

theorem keeps_execTwinStartTimeout  {s0 s : State} (hk : Keeps s0 s) : KeepsO s0 (execTwinStartTimeout s) := by
  unfold execTwinStartTimeout
  repeat' first
    | with_reducible assumption | decide | intro _
    | ((fail_if_no_progress extract_lets +onlyGivenNames x); refine keeps_cut (s0 := s0) (x := x) ?_ ?_; on_goal 1 => subst x)
    | (fail_if_no_progress extract_lets +onlyGivenNames x)
    | with_reducible (first | apply keepsO_ite_takeActive | apply keeps_State_at | apply keeps_State_begin | apply keeps_State_takeActive | apply keepsO_next | apply keepsO_ite | apply keeps_ite | apply keeps_ite2 | apply keeps_ite22 | (refine keeps_eq2 (by with_reducible assumption) ?_) | (refine keeps_eq22 (by with_reducible assumption) ?_))
    | simp -zeta only [keeps_mk, keepsC_fold, id_eq] | (refine keepsC_le ?_ ?_ ?_) | omega | split | (clear_value *; split)

theorem keeps_clearRst (w : Twin) {s0 s : State} (hk : Keeps s0 s) : Keeps s0 (clearRst w s) := by
  unfold clearRst
  repeat' first
    | with_reducible assumption | decide | intro _
    | ((fail_if_no_progress extract_lets +onlyGivenNames x); refine keeps_cut (s0 := s0) (x := x) ?_ ?_; on_goal 1 => subst x)
    | (fail_if_no_progress extract_lets +onlyGivenNames x)
    | with_reducible (first | apply keeps_State_sb | apply keeps_startFirmware | apply keeps_State_withdraw | apply keeps_ite | apply keeps_ite2 | apply keeps_ite22 | (refine keeps_eq2 (by with_reducible assumption) ?_) | (refine keeps_eq22 (by with_reducible assumption) ?_))
    | simp -zeta only [keeps_mk, keepsC_fold, id_eq] | (refine keepsC_le ?_ ?_ ?_) | omega | split | (clear_value *; split)

theorem keeps_clearIso (w : Twin) {s0 s : State} (hk : Keeps s0 s) : Keeps s0 (clearIso w s) := by
  unfold clearIso
  repeat' first
    | with_reducible assumption | decide | intro _
    | ((fail_if_no_progress extract_lets +onlyGivenNames x); refine keeps_cut (s0 := s0) (x := x) ?_ ?_; on_goal 1 => subst x)
    | (fail_if_no_progress extract_lets +onlyGivenNames x)
    | with_reducible (first | apply keeps_State_sb | apply keeps_startFirmware | apply keeps_State_setRole | apply keeps_State_withdraw | apply keeps_ite | apply keeps_ite2 | apply keeps_ite22 | (refine keeps_eq2 (by with_reducible assumption) ?_) | (refine keeps_eq22 (by with_reducible assumption) ?_))
    | simp -zeta only [keeps_mk, keepsC_fold, id_eq] | (refine keepsC_le ?_ ?_ ?_) | omega | split | (clear_value *; split)

theorem keeps_setBits (w : Twin) (iso rst : Bool) {s0 s : State} (hk : Keeps s0 s)  : Keeps s0 (setBits w iso rst s) := by
  unfold setBits
  repeat' first
    | with_reducible assumption | intro _
    | ((fail_if_no_progress extract_lets +onlyGivenNames x); refine keeps_cut (s0 := s0) (x := x) ?_ ?_; on_goal 1 => subst x)
    | (fail_if_no_progress extract_lets +onlyGivenNames x)
    | with_reducible (first | apply keeps_State_sb | apply keeps_State_isolate | apply keeps_State_holdReset | apply keeps_ite)
    | split

theorem keeps_State_markForced  {s0 s : State} (hk : Keeps s0 s) : Keeps s0 (State.markForced s) := by
  unfold State.markForced
  repeat' first
    | with_reducible assumption | decide | intro _
    | ((fail_if_no_progress extract_lets +onlyGivenNames x); refine keeps_cut (s0 := s0) (x := x) ?_ ?_; on_goal 1 => subst x)
    | (fail_if_no_progress extract_lets +onlyGivenNames x)
    | with_reducible (first | apply keeps_ite | apply keeps_ite2 | apply keeps_ite22 | (refine keeps_eq2 (by with_reducible assumption) ?_) | (refine keeps_eq22 (by with_reducible assumption) ?_))
    | simp -zeta only [keeps_mk, keepsC_fold, id_eq] | (refine keepsC_le ?_ ?_ ?_) | omega | split | (clear_value *; split)

theorem keeps_forcedSwap {s0 s : State} (hk : Keeps s0 s) : Keeps s0 (forcedSwap s) := by
  unfold forcedSwap
  split
  · exact keeps_ite (keeps_State_markForced (keeps_State_setRoles2 _ _ _ (by decide) (keeps_State_sb _ _ _ hk))) fun _ => keeps_State_refuse hk
  · rename_i hn
    split
    · exact keeps_State_markForced (keeps_State_takeActive _ (roleOf_of_active_none hn _) hk)
    · exact keeps_State_refuse hk

theorem keeps_passActive (w : Twin) (iso : Bool) {s0 s : State} (hk : Keeps s0 s) : Keeps s0 (passActive w iso s) := by
  unfold passActive
  exact keeps_State_setRoles2 _ _ _ (fun h => ite_role_ne (by decide) (by decide) h.1) (keeps_ite hk fun _ => keeps_State_sb _ _ _ hk)

theorem keeps_twinCtl (v : Word) {s0 s : State} (hk : Keeps s0 s) : Keeps s0 (twinCtl v s) := by
  unfold twinCtl
  repeat' first
    | with_reducible assumption | decide | intro _
    | ((fail_if_no_progress extract_lets +onlyGivenNames x); refine keeps_cut (s0 := s0) (x := x) ?_ ?_; on_goal 1 => subst x)
    | (fail_if_no_progress extract_lets +onlyGivenNames x)
    | with_reducible (first | apply keeps_State_sb | apply keeps_State_each | apply keeps_State_isolate | apply keeps_State_refuse | apply keeps_State_addSwap | apply keeps_endArb | apply keeps_lateDigest | apply keeps_clearRst | apply keeps_clearIso | apply keeps_setBits | apply keeps_forcedSwap | apply keeps_passActive | apply keeps_ite | apply keeps_ite2 | apply keeps_ite22 | (refine keeps_eq2 (by with_reducible assumption) ?_) | (refine keeps_eq22 (by with_reducible assumption) ?_))
    | simp -zeta only [keeps_mk, keepsC_fold, id_eq] | (refine keepsC_le ?_ ?_ ?_) | omega | split | (clear_value *; split)

theorem keeps_twinCtlWrite (v : Word) {s0 s : State} (hk : Keeps s0 s) : Keeps s0 (twinCtlWrite v s) := by
  unfold twinCtlWrite
  repeat' first
    | with_reducible assumption | decide | intro _
    | ((fail_if_no_progress extract_lets +onlyGivenNames x); refine keeps_cut (s0 := s0) (x := x) ?_ ?_; on_goal 1 => subst x)
    | (fail_if_no_progress extract_lets +onlyGivenNames x)
    | with_reducible (first | apply keeps_State_refuse | apply keeps_forcedSwap | apply keeps_twinCtl | apply keeps_ite | apply keeps_ite2 | apply keeps_ite22 | (refine keeps_eq2 (by with_reducible assumption) ?_) | (refine keeps_eq22 (by with_reducible assumption) ?_))
    | simp -zeta only [keeps_mk, keepsC_fold, id_eq] | (refine keepsC_le ?_ ?_ ?_) | omega | split | (clear_value *; split)

theorem keeps_execRstSet (t : Nat) (src : Requester) (ta tb force : Bool) {s0 s : State} (hk : Keeps s0 s)  : KeepsO s0 (execRstSet t src ta tb force s) := by
  unfold execRstSet
  repeat' first
    | with_reducible assumption | intro _
    | with_reducible (first | apply keeps_State_beginAt | apply keeps_State_thWrite | apply keeps_twinCtlWrite | apply keepsO_next | apply keepsO_ite)

theorem keeps_execRstClear (t : Nat) (src : Requester) (ta tb : Bool) {s0 s : State} (hk : Keeps s0 s)  : KeepsO s0 (execRstClear t src ta tb s) := by
  unfold execRstClear
  repeat' first
    | with_reducible assumption | intro _
    | with_reducible (first | apply keeps_State_beginAt | apply keeps_State_thWrite | apply keeps_twinCtlWrite | apply keepsO_next | apply keepsO_ite)

theorem keeps_execIsoSet (t : Nat) (src : Requester) (ta tb force : Bool) {s0 s : State} (hk : Keeps s0 s)  : KeepsO s0 (execIsoSet t src ta tb force s) := by
  unfold execIsoSet
  repeat' first
    | with_reducible assumption | intro _
    | with_reducible (first | apply keeps_State_beginAt | apply keeps_State_thWrite | apply keeps_twinCtlWrite | apply keepsO_next | apply keepsO_ite)

theorem keeps_execIsoClear (t : Nat) (src : Requester) (ta tb : Bool) {s0 s : State} (hk : Keeps s0 s)  : KeepsO s0 (execIsoClear t src ta tb s) := by
  unfold execIsoClear
  repeat' first
    | with_reducible assumption | intro _
    | with_reducible (first | apply keeps_State_beginAt | apply keeps_State_thWrite | apply keeps_twinCtlWrite | apply keepsO_next | apply keepsO_ite)

theorem keeps_execSwap (t : Nat) (src : Requester) (force : Bool) {s0 s : State} (hk : Keeps s0 s)  : KeepsO s0 (execSwap t src force s) := by
  unfold execSwap
  repeat' first
    | with_reducible assumption | intro _
    | with_reducible (first | apply keeps_State_beginAt | apply keeps_State_thWrite | apply keeps_twinCtlWrite | apply keepsO_next | apply keepsO_ite)

theorem keeps_outCtl (hold safe : Bool) {s0 s : State} (hk : Keeps s0 s) : Keeps s0 (outCtl hold safe s) := by
  unfold outCtl
  repeat' first
    | with_reducible assumption | decide | intro _
    | ((fail_if_no_progress extract_lets +onlyGivenNames x); refine keeps_cut (s0 := s0) (x := x) ?_ ?_; on_goal 1 => subst x)
    | (fail_if_no_progress extract_lets +onlyGivenNames x)
    | with_reducible (first | apply keeps_State_sb | apply keeps_leaveHold | apply keeps_ite | apply keeps_ite2 | apply keeps_ite22 | (refine keeps_eq2 (by with_reducible assumption) ?_) | (refine keeps_eq22 (by with_reducible assumption) ?_))
    | simp -zeta only [keeps_mk, keepsC_fold, id_eq] | (refine keepsC_le ?_ ?_ ?_) | omega | split | (clear_value *; split)

theorem keeps_execOutHold (t : Nat) (src : Requester) (on : Bool) {s0 s : State} (hk : Keeps s0 s)  : KeepsO s0 (execOutHold t src on s) := by
  unfold execOutHold
  repeat' first
    | with_reducible assumption | intro _
    | with_reducible (first | apply keeps_State_beginAt | apply keeps_State_thWrite | apply keeps_outCtl | apply keepsO_next | apply keepsO_ite)

theorem keeps_execOutSafe (t : Nat) (src : Requester) (on : Bool) {s0 s : State} (hk : Keeps s0 s)  : KeepsO s0 (execOutSafe t src on s) := by
  unfold execOutSafe
  repeat' first
    | with_reducible assumption | intro _
    | with_reducible (first | apply keeps_State_beginAt | apply keeps_State_thWrite | apply keeps_outCtl | apply keepsO_next | apply keepsO_ite)

theorem keeps_loadWdog (ms : Nat) {s0 s : State} (hk : Keeps s0 s)  : Keeps s0 (loadWdog ms s) := by
  unfold loadWdog
  repeat' first
    | with_reducible assumption | intro _
    | ((fail_if_no_progress extract_lets +onlyGivenNames x); refine keeps_cut (s0 := s0) (x := x) ?_ ?_; on_goal 1 => subst x)
    | (fail_if_no_progress extract_lets +onlyGivenNames x) | simp -zeta only [keeps_mk, keepsC_fold, id_eq]

theorem keeps_wdogCtl (v : Word) {s0 s : State} (hk : Keeps s0 s)  : Keeps s0 (wdogCtl v s) := by
  unfold wdogCtl
  repeat' first
    | with_reducible assumption | intro _
    | ((fail_if_no_progress extract_lets +onlyGivenNames x); refine keeps_cut (s0 := s0) (x := x) ?_ ?_; on_goal 1 => subst x)
    | (fail_if_no_progress extract_lets +onlyGivenNames x)
    | with_reducible (first | apply keeps_State_plainWrite | apply keeps_loadWdog | apply keeps_ite)
    | simp -zeta only [keeps_mk, keepsC_fold, id_eq] | split

theorem keeps_execWdogCtlWrite (t : Nat) (src : Requester) (v : Word) {s0 s : State} (hk : Keeps s0 s)  : KeepsO s0 (execWdogCtlWrite t src v s) := by
  unfold execWdogCtlWrite
  repeat' first
    | with_reducible assumption | intro _
    | with_reducible (first | apply keeps_State_beginAt | apply keeps_State_thWrite | apply keeps_wdogCtl | apply keepsO_next | apply keepsO_ite)

theorem keeps_kickWdog (v : Word) {s0 s : State} (hk : Keeps s0 s)  : Keeps s0 (kickWdog v s) := by
  unfold kickWdog
  repeat' first
    | with_reducible assumption | intro _
    | with_reducible (first | apply keeps_State_keyErr | apply keeps_loadWdog | apply keeps_ite) | split

theorem keeps_execWdogKick (t : Nat) (src : Requester) (v : Word) {s0 s : State} (hk : Keeps s0 s)  : KeepsO s0 (execWdogKick t src v s) := by
  unfold execWdogKick
  repeat' first
    | with_reducible assumption | intro _
    | with_reducible (first | apply keeps_State_beginAt | apply keeps_State_thWrite | apply keeps_kickWdog | apply keepsO_next | apply keepsO_ite)

theorem keeps_execWdogExpired  {s0 s : State} (hk : Keeps s0 s)  : KeepsO s0 (execWdogExpired s) := by
  unfold execWdogExpired
  repeat' first
    | with_reducible assumption | intro _
    | ((fail_if_no_progress extract_lets +onlyGivenNames x); refine keeps_cut (s0 := s0) (x := x) ?_ ?_; on_goal 1 => subst x)
    | (fail_if_no_progress extract_lets +onlyGivenNames x)
    | with_reducible (first | apply keeps_State_sb | apply keeps_State_at | apply keeps_State_begin | apply keeps_State_raiseTh | apply keeps_resetAndRelease | apply keeps_outCtl | apply keepsO_next | apply keepsO_ite)
    | simp -zeta only [keeps_mk, keepsC_fold, id_eq] | split

theorem keeps_arbDecide  {s0 s : State} (hk : Keeps s0 s)  : Keeps s0 (arbDecide s) := by
  unfold arbDecide
  repeat' first
    | with_reducible assumption | intro _
    | ((fail_if_no_progress extract_lets +onlyGivenNames x); refine keeps_cut (s0 := s0) (x := x) ?_ ?_; on_goal 1 => subst x)
    | (fail_if_no_progress extract_lets +onlyGivenNames x)
    | with_reducible (first | apply keeps_State_at | apply keeps_decideArb | apply keeps_lateDigest)
    | simp -zeta only [keeps_mk, keepsC_fold, id_eq] | split

theorem keeps_execPeriArbDecide  {s0 s : State} (hk : Keeps s0 s)  : KeepsO s0 (execPeriArbDecide s) := by
  unfold execPeriArbDecide
  repeat' first
    | with_reducible assumption | intro _
    | with_reducible (first | apply keeps_State_begin | apply keeps_arbDecide | apply keepsO_next | apply keepsO_ite)

theorem keeps_periResume {s0 s : State} (hk : Keeps s0 s) : Keeps s0 (periResume s) := by
  unfold periResume
  split
  · exact hk
  extract_lets s1 back p s2
  have hb : ∀ h x, Keeps s0 x → Keeps s0 (back h x) := fun h x hx => by
    simp only [back]
    split
    · exact keeps_ite (keeps_State_emit _ hx) fun _ => hx
    · exact hx
  have h1 : Keeps s0 s1 := keeps_State_at _ hk
  have h2 : Keeps s0 s2 := keeps_foldl (keeps_same h1 rfl rfl rfl rfl) fun x h hx => hb h _ (keeps_ringResume _ hx)
  exact keeps_foldl h2 fun x h hx => keeps_slipStream _ _ hx

theorem keeps_execPeriResume  {s0 s : State} (hk : Keeps s0 s)  : KeepsO s0 (execPeriResume s) := by
  unfold execPeriResume
  repeat' first
    | with_reducible assumption | intro _
    | with_reducible (first | apply keeps_State_begin | apply keeps_periResume | apply keepsO_next | apply keepsO_ite)

theorem keeps_execDigestCompare (t : Nat) (arrA arrB : Bool) {s0 s : State} (hk : Keeps s0 s)  : KeepsO s0 (execDigestCompare t arrA arrB s) := by
  unfold execDigestCompare
  repeat' first
    | with_reducible assumption | intro _
    | with_reducible (first | apply keeps_State_beginAt | apply keeps_digestCompare | apply keepsO_next | apply keepsO_ite)

theorem keeps_execDieSensorOvertemp (t : Nat) (w : Twin) {s0 s : State} (hk : Keeps s0 s)  : KeepsO s0 (execDieSensorOvertemp t w s) := by
  unfold execDieSensorOvertemp
  repeat' first
    | with_reducible assumption | intro _
    | with_reducible (first | apply keeps_State_beginAt | apply keeps_State_setHealth | apply keepsO_next | apply keepsO_ite)

/-! ### Machine/Power.lean -/

theorem keeps_setPhase (n : Nat) {s0 s : State} (hk : Keeps s0 s)  : Keeps s0 (setPhase n s) := by
  unfold setPhase
  repeat' first
    | with_reducible assumption | intro _ | with_reducible apply keeps_State_sf

theorem keeps_State_modPwr (f : Power → Power) {s0 s : State} (hk : Keeps s0 s)  : Keeps s0 (State.modPwr s f) := by
  unfold State.modPwr
  repeat' first
    | with_reducible assumption | intro _
    | ((fail_if_no_progress extract_lets +onlyGivenNames x); refine keeps_cut (s0 := s0) (x := x) ?_ ?_; on_goal 1 => subst x)
    | (fail_if_no_progress extract_lets +onlyGivenNames x) | simp -zeta only [keeps_mk, keepsC_fold, id_eq]

theorem keeps_setOpp (n : Nat) {s0 s : State} (hk : Keeps s0 s)  : Keeps s0 (setOpp n s) := by
  unfold setOpp
  repeat' first
    | with_reducible assumption | intro _ | with_reducible apply keeps_State_sf

theorem keeps_startOpp (new : Nat) {s0 s : State} (hk : Keeps s0 s)  : Keeps s0 (startOpp new s) := by
  unfold startOpp
  repeat' first
    | with_reducible assumption | intro _
    | ((fail_if_no_progress extract_lets +onlyGivenNames x); refine keeps_cut (s0 := s0) (x := x) ?_ ?_; on_goal 1 => subst x)
    | (fail_if_no_progress extract_lets +onlyGivenNames x)
    | with_reducible (first | apply keeps_State_modPwr | apply keeps_setOpp | apply keeps_ite)
    | simp -zeta only [keeps_mk, keepsC_fold, id_eq] | split

theorem keeps_oppTick  {s0 s : State} (hk : Keeps s0 s)  : Keeps s0 (oppTick s) := by
  unfold oppTick
  repeat' first
    | with_reducible assumption | intro _
    | ((fail_if_no_progress extract_lets +onlyGivenNames x); refine keeps_cut (s0 := s0) (x := x) ?_ ?_; on_goal 1 => subst x)
    | (fail_if_no_progress extract_lets +onlyGivenNames x)
    | with_reducible (first | apply keeps_State_modPwr | apply keeps_startOpp | apply keeps_ite)
    | simp -zeta only [keeps_mk, keepsC_fold, id_eq] | split

theorem keeps_oppRaised (c : OppChange) {s0 s : State} (hk : Keeps s0 s)  : Keeps s0 (oppRaised c s) := by
  unfold oppRaised
  repeat' first
    | with_reducible assumption | intro _
    | ((fail_if_no_progress extract_lets +onlyGivenNames x); refine keeps_cut (s0 := s0) (x := x) ?_ ?_; on_goal 1 => subst x)
    | (fail_if_no_progress extract_lets +onlyGivenNames x) | with_reducible (first | apply keeps_State_modPwr | apply keeps_setOpp)
    | simp -zeta only [keeps_mk, keepsC_fold, id_eq]

theorem keeps_execOppRaiseSettle (t : Nat) (pgA pgB : Bool) {s0 s : State} (hk : Keeps s0 s)  : KeepsO s0 (execOppRaiseSettle t pgA pgB s) := by
  unfold execOppRaiseSettle
  repeat' first
    | with_reducible assumption | intro _
    | ((fail_if_no_progress extract_lets +onlyGivenNames x); refine keeps_cut (s0 := s0) (x := x) ?_ ?_; on_goal 1 => subst x)
    | (fail_if_no_progress extract_lets +onlyGivenNames x)
    | with_reducible (first | apply keeps_State_beginAt | apply keeps_oppRaised | apply keepsO_next | apply keepsO_ite | apply keeps_ite)
    | simp -zeta only [keeps_mk, keepsC_fold, id_eq] | split

theorem keeps_execOppLowerSettle  {s0 s : State} (hk : Keeps s0 s)  : KeepsO s0 (execOppLowerSettle s) := by
  unfold execOppLowerSettle
  repeat' first
    | with_reducible assumption | intro _
    | ((fail_if_no_progress extract_lets +onlyGivenNames x); refine keeps_cut (s0 := s0) (x := x) ?_ ?_; on_goal 1 => subst x)
    | (fail_if_no_progress extract_lets +onlyGivenNames x)
    | with_reducible (first | apply keeps_State_at | apply keeps_State_begin | apply keeps_State_modPwr | apply keepsO_next | apply keepsO_ite | apply keeps_ite)
    | simp -zeta only [keeps_mk, keepsC_fold, id_eq] | split

theorem keeps_execOppPgTimeout (pgA pgB : Bool) {s0 s : State} (hk : Keeps s0 s)  : KeepsO s0 (execOppPgTimeout pgA pgB s) := by
  unfold execOppPgTimeout
  repeat' first
    | with_reducible assumption | intro _
    | ((fail_if_no_progress extract_lets +onlyGivenNames x); refine keeps_cut (s0 := s0) (x := x) ?_ ?_; on_goal 1 => subst x)
    | (fail_if_no_progress extract_lets +onlyGivenNames x)
    | with_reducible (first | apply keeps_State_at | apply keeps_State_begin | apply keeps_State_setHealth | apply keeps_State_modPwr | apply keeps_oppRaised | apply keepsO_next | apply keepsO_ite | apply keeps_ite)
    | simp -zeta only [keeps_mk, keepsC_fold, id_eq] | split

theorem keeps_writeOpp (v : Word) {s0 s : State} (hk : Keeps s0 s)  : Keeps s0 (writeOpp v s) := by
  unfold writeOpp
  repeat' first
    | with_reducible assumption | intro _
    | ((fail_if_no_progress extract_lets +onlyGivenNames x); refine keeps_cut (s0 := s0) (x := x) ?_ ?_; on_goal 1 => subst x)
    | (fail_if_no_progress extract_lets +onlyGivenNames x)
    | with_reducible (first | apply keeps_State_plainWrite | apply keeps_State_modPwr)
    | simp -zeta only [keeps_mk, keepsC_fold, id_eq]

theorem keeps_execPwrOppWrite (t : Nat) (src : Requester) (v : Word) {s0 s : State} (hk : Keeps s0 s)  : KeepsO s0 (execPwrOppWrite t src v s) := by
  unfold execPwrOppWrite
  repeat' first
    | with_reducible assumption | intro _
    | with_reducible (first | apply keeps_State_beginAt | apply keeps_State_thWrite | apply keeps_writeOpp | apply keepsO_next | apply keepsO_ite)

theorem keeps_stateChange  {s0 s : State} (hk : Keeps s0 s)  : Keeps s0 (stateChange s) := by
  unfold stateChange
  repeat' first
    | with_reducible assumption | intro _
    | ((fail_if_no_progress extract_lets +onlyGivenNames x); refine keeps_cut (s0 := s0) (x := x) ?_ ?_; on_goal 1 => subst x)
    | (fail_if_no_progress extract_lets +onlyGivenNames x)
    | with_reducible (first | apply keeps_State_sf | apply keeps_State_modPwr | apply keeps_oppTick | apply keeps_ite)
    | simp -zeta only [keeps_mk, keepsC_fold, id_eq] | split

theorem keeps_execPwrStateChange  {s0 s : State} (hk : Keeps s0 s)  : KeepsO s0 (execPwrStateChange s) := by
  unfold execPwrStateChange
  repeat' first
    | with_reducible assumption | intro _
    | with_reducible (first | apply keeps_State_begin | apply keeps_stateChange | apply keepsO_next | apply keepsO_ite)

theorem keeps_runDeferred (d : Deferred) {s0 s : State} (h : Keeps s0 s) : Keeps s0 (runDeferred s d) := by
  cases d
  · exact keeps_twinCtl _ h
  · exact keeps_State_deliver _ _ h fun w x hx => keeps_graftGo _ hx

theorem keeps_dropLinks (w : Twin) {s0 s : State} (hk : Keeps s0 s) : Keeps s0 (dropLinks w s) := by
  unfold dropLinks
  repeat' first
    | with_reducible assumption | decide | intro _
    | ((fail_if_no_progress extract_lets +onlyGivenNames x); refine keeps_cut (s0 := s0) (x := x) ?_ ?_; on_goal 1 => subst x)
    | (fail_if_no_progress extract_lets +onlyGivenNames x)
    | with_reducible (first | apply keeps_linkDown | apply keeps_ite | apply keeps_ite2 | apply keeps_ite22 | apply keeps_foldl | apply keeps_foldl2 | (refine keeps_eq2 (by with_reducible assumption) ?_) | (refine keeps_eq22 (by with_reducible assumption) ?_))
    | simp -zeta only [keeps_mk, keepsC_fold, id_eq] | (refine keepsC_le ?_ ?_ ?_) | omega | split | (clear_value *; split)

theorem keeps_napWake (source st : Nat) {s0 s : State} (hk : Keeps s0 s)  : Keeps s0 (napWake source st s) := by
  unfold napWake
  repeat' first
    | with_reducible assumption | intro _
    | ((fail_if_no_progress extract_lets +onlyGivenNames x); refine keeps_cut (s0 := s0) (x := x) ?_ ?_; on_goal 1 => subst x)
    | (fail_if_no_progress extract_lets +onlyGivenNames x)
    | with_reducible (first | apply keeps_State_sf | apply keeps_State_modTw | apply keeps_State_each | apply keeps_State_raisePwr | apply keeps_wakeBanks | apply keeps_calResume | apply keeps_setPhase | apply keeps_runDeferred | apply keeps_dropLinks | apply keeps_foldl)
    | simp -zeta only [keeps_mk, keepsC_fold, id_eq]

theorem keeps_resumeTick  {s0 s : State} (hk : Keeps s0 s) : Keeps s0 (resumeTick s) := by
  unfold resumeTick
  repeat' first
    | with_reducible assumption | decide | intro _
    | ((fail_if_no_progress extract_lets +onlyGivenNames x); refine keeps_cut (s0 := s0) (x := x) ?_ ?_; on_goal 1 => subst x)
    | (fail_if_no_progress extract_lets +onlyGivenNames x)
    | with_reducible (first | apply keeps_State_emitWake | apply keeps_State_modPwr | apply keeps_ite | apply keeps_ite2 | apply keeps_ite22 | apply keeps_foldl | apply keeps_foldl2 | (refine keeps_eq2 (by with_reducible assumption) ?_) | (refine keeps_eq22 (by with_reducible assumption) ?_))
    | simp -zeta only [keeps_mk, keepsC_fold, id_eq] | (refine keepsC_le ?_ ?_ ?_) | omega | split | (clear_value *; split)

theorem keeps_enterDark (valid : Bool) {s0 s : State} (hk : Keeps s0 s) : Keeps s0 (enterDark valid s) := by
  unfold enterDark
  repeat' first
    | with_reducible assumption | decide | intro _
    | ((fail_if_no_progress extract_lets +onlyGivenNames x); refine keeps_cut (s0 := s0) (x := x) ?_ ?_; on_goal 1 => subst x)
    | (fail_if_no_progress extract_lets +onlyGivenNames x)
    | with_reducible (first | apply keeps_State_wrB | apply keeps_State_sf | apply keeps_State_raisePwr | apply keeps_State_setRoles | apply keeps_setPhase | apply keeps_ite | apply keeps_ite2 | apply keeps_ite22 | apply keeps_foldl | apply keeps_foldl2 | (refine keeps_eq2 (by with_reducible assumption) ?_) | (refine keeps_eq22 (by with_reducible assumption) ?_))
    | simp -zeta only [keeps_mk, keepsC_fold, id_eq] | (refine keepsC_le ?_ ?_ ?_) | omega | split | (clear_value *; split)

theorem keeps_restoreBase (n : Fin 4) (v : TimeBase) {s0 s : State} (hk : Keeps s0 s) : Keeps s0 (restoreBase n v s) := by
  unfold restoreBase
  repeat' first
    | with_reducible assumption | decide | intro _
    | ((fail_if_no_progress extract_lets +onlyGivenNames x); refine keeps_cut (s0 := s0) (x := x) ?_ ?_; on_goal 1 => subst x)
    | (fail_if_no_progress extract_lets +onlyGivenNames x)
    | with_reducible (first | apply keeps_State_sf | apply keeps_State_setTb | apply keeps_State_runTb | apply keeps_ite | apply keeps_ite2 | apply keeps_ite22 | (refine keeps_eq2 (by with_reducible assumption) ?_) | (refine keeps_eq22 (by with_reducible assumption) ?_))
    | simp -zeta only [keeps_mk, keepsC_fold, id_eq] | (refine keepsC_le ?_ ?_ ?_) | omega | split | (clear_value *; split)

theorem keeps_restoreSave (v : Saved) {s0 s : State} (hk : Keeps s0 s)  : Keeps s0 (restoreSave v s) := by
  unfold restoreSave
  repeat' first
    | with_reducible assumption | intro _
    | ((fail_if_no_progress extract_lets +onlyGivenNames x); refine keeps_cut (s0 := s0) (x := x) ?_ ?_; on_goal 1 => subst x)
    | (fail_if_no_progress extract_lets +onlyGivenNames x)
    | with_reducible (first | apply keeps_State_wrB | apply keeps_State_setReg | apply keeps_restoreTick | apply keeps_State_modPwr | apply keeps_restoreBase | apply keeps_ite | apply keeps_foldl)
    | simp -zeta only [keeps_mk, keepsC_fold, id_eq] | split

theorem keeps_flushHeld (l : List (Nat × Nat)) {s0 s : State} (hk : Keeps s0 s)  : Keeps s0 (flushHeld l s) := by
  unfold flushHeld
  repeat' first
    | with_reducible assumption | intro _
    | ((fail_if_no_progress extract_lets +onlyGivenNames x); refine keeps_cut (s0 := s0) (x := x) ?_ ?_; on_goal 1 => subst x)
    | (fail_if_no_progress extract_lets +onlyGivenNames x)
    | with_reducible (first | apply keeps_State_orReg | apply keeps_State_sendMsix | apply keeps_ite | apply keeps_ite2 | apply keeps_foldl)
    | simp -zeta only [keeps_mk, keepsC_fold, id_eq] | split

theorem keeps_darkStart (source : Nat) {s0 s : State} (hk : Keeps s0 s)  : Keeps s0 (darkStart source s) := by
  unfold darkStart
  repeat' first
    | with_reducible assumption | intro _
    | ((fail_if_no_progress extract_lets +onlyGivenNames x); refine keeps_cut (s0 := s0) (x := x) ?_ ?_; on_goal 1 => subst x)
    | (fail_if_no_progress extract_lets +onlyGivenNames x) | with_reducible (first | apply keeps_setPhase | apply keeps_State_modPwr)
    | simp -zeta only [keeps_mk, keepsC_fold, id_eq]

theorem keeps_keepWake (source : Nat) (old : State) {s0 s : State} (hk : Keeps s0 s)  : Keeps s0 (keepWake source old s) := by
  unfold keepWake
  repeat' first
    | with_reducible assumption | intro _
    | ((fail_if_no_progress extract_lets +onlyGivenNames x); refine keeps_cut (s0 := s0) (x := x) ?_ ?_; on_goal 1 => subst x)
    | (fail_if_no_progress extract_lets +onlyGivenNames x)
    | with_reducible (first | apply keeps_State_setReg | apply keeps_State_sf | apply keeps_State_sb | apply keeps_ite) | split

theorem keeps_darkEnd (x : WakeSt) {s0 s : State} (hk : Keeps s0 s)  : Keeps s0 (darkEnd x s) := by
  unfold darkEnd
  repeat' first
    | with_reducible assumption | intro _
    | ((fail_if_no_progress extract_lets +onlyGivenNames x); refine keeps_cut (s0 := s0) (x := x) ?_ ?_; on_goal 1 => subst x)
    | (fail_if_no_progress extract_lets +onlyGivenNames x)
    | with_reducible (first | apply keeps_State_sb | apply keeps_State_raisePwr | apply keeps_deviceReset | apply keeps_releaseReset | apply keeps_State_modPwr | apply keeps_restoreSave | apply keeps_flushHeld | apply keeps_keepWake)
    | simp -zeta only [keeps_mk, keepsC_fold, id_eq] | split

theorem keeps_execDarkWake (t : Nat) (source : Fin 8) {s0 s : State} (hk : Keeps s0 s)  : KeepsO s0 (execDarkWake t source s) := by
  unfold execDarkWake
  repeat' first
    | with_reducible assumption | intro _
    | ((fail_if_no_progress extract_lets +onlyGivenNames x); refine keeps_cut (s0 := s0) (x := x) ?_ ?_; on_goal 1 => subst x)
    | (fail_if_no_progress extract_lets +onlyGivenNames x)
    | with_reducible (first | apply keeps_State_beginAt | apply keeps_darkEnd | apply keepsO_next | apply keepsO_ite | apply keeps_ite)
    | simp -zeta only [keeps_mk, keepsC_fold, id_eq] | split

theorem keeps_wakeFail (domain step : Nat) {s0 s : State} (hk : Keeps s0 s)  : Keeps s0 (wakeFail domain step s) := by
  unfold wakeFail
  repeat' first
    | with_reducible assumption | intro _
    | ((fail_if_no_progress extract_lets +onlyGivenNames x); refine keeps_cut (s0 := s0) (x := x) ?_ ?_; on_goal 1 => subst x)
    | (fail_if_no_progress extract_lets +onlyGivenNames x)
    | with_reducible (first | apply keeps_State_sf | apply keeps_State_sb | apply keeps_State_raisePwr | apply keeps_step)

theorem keeps_failedMain (source domain step : Nat) {s0 s : State} (hk : Keeps s0 s)  : Keeps s0 (failedMain source domain step s) := by
  unfold failedMain
  repeat' first
    | with_reducible assumption | intro _
    | ((fail_if_no_progress extract_lets +onlyGivenNames x); refine keeps_cut (s0 := s0) (x := x) ?_ ?_; on_goal 1 => subst x)
    | (fail_if_no_progress extract_lets +onlyGivenNames x)
    | with_reducible (first | apply keeps_State_sf | apply keeps_deviceReset | apply keeps_State_modPwr | apply keeps_flushHeld | apply keeps_keepWake | apply keeps_wakeFail | apply keeps_step)
    | simp -zeta only [keeps_mk, keepsC_fold, id_eq]

theorem keeps_wakeTimeout (stage : Nat) {s0 s : State} (hk : Keeps s0 s)  : Keeps s0 (wakeTimeout stage s) := by
  unfold wakeTimeout
  repeat' first
    | with_reducible assumption | intro _
    | ((fail_if_no_progress extract_lets +onlyGivenNames x); refine keeps_cut (s0 := s0) (x := x) ?_ ?_; on_goal 1 => subst x)
    | (fail_if_no_progress extract_lets +onlyGivenNames x)
    | with_reducible (first | apply keeps_setPhase | apply keeps_State_modPwr | apply keeps_wakeFail | apply keeps_failedMain | apply keeps_ite)
    | simp -zeta only [keeps_mk, keepsC_fold, id_eq] | split

theorem keeps_execWakePgTimeout (t : Nat) (rail : Fin 16) {s0 s : State} (hk : Keeps s0 s)  : KeepsO s0 (execWakePgTimeout t rail s) := by
  unfold execWakePgTimeout
  repeat' first
    | with_reducible assumption | intro _
    | ((fail_if_no_progress extract_lets +onlyGivenNames x); refine keeps_cut (s0 := s0) (x := x) ?_ ?_; on_goal 1 => subst x)
    | (fail_if_no_progress extract_lets +onlyGivenNames x)
    | with_reducible (first | apply keeps_State_beginAt | apply keeps_wakeTimeout | apply keepsO_next | apply keepsO_ite)
    | simp -zeta only [keeps_mk, keepsC_fold, id_eq] | split

theorem keeps_execWakePllTimeout (t : Nat) {s0 s : State} (hk : Keeps s0 s)  : KeepsO s0 (execWakePllTimeout t s) := by
  unfold execWakePllTimeout
  repeat' first
    | with_reducible assumption | intro _
    | ((fail_if_no_progress extract_lets +onlyGivenNames x); refine keeps_cut (s0 := s0) (x := x) ?_ ?_; on_goal 1 => subst x)
    | (fail_if_no_progress extract_lets +onlyGivenNames x)
    | with_reducible (first | apply keeps_State_sb | apply keeps_State_beginAt | apply keeps_State_raisePwr | apply keeps_wakeTimeout | apply keepsO_next | apply keepsO_ite | apply keeps_ite)
    | simp -zeta only [keeps_mk, keepsC_fold, id_eq] | split

theorem keeps_refuseSleep (block reason : Nat) (abandon : Bool) {s0 s : State} (hk : Keeps s0 s)  : Keeps s0 (refuseSleep block reason abandon s) := by
  unfold refuseSleep
  repeat' first
    | with_reducible assumption | intro _
    | ((fail_if_no_progress extract_lets +onlyGivenNames x); refine keeps_cut (s0 := s0) (x := x) ?_ ?_; on_goal 1 => subst x)
    | (fail_if_no_progress extract_lets +onlyGivenNames x)
    | with_reducible (first | apply keeps_State_sf | apply keeps_State_wr64 | apply keeps_State_raiseTh | apply keeps_State_raisePwr | apply keeps_setPhase | apply keeps_State_modPwr | apply keeps_ite)
    | simp -zeta only [keeps_mk, keepsC_fold, id_eq] | split

theorem keeps_sleepRequest (code : Nat) {s0 s : State} (hk : Keeps s0 s)  : Keeps s0 (sleepRequest code s) := by
  unfold sleepRequest
  repeat' first
    | with_reducible assumption | intro _
    | ((fail_if_no_progress extract_lets +onlyGivenNames x); refine keeps_cut (s0 := s0) (x := x) ?_ ?_; on_goal 1 => subst x)
    | (fail_if_no_progress extract_lets +onlyGivenNames x)
    | with_reducible (first | apply keeps_State_sf | apply keeps_State_wr64 | apply keeps_State_raisePwr | apply keeps_State_modPwr | apply keeps_ite)
    | simp -zeta only [keeps_mk, keepsC_fold, id_eq] | split

theorem keeps_requestNow (code : Nat) {s0 s : State} (hk : Keeps s0 s)  : Keeps s0 (requestNow code s) := by
  unfold requestNow
  repeat' first
    | with_reducible assumption | intro _
    | ((fail_if_no_progress extract_lets +onlyGivenNames x); refine keeps_cut (s0 := s0) (x := x) ?_ ?_; on_goal 1 => subst x)
    | (fail_if_no_progress extract_lets +onlyGivenNames x)
    | with_reducible (first | apply keeps_State_setReg | apply keeps_State_sb | apply keeps_State_modPwr | apply keeps_napWake | apply keeps_darkStart | apply keeps_sleepRequest | apply keeps_ite)
    | simp -zeta only [keeps_mk, keepsC_fold, id_eq] | split

theorem keeps_actHeld  {s0 s : State} (hk : Keeps s0 s)  : Keeps s0 (actHeld s) := by
  unfold actHeld
  repeat' first
    | with_reducible assumption | intro _ | with_reducible (first | apply keeps_State_sf | apply keeps_requestNow)

theorem keeps_stepRefused (block reason : Nat) (abandon : Bool) {s0 s : State} (hk : Keeps s0 s)  : Keeps s0 (stepRefused block reason abandon s) := by
  unfold stepRefused
  repeat' first
    | with_reducible assumption | intro _ | with_reducible (first | apply keeps_refuseSleep | apply keeps_actHeld)

theorem keeps_request (code : Nat) {s0 s : State} (hk : Keeps s0 s)  : Keeps s0 (request code s) := by
  unfold request
  repeat' first
    | with_reducible assumption | intro _
    | ((fail_if_no_progress extract_lets +onlyGivenNames x); refine keeps_cut (s0 := s0) (x := x) ?_ ?_; on_goal 1 => subst x)
    | (fail_if_no_progress extract_lets +onlyGivenNames x)
    | with_reducible (first | apply keeps_State_sf | apply keeps_requestNow | apply keeps_stepRefused | apply keeps_ite) | split

theorem keeps_powerOff (answers : Bool) {s0 s : State} (hk : Keeps s0 s)  : Keeps s0 (powerOff answers s) := by
  unfold powerOff
  repeat' first
    | with_reducible assumption | intro _
    | ((fail_if_no_progress extract_lets +onlyGivenNames x); refine keeps_cut (s0 := s0) (x := x) ?_ ?_; on_goal 1 => subst x)
    | (fail_if_no_progress extract_lets +onlyGivenNames x)
    | with_reducible (first | apply keeps_State_modPwr | apply keeps_enterDark | apply keeps_ite)
    | simp -zeta only [keeps_mk, keepsC_fold, id_eq] | split

theorem keeps_writePwrCtl (answers : Bool) (v : Word) {s0 s : State} (hk : Keeps s0 s)  : Keeps s0 (writePwrCtl answers v s) := by
  unfold writePwrCtl
  repeat' first
    | with_reducible assumption | intro _
    | ((fail_if_no_progress extract_lets +onlyGivenNames x); refine keeps_cut (s0 := s0) (x := x) ?_ ?_; on_goal 1 => subst x)
    | (fail_if_no_progress extract_lets +onlyGivenNames x)
    | with_reducible (first | apply keeps_State_keyErr | apply keeps_request | apply keeps_powerOff | apply keeps_ite) | split

theorem keeps_State_pwrWrite (src : Requester) (f : State → State) {s0 s : State} (hk : Keeps s0 s) (h_f : ∀ (y0 : State), Keeps s0 y0 → Keeps s0 (f y0)) : Keeps s0 (State.pwrWrite s src f) := by
  unfold State.pwrWrite
  repeat' first
    | with_reducible assumption | intro _
    | with_reducible (first | apply h_f | apply keeps_ite | apply keeps_ite2 | (refine keeps_eq2 (by with_reducible assumption) ?_) | (refine keeps_eq22 (by with_reducible assumption) ?_))
    | split

theorem keeps_execPwrReqRun (t : Nat) (src : Requester) (v : Word) {s0 s : State} (hk : Keeps s0 s)  : KeepsO s0 (execPwrReqRun t src v s) := by
  unfold execPwrReqRun
  repeat' first
    | with_reducible assumption | intro _
    | ((fail_if_no_progress extract_lets +onlyGivenNames x); refine keeps_cut (s0 := s0) (x := x) ?_ ?_; on_goal 1 => subst x)
    | (fail_if_no_progress extract_lets +onlyGivenNames x)
    | with_reducible (first | apply keeps_State_beginAt | apply keeps_writePwrCtl | apply keeps_State_pwrWrite | apply keepsO_next | apply keepsO_ite)

theorem keeps_execPwrReqDim (t : Nat) (src : Requester) (v : Word) {s0 s : State} (hk : Keeps s0 s)  : KeepsO s0 (execPwrReqDim t src v s) := by
  unfold execPwrReqDim
  repeat' first
    | with_reducible assumption | intro _
    | ((fail_if_no_progress extract_lets +onlyGivenNames x); refine keeps_cut (s0 := s0) (x := x) ?_ ?_; on_goal 1 => subst x)
    | (fail_if_no_progress extract_lets +onlyGivenNames x)
    | with_reducible (first | apply keeps_State_beginAt | apply keeps_writePwrCtl | apply keeps_State_pwrWrite | apply keepsO_next | apply keepsO_ite)

theorem keeps_execPwrReqNap (t : Nat) (src : Requester) (v : Word) {s0 s : State} (hk : Keeps s0 s)  : KeepsO s0 (execPwrReqNap t src v s) := by
  unfold execPwrReqNap
  repeat' first
    | with_reducible assumption | intro _
    | ((fail_if_no_progress extract_lets +onlyGivenNames x); refine keeps_cut (s0 := s0) (x := x) ?_ ?_; on_goal 1 => subst x)
    | (fail_if_no_progress extract_lets +onlyGivenNames x)
    | with_reducible (first | apply keeps_State_beginAt | apply keeps_writePwrCtl | apply keeps_State_pwrWrite | apply keepsO_next | apply keepsO_ite)

theorem keeps_execPwrReqDark (t : Nat) (src : Requester) (v : Word) {s0 s : State} (hk : Keeps s0 s)  : KeepsO s0 (execPwrReqDark t src v s) := by
  unfold execPwrReqDark
  repeat' first
    | with_reducible assumption | intro _
    | ((fail_if_no_progress extract_lets +onlyGivenNames x); refine keeps_cut (s0 := s0) (x := x) ?_ ?_; on_goal 1 => subst x)
    | (fail_if_no_progress extract_lets +onlyGivenNames x)
    | with_reducible (first | apply keeps_State_beginAt | apply keeps_writePwrCtl | apply keeps_State_pwrWrite | apply keepsO_next | apply keepsO_ite)

theorem keeps_execPowerOffSequencing (t : Nat) (src : Requester) (key : Byte) (answers : Bool) {s0 s : State} (hk : Keeps s0 s)  : KeepsO s0 (execPowerOffSequencing t src key answers s) := by
  unfold execPowerOffSequencing
  repeat' first
    | with_reducible assumption | intro _
    | with_reducible (first | apply keeps_State_beginAt | apply keeps_writePwrCtl | apply keeps_State_pwrWrite | apply keepsO_next | apply keepsO_ite)

theorem keeps_stopCompute  {s0 s : State} (hk : Keeps s0 s)  : Keeps s0 (stopCompute s) := by
  unfold stopCompute
  repeat' first
    | with_reducible assumption | intro _
    | ((fail_if_no_progress extract_lets +onlyGivenNames x); refine keeps_cut (s0 := s0) (x := x) ?_ ?_; on_goal 1 => subst x)
    | (fail_if_no_progress extract_lets +onlyGivenNames x)
    | with_reducible (first | apply keeps_State_modTw | apply keeps_State_each | apply keeps_recordsDue | apply keeps_State_modPwr)
    | simp -zeta only [keeps_mk, keepsC_fold, id_eq]

theorem keeps_sleepStep (target : Nat) {s0 s u : State} (hk : Keeps s0 s) (hu : sleepStep target s = .done u) : Keeps s0 u := by
  have hi {c : Prop} [Decidable c] {x y : StepTurn} (h : (if c then x else y) = .done u) : x = .done u ∨ y = .done u := by
    split at h
    · exact .inl h
    · exact .inr h
  unfold sleepStep at hu
  split at hu
  · obtain h | h := hi hu
    · cases h
    obtain h | h := hi h
    · cases h
    obtain h | h := hi h
    · cases h
    · cases h; exact keeps_State_modPwr _ hk
  · obtain h | h := hi hu
    · cases h
    obtain h | h := hi h
    · cases h
    · cases h; exact hk
  · obtain h | h := hi hu <;> cases h
    exact hk
  · obtain h | h := hi hu <;> cases h
    exact hk
  · obtain h | h := hi hu <;> cases h
    exact hk
  · obtain h | h := hi hu <;> cases h
    exact keeps_stopCompute hk
  · cases hu; exact keeps_ite hk fun _ => keeps_State_each hk _ _ fun w x hx => keeps_napBanks _ hx
  · cases hu; exact hk

theorem keeps_enterNap  {s0 s : State} (hk : Keeps s0 s)  : Keeps s0 (enterNap s) := by
  unfold enterNap
  repeat' first
    | with_reducible assumption | intro _
    | ((fail_if_no_progress extract_lets +onlyGivenNames x); refine keeps_cut (s0 := s0) (x := x) ?_ ?_; on_goal 1 => subst x)
    | (fail_if_no_progress extract_lets +onlyGivenNames x)
    | with_reducible (first | apply keeps_State_sf | apply keeps_State_raisePwr | apply keeps_setPhase | apply keeps_State_modPwr)
    | simp -zeta only [keeps_mk, keepsC_fold, id_eq]

theorem keeps_runSleep (n : Nat) {s0 s : State} (hk : Keeps s0 s) : Keeps s0 (runSleep n s) := by
  induction n generalizing s with
  | zero => exact hk
  | succ n ih =>
    unfold runSleep
    split
    · exact hk
    extract_lets k
    refine keeps_ite ?_ fun _ => hk
    split
    · exact hk
    · exact keeps_stepRefused _ _ _ hk
    · rename_i s1 hu
      have h1 := keeps_sleepStep _ hk hu
      exact keeps_ite (keeps_ite (ih (keeps_setPhase _ (keeps_State_modPwr _ h1))) fun _ => keeps_enterDark _ h1)
        fun _ => keeps_actHeld (keeps_enterNap h1)

theorem keeps_sleepOn  {s0 s : State} (hk : Keeps s0 s)  : Keeps s0 (sleepOn s) := by
  unfold sleepOn
  repeat' first
    | with_reducible assumption | intro _ | with_reducible apply keeps_runSleep

theorem keeps_sleepBegin  {s0 s : State} (hk : Keeps s0 s)  : Keeps s0 (sleepBegin s) := by
  unfold sleepBegin
  repeat' first
    | with_reducible assumption | intro _
    | ((fail_if_no_progress extract_lets +onlyGivenNames x); refine keeps_cut (s0 := s0) (x := x) ?_ ?_; on_goal 1 => subst x)
    | (fail_if_no_progress extract_lets +onlyGivenNames x)
    | with_reducible (first | apply keeps_State_bump | apply keeps_setPhase | apply keeps_State_modPwr | apply keeps_ite)
    | simp -zeta only [keeps_mk, keepsC_fold, id_eq] | split

theorem keeps_latchReached  {s0 s : State} (hk : Keeps s0 s)  : Keeps s0 (latchReached s) := by
  unfold latchReached
  repeat' first
    | with_reducible assumption | intro _ | with_reducible (first | apply keeps_latch | apply keeps_ite) | split

theorem keeps_execSleepSequence (t : Nat) {s0 s : State} (hk : Keeps s0 s)  : KeepsO s0 (execSleepSequence t s) := by
  unfold execSleepSequence
  repeat' first
    | with_reducible assumption | intro _
    | with_reducible (first | apply keeps_State_beginAt | apply keeps_sleepOn | apply keeps_sleepBegin | apply keeps_latchReached | apply keepsO_next | apply keepsO_ite)

theorem keeps_execSleepStepTimeout (t : Nat) {s0 s : State} (hk : Keeps s0 s)  : KeepsO s0 (execSleepStepTimeout t s) := by
  unfold execSleepStepTimeout
  repeat' first
    | with_reducible assumption | intro _
    | ((fail_if_no_progress extract_lets +onlyGivenNames x); refine keeps_cut (s0 := s0) (x := x) ?_ ?_; on_goal 1 => subst x)
    | (fail_if_no_progress extract_lets +onlyGivenNames x)
    | with_reducible (first | apply keeps_State_beginAt | apply keeps_stepRefused | apply keeps_sleepOn | apply keepsO_next | apply keepsO_ite | apply keeps_ite)
    | simp -zeta only [keeps_mk, keepsC_fold, id_eq] | split

theorem keeps_execSleepRetry  {s0 s : State} (hk : Keeps s0 s)  : KeepsO s0 (execSleepRetry s) := by
  unfold execSleepRetry
  repeat' first
    | with_reducible assumption | intro _
    | with_reducible (first | apply keeps_State_begin | apply keeps_sleepBegin | apply keepsO_next | apply keepsO_ite)

theorem keeps_wakeSource (source : Nat) {s0 s : State} (hk : Keeps s0 s)  : Keeps s0 (wakeSource source s) := by
  unfold wakeSource
  repeat' first
    | with_reducible assumption | intro _
    | ((fail_if_no_progress extract_lets +onlyGivenNames x); refine keeps_cut (s0 := s0) (x := x) ?_ ?_; on_goal 1 => subst x)
    | (fail_if_no_progress extract_lets +onlyGivenNames x)
    | with_reducible (first | apply keeps_napWake | apply keeps_darkStart | apply keeps_stepRefused | apply keeps_ite) | split

theorem keeps_execNapWake (t : Nat) (source : Fin 8) {s0 s : State} (hk : Keeps s0 s)  : KeepsO s0 (execNapWake t source s) := by
  unfold execNapWake
  repeat' first
    | with_reducible assumption | intro _
    | ((fail_if_no_progress extract_lets +onlyGivenNames x); refine keeps_cut (s0 := s0) (x := x) ?_ ?_; on_goal 1 => subst x)
    | (fail_if_no_progress extract_lets +onlyGivenNames x)
    | with_reducible (first | apply keeps_State_beginAt | apply keeps_wakeSource | apply keepsO_next | apply keepsO_ite | apply keeps_ite)
    | split

theorem keeps_execPwrAlarm  {s0 s : State} (hk : Keeps s0 s)  : KeepsO s0 (execPwrAlarm s) := by
  unfold execPwrAlarm
  repeat' first
    | with_reducible assumption | intro _
    | ((fail_if_no_progress extract_lets +onlyGivenNames x); refine keeps_cut (s0 := s0) (x := x) ?_ ?_; on_goal 1 => subst x)
    | (fail_if_no_progress extract_lets +onlyGivenNames x)
    | with_reducible (first | apply keeps_State_at | apply keeps_State_begin | apply keeps_wakeSource | apply keepsO_next | apply keepsO_ite | apply keeps_ite)
    | split

theorem keeps_execNetWakeMatch (t : Nat) (n : Fin 4) (i : Fin 32) (bytes : List Byte) {s0 s : State} (hk : Keeps s0 s)  : KeepsO s0 (execNetWakeMatch t n i bytes s) := by
  unfold execNetWakeMatch
  repeat' first
    | with_reducible assumption | intro _
    | ((fail_if_no_progress extract_lets +onlyGivenNames x); refine keeps_cut (s0 := s0) (x := x) ?_ ?_; on_goal 1 => subst x)
    | (fail_if_no_progress extract_lets +onlyGivenNames x)
    | with_reducible (first | apply keeps_State_sf | apply keeps_State_sb | apply keeps_State_bump | apply keeps_State_beginAt | apply keeps_wakeSource | apply keepsO_next | apply keepsO_ite | apply keeps_ite)
    | split

theorem keeps_execPrnNodeWake (t : Nat) (p : Fin 128) {s0 s : State} (hk : Keeps s0 s)  : KeepsO s0 (execPrnNodeWake t p s) := by
  unfold execPrnNodeWake
  repeat' first
    | with_reducible assumption | intro _
    | ((fail_if_no_progress extract_lets +onlyGivenNames x); refine keeps_cut (s0 := s0) (x := x) ?_ ?_; on_goal 1 => subst x)
    | (fail_if_no_progress extract_lets +onlyGivenNames x)
    | with_reducible (first | apply keeps_State_beginAt | apply keeps_nodeWake | apply keeps_wakeSource | apply keepsO_next | apply keepsO_ite | apply keeps_ite)
    | split

theorem keeps_execBrownoutWarn (t : Nat) (rail : Fin 16) (_high : Bool) {s0 s : State} (hk : Keeps s0 s)  : KeepsO s0 (execBrownoutWarn t rail _high s) := by
  unfold execBrownoutWarn
  repeat' first
    | with_reducible assumption | intro _
    | ((fail_if_no_progress extract_lets +onlyGivenNames x); refine keeps_cut (s0 := s0) (x := x) ?_ ?_; on_goal 1 => subst x)
    | (fail_if_no_progress extract_lets +onlyGivenNames x)
    | with_reducible (first | apply keeps_State_bump | apply keeps_State_wr64 | apply keeps_State_beginAt | apply keeps_State_orReg | apply keeps_State_raisePwr | apply keeps_State_setHealth | apply keeps_voidMonitor | apply keepsO_next | apply keepsO_ite | apply keeps_ite)
    | simp -zeta only [keeps_mk, keepsC_fold, id_eq] | split

theorem keeps_railDown (w : Twin) {s0 s : State} (hk : Keeps s0 s)  : Keeps s0 (railDown w s) := by
  unfold railDown
  repeat' first
    | with_reducible assumption | decide | intro _
    | ((fail_if_no_progress extract_lets +onlyGivenNames x); refine keeps_cut (s0 := s0) (x := x) ?_ ?_; on_goal 1 => subst x)
    | (fail_if_no_progress extract_lets +onlyGivenNames x)
    | with_reducible (first | apply keeps_State_twinReset | apply keeps_revertRecord | apply keeps_State_setRole | apply keeps_State_setHealth | apply keeps_State_modPwr | apply keeps_ite | (refine keeps_eq2 (by with_reducible assumption) ?_) | (refine keeps_eq22 (by with_reducible assumption) ?_))
    | simp -zeta only [keeps_mk, keepsC_fold, id_eq] | split

theorem keeps_execRailReset (t : Nat) (rail : Fin 16) {s0 s : State} (hk : Keeps s0 s)  : KeepsO s0 (execRailReset t rail s) := by
  unfold execRailReset
  repeat' first
    | with_reducible assumption | intro _
    | ((fail_if_no_progress extract_lets +onlyGivenNames x); refine keeps_cut (s0 := s0) (x := x) ?_ ?_; on_goal 1 => subst x)
    | (fail_if_no_progress extract_lets +onlyGivenNames x)
    | with_reducible (first | apply keeps_State_beginAt | apply keeps_voidMonitor | apply keeps_powerOn | apply keeps_resetAndRelease | apply keeps_railDown | apply keepsO_next | apply keepsO_ite | apply keeps_ite)
    | simp -zeta only [keeps_mk, keepsC_fold, id_eq] | split

theorem keeps_execRailRecover (t : Nat) (w : Twin) {s0 s : State} (hk : Keeps s0 s)  : KeepsO s0 (execRailRecover t w s) := by
  unfold execRailRecover
  repeat' first
    | with_reducible assumption | intro _
    | ((fail_if_no_progress extract_lets +onlyGivenNames x); refine keeps_cut (s0 := s0) (x := x) ?_ ?_; on_goal 1 => subst x)
    | (fail_if_no_progress extract_lets +onlyGivenNames x)
    | with_reducible (first | apply keeps_State_beginAt | apply keeps_startFirmware | apply keeps_resetAndRelease | apply keeps_State_modPwr | apply keepsO_next | apply keepsO_ite | apply keeps_ite | (refine keeps_eq2 (by with_reducible assumption) ?_) | (refine keeps_eq22 (by with_reducible assumption) ?_))
    | simp -zeta only [keeps_mk, keepsC_fold, id_eq] | split

/-! ### Machine/Tick.lean -/

theorem keeps_latchDueNow  {s0 s : State} (hk : Keeps s0 s)  : Keeps s0 (latchDueNow s) := by
  unfold latchDueNow
  repeat' first
    | with_reducible assumption | intro _
    | with_reducible (first | apply keeps_latch | apply keeps_strandApply | apply keeps_sleepOn | apply keeps_ite | apply keeps_foldl)
    | split

theorem keeps_catchUp  {s0 s : State} (hk : Keeps s0 s)  : Keeps s0 (catchUp s) := by
  unfold catchUp
  repeat' first
    | with_reducible assumption | intro _
    | ((fail_if_no_progress extract_lets +onlyGivenNames x); refine keeps_cut (s0 := s0) (x := x) ?_ ?_; on_goal 1 => subst x)
    | (fail_if_no_progress extract_lets +onlyGivenNames x)
    | with_reducible (first | apply keeps_State_each | apply keeps_computeDeadline | apply keeps_recordsDue | apply keeps_latchDueNow | apply keeps_ite)
    | split

theorem keeps_atNextTick (f : State → State) {s0 s : State} (hk : Keeps s0 s) (h_f : ∀ (y0 : State), Keeps s0 y0 → Keeps s0 (f y0)) : Keeps s0 (atNextTick f s) := by
  unfold atNextTick
  repeat' first
    | with_reducible assumption | intro _
    | ((fail_if_no_progress extract_lets +onlyGivenNames x); refine keeps_cut (s0 := s0) (x := x) ?_ ?_; on_goal 1 => subst x)
    | (fail_if_no_progress extract_lets +onlyGivenNames x)
    | with_reducible (first | apply h_f | apply keeps_State_at | apply keeps_catchUp)
    | simp -zeta only [keeps_mk, keepsC_fold, id_eq]

theorem keeps_contextTwin (w : Twin) {s0 s : State} (hk : Keeps s0 s) : Keeps s0 (contextTwin w s) := by
  unfold contextTwin
  repeat' first
    | with_reducible assumption | decide | intro _
    | ((fail_if_no_progress extract_lets +onlyGivenNames x); refine keeps_cut (s0 := s0) (x := x) ?_ ?_; on_goal 1 => subst x)
    | (fail_if_no_progress extract_lets +onlyGivenNames x)
    | with_reducible (first | apply keeps_State_sf | apply keeps_sorusContextReset | apply keeps_State_modNet | apply keeps_layerContextReset | apply keeps_layerShadows | apply keeps_watchSpare | apply keeps_State_modMasters | apply keeps_showPending | apply keeps_State_modHlth | apply keeps_showDmx | apply keeps_rdmContextReset | apply keeps_ite | apply keeps_ite2 | apply keeps_ite22 | apply keeps_foldl | apply keeps_foldl2 | (refine keeps_eq2 (by with_reducible assumption) ?_) | (refine keeps_eq22 (by with_reducible assumption) ?_))
    | simp -zeta only [keeps_mk, keepsC_fold, id_eq] | (refine keepsC_le ?_ ?_ ?_) | omega | split | (clear_value *; split)

theorem keeps_contextClear  {s0 s : State} (hk : Keeps s0 s)  : Keeps s0 (contextClear s) := by
  unfold contextClear
  repeat' first
    | with_reducible assumption | intro _
    | ((fail_if_no_progress extract_lets +onlyGivenNames x); refine keeps_cut (s0 := s0) (x := x) ?_ ?_; on_goal 1 => subst x)
    | (fail_if_no_progress extract_lets +onlyGivenNames x)
    | with_reducible (first | apply keeps_State_resetRegs | apply keeps_State_resetMem | apply keeps_State_each | apply keeps_State_frameFlag | apply keeps_contextTwin)
    | simp -zeta only [keeps_mk, keepsC_fold, id_eq]

theorem keeps_rolesAndGraft  {s0 s : State} (hk : Keeps s0 s) : Keeps s0 (rolesAndGraft s) := by
  unfold rolesAndGraft
  repeat' first
    | with_reducible assumption | decide | intro _
    | ((fail_if_no_progress extract_lets +onlyGivenNames x); refine keeps_cut (s0 := s0) (x := x) ?_ ?_; on_goal 1 => subst x)
    | (fail_if_no_progress extract_lets +onlyGivenNames x)
    | with_reducible (first | apply keeps_flagActions | apply keeps_dropGrafts | apply keeps_graftTime | apply keeps_graftTick | apply keeps_swapTick | apply keeps_ite | apply keeps_ite2 | apply keeps_ite22 | (refine keeps_eq2 (by with_reducible assumption) ?_) | (refine keeps_eq22 (by with_reducible assumption) ?_))
    | simp -zeta only [keeps_mk, keepsC_fold, id_eq] | (refine keepsC_le ?_ ?_ ?_) | omega | split | (clear_value *; split)

theorem keeps_execContextReset  {s0 s : State} (hk : Keeps s0 s) : KeepsO s0 (execContextReset s) := by
  unfold execContextReset
  repeat' first
    | with_reducible assumption | decide | intro _
    | ((fail_if_no_progress extract_lets +onlyGivenNames x); refine keeps_cut (s0 := s0) (x := x) ?_ ?_; on_goal 1 => subst x)
    | (fail_if_no_progress extract_lets +onlyGivenNames x)
    | with_reducible (first | apply keeps_State_begin | apply keeps_State_raiseTh | apply keeps_atNextTick | apply keeps_contextClear | apply keeps_rolesAndGraft | apply keepsO_next | apply keepsO_ite | apply keeps_ite | apply keeps_ite2 | apply keeps_ite22 | (refine keeps_eq2 (by with_reducible assumption) ?_) | (refine keeps_eq22 (by with_reducible assumption) ?_))
    | simp -zeta only [keeps_mk, keepsC_fold, id_eq] | (refine keepsC_le ?_ ?_ ?_) | omega | split | (clear_value *; split)

theorem keeps_execRoleSwap  {s0 s : State} (hk : Keeps s0 s)  : KeepsO s0 (execRoleSwap s) := by
  unfold execRoleSwap
  repeat' first
    | with_reducible assumption | intro _
    | ((fail_if_no_progress extract_lets +onlyGivenNames x); refine keeps_cut (s0 := s0) (x := x) ?_ ?_; on_goal 1 => subst x)
    | (fail_if_no_progress extract_lets +onlyGivenNames x)
    | with_reducible (first | apply keeps_State_begin | apply keeps_swapTick | apply keeps_atNextTick | apply keepsO_next | apply keepsO_ite | apply keeps_ite)
    | split

theorem keeps_formDigests  {s0 s : State} (hk : Keeps s0 s)  : Keeps s0 (formDigests s) := by
  unfold formDigests
  repeat' first
    | with_reducible assumption | intro _
    | ((fail_if_no_progress extract_lets +onlyGivenNames x); refine keeps_cut (s0 := s0) (x := x) ?_ ?_; on_goal 1 => subst x)
    | (fail_if_no_progress extract_lets +onlyGivenNames x) | with_reducible apply keeps_ite
    | simp -zeta only [keeps_mk, keepsC_fold, id_eq] | split

theorem keeps_pushTick (w : Twin) {s0 s : State} (hk : Keeps s0 s) : Keeps s0 (pushTick w s) := by
  unfold pushTick
  repeat' first
    | with_reducible assumption | decide | intro _
    | ((fail_if_no_progress extract_lets +onlyGivenNames x); refine keeps_cut (s0 := s0) (x := x) ?_ ?_; on_goal 1 => subst x)
    | (fail_if_no_progress extract_lets +onlyGivenNames x)
    | with_reducible (first | apply keeps_tickItem | apply keeps_ite | apply keeps_ite2 | apply keeps_ite22 | (refine keeps_eq2 (by with_reducible assumption) ?_) | (refine keeps_eq22 (by with_reducible assumption) ?_))
    | simp -zeta only [keeps_mk, keepsC_fold, id_eq] | (refine keepsC_le ?_ ?_ ?_) | omega | split | (clear_value *; split)

theorem keeps_twinTick (w : Twin) {s0 s : State} (hk : Keeps s0 s) : Keeps s0 (twinTick w s) := by
  unfold twinTick
  repeat' first
    | with_reducible assumption | decide | intro _
    | ((fail_if_no_progress extract_lets +onlyGivenNames x); refine keeps_cut (s0 := s0) (x := x) ?_ ?_; on_goal 1 => subst x)
    | (fail_if_no_progress extract_lets +onlyGivenNames x)
    | with_reducible (first | apply keeps_ingestTick | apply keeps_layerTick | apply keeps_mastersTick | apply keeps_zonesTick | apply keeps_delaysTick | apply keeps_startEnum | apply keeps_rdmTick | apply keeps_healthTick | apply keeps_ite | apply keeps_ite2 | apply keeps_ite22 | apply keeps_foldl | apply keeps_foldl2 | (refine keeps_eq2 (by with_reducible assumption) ?_) | (refine keeps_eq22 (by with_reducible assumption) ?_))
    | simp -zeta only [keeps_mk, keepsC_fold, id_eq] | (refine keepsC_le ?_ ?_ ?_) | omega | split | (clear_value *; split)

theorem keeps_newFrame (w : Twin) {s0 s : State} (hk : Keeps s0 s) : Keeps s0 (newFrame w s) := by
  unfold newFrame
  repeat' first
    | with_reducible assumption | decide | intro _
    | ((fail_if_no_progress extract_lets +onlyGivenNames x); refine keeps_cut (s0 := s0) (x := x) ?_ ?_; on_goal 1 => subst x)
    | (fail_if_no_progress extract_lets +onlyGivenNames x)
    | with_reducible (first | apply keeps_State_modTw | apply keeps_ite | apply keeps_ite2 | apply keeps_ite22 | (refine keeps_eq2 (by with_reducible assumption) ?_) | (refine keeps_eq22 (by with_reducible assumption) ?_))
    | simp -zeta only [keeps_mk, keepsC_fold, id_eq] | (refine keepsC_le ?_ ?_ ?_) | omega | split | (clear_value *; split)

theorem keeps_newInterval  {s0 s : State} (hk : Keeps s0 s) : Keeps s0 (newInterval s) := by
  unfold newInterval
  repeat' first
    | with_reducible assumption | decide | intro _
    | ((fail_if_no_progress extract_lets +onlyGivenNames x); refine keeps_cut (s0 := s0) (x := x) ?_ ?_; on_goal 1 => subst x)
    | (fail_if_no_progress extract_lets +onlyGivenNames x)
    | with_reducible (first | apply keeps_State_modTw | apply keeps_State_each | apply keeps_State_at | apply keeps_lostEvent | apply keeps_ite | apply keeps_ite2 | apply keeps_ite22 | (refine keeps_eq2 (by with_reducible assumption) ?_) | (refine keeps_eq22 (by with_reducible assumption) ?_))
    | simp -zeta only [keeps_mk, keepsC_fold, id_eq] | (refine keepsC_le ?_ ?_ ?_) | omega | split | (clear_value *; split)

theorem keeps_tickRoles  {s0 s : State} (hk : Keeps s0 s) : Keeps s0 (tickRoles s) := by
  unfold tickRoles
  repeat' first
    | with_reducible assumption | decide | intro _
    | ((fail_if_no_progress extract_lets +onlyGivenNames x); refine keeps_cut (s0 := s0) (x := x) ?_ ?_; on_goal 1 => subst x)
    | (fail_if_no_progress extract_lets +onlyGivenNames x)
    | with_reducible (first | apply keeps_State_each | apply keeps_State_at | apply keeps_flagActions | apply keeps_resyncTick | apply keeps_releaseDiverged | apply keeps_advanceTick | apply keeps_dropGrafts | apply keeps_graftTime | apply keeps_graftTick | apply keeps_swapTick | apply keeps_inPlaceTick | apply keeps_inPlaceReturn | apply keeps_importTick | apply keeps_ite | apply keeps_ite2 | apply keeps_ite22 | (refine keeps_eq2 (by with_reducible assumption) ?_) | (refine keeps_eq22 (by with_reducible assumption) ?_))
    | simp -zeta only [keeps_mk, keepsC_fold, id_eq] | (refine keepsC_le ?_ ?_ ?_) | omega | split | (clear_value *; split)

theorem keeps_blackout  {s0 s : State} (hk : Keeps s0 s) : Keeps s0 (blackout s) := by
  unfold blackout
  repeat' first
    | with_reducible assumption | decide | intro _
    | ((fail_if_no_progress extract_lets +onlyGivenNames x); refine keeps_cut (s0 := s0) (x := x) ?_ ?_; on_goal 1 => subst x)
    | (fail_if_no_progress extract_lets +onlyGivenNames x)
    | with_reducible (first | apply keeps_State_emit | apply keeps_ite | apply keeps_ite2 | apply keeps_ite22 | apply keeps_foldl | apply keeps_foldl2 | (refine keeps_eq2 (by with_reducible assumption) ?_) | (refine keeps_eq22 (by with_reducible assumption) ?_))
    | simp -zeta only [keeps_mk, keepsC_fold, id_eq] | (refine keepsC_le ?_ ?_ ?_) | omega | split | (clear_value *; split)

theorem keeps_tick  {s0 s : State} (hk : Keeps s0 s) : Keeps s0 (tick s) := by
  unfold tick
  repeat' first
    | with_reducible assumption | decide | intro _
    | ((fail_if_no_progress extract_lets +onlyGivenNames x); refine keeps_cut (s0 := s0) (x := x) ?_ ?_; on_goal 1 => subst x)
    | (fail_if_no_progress extract_lets +onlyGivenNames x)
    | with_reducible (first | apply keeps_State_each | apply keeps_State_raiseTh | apply keeps_resyncTick | apply keeps_oppTick | apply keeps_stateChange | apply keeps_resumeTick | apply keeps_sleepBegin | apply keeps_catchUp | apply keeps_contextClear | apply keeps_formDigests | apply keeps_pushTick | apply keeps_twinTick | apply keeps_newFrame | apply keeps_newInterval | apply keeps_tickRoles | apply keeps_blackout | apply keeps_ite | apply keeps_ite2 | apply keeps_ite22 | (refine keeps_eq2 (by with_reducible assumption) ?_) | (refine keeps_eq22 (by with_reducible assumption) ?_))
    | simp -zeta only [keeps_mk, keepsC_fold, id_eq] | (refine keepsC_le ?_ ?_ ?_) | omega | split | (clear_value *; split)

theorem keeps_execTick  {s0 s : State} (hk : Keeps s0 s)  : KeepsO s0 (execTick s) := by
  unfold execTick
  repeat' first
    | with_reducible assumption | intro _
    | ((fail_if_no_progress extract_lets +onlyGivenNames x); refine keeps_cut (s0 := s0) (x := x) ?_ ?_; on_goal 1 => subst x)
    | (fail_if_no_progress extract_lets +onlyGivenNames x)
    | with_reducible (first | apply keeps_State_begin | apply keeps_tick | apply keepsO_next | apply keepsO_ite | apply keeps_ite)
    | split

/-! ### Machine/View.lean -/

theorem keeps_calReading (u : Nat) {s0 s : State} (hk : Keeps s0 s) : Keeps s0 (calReading u s).2 := by
  unfold calReading
  extract_lets
  repeat' first
    | split
    | exact hk
    | exact keeps_mk.2 (keepsC_le (s := s) hk (Nat.le_refl _) (Nat.le_succ _))

theorem keeps_calView (b : Nat) {s0 s : State} (hk : Keeps s0 s)  : Keeps s0 (calView b s).2 := by
  unfold calView
  repeat' first
    | with_reducible assumption | intro _
    | ((fail_if_no_progress extract_lets +onlyGivenNames x); refine keeps_cut (s0 := s0) (x := x) ?_ ?_; on_goal 1 => subst x)
    | (fail_if_no_progress extract_lets +onlyGivenNames x)
    | with_reducible (first | apply keeps_State_fresh | apply keeps_calReading | apply keeps_ite | apply keeps_ite2 | (refine keeps_eq2 (by with_reducible assumption) ?_) | (refine keeps_eq22 (by with_reducible assumption) ?_))
    | simp -zeta only [keeps_mk, keepsC_fold, id_eq] | split

theorem keeps_monView  {s0 s : State} (hk : Keeps s0 s)  : Keeps s0 (monView s).2 := by
  unfold monView
  repeat' first
    | with_reducible assumption | intro _
    | ((fail_if_no_progress extract_lets +onlyGivenNames x); refine keeps_cut (s0 := s0) (x := x) ?_ ?_; on_goal 1 => subst x)
    | (fail_if_no_progress extract_lets +onlyGivenNames x)
    | with_reducible (first | apply keeps_State_fresh | apply keeps_calReading | apply keeps_ite | apply keeps_ite2 | (refine keeps_eq2 (by with_reducible assumption) ?_) | (refine keeps_eq22 (by with_reducible assumption) ?_))
    | simp -zeta only [keeps_mk, keepsC_fold, id_eq] | split

theorem keeps_copiedView (raw : Nat) {s0 s : State} (hk : Keeps s0 s) : Keeps s0 (copiedView raw s).2 := by
  unfold copiedView
  repeat' first
    | with_reducible assumption | decide | intro _
    | ((fail_if_no_progress extract_lets +onlyGivenNames x); refine keeps_cut (s0 := s0) (x := x) ?_ ?_; on_goal 1 => subst x)
    | (fail_if_no_progress extract_lets +onlyGivenNames x)
    | with_reducible (first | apply keeps_State_fresh | apply keeps_ite | apply keeps_ite2 | apply keeps_ite22 | (refine keeps_eq2 (by with_reducible assumption) ?_) | (refine keeps_eq22 (by with_reducible assumption) ?_))
    | simp -zeta only [keeps_mk, keepsC_fold, id_eq] | (refine keepsC_le ?_ ?_ ?_) | omega | split | (clear_value *; split)

theorem keeps_viewTh (b raw : Nat) {s0 s : State} (hk : Keeps s0 s) : Keeps s0 (viewTh b raw s).2 := by
  unfold viewTh
  repeat' first
    | with_reducible assumption | decide | intro _
    | ((fail_if_no_progress extract_lets +onlyGivenNames x); refine keeps_cut (s0 := s0) (x := x) ?_ ?_; on_goal 1 => subst x)
    | (fail_if_no_progress extract_lets +onlyGivenNames x)
    | with_reducible (first | apply keeps_calView | apply keeps_monView | apply keeps_copiedView | apply keeps_ite | apply keeps_ite2 | apply keeps_ite22 | (refine keeps_eq2 (by with_reducible assumption) ?_) | (refine keeps_eq22 (by with_reducible assumption) ?_))
    | simp -zeta only [keeps_mk, keepsC_fold, id_eq] | (refine keepsC_le ?_ ?_ ?_) | omega | split | (clear_value *; split)

theorem keeps_healthView (w : Twin) (b : Nat) {s0 s : State} (hk : Keeps s0 s)  : Keeps s0 (healthView w b s).2 := by
  unfold healthView
  repeat' first
    | with_reducible assumption | intro _
    | ((fail_if_no_progress extract_lets +onlyGivenNames x); refine keeps_cut (s0 := s0) (x := x) ?_ ?_; on_goal 1 => subst x)
    | (fail_if_no_progress extract_lets +onlyGivenNames x)
    | with_reducible (first | apply keeps_State_fresh | apply keeps_ite | apply keeps_ite2)
    | simp -zeta only [keeps_mk, keepsC_fold, id_eq] | split

theorem keeps_viewTw (w : Twin) (b raw : Nat) {s0 s : State} (hk : Keeps s0 s) : Keeps s0 (viewTw w b raw s).2 := by
  unfold viewTw
  repeat' first
    | with_reducible assumption | decide | intro _
    | ((fail_if_no_progress extract_lets +onlyGivenNames x); refine keeps_cut (s0 := s0) (x := x) ?_ ?_; on_goal 1 => subst x)
    | (fail_if_no_progress extract_lets +onlyGivenNames x)
    | with_reducible (first | apply keeps_healthView | apply keeps_ite | apply keeps_ite2 | apply keeps_ite22 | (refine keeps_eq2 (by with_reducible assumption) ?_) | (refine keeps_eq22 (by with_reducible assumption) ?_))
    | simp -zeta only [keeps_mk, keepsC_fold, id_eq] | (refine keepsC_le ?_ ?_ ?_) | omega | split | (clear_value *; split)

theorem keeps_viewReg (r : RegRow) (b : Nat) {s0 s : State} (hk : Keeps s0 s)  : Keeps s0 (viewReg r b s).2 := by
  unfold viewReg
  repeat' first
    | with_reducible assumption | intro _
    | ((fail_if_no_progress extract_lets +onlyGivenNames x); refine keeps_cut (s0 := s0) (x := x) ?_ ?_; on_goal 1 => subst x)
    | (fail_if_no_progress extract_lets +onlyGivenNames x)
    | with_reducible (first | apply keeps_viewTh | apply keeps_viewTw | apply keeps_ite | apply keeps_ite2)
    | simp -zeta only [keeps_mk, keepsC_fold, id_eq] | split

theorem keeps_readReg (req : Requester) (a : Nat) {s0 s : State} (hk : Keeps s0 s) : Keeps s0 (readReg req a s).2 := by
  unfold readReg
  repeat' first
    | with_reducible assumption | decide | intro _
    | ((fail_if_no_progress extract_lets +onlyGivenNames x); refine keeps_cut (s0 := s0) (x := x) ?_ ?_; on_goal 1 => subst x)
    | (fail_if_no_progress extract_lets +onlyGivenNames x)
    | with_reducible (first | apply keeps_State_clearRead | apply keeps_State_latchHigh | apply keeps_State_unlatch | apply keeps_viewReg | apply keeps_ite | apply keeps_ite2 | apply keeps_ite22 | (refine keeps_eq2 (by with_reducible assumption) ?_) | (refine keeps_eq22 (by with_reducible assumption) ?_))
    | simp -zeta only [keeps_mk, keepsC_fold, id_eq] | (refine keepsC_le ?_ ?_ ?_) | omega | split | (clear_value *; split)

/-! ### Machine/Events.lean -/

theorem keeps_raiseLate (w : Twin) (n data late : Nat) {s0 s : State} (hk : Keeps s0 s)  : Keeps s0 (raiseLate w n data late s) := by
  unfold raiseLate
  repeat' first
    | with_reducible assumption | intro _
    | with_reducible (first | apply keeps_State_bump | apply keeps_routeTwin | apply keeps_State_raiseTwin | apply keeps_ite) | split

theorem keeps_execEventRaise (t : Nat) (src : Option Twin) (n : Fin 256) (data : Word) (late : Nat) {s0 s : State} (hk : Keeps s0 s)  : KeepsO s0 (execEventRaise t src n data late s) := by
  unfold execEventRaise
  repeat' first
    | with_reducible assumption | intro _
    | ((fail_if_no_progress extract_lets +onlyGivenNames x); refine keeps_cut (s0 := s0) (x := x) ?_ ?_; on_goal 1 => subst x)
    | (fail_if_no_progress extract_lets +onlyGivenNames x)
    | with_reducible (first | apply keeps_State_beginAt | apply keeps_State_raiseTh | apply keeps_State_raisePwr | apply keeps_raiseLate | apply keepsO_next | apply keepsO_ite | apply keeps_ite | apply keeps_ite2 | (refine keeps_eq2 (by with_reducible assumption) ?_) | (refine keeps_eq22 (by with_reducible assumption) ?_))
    | simp -zeta only [keeps_mk, keepsC_fold, id_eq] | split

theorem keeps_evtSoft (v : Word) (w : Twin) {s0 s : State} (hk : Keeps s0 s)  : Keeps s0 (evtSoft v w s) := by
  unfold evtSoft
  repeat' first
    | with_reducible assumption | intro _ | with_reducible apply keeps_State_raiseTwin

theorem keeps_execEvtSoft (t : Nat) (via : Via) (v : Word) {s0 s : State} (hk : Keeps s0 s)  : KeepsO s0 (execEvtSoft t via v s) := by
  unfold execEvtSoft
  repeat' first
    | with_reducible assumption | intro _
    | with_reducible (first | apply keeps_State_beginAt | apply keeps_State_deliver | apply keeps_evtSoft | apply keepsO_next | apply keepsO_ite)

theorem keeps_logTail (v : Word) {s0 s : State} (hk : Keeps s0 s)  : Keeps s0 (logTail v s) := by
  unfold logTail
  repeat' first
    | with_reducible assumption | intro _
    | ((fail_if_no_progress extract_lets +onlyGivenNames x); refine keeps_cut (s0 := s0) (x := x) ?_ ?_; on_goal 1 => subst x)
    | (fail_if_no_progress extract_lets +onlyGivenNames x) | with_reducible (first | apply keeps_State_setReg | apply keeps_ite)
    | split

theorem keeps_execEvtLogTail (t : Nat) (src : Requester) (v : Word) {s0 s : State} (hk : Keeps s0 s)  : KeepsO s0 (execEvtLogTail t src v s) := by
  unfold execEvtLogTail
  repeat' first
    | with_reducible assumption | intro _
    | with_reducible (first | apply keeps_State_beginAt | apply keeps_State_thWrite | apply keeps_logTail | apply keepsO_next | apply keepsO_ite)

theorem keeps_clearPend (g : Nat) (v : Word) {s0 s : State} (hk : Keeps s0 s)  : Keeps s0 (clearPend g v s) := by
  unfold clearPend
  repeat' first
    | with_reducible assumption | intro _ | with_reducible apply keeps_State_plainWrite

theorem keeps_execEvtPendClear (t : Nat) (src : Requester) (g : Fin 8) (v : Word) {s0 s : State} (hk : Keeps s0 s)  : KeepsO s0 (execEvtPendClear t src g v s) := by
  unfold execEvtPendClear
  repeat' first
    | with_reducible assumption | intro _
    | with_reducible (first | apply keeps_State_beginAt | apply keeps_State_thWrite | apply keeps_clearPend | apply keepsO_next | apply keepsO_ite)

theorem keeps_sendHeldMsgs  {s0 s : State} (hk : Keeps s0 s)  : Keeps s0 (sendHeldMsgs s) := by
  unfold sendHeldMsgs
  repeat' first
    | with_reducible assumption | intro _
    | ((fail_if_no_progress extract_lets +onlyGivenNames x); refine keeps_cut (s0 := s0) (x := x) ?_ ?_; on_goal 1 => subst x)
    | (fail_if_no_progress extract_lets +onlyGivenNames x)
    | with_reducible (first | apply keeps_State_wrB | apply keeps_State_emit | apply keeps_ite | apply keeps_foldl)
    | simp -zeta only [keeps_mk, keepsC_fold, id_eq] | split

theorem keeps_execPerst (t : Nat) (asserted : Bool) {s0 s : State} (hk : Keeps s0 s)  : KeepsO s0 (execPerst t asserted s) := by
  unfold execPerst
  repeat' first
    | with_reducible assumption | intro _
    | ((fail_if_no_progress extract_lets +onlyGivenNames x); refine keeps_cut (s0 := s0) (x := x) ?_ ?_; on_goal 1 => subst x)
    | (fail_if_no_progress extract_lets +onlyGivenNames x)
    | with_reducible (first | apply keeps_State_resetMem | apply keeps_State_beginAt | apply keepsO_next | apply keepsO_ite | apply keeps_ite)
    | simp -zeta only [keeps_mk, keepsC_fold, id_eq] | split

theorem keeps_execMsixRelease (t : Nat) (en bme fmask : Bool) {s0 s : State} (hk : Keeps s0 s)  : KeepsO s0 (execMsixRelease t en bme fmask s) := by
  unfold execMsixRelease
  repeat' first
    | with_reducible assumption | intro _
    | ((fail_if_no_progress extract_lets +onlyGivenNames x); refine keeps_cut (s0 := s0) (x := x) ?_ ?_; on_goal 1 => subst x)
    | (fail_if_no_progress extract_lets +onlyGivenNames x)
    | with_reducible (first | apply keeps_State_beginAt | apply keeps_sendHeldMsgs | apply keepsO_next | apply keepsO_ite | apply keeps_ite)
    | simp -zeta only [keeps_mk, keepsC_fold, id_eq] | split

/-! ### Machine/Access.lean -/

theorem keeps_State_putWord (a : Nat) (v : Word) {s0 s : State} (hk : Keeps s0 s)  : Keeps s0 (State.putWord s a v) := by
  unfold State.putWord
  repeat' first
    | with_reducible assumption | intro _ | with_reducible apply keeps_State_wrBytes

theorem keeps_writeReg (req : Requester) (a : Nat) (v : Word) {s0 s : State} (hk : Keeps s0 s)  : Keeps s0 (writeReg req a v s) := by
  unfold writeReg
  repeat' first
    | with_reducible assumption | intro _
    | ((fail_if_no_progress extract_lets +onlyGivenNames x); refine keeps_cut (s0 := s0) (x := x) ?_ ?_; on_goal 1 => subst x)
    | (fail_if_no_progress extract_lets +onlyGivenNames x)
    | with_reducible (first | apply keeps_State_plainWrite | apply keeps_State_unlatch | apply keeps_State_holdHigh | apply keeps_State_takeHold | apply keeps_ite | apply keeps_ite2 | (refine keeps_eq2 (by with_reducible assumption) ?_) | (refine keeps_eq22 (by with_reducible assumption) ?_))
    | simp -zeta only [keeps_mk, keepsC_fold, id_eq] | split

theorem keeps_tbCtl (n : Fin 4) (v : Word) {s0 s : State} (hk : Keeps s0 s)  : Keeps s0 (tbCtl n v s) := by
  unfold tbCtl
  repeat' first
    | with_reducible assumption | intro _
    | ((fail_if_no_progress extract_lets +onlyGivenNames x); refine keeps_cut (s0 := s0) (x := x) ?_ ?_; on_goal 1 => subst x)
    | (fail_if_no_progress extract_lets +onlyGivenNames x)
    | with_reducible (first | apply keeps_State_writeMode | apply keeps_setBaseCount | apply keeps_ite) | split

theorem keeps_tgenCtl (v : Word) {s0 s : State} (hk : Keeps s0 s)  : Keeps s0 (tgenCtl v s) := by
  unfold tgenCtl
  repeat' first
    | with_reducible assumption | intro _
    | ((fail_if_no_progress extract_lets +onlyGivenNames x); refine keeps_cut (s0 := s0) (x := x) ?_ ?_; on_goal 1 => subst x)
    | (fail_if_no_progress extract_lets +onlyGivenNames x)
    | with_reducible (first | apply keeps_captureTiming | apply keeps_cancelTiming | apply keeps_ite) | split

theorem keeps_tgenPhase (req : Requester) (a : Nat) (v : Word) {s0 s : State} (hk : Keeps s0 s)  : Keeps s0 (tgenPhase req a v s) := by
  unfold tgenPhase
  repeat' first
    | with_reducible assumption | intro _
    | ((fail_if_no_progress extract_lets +onlyGivenNames x); refine keeps_cut (s0 := s0) (x := x) ?_ ?_; on_goal 1 => subst x)
    | (fail_if_no_progress extract_lets +onlyGivenNames x)
    | with_reducible (first | apply keeps_writePhase | apply keeps_writeReg | apply keeps_ite) | split

theorem keeps_calCmd (v : Word) {s0 s : State} (hk : Keeps s0 s)  : Keeps s0 (calCmd v s) := by
  unfold calCmd
  repeat' first
    | with_reducible assumption | intro _ | with_reducible (first | apply keeps_calRequest | apply keeps_ite) | split

theorem keeps_msixTable (a : Nat) (v : Word) {s0 s : State} (hk : Keeps s0 s)  : Keeps s0 (msixTable a v s) := by
  unfold msixTable
  repeat' first
    | with_reducible assumption | intro _ | with_reducible (first | apply keeps_sendHeldMsgs | apply keeps_State_putWord)

theorem keeps_thWord (req : Requester) (a : Nat) (v : Word) {s0 s : State} (hk : Keeps s0 s)  : Keeps s0 (thWord req a v s) := by
  unfold thWord
  repeat' first
    | with_reducible assumption | intro _
    | with_reducible (first | apply keeps_State_plainWrite | apply keeps_submitMeas | apply keeps_State_writeTbRate | apply keeps_State_writeTrim | apply keeps_relayLayer | apply keeps_showWaiting | apply keeps_flashStart | apply keeps_bootVerify | apply keeps_bootCtl | apply keeps_otpCmd | apply keeps_rejBoot | apply keeps_semWrite | apply keeps_devCtl | apply keeps_twinCtlWrite | apply keeps_outCtl | apply keeps_wdogCtl | apply keeps_kickWdog | apply keeps_writeOpp | apply keeps_logTail | apply keeps_State_putWord | apply keeps_writeReg | apply keeps_tbCtl | apply keeps_tgenCtl | apply keeps_tgenPhase | apply keeps_calCmd | apply keeps_msixTable | apply keeps_ite)
    | split

theorem keeps_thAccess (req : Requester) (a : Nat) (v : Word) {s0 s : State} (hk : Keeps s0 s)  : Keeps s0 (thAccess req a v s) := by
  unfold thAccess
  repeat' first
    | with_reducible assumption | intro _
    | with_reducible (first | apply keeps_State_thWrite | apply keeps_writePwrCtl | apply keeps_State_pwrWrite | apply keeps_thWord | apply keeps_ite)
    | split

theorem keeps_sorusCmd (via : Via) (v : Word) (w : Twin) {s0 s : State} (hk : Keeps s0 s)  : Keeps s0 (sorusCmd via v w s) := by
  unfold sorusCmd
  repeat' first
    | with_reducible assumption | intro _
    | ((fail_if_no_progress extract_lets +onlyGivenNames x); refine keeps_cut (s0 := s0) (x := x) ?_ ?_; on_goal 1 => subst x)
    | (fail_if_no_progress extract_lets +onlyGivenNames x)
    | with_reducible (first | apply keeps_dropOpenPkt | apply keeps_coreDone | apply keeps_ite)
    | simp -zeta only [keeps_mk, keepsC_fold, id_eq] | split

theorem keeps_strdCtl (p : Nat) (v : Word) (w : Twin) {s0 s : State} (hk : Keeps s0 s)  : Keeps s0 (strdCtl p v w s) := by
  unfold strdCtl
  repeat' first
    | with_reducible assumption | intro _
    | ((fail_if_no_progress extract_lets +onlyGivenNames x); refine keeps_cut (s0 := s0) (x := x) ?_ ?_; on_goal 1 => subst x)
    | (fail_if_no_progress extract_lets +onlyGivenNames x)
    | with_reducible (first | apply keeps_requestEnum | apply keeps_forceFull | apply keeps_ite) | split

theorem keeps_twinFault (v : Word) (w : Twin) {s0 s : State} (hk : Keeps s0 s)  : Keeps s0 (twinFault v w s) := by
  unfold twinFault
  repeat' first
    | with_reducible assumption | intro _
    | ((fail_if_no_progress extract_lets +onlyGivenNames x); refine keeps_cut (s0 := s0) (x := x) ?_ ?_; on_goal 1 => subst x)
    | (fail_if_no_progress extract_lets +onlyGivenNames x)
    | with_reducible (first | apply keeps_State_plainWrite | apply keeps_State_setHealth | apply keeps_ite) | split

theorem keeps_graftWrite (v : Word) (w : Twin) {s0 s : State} (hk : Keeps s0 s)  : Keeps s0 (graftWrite v w s) := by
  unfold graftWrite
  repeat' first
    | with_reducible assumption | intro _
    | ((fail_if_no_progress extract_lets +onlyGivenNames x); refine keeps_cut (s0 := s0) (x := x) ?_ ?_; on_goal 1 => subst x)
    | (fail_if_no_progress extract_lets +onlyGivenNames x)
    | with_reducible (first | apply keeps_State_plainWrite | apply keeps_graftGo | apply keeps_cancelGraft | apply keeps_ite) | split

theorem keeps_twRegWord (via : Via) (req : Requester) (a : Nat) (v : Word) (w : Twin) {s0 s : State} (hk : Keeps s0 s) : Keeps s0 (twRegWord via req a v w s) := by
  unfold twRegWord
  repeat' first
    | with_reducible assumption | decide | intro _
    | ((fail_if_no_progress extract_lets +onlyGivenNames x); refine keeps_cut (s0 := s0) (x := x) ?_ ?_; on_goal 1 => subst x)
    | (fail_if_no_progress extract_lets +onlyGivenNames x)
    | with_reducible (first | apply keeps_State_plainWrite | apply keeps_dropOpenPkt | apply keeps_pushWrite | apply keeps_relWrite | apply keeps_bankCtlWrite | apply keeps_freeSlot | apply keeps_writeTxTail | apply keeps_commitLayers | apply keeps_watchSpare | apply keeps_commitMasters | apply keeps_forceZone | apply keeps_submitRdm | apply keeps_startDisc | apply keeps_postHealth | apply keeps_confirmVia | apply keeps_pkgCmd | apply keeps_ctlKeyData | apply keeps_ctlKeySel | apply keeps_evtSoft | apply keeps_writeReg | apply keeps_sorusCmd | apply keeps_strdCtl | apply keeps_twinFault | apply keeps_graftWrite | apply keeps_ite | apply keeps_ite2 | apply keeps_ite22 | (refine keeps_eq2 (by with_reducible assumption) ?_) | (refine keeps_eq22 (by with_reducible assumption) ?_))
    | simp -zeta only [keeps_mk, keepsC_fold, id_eq] | (refine keepsC_le ?_ ?_ ?_) | omega | split | (clear_value *; split)

theorem keeps_twRegAt (via : Via) (req : Requester) (off : Nat) (v : Word) (w : Twin) {s0 s : State} (hk : Keeps s0 s)  : Keeps s0 (twRegAt via req off v w s) := by
  unfold twRegAt
  repeat' first
    | with_reducible assumption | intro _
    | ((fail_if_no_progress extract_lets +onlyGivenNames x); refine keeps_cut (s0 := s0) (x := x) ?_ ?_; on_goal 1 => subst x)
    | (fail_if_no_progress extract_lets +onlyGivenNames x)
    | with_reducible (first | apply keeps_writeReg | apply keeps_twRegWord | apply keeps_ite)
    | simp -zeta only [keeps_mk, keepsC_fold, id_eq] | split

theorem keeps_twWord (via : Via) (req : Requester) (off : Nat) (v : Word) (w : Twin) {s0 s : State} (hk : Keeps s0 s) : Keeps s0 (twWord via req off v w s) := by
  unfold twWord
  repeat' first
    | with_reducible assumption | decide | intro _
    | ((fail_if_no_progress extract_lets +onlyGivenNames x); refine keeps_cut (s0 := s0) (x := x) ?_ ?_; on_goal 1 => subst x)
    | (fail_if_no_progress extract_lets +onlyGivenNames x)
    | with_reducible (first | apply keeps_State_holdAccess | apply keeps_State_refuseBank | apply keeps_bridgeWrite | apply keeps_State_putWord | apply keeps_twRegAt | apply keeps_ite | apply keeps_ite2 | apply keeps_ite22 | (refine keeps_eq2 (by with_reducible assumption) ?_) | (refine keeps_eq22 (by with_reducible assumption) ?_))
    | simp -zeta only [keeps_mk, keepsC_fold, id_eq] | (refine keepsC_le ?_ ?_ ?_) | omega | split | (clear_value *; split)

theorem keeps_graftCtl (via : Via) (v : Word) {s0 s : State} (hk : Keeps s0 s)  : Keeps s0 (graftCtl via v s) := by
  unfold graftCtl
  repeat' first
    | with_reducible assumption | intro _
    | ((fail_if_no_progress extract_lets +onlyGivenNames x); refine keeps_cut (s0 := s0) (x := x) ?_ ?_; on_goal 1 => subst x)
    | (fail_if_no_progress extract_lets +onlyGivenNames x)
    | with_reducible (first | apply keeps_State_each | apply keeps_State_deliver | apply keeps_State_plainWrite | apply keeps_graftGoVia | apply keeps_graftWrite | apply keeps_ite | (refine keeps_eq2 (by with_reducible assumption) ?_) | (refine keeps_eq22 (by with_reducible assumption) ?_))
    | simp -zeta only [keeps_mk, keepsC_fold, id_eq] | split

theorem keeps_twAccess (via : Via) (req : Requester) (off : Nat) (v : Word) {s0 s : State} (hk : Keeps s0 s)  : Keeps s0 (twAccess via req off v s) := by
  unfold twAccess
  repeat' first
    | with_reducible assumption | intro _
    | with_reducible (first | apply keeps_State_deliver | apply keeps_twWord | apply keeps_graftCtl | apply keeps_ite) | split

theorem keeps_crossAcc (w : Twin) {s0 s : State} (hk : Keeps s0 s)  : Keeps s0 (crossAcc w s) := by
  unfold crossAcc
  repeat' first
    | with_reducible assumption | intro _ | with_reducible (first | apply keeps_State_bump | apply keeps_ite) | split

theorem keeps_coreWrite (w : Twin) (c : Fin 16) (d : Dest) (v : Word) {s0 s : State} (hk : Keeps s0 s) : Keeps s0 (coreWrite w c d v s) := by
  unfold coreWrite
  repeat' first
    | with_reducible assumption | decide | intro _
    | ((fail_if_no_progress extract_lets +onlyGivenNames x); refine keeps_cut (s0 := s0) (x := x) ?_ ?_; on_goal 1 => subst x)
    | (fail_if_no_progress extract_lets +onlyGivenNames x)
    | with_reducible (first | apply keeps_State_refuseBank | apply keeps_coreDram | apply keeps_bridgeWrite | apply keeps_crossAcc | apply keeps_ite | apply keeps_ite2 | apply keeps_ite22 | (refine keeps_eq2 (by with_reducible assumption) ?_) | (refine keeps_eq22 (by with_reducible assumption) ?_))
    | simp -zeta only [keeps_mk, keepsC_fold, id_eq] | (refine keepsC_le ?_ ?_ ?_) | omega | split | (clear_value *; split)

theorem keeps_writeAt (req : Requester) (a : Nat) (v : Word) {s0 s : State} (hk : Keeps s0 s)  : Keeps s0 (writeAt req a v s) := by
  unfold writeAt
  repeat' first
    | with_reducible assumption | intro _
    | ((fail_if_no_progress extract_lets +onlyGivenNames x); refine keeps_cut (s0 := s0) (x := x) ?_ ?_; on_goal 1 => subst x)
    | (fail_if_no_progress extract_lets +onlyGivenNames x)
    | with_reducible (first | apply keeps_State_thWrite | apply keeps_mbxWriteAt | apply keeps_thAccess | apply keeps_twAccess | apply keeps_coreWrite | apply keeps_ite)
    | simp -zeta only [keeps_mk, keepsC_fold, id_eq] | split

theorem keeps_relay (v : Word) {s0 s : State} (hk : Keeps s0 s)  : Keeps s0 (relay v s) := by
  unfold relay
  repeat' first
    | with_reducible assumption | intro _
    | ((fail_if_no_progress extract_lets +onlyGivenNames x); refine keeps_cut (s0 := s0) (x := x) ?_ ?_; on_goal 1 => subst x)
    | (fail_if_no_progress extract_lets +onlyGivenNames x)
    | with_reducible (first | apply keeps_State_keyErr | apply keeps_writeAt | apply keeps_ite) | split

theorem keeps_barWrite (req : Requester) (a : Nat) (v : Word) {s0 s : State} (hk : Keeps s0 s)  : Keeps s0 (barWrite req a v s) := by
  unfold barWrite
  repeat' first
    | with_reducible assumption | intro _
    | with_reducible (first | apply keeps_State_thWrite | apply keeps_writeAt | apply keeps_relay | apply keeps_ite) | split

theorem keeps_noTwin  {s0 s : State} (hk : Keeps s0 s) : Keeps s0 (noTwin s).2 := by
  unfold noTwin
  repeat' first
    | with_reducible assumption | decide | intro _
    | ((fail_if_no_progress extract_lets +onlyGivenNames x); refine keeps_cut (s0 := s0) (x := x) ?_ ?_; on_goal 1 => subst x)
    | (fail_if_no_progress extract_lets +onlyGivenNames x)
    | with_reducible (first | apply keeps_noTwinRead | apply keeps_ite | apply keeps_ite2 | apply keeps_ite22 | (refine keeps_eq2 (by with_reducible assumption) ?_) | (refine keeps_eq22 (by with_reducible assumption) ?_))
    | simp -zeta only [keeps_mk, keepsC_fold, id_eq] | (refine keepsC_le ?_ ?_ ?_) | omega | split | (clear_value *; split)

theorem keeps_deadRead  {s0 s : State} (hk : Keeps s0 s)  : Keeps s0 (deadRead s).2 := by
  unfold deadRead
  repeat' first
    | with_reducible assumption | intro _ | with_reducible apply keeps_State_bump | simp -zeta only [keeps_mk, keepsC_fold, id_eq]

theorem keeps_saveWord (a : Nat) {s0 s : State} (hk : Keeps s0 s)  : Keeps s0 (saveWord a s).2 := by
  unfold saveWord
  repeat' first
    | with_reducible assumption | intro _
    | ((fail_if_no_progress extract_lets +onlyGivenNames x); refine keeps_cut (s0 := s0) (x := x) ?_ ?_; on_goal 1 => subst x)
    | (fail_if_no_progress extract_lets +onlyGivenNames x)
    | with_reducible (first | apply keeps_State_fresh | apply keeps_ite | apply keeps_ite2 | (refine keeps_eq2 (by with_reducible assumption) ?_) | (refine keeps_eq22 (by with_reducible assumption) ?_))
    | simp -zeta only [keeps_mk, keepsC_fold, id_eq] | split

theorem keeps_thRead (req : Requester) (a : Nat) {s0 s : State} (hk : Keeps s0 s)  : Keeps s0 (thRead req a s).2 := by
  unfold thRead
  repeat' first
    | with_reducible assumption | intro _
    | with_reducible (first | apply keeps_semReadBy | apply keeps_readReg | apply keeps_saveWord | apply keeps_ite | apply keeps_ite2)
    | simp -zeta only [keeps_mk, keepsC_fold, id_eq] | split

theorem keeps_popWords (req : Requester) (b : Nat) (high : Bool) (pop : State → BitVec 64 × State) (now_ : BitVec 64) {s0 s : State} (hk : Keeps s0 s) (h_pop : ∀ (y0 : State), Keeps s0 y0 → Keeps s0 (pop y0).2) : Keeps s0 (popWords req b high pop now_ s).2 := by
  unfold popWords
  repeat' first
    | with_reducible assumption | intro _
    | ((fail_if_no_progress extract_lets +onlyGivenNames x); refine keeps_cut (s0 := s0) (x := x) ?_ ?_; on_goal 1 => subst x)
    | (fail_if_no_progress extract_lets +onlyGivenNames x)
    | with_reducible (first | apply h_pop | apply keeps_State_latchHigh | apply keeps_State_unlatch | apply keeps_ite | apply keeps_ite2 | (refine keeps_eq2 (by with_reducible assumption) ?_) | (refine keeps_eq22 (by with_reducible assumption) ?_))
    | simp -zeta only [keeps_mk, keepsC_fold, id_eq] | split

theorem keeps_dramWord (w : Twin) (off : Nat) {s0 s : State} (hk : Keeps s0 s) : Keeps s0 (dramWord w off s).2 := by
  unfold dramWord
  repeat' first
    | with_reducible assumption | decide | intro _
    | ((fail_if_no_progress extract_lets +onlyGivenNames x); refine keeps_cut (s0 := s0) (x := x) ?_ ?_; on_goal 1 => subst x)
    | (fail_if_no_progress extract_lets +onlyGivenNames x)
    | with_reducible (first | apply keeps_State_fresh | apply keeps_ite | apply keeps_ite2 | apply keeps_ite22 | (refine keeps_eq2 (by with_reducible assumption) ?_) | (refine keeps_eq22 (by with_reducible assumption) ?_))
    | simp -zeta only [keeps_mk, keepsC_fold, id_eq] | (refine keepsC_le ?_ ?_ ?_) | omega | split | (clear_value *; split)

theorem keeps_twRegRead (via : Via) (req : Requester) (off : Nat) (w : Twin) {s0 s : State} (hk : Keeps s0 s) :
    Keeps s0 (twRegRead via req off w s).2 := by
  unfold twRegRead
  extract_lets a q pop q2 pop2
  refine keeps_ite2 (keeps_ite2 ?_ fun _ => ?_) fun _ => ?_
  · split
    · exact hk
    · exact keeps_readReg _ _ hk
  · refine keeps_popWords _ _ _ _ _ hk fun y hy => ?_
    subst pop2
    exact keeps_iteApp (keeps_mirrorHeader _ _ _ hy) (keeps_windowHeader _ _ hy)
  · refine keeps_popWords _ _ _ _ _ hk fun y hy => ?_
    subst pop
    exact keeps_iteApp (keeps_mirrorHeader _ _ _ hy) (keeps_popHeader _ _ _ hy)

theorem keeps_twRead (via : Via) (req : Requester) (off : Nat) (w : Twin) {s0 s : State} (hk : Keeps s0 s) : Keeps s0 (twRead via req off w s).2 := by
  unfold twRead
  repeat' first
    | with_reducible assumption | decide | intro _
    | ((fail_if_no_progress extract_lets +onlyGivenNames x); refine keeps_cut (s0 := s0) (x := x) ?_ ?_; on_goal 1 => subst x)
    | (fail_if_no_progress extract_lets +onlyGivenNames x)
    | with_reducible (first | apply keeps_State_holdAccess | apply keeps_State_refuseBank | apply keeps_bridgeRead | apply keeps_twRegRead | apply keeps_ite | apply keeps_ite2 | apply keeps_ite22 | (refine keeps_eq2 (by with_reducible assumption) ?_) | (refine keeps_eq22 (by with_reducible assumption) ?_))
    | simp -zeta only [keeps_mk, keepsC_fold, id_eq] | (refine keepsC_le ?_ ?_ ?_) | omega | split | (clear_value *; split)

theorem keeps_twPathRead (via : Via) (req : Requester) (off : Nat) {s0 s : State} (hk : Keeps s0 s)  : Keeps s0 (twPathRead via req off s).2 := by
  unfold twPathRead
  repeat' first
    | with_reducible assumption | intro _
    | ((fail_if_no_progress extract_lets +onlyGivenNames x); refine keeps_cut (s0 := s0) (x := x) ?_ ?_; on_goal 1 => subst x)
    | (fail_if_no_progress extract_lets +onlyGivenNames x)
    | with_reducible (first | apply keeps_noTwin | apply keeps_deadRead | apply keeps_twRead | apply keeps_ite | apply keeps_ite2 | (refine keeps_eq2 (by with_reducible assumption) ?_) | (refine keeps_eq22 (by with_reducible assumption) ?_))
    | simp -zeta only [keeps_mk, keepsC_fold, id_eq] | split

theorem keeps_barRead (req : Requester) (a : Nat) {s0 s : State} (hk : Keeps s0 s) : Keeps s0 (barRead req a s).2 := by
  unfold barRead
  repeat' first
    | with_reducible assumption | decide | intro _
    | ((fail_if_no_progress extract_lets +onlyGivenNames x); refine keeps_cut (s0 := s0) (x := x) ?_ ?_; on_goal 1 => subst x)
    | (fail_if_no_progress extract_lets +onlyGivenNames x)
    | with_reducible (first | apply keeps_State_refuseBank | apply keeps_mbxReadAt | apply keeps_bridgeRead | apply keeps_crossAcc | apply keeps_thRead | apply keeps_dramWord | apply keeps_twPathRead | apply keeps_ite | apply keeps_ite2 | apply keeps_ite22 | (refine keeps_eq2 (by with_reducible assumption) ?_) | (refine keeps_eq22 (by with_reducible assumption) ?_))
    | simp -zeta only [keeps_mk, keepsC_fold, id_eq] | (refine keepsC_le ?_ ?_ ?_) | omega | split | (clear_value *; split)

/-! ### Machine/HostCmds.lean -/

theorem keeps_execMirrorWrite (t : Nat) (req : Requester) (off : Nat) (v : Word) {s0 s : State} (hk : Keeps s0 s)  : KeepsO s0 (execMirrorWrite t req off v s) := by
  unfold execMirrorWrite
  repeat' first
    | with_reducible assumption | intro _
    | ((fail_if_no_progress extract_lets +onlyGivenNames x); refine keeps_cut (s0 := s0) (x := x) ?_ ?_; on_goal 1 => subst x)
    | (fail_if_no_progress extract_lets +onlyGivenNames x)
    | with_reducible (first | apply keeps_State_beginAt | apply keeps_barWrite | apply keepsO_next | apply keepsO_ite | apply keeps_ite)
    | split

theorem keeps_emitRead  {s0 : State} {x : Option Word × State} (hk : Keeps s0 x.2)  : Keeps s0 (emitRead x) := by
  obtain ⟨q, s⟩ := x
  change Keeps s0 s at hk
  unfold emitRead
  repeat' first
    | with_reducible assumption | intro _
    | ((fail_if_no_progress extract_lets +onlyGivenNames x); refine keeps_cut (s0 := s0) (x := x) ?_ ?_; on_goal 1 => subst x)
    | (fail_if_no_progress extract_lets +onlyGivenNames x)
    | with_reducible (first | apply keeps_State_emit | (refine keeps_eq2 (by with_reducible assumption) ?_) | (refine keeps_eq22 (by with_reducible assumption) ?_))
    | simp -zeta only [keeps_mk, keepsC_fold, id_eq] | split

theorem keeps_execMirrorRead (t : Nat) (req : Requester) (off : Nat) {s0 s : State} (hk : Keeps s0 s)  : KeepsO s0 (execMirrorRead t req off s) := by
  unfold execMirrorRead
  repeat' first
    | with_reducible assumption | intro _
    | ((fail_if_no_progress extract_lets +onlyGivenNames x); refine keeps_cut (s0 := s0) (x := x) ?_ ?_; on_goal 1 => subst x)
    | (fail_if_no_progress extract_lets +onlyGivenNames x)
    | with_reducible (first | apply keeps_State_beginAt | apply keeps_barRead | apply keeps_emitRead | apply keepsO_next | apply keepsO_ite | apply keeps_ite)
    | split

theorem keeps_forwarded (wr : Forwarded) (req : Requester) (w : Twin) {s0 s : State} (hk : Keeps s0 s)  : Keeps s0 (forwarded wr req w s) := by
  unfold forwarded
  repeat' first
    | with_reducible assumption | intro _
    | ((fail_if_no_progress extract_lets +onlyGivenNames x); refine keeps_cut (s0 := s0) (x := x) ?_ ?_; on_goal 1 => subst x)
    | (fail_if_no_progress extract_lets +onlyGivenNames x)
    | with_reducible (first | apply keeps_bulkInto | apply keeps_twWord | apply keeps_ite)
    | simp -zeta only [keeps_mk, keepsC_fold, id_eq] | split

theorem keeps_mirrorMiss (w : Twin) {s0 s : State} (hk : Keeps s0 s)  : Keeps s0 (mirrorMiss w s) := by
  unfold mirrorMiss
  repeat' first
    | with_reducible assumption | intro _
    | ((fail_if_no_progress extract_lets +onlyGivenNames x); refine keeps_cut (s0 := s0) (x := x) ?_ ?_; on_goal 1 => subst x)
    | (fail_if_no_progress extract_lets +onlyGivenNames x)
    | with_reducible (first | apply keeps_State_bump | apply keeps_State_raiseTh | apply keeps_State_setHealth | (refine keeps_eq2 (by with_reducible assumption) ?_) | (refine keeps_eq22 (by with_reducible assumption) ?_))
    | simp -zeta only [keeps_mk, keepsC_fold, id_eq] | split

theorem keeps_execMirrorTimeout (t : Nat) (req : Requester) (w : Twin) (wr : Forwarded) {s0 s : State} (hk : Keeps s0 s)  : KeepsO s0 (execMirrorTimeout t req w wr s) := by
  unfold execMirrorTimeout
  repeat' first
    | with_reducible assumption | intro _
    | ((fail_if_no_progress extract_lets +onlyGivenNames x); refine keeps_cut (s0 := s0) (x := x) ?_ ?_; on_goal 1 => subst x)
    | (fail_if_no_progress extract_lets +onlyGivenNames x)
    | with_reducible (first | apply keeps_State_at | apply keeps_State_beginAt | apply keeps_State_reach | apply keeps_forwarded | apply keeps_mirrorMiss | apply keepsO_next | apply keepsO_ite | apply keeps_ite | apply keeps_ite2 | apply keeps_foldl | (refine keeps_eq2 (by with_reducible assumption) ?_) | (refine keeps_eq22 (by with_reducible assumption) ?_))
    | simp -zeta only [keeps_mk, keepsC_fold, id_eq] | split

theorem keeps_execNotwinRead (t : Nat) (target : Option Twin) (_off : Nat) {s0 s : State} (hk : Keeps s0 s)  : KeepsO s0 (execNotwinRead t target _off s) := by
  unfold execNotwinRead
  repeat' first
    | with_reducible assumption | intro _
    | ((fail_if_no_progress extract_lets +onlyGivenNames x); refine keeps_cut (s0 := s0) (x := x) ?_ ?_; on_goal 1 => subst x)
    | (fail_if_no_progress extract_lets +onlyGivenNames x)
    | with_reducible (first | apply keeps_State_emit | apply keeps_State_beginAt | apply keeps_noTwin | apply keepsO_next | apply keepsO_ite | apply keeps_ite)
    | simp -zeta only [keeps_mk, keepsC_fold, id_eq] | split

theorem keeps_execDeadAcc (t : Nat) (w : Twin) (acc : Access) (_off : Nat) {s0 s : State} (hk : Keeps s0 s)  : KeepsO s0 (execDeadAcc t w acc _off s) := by
  unfold execDeadAcc
  repeat' first
    | with_reducible assumption | intro _
    | ((fail_if_no_progress extract_lets +onlyGivenNames x); refine keeps_cut (s0 := s0) (x := x) ?_ ?_; on_goal 1 => subst x)
    | (fail_if_no_progress extract_lets +onlyGivenNames x)
    | with_reducible (first | apply keeps_State_emit | apply keeps_State_beginAt | apply keeps_deadRead | apply keepsO_next | apply keepsO_ite | apply keeps_ite | apply keeps_ite2 | (refine keeps_eq2 (by with_reducible assumption) ?_) | (refine keeps_eq22 (by with_reducible assumption) ?_))
    | simp -zeta only [keeps_mk, keepsC_fold, id_eq] | split

theorem keeps_execXtwinAcc (t : Nat) (w : Twin) (_c : Fin 16) (acc : Access) (_off : Nat) {s0 s : State} (hk : Keeps s0 s)  : KeepsO s0 (execXtwinAcc t w _c acc _off s) := by
  unfold execXtwinAcc
  repeat' first
    | with_reducible assumption | intro _
    | ((fail_if_no_progress extract_lets +onlyGivenNames x); refine keeps_cut (s0 := s0) (x := x) ?_ ?_; on_goal 1 => subst x)
    | (fail_if_no_progress extract_lets +onlyGivenNames x)
    | with_reducible (first | apply keeps_State_emit | apply keeps_State_beginAt | apply keeps_crossAcc | apply keepsO_next | apply keepsO_ite | apply keeps_ite)
    | simp -zeta only [keeps_mk, keepsC_fold, id_eq] | split

theorem keeps_execCoreThallusWrite (t : Nat) (w : Twin) (c : Fin 16) (addr : Nat) (v : Word) {s0 s : State} (hk : Keeps s0 s)  : KeepsO s0 (execCoreThallusWrite t w c addr v s) := by
  unfold execCoreThallusWrite
  repeat' first
    | with_reducible assumption | intro _
    | ((fail_if_no_progress extract_lets +onlyGivenNames x); refine keeps_cut (s0 := s0) (x := x) ?_ ?_; on_goal 1 => subst x)
    | (fail_if_no_progress extract_lets +onlyGivenNames x)
    | with_reducible (first | apply keeps_State_beginAt | apply keeps_barWrite | apply keepsO_next | apply keepsO_ite | apply keeps_ite)
    | split

theorem keeps_execHostRelay (t : Nat) (w : Twin) (c : Fin 16) (v : Word) {s0 s : State} (hk : Keeps s0 s)  : KeepsO s0 (execHostRelay t w c v s) := by
  unfold execHostRelay
  repeat' first
    | with_reducible assumption | intro _
    | with_reducible (first | apply keeps_State_beginAt | apply keeps_State_thWrite | apply keeps_relay | apply keepsO_next | apply keepsO_ite)

theorem keeps_execRegisterWrite (t : Nat) (req : Requester) (addr : Nat) (v : Word) {s0 s : State} (hk : Keeps s0 s)  : KeepsO s0 (execRegisterWrite t req addr v s) := by
  unfold execRegisterWrite
  repeat' first
    | with_reducible assumption | intro _
    | with_reducible (first | apply keeps_State_beginAt | apply keeps_barWrite | apply keepsO_next | apply keepsO_ite)

theorem keeps_mgmtMatch  {s0 s : State} (hk : Keeps s0 s)  : Keeps s0 (mgmtMatch s) := by
  unfold mgmtMatch
  repeat' first
    | with_reducible assumption | intro _
    | with_reducible (first | apply keeps_State_bump | apply keeps_State_emit | apply keeps_wakeSource)

theorem keeps_mgmtPut (a : Nat) (v : Word) {s0 s : State} (hk : Keeps s0 s)  : Keeps s0 (mgmtPut a v s) := by
  unfold mgmtPut
  repeat' first
    | with_reducible assumption | intro _ | with_reducible (first | apply keeps_thAccess | apply keeps_barWrite | apply keeps_ite)
    | split

theorem keeps_mgmtGet (a : Nat) {s0 s : State} (hk : Keeps s0 s)  : Keeps s0 (mgmtGet a s).2 := by
  unfold mgmtGet
  repeat' first
    | with_reducible assumption | intro _
    | ((fail_if_no_progress extract_lets +onlyGivenNames x); refine keeps_cut (s0 := s0) (x := x) ?_ ?_; on_goal 1 => subst x)
    | (fail_if_no_progress extract_lets +onlyGivenNames x)
    | with_reducible (first | apply keeps_State_fresh | apply keeps_thRead | apply keeps_barRead | apply keeps_ite | apply keeps_ite2 | (refine keeps_eq2 (by with_reducible assumption) ?_) | (refine keeps_eq22 (by with_reducible assumption) ?_))
    | simp -zeta only [keeps_mk, keepsC_fold, id_eq] | split

theorem keeps_mgmtPuts (a : Nat) (l : List Word) {s0 s : State} (h : Keeps s0 s) : Keeps s0 (mgmtPuts a l s) := by
  induction l generalizing s a with
  | nil => exact h
  | cons b l ih => exact ih _ (keeps_mgmtPut _ _ h)

theorem keeps_mgmtGets (a n : Nat) {s0 s : State} (h : Keeps s0 s) : Keeps s0 (mgmtGets a n s).2 := by
  induction n generalizing s a with
  | zero => exact h
  | succ n ih => exact ih _ (keeps_mgmtGet _ h)

theorem keeps_execMgmtWrite (t : Nat) (addr : Nat) (words : List Word) (pecOk : Passed) {s0 s : State} (hk : Keeps s0 s)  : KeepsO s0 (execMgmtWrite t addr words pecOk s) := by
  unfold execMgmtWrite
  repeat' first
    | with_reducible assumption | intro _
    | ((fail_if_no_progress extract_lets +onlyGivenNames x); refine keeps_cut (s0 := s0) (x := x) ?_ ?_; on_goal 1 => subst x)
    | (fail_if_no_progress extract_lets +onlyGivenNames x)
    | with_reducible (first | apply keeps_State_bump | apply keeps_State_beginAt | apply keeps_mgmtMatch | apply keeps_mgmtPuts | apply keepsO_next | apply keepsO_ite | apply keeps_ite)
    | split

theorem keeps_execMgmtRead (t : Nat) (addr : Nat) (count : Nat) {s0 s : State} (hk : Keeps s0 s)  : KeepsO s0 (execMgmtRead t addr count s) := by
  unfold execMgmtRead
  repeat' first
    | with_reducible assumption | intro _
    | ((fail_if_no_progress extract_lets +onlyGivenNames x); refine keeps_cut (s0 := s0) (x := x) ?_ ?_; on_goal 1 => subst x)
    | (fail_if_no_progress extract_lets +onlyGivenNames x)
    | with_reducible (first | apply keeps_State_emit | apply keeps_State_beginAt | apply keeps_mgmtMatch | apply keeps_mgmtGets | apply keepsO_next | apply keepsO_ite | apply keeps_ite | apply keeps_ite2 | (refine keeps_eq2 (by with_reducible assumption) ?_) | (refine keeps_eq22 (by with_reducible assumption) ?_))
    | simp -zeta only [keeps_mk, keepsC_fold, id_eq] | split

theorem keeps_execMgmtTimeout (t : Nat) {s0 s : State} (hk : Keeps s0 s)  : KeepsO s0 (execMgmtTimeout t s) := by
  unfold execMgmtTimeout
  repeat' first
    | with_reducible assumption | intro _
    | with_reducible (first | apply keeps_State_bump | apply keeps_State_beginAt | apply keepsO_next | apply keepsO_ite)

theorem keeps_execMgmtWake (t : Nat) {s0 s : State} (hk : Keeps s0 s)  : KeepsO s0 (execMgmtWake t s) := by
  unfold execMgmtWake
  repeat' first
    | with_reducible assumption | intro _
    | ((fail_if_no_progress extract_lets +onlyGivenNames x); refine keeps_cut (s0 := s0) (x := x) ?_ ?_; on_goal 1 => subst x)
    | (fail_if_no_progress extract_lets +onlyGivenNames x)
    | with_reducible (first | apply keeps_State_beginAt | apply keeps_mgmtMatch | apply keepsO_next | apply keepsO_ite | apply keeps_ite)
    | split

theorem keeps_ctlAccepted (op n : Nat) (m : List Byte) {s0 s : State} (hk : Keeps s0 s)  : Keeps s0 (ctlAccepted op n m s).2 := by
  unfold ctlAccepted
  repeat' first
    | with_reducible assumption | decide | intro _
    | ((fail_if_no_progress extract_lets +onlyGivenNames x); refine keeps_cut (s0 := s0) (x := x) ?_ ?_; on_goal 1 => subst x)
    | (fail_if_no_progress extract_lets +onlyGivenNames x)
    | with_reducible (first | apply keeps_expireSessions | apply keeps_ctlAccept | apply keeps_ite | apply keeps_ite2 | apply keeps_ite22 | apply keeps_foldl | apply keeps_foldl2 | (refine keeps_eq2 (by with_reducible assumption) ?_) | (refine keeps_eq22 (by with_reducible assumption) ?_))
    | simp -zeta only [keeps_mk, keepsC_fold, id_eq] | (refine keepsC_le ?_ ?_ ?_) | omega | split | (clear_value *; split)

theorem keeps_ctlReplies (n : Nat) (m : List Byte) (status : Nat) (l : List (Twin × CtlSession)) (body : Twin → List Byte) {s0 s : State} (hk : Keeps s0 s)  : Keeps s0 (ctlReplies n m status l body s) := by
  unfold ctlReplies
  repeat' first
    | with_reducible assumption | intro _ | with_reducible (first | apply keeps_sendReply | apply keeps_foldl)
    | simp -zeta only [keeps_mk, keepsC_fold, id_eq]

theorem keeps_ctlGet (w : Twin) (a : Nat) {s0 s : State} (hk : Keeps s0 s)  : Keeps s0 (ctlGet w a s).2 := by
  unfold ctlGet
  repeat' first
    | with_reducible assumption | intro _
    | ((fail_if_no_progress extract_lets +onlyGivenNames x); refine keeps_cut (s0 := s0) (x := x) ?_ ?_; on_goal 1 => subst x)
    | (fail_if_no_progress extract_lets +onlyGivenNames x)
    | with_reducible (first | apply keeps_State_fresh | apply keeps_barRead | (refine keeps_eq2 (by with_reducible assumption) ?_) | (refine keeps_eq22 (by with_reducible assumption) ?_))
    | simp -zeta only [keeps_mk, keepsC_fold, id_eq] | split

theorem keeps_ctlGets (lead : Twin) (ws : List Twin) (l : List Nat) {s0 s : State} (hk : Keeps s0 s) : Keeps s0 (ctlGets lead ws l s).2 := by
  induction l generalizing s with
  | nil => exact hk
  | cons a l ih =>
    unfold ctlGets
    refine ih ?_
    split
    · exact keeps_ctlGet _ _ hk
    · have h1 : Keeps s0 (if ws.contains Twin.a = true then ctlGet Twin.a a s else (0, s)).2 :=
        keeps_ite2 hk fun _ => keeps_ctlGet _ _ hk
      exact keeps_ite2 h1 fun _ => keeps_ctlGet _ _ h1

theorem keeps_execCtlRead (t : Nat) (n : Fin 4) (msg : List Byte) {s0 s : State} (hk : Keeps s0 s) : KeepsO s0 (execCtlRead t n msg s) := by
  unfold execCtlRead
  repeat' first
    | with_reducible assumption | decide | intro _
    | ((fail_if_no_progress extract_lets +onlyGivenNames x); refine keeps_cut (s0 := s0) (x := x) ?_ ?_; on_goal 1 => subst x)
    | (fail_if_no_progress extract_lets +onlyGivenNames x)
    | with_reducible (first | apply keeps_State_beginAt | apply keeps_ctlAccepted | apply keeps_ctlReplies | apply keeps_ctlGets | apply keepsO_next | apply keepsO_ite | apply keeps_ite | apply keeps_ite2 | apply keeps_ite22 | (refine keeps_eq2 (by with_reducible assumption) ?_) | (refine keeps_eq22 (by with_reducible assumption) ?_))
    | simp -zeta only [keeps_mk, keepsC_fold, id_eq] | (refine keepsC_le ?_ ?_ ?_) | omega | split | (clear_value *; split)

theorem keeps_ctlPuts (w : Twin) (m : List Byte) {s0 s : State} (hk : Keeps s0 s)  : Keeps s0 (ctlPuts w m s) := by
  unfold ctlPuts
  repeat' first
    | with_reducible assumption | intro _
    | with_reducible (first | apply keeps_State_thWrite | apply keeps_State_plainWrite | apply keeps_relay | apply keeps_foldl)
    | simp -zeta only [keeps_mk, keepsC_fold, id_eq]

theorem keeps_execCtlWrite (t : Nat) (n : Fin 4) (msg : List Byte) {s0 s : State} (hk : Keeps s0 s)  : KeepsO s0 (execCtlWrite t n msg s) := by
  unfold execCtlWrite
  repeat' first
    | with_reducible assumption | intro _
    | ((fail_if_no_progress extract_lets +onlyGivenNames x); refine keeps_cut (s0 := s0) (x := x) ?_ ?_; on_goal 1 => subst x)
    | (fail_if_no_progress extract_lets +onlyGivenNames x)
    | with_reducible (first | apply keeps_State_beginAt | apply keeps_ctlAccepted | apply keeps_ctlReplies | apply keeps_ctlPuts | apply keepsO_next | apply keepsO_ite | apply keeps_ite | apply keeps_ite2 | (refine keeps_eq2 (by with_reducible assumption) ?_) | (refine keeps_eq22 (by with_reducible assumption) ?_))
    | simp -zeta only [keeps_mk, keepsC_fold, id_eq] | split

end Sys2Proof.Machine
end

