-- ==== Sys2Proof/Laws/State.lean ====
section
/-!
SUPPORT. What each plain update of the state leaves as it was, field by field.
-/
namespace Sys2Proof.Machine

@[simp] theorem State.setReg_pending (s : State) (a : Nat) (v : Word) : (s.setReg a v).pending = s.pending := rfl
@[simp] theorem State.setReg_now (s : State) (a : Nat) (v : Word) : (s.setReg a v).now = s.now := rfl
@[simp] theorem State.setReg_free (s : State) (a : Nat) (v : Word) : (s.setReg a v).free = s.free := rfl
@[simp] theorem State.setReg_out (s : State) (a : Nat) (v : Word) : (s.setReg a v).out = s.out := rfl
@[simp] theorem State.setReg_mem (s : State) (a : Nat) (v : Word) : (s.setReg a v).mem = s.mem := rfl
@[simp] theorem State.setReg_latches (s : State) (a : Nat) (v : Word) : (s.setReg a v).latches = s.latches := rfl
@[simp] theorem State.setReg_clock (s : State) (a : Nat) (v : Word) : (s.setReg a v).clock = s.clock := rfl
@[simp] theorem State.setReg_holds (s : State) (a : Nat) (v : Word) : (s.setReg a v).holds = s.holds := rfl
@[simp] theorem State.setReg_dev (s : State) (a : Nat) (v : Word) : (s.setReg a v).dev = s.dev := rfl
@[simp] theorem State.setReg_role (s : State) (a : Nat) (v : Word) : (s.setReg a v).role = s.role := rfl
@[simp] theorem State.setReg_swapDue (s : State) (a : Nat) (v : Word) : (s.setReg a v).swapDue = s.swapDue := rfl
@[simp] theorem State.setReg_tb0 (s : State) (a : Nat) (v : Word) : (s.setReg a v).tb0 = s.tb0 := rfl
@[simp] theorem State.setReg_tb1 (s : State) (a : Nat) (v : Word) : (s.setReg a v).tb1 = s.tb1 := rfl
@[simp] theorem State.setReg_tb2 (s : State) (a : Nat) (v : Word) : (s.setReg a v).tb2 = s.tb2 := rfl
@[simp] theorem State.setReg_tb3 (s : State) (a : Nat) (v : Word) : (s.setReg a v).tb3 = s.tb3 := rfl
@[simp] theorem State.setReg_show_ (s : State) (a : Nat) (v : Word) : (s.setReg a v).show_ = s.show_ := rfl
@[simp] theorem State.setReg_tg (s : State) (a : Nat) (v : Word) : (s.setReg a v).tg = s.tg := rfl
@[simp] theorem State.setReg_peri (s : State) (a : Nat) (v : Word) : (s.setReg a v).peri = s.peri := rfl
@[simp] theorem State.setReg_a (s : State) (a : Nat) (v : Word) : (s.setReg a v).a = s.a := rfl
@[simp] theorem State.setReg_b (s : State) (a : Nat) (v : Word) : (s.setReg a v).b = s.b := rfl
@[simp] theorem State.setReg_logFirst (s : State) (a : Nat) (v : Word) : (s.setReg a v).logFirst = s.logFirst := rfl
@[simp] theorem State.setReg_logCycle (s : State) (a : Nat) (v : Word) : (s.setReg a v).logCycle = s.logCycle := rfl
@[simp] theorem State.setReg_once (s : State) (a : Nat) (v : Word) : (s.setReg a v).once = s.once := rfl
@[simp] theorem State.setReg_msixEn (s : State) (a : Nat) (v : Word) : (s.setReg a v).msixEn = s.msixEn := rfl
@[simp] theorem State.setReg_bme (s : State) (a : Nat) (v : Word) : (s.setReg a v).bme = s.bme := rfl
@[simp] theorem State.setReg_funcMask (s : State) (a : Nat) (v : Word) : (s.setReg a v).funcMask = s.funcMask := rfl
@[simp] theorem State.setReg_perst (s : State) (a : Nat) (v : Word) : (s.setReg a v).perst = s.perst := rfl
@[simp] theorem State.setReg_mainOff (s : State) (a : Nat) (v : Word) : (s.setReg a v).mainOff = s.mainOff := rfl
@[simp] theorem State.setReg_heldEvents (s : State) (a : Nat) (v : Word) : (s.setReg a v).heldEvents = s.heldEvents := rfl
@[simp] theorem State.setReg_pwr (s : State) (a : Nat) (v : Word) : (s.setReg a v).pwr = s.pwr := rfl
@[simp] theorem State.setReg_fullDue (s : State) (a : Nat) (v : Word) : (s.setReg a v).fullDue = s.fullDue := rfl
@[simp] theorem State.setReg_flash (s : State) (a : Nat) (v : Word) : (s.setReg a v).flash = s.flash := rfl
@[simp] theorem State.setReg_boot (s : State) (a : Nat) (v : Word) : (s.setReg a v).boot = s.boot := rfl
@[simp] theorem State.setReg_rz (s : State) (a : Nat) (v : Word) : (s.setReg a v).rz = s.rz := rfl
@[simp] theorem State.setReg_mbxA (s : State) (a : Nat) (v : Word) : (s.setReg a v).mbxA = s.mbxA := rfl
@[simp] theorem State.setReg_mbxB (s : State) (a : Nat) (v : Word) : (s.setReg a v).mbxB = s.mbxB := rfl
@[simp] theorem State.setReg_cal (s : State) (a : Nat) (v : Word) : (s.setReg a v).cal = s.cal := rfl

@[simp] theorem State.wrB_pending (s : State) (a : Nat) (v : Byte) : (s.wrB a v).pending = s.pending := rfl
@[simp] theorem State.wrB_now (s : State) (a : Nat) (v : Byte) : (s.wrB a v).now = s.now := rfl
@[simp] theorem State.wrB_free (s : State) (a : Nat) (v : Byte) : (s.wrB a v).free = s.free := rfl
@[simp] theorem State.wrB_out (s : State) (a : Nat) (v : Byte) : (s.wrB a v).out = s.out := rfl
@[simp] theorem State.wrB_regs (s : State) (a : Nat) (v : Byte) : (s.wrB a v).regs = s.regs := rfl
@[simp] theorem State.wrB_latches (s : State) (a : Nat) (v : Byte) : (s.wrB a v).latches = s.latches := rfl
@[simp] theorem State.wrB_clock (s : State) (a : Nat) (v : Byte) : (s.wrB a v).clock = s.clock := rfl
@[simp] theorem State.wrB_holds (s : State) (a : Nat) (v : Byte) : (s.wrB a v).holds = s.holds := rfl
@[simp] theorem State.wrB_dev (s : State) (a : Nat) (v : Byte) : (s.wrB a v).dev = s.dev := rfl
@[simp] theorem State.wrB_role (s : State) (a : Nat) (v : Byte) : (s.wrB a v).role = s.role := rfl
@[simp] theorem State.wrB_swapDue (s : State) (a : Nat) (v : Byte) : (s.wrB a v).swapDue = s.swapDue := rfl
@[simp] theorem State.wrB_tb0 (s : State) (a : Nat) (v : Byte) : (s.wrB a v).tb0 = s.tb0 := rfl
@[simp] theorem State.wrB_tb1 (s : State) (a : Nat) (v : Byte) : (s.wrB a v).tb1 = s.tb1 := rfl
@[simp] theorem State.wrB_tb2 (s : State) (a : Nat) (v : Byte) : (s.wrB a v).tb2 = s.tb2 := rfl
@[simp] theorem State.wrB_tb3 (s : State) (a : Nat) (v : Byte) : (s.wrB a v).tb3 = s.tb3 := rfl
@[simp] theorem State.wrB_show_ (s : State) (a : Nat) (v : Byte) : (s.wrB a v).show_ = s.show_ := rfl
@[simp] theorem State.wrB_tg (s : State) (a : Nat) (v : Byte) : (s.wrB a v).tg = s.tg := rfl
@[simp] theorem State.wrB_peri (s : State) (a : Nat) (v : Byte) : (s.wrB a v).peri = s.peri := rfl
@[simp] theorem State.wrB_a (s : State) (a : Nat) (v : Byte) : (s.wrB a v).a = s.a := rfl
@[simp] theorem State.wrB_b (s : State) (a : Nat) (v : Byte) : (s.wrB a v).b = s.b := rfl
@[simp] theorem State.wrB_logFirst (s : State) (a : Nat) (v : Byte) : (s.wrB a v).logFirst = s.logFirst := rfl
@[simp] theorem State.wrB_logCycle (s : State) (a : Nat) (v : Byte) : (s.wrB a v).logCycle = s.logCycle := rfl
@[simp] theorem State.wrB_once (s : State) (a : Nat) (v : Byte) : (s.wrB a v).once = s.once := rfl
@[simp] theorem State.wrB_msixEn (s : State) (a : Nat) (v : Byte) : (s.wrB a v).msixEn = s.msixEn := rfl
@[simp] theorem State.wrB_bme (s : State) (a : Nat) (v : Byte) : (s.wrB a v).bme = s.bme := rfl
@[simp] theorem State.wrB_funcMask (s : State) (a : Nat) (v : Byte) : (s.wrB a v).funcMask = s.funcMask := rfl
@[simp] theorem State.wrB_perst (s : State) (a : Nat) (v : Byte) : (s.wrB a v).perst = s.perst := rfl
@[simp] theorem State.wrB_mainOff (s : State) (a : Nat) (v : Byte) : (s.wrB a v).mainOff = s.mainOff := rfl
@[simp] theorem State.wrB_heldEvents (s : State) (a : Nat) (v : Byte) : (s.wrB a v).heldEvents = s.heldEvents := rfl
@[simp] theorem State.wrB_pwr (s : State) (a : Nat) (v : Byte) : (s.wrB a v).pwr = s.pwr := rfl
@[simp] theorem State.wrB_fullDue (s : State) (a : Nat) (v : Byte) : (s.wrB a v).fullDue = s.fullDue := rfl
@[simp] theorem State.wrB_flash (s : State) (a : Nat) (v : Byte) : (s.wrB a v).flash = s.flash := rfl
@[simp] theorem State.wrB_boot (s : State) (a : Nat) (v : Byte) : (s.wrB a v).boot = s.boot := rfl
@[simp] theorem State.wrB_rz (s : State) (a : Nat) (v : Byte) : (s.wrB a v).rz = s.rz := rfl
@[simp] theorem State.wrB_mbxA (s : State) (a : Nat) (v : Byte) : (s.wrB a v).mbxA = s.mbxA := rfl
@[simp] theorem State.wrB_mbxB (s : State) (a : Nat) (v : Byte) : (s.wrB a v).mbxB = s.mbxB := rfl
@[simp] theorem State.wrB_cal (s : State) (a : Nat) (v : Byte) : (s.wrB a v).cal = s.cal := rfl

@[simp] theorem State.emit_pending (s : State) (o : Out) : (s.emit o).pending = s.pending := rfl
@[simp] theorem State.emit_now (s : State) (o : Out) : (s.emit o).now = s.now := rfl
@[simp] theorem State.emit_free (s : State) (o : Out) : (s.emit o).free = s.free := rfl
@[simp] theorem State.emit_regs (s : State) (o : Out) : (s.emit o).regs = s.regs := rfl
@[simp] theorem State.emit_mem (s : State) (o : Out) : (s.emit o).mem = s.mem := rfl
@[simp] theorem State.emit_latches (s : State) (o : Out) : (s.emit o).latches = s.latches := rfl
@[simp] theorem State.emit_clock (s : State) (o : Out) : (s.emit o).clock = s.clock := rfl
@[simp] theorem State.emit_holds (s : State) (o : Out) : (s.emit o).holds = s.holds := rfl
@[simp] theorem State.emit_dev (s : State) (o : Out) : (s.emit o).dev = s.dev := rfl
@[simp] theorem State.emit_role (s : State) (o : Out) : (s.emit o).role = s.role := rfl
@[simp] theorem State.emit_swapDue (s : State) (o : Out) : (s.emit o).swapDue = s.swapDue := rfl
@[simp] theorem State.emit_tb0 (s : State) (o : Out) : (s.emit o).tb0 = s.tb0 := rfl
@[simp] theorem State.emit_tb1 (s : State) (o : Out) : (s.emit o).tb1 = s.tb1 := rfl
@[simp] theorem State.emit_tb2 (s : State) (o : Out) : (s.emit o).tb2 = s.tb2 := rfl
@[simp] theorem State.emit_tb3 (s : State) (o : Out) : (s.emit o).tb3 = s.tb3 := rfl
@[simp] theorem State.emit_show_ (s : State) (o : Out) : (s.emit o).show_ = s.show_ := rfl
@[simp] theorem State.emit_tg (s : State) (o : Out) : (s.emit o).tg = s.tg := rfl
@[simp] theorem State.emit_peri (s : State) (o : Out) : (s.emit o).peri = s.peri := rfl
@[simp] theorem State.emit_a (s : State) (o : Out) : (s.emit o).a = s.a := rfl
@[simp] theorem State.emit_b (s : State) (o : Out) : (s.emit o).b = s.b := rfl
@[simp] theorem State.emit_logFirst (s : State) (o : Out) : (s.emit o).logFirst = s.logFirst := rfl
@[simp] theorem State.emit_logCycle (s : State) (o : Out) : (s.emit o).logCycle = s.logCycle := rfl
@[simp] theorem State.emit_once (s : State) (o : Out) : (s.emit o).once = s.once := rfl
@[simp] theorem State.emit_msixEn (s : State) (o : Out) : (s.emit o).msixEn = s.msixEn := rfl
@[simp] theorem State.emit_bme (s : State) (o : Out) : (s.emit o).bme = s.bme := rfl
@[simp] theorem State.emit_funcMask (s : State) (o : Out) : (s.emit o).funcMask = s.funcMask := rfl
@[simp] theorem State.emit_perst (s : State) (o : Out) : (s.emit o).perst = s.perst := rfl
@[simp] theorem State.emit_mainOff (s : State) (o : Out) : (s.emit o).mainOff = s.mainOff := rfl
@[simp] theorem State.emit_heldEvents (s : State) (o : Out) : (s.emit o).heldEvents = s.heldEvents := rfl
@[simp] theorem State.emit_pwr (s : State) (o : Out) : (s.emit o).pwr = s.pwr := rfl
@[simp] theorem State.emit_fullDue (s : State) (o : Out) : (s.emit o).fullDue = s.fullDue := rfl
@[simp] theorem State.emit_flash (s : State) (o : Out) : (s.emit o).flash = s.flash := rfl
@[simp] theorem State.emit_boot (s : State) (o : Out) : (s.emit o).boot = s.boot := rfl
@[simp] theorem State.emit_rz (s : State) (o : Out) : (s.emit o).rz = s.rz := rfl
@[simp] theorem State.emit_mbxA (s : State) (o : Out) : (s.emit o).mbxA = s.mbxA := rfl
@[simp] theorem State.emit_mbxB (s : State) (o : Out) : (s.emit o).mbxB = s.mbxB := rfl
@[simp] theorem State.emit_cal (s : State) (o : Out) : (s.emit o).cal = s.cal := rfl

@[simp] theorem State.at_pending (s : State) (t : Nat) : (s.at t).pending = s.pending := rfl
@[simp] theorem State.at_free (s : State) (t : Nat) : (s.at t).free = s.free := rfl
@[simp] theorem State.at_out (s : State) (t : Nat) : (s.at t).out = s.out := rfl
@[simp] theorem State.at_regs (s : State) (t : Nat) : (s.at t).regs = s.regs := rfl
@[simp] theorem State.at_mem (s : State) (t : Nat) : (s.at t).mem = s.mem := rfl
@[simp] theorem State.at_latches (s : State) (t : Nat) : (s.at t).latches = s.latches := rfl
@[simp] theorem State.at_holds (s : State) (t : Nat) : (s.at t).holds = s.holds := rfl
@[simp] theorem State.at_dev (s : State) (t : Nat) : (s.at t).dev = s.dev := rfl
@[simp] theorem State.at_role (s : State) (t : Nat) : (s.at t).role = s.role := rfl
@[simp] theorem State.at_swapDue (s : State) (t : Nat) : (s.at t).swapDue = s.swapDue := rfl
@[simp] theorem State.at_tb0 (s : State) (t : Nat) : (s.at t).tb0 = s.tb0 := rfl
@[simp] theorem State.at_tb1 (s : State) (t : Nat) : (s.at t).tb1 = s.tb1 := rfl
@[simp] theorem State.at_tb2 (s : State) (t : Nat) : (s.at t).tb2 = s.tb2 := rfl
@[simp] theorem State.at_tb3 (s : State) (t : Nat) : (s.at t).tb3 = s.tb3 := rfl
@[simp] theorem State.at_show_ (s : State) (t : Nat) : (s.at t).show_ = s.show_ := rfl
@[simp] theorem State.at_tg (s : State) (t : Nat) : (s.at t).tg = s.tg := rfl
@[simp] theorem State.at_peri (s : State) (t : Nat) : (s.at t).peri = s.peri := rfl
@[simp] theorem State.at_a (s : State) (t : Nat) : (s.at t).a = s.a := rfl
@[simp] theorem State.at_b (s : State) (t : Nat) : (s.at t).b = s.b := rfl
@[simp] theorem State.at_logFirst (s : State) (t : Nat) : (s.at t).logFirst = s.logFirst := rfl
@[simp] theorem State.at_logCycle (s : State) (t : Nat) : (s.at t).logCycle = s.logCycle := rfl
@[simp] theorem State.at_once (s : State) (t : Nat) : (s.at t).once = s.once := rfl
@[simp] theorem State.at_msixEn (s : State) (t : Nat) : (s.at t).msixEn = s.msixEn := rfl
@[simp] theorem State.at_bme (s : State) (t : Nat) : (s.at t).bme = s.bme := rfl
@[simp] theorem State.at_funcMask (s : State) (t : Nat) : (s.at t).funcMask = s.funcMask := rfl
@[simp] theorem State.at_perst (s : State) (t : Nat) : (s.at t).perst = s.perst := rfl
@[simp] theorem State.at_mainOff (s : State) (t : Nat) : (s.at t).mainOff = s.mainOff := rfl
@[simp] theorem State.at_heldEvents (s : State) (t : Nat) : (s.at t).heldEvents = s.heldEvents := rfl
@[simp] theorem State.at_pwr (s : State) (t : Nat) : (s.at t).pwr = s.pwr := rfl
@[simp] theorem State.at_fullDue (s : State) (t : Nat) : (s.at t).fullDue = s.fullDue := rfl
@[simp] theorem State.at_flash (s : State) (t : Nat) : (s.at t).flash = s.flash := rfl
@[simp] theorem State.at_boot (s : State) (t : Nat) : (s.at t).boot = s.boot := rfl
@[simp] theorem State.at_rz (s : State) (t : Nat) : (s.at t).rz = s.rz := rfl
@[simp] theorem State.at_mbxA (s : State) (t : Nat) : (s.at t).mbxA = s.mbxA := rfl
@[simp] theorem State.at_mbxB (s : State) (t : Nat) : (s.at t).mbxB = s.mbxB := rfl
@[simp] theorem State.at_cal (s : State) (t : Nat) : (s.at t).cal = s.cal := rfl

@[simp] theorem State.begin_pending (s : State) : (s.begin).pending = s.pending := rfl
@[simp] theorem State.begin_now (s : State) : (s.begin).now = s.now := rfl
@[simp] theorem State.begin_free (s : State) : (s.begin).free = s.free := rfl
@[simp] theorem State.begin_regs (s : State) : (s.begin).regs = s.regs := rfl
@[simp] theorem State.begin_mem (s : State) : (s.begin).mem = s.mem := rfl
@[simp] theorem State.begin_latches (s : State) : (s.begin).latches = s.latches := rfl
@[simp] theorem State.begin_clock (s : State) : (s.begin).clock = s.clock := rfl
@[simp] theorem State.begin_holds (s : State) : (s.begin).holds = s.holds := rfl
@[simp] theorem State.begin_dev (s : State) : (s.begin).dev = s.dev := rfl
@[simp] theorem State.begin_role (s : State) : (s.begin).role = s.role := rfl
@[simp] theorem State.begin_swapDue (s : State) : (s.begin).swapDue = s.swapDue := rfl
@[simp] theorem State.begin_tb0 (s : State) : (s.begin).tb0 = s.tb0 := rfl
@[simp] theorem State.begin_tb1 (s : State) : (s.begin).tb1 = s.tb1 := rfl
@[simp] theorem State.begin_tb2 (s : State) : (s.begin).tb2 = s.tb2 := rfl
@[simp] theorem State.begin_tb3 (s : State) : (s.begin).tb3 = s.tb3 := rfl
@[simp] theorem State.begin_show_ (s : State) : (s.begin).show_ = s.show_ := rfl
@[simp] theorem State.begin_tg (s : State) : (s.begin).tg = s.tg := rfl
@[simp] theorem State.begin_peri (s : State) : (s.begin).peri = s.peri := rfl
@[simp] theorem State.begin_a (s : State) : (s.begin).a = s.a := rfl
@[simp] theorem State.begin_b (s : State) : (s.begin).b = s.b := rfl
@[simp] theorem State.begin_logFirst (s : State) : (s.begin).logFirst = s.logFirst := rfl
@[simp] theorem State.begin_logCycle (s : State) : (s.begin).logCycle = s.logCycle := rfl
@[simp] theorem State.begin_once (s : State) : (s.begin).once = s.once := rfl
@[simp] theorem State.begin_msixEn (s : State) : (s.begin).msixEn = s.msixEn := rfl
@[simp] theorem State.begin_bme (s : State) : (s.begin).bme = s.bme := rfl
@[simp] theorem State.begin_funcMask (s : State) : (s.begin).funcMask = s.funcMask := rfl
@[simp] theorem State.begin_perst (s : State) : (s.begin).perst = s.perst := rfl
@[simp] theorem State.begin_mainOff (s : State) : (s.begin).mainOff = s.mainOff := rfl
@[simp] theorem State.begin_heldEvents (s : State) : (s.begin).heldEvents = s.heldEvents := rfl
@[simp] theorem State.begin_pwr (s : State) : (s.begin).pwr = s.pwr := rfl
@[simp] theorem State.begin_fullDue (s : State) : (s.begin).fullDue = s.fullDue := rfl
@[simp] theorem State.begin_flash (s : State) : (s.begin).flash = s.flash := rfl
@[simp] theorem State.begin_boot (s : State) : (s.begin).boot = s.boot := rfl
@[simp] theorem State.begin_rz (s : State) : (s.begin).rz = s.rz := rfl
@[simp] theorem State.begin_mbxA (s : State) : (s.begin).mbxA = s.mbxA := rfl
@[simp] theorem State.begin_mbxB (s : State) : (s.begin).mbxB = s.mbxB := rfl
@[simp] theorem State.begin_cal (s : State) : (s.begin).cal = s.cal := rfl

@[simp] theorem State.beginAt_pending (s : State) (t : Nat) : (s.beginAt t).pending = s.pending := rfl
@[simp] theorem State.beginAt_free (s : State) (t : Nat) : (s.beginAt t).free = s.free := rfl
@[simp] theorem State.beginAt_regs (s : State) (t : Nat) : (s.beginAt t).regs = s.regs := rfl
@[simp] theorem State.beginAt_mem (s : State) (t : Nat) : (s.beginAt t).mem = s.mem := rfl
@[simp] theorem State.beginAt_latches (s : State) (t : Nat) : (s.beginAt t).latches = s.latches := rfl
@[simp] theorem State.beginAt_holds (s : State) (t : Nat) : (s.beginAt t).holds = s.holds := rfl
@[simp] theorem State.beginAt_dev (s : State) (t : Nat) : (s.beginAt t).dev = s.dev := rfl
@[simp] theorem State.beginAt_role (s : State) (t : Nat) : (s.beginAt t).role = s.role := rfl
@[simp] theorem State.beginAt_swapDue (s : State) (t : Nat) : (s.beginAt t).swapDue = s.swapDue := rfl
@[simp] theorem State.beginAt_tb0 (s : State) (t : Nat) : (s.beginAt t).tb0 = s.tb0 := rfl
@[simp] theorem State.beginAt_tb1 (s : State) (t : Nat) : (s.beginAt t).tb1 = s.tb1 := rfl
@[simp] theorem State.beginAt_tb2 (s : State) (t : Nat) : (s.beginAt t).tb2 = s.tb2 := rfl
@[simp] theorem State.beginAt_tb3 (s : State) (t : Nat) : (s.beginAt t).tb3 = s.tb3 := rfl
@[simp] theorem State.beginAt_show_ (s : State) (t : Nat) : (s.beginAt t).show_ = s.show_ := rfl
@[simp] theorem State.beginAt_tg (s : State) (t : Nat) : (s.beginAt t).tg = s.tg := rfl
@[simp] theorem State.beginAt_peri (s : State) (t : Nat) : (s.beginAt t).peri = s.peri := rfl
@[simp] theorem State.beginAt_a (s : State) (t : Nat) : (s.beginAt t).a = s.a := rfl
@[simp] theorem State.beginAt_b (s : State) (t : Nat) : (s.beginAt t).b = s.b := rfl
@[simp] theorem State.beginAt_logFirst (s : State) (t : Nat) : (s.beginAt t).logFirst = s.logFirst := rfl
@[simp] theorem State.beginAt_logCycle (s : State) (t : Nat) : (s.beginAt t).logCycle = s.logCycle := rfl
@[simp] theorem State.beginAt_once (s : State) (t : Nat) : (s.beginAt t).once = s.once := rfl
@[simp] theorem State.beginAt_msixEn (s : State) (t : Nat) : (s.beginAt t).msixEn = s.msixEn := rfl
@[simp] theorem State.beginAt_bme (s : State) (t : Nat) : (s.beginAt t).bme = s.bme := rfl
@[simp] theorem State.beginAt_funcMask (s : State) (t : Nat) : (s.beginAt t).funcMask = s.funcMask := rfl
@[simp] theorem State.beginAt_perst (s : State) (t : Nat) : (s.beginAt t).perst = s.perst := rfl
@[simp] theorem State.beginAt_mainOff (s : State) (t : Nat) : (s.beginAt t).mainOff = s.mainOff := rfl
@[simp] theorem State.beginAt_heldEvents (s : State) (t : Nat) : (s.beginAt t).heldEvents = s.heldEvents := rfl
@[simp] theorem State.beginAt_pwr (s : State) (t : Nat) : (s.beginAt t).pwr = s.pwr := rfl
@[simp] theorem State.beginAt_fullDue (s : State) (t : Nat) : (s.beginAt t).fullDue = s.fullDue := rfl
@[simp] theorem State.beginAt_flash (s : State) (t : Nat) : (s.beginAt t).flash = s.flash := rfl
@[simp] theorem State.beginAt_boot (s : State) (t : Nat) : (s.beginAt t).boot = s.boot := rfl
@[simp] theorem State.beginAt_rz (s : State) (t : Nat) : (s.beginAt t).rz = s.rz := rfl
@[simp] theorem State.beginAt_mbxA (s : State) (t : Nat) : (s.beginAt t).mbxA = s.mbxA := rfl
@[simp] theorem State.beginAt_mbxB (s : State) (t : Nat) : (s.beginAt t).mbxB = s.mbxB := rfl
@[simp] theorem State.beginAt_cal (s : State) (t : Nat) : (s.beginAt t).cal = s.cal := rfl

@[simp] theorem State.at_clock (s : State) (t : Nat) : (s.at t).clock = if s.now < t then s.regs else s.clock := rfl
@[simp] theorem State.beginAt_clock (s : State) (t : Nat) : (s.beginAt t).clock = if s.now < t then s.regs else s.clock := rfl
@[simp] theorem State.at_now (s : State) (t : Nat) : (s.at t).now = max s.now t := rfl
@[simp] theorem State.beginAt_now (s : State) (t : Nat) : (s.beginAt t).now = max s.now t := rfl
@[simp] theorem State.beginAt_out (s : State) (t : Nat) : (s.beginAt t).out = [] := rfl
@[simp] theorem State.begin_out (s : State) : s.begin.out = [] := rfl

/-- A field write changes registers alone. -/
theorem State.sf_eq (s : State) (a : Nat) (f : Fld) (v : Nat) : s.sf a f v = { s with regs := (s.sf a f v).regs } := by
  unfold State.sf
  simp only []
  split <;> rfl

@[simp] theorem State.sf_pending (s : State) (a : Nat) (f : Fld) (v : Nat) : (s.sf a f v).pending = s.pending := by rw [State.sf_eq]
@[simp] theorem State.sf_now (s : State) (a : Nat) (f : Fld) (v : Nat) : (s.sf a f v).now = s.now := by rw [State.sf_eq]
@[simp] theorem State.sf_free (s : State) (a : Nat) (f : Fld) (v : Nat) : (s.sf a f v).free = s.free := by rw [State.sf_eq]
@[simp] theorem State.sf_out (s : State) (a : Nat) (f : Fld) (v : Nat) : (s.sf a f v).out = s.out := by rw [State.sf_eq]
@[simp] theorem State.sf_mem (s : State) (a : Nat) (f : Fld) (v : Nat) : (s.sf a f v).mem = s.mem := by rw [State.sf_eq]
@[simp] theorem State.sf_latches (s : State) (a : Nat) (f : Fld) (v : Nat) : (s.sf a f v).latches = s.latches := by rw [State.sf_eq]
@[simp] theorem State.sf_clock (s : State) (a : Nat) (f : Fld) (v : Nat) : (s.sf a f v).clock = s.clock := by rw [State.sf_eq]
@[simp] theorem State.sf_holds (s : State) (a : Nat) (f : Fld) (v : Nat) : (s.sf a f v).holds = s.holds := by rw [State.sf_eq]
@[simp] theorem State.sf_dev (s : State) (a : Nat) (f : Fld) (v : Nat) : (s.sf a f v).dev = s.dev := by rw [State.sf_eq]
@[simp] theorem State.sf_role (s : State) (a : Nat) (f : Fld) (v : Nat) : (s.sf a f v).role = s.role := by rw [State.sf_eq]
@[simp] theorem State.sf_swapDue (s : State) (a : Nat) (f : Fld) (v : Nat) : (s.sf a f v).swapDue = s.swapDue := by rw [State.sf_eq]
@[simp] theorem State.sf_tb0 (s : State) (a : Nat) (f : Fld) (v : Nat) : (s.sf a f v).tb0 = s.tb0 := by rw [State.sf_eq]
@[simp] theorem State.sf_tb1 (s : State) (a : Nat) (f : Fld) (v : Nat) : (s.sf a f v).tb1 = s.tb1 := by rw [State.sf_eq]
@[simp] theorem State.sf_tb2 (s : State) (a : Nat) (f : Fld) (v : Nat) : (s.sf a f v).tb2 = s.tb2 := by rw [State.sf_eq]
@[simp] theorem State.sf_tb3 (s : State) (a : Nat) (f : Fld) (v : Nat) : (s.sf a f v).tb3 = s.tb3 := by rw [State.sf_eq]
@[simp] theorem State.sf_show_ (s : State) (a : Nat) (f : Fld) (v : Nat) : (s.sf a f v).show_ = s.show_ := by rw [State.sf_eq]
@[simp] theorem State.sf_tg (s : State) (a : Nat) (f : Fld) (v : Nat) : (s.sf a f v).tg = s.tg := by rw [State.sf_eq]
@[simp] theorem State.sf_peri (s : State) (a : Nat) (f : Fld) (v : Nat) : (s.sf a f v).peri = s.peri := by rw [State.sf_eq]
@[simp] theorem State.sf_a (s : State) (a : Nat) (f : Fld) (v : Nat) : (s.sf a f v).a = s.a := by rw [State.sf_eq]
@[simp] theorem State.sf_b (s : State) (a : Nat) (f : Fld) (v : Nat) : (s.sf a f v).b = s.b := by rw [State.sf_eq]
@[simp] theorem State.sf_logFirst (s : State) (a : Nat) (f : Fld) (v : Nat) : (s.sf a f v).logFirst = s.logFirst := by rw [State.sf_eq]
@[simp] theorem State.sf_logCycle (s : State) (a : Nat) (f : Fld) (v : Nat) : (s.sf a f v).logCycle = s.logCycle := by rw [State.sf_eq]
@[simp] theorem State.sf_once (s : State) (a : Nat) (f : Fld) (v : Nat) : (s.sf a f v).once = s.once := by rw [State.sf_eq]
@[simp] theorem State.sf_msixEn (s : State) (a : Nat) (f : Fld) (v : Nat) : (s.sf a f v).msixEn = s.msixEn := by rw [State.sf_eq]
@[simp] theorem State.sf_bme (s : State) (a : Nat) (f : Fld) (v : Nat) : (s.sf a f v).bme = s.bme := by rw [State.sf_eq]
@[simp] theorem State.sf_funcMask (s : State) (a : Nat) (f : Fld) (v : Nat) : (s.sf a f v).funcMask = s.funcMask := by rw [State.sf_eq]
@[simp] theorem State.sf_perst (s : State) (a : Nat) (f : Fld) (v : Nat) : (s.sf a f v).perst = s.perst := by rw [State.sf_eq]
@[simp] theorem State.sf_mainOff (s : State) (a : Nat) (f : Fld) (v : Nat) : (s.sf a f v).mainOff = s.mainOff := by rw [State.sf_eq]
@[simp] theorem State.sf_heldEvents (s : State) (a : Nat) (f : Fld) (v : Nat) : (s.sf a f v).heldEvents = s.heldEvents := by rw [State.sf_eq]
@[simp] theorem State.sf_pwr (s : State) (a : Nat) (f : Fld) (v : Nat) : (s.sf a f v).pwr = s.pwr := by rw [State.sf_eq]
@[simp] theorem State.sf_fullDue (s : State) (a : Nat) (f : Fld) (v : Nat) : (s.sf a f v).fullDue = s.fullDue := by rw [State.sf_eq]
@[simp] theorem State.sf_flash (s : State) (a : Nat) (f : Fld) (v : Nat) : (s.sf a f v).flash = s.flash := by rw [State.sf_eq]
@[simp] theorem State.sf_boot (s : State) (a : Nat) (f : Fld) (v : Nat) : (s.sf a f v).boot = s.boot := by rw [State.sf_eq]
@[simp] theorem State.sf_rz (s : State) (a : Nat) (f : Fld) (v : Nat) : (s.sf a f v).rz = s.rz := by rw [State.sf_eq]
@[simp] theorem State.sf_mbxA (s : State) (a : Nat) (f : Fld) (v : Nat) : (s.sf a f v).mbxA = s.mbxA := by rw [State.sf_eq]
@[simp] theorem State.sf_mbxB (s : State) (a : Nat) (f : Fld) (v : Nat) : (s.sf a f v).mbxB = s.mbxB := by rw [State.sf_eq]
@[simp] theorem State.sf_cal (s : State) (a : Nat) (f : Fld) (v : Nat) : (s.sf a f v).cal = s.cal := by rw [State.sf_eq]

@[simp] theorem State.wrB_reg (s : State) (a : Nat) (v : Byte) (x : Nat) : (s.wrB a v).reg x = s.reg x := rfl
@[simp] theorem State.emit_reg (s : State) (o : Out) (x : Nat) : (s.emit o).reg x = s.reg x := rfl
@[simp] theorem State.at_reg (s : State) (t : Nat) (x : Nat) : (s.at t).reg x = s.reg x := rfl
@[simp] theorem State.begin_reg (s : State) (x : Nat) : (s.begin).reg x = s.reg x := rfl
@[simp] theorem State.beginAt_reg (s : State) (t : Nat) (x : Nat) : (s.beginAt t).reg x = s.reg x := rfl
@[simp] theorem State.wrB_rf (s : State) (a : Nat) (v : Byte) (x : Nat) (f : Fld) : (s.wrB a v).rf x f = s.rf x f := rfl
@[simp] theorem State.emit_rf (s : State) (o : Out) (x : Nat) (f : Fld) : (s.emit o).rf x f = s.rf x f := rfl
@[simp] theorem State.at_rf (s : State) (t : Nat) (x : Nat) (f : Fld) : (s.at t).rf x f = s.rf x f := rfl
@[simp] theorem State.begin_rf (s : State) (x : Nat) (f : Fld) : (s.begin).rf x f = s.rf x f := rfl
@[simp] theorem State.beginAt_rf (s : State) (t : Nat) (x : Nat) (f : Fld) : (s.beginAt t).rf x f = s.rf x f := rfl
@[simp] theorem State.wrB_rb (s : State) (a : Nat) (v : Byte) (x : Nat) (f : Fld) : (s.wrB a v).rb x f = s.rb x f := rfl
@[simp] theorem State.emit_rb (s : State) (o : Out) (x : Nat) (f : Fld) : (s.emit o).rb x f = s.rb x f := rfl
@[simp] theorem State.at_rb (s : State) (t : Nat) (x : Nat) (f : Fld) : (s.at t).rb x f = s.rb x f := rfl
@[simp] theorem State.begin_rb (s : State) (x : Nat) (f : Fld) : (s.begin).rb x f = s.rb x f := rfl
@[simp] theorem State.beginAt_rb (s : State) (t : Nat) (x : Nat) (f : Fld) : (s.beginAt t).rb x f = s.rb x f := rfl
@[simp] theorem State.wrB_regNat (s : State) (a : Nat) (v : Byte) (x : Nat) (f : Fld) : (s.wrB a v).regNat x f = s.regNat x f := rfl
@[simp] theorem State.emit_regNat (s : State) (o : Out) (x : Nat) (f : Fld) : (s.emit o).regNat x f = s.regNat x f := rfl
@[simp] theorem State.at_regNat (s : State) (t : Nat) (x : Nat) (f : Fld) : (s.at t).regNat x f = s.regNat x f := rfl
@[simp] theorem State.begin_regNat (s : State) (x : Nat) (f : Fld) : (s.begin).regNat x f = s.regNat x f := rfl
@[simp] theorem State.beginAt_regNat (s : State) (t : Nat) (x : Nat) (f : Fld) : (s.beginAt t).regNat x f = s.regNat x f := rfl
@[simp] theorem State.setReg_rdB (s : State) (a : Nat) (v : Word) (x : Nat) : (s.setReg a v).rdB x = s.rdB x := rfl
@[simp] theorem State.emit_rdB (s : State) (o : Out) (x : Nat) : (s.emit o).rdB x = s.rdB x := rfl
@[simp] theorem State.at_rdB (s : State) (t : Nat) (x : Nat) : (s.at t).rdB x = s.rdB x := rfl
@[simp] theorem State.begin_rdB (s : State) (x : Nat) : (s.begin).rdB x = s.rdB x := rfl
@[simp] theorem State.beginAt_rdB (s : State) (t : Nat) (x : Nat) : (s.beginAt t).rdB x = s.rdB x := rfl
@[simp] theorem State.wrB_regsWf (s : State) (a : Nat) (v : Byte) : (s.wrB a v).regsWf = s.regsWf := rfl
@[simp] theorem State.emit_regsWf (s : State) (o : Out) : (s.emit o).regsWf = s.regsWf := rfl
@[simp] theorem State.at_regsWf (s : State) (t : Nat) : (s.at t).regsWf = s.regsWf := rfl
@[simp] theorem State.begin_regsWf (s : State) : (s.begin).regsWf = s.regsWf := rfl
@[simp] theorem State.beginAt_regsWf (s : State) (t : Nat) : (s.beginAt t).regsWf = s.regsWf := rfl
@[simp] theorem State.setReg_roleOf (s : State) (a : Nat) (v : Word) (w : Twin) : (s.setReg a v).roleOf w = s.roleOf w := by cases w <;> rfl
@[simp] theorem State.wrB_roleOf (s : State) (a : Nat) (v : Byte) (w : Twin) : (s.wrB a v).roleOf w = s.roleOf w := by cases w <;> rfl
@[simp] theorem State.emit_roleOf (s : State) (o : Out) (w : Twin) : (s.emit o).roleOf w = s.roleOf w := by cases w <;> rfl
@[simp] theorem State.at_roleOf (s : State) (t : Nat) (w : Twin) : (s.at t).roleOf w = s.roleOf w := by cases w <;> rfl
@[simp] theorem State.begin_roleOf (s : State) (w : Twin) : (s.begin).roleOf w = s.roleOf w := by cases w <;> rfl
@[simp] theorem State.beginAt_roleOf (s : State) (t : Nat) (w : Twin) : (s.beginAt t).roleOf w = s.roleOf w := by cases w <;> rfl
@[simp] theorem State.setReg_active (s : State) (a : Nat) (v : Word) : (s.setReg a v).active = s.active := rfl
@[simp] theorem State.wrB_active (s : State) (a : Nat) (v : Byte) : (s.wrB a v).active = s.active := rfl
@[simp] theorem State.emit_active (s : State) (o : Out) : (s.emit o).active = s.active := rfl
@[simp] theorem State.at_active (s : State) (t : Nat) : (s.at t).active = s.active := rfl
@[simp] theorem State.begin_active (s : State) : (s.begin).active = s.active := rfl
@[simp] theorem State.beginAt_active (s : State) (t : Nat) : (s.beginAt t).active = s.active := rfl
@[simp] theorem State.setReg_standby (s : State) (a : Nat) (v : Word) : (s.setReg a v).standby = s.standby := rfl
@[simp] theorem State.wrB_standby (s : State) (a : Nat) (v : Byte) : (s.wrB a v).standby = s.standby := rfl
@[simp] theorem State.emit_standby (s : State) (o : Out) : (s.emit o).standby = s.standby := rfl
@[simp] theorem State.at_standby (s : State) (t : Nat) : (s.at t).standby = s.standby := rfl
@[simp] theorem State.begin_standby (s : State) : (s.begin).standby = s.standby := rfl
@[simp] theorem State.beginAt_standby (s : State) (t : Nat) : (s.beginAt t).standby = s.standby := rfl
@[simp] theorem State.setReg_tw (s : State) (a : Nat) (v : Word) (w : Twin) : (s.setReg a v).tw w = s.tw w := by cases w <;> rfl
@[simp] theorem State.wrB_tw (s : State) (a : Nat) (v : Byte) (w : Twin) : (s.wrB a v).tw w = s.tw w := by cases w <;> rfl
@[simp] theorem State.emit_tw (s : State) (o : Out) (w : Twin) : (s.emit o).tw w = s.tw w := by cases w <;> rfl
@[simp] theorem State.at_tw (s : State) (t : Nat) (w : Twin) : (s.at t).tw w = s.tw w := by cases w <;> rfl
@[simp] theorem State.begin_tw (s : State) (w : Twin) : (s.begin).tw w = s.tw w := by cases w <;> rfl
@[simp] theorem State.beginAt_tw (s : State) (t : Nat) (w : Twin) : (s.beginAt t).tw w = s.tw w := by cases w <;> rfl
@[simp] theorem State.setReg_computes (s : State) (a : Nat) (v : Word) (w : Twin) : (s.setReg a v).computes w = s.computes w := by cases w <;> rfl
@[simp] theorem State.wrB_computes (s : State) (a : Nat) (v : Byte) (w : Twin) : (s.wrB a v).computes w = s.computes w := by cases w <;> rfl
@[simp] theorem State.emit_computes (s : State) (o : Out) (w : Twin) : (s.emit o).computes w = s.computes w := by cases w <;> rfl
@[simp] theorem State.at_computes (s : State) (t : Nat) (w : Twin) : (s.at t).computes w = s.computes w := by cases w <;> rfl
@[simp] theorem State.begin_computes (s : State) (w : Twin) : (s.begin).computes w = s.computes w := by cases w <;> rfl
@[simp] theorem State.beginAt_computes (s : State) (t : Nat) (w : Twin) : (s.beginAt t).computes w = s.computes w := by cases w <;> rfl

end Sys2Proof.Machine
end

