-- ==== Sys2Proof/Laws/Regs.lean ====
section
/-!
SUPPORT. Fields of registers: what a field reads after a write of it, of another field of its register, and of another register.
-/
namespace Sys2Proof.Machine

theorem Fld.pow_split (f : Fld) (h : f.lo ≤ f.hi) : 2 ^ (f.hi + 1) = 2 ^ f.lo * 2 ^ (f.hi - f.lo + 1) := by
  rw [← Nat.pow_add]; congr 1; omega

/-- The bits above, of and below a field after it is put. -/
theorem putFld_eq (old v : Nat) (f : Fld) :
    putFld old f v = old / 2 ^ (f.hi + 1) * 2 ^ (f.hi + 1) + v % 2 ^ (f.hi - f.lo + 1) * 2 ^ f.lo + old % 2 ^ f.lo := rfl

theorem putFld_get (old v : Nat) (f : Fld) (h : f.lo ≤ f.hi) :
    putFld old f v / 2 ^ f.lo % 2 ^ (f.hi - f.lo + 1) = v % 2 ^ (f.hi - f.lo + 1) := by
  rw [putFld_eq, Fld.pow_split f h]
  have h0 : 0 < 2 ^ f.lo := Nat.two_pow_pos _
  rw [show old / (2 ^ f.lo * 2 ^ (f.hi - f.lo + 1)) * (2 ^ f.lo * 2 ^ (f.hi - f.lo + 1)) + v % 2 ^ (f.hi - f.lo + 1) * 2 ^ f.lo + old % 2 ^ f.lo
      = old % 2 ^ f.lo + 2 ^ f.lo * (old / (2 ^ f.lo * 2 ^ (f.hi - f.lo + 1)) * 2 ^ (f.hi - f.lo + 1) + v % 2 ^ (f.hi - f.lo + 1)) by ring]
  rw [Nat.add_mul_div_left _ _ h0, Nat.div_eq_of_lt (Nat.mod_lt _ h0), Nat.zero_add, Nat.mul_add_mod', Nat.mod_mod]

/-- A bit of a number after a field is put. -/
theorem putFld_testBit (old v i : Nat) (f : Fld) (h : f.lo ≤ f.hi) :
    (putFld old f v).testBit i = if f.lo ≤ i ∧ i ≤ f.hi then v.testBit (i - f.lo) else old.testBit i := by
  have e : putFld old f v = 2 ^ (f.hi + 1) * (old / 2 ^ (f.hi + 1)) + (2 ^ f.lo * (v % 2 ^ (f.hi - f.lo + 1)) + old % 2 ^ f.lo) := by
    rw [putFld_eq]; ring
  have hlt : 2 ^ f.lo * (v % 2 ^ (f.hi - f.lo + 1)) + old % 2 ^ f.lo < 2 ^ (f.hi + 1) := by
    have h1 : v % 2 ^ (f.hi - f.lo + 1) + 1 ≤ 2 ^ (f.hi - f.lo + 1) := Nat.mod_lt _ (Nat.two_pow_pos _)
    have h2 : old % 2 ^ f.lo < 2 ^ f.lo := Nat.mod_lt _ (Nat.two_pow_pos _)
    rw [Fld.pow_split f h]
    calc 2 ^ f.lo * (v % 2 ^ (f.hi - f.lo + 1)) + old % 2 ^ f.lo < 2 ^ f.lo * (v % 2 ^ (f.hi - f.lo + 1)) + 2 ^ f.lo := by omega
      _ = 2 ^ f.lo * (v % 2 ^ (f.hi - f.lo + 1) + 1) := by ring
      _ ≤ _ := Nat.mul_le_mul_left _ h1
  rw [e, Nat.testBit_two_pow_mul_add _ hlt]
  by_cases hi : i < f.hi + 1
  · rw [if_pos hi, Nat.testBit_two_pow_mul_add _ (Nat.mod_lt _ (Nat.two_pow_pos _))]
    by_cases hl : i < f.lo
    · rw [if_pos hl, if_neg (by omega), Nat.testBit_mod_two_pow]; simp [hl]
    · rw [if_neg hl, if_pos (by omega), Nat.testBit_mod_two_pow]
      have : i - f.lo < f.hi - f.lo + 1 := by omega
      simp [this]
  · rw [if_neg hi, if_neg (by omega), Nat.testBit_div_two_pow]
    congr 1; omega

theorem State.regNat_low (s : State) (a : Nat) (f : Fld) (hf : f.hi < 32) : s.regNat a f = (s.reg a).toNat := by
  simp [State.regNat, show ¬ 32 ≤ f.hi by omega]

theorem State.regsWf_sf {s : State} (h : s.regsWf = true) (a : Nat) (f : Fld) (v : Nat) : (s.sf a f v).regsWf = true := by
  unfold State.sf
  simp only []
  split
  · exact State.regsWf_setReg (State.regsWf_setReg h _ _) _ _
  · exact State.regsWf_setReg h _ _

/-- The register of a field in its low word after the field is written. -/
theorem State.reg_sf_self {s : State} (h : s.regsWf = true) (a : Nat) (f : Fld) (v : Nat) (hf : f.hi < 32) :
    (s.sf a f v).reg a = BitVec.ofNat 32 (putFld (s.reg a).toNat f v) := by
  rw [State.sf_low _ _ _ _ hf, State.reg_setReg_self h, State.regNat_low _ _ _ hf]

/-- Every other register. -/
theorem State.reg_sf_ne {s : State} (h : s.regsWf = true) {a b : Nat} (f : Fld) (v : Nat) (hf : f.hi < 32) (hb : b ≠ a) :
    (s.sf a f v).reg b = s.reg b := by
  rw [State.sf_low _ _ _ _ hf, State.reg_setReg_ne h hb]

theorem putFld_lt (old v : Nat) (f : Fld) (h : f.lo ≤ f.hi) (hf : f.hi < 32) (ho : old < 2 ^ 32) : putFld old f v < 2 ^ 32 := by
  apply Nat.lt_pow_two_of_testBit
  intro i hi
  rw [putFld_testBit _ _ _ _ h, if_neg (by omega)]
  exact Nat.testBit_lt_two_pow (Nat.lt_of_lt_of_le ho (Nat.pow_le_pow_right (by decide) hi))

/-- A field reads as what was written to it. -/
theorem State.rf_sf_self {s : State} (h : s.regsWf = true) (a : Nat) (f : Fld) (v : Nat) (hl : f.lo ≤ f.hi) (hf : f.hi < 32) :
    (s.sf a f v).rf a f = v % 2 ^ (f.hi - f.lo + 1) := by
  unfold State.rf
  rw [State.regNat_low _ _ _ hf, State.reg_sf_self h _ _ _ hf, BitVec.toNat_ofNat,
    Nat.mod_eq_of_lt (putFld_lt _ _ _ hl hf (s.reg a).isLt), putFld_get _ _ _ hl]

/-- A field of another register reads as before. -/
theorem State.rf_sf_ne {s : State} (h : s.regsWf = true) {a b : Nat} (f g : Fld) (v : Nat) (hf : f.hi < 32) (hg : g.hi < 32) (hb : b ≠ a) :
    (s.sf a f v).rf b g = s.rf b g := by
  unfold State.rf
  rw [State.regNat_low _ _ _ hg, State.regNat_low _ _ _ hg, State.reg_sf_ne h _ _ hf hb]

/-- Another field of the same register reads as before. -/
theorem State.rf_sf_other {s : State} (h : s.regsWf = true) (a : Nat) (f g : Fld) (v : Nat) (hl : f.lo ≤ f.hi) (hf : f.hi < 32)
    (hgl : g.lo ≤ g.hi) (hg : g.hi < 32) (hd : g.hi < f.lo ∨ f.hi < g.lo) : (s.sf a f v).rf a g = s.rf a g := by
  unfold State.rf
  rw [State.regNat_low _ _ _ hg, State.regNat_low _ _ _ hg, State.reg_sf_self h _ _ _ hf, BitVec.toNat_ofNat,
    Nat.mod_eq_of_lt (putFld_lt _ _ _ hl hf (s.reg a).isLt)]
  apply Nat.eq_of_testBit_eq
  intro i
  rw [Nat.testBit_mod_two_pow, Nat.testBit_mod_two_pow, Nat.testBit_div_two_pow, Nat.testBit_div_two_pow, putFld_testBit _ _ _ _ hl]
  by_cases hi : i < g.hi - g.lo + 1
  · rw [if_neg (by omega)]
  · simp [hi]

end Sys2Proof.Machine
end

