-- ==== Sys2Proof/WellFormed.lean ====
section
/-!
DEFINITION. Which commands are well formed: operands within the ranges that the spec gives them. The meanings are total: an operand outside
its range has no effect (R8) or is refused as its own rule says.
-/
namespace Sys2Proof

/-- The address of a word. -/
def wordAddr (x : Nat) : Bool := decide (x % 4 = 0)

/-- A word offset that the mirror aperture reaches (Table 1-4). -/
def mirrorOff (off : Nat) : Bool := wordAddr off && decide (off < 0xE000000)

/-- A word offset of a private aperture (Table 1-4). -/
def privOff (off : Nat) : Bool := wordAddr off && decide (off < 0x10000000)

/-- `n` bytes from `off` on lie in BAR2 (R416). -/
def bulkRange (off n : Nat) : Bool := decide (off + n ≤ 0x800000000)

/-- A forwarded write (R22, R26). -/
def Forwarded.wf : Forwarded → Bool
  | .word off _ => mirrorOff off
  | .bulk off bytes => bulkRange off bytes.length

/-- The place of an ECC error (R404, R411, R414). -/
def EccSite.wf : EccSite → Bool
  | .bank _ off => decide (off < 0x100000)
  | .lmem _ off => decide (off < 0x10000)
  | .dram off _ => decide (off < 0x800000000)

/-- A command is well formed. -/
def Instr.wf : Instr → Bool
  | .powerOnReset _ => true
  | .powerOnResetEnd _ => true
  | .resetNAssert _ => true
  | .resetNRelease _ => true
  | .devRst _ _ _ _ => true
  | .ctxRst _ _ _ => true
  | .contextReset => true
  | .rejLoaded _ => true
  | .twinStartComplete _ _ => true
  | .twinStartTimeout => true
  | .mirrorWrite _ _ off _ => mirrorOff off
  | .mirrorTimeout _ _ _ wr => wr.wf
  | .mirrorRead _ _ off => mirrorOff off
  | .notwinRead _ target off => match target with | none => mirrorOff off | some _ => privOff off
  | .deadAcc _ _ _ off => privOff off
  | .bulkWrite _ off bytes => bulkRange off bytes.length
  | .xtwinAcc _ _ _ _ off => privOff off
  | .coreThallusWrite _ _ _ addr _ => wordAddr addr && decide (addr < 0x1010000)
  | .rstSet _ _ _ _ _ => true
  | .rstClear _ _ _ _ => true
  | .isoSet _ _ _ _ _ => true
  | .isoClear _ _ _ _ => true
  | .swap _ _ _ => true
  | .roleSwap => true
  | .outHold _ _ _ => true
  | .outSafe _ _ _ => true
  | .wdogCtlWrite _ _ _ => true
  | .wdogKick _ _ _ => true
  | .wdogExpired => true
  | .tick => true
  | .computeDeadline => true
  | .stripeComplete _ _ stripe => decide (stripe < 256)
  | .patchDone _ _ => true
  | .sliceReady _ _ _ => true
  | .emissionStart _ => true
  | .sorediumLatch => true
  | .frameRecord _ => true
  | .tgenCommit _ _ _ => true
  | .tgenCancel _ _ => true
  | .tgenPhaseWrite _ _ _ => true
  | .tbMeasSubmit _ _ _ _ _ => true
  | .tbMeasInvalid _ _ _ => true
  | .tbMeasNewSrc _ _ _ => true
  | .tbHoldover _ _ => true
  | .tbHoldLong _ => true
  | .tbSlewEnd _ => true
  | .ltcFrame _ _ _ _ _ => true
  | .ltcLoss _ => true
  | .wclkMeasurement _ _ _ => true
  | .tbModeWrite _ _ _ _ => true
  | .tbSet _ _ _ => true
  | .tb3TrimWrite _ _ _ => true
  | .graftGo _ _ => true
  | .graftArmed _ _ => true
  | .graftCancel _ _ => true
  | .graftCatchupDone _ _ => true
  | .netLinkUp _ _ => true
  | .netLinkDown _ _ _ => true
  | .netRxFrame t t0 _ _ _ => decide (t0 ≤ t)
  | .joinReport _ _ _ => true
  | .sacnSrcLoss _ _ => true
  | .sacnSyncLoss _ _ => true
  | .stFlowLoss _ _ _ => true
  | .netRxfree _ _ slot => decide (slot < 65536)
  | .netTxTail _ _ _ _ => true
  | .netTxDone _ _ => true
  | .netWakeMatch _ _ _ _ => true
  | .layerCmt _ _ _ => true
  | .layerRelay _ _ _ => true
  | .layerDamagedClear _ _ _ _ => true
  | .colrCmt _ _ _ => true
  | .colrZoneForce _ _ _ => true
  | .zoneCold _ _ => true
  | .zoneRampEnd _ _ => true
  | .curvScrub _ _ _ => true
  | .curvParityRetry _ _ _ _ => true
  | .strdEnum _ _ _ => true
  | .prnEnum _ => true
  | .enumReply _ _ _ => true
  | .enumCountWaitEnd _ => true
  | .enumEchoTimeout _ => true
  | .prnEnumDone _ _ => true
  | .strdFull _ _ _ => true
  | .prnStatus _ _ slot _ => decide (slot < 64)
  | .prnSlotMiss _ _ slot => decide (slot < 64)
  | .prnUpErr _ _ => true
  | .prnNodeWake _ _ => true
  | .prnUpLock _ _ => true
  | .prnUpLockLoss _ _ => true
  | .holdKeepalive => true
  | .streamAbsent _ _ => true
  | .rdmSubmit _ _ _ => true
  | .rdmRequestStart _ _ _ => true
  | .rdmResponse _ _ _ _ => true
  | .rdmResponseTimeout _ => true
  | .rdmDisc _ _ _ => true
  | .rdmDiscPeriod _ _ => true
  | .rdmDiscDone _ _ _ => true
  | .hlthPost _ _ _ => true
  | .hlthNoReport _ _ fixture => decide (fixture < 262144)
  | .diagVoid _ => true
  | .periBlockClose _ _ _ _ _ _ _ => true
  | .periArbDecide => true
  | .periResume => true
  | .digestCompare _ _ _ => true
  | .healthFlag _ _ _ => true
  | .hbLoss _ _ => true
  | .heartbeat _ _ => true
  | .resyncCopyDone _ => true
  | .resyncFail _ => true
  | .sorusPush _ _ _ => true
  | .sorusRel _ _ _ => true
  | .sorusDone _ _ _ => true
  | .dropPkt _ _ _ => true
  | .winDropPkt _ _ _ => true
  | .sorusPop _ _ _ => true
  | .winHdrPop _ _ _ => true
  | .mirrorPop _ _ _ _ => true
  | .sorusDispatch _ _ => true
  | .sorusPreempt _ _ => true
  | .bankOwnerWrite _ _ _ _ => true
  | .bankStateWrite _ _ _ _ => true
  | .bankGrant _ _ _ => true
  | .bankReady _ _ _ => true
  | .bankAccessFault _ _ _ _ => true
  | .memEccError _ _ site _ => site.wf
  | .bankTestWindow _ _ _ _ => true
  | .bankTestAbort _ _ _ => true
  | .lmemScrub _ _ _ => true
  | .dramScrub _ _ => true
  | .dramAccessDenied _ _ _ _ off => decide (off < 0x800000000)
  | .hostRelay _ _ _ _ => true
  | .mbxWrite _ _ _ word _ => decide (word < 16384)
  | .mbxRead _ _ _ word => decide (word < 16384)
  | .mgmtWrite _ addr _ _ => wordAddr addr && decide (addr < 0x40000000)
  | .mgmtRead _ addr _ => wordAddr addr && decide (addr < 0x40000000)
  | .mgmtTimeout _ => true
  | .mgmtWake _ => true
  | .perst _ _ => true
  | .msixRelease _ _ _ _ => true
  | .flashRead _ _ _ len => decide (len < 0x2000000)
  | .flashProgram _ _ _ len => decide (len < 0x2000000)
  | .flashErase4k _ _ _ => true
  | .flashErase64k _ _ _ => true
  | .flashReadSfdp _ _ _ len => decide (len < 0x2000000)
  | .flashCopy _ _ _ len => decide (len < 0x2000000)
  | .flashCmdDone _ _ => true
  | .flashTimeout _ _ => true
  | .rzOutboundWrite _ => true
  | .rzOutboundRead _ _ addr => wordAddr addr && decide (addr < 0x100000000)
  | .rzLockedRead _ _ _ addr => wordAddr addr && decide (addr < 0x100000000)
  | .rzLockTimeout => true
  | .rzInbound _ _ addr _ => wordAddr addr && decide (addr < 0x100000000)
  | .rzRequest _ _ => true
  | .rzGrantLost _ => true
  | .rzCrossing _ _ => true
  | .rzPhaseTimeout _ => true
  | .rzLinePoll _ _ => true
  | .rzPrefetchExpire _ => true
  | .rzTargetResponse _ _ => true
  | .rzpSemRead _ _ _ => true
  | .rzpSemWrite _ _ _ _ => true
  | .ctlHello _ _ msg => decide (msg.length ≤ 1072)
  | .ctlRead _ _ msg => decide (msg.length ≤ 1072)
  | .ctlWrite _ _ msg => decide (msg.length ≤ 1072)
  | .ctlClose _ _ msg => decide (msg.length ≤ 1072)
  | .ctlSessionTimeout _ => true
  | .ctlKeyData _ _ _ => true
  | .ctlKeyClear _ _ _ => true
  | .pwrReqRun _ _ _ => true
  | .pwrReqDim _ _ _ => true
  | .pwrReqNap _ _ _ => true
  | .pwrReqDark _ _ _ => true
  | .powerOffSequencing _ _ _ _ => true
  | .pwrStateChange => true
  | .sleepSequence _ => true
  | .sleepStepTimeout _ => true
  | .sleepRetry => true
  | .pwrOppWrite _ _ _ => true
  | .oppRaiseSettle _ _ _ => true
  | .oppLowerSettle => true
  | .oppPgTimeout _ _ => true
  | .pwrAlarm => true
  | .napWake _ _ => true
  | .darkWake _ _ => true
  | .wakePgTimeout _ _ => true
  | .wakePllTimeout _ => true
  | .brownoutWarn _ _ _ => true
  | .railReset _ _ => true
  | .railRecover _ _ => true
  | .dieSensorOvertemp _ _ => true
  | .bootAct _ _ _ => true
  | .fwTrial _ => true
  | .inPlaceRestart _ => true
  | .inPlaceRebuildDone _ => true
  | .bootVerify _ _ _ => true
  | .bootVerifyDone _ => true
  | .updHealthConfirm _ _ _ => true
  | .trialExpired _ => true
  | .trialStartTimeout _ => true
  | .bootRecordWrite _ => true
  | .settingsWrite _ _ => true
  | .otpProgram _ _ _ => true
  | .otpRevoke _ _ _ => true
  | .rejBootWrite _ _ _ => true
  | .pkgExport _ _ _ => true
  | .pkgImport _ _ _ => true
  | .pkgDone _ _ => true
  | .calAll _ _ => true
  | .calUnit _ _ unit => decide (unit < 45)
  | .calPeriod => true
  | .calRun _ => true
  | .calUnitDone _ _ code => decide (code < 65536)
  | .calStrandApply _ => true
  | .eventRaise _ _ _ _ _ => true
  | .evtSoft _ _ _ => true
  | .evtLogTail _ _ _ => true
  | .evtPendClear _ _ _ _ => true
  | .tapInstruction _ _ => true
  | .registerWrite _ req addr _ => wordAddr addr && (match req with | .core _ _ => decide (addr < 0x1000000000) | _ => decide (addr < 0x40000000))

end Sys2Proof
end

