-- ==== Sys2Proof/Tests/Slice0.lean ====
section
/-!
SUPPORT. Tests of WellFormed, and for every statement of Obligations.lean concrete states and operands that meet its hypotheses, clause by
clause. Every expected value is the spec's or counted by hand from it.
-/
namespace Sys2Proof.Tests

open Machine

set_option Elab.async false

/-! ### Small states -/

/-- Twin A ACTIVE and Twin B STANDBY-READY, 1 ms after power-on. -/
def live : State :=
  { State.reset with
    role := ⟨.active, .ready⟩
    now := 1000000
    dev := { Dev.reset with
      everActive := true
      startA := true
      startB := true } }

/-- No ACTIVE twin: both OFF. -/
def idle : State := { State.reset with now := 1000000 }

/-- RESET_N is low. -/
def held : State := { idle with dev := { Dev.reset with inReset := true, resetLowAt := some 5 } }

/-- The start sequences of both twins run. -/
def starting : State := { idle with boot := { Boot.reset with startA := some 10, startB := some 10 } }

/-- Twin A is ACTIVE and Twin B, on trial, runs its start sequence. -/
def trialB : State :=
  { live with
    role := ⟨.active, .off⟩
    boot := { Boot.reset with startB := some 10, rec_ := { Boot.reset.rec_ with trialB := true } } }

/-- Twin B alone has completed its start. -/
def lateA : State := { idle with dev := { Dev.reset with startB := true } }

/-- A context reset waits. -/
def ctxWaits : State := { live with dev := { live.dev with ctxPend := true } }

/-- The watchdog counts, with an action. -/
def watched (action : Nat) : State :=
  ({ live with dev := { live.dev with wdogAt := some 5000000 } }.sf Reg.WDOG_CTL Fld.WDOG_CTL_EN 1).sf Reg.WDOG_CTL Fld.WDOG_CTL_ACTION action

/-- Twin A ACTIVE, and Twin B in another role. -/
def beside (r : Role) : State := { live with role := ⟨.active, r⟩ }

/-- Twin B is held in reset. -/
def inRst : State := (beside .off).sb Reg.TWIN_CTL (Fld.rst .b) true

/-- Twin B is ISOLATED under ISO. -/
def inIso : State := (beside .isolated).sb Reg.TWIN_CTL (Fld.iso .b) true

/-- A time base in a mode and a state. -/
def based (n : Fin 4) (mode st : Nat) : State :=
  (live.sf (Reg.TB_CTL n.val) Fld.TB_CTL_MODE mode).sf (Reg.TB_STAT n.val) Fld.TB_STAT_STATE st

/-- TB1 slews until an instant. -/
def slewing : State := { based 1 1 5 with tb1 := { TimeBase.reset with slewEnd := some 3000000, servo := 77, rate := 12 } }

/-- A number of `n` bytes in an entry of an image table, in both twins. -/
def ent2 (ty inst idx off n v : Nat) (s : State) : State :=
  (s.wrBytes (entryAddr .a ty inst idx + off) (leBytes n v)).wrBytes (entryAddr .b ty inst idx + off) (leBytes n v)

/-- An account of frame `k` in which nothing has happened yet. -/
def acct (k : Nat) : FrameAcct :=
  { k := k, tick := TickAt.reset, before := 0, rest := [], first := false, touched := [], groups := [], slices := [], patched := none,
    stripes := [], changed := 0, closed := false, dropped := false, mapDrop := false, lateDrop := false, settled := [], chg := [], data := [], stale := [],
    holdPorts := [], slipPorts := [], pace := [], syncs := [], emitUse := 0, dropItems := 0, commitLate := 0, flags := 0, latchDefer := 0,
    latchStamp := 0, latchRaw := none, staleRaised := false, compRaised := false, emitRaised := false }

/-- A tick has fallen at 900,000 ns with number 5, and the next falls 16,666,667 ns later. -/
def ticked : State :=
  { live with
    tg := { TickGen.reset with
      ran := true
      next := 17566667
      latchK := 5
      cur := { TickAt.reset with k := 5, raw := 900000, counts := [900000, 900000, 900000, 900000] } } }

/-- Both twins compute frame 5, with accounts `f` and `g`. -/
def framing (f g : FrameAcct) (s : State) : State :=
  { s with a := { s.a with frames := [f] }, b := { s.b with frames := [g] } }

/-- Both twins compute frame 5 of a canvas of one pixel, with a slice on strand port 0. -/
def compute : State := framing (acct 5) (acct 5) (ent2 6 0 0 0 1 1 (ent2 8 0 0 0 4 0x00010001 ticked))

/-- The only stripe of frame 5 is complete. -/
def striped : State := framing { acct 5 with stripes := [0] } { acct 5 with stripes := [0] } compute

/-- The slice of strand port 0 is complete in both twins. -/
def sliced : State :=
  let x : Slice := ⟨0, [], 950000, [], [], 0, []⟩
  framing { acct 5 with stripes := [0], slices := [x] } { acct 5 with stripes := [0], slices := [x] } compute

/-- Tick 5 has fallen and the latch of frame 4 is due. -/
def latching : State := framing (acct 4) (acct 4) { ticked with tg := { ticked.tg with latchK := 4 } }

/-- The latch of frame 5 has fallen. -/
def latched : State := framing { acct 5 with latchRaw := some 950000 } { acct 5 with latchRaw := some 950000 } ticked

/-- A swap to Twin B is due. -/
def swapping : State := { ticked with swapDue := some ⟨.a, .ready, true⟩ }

/-- A graft in a state, with its bytes staged. -/
def grafting (st : Nat) (bad : Option (Nat × Nat × Nat)) : State :=
  { setGraftState .b st (setGraftState .a st live) with
    a := { live.a with graft := some ⟨[], bad, none, [], [], 0⟩ }, b := { live.b with graft := some ⟨[], bad, none, [], [], 0⟩ } }

/-- The load waits for its last steps. -/
def loading : State := { live with dev := live.dev }.sf Reg.REJ_LOAD_STAT Fld.REJ_LOAD_STAT_SRC 3

/-- Layer 0 shows a ring of two slots of 64 bytes at DRAM offset 0, on a canvas of 16 by 16. -/
def ringed : State :=
  ((ent2 8 1 0 32 4 64 (ent2 8 1 0 12 4 0x00010001 (ent2 8 1 0 1 1 2 (ent2 8 1 0 0 1 1 (ent2 8 0 0 0 4 0x00100010 live))))).sf
    (Reg.LAYER_WIN_SIZE .a 0) Fld.LAYER_WIN_SIZE_W 4).sf (Reg.LAYER_WIN_SIZE .a 0) Fld.LAYER_WIN_SIZE_H 4

/-- A zone of a fixture that waits for its first report. -/
def zoned (z : Zone) : State :=
  ent2 12 0 0 12 2 7 (ent2 12 0 0 0 1 1 { ticked with a := { live.a with zones := [(7, z)] }, b := { live.b with zones := [(7, z)] } })

/-- Port 0 is a 10GbE port that takes sACN at 10.0.0.1, with its link up or down, in both twins. -/
def netted (up : Bool) : State :=
  ((ent2 5 0 0 12 4 0x0100000A (ent2 5 0 0 0 4 0x05F20401 live)).sb (Reg.NET_LINK .a 0) Fld.NET_LINK_LINK_UP up).sb (Reg.NET_LINK .b 0)
    Fld.NET_LINK_LINK_UP up

/-- Twin A alone runs, and entry 0 is universe 1 on port 0. -/
def uni : State := { ent2 5 1 0 0 4 0x00010001 (netted true) with role := ⟨.active, .off⟩ }

/-- An Ethernet frame of a broadcast with an EtherType, padded to `n` bytes. -/
def ether (etype n : Nat) : List Byte := List.replicate 12 0xFF ++ beBytes 2 etype ++ List.replicate (n - 14) 0

/-- An E1.31 data packet of one slot of value 0x55 for universe 1, priority 100, in a UDP datagram to 10.0.0.1 (E1.31 sections 4 to 7). -/
def e131 : List Byte :=
  List.replicate 12 0xFF ++ [0x08, 0x00] ++
  [0x45, 0, 0, 155, 0, 0, 0, 0, 64, 17, 0, 0, 10, 0, 0, 2, 10, 0, 0, 1] ++ [0x15, 0xC0, 0x15, 0xC0, 0, 135, 0, 0] ++
  [0, 0x10, 0, 0] ++ acnId ++ [0x70, 111, 0, 0, 0, 4] ++ List.replicate 16 9 ++
  [0x70, 89, 0, 0, 0, 2] ++ List.replicate 64 0 ++ [100, 0, 0, 1, 0, 0, 1] ++ [0x70, 12, 2, 0xA1, 0, 0, 0, 1, 0, 2, 0, 0x55] ++ [0, 0, 0, 0]

/-- A frame of 60 bytes waits at HEAD of the transmit ring of port 0. -/
def sending (up : Bool) (len : Nat) : State :=
  (((netted up).wrBytes (txDesc .a 0 0 + 4) (leBytes 2 len)).sf (Reg.NET_TX_TAIL .a 0) Fld.NET_TX_TAIL_TAIL 1)

/-- A report with one record is due on port 0 of Twin A. -/
def reporting (up : Bool) : State :=
  (netted up).modNet .a (fun x => { x with reports := [⟨0, 900000, false, false, some [⟨2, [239, 255, 0, 1], []⟩]⟩] })

/-- A source of universe 0 has been heard at 5 ns of TB3 and holds a pending copy. -/
def sourced : State :=
  (netted true).setUniv .a 0 { Univ.empty with srcs := [⟨9, 1, 100, 5, true, [1], some ⟨100, [2], 5, false⟩⟩] }

/-- Flow 0 is receiving. -/
def flowing : State := (ent2 5 2 0 8 1 1 live).setFlow .a 0 { StFlow.reset with st := 2 }

/-- Strand port 0 is a Proren port in both twins, with `x` as what each twin holds of it. -/
def strung (x : Strand) : State :=
  ((ent2 6 0 0 0 1 1 live).setStrand .a 0 x).setStrand .b 0 x

/-- An enumeration of strand port 0 in a step. -/
def enuming (step : Nat) (counts : List (Nat × Nat)) (todo : List (Nat × Nat)) (fault : Bool) : State :=
  strung { Strand.reset with run := some ⟨step, 900000, counts, false, 0, todo, [], 0, [], fault⟩ }

/-- A node of strand port 0 at address 2, with failed slots. -/
def nodeAt2 (fails : Nat) : Node := ⟨2, 100, 50, 50, 0, 0, fails, false, 0, 0, 0, 0⟩

/-- Strand port 0 was polled at 900,000 ns: slot 0 belongs to address 2. -/
def polled (fails : Nat) : State :=
  { strung { Strand.reset with nodes := [nodeAt2 fails], poll := some ⟨900000, 2, 1, 3, 3, []⟩ } with now := 900000 }

/-- A STATUS of address 2 that reports a loss (Table 10-9). -/
def status2 : List Byte := [0x85, 1, 0, 2] ++ List.replicate 20 0

/-- The lock of strand port 0 was lost 20 ms ago, and enumeration is automatic. -/
def lockLost : State :=
  ent2 6 0 0 19 1 1 { strung { Strand.reset with lockLost := some 5 } with now := 20000005 }

/-- Strand port 0 is a DMX port with RDM on, and the controller runs in both twins; each twin holds `x` of it. -/
def rdming (x : DmxPort) : State :=
  let s := ((ent2 6 0 0 0 2 0x0102 ticked).setDmx .a 0 x).setDmx .b 0 x
  [Twin.a, .b].foldl (fun s w => (s.sb (Reg.RDM_CFG w) Fld.RDM_CFG_EN true).setReg (Reg.RDM_UID_LO w) 7) s

/-- A request of buffer 1 is on the line of strand port 0, its end at 950,000 ns. -/
def asked : State := rdming { DmxPort.reset with run := some ⟨.request ⟨1, 5⟩, 950000, false, false⟩ }

/-- Fixture 3 is a pixel fixture of zone 7 in both twins, with reports expected every 10 ms. -/
def fixtured : State :=
  let s := ent2 12 0 3 12 2 7 (ent2 12 0 3 0 1 1 { ticked with tg := { ticked.tg with cur := { ticked.tg.cur with raw := 20000000 } } })
  [Twin.a, .b].foldl (fun s w => s.sf (Reg.HLTH_CFG w) Fld.HLTH_CFG_REPORT_TO 1) s

/-- An arbitration of Twin A is pending since 900,000 ns, with health bits of both twins as (bit, instant). -/
def arbed (fa fb : List (Nat × Nat)) : State :=
  { live with
    peri := { Peri.reset with
      arb := some ⟨950000, 1000000, 900000, .a, [⟨0, 3, 950000, 5, false⟩]⟩
      setA := fa
      setB := fb } }

/-- The twins' digests of tick 5 wait for their comparison. -/
def digested (r : Role) (x y : List (Nat × Nat)) : State :=
  { ticked with role := ⟨.active, r⟩, peri := { Peri.reset with dig := some ⟨5, some x, some y⟩ } }

/-- Twin B is joining and its copy runs. -/
def copying (restarts : Nat) : State :=
  { (beside .resync).sf Reg.PERI_RESYNC Fld.PERI_RESYNC_PHASE 1 with peri := { Peri.reset with restarts := restarts } }

/-- An item of type 16 of queue 2, and its slot. -/
def item16 : Item := ⟨16, 3, false, false, false, 0, 0, 5, [1, 2, 3]⟩
def slot16 : Slot := ⟨item16, .queued, 16, 5, 0, true, none⟩

/-- Queue 2 has two slots in bank 0, which Sorus owns and which is ON, and is eligible to core 0; `l` lies in it. -/
def queued (l : List Slot) (w : Twin) : State :=
  let s := ent2 4 0 2 8 2 1 (ent2 4 0 2 0 4 0x00000101 live)
  let s := [Twin.a, .b].foldl (fun s w => (s.sf (Reg.BANK_CTL w 0) Fld.BANK_CTL_OWNER 1).sf (Reg.BANK_STAT w 0) Fld.BANK_STAT_STATE 2) s
  s.modSorus w (fun o => o.setQueue 2 ⟨0, l.length, l, 0⟩)

/-- Flow 1 uses queue 2 and its item 0 is popped. -/
def flowed (st : SlotSt) : State :=
  let sl : Slot := { slot16 with item := { item16 with flowed := true, flow := 1 }, st := st }
  ((ent2 4 1 1 0 4 0x00020004 (queued [sl] .a)).modSorus .a (fun o => o.setFlow 1 ⟨1, 0, 1⟩))

/-- Bank 5 of Twin A with an owner, in a power state. -/
def bank5 (owner st : Nat) (b : BankSt) : State :=
  ((live.sf (Reg.BANK_CTL .a 5) Fld.BANK_CTL_OWNER owner).sf (Reg.BANK_STAT .a 5) Fld.BANK_STAT_STATE st).setBank .a 5 b

/-- The background test runs on bank 5 of Twin A, window `win`, until 2,000,000 ns. -/
def testing (win aborts : Nat) : State :=
  { (bank5 0 2 BankSt.still).sb (Reg.BANK_TEST_CFG .a) Fld.BANK_TEST_CFG_EN true with
    a := { (bank5 0 2 BankSt.still).a with bankTest := ⟨win, 5, aborts, some (5, win), 2000000, 0⟩ } }

/-- A calibration run is in progress, the unit at the front in calibration. -/
def calRuns (l : List Nat) : State := { live with cal := { Cal.reset with run := some l, busy := true } }

/-- The newest access of mailbox port A and of port B. -/
def mailed (a b : Option MbxAcc) : State := { live with mbxA := a, mbxB := b }

/-- A flash device of 256 MiB, with commands that wait. -/
def flashed (l : List FlashJob) : State :=
  { (live.sf Reg.REJ_LOAD_STAT Fld.REJ_LOAD_STAT_SRC 0).sf Reg.FLASH_INFO Fld.FLASH_INFO_SIZE_LOG2 28 with flash := l }

/-- The Rhizoid bus is on. -/
def bussed (r : Rhizoid) : State := { live.sb Reg.RZP_CFG Fld.RZP_CFG_EN true with rz := r }

/-- An outbound read of address 0x100 by core 3 stands on the bus. -/
def reading : State :=
  (bussed { Rhizoid.reset with txn := some ⟨2, 0x100, [], 0, 3, false, 0, none, false⟩ }).modBridge .a
    (fun b => { b with reads := [⟨0x100, 3, false, 0, 1000000⟩] })

/-- An outbound write of address 0x100 by core 3 stands on the bus. -/
def writing (retries : Nat) : State := bussed { Rhizoid.reset with txn := some ⟨3, 0x100, [], 7, 3, true, retries, none, false⟩ }

/-- A write of core 3 is posted in Twin A. -/
def posted : State := (bussed Rhizoid.reset).modBridge .a (fun b => { b with writes := [⟨0x100, 7, 3, false⟩] })

/-- Far initiator 1 is granted the bus, with the mailbox at 0 and the inbound window at 0x1000000 enabled. -/
def granted : State :=
  ((((bussed { Rhizoid.reset with grant := some (1, 900000) }).sb Reg.RZP_MBX Fld.RZP_MBX_EN true).sb Reg.RZP_IN Fld.RZP_IN_EN true).sf
    Reg.RZP_IN Fld.RZP_IN_BASE 1)

/-- The control channel runs on port 0 of both twins under key 0, with a session in Twin A. -/
def channel : State :=
  let s := ent2 5 0 0 1 1 0x10 live
  let s := [Twin.a, .b].foldl (fun s w => s.sf (Reg.CTL_KEY_SEL w) Fld.CTL_KEY_SEL_VALID 1) s
  s.modCtl .a (fun c => { c with sessions := [⟨0, 5, List.replicate 32 9, 0, [], 0, 3, [], 5⟩] })

/-- Bytes followed by their tag under a key, and by bytes that are not it. -/
def tagged (key pre : List Byte) : List Byte := pre ++ (Config.hmacSha256 key pre).toList.take 16
def forged (key pre : List Byte) : List Byte := pre ++ ((Config.hmacSha256 key pre).toList.take 16).map (~~~ ·)

/-- A message of Table 16-8 before its tag. -/
def plainMsg (op session seq : Nat) (payload : List Byte) : List Byte :=
  [0x43, 0x51, 1] ++ leBytes 1 op ++ leBytes 4 session ++ leBytes 4 seq ++ leBytes 2 payload.length ++ [0, 0] ++ payload

/-- The same with its tag. -/
def message (op session seq : Nat) (payload key : List Byte) : List Byte := tagged key (plainMsg op session seq payload)

theorem tagged_form {key pre : List Byte} {op : Nat}
    (h : (msgN (tagged key pre) 0 2 = 0x5143 ∧ msgN (tagged key pre) 2 1 = 1 ∧ msgN (tagged key pre) 3 1 = op ∧ msgLen (tagged key pre) ≤ 1040) ∧
      pre.length + 16 = msgLen (tagged key pre) + 32) : msgForm (tagged key pre) op = true := by
  have e : (tagged key pre).length = pre.length + 16 := by simp [tagged]
  simp only [msgForm, decide_eq_true_eq, e]
  exact ⟨h.1.1, h.1.2.1, h.1.2.2.1, h.1.2.2.2, h.2⟩

theorem forged_form {key pre : List Byte} {op : Nat}
    (h : (msgN (forged key pre) 0 2 = 0x5143 ∧ msgN (forged key pre) 2 1 = 1 ∧ msgN (forged key pre) 3 1 = op ∧ msgLen (forged key pre) ≤ 1040) ∧
      pre.length + 16 = msgLen (forged key pre) + 32) : msgForm (forged key pre) op = true := by
  have e : (forged key pre).length = pre.length + 16 := by simp [forged]
  simp only [msgForm, decide_eq_true_eq, e]
  exact ⟨h.1.1, h.1.2.1, h.1.2.2.1, h.1.2.2.2, h.2⟩

theorem tagged_ok {key pre : List Byte} (h : 16 + msgLen (tagged key pre) = pre.length) : msgTagOk key (tagged key pre) = true := by
  rw [msgTagOk, msgTag, h]
  simp [tagged]

theorem forged_bad {key pre : List Byte} (h : 16 + msgLen (forged key pre) = pre.length) : msgTagOk key (forged key pre) = false := by
  have e : ((Config.hmacSha256 key pre).toList.take 16).length = 16 := by simp
  have d : (forged key pre).take pre.length = pre := by simp [forged]
  rw [msgTagOk, msgTag, h, d]
  simp only [forged, List.drop_left, decide_eq_false_iff_not]
  generalize (Config.hmacSha256 key pre).toList.take 16 = l at e ⊢
  cases l with
  | nil => simp at e
  | cons x xs => simp

theorem bothTwins {P : Twin → Prop} (x : P .a) (y : P .b) : ∀ w, P w
  | .a => x
  | .b => y

/-- Power state `st` in phase `ph`, with NAP and DARK allowed by the image. -/
def powered (st ph : Nat) : State :=
  (ent2 2 0 0 3 1 6 ({ ticked with now := 2000000 }.sf Reg.PWR_STAT Fld.PWR_STAT_STATE st)).sf Reg.PWR_STAT Fld.PWR_STAT_PHASE ph

/-- The same with fields of the power controller. -/
def pwr (st ph : Nat) (f : Power → Power) : State := { powered st ph with pwr := f (powered st ph).pwr }

/-- A change of operating point since 1,000,000 ns. -/
def opping (old new : Nat) : State := pwr 1 0 (fun p => { p with opp := some ⟨old, new, 1000000⟩ })

/-- A sleep request for `target`, in phase `ph` since `at_`. -/
def sleeping (target ph at_ : Nat) : State := pwr 1 ph (fun p => { p with sleep := some ⟨target, 800000, at_⟩ })

/-- NAP, entered from RUN. -/
def napping : State := pwr 3 0 (fun p => { p with before := 1, stopped := true })

/-- DARK: the Thallus main domain is off, and nothing was saved. -/
def dark : State := { pwr 4 0 (fun p => { p with saved := none }) with mainOff := true, role := ⟨.off, .off⟩ }

/-- A wake from DARK in a stage. -/
def waking (stage : Nat) (retried : Bool) : State :=
  let s := dark.sf Reg.PWR_STAT Fld.PWR_STAT_PHASE 10
  { s with pwr := { s.pwr with wake := some ⟨3, stage, retried, 1000000, false, false⟩ } }

/-- The rail of a twin is below its reset level. -/
def railed (w : Twin) : State :=
  match w with
  | .a => { live with role := ⟨.off, .active⟩, pwr := { live.pwr with offA := true } }
  | .b => { live with role := ⟨.active, .off⟩, pwr := { live.pwr with offB := true } }

/-- Firmware slot 1 and both Rejor slots are verified. -/
def verified (s : State) : State := s.sf Reg.BOOT_STAT Fld.BOOT_STAT_VERIFIED 0x1A

/-- Twin B runs firmware on trial, in a role. -/
def fiddler (r : Role) : State :=
  let s := beside r
  { s with boot := { s.boot with rec_ := { s.boot.rec_ with trialB := true }, trialB := some 5 } }

/-- Twin A, ACTIVE and on trial, holds migrated settings of half 0. -/
def migrated : State :=
  let s := live.sb (Reg.UPD_STAT .a) Fld.UPD_STAT_PENDING_WRITE true
  { s with a := { s.a with setHalf := some 0 }, boot := { s.boot with rec_ := { s.boot.rec_ with trialA := true } } }

/-- A restart in place of Twin A waits for its tick. -/
def inPlaceDue (s : State) : State := { s with boot := { s.boot with inPlace := some (.a, 5) } }

/-- Twin A restarts in place. -/
def handing : State := { live with boot := { live.boot with hand := some ⟨.a, TwinState.reset, [], []⟩ } }

/-- An item of Twin A lies on the stack of core 0. -/
def working (s : State) : State := s.modSorus .a (fun o => o.setCore 0 [⟨2, item16, false⟩])

/-- A word for BOOT_CTL that activates a slot in a twin (Table 18-3), and one for OTP_KEY_CMD, both with their key. -/
def actWord (twin slot : Nat) : Word := BitVec.ofNat 32 (1 + 2 * twin + 4 * slot + 0x5A00)
def otpWord (op slot : Nat) : Word := BitVec.ofNat 32 (op + 4 * slot + 0x5A00)
/-- Twin B, ready and on trial, is asked for its confirmation. -/
def confirming : State := fiddler .ready

/-- The event of a bank violation is off in both twins. -/
def quiet : State := (live.sb (Reg.BANK_EVT_CTL .a) Fld.BANK_EVT_CTL_VIOL_EN false).sb (Reg.BANK_EVT_CTL .b) Fld.BANK_EVT_CTL_VIOL_EN false

/-- Slot 1 of layer 0 of Twin A is in use from 0 to its frame's deadline. -/
def showing : State :=
  ((ringed.sb (Reg.LAYER_LIVE_SLOT .a 0) Fld.LAYER_LIVE_SLOT_NONE false).sf (Reg.LAYER_LIVE_SLOT .a 0) Fld.LAYER_LIVE_SLOT_SLOT 1).setLayer .a 0
    { Layer.reset with useFrom := some 0 }

/-- Buffer 2 of both twins holds an RDM request of 26 bytes. -/
def submitting : State := ((rdming DmxPort.reset).wrBytes (rdmBuf .a 2 0) [26, 0]).wrBytes (rdmBuf .b 2 0) [26, 0]

/-! ### WellFormed: one ill-formed command for each check, refused, and the command at the edge of the range, accepted -/

theorem test_wf_apertures :
    (Instr.mirrorWrite 0 .pcie 2 0).wf = false ∧ (Instr.mirrorWrite 0 .pcie 0xE000000 0).wf = false ∧
    (Instr.mirrorWrite 0 .pcie 0xDFFFFFC 0).wf = true ∧ (Instr.mirrorRead 0 .pcie 1).wf = false ∧ (Instr.mirrorRead 0 .pcie 0xDFFFFFC).wf = true ∧
    (Instr.notwinRead 0 none 0xE000000).wf = false ∧ (Instr.notwinRead 0 (some .a) 0x10000000).wf = false ∧
    (Instr.notwinRead 0 (some .a) 0xE000000).wf = true ∧ (Instr.deadAcc 0 .a .read 3).wf = false ∧
    (Instr.xtwinAcc 0 .a 0 .read 0x10000000).wf = false ∧ (Instr.coreThallusWrite 0 .a 0 2 0).wf = false ∧
    (Instr.coreThallusWrite 0 .a 0 0x1010000 0).wf = false := by decide

theorem test_wf_forwarded :
    (Instr.mirrorTimeout 0 .pcie .a (.word 2 0)).wf = false ∧ (Instr.mirrorTimeout 0 .pcie .a (.bulk 0x7FFFFFFFF [1, 2])).wf = false ∧
    (Instr.mirrorTimeout 0 .pcie .a (.bulk 0x7FFFFFFFF [1])).wf = true ∧ (Instr.bulkWrite 0 0x800000000 [1]).wf = false ∧
    (Instr.bulkWrite 0 0x800000000 []).wf = true := by decide

theorem test_wf_show :
    (Instr.stripeComplete 0 .a 256).wf = false ∧ (Instr.stripeComplete 0 .a 255).wf = true ∧ (Instr.netRxFrame 4 5 0 true []).wf = false ∧
    (Instr.netRxFrame 5 5 0 true []).wf = true ∧ (Instr.netRxfree 0 .mirror 65536).wf = false ∧ (Instr.prnStatus 0 0 64 []).wf = false ∧
    (Instr.prnSlotMiss 0 0 64).wf = false ∧ (Instr.hlthNoReport 0 .a 262144).wf = false ∧ (Instr.hlthNoReport 0 .a 262143).wf = true := by decide

theorem test_wf_memory :
    (Instr.memEccError 0 .a (.bank 0 0x100000) true).wf = false ∧ (Instr.memEccError 0 .a (.lmem 0 0x10000) true).wf = false ∧
    (Instr.memEccError 0 .a (.dram 0x800000000 0) true).wf = false ∧ (Instr.memEccError 0 .a (.dram 0x7FFFFFFFF 6) true).wf = true ∧
    (Instr.dramAccessDenied 0 .a .host .read 0x800000000).wf = false := by decide

theorem test_wf_host :
    (Instr.mbxWrite 0 false .pcie 16384 ⟨15, 0⟩).wf = false ∧ (Instr.mbxRead 0 true .pcie 16384).wf = false ∧ (Instr.mgmtWrite 0 2 [] true).wf = false ∧
    (Instr.mgmtWrite 0 0x40000000 [] true).wf = false ∧ (Instr.mgmtRead 0 1 1).wf = false ∧ (Instr.mgmtRead 0 0x40000000 1).wf = false ∧
    (Instr.flashRead 0 .pcie 0 0x2000000).wf = false ∧ (Instr.flashProgram 0 .pcie 0 0x2000000).wf = false ∧
    (Instr.flashReadSfdp 0 .pcie 0 0x2000000).wf = false ∧ (Instr.flashCopy 0 .pcie 0 0x2000000).wf = false ∧
    (Instr.rzOutboundRead 0 .pcie 2).wf = false ∧ (Instr.rzOutboundRead 0 .pcie 0x100000000).wf = false ∧
    (Instr.rzLockedRead 0 .a 0 2).wf = false ∧ (Instr.rzLockedRead 0 .a 0 0x100000000).wf = false ∧
    (Instr.rzInbound 0 0 2 .read).wf = false ∧ (Instr.rzInbound 0 0 0x100000000 .read).wf = false ∧
    (Instr.registerWrite 0 .pcie 2 0).wf = false ∧ (Instr.registerWrite 0 .pcie 0x40000000 0).wf = false ∧
    (Instr.registerWrite 0 (.core .a 0) 0x40000000 0).wf = true ∧ (Instr.registerWrite 0 (.core .a 0) 0x1000000000 0).wf = false := by decide

theorem test_wf_control (l : List Byte) (h : l.length = 1073) :
    (Instr.ctlHello 0 0 l).wf = false ∧ (Instr.ctlRead 0 0 l).wf = false ∧ (Instr.ctlWrite 0 0 l).wf = false ∧ (Instr.ctlClose 0 0 l).wf = false := by
  simp [Instr.wf, h]

theorem test_wf_calibration :
    (Instr.calUnit 0 .pcie 45).wf = false ∧ (Instr.calUnit 0 .pcie 44).wf = true ∧ (Instr.calUnitDone 0 true 65536).wf = false ∧
    (Instr.calUnitDone 0 true 65535).wf = true := by decide

/-! ### Single steps -/

/-- The word at a home address after one step with a command at the front of the queue. -/
def after (c : Instr) (s : State) (a : Nat) : Option Word :=
  match step { s with pending := [c] } with
  | .next u => some (u.reg a)
  | _ => none

/-- No row of the table gives bits: a word spells no command. -/
theorem test_table_word : decodeTableWord 32 7 = none ∧ (State.reset.withFetchWord 32 7).pending = [] := by decide

/-- Table 1-6: OUT_CTL.HOLD is bit 0. -/
theorem test_out_hold : after (.outHold 5 .pcie true) live Reg.OUT_CTL = some 1 := by decide +kernel

/-- R45: DEV_STAT.KEY_ERR (bits 15 to 8) counts a kick with another word. -/
theorem test_wdog_kick_key : after (.wdogKick 5 .pcie 0xA4) live Reg.DEV_STAT =
    some (withFld (live.reg Reg.DEV_STAT) Fld.DEV_STAT_KEY_ERR 1) := by decide +kernel

/-- R514: writing 1 clears a pending bit, and no other. -/
theorem test_pend_clear : after (.evtPendClear 2000000 .pcie 3 0x0F) (live.setReg (Reg.EVT_PEND 3) 0x33) (Reg.EVT_PEND 3) = some 0x30 := by
  decide +kernel

/-- R11: a pending bit that hardware sets in the clock of the write stays set. -/
theorem test_pend_same_clock : after (.evtPendClear 5 .pcie 3 0x0F) (live.setReg (Reg.EVT_PEND 3) 0x33) (Reg.EVT_PEND 3) = some 0x33 := by
  decide +kernel

/-- R518: EVT_LOG_TAIL does not pass HEAD. -/
theorem test_log_tail : after (.evtLogTail 5 .pcie 8) (live.setReg Reg.EVT_LOG_HEAD 7) Reg.EVT_LOG_TAIL = some 7 := by decide +kernel

/-- R267: K28.5 at negative disparity is 0011111010, and D0.0 there 1001110100 (IEEE 802.3 Clause 36); both change or keep the disparity so. -/
theorem test_line_code : codeChar false true 0xBC = (0b0011111010, true) ∧ codeChar false false 0 = (0b1001110100, false) := by decide

/-- R421: byte enables of a write. -/
theorem test_byte_enables : mergeBytes 0x11223344 ⟨2, 0xAABBCCDD⟩ = 0x1122CC44 := by decide

/-- R443: a semaphore that is free is taken by the host (16), as 0x8000_0010 shows. -/
theorem test_semaphore : (match step { live with pending := [.rzpSemRead 5 .pcie 4] } with
    | .next u => decide (u.out = [.readData 0x80000010])
    | _ => false) = true := by decide +kernel

/-! ### The hypotheses of every statement are met, clause by clause -/

theorem met_StepRunsFrontCommand :
    (∃ (c : Instr) (rest : List Instr) (s : State), s.pending = c :: rest) ∧
    (∃ (s : State), s.pending = []) :=
  ⟨⟨Instr.tick, [], {live with pending := [.tick]}, by decide +kernel⟩,
    ⟨live, by decide +kernel⟩⟩

theorem met_EveryStepKeepsSoundState :
    ∃ (s : State), s.sound = true :=
  ⟨live, by decide +kernel⟩

theorem met_ContextResetRequestWaitsOrMerges :
    (∃ (s : State) (src : Requester) (key : Byte), s.tidy = true ∧ s.thAllows src = true ∧ key = 90 ∧ s.dev.ctxPend = true) ∧
    (∃ (s : State) (src : Requester) (key : Byte), s.tidy = true ∧ s.thAllows src = true ∧ key = 90 ∧ s.dev.ctxPend = false) ∧
    (∃ (s : State) (src : Requester) (key : Byte), s.tidy = true ∧ s.thAllows src = true ∧ key ≠ 90) :=
  ⟨⟨ctxWaits, .pcie, 0x5A, by decide +kernel⟩,
    ⟨live, .pcie, 0x5A, by decide +kernel⟩,
    ⟨live, .pcie, 0xA5, by decide +kernel⟩⟩

theorem met_DeviceResetByRegister :
    (∃ (s : State) (src : Requester) (key : Byte), s.tidy = true ∧ s.thAllows src = true ∧ key = 90 ∧ s.dev.testEn = false) ∧
    (∃ (s : State) (src : Requester) (key : Byte), s.tidy = true ∧ s.thAllows src = true ∧ key ≠ 90) :=
  ⟨⟨live, .pcie, 0x5A, by decide +kernel⟩,
    ⟨live, .pcie, 0xA5, by decide +kernel⟩⟩

theorem met_ResetsReturnTheirDomains :
    (∃ (s : State) (a : Nat), s.tidy = true ∧ domainOf a ≠ some Dom.por ∧ a ≠ Reg.CAL_STAT) ∧
    (∃ (s : State) (a : Nat), s.tidy = true ∧ domainOf a = some Dom.por ∧ a ≠ Reg.CAL_STAT) ∧
    (∃ (s : State) (a : Nat), s.tidy = true ∧ keptByDevice a = true ∧ a ≠ 61444) ∧
    (∃ (s : State) (a : Nat), s.tidy = true ∧ keptByDevice a = false) ∧
    (∃ (s : State) (a : Nat), s.tidy = true ∧ a ≠ Reg.OTP_KEY_STAT) ∧
    (∃ (s : State) (a : Nat), s.tidy = true ∧ keptAlways a = true) ∧
    (∃ (s : State) (a : Nat), s.tidy = true ∧ keptAlways a = false) ∧
    (∃ (s : State), s.tidy = true ∧ s.role = ⟨Role.off, Role.off⟩ ∧ s.dev.testEn = false ∧ s.dev.resetLowAt.isSome = true) ∧
    (∃ (s : State), s.dev.testEn = false ∧ s.dev.resetLowAt = none) :=
  ⟨⟨live, 3000000, by decide +kernel⟩,
    ⟨live, 0, by decide +kernel⟩,
    ⟨live, (Addr.otp 0 0), by decide +kernel⟩,
    ⟨live, 3000000, by decide +kernel⟩,
    ⟨live, 3000000, by decide +kernel⟩,
    ⟨live, (Addr.otp 0 0), by decide +kernel⟩,
    ⟨live, 3000000, by decide +kernel⟩,
    ⟨held, by decide +kernel⟩,
    ⟨live, by decide +kernel⟩⟩

theorem met_StartSequenceGivesRoles :
    (∃ (s : State) (w : Twin), s.tidy = true ∧ s.boot.hand = none ∧ (s.boot.start w).isSome = true ∧ s.rb Reg.TWIN_CTL (Fld.iso w) = false ∧ s.roleOf
      w = Role.off ∧ s.fiddlehead w = false ∧ s.active = some w.other ∧ w ≠ Twin.a) ∧
    (∃ (s : State) (w : Twin), s.tidy = true ∧ s.boot.hand = none ∧ (s.boot.start w).isSome = true ∧ s.rb Reg.TWIN_CTL (Fld.iso w) = false ∧ s.roleOf
      w = Role.off ∧ s.fiddlehead w = false ∧ s.active = none ∧ s.dev.everActive = false ∧ w = Twin.a ∧ s.roleOf Twin.b = Role.off ∧ s.started Twin.b
      = false ∧ s.mainOff = false) ∧
    (∃ (s : State) (t : Nat) (w : Twin), s.tidy = true ∧ s.boot.hand = none ∧ (s.boot.start w).isSome = true ∧ s.rb Reg.TWIN_CTL (Fld.iso w) = false ∧
      s.roleOf w = Role.off ∧ s.fiddlehead w = false ∧ s.active = none ∧ s.dev.everActive = false ∧ w = Twin.b ∧ s.dev.fiveSec = false ∧ max s.now t <
      s.dev.releasedAt + 5000000000) ∧
    (∃ (s : State) (w : Twin), s.tidy = true ∧ s.boot.hand = none ∧ s.fiddlehead w = true ∧ s.fiddlehead w.other = false ∧ (s.boot.start w).isSome =
      true ∧ s.rb Reg.TWIN_CTL (Fld.iso w) = false ∧ s.roleOf w = Role.off ∧ s.active = some w.other ∧ w ≠ Twin.a) ∧
    (∃ (s : State), s.tidy = true ∧ s.boot.hand = none ∧ s.dev.inReset = false ∧ s.dev.fiveSec = false ∧ s.active = none ∧ s.dev.everActive = false ∧
      s.started Twin.b = true ∧ s.started Twin.a = false ∧ s.roleOf Twin.a = Role.off ∧ s.fiddlehead Twin.b = false ∧ s.rb Reg.TWIN_CTL (Fld.iso Twin.b) = false) ∧
    (∃ (s : State) (t : Nat), s.tidy = true ∧ s.boot.hand = none ∧ (s.boot.start Twin.a).isSome = true ∧ s.rb Reg.TWIN_CTL (Fld.iso Twin.a) = false ∧
      s.roleOf Twin.a = Role.off ∧ s.fiddlehead Twin.a = false ∧ s.active = some Twin.b ∧ s.dev.firstAt = some (max s.now t)) ∧
    (∃ (s : State) (t : Nat), s.tidy = true ∧ s.boot.hand = none ∧ (s.boot.start Twin.a).isSome = true ∧ s.rb Reg.TWIN_CTL (Fld.iso Twin.a) = false ∧
      s.roleOf Twin.a = Role.off ∧ s.fiddlehead Twin.a = false ∧ s.active = some Twin.b ∧ s.dev.firstAt ≠ some (max s.now t)) :=
  ⟨⟨{trialB with boot := {trialB.boot with rec_ := Boot.reset.rec_}}, .b, by decide +kernel⟩,
    ⟨starting, .a, by decide +kernel⟩,
    ⟨starting, 3000000, .b, by decide +kernel⟩,
    ⟨trialB, .b, by decide +kernel⟩,
    ⟨lateA, by decide +kernel⟩,
    ⟨{starting with role := ⟨.off, .active⟩, dev := {starting.dev with everActive := true, startB := true, firstAt := some 1000000}}, 5, by decide +kernel⟩,
    ⟨{starting with role := ⟨.off, .active⟩, dev := {starting.dev with everActive := true, startB := true, firstAt := some 1000000}}, 2000000, by decide +kernel⟩⟩

theorem met_AperturesServeReadsAndWrites :
    (∃ (s : State) (w : Twin) (off : Nat), s.tidy = true ∧ s.dev.inReset = false ∧ s.mainOff = false ∧ s.inNap = false ∧ s.active = some w ∧ off % 4 =
      0 ∧ 1048576 ≤ off ∧ off < 2097152) ∧
    (∃ (s : State) (off : Nat), s.tidy = true ∧ s.dev.inReset = false ∧ s.mainOff = false ∧ s.inNap = false ∧ s.active = none ∧ off % 4 = 0 ∧ off <
      234881024) ∧
    (∃ (s : State) (w : Twin), s.tidy = true ∧ s.dev.inReset = false ∧ s.mainOff = false ∧ s.inNap = false ∧ (s.roleOf w = Role.off ∨ s.roleOf w =
      Role.isolated)) ∧
    (∃ (s : State) (off : Nat), s.tidy = true ∧ s.dev.inReset = false ∧ s.mainOff = false ∧ s.inNap = false ∧ s.boot.hand = none ∧ off % 4 = 0 ∧ off <
      234881024 ∧ off ≠ 854016 ∧ s.dev.ctxPend = true) ∧
    (∃ (s : State) (addr : Nat), s.tidy = true ∧ s.dev.inReset = false ∧ s.mainOff = false ∧ s.inNap = false ∧ s.boot.hand = none ∧ addr % 4 = 0 ∧
      32768 ≤ addr ∧ addr < 61440) ∧
    (∃ (s : State) (w : Twin) (off i : Nat), s.tidy = true ∧ s.dev.inReset = false ∧ s.mainOff = false ∧ s.inNap = false ∧ s.boot.hand = none ∧
      s.takesMirror w = true ∧ s.roleOf w ≠ Role.off ∧ s.dev.ctxPend = false ∧ off % 4 = 0 ∧ 1048576 ≤ off ∧ off < 2097152 ∧ i < 4 ∧ s.takesMirror
      w.other = true) :=
  ⟨⟨live, Twin.a, 0x100000, by decide +kernel⟩,
    ⟨idle, 3000000, by decide +kernel⟩,
    ⟨idle, .a, by decide +kernel⟩,
    ⟨ctxWaits, 3000000, by decide +kernel⟩,
    ⟨live, 0x8000, by decide +kernel⟩,
    ⟨live, .a, 0x100000, 0, by decide +kernel⟩⟩

theorem met_OutputControlSetsHoldAndSafe :
    (∃ (s : State) (src : Requester), s.tidy = true ∧ s.thAllows src = true ∧ (s.holdOn || s.safeOn) = false) ∧
    (∃ (s : State) (src : Requester), s.tidy = true ∧ s.thAllows src = true ∧ s.holdOn = true) :=
  ⟨⟨live, .pcie, by decide +kernel⟩,
    ⟨live.sb Reg.OUT_CTL Fld.OUT_CTL_HOLD true, .pcie, by decide +kernel⟩⟩

theorem met_HostWatchdogCounts :
    (∃ (s : State) (src : Requester) (v : Word), s.tidy = true ∧ s.thAllows src = true ∧ v ≠ 165) ∧
    (∃ (s : State) (src : Requester) (v : Word), s.tidy = true ∧ s.thAllows src = true ∧ v = 165) ∧
    (∃ (s : State) (x : Nat), s.tidy = true ∧ s.dev.wdogAt = some x ∧ s.mainOff = false ∧ s.rf Reg.WDOG_CTL Fld.WDOG_CTL_ACTION = 0) ∧
    (∃ (s : State) (x : Nat), s.tidy = true ∧ s.dev.wdogAt = some x ∧ s.mainOff = false ∧ s.rf Reg.WDOG_CTL Fld.WDOG_CTL_ACTION = 1) ∧
    (∃ (s : State) (x : Nat), s.tidy = true ∧ s.dev.wdogAt = some x ∧ s.mainOff = false ∧ s.rf Reg.WDOG_CTL Fld.WDOG_CTL_ACTION = 2) ∧
    (∃ (s : State) (x : Nat), s.tidy = true ∧ s.dev.wdogAt = some x ∧ s.mainOff = false ∧ s.rf Reg.WDOG_CTL Fld.WDOG_CTL_ACTION = 3 ∧ s.dev.testEn = false) :=
  ⟨⟨live, .pcie, 0, by decide +kernel⟩,
    ⟨live, .pcie, 0xA5, by decide +kernel⟩,
    ⟨(watched 0), 5000000, by decide +kernel⟩,
    ⟨(watched 1), 5000000, by decide +kernel⟩,
    ⟨(watched 2), 5000000, by decide +kernel⟩,
    ⟨(watched 3), 5000000, by decide +kernel⟩⟩

theorem met_TwinControlResetsAndIsolates :
    (∃ (s : State) (src : Requester) (w : Twin), s.tidy = true ∧ s.thAllows src = true ∧ s.inNap = false ∧ s.peri.arb = none ∧ s.fiddlehead Twin.a =
      false ∧ s.fiddlehead Twin.b = false ∧ s.active ≠ some w ∧ s.roleOf w ≠ Role.off ∧ s.rb Reg.TWIN_CTL (Fld.iso w) = false ∧ s.rb Reg.TWIN_CTL
      (Fld.rst w) = false) ∧
    (∃ (s : State) (src : Requester) (w : Twin), s.tidy = true ∧ s.thAllows src = true ∧ s.inNap = false ∧ s.peri.arb = none ∧ s.fiddlehead Twin.a =
      false ∧ s.fiddlehead Twin.b = false ∧ s.active = some w ∧ s.roleOf w.other = Role.ready ∧ s.rb Reg.TWIN_CTL (Fld.rst w) = false ∧ s.rb
      Reg.TWIN_CTL (Fld.iso w) = false) ∧
    (∃ (s : State) (src : Requester) (w : Twin), s.tidy = true ∧ s.thAllows src = true ∧ s.inNap = false ∧ s.peri.arb = none ∧ s.fiddlehead Twin.a =
      false ∧ s.fiddlehead Twin.b = false ∧ s.active = some w ∧ s.roleOf w.other ≠ Role.ready ∧ s.rb Reg.TWIN_CTL (Fld.rst w) = false ∧ s.rb
      Reg.TWIN_CTL (Fld.iso w) = false) ∧
    (∃ (s : State) (src : Requester) (w : Twin), s.tidy = true ∧ s.thAllows src = true ∧ s.inNap = false ∧ s.peri.arb = none ∧ s.fiddlehead Twin.a =
      false ∧ s.fiddlehead Twin.b = false ∧ s.rb Reg.TWIN_CTL (Fld.rst w) = true ∧ s.rb Reg.TWIN_CTL (Fld.iso w) = false ∧ s.railOff w = false) ∧
    (∃ (s : State) (src : Requester) (w : Twin), s.tidy = true ∧ s.thAllows src = true ∧ s.inNap = false ∧ s.peri.arb = none ∧ s.fiddlehead Twin.a =
      false ∧ s.fiddlehead Twin.b = false ∧ s.roleOf w = Role.isolated ∧ s.rb Reg.TWIN_CTL (Fld.iso w) = true ∧ s.rb Reg.TWIN_CTL (Fld.rst w) = false
      ∧ s.started w = true) ∧
    (∃ (s : State) (src : Requester) (w : Twin), s.tidy = true ∧ s.thAllows src = true ∧ s.inNap = false ∧ s.peri.arb = none ∧ s.fiddlehead Twin.a =
      false ∧ s.fiddlehead Twin.b = false ∧ s.active ≠ some w ∧ s.roleOf w = Role.off ∧ s.rb Reg.TWIN_CTL (Fld.rst w) = false ∧ s.rb Reg.TWIN_CTL (Fld.iso w) = false) ∧
    (∃ (s : State) (src : Requester) (w : Twin), s.tidy = true ∧ s.thAllows src = true ∧ s.inNap = false ∧ s.peri.arb = none ∧ s.fiddlehead Twin.a =
      false ∧ s.fiddlehead Twin.b = false ∧ s.active = some w ∧ s.roleOf w.other = Role.ready ∧ s.rb Reg.TWIN_CTL (Fld.rst w) = false ∧ s.rb Reg.TWIN_CTL (Fld.iso w) = false ∧
      s.swapDue = some ⟨w, SwapThen.reset, true⟩) ∧
    (∃ (s : State) (src : Requester) (w : Twin), s.tidy = true ∧ s.thAllows src = true ∧ s.inNap = false ∧ s.peri.arb = none ∧ s.fiddlehead Twin.a =
      false ∧ s.fiddlehead Twin.b = false ∧ s.rb Reg.TWIN_CTL (Fld.rst w) = true ∧ s.rb Reg.TWIN_CTL (Fld.iso w) = false ∧ s.railOff w = false ∧
      s.roleOf w ≠ Role.off ∧ s.roleOf w ≠ Role.isolated ∧ s.swapDue = some ⟨w, SwapThen.reset, true⟩) :=
  ⟨⟨live, .pcie, .b, by decide +kernel⟩,
    ⟨live, .pcie, Twin.a, by decide +kernel⟩,
    ⟨inRst, .pcie, Twin.a, by decide +kernel⟩,
    ⟨inRst, .pcie, .b, by decide +kernel⟩,
    ⟨inIso, .pcie, .b, by decide +kernel⟩,
    ⟨(beside .off), .pcie, .b, by decide +kernel⟩,
    ⟨{live with swapDue := some ⟨.a, .reset, true⟩}, .pcie, .a, by decide +kernel⟩,
    ⟨{live.sb Reg.TWIN_CTL (Fld.rst .a) true with swapDue := some ⟨.a, .reset, true⟩}, .pcie, .a, by decide +kernel⟩⟩

theorem met_TimingSetIsCaptured :
    ∃ (s : State) (src : Requester), s.tidy = true ∧ s.thAllows src = true :=
  ⟨live, .pcie, by decide +kernel⟩

theorem met_LossOfSourceEntersHoldover :
    (∃ (s : State) (n : Fin 4) (src : Requester) (m : Fin 4), s.tidy = true ∧ s.mainOff = false ∧ (s.tbState n = tbLocking ∨ s.tbState n = tbLocked ∨
      s.tbState n = tbSlewing) ∧ s.thAllows src = true ∧ ↑n ≤ 1 ∧ s.tbMode n = 1 ∧ m ≠ n) ∧
    (∃ (s : State) (t : Nat) (n m : Fin 4), s.tidy = true ∧ s.mainOff = false ∧ (s.tbState n = tbLocking ∨ s.tbState n = tbLocked ∨ s.tbState n =
      tbSlewing) ∧ n ≠ 2 ∧ (s.tb n).measAt + s.rf (Reg.TB_TIMEOUT ↑n) Fld.TB_TIMEOUT_MEAS_TO * 1000000 ≤ max s.now t ∧ m ≠ n) ∧
    (∃ (s : State) (t : Nat) (n m : Fin 4), s.tidy = true ∧ s.mainOff = false ∧ (s.tbState n = tbLocking ∨ s.tbState n = tbLocked ∨ s.tbState n =
      tbSlewing) ∧ n = 2 ∧ s.onLtc = true ∧ (s.beginAt t).ltcOver = true ∧ s.tbMode 2 = 1 ∧ s.rf Reg.TB2_LTC_CTL Fld.TB2_LTC_CTL_SRC ≠ 2 ∧ m ≠ n) :=
  ⟨⟨(based 0 1 3), 0, .pcie, 1, by decide +kernel⟩,
    ⟨(based 0 1 3), 60000000000000, 0, 1, by decide +kernel⟩,
    ⟨(based 2 1 3), 60000000000000, 2, 0, by decide +kernel⟩⟩

theorem met_ServoTakesMeasurements :
    (∃ (s : State) (t : Nat) (n : Fin 4) (src : Requester), s.tidy = true ∧ s.thAllows src = true ∧ ↑n ≤ 1 ∧ s.tbMode n = 1 ∧ s.tbState n = tbLocked ∧
      (∀ (o : ℤ) (t0 : ℕ), (s.tb n).last = some (o, t0) → ↑(toSigned 64 (s.rd64 (Reg.TB_MEAS_OFS ↑n)) - predictOfs (s.tb n) o t0 ((s.beginAt t).rawOfTs
      n (s.reg (Reg.TB_MEAS_AT ↑n)).toNat) (s.tb n).servo).natAbs ≤ 1600 * (↑(s.rf (Reg.TB_THRESH ↑n) Fld.TB_THRESH_REJECT) : ℤ))) ∧
    (∃ (s : State) (n : Fin 4) (e : Nat), s.tidy = true ∧ s.tbState n = tbSlewing ∧ (s.tb n).slewEnd = some e) ∧
    (∃ (s : State) (n : Fin 4), s.tidy = true ∧ s.tbState n = tbHoldover ∧ (s.tb n).warned = false ∧ s.mainOff = false) :=
  ⟨⟨(based 0 1 3), 3000000, 0, .pcie, by decide +kernel, by decide +kernel, by decide +kernel, by decide +kernel, by decide +kernel, (fun o t0 h => by
      rw [show ((based 0 1 3).tb 0).last = none by decide +kernel] at h
      cases h)⟩,
    ⟨slewing, 1, 3000000, by decide +kernel⟩,
    ⟨(based 0 1 4), 0, by decide +kernel⟩⟩

theorem met_TimeBasesAreSetAndShown :
    (∃ (s : State) (src : Requester) (n m : Fin 4), s.tidy = true ∧ s.thAllows src = true ∧ n ≠ 3 ∧ s.tbMode n = 0 ∧ s.tbState n ≠ tbHoldover ∧ m ≠ n) ∧
    (∃ (s : State) (src : Requester) (n m : Fin 4), s.tidy = true ∧ s.thAllows src = true ∧ n ≠ 3 ∧ (s.tbMode n = 2 ∨ s.tbMode n = 3) ∧ s.stepAllowed
      n = true ∧ s.mainOff = false ∧ m ≠ n) ∧
    (∃ (s : State), s.tidy = true ∧ s.tbMode 2 ≠ 1 ∧ s.rf Reg.TB2_LTC_CTL Fld.TB2_LTC_CTL_FPS ≤ 5) ∧
    (∃ (s : State) (hz : Nat), s.tidy = true ∧ s.tbMode 2 ≠ 1 ∧ hz < 2 ^ 18) :=
  ⟨⟨(based 0 1 3), .pcie, 1, 0, by decide +kernel⟩,
    ⟨(based 1 2 6), .pcie, 1, 0, by decide +kernel⟩,
    ⟨(based 0 1 3), by decide +kernel⟩,
    ⟨(based 0 1 3), 262143, by decide +kernel⟩⟩

theorem met_TickAdvancesTheNumber :
    ∃ (s : State), s.tidy = true ∧ s.tickArmed = true ∧ s.dev.inReset = false ∧ s.mainOff = false ∧ s.pwr.sleep = none :=
  ⟨ticked, by decide +kernel⟩

theorem met_SwapAndContextResetFallAtTheTick :
    (∃ (s : State) (w : Twin) (host : Bool), s.tidy = true ∧ s.tickArmed = true ∧ s.mainOff = false ∧ s.pwr.sleep = none ∧ s.boot.hand = none ∧
      s.swapDue = some ⟨w, SwapThen.ready, host⟩ ∧ s.active = some w ∧ s.roleOf w.other = Role.ready ∧ s.peri.arb = none) ∧
    (∃ (s : State) (n : Nat), s.tidy = true ∧ s.tickArmed = true ∧ s.mainOff = false ∧ s.pwr.sleep = none ∧ s.boot.hand = none ∧ s.dev.ctxPend = true
      ∧ s.inNap = false ∧ n < 32) ∧
    (∃ (s : State) (a : Nat), s.tidy = true ∧ s.tickArmed = true ∧ s.mainOff = false ∧ s.pwr.sleep = none ∧ s.boot.hand = none ∧ s.dev.ctxPend = true
      ∧ s.inNap = false ∧ 16842496 ≤ a ∧ a < 16842752) ∧
    (∃ (s : State) (a : Nat), s.tidy = true ∧ s.tickArmed = true ∧ s.mainOff = false ∧ s.pwr.sleep = none ∧ s.boot.hand = none ∧ s.dev.ctxPend = true
      ∧ s.inNap = false ∧ 16777216 ≤ a ∧ a < 16842496) :=
  ⟨⟨swapping, Twin.a, true, by decide +kernel⟩,
    ⟨{ctxWaits with tg := ticked.tg}, 31, by decide +kernel⟩,
    ⟨{ctxWaits with tg := ticked.tg}, 0x100FFFF, by decide +kernel⟩,
    ⟨{ctxWaits with tg := ticked.tg}, 0x1000000, by decide +kernel⟩⟩

theorem met_FrameAccountsFollowTheCompute :
    (∃ (s : State) (t : Nat) (w : Twin) (f : FrameAcct) (i : Nat), s.tidy = true ∧ s.computing w = some f ∧ max s.now t < s.deadlineRaw ∧ i <
      s.stripeCount w ∧ i = f.stripes.length) ∧
    (∃ (s : State) (t : Nat) (w : Twin) (f : FrameAcct), s.tidy = true ∧ s.computing w = some f ∧ max s.now t < s.deadlineRaw ∧ f.patched = none) ∧
    (∃ (s : State) (t : Nat) (w : Twin) (f : FrameAcct) (key : SliceKey), s.tidy = true ∧ s.computing w = some f ∧ max s.now t < s.deadlineRaw ∧
      s.sliceDue w f (sliceKeyNat key) = true) ∧
    (∃ (s : State) (w : Twin) (f : FrameAcct), s.tidy = true ∧ s.tg.ran = true ∧ s.tg.dlDone = false ∧ s.computes w = true ∧ s.frame w s.tg.cur.k =
      some f) :=
  ⟨⟨compute, 3000000, .a, acct 5, 0, by decide +kernel⟩,
    ⟨compute, 3000000, .a, acct 5, by decide +kernel⟩,
    ⟨compute, 3000000, .a, acct 5, (.port 0), by decide +kernel⟩,
    ⟨compute, .a, acct 5, by decide +kernel⟩⟩

theorem met_EmissionLatchAndRecord :
    (∃ (s : State) (key : SliceKey) (k start : Nat) (w : Twin) (f : FrameAcct), s.tidy = true ∧ s.emitDue (sliceKeyNat key) = some (k, start) ∧
      (s.latchDue = none ∨ s.latchDue = some k) ∧ (∀ (w : Twin) (e : Fin 16384), key = SliceKey.univ e → s.outDest w ↑e ≠ 2 ∧ (s.tw w).oldEnts = [])
      ∧ s.computes w = true ∧ s.frame w k = some f) ∧
    (∃ (s : State) (k : Nat), s.tidy = true ∧ s.latchDue = some k ∧ s.boot.hand = none ∧ s.peri.arb = none ∧ s.peri.shifts = []) ∧
    (∃ (s : State) (w : Twin) (f : FrameAcct), s.tidy = true ∧ s.computes w = true ∧ (List.find? (fun (f : FrameAcct) => f.latchRaw.isSome) (s.tw
      w).frames = some f)) :=
  ⟨⟨sliced, (.port 0), 5, 950000, .a, { acct 5 with stripes := [0], slices := [⟨0, [], 950000, [], [], 0, []⟩] }, by decide +kernel, by decide +kernel,
      by decide +kernel, (fun _ _ h => nomatch h), by decide +kernel, by decide +kernel⟩,
    ⟨latching, 4, by decide +kernel⟩,
    ⟨latched, .a, { acct 5 with latchRaw := some 950000 }, by decide +kernel⟩⟩

theorem met_LoadedImageArmsTheTick :
    ∃ (s : State) (w : Twin), s.tidy = true ∧ s.active = some w ∧ s.dev.inReset = false ∧ s.pwr.saved = none ∧ s.rf Reg.REJ_LOAD_STAT
      Fld.REJ_LOAD_STAT_SRC = 3 :=
  ⟨loading, Twin.a, by decide +kernel⟩

theorem met_GraftStages :
    (∃ (s : State) (via : Via) (w : Twin), s.tidy = true ∧ s.inNap = false ∧ w ∈ (s.reach via).1 ∧ s.computes w = true ∧ s.graftState w = 0) ∧
    (∃ (s : State) (via : Via) (w : Twin), s.tidy = true ∧ s.inNap = false ∧ w ∈ (s.reach via).1 ∧ (s.graftState w = 1 ∨ s.graftState w = 2) ∧ (s.tw
      w).graft.isSome = true) ∧
    (∃ (s : State) (w : Twin) (g : Graft), s.tidy = true ∧ (s.tw w).graft = some g ∧ s.graftState w = 1 ∧ s.computes w = true ∧ g.bad = none ∧ (s.active ≠ some w ∨
      s.graftBehind w = false)) ∧
    (∃ (s : State) (w : Twin) (g : Graft) (b : Nat × Nat × Nat), s.tidy = true ∧ (s.tw w).graft = some g ∧ s.graftState w = 1 ∧ s.computes w = true ∧ g.bad = some b) ∧
    (∃ (s : State) (w : Twin), s.tidy = true ∧ s.graftState w = 3) ∧
    (∃ (s : State) (w : Twin) (g : Graft), s.tidy = true ∧ (s.tw w).graft = some g ∧ s.graftState w = 1 ∧ s.computes w = false) :=
  ⟨⟨live, .mirror, .a, by decide +kernel⟩,
    ⟨(grafting 1 none), .mirror, .a, by decide +kernel⟩,
    ⟨(grafting 1 none), .a, ⟨[], none, none, [], [], 0⟩, by decide +kernel⟩,
    ⟨(grafting 1 (some (5,6,7))), .a, ⟨[], some (5, 6, 7), none, [], [], 0⟩, (5, 6, 7), by decide +kernel⟩,
    ⟨(grafting 3 none), .a, by decide +kernel⟩,
    ⟨{grafting 1 none with role := ⟨.active, .resync⟩}, .b, ⟨[], none, none, [], [], 0⟩, by decide +kernel⟩⟩

theorem met_LayersCommitAndBulkWritesSpareSlots :
    (∃ (s : State) (t : Nat) (v : Word) (w : Twin) (l : Nat) (via : Via), s.tidy = true ∧ w ∈ (s.reach via).1 ∧ l < 16 ∧ bitAt (getFld v
      Fld.LAYER_CMT_MASK) l = true ∧ s.setRefused w l (s.shadowSet w l) = false ∧ (s.beginAt t).lateNow w = false) ∧
    (∃ (s : State) (t : Nat) (v : Word) (w : Twin) (l : Nat) (via : Via), s.tidy = true ∧ w ∈ (s.reach via).1 ∧ l < 16 ∧ bitAt (getFld v
      Fld.LAYER_CMT_MASK) l = true ∧ s.setRefused w l (s.shadowSet w l) = false ∧ (s.beginAt t).lateNow w = true) ∧
    (∃ (s : State) (t : Nat) (v : Word) (w : Twin) (l : Nat) (src : Requester), s.tidy = true ∧ s.thAllows src = true ∧ w ∈ (s.reach Via.mirror).1 ∧ l
      = getFld v Fld.LAYER_RELAY_LAYER ∧ s.setRefused w l ⟨none, some (getFld v Fld.LAYER_RELAY_SLOT)⟩ = false ∧ (s.beginAt t).lateNow w = false) ∧
    (∃ (s : State) (t : Nat) (v : Word) (w : Twin) (l : Nat) (src : Requester), s.tidy = true ∧ s.thAllows src = true ∧ w ∈ (s.reach Via.mirror).1 ∧ l
      = getFld v Fld.LAYER_RELAY_LAYER ∧ s.setRefused w l ⟨none, some (getFld v Fld.LAYER_RELAY_SLOT)⟩ = false ∧ (s.beginAt t).lateNow w = true) ∧
    (∃ (s : State) (t off : Nat) (bytes : List Byte) (w : Twin) (i : Nat), s.tidy = true ∧ off + bytes.length ≤ 34359738368 ∧ w ∈ (s.reach
      Via.mirror).1 ∧ (¬∃ (l : ℕ) (i : ℕ), l < 16 ∧ (s.beginAt t).inUse w l = some i ∧ s.touches w l i off bytes.length = true) ∧ i < bytes.length ∧
      dramHost (off + i) = true) ∧
    (∃ (s : State) (t off : Nat) (bytes : List Byte) (w : Twin), s.tidy = true ∧ off + bytes.length ≤ 34359738368 ∧ w ∈ (s.reach Via.mirror).1 ∧ (∃ (l
      : ℕ) (i : ℕ), l < 16 ∧ (s.beginAt t).inUse w l = some i ∧ s.touches w l i off bytes.length = true)) ∧
    (∃ (s : State) (t off : Nat) (bytes : List Byte) (w : Twin) (x : Nat), s.tidy = true ∧ off + bytes.length ≤ 34359738368 ∧ x < 68719476736 ∧ (w ∉
      (s.reach Via.mirror).1 ∨ (∃ (l : ℕ) (i : ℕ), l < 16 ∧ (s.beginAt t).inUse w l = some i ∧ s.touches w l i off bytes.length = true) ∨ x < off ∨
      off + bytes.length ≤ x ∨ dramHost x = false)) ∧
    (∃ (s : State) (t off : Nat) (bytes : List Byte) (w : Twin) (i : Nat), s.tidy = true ∧ off + bytes.length ≤ 34359738368 ∧
      (∀ w, (s.beginAt t).hitSlots w (List.range 16) off bytes.length = []) ∧ w ∈ (s.reach Via.mirror).1 ∧ i < bytes.length ∧ dramHost (off + i) = true) ∧
    (∃ (s : State) (t : Nat) (via : Via) (w : Twin), s.tidy = true ∧ w ∈ (s.reach via).1 ∧ s.now < t ∧ throughMirror via = true) ∧
    (∃ (s : State) (t : Nat) (via : Via) (w : Twin), s.tidy = true ∧ w ∈ (s.reach via).1 ∧ s.now < t ∧ throughMirror via = false) :=
  ⟨⟨showing, 3000000, 1, .a, 0, .mirror, by decide +kernel⟩,
    ⟨{ringed with tg := ticked.tg}, 0x700000000, 1, .a, 0, .mirror, by decide +kernel⟩,
    ⟨showing, 3000000, 0, .a, 0, .pcie, by decide +kernel⟩,
    ⟨{ringed with tg := ticked.tg}, 0x700000000, 0, .a, 0, .pcie, by decide +kernel⟩,
    ⟨live, 3000000, 3000000, [1,2,3], .a, 0, by decide +kernel, by decide +kernel, by decide +kernel, (fun ⟨l, i, h, h1, _⟩ => by
        have k : ∀ l < 16, (live.beginAt 3000000).inUse .a l = none := by decide +kernel
        rw [k l h] at h1
        cases h1), by decide +kernel, by decide +kernel⟩,
    ⟨showing, 64, 64, [1,2,3], .a, by decide +kernel, by decide +kernel, by decide +kernel, ⟨0, 1, by decide +kernel⟩⟩,
    ⟨live, 3000000, 3000000, [], .a, 3000000, by decide +kernel, by decide +kernel, by decide +kernel, .inr (.inr (.inr (.inl (by decide +kernel))))⟩,
    ⟨live, 3000000, 3000000, [1,2,3], .a, 2, by decide +kernel, by decide +kernel, bothTwins (by decide +kernel) (by decide +kernel), by decide +kernel,
      by decide +kernel, by decide +kernel⟩,
    ⟨live, 3000000, .mirror, .a, by decide +kernel⟩,
    ⟨live, 3000000, .priv .a, .a, by decide +kernel⟩⟩

theorem met_MastersZonesAndCurvesChange :
    (∃ (s : State) (t : Nat) (w : Twin) (via : Via) (v : Word), s.tidy = true ∧ w ∈ (s.reach via).1 ∧ getFld v Fld.COLR_CMT_GO = 1 ∧ s.mastersRefused
      w (s.masterSet w) = false ∧ (s.beginAt t).lateNow w = false) ∧
    (∃ (s : State) (t : Nat) (w : Twin) (via : Via) (v : Word), s.tidy = true ∧ w ∈ (s.reach via).1 ∧ getFld v Fld.COLR_CMT_GO = 1 ∧ s.mastersRefused
      w (s.masterSet w) = false ∧ (s.beginAt t).lateNow w = true) ∧
    (∃ (s : State) (w : Twin) (via : Via), s.tidy = true ∧ w ∈ (s.reach via).1 ∧ s.rf (Reg.COLR_ZONE_SEL w) Fld.COLR_ZONE_SEL_ZONE ∈ s.usedZones w) ∧
    (∃ (s : State) (w : Twin) (z : Fin 4096) (x : Zone) (y : Nat), s.tidy = true ∧ s.zone w ↑z = some x ∧ s.tg.ran = true ∧ x.fresh = false ∧ x.st = 0
      ∧ s.profGlobal w 0 ≤ x.ticks + 1 ∧ s.reportDue w ↑z = false ∧ y ≠ ↑z) ∧
    (∃ (s : State) (w : Twin) (z : Fin 4096) (x : Zone) (y : Nat), s.tidy = true ∧ s.zone w ↑z = some x ∧ s.tg.ran = true ∧ x.fresh = false ∧ x.st = 1
      ∧ rhoAt (x.ticks + 1) s.tg.cur.num s.tg.cur.den = 1024 ∧ y ≠ ↑z) ∧
    (∃ (s : State) (w : Twin) (pos : Nat) (bad : List Upset) (m : Nat), s.tidy = true ∧ s.rb (Reg.CURV_CFG w) Fld.CURV_CFG_SCRUB_EN = true ∧ s.nextScrub
      w (s.tw w).curves.pos = some pos ∧ (upsetPoint w (pos / 1024) (pos % 1024) bad s).majority w (pos / 1024) (pos % 1024) = some m ∧ m < 2 ^ 20 ∧
      ((upsetPoint w (pos / 1024) (pos % 1024) bad s).replicas w (pos / 1024) (pos % 1024)).all (fun r => decide (r = (m, true))) = true) ∧
    (∃ (s : State) (w : Twin) (pos : Nat) (bad : List Upset) (m : Nat), s.tidy = true ∧ s.rb (Reg.CURV_CFG w) Fld.CURV_CFG_SCRUB_EN = true ∧ s.nextScrub
      w (s.tw w).curves.pos = some pos ∧ (upsetPoint w (pos / 1024) (pos % 1024) bad s).majority w (pos / 1024) (pos % 1024) = some m ∧ m < 2 ^ 20 ∧
      ((upsetPoint w (pos / 1024) (pos % 1024) bad s).replicas w (pos / 1024) (pos % 1024)).all (fun r => decide (r = (m, true))) = false) ∧
    (∃ (s : State) (w : Twin) (pos : Nat) (bad : List Upset), s.tidy = true ∧ s.rb (Reg.CURV_CFG w) Fld.CURV_CFG_SCRUB_EN = true ∧ s.nextScrub w (s.tw
      w).curves.pos = some pos ∧ (upsetPoint w (pos / 1024) (pos % 1024) bad s).majority w (pos / 1024) (pos % 1024) = none ∧ s.roleOf w ≠ Role.off ∧
      s.roleOf w ≠ Role.isolated) ∧
    (∃ (s : State) (w : Twin) (slot : Fin 256), s.tidy = true ∧ ↑slot ∈ (s.tw w).curves.writing) ∧
    (∃ (s : State) (t : Nat) (w : Twin) (slot : Fin 256) (pt : LaneRead), s.tidy = true ∧ ↑slot ∉ (s.tw w).curves.writing ∧
      (upsetPoint w slot.val pt.point.val pt.upsets (s.beginAt t)).laneHolds w slot.val pt.point.val pt.lane.val = 1) :=
  ⟨⟨live, 3000000, .a, .mirror, 1, by decide +kernel⟩,
    ⟨{ticked with tg := {ticked.tg with next := 1000500}}, 3000000, .a, .mirror, 1, by decide +kernel⟩,
    ⟨((zoned Zone.reset).sf (Reg.COLR_ZONE_SEL .a) Fld.COLR_ZONE_SEL_ZONE 7), .a, .mirror, by decide +kernel⟩,
    ⟨(zoned Zone.reset), .a, 7, ⟨0, none, 0, 0, none, 0, 0, none, 0, 0, false, false⟩, 3000000, by decide +kernel⟩,
    ⟨(zoned {Zone.reset with st := 1, ticks := 5000}), .a, 7, ⟨1, none, 0, 0, none, 5000, 0, none, 0, 0, false, false⟩, 3000000, by decide +kernel⟩,
    ⟨live, .a, 0, [], 0, by decide +kernel⟩,
    ⟨live, .a, 0, [⟨3, 1, true⟩], 0, by decide +kernel⟩,
    ⟨{live with a := {live.a with curves := {live.a.curves with pos := 4096}}}, .a, 4096, [⟨0, 1, true⟩, ⟨1, 2, true⟩, ⟨2, 3, true⟩, ⟨7, 0, false⟩], by decide +kernel⟩,
    ⟨{live with a := {live.a with curves := {live.a.curves with writing := [7]}}}, .a, 7, by decide +kernel⟩,
    ⟨live, 5, .a, 7, ⟨1023, 7, [⟨7, 1, false⟩]⟩, by decide +kernel⟩⟩

theorem met_NetworkLinksAndTransmitRings :
    (∃ (s : State) (n : Fin 4) (w : Twin), s.tidy = true ∧ s.roleOf w ≠ Role.off ∧ s.netMode w ↑n ≠ 0 ∧ s.rb (Reg.NET_LINK w ↑n) Fld.NET_LINK_LINK_UP
      = false) ∧
    (∃ (s : State) (n : Fin 4) (w : Twin) (hiBer : Bool), s.tidy = true ∧ s.roleOf w ≠ Role.off ∧ s.rb (Reg.NET_LINK w ↑n) Fld.NET_LINK_LINK_UP = true
      ∧ hiBer = true) ∧
    (∃ (s : State) (n : Fin 4) (w : Twin) (hiBer : Bool), s.tidy = true ∧ s.roleOf w ≠ Role.off ∧ s.rb (Reg.NET_LINK w ↑n) Fld.NET_LINK_LINK_UP = true
      ∧ hiBer = false) ∧
    (∃ (s : State) (w : Twin) (n : Fin 4) (via : Via), s.tidy = true ∧ w ∈ (s.reach via).1 ∧ s.rb (Reg.NET_LINK w ↑n) Fld.NET_LINK_LINK_UP = true) ∧
    (∃ (s : State) (w : Twin) (n : Fin 4) (via : Via), s.tidy = true ∧ w ∈ (s.reach via).1 ∧ s.rb (Reg.NET_LINK w ↑n) Fld.NET_LINK_LINK_UP = false) ∧
    (∃ (s : State) (w : Twin) (n : Fin 4), s.tidy = true ∧ s.netStopped = false ∧ s.takesMirror w = true ∧ s.rf (Reg.NET_TX_HEAD w ↑n)
      Fld.NET_TX_HEAD_HEAD ≠ s.rf (Reg.NET_TX_TAIL w ↑n) Fld.NET_TX_TAIL_TAIL ∧ (s.rdLE (txDesc w (↑n) (s.rf (Reg.NET_TX_HEAD w ↑n)
      Fld.NET_TX_HEAD_HEAD) + 4) 2 < 60 ∨ s.netMaxLen w ↑n < s.rdLE (txDesc w (↑n) (s.rf (Reg.NET_TX_HEAD w ↑n) Fld.NET_TX_HEAD_HEAD) + 4) 2 + 4)) ∧
    (∃ (s : State) (w : Twin) (n : Fin 4), s.tidy = true ∧ s.netStopped = false ∧ s.takesMirror w = true ∧ s.rf (Reg.NET_TX_HEAD w ↑n)
      Fld.NET_TX_HEAD_HEAD ≠ s.rf (Reg.NET_TX_TAIL w ↑n) Fld.NET_TX_TAIL_TAIL ∧ 60 ≤ s.rdLE (txDesc w (↑n) (s.rf (Reg.NET_TX_HEAD w ↑n)
      Fld.NET_TX_HEAD_HEAD) + 4) 2 ∧ s.rdLE (txDesc w (↑n) (s.rf (Reg.NET_TX_HEAD w ↑n) Fld.NET_TX_HEAD_HEAD) + 4) 2 + 4 ≤ s.netMaxLen w ↑n ∧ s.rb
      (Reg.NET_LINK w ↑n) Fld.NET_LINK_LINK_UP = false) ∧
    (∃ (s : State) (w : Twin) (n : Fin 4), s.tidy = true ∧ s.netStopped = false ∧ s.takesMirror w = true ∧ s.rf (Reg.NET_TX_HEAD w ↑n)
      Fld.NET_TX_HEAD_HEAD ≠ s.rf (Reg.NET_TX_TAIL w ↑n) Fld.NET_TX_TAIL_TAIL ∧ 60 ≤ s.rdLE (txDesc w (↑n) (s.rf (Reg.NET_TX_HEAD w ↑n)
      Fld.NET_TX_HEAD_HEAD) + 4) 2 ∧ s.rdLE (txDesc w (↑n) (s.rf (Reg.NET_TX_HEAD w ↑n) Fld.NET_TX_HEAD_HEAD) + 4) 2 + 4 ≤ s.netMaxLen w ↑n ∧ s.rb
      (Reg.NET_LINK w ↑n) Fld.NET_LINK_LINK_UP = true ∧ s.active = some w) ∧
    (∃ (s : State) (t : Nat) (w : Twin) (n : Fin 4), s.tidy = true ∧ s.netStopped = false ∧ s.takesMirror w = true ∧ s.rf (Reg.NET_TX_HEAD w ↑n)
      Fld.NET_TX_HEAD_HEAD ≠ s.rf (Reg.NET_TX_TAIL w ↑n) Fld.NET_TX_TAIL_TAIL ∧ (∀ y : Twin, ∀ r ∈ (s.tw y).net.reports, r.port = n.val → max s.now t
      ≤ r.due)) ∧
    (∃ (s : State) (t : Nat) (w : Twin) (n : Fin 4) (r : Report) (rest : List Report), s.tidy = true ∧ (List.filter (fun (r : Report) => decide
      (r.port = ↑n) && decide (r.due ≤ max s.now t)) (s.tw w).net.reports = r :: rest) ∧ s.rb (Reg.NET_LINK w ↑n) Fld.NET_LINK_LINK_UP = false) ∧
    (∃ (s : State) (t : Nat) (w : Twin) (n : Fin 4) (r : Report) (rest : List Report) (x : JoinRec), s.tidy = true ∧ (List.filter (fun (r : Report) =>
      decide (r.port = ↑n) && decide (r.due ≤ max s.now t)) (s.tw w).net.reports = r :: rest) ∧ r.records = some [x] ∧ x.group.length = (if r.v6 =
      true then 16 else 4) ∧ Smap.get 0 (s.tw w).net.older (2 * ↑n + if r.v6 = true then 1 else 0) ≤ max s.now t ∧ s.rb (Reg.NET_LINK w ↑n)
      Fld.NET_LINK_LINK_UP = true ∧ s.active = some w) :=
  ⟨⟨(netted false), 0, .a, by decide +kernel⟩,
    ⟨(netted true), 0, .a, true, by decide +kernel⟩,
    ⟨(netted true), 0, .a, false, by decide +kernel⟩,
    ⟨(netted true), .a, 0, .mirror, by decide +kernel⟩,
    ⟨live, .a, 0, .mirror, by decide +kernel⟩,
    ⟨(sending true 59), .a, 0, by decide +kernel⟩,
    ⟨(sending false 60), .a, 0, by decide +kernel⟩,
    ⟨(sending true 60), Twin.a, 0, by decide +kernel⟩,
    ⟨(sending true 60), 3000000, Twin.a, 0, by decide +kernel, by decide +kernel, by decide +kernel, by decide +kernel, bothTwins (by decide +kernel) (by
      decide +kernel)⟩,
    ⟨(reporting false), 3000000, .a, 0, ⟨0, 900000, false, false, some [⟨2, [0xef#8, 0xff#8, 0x00#8, 0x01#8], []⟩]⟩, [], by decide +kernel⟩,
    ⟨(reporting true), 3000000, Twin.a, 0, ⟨0, 900000, false, false, some [⟨2, [0xef#8, 0xff#8, 0x00#8, 0x01#8], []⟩]⟩, [], ⟨2, [0xef#8, 0xff#8,
      0x00#8, 0x01#8], []⟩, by decide +kernel⟩⟩

theorem met_ReceivedFrameIsClassified :
    (∃ (s : State), s.tidy = true ∧ s.netStopped = true) ∧
    (∃ (s : State) (n : Fin 4) (bytes : List Byte) (w : Twin), s.tidy = true ∧ s.netStopped = false ∧ s.roleOf w ≠ Role.off ∧ s.netMode w ↑n ≠ 0 ∧
      s.rb (Reg.NET_LINK w ↑n) Fld.NET_LINK_LINK_UP = true ∧ bytes.length < 64) ∧
    (∃ (s : State) (n : Fin 4) (good : Bool) (bytes : List Byte) (w : Twin), s.tidy = true ∧ s.netStopped = false ∧ s.roleOf w ≠ Role.off ∧ s.netMode
      w ↑n ≠ 0 ∧ s.rb (Reg.NET_LINK w ↑n) Fld.NET_LINK_LINK_UP = true ∧ 64 ≤ bytes.length ∧ good = false) ∧
    (∃ (s : State) (n : Fin 4) (good : Bool) (bytes : List Byte) (w : Twin), s.tidy = true ∧ s.netStopped = false ∧ s.roleOf w ≠ Role.off ∧ s.netMode
      w ↑n ≠ 0 ∧ s.rb (Reg.NET_LINK w ↑n) Fld.NET_LINK_LINK_UP = true ∧ 64 ≤ bytes.length ∧ good = true ∧ 2 ≤ (parse bytes).tags) ∧
    (∃ (s : State) (n : Fin 4) (good : Bool) (bytes : List Byte) (w : Twin), s.tidy = true ∧ s.netStopped = false ∧ s.roleOf w ≠ Role.off ∧ s.netMode
      w ↑n ≠ 0 ∧ s.rb (Reg.NET_LINK w ↑n) Fld.NET_LINK_LINK_UP = true ∧ 64 ≤ bytes.length ∧ good = true ∧ (parse bytes).tags < 2 ∧ (parse bytes).etype
      = 34824) ∧
    (∃ (s : State) (n : Fin 4) (good : Bool) (bytes : List Byte) (w : Twin) (e o : Nat), s.tidy = true ∧ s.netStopped = false ∧ s.roleOf w ≠ Role.off ∧ s.netMode w ↑n ≠ 0 ∧ s.rb (Reg.NET_LINK w ↑n) Fld.NET_LINK_LINK_UP = true ∧ s.roleOf w.other = Role.off ∧ 64 ≤ bytes.length ∧ good = true ∧
      (parse bytes).tags < 2 ∧ (parse bytes).etype ≠ 34824 ∧ s.macPasses w (↑n) bytes = true ∧ bytes.length ≤ s.netMaxLen w ↑n ∧ s.classify w (↑n)
      bytes = Consumer.sacn ∧ sacnKind (slice bytes ((parse bytes).body + 8) (beAt bytes ((parse bytes).body + 4) 2 - 8)) = SacnKind.data ∧
      (List.find? (fun (e : ℕ) => decide (s.ent w 5 1 e 0 2 = beAt (slice bytes ((parse bytes).body + 8) (beAt bytes ((parse bytes).body + 4) 2 - 8))
      113 2) && bitAt (s.ent w 5 1 e 2 1) ↑n) (s.usedEntries w 5 1) = some e) ∧ bitAt (byteAt (slice bytes ((parse bytes).body + 8) (beAt bytes
      ((parse bytes).body + 4) 2 - 8)) 112) 7 = false ∧ bitAt (byteAt (slice bytes ((parse bytes).body + 8) (beAt bytes ((parse bytes).body + 4) 2 -
      8)) 112) 6 = false ∧ bitAt (s.ent w 5 1 e 3 1) 1 = false ∧ (s.univ w e).srcs = [] ∧ o ≠ e) :=
  ⟨⟨((netted true).sf Reg.PWR_STAT Fld.PWR_STAT_STATE 3), by decide +kernel⟩,
    ⟨(netted true), 0, (ether 0x0800 63), .a, by decide +kernel⟩,
    ⟨(netted true), 0, false, (ether 0x0806 64), .a, by decide +kernel⟩,
    ⟨(netted true), 0, true, (List.replicate 12 0xFF ++ [0x81,0,0,0,0x81,0]++List.replicate 60 0), .a, by decide +kernel⟩,
    ⟨(netted true), 0, true, (ether 0x8808 64), .a, by decide +kernel⟩,
    ⟨uni, 0, true, e131, .a, 0, 3000000, by decide +kernel⟩⟩

theorem met_LossesAreMarked :
    (∃ (s : State) (t : Nat) (w : Twin) (e : Nat), s.tidy = true ∧ (Smap.wf (fun (x : ℕ) => Univ.empty) (s.tw w).net.univ = true) ∧ (s.univ w e).srcs
      ≠ [] ∧ (∀ y ∈ (s.univ w e).srcs, y.heard + sacnTimeout ≤ (s.beginAt t).tbNow 3) ∧ (s.tw w).marked 43 = false) ∧
    (∃ (s : State) (t : Nat) (w : Twin) (e : Nat) (y : SacnSrc) (p : SacnPend), s.tidy = true ∧ (Smap.wf (fun (x : ℕ) => Univ.empty) (s.tw w).net.univ
      = true) ∧ y ∈ (s.univ w e).srcs ∧ y.pend = some p ∧ p.since + sacnTimeout ≤ (s.beginAt t).tbNow 3 ∧ (s.univ w e).syncLost = false ∧ (s.tw
      w).marked 45 = false) ∧
    (∃ (s : State) (t : Nat) (w : Twin) (f : Fin 8), s.tidy = true ∧ s.flowOn w ↑f = true ∧ (s.flow w ↑f).st = 2 ∧ (s.flow w ↑f).doneAt + 1000000000 ≤
      (s.beginAt t).tbNow 3) ∧
    (∃ (s : State) (w : Twin), s.tidy = true ∧ (Smap.wf (fun (x : ℕ) => Univ.empty) (s.tw w).net.univ = true) ∧ (s.tw w).net.lost ≠ 0) :=
  ⟨⟨sourced, 2500000005, .a, 0, by decide +kernel⟩,
    ⟨sourced, 2500000005, .a, 0, (⟨9, 1, 100, 5, true, [1], some ⟨100, [2], 5, false⟩⟩), ⟨100, [0x02#8], 5, false⟩, by decide +kernel⟩,
    ⟨flowing, 2500000004, .a, 0, by decide +kernel⟩,
    ⟨(live.modNet .a (fun x => { x with lost := 1 })), .a, by decide +kernel⟩⟩

theorem met_EnumerationIsRequestedAndStarts :
    (∃ (s : State) (w : Twin) (p : Fin 128) (via : Via), s.tidy = true ∧ s.personality w ↑p = 1 ∧ w ∈ (s.reach via).1) ∧
    (∃ (s : State) (w : Twin) (p : Fin 128), s.tidy = true ∧ s.personality w ↑p = 1 ∧ (s.strand w ↑p).enumReq = true ∧ s.roleOf w ≠ Role.off ∧ s.active = some w ∧ s.portShut = false) ∧
    (∃ (s : State) (w : Twin) (p : Fin 128), s.tidy = true ∧ s.personality w ↑p = 1 ∧ (s.strand w ↑p).enumReq = true ∧ s.roleOf w ≠ Role.off ∧ s.portShut = true) :=
  ⟨⟨(strung Strand.reset), .a, 0, .mirror, by decide +kernel⟩,
    ⟨(strung {Strand.reset with enumReq := true}), Twin.a, 0, by decide +kernel⟩,
    ⟨(strung {Strand.reset with enumReq := true}).sb Reg.OUT_CTL Fld.OUT_CTL_HOLD true, Twin.a, 0, by decide +kernel⟩⟩

theorem met_EnumerationTakesReplies :
    (∃ (s : State) (t : Nat) (w : Twin) (p : Fin 128) (r : EnumRun) (bytes : List Byte), s.tidy = true ∧ s.roleOf w ≠ Role.off ∧ (s.strand w ↑p).run = some r ∧
      bytes.length = 16 ∧ byteAt bytes 0 = 129 ∧ r.step = 3 ∧ byteAt bytes 1 = 1 ∧ r.at_ ≤ max s.now t ∧ max s.now t ≤ r.at_ + 5000000) ∧
    (∃ (s : State) (t : Nat) (w : Twin) (p : Fin 128) (r : EnumRun) (bytes : List Byte) (a start : Nat) (rest : List (Nat × Nat)), s.tidy = true ∧ s.roleOf w ≠
      Role.off ∧ (s.strand w ↑p).run = some r ∧ bytes.length = 16 ∧ byteAt bytes 0 = 129 ∧ r.step = 6 ∧ byteAt bytes 1 = 3 ∧ r.todo = (a, start) ::
      rest ∧ beAt bytes 2 2 = a ∧ r.at_ ≤ max s.now t ∧ max s.now t ≤ r.at_ + 50000) ∧
    (∃ (s : State) (w : Twin) (p : Fin 128) (r : EnumRun), s.tidy = true ∧ s.roleOf w ≠ Role.off ∧ (s.strand w ↑p).run = some r ∧ r.step = 3 ∧
      r.counts = []) ∧
    (∃ (s : State) (w : Twin) (p : Fin 128) (r : EnumRun) (b hop : Nat), s.tidy = true ∧ s.roleOf w ≠ Role.off ∧ (s.strand w ↑p).run = some r ∧ r.step
      = 3 ∧ r.counts = [(b, hop)] ∧ s.prnHub w ↑p = false ∧ hop + 1 ≤ 1024) ∧
    (∃ (s : State) (w : Twin) (p : Fin 128) (r : EnumRun), s.tidy = true ∧ s.roleOf w ≠ Role.off ∧ (s.strand w ↑p).run = some r ∧ r.step = 6 ∧ r.fault
      = false) ∧
    (∃ (s : State) (t : Nat) (w : Twin) (p : Fin 128) (r : EnumRun), s.tidy = true ∧ s.roleOf w ≠ Role.off ∧ (s.strand w ↑p).run = some r ∧ r.step = 7 ∧ r.at_ ≤ max s.now t ∧
      (Smap.wf (fun (x : ℕ) => Strand.reset) (s.tw w).strands = true) ∧ r.nodes.length ≤ 4096) ∧
    (∃ (s : State) (t : Nat) (w : Twin) (p : Fin 128) (r : EnumRun), s.tidy = true ∧ s.roleOf w ≠ Role.off ∧ (s.strand w ↑p).run = some r ∧ r.step = 7 ∧ r.at_ ≤ max s.now t ∧
      (Smap.wf (fun (x : ℕ) => Strand.reset) (s.tw w).strands = true) ∧ r.fault = false ∧ s.rb (Reg.STRD_EVT_CTL w ↑p) Fld.STRD_EVT_CTL_DONE_EN =
      true) ∧
    (∃ (s : State) (t : Nat) (w : Twin) (p : Fin 128) (r : EnumRun) (bytes : List Byte), s.tidy = true ∧ s.roleOf w ≠ Role.off ∧ (s.strand w ↑p).run =
      some r ∧ bytes.length = 16 ∧ byteAt bytes 0 = 129 ∧ r.at_ + 5000000 < max s.now t) ∧
    (∃ (s : State) (t : Nat) (w : Twin) (p : Fin 128) (r : EnumRun), s.tidy = true ∧ s.roleOf w ≠ Role.off ∧ (s.strand w ↑p).run = some r ∧ max s.now t <
      r.at_) :=
  ⟨⟨(enuming 3 [] [] false), 5900000, .a, 0, ⟨3, 900000, [], false, 0, [], [], 0, [], false⟩, ([0x81,1,0,0,0,7]++List.replicate 10 0), by decide +kernel⟩,
    ⟨{enuming 6 [] [(2,0),(3,0)] false with now := 900000}, 950000, .a, 0, ⟨6, 900000, [], false, 0, [(2, 0), (3, 0)], [], 0, [], false⟩, ([0x81,3,0,2]++List.replicate 12 0), 2, 0,
      ([(3, 0)]), by decide +kernel⟩,
    ⟨(enuming 3 [] [] false), .a, 0, ⟨3, 900000, [], false, 0, [], [], 0, [], false⟩, by decide +kernel⟩,
    ⟨(enuming 3 [(0,4)] [] false), .a, 0, ⟨3, 900000, [(0, 4)], false, 0, [], [], 0, [], false⟩, 0, 4, by decide +kernel⟩,
    ⟨(enuming 6 [] [(2,0),(3,0)] false), .a, 0, ⟨6, 900000, [], false, 0, [(2, 0), (3, 0)], [], 0, [], false⟩, by decide +kernel⟩,
    ⟨(enuming 7 [] [] false), 5, .a, 0, ⟨7, 900000, [], false, 0, [], [], 0, [], false⟩, by decide +kernel⟩,
    ⟨(enuming 7 [] [] false), 5, .a, 0, ⟨7, 900000, [], false, 0, [], [], 0, [], false⟩, by decide +kernel⟩,
    ⟨(enuming 3 [] [] false), 5900001, .a, 0, ⟨3, 900000, [], false, 0, [], [], 0, [], false⟩, ([0x81,1,0,0,0,7]++List.replicate 10 0), by decide +kernel⟩,
    ⟨{enuming 7 [] [] false with now := 5}, 899999, .a, 0, ⟨7, 900000, [], false, 0, [], [], 0, [], false⟩, by decide +kernel⟩⟩

theorem met_UpstreamSlotsAreJudged :
    (∃ (s : State) (t : Nat) (w : Twin) (p : Fin 128) (pl : Poll) (slot addr : Nat) (bytes : List Byte), s.tidy = true ∧ s.roleOf w ≠ Role.off ∧
      (s.strand w ↑p).poll = some pl ∧ pl.owner slot = some addr ∧ bytes.length = 24 ∧ byteAt bytes 0 = 133 ∧ beAt bytes 2 2 = addr ∧ s.slotAtPoll w
      (↑p) pl slot ≤ max s.now t ∧ max s.now t + 30 * s.upChar w ↑p ≤ s.slotAtPoll w (↑p) pl slot + s.slotTime w ↑p ∧ (bitAt (byteAt bytes 1) 0 = true
      ∨ bitAt (byteAt bytes 1) 1 = true ∨ bitAt (byteAt bytes 1) 5 = true)) ∧
    (∃ (s : State) (w : Twin) (p : Fin 128) (pl : Poll) (slot addr : Nat) (bytes : List Byte), s.tidy = true ∧ s.roleOf w ≠ Role.off ∧ (s.strand w
      ↑p).poll = some pl ∧ pl.owner slot = some addr ∧ bytes.length ≠ 24) ∧
    (∃ (s : State) (w : Twin) (p : Fin 128) (pl : Poll) (slot addr : Nat) (n : Node), s.tidy = true ∧ s.roleOf w ≠ Role.off ∧ (s.strand w ↑p).poll =
      some pl ∧ pl.owner slot = some addr ∧ (List.find? (fun (n : Node) => decide (n.addr = addr)) (s.strand w ↑p).nodes = some n) ∧ 3 ≤ n.fails + 1 ∧
      n.lost = false ∧ addr < 4096 ∧ s.rb (Reg.STRD_EVT_CTL w ↑p) Fld.STRD_EVT_CTL_LOST_EN = true ∧ (s.tw w).once.seen.contains (61, ↑p) = false) ∧
    (∃ (s : State) (w : Twin) (p : Fin 128), s.tidy = true ∧ s.roleOf w ≠ Role.off ∧ s.personality w ↑p = 1 ∧ s.rb (Reg.STRD_EVT_CTL w ↑p)
      Fld.STRD_EVT_CTL_UPERR_EN = true ∧ (s.tw w).once.seen.contains (63, ↑p) = false) :=
  ⟨⟨(polled 0), 905000, .a, 0, ⟨900000, 2, 1, 3, 3, []⟩, 0, 2, status2, by decide +kernel⟩,
    ⟨(polled 0), .a, 0, ⟨900000, 2, 1, 3, 3, []⟩, 0, 2, [], by decide +kernel⟩,
    ⟨(polled 2), .a, 0, ⟨900000, 2, 1, 3, 3, []⟩, 0, 2, ⟨2, 100, 50, 50, 0, 0, 2, false, 0, 0, 0, 0⟩, by decide +kernel⟩,
    ⟨(polled 0), .a, 0, by decide +kernel⟩⟩

theorem met_LockWakeAndKeepalive :
    (∃ (s : State) (t : Nat) (w : Twin) (p : Fin 128) (a : Nat), s.tidy = true ∧ s.roleOf w ≠ Role.off ∧ s.personality w ↑p = 1 ∧ (s.strand w
      ↑p).lockLost = some a ∧ a + 10000000 ≤ max s.now t ∧ s.prnAuto w ↑p = true) ∧
    (∃ (s : State) (w : Twin) (p : Fin 128), s.tidy = true ∧ s.roleOf w ≠ Role.off ∧ s.personality w ↑p = 1 ∧ s.mainOff = false ∧ s.powerState ≠ 3 ∧
      s.rb (Reg.STRD_EVT_CTL w ↑p) Fld.STRD_EVT_CTL_WAKE_EN = true) ∧
    (∃ (s : State) (w : Twin) (p : Fin 128), s.tidy = true ∧ s.roleOf w ≠ Role.off ∧ s.personality w ↑p = 1 ∧ s.mainOff = false ∧ s.powerState ≠ 3 ∧
      s.prnAuto w ↑p = true) ∧
    (∃ (s : State) (w : Twin) (p : Fin 128), s.tidy = true ∧ s.roleOf w ≠ Role.off ∧ s.personality w ↑p = 1 ∧ s.mainOff = false ∧ s.powerState ≠ 3 ∧
      s.prnAuto w ↑p = false) ∧
    (∃ (s : State) (p : Fin 128), s.tidy = true ∧ s.peri.forced = false ∧ s.personality (s.active.getD Twin.a) ↑p = 1 ∧ s.peri.keepalive.contains ↑p =
      false) ∧
    (∃ (s : State), s.tidy = true ∧ s.peri.forced = true ∧ s.safeOn = false) ∧
    (∃ (s : State), s.tidy = true ∧ (syncGen s.begin).out ≠ []) ∧
    (∃ (s : State) (e : Nat × Nat × Bool), s.tidy = true ∧ (syncGen s.begin).out = [] ∧ e ∈ (syncGen s.begin).dev.gen ∧ (∀ d ∈ (syncGen
      s.begin).dev.gen, e.2.1 ≤ d.2.1)) :=
  ⟨⟨lockLost, 3000000, .a, 0, 5, by decide +kernel⟩,
    ⟨lockLost, .a, 0, by decide +kernel⟩,
    ⟨lockLost, .a, 0, by decide +kernel⟩,
    ⟨(strung {Strand.reset with lockLost := some 5}), .a, 0, by decide +kernel⟩,
    ⟨lockLost, 0, by decide +kernel⟩,
    ⟨{lockLost with peri := {lockLost.peri with forced := true}}, by decide +kernel⟩,
    ⟨lockLost, by decide +kernel⟩,
    ⟨{lockLost with dev := {lockLost.dev with gen := [(0, 900000, false)]}}, (0, 900000, false), by decide +kernel⟩⟩

theorem met_RdmRequestsAndDiscoveryRun :
    (∃ (s : State) (w : Twin) (via : Via) (v : Word), s.tidy = true ∧ w ∈ (s.reach via).1 ∧ s.rdmReason w (getFld v Fld.RDM_SUBMIT_PORT) (getFld v
      Fld.RDM_SUBMIT_BUF) = 0) ∧
    (∃ (s : State) (w : Twin) (via : Via) (v : Word), s.tidy = true ∧ w ∈ (s.reach via).1 ∧ s.rdmReason w (getFld v Fld.RDM_SUBMIT_PORT) (getFld v
      Fld.RDM_SUBMIT_BUF) ≠ 0 ∧ s.rb (Reg.STRD_WEVT_CTL w (getFld v Fld.RDM_SUBMIT_PORT)) Fld.STRD_WEVT_CTL_REF_EN = true) ∧
    (∃ (s : State) (t : Nat) (w : Twin) (p : Fin 128) (r : RdmReq) (rest : List RdmReq), s.tidy = true ∧ (s.beginAt t).rdmRuns w ↑p = true ∧
      s.portHeld = false ∧ (s.dmx w ↑p).run = none ∧ s.tg.ran = true ∧ (s.dmx w ↑p).disc = none ∧ (s.dmx w ↑p).queue = r :: rest ∧ (s.beginAt
      t).rdmFits w (↑p) (s.rdLE (rdmBuf w r.buf 0) 2 + 2) (s.param w (↑p) 6 2) = true ∧ beAt (s.rdBytes (rdmBuf w r.buf 2) (s.rdLE (rdmBuf w r.buf 0)
      2)) 5 4 ≠ 4294967295) ∧
    (∃ (s : State) (t : Nat) (w : Twin) (p : Fin 128) (r : RdmRun) (q : RdmReq) (bytes : List Byte), s.tidy = true ∧ s.roleOf w ≠ Role.off ∧ (s.dmx w
      ↑p).run = some r ∧ r.job = RdmJob.request q ∧ r.discard = false ∧ (Smap.wf (fun (x : ℕ) => DmxPort.reset) (s.tw w).dmx = true) ∧ (∀ (y : Twin)
      (r' : RdmRun) (q' : RdmReq), (s.dmx y ↑p).run = some r' → r'.job = RdmJob.request q' → q'.buf < 48) ∧ r.broadcast = false ∧ r.ended ≤ max s.now t ∧ max s.now t ≤
      r.ended + 2800000 ∧ bytes.length ≤ 510 ∧ max s.now t + 44000 * bytes.length ≤ (s.beginAt t).nextBreak w ↑p) ∧
    (∃ (s : State) (w : Twin) (p : Fin 128) (via : Via), s.tidy = true ∧ w ∈ (s.reach via).1 ∧ s.personality w ↑p = 2 ∧ s.rdmOn w ↑p = true ∧ (s.dmx w
      ↑p).disc = none) ∧
    (∃ (s : State) (w : Twin) (p : Fin 128), s.tidy = true ∧ s.personality w ↑p = 2 ∧ s.rdmOn w ↑p = true ∧ s.param w (↑p) 8 2 ≠ 0 ∧ (s.dmx w ↑p).disc
      = none) ∧
    (∃ (s : State) (w : Twin) (p : Fin 128) (d : Disc), s.tidy = true ∧ (s.dmx w ↑p).disc = some d ∧ d.step = none ∧ (s.dmx w ↑p).run = none ∧
      (Smap.wf (fun (x : ℕ) => DmxPort.reset) (s.tw w).dmx = true) ∧ s.rb (Reg.STRD_WEVT_CTL w ↑p) Fld.STRD_WEVT_CTL_DISC_EN = true) :=
  ⟨⟨submitting, .a, .mirror, 0x50200, by decide +kernel⟩,
    ⟨live, .a, .mirror, 0x50200, by decide +kernel⟩,
    ⟨(rdming {DmxPort.reset with queue := [⟨1,5⟩,⟨2,5⟩]}), 3000000, .a, 0, ⟨1, 5⟩, ([⟨2, 5⟩]), by decide +kernel⟩,
    ⟨asked, 3000000, .a, 0, ⟨RdmJob.request ⟨1, 5⟩, 950000, false, false⟩, ⟨1,5⟩, [], by decide +kernel, by decide +kernel, by decide +kernel, by
      decide +kernel, by decide +kernel, by decide +kernel, (fun y r' q' h e => by
        have k : ∀ y, (asked.dmx y 0).run = some ⟨.request ⟨1, 5⟩, 950000, false, false⟩ := bothTwins (by decide +kernel) (by decide +kernel)
        rw [show (asked.dmx y ((0 : Fin 128) : Nat)).run = _ from k y] at h
        cases h
        cases e
        decide), by decide +kernel, by decide +kernel, by decide +kernel, by decide +kernel, by decide +kernel⟩,
    ⟨submitting, .a, 0, .mirror, by decide +kernel⟩,
    ⟨(ent2 6 0 0 12 2 1 (rdming DmxPort.reset)), .a, 0, by decide +kernel⟩,
    ⟨((rdming {DmxPort.reset with disc := some ⟨true, [], none⟩}).sb (Reg.STRD_WEVT_CTL .a 0) Fld.STRD_WEVT_CTL_DISC_EN true), .a, 0, ⟨true, [],
      none⟩, by decide +kernel⟩⟩

theorem met_HealthReportsAreKept :
    (∃ (s : State) (w : Twin) (via : Via) (v : Word), s.tidy = true ∧ w ∈ (s.reach via).1 ∧ getFld v Fld.HLTH_POST_TYPE ≤ 4 ∧ s.fixKind w (getFld v
      Fld.HLTH_POST_FIXTURE) ≠ 0) ∧
    (∃ (s : State) (w : Twin) (via : Via) (v : Word), s.tidy = true ∧ w ∈ (s.reach via).1 ∧ (4 < getFld v Fld.HLTH_POST_TYPE ∨ s.fixKind w (getFld v
      Fld.HLTH_POST_FIXTURE) = 0)) ∧
    (∃ (s : State) (w : Twin) (fx : Nat), s.tidy = true ∧ s.computes w = true ∧ s.noReportDue w fx = true ∧ s.rb (Reg.HLTH_EVT_CTL w)
      Fld.HLTH_EVT_CTL_LOSS_EN = true ∧ (s.tw w).marked 71 = false) :=
  ⟨⟨fixtured, .a, .mirror, 3, by decide +kernel⟩,
    ⟨live, .a, .mirror, 0, by decide +kernel⟩,
    ⟨fixtured, .a, 3, by decide +kernel⟩⟩

theorem met_BlocksAreCompared :
    (∃ (s : State) (t : Nat) (w : Twin) (stream : Fin 132) (x y : Word), s.tidy = true ∧ s.active = some w ∧ s.peri.arb = none ∧ s.mainOff = false ∧
      s.streamHeld stream.val = false ∧ (s.ring stream.val).paused = none ∧ s.standby = some w.other ∧ s.peri.undecided = false ∧
      s.peri.lagging.any (fun x => decide (x.1 = stream.val ∧ x.2.2 ≤ max s.now t)) = false ∧ x ≠ y) ∧
    (∃ (s : State) (w : Twin) (stream : Fin 132), s.tidy = true ∧ s.active = some w ∧ s.peri.arb = none ∧ s.mainOff = false ∧
      s.streamHeld stream.val = false ∧ (s.ring stream.val).paused.isSome = true) ∧
    (∃ (s : State) (w : Twin) (stream : Fin 132), s.tidy = true ∧ s.active = some w ∧ s.peri.arb = none ∧ s.mainOff = false ∧
      s.streamHeld stream.val = false ∧ (s.ring stream.val).paused = none ∧ s.standby = none) :=
  ⟨⟨{live with peri := {Peri.reset with lagging := [(0, 5, 3000001)]}}, 3000000, Twin.a, 0, 0xFFFFFFFF, 0, by decide +kernel⟩,
    ⟨{live with peri := {Peri.reset with rings := [(131, ⟨[], [], some 5⟩)]}}, Twin.a, 131, by decide +kernel⟩,
    ⟨(beside .off), Twin.a, 0, by decide +kernel⟩⟩

theorem met_ArbitrationIsDecided :
    (∃ (s : State) (w : Twin) (a : Arb), s.tidy = true ∧ s.peri.arb = some a ∧ a.active = w ∧ s.active = some w ∧ s.standby = some w.other ∧ s.mainOff
      = false ∧ s.peri.digestWait = none ∧ s.fiddlehead Twin.a = false ∧ s.fiddlehead Twin.b = false ∧ s.flagsSince w a.since ≠ 0 ∧ s.flagsSince
      w.other a.since = 0) ∧
    (∃ (s : State) (w : Twin) (a : Arb), s.tidy = true ∧ s.peri.arb = some a ∧ a.active = w ∧ s.active = some w ∧ s.standby = some w.other ∧ s.mainOff
      = false ∧ s.peri.digestWait = none ∧ s.fiddlehead Twin.a = false ∧ s.fiddlehead Twin.b = false ∧ s.flagsSince w a.since = 0 ∧ s.flagsSince
      w.other a.since ≠ 0) ∧
    (∃ (s : State) (w : Twin) (a : Arb), s.tidy = true ∧ s.peri.arb = some a ∧ a.active = w ∧ s.active = some w ∧ s.standby = some w.other ∧ s.mainOff
      = false ∧ s.peri.digestWait = none ∧ s.fiddlehead Twin.a = false ∧ s.fiddlehead Twin.b = false ∧ s.flagsSince w a.since = 0 ∧ s.flagsSince
      w.other a.since = 0) ∧
    (∃ (s : State) (w : Twin) (a : Arb), s.tidy = true ∧ s.peri.arb = some a ∧ a.active = w ∧ s.active = some w ∧ s.standby = some w.other ∧ s.mainOff
      = false ∧ s.peri.digestWait = none ∧ s.fiddlehead Twin.a = false ∧ s.fiddlehead Twin.b = false ∧ s.flagsSince w a.since ≠ 0 ∧ s.flagsSince
      w.other a.since ≠ 0 ∧ silent (s.flagsSince w a.since) = true ∧ silent (s.flagsSince w.other a.since) = true) ∧
    (∃ (s : State) (w : Twin) (a : Arb), s.tidy = true ∧ s.peri.arb = some a ∧ a.active = w ∧ s.active = some w ∧ s.standby = some w.other ∧ s.mainOff
      = false ∧ s.peri.digestWait = none ∧ s.fiddlehead Twin.a = false ∧ s.fiddlehead Twin.b = false ∧ s.flagsSince w a.since ≠ 0 ∧ s.flagsSince
      w.other a.since ≠ 0 ∧ silent (s.flagsSince w a.since) = false) ∧
    (∃ (s : State) (w : Twin) (a : Arb), s.tidy = true ∧ s.peri.arb = some a ∧ a.active = w ∧ s.active = some w ∧ s.standby = some w.other ∧ s.mainOff
      = false ∧ s.peri.digestWait = none ∧ s.fiddlehead Twin.a = false ∧ s.fiddlehead Twin.b = false ∧ s.flagsSince w a.since ≠ 0 ∧ s.flagsSince
      w.other a.since ≠ 0 ∧ silent (s.flagsSince w a.since) = true ∧ silent (s.flagsSince w.other a.since) = false) ∧
    (∃ (s : State) (at_ : Nat) (hs : List Held), s.tidy = true ∧ s.peri.resume = some (at_, hs) ∧ ((hs.all fun (h : Held) => !s.slipsAtResume h) =
      true)) ∧
    (∃ (s : State) (at_ : Nat) (hs : List Held) (h : Held) (w : Twin), s.tidy = true ∧ s.peri.resume = some (at_, hs) ∧ h ∈ hs ∧ s.active = some w ∧
      h.stream < 128 ∧ s.portHeld = false) :=
  ⟨⟨(arbed [(1,950000)] []), Twin.a, ⟨950000, 1000000, 900000, Twin.a, [⟨0, 3, 950000, 5, false⟩]⟩, by decide +kernel⟩,
    ⟨(arbed [] [(1,950000)]), Twin.a, ⟨950000, 1000000, 900000, Twin.a, [⟨0, 3, 950000, 5, false⟩]⟩, by decide +kernel⟩,
    ⟨(arbed [] []), Twin.a, ⟨950000, 1000000, 900000, Twin.a, [⟨0, 3, 950000, 5, false⟩]⟩, by decide +kernel⟩,
    ⟨(arbed [(5,950000)] [(11,950000)]), Twin.a, ⟨950000, 1000000, 900000, Twin.a, [⟨0, 3, 950000, 5, false⟩]⟩, by decide +kernel⟩,
    ⟨(arbed [(1,950000)] [(5,950000)]), Twin.a, ⟨950000, 1000000, 900000, Twin.a, [⟨0, 3, 950000, 5, false⟩]⟩, by decide +kernel⟩,
    ⟨(arbed [(5,950000)] [(1,950000)]), Twin.a, ⟨950000, 1000000, 900000, Twin.a, [⟨0, 3, 950000, 5, false⟩]⟩, by decide +kernel⟩,
    ⟨{live with peri := {Peri.reset with resume := some (3000000, [⟨0,3,4,5,false⟩])}}, 3000000, ([⟨0, 3, 4, 5, false⟩]), by decide +kernel⟩,
    ⟨{live with peri := {Peri.reset with resume := some (3000000, [⟨0,3,4,5,false⟩])}}, 3000000, ([⟨0, 3, 4, 5, false⟩]), ⟨0, 3, 4, 5, false⟩, .a, by decide +kernel⟩⟩

theorem met_HealthWordsAreFlagged :
    (∃ (s : State) (t : Nat) (w : Twin), s.tidy = true ∧ s.roleOf w ≠ Role.off ∧ s.roleOf w ≠ Role.isolated ∧ (if w = Twin.a then s.peri.hbA else
      s.peri.hbB) + 30000 ≤ max s.now t ∧ s.inNap = false) ∧
    (∃ (s : State) (t : Nat) (w : Twin), s.tidy = true ∧ (if w = Twin.a then s.peri.hbA else s.peri.hbB) + 30000 > max s.now t) ∧
    (∃ (s : State) (w : Twin), s.tidy = true ∧ s.roleOf w = Role.isolated) :=
  ⟨⟨live, 3000000, .a, by decide +kernel⟩,
    ⟨{beside .isolated with peri := {Peri.reset with hbA := 1000000, hbB := 1000000}}, 1029999, .a, by decide +kernel⟩,
    ⟨(beside .isolated), .b, by decide +kernel⟩⟩

theorem met_DigestsAndResyncActOnTheStandby :
    (∃ (s : State) (w : Twin) (d : DigestSnap) (x y : List (Nat × Nat)), s.tidy = true ∧ s.active = some w ∧ s.mainOff = false ∧ s.fiddlehead w.other
      = false ∧ s.standby = some w.other ∧ s.peri.arb = none ∧ s.peri.dig = some d ∧ d.of w = some x ∧ d.of w.other = some y ∧ x = y ∧ s.roleOf
      w.other = Role.ready) ∧
    (∃ (s : State) (w : Twin) (d : DigestSnap) (x y : List (Nat × Nat)), s.tidy = true ∧ s.active = some w ∧ s.mainOff = false ∧ s.fiddlehead w.other
      = false ∧ s.standby = some w.other ∧ s.peri.arb = none ∧ s.peri.dig = some d ∧ d.of w = some x ∧ d.of w.other = some y ∧ x = y ∧ s.roleOf
      w.other = Role.standby ∧ s.peri.dirty = false ∧ s.rf Reg.PERI_IMG Fld.PERI_IMG_SETTLE ≤ s.rf Reg.PERI_STAT Fld.PERI_STAT_SETTLE_CNT + 1) ∧
    (∃ (s : State) (w : Twin) (d : DigestSnap) (x y : List (Nat × Nat)), s.tidy = true ∧ s.active = some w ∧ s.mainOff = false ∧ s.fiddlehead w.other
      = false ∧ s.standby = some w.other ∧ s.peri.arb = none ∧ s.peri.dig = some d ∧ d.of w = some x ∧ d.of w.other = some y ∧ x ≠ y ∧ s.peri.missPrev
      = false) ∧
    (∃ (s : State) (w : Twin), s.tidy = true ∧ s.active = some w ∧ s.mainOff = false ∧ s.fiddlehead w.other = false ∧ s.peri.arb.isSome = true) ∧
    (∃ (s : State) (w : Twin), s.tidy = true ∧ s.active = some w ∧ s.mainOff = false ∧ s.fiddlehead w.other = false ∧ s.joining = some w.other ∧ s.rf
      Reg.PERI_RESYNC Fld.PERI_RESYNC_PHASE = 1 ∧ s.peri.restarts + 1 < 3) ∧
    (∃ (s : State) (w : Twin), s.tidy = true ∧ s.active = some w ∧ s.mainOff = false ∧ s.fiddlehead w.other = false ∧ s.joining = some w.other ∧ s.rf
      Reg.PERI_RESYNC Fld.PERI_RESYNC_PHASE = 1 ∧ 2 ≤ s.peri.restarts) :=
  ⟨⟨(digested .ready [(1,2)] [(1,2)]), Twin.a, ⟨5, some [(1, 2)], some [(1, 2)]⟩, ([(1, 2)]), ([(1, 2)]), by decide +kernel⟩,
    ⟨((digested .standby [(1,2)] [(1,2)]).sf Reg.PERI_STAT Fld.PERI_STAT_SETTLE_CNT 200), Twin.a, ⟨5, some [(1, 2)], some [(1, 2)]⟩, ([(1, 2)]), ([(1,
      2)]), by decide +kernel⟩,
    ⟨(digested .ready [(1,2)] [(1,3)]), Twin.a, ⟨5, some [(1, 2)], some [(1, 3)]⟩, ([(1, 2)]), ([(1, 3)]), by decide +kernel⟩,
    ⟨(arbed [] []), Twin.a, by decide +kernel⟩,
    ⟨(copying 0), Twin.a, by decide +kernel⟩,
    ⟨(copying 2), Twin.a, by decide +kernel⟩⟩

theorem met_SorusPushesPopsAndReleases :
    (∃ (s : State) (t : Nat) (w : Twin) (via : Via) (v : Word), s.tidy = true ∧ w ∈ (s.reach via).1 ∧ s.qUsed w (getFld v Fld.SORUS_PUSH_QUEUE) = true ∧ 16 ≤
      getFld v Fld.SORUS_PUSH_TYPE ∧ getFld v Fld.SORUS_PUSH_FLOWED = 0 ∧ getFld v Fld.SORUS_PUSH_DL = 0 ∧ s.rf (Reg.BANK_CTL w (s.ent w 4 0 (getFld v
      Fld.SORUS_PUSH_QUEUE) 2 1)) Fld.BANK_CTL_OWNER = 1 ∧ s.rf (Reg.BANK_STAT w (s.ent w 4 0 (getFld v Fld.SORUS_PUSH_QUEUE) 2 1))
      Fld.BANK_STAT_STATE = 2 ∧ ((s.tw w).sorus.queue (getFld v Fld.SORUS_PUSH_QUEUE)).used < s.qDepth w (getFld v Fld.SORUS_PUSH_QUEUE) ∧
      (∀ x ∈ ((s.tw w).sorus.queue (getFld v Fld.SORUS_PUSH_QUEUE)).slots, x.at_ ≠ max s.now t)) ∧
    (∃ (s : State) (t : Nat) (w : Twin) (via : Via) (v : Word), s.tidy = true ∧ w ∈ (s.reach via).1 ∧ s.qUsed w (getFld v Fld.SORUS_PUSH_QUEUE) = true ∧ 16 ≤
      getFld v Fld.SORUS_PUSH_TYPE ∧ getFld v Fld.SORUS_PUSH_FLOWED = 0 ∧ getFld v Fld.SORUS_PUSH_DL = 0 ∧ s.rf (Reg.BANK_CTL w (s.ent w 4 0 (getFld v
      Fld.SORUS_PUSH_QUEUE) 2 1)) Fld.BANK_CTL_OWNER = 1 ∧ s.rf (Reg.BANK_STAT w (s.ent w 4 0 (getFld v Fld.SORUS_PUSH_QUEUE) 2 1))
      Fld.BANK_STAT_STATE = 2 ∧ s.qDepth w (getFld v Fld.SORUS_PUSH_QUEUE) ≤ ((s.tw w).sorus.queue (getFld v Fld.SORUS_PUSH_QUEUE)).used ∧
      ((s.tw w).sorus.queue (getFld v Fld.SORUS_PUSH_QUEUE)).yields (max s.now t) (sorusReq via) = none ∧ s.rb
      (Reg.SORUS_EVT_CTL w) Fld.SORUS_EVT_CTL_OVF_EN = true ∧ (s.tw w).marked 72 = false) ∧
    (∃ (s : State) (t : Nat) (w : Twin) (via : Via) (q : Fin 64) (it : Item) (qu : Queue), s.tidy = true ∧ (s.reach via).1 = [w] ∧ via ≠ Via.mirror ∧ ((s.tw
      w).sorus.queue ↑q).pop (max s.now t) (s.qDepth w ↑q) (sorusReq via) = some (it, qu)) ∧
    (∃ (s : State) (t : Nat) (w : Twin) (via : Via) (q : Fin 64), s.tidy = true ∧ (s.reach via).1 = [w] ∧ via ≠ Via.mirror ∧ ((s.tw w).sorus.queue ↑q).pop (max s.now t) (s.qDepth w ↑q) (sorusReq via) = none) ∧
    (∃ (s : State) (t : Nat) (w : Twin) (via : Via) (q : Fin 64) (it : Item) (qu : Queue), s.tidy = true ∧ (s.reach via).1 = [w] ∧ via ≠ Via.mirror ∧ ((s.tw
      w).sorus.queue ↑q).pop (max s.now t) (s.qDepth w ↑q) (reqWindow ↑q) = some (it, qu) ∧ (Smap.wf (fun (x : ℕ) => Queue.empty) (s.tw w).sorus.queues = true)) ∧
    (∃ (s : State) (w : Twin), s.tidy = true ∧ s.dev.inReset = false ∧ s.mainOff = false ∧ s.inNap = false ∧ s.active = some w) ∧
    (∃ (s : State) (via : Via) (q : Fin 64) (win : Bool) (y : Twin), s.tidy = true ∧ (∀ y ∈ (s.reach via).1, ∀ sl ∈ ((s.tw y).sorus.queue ↑q).slots,
      (decide (sl.st = SlotSt.queued) && decide (sl.openTo = some (if win = true then reqWindow ↑q else sorusReq via))) = true → sl.item.flowed =
      false) ∧ (s.reach via).1 ≠ [] ∧ y ∈ (s.reach via).1) ∧
    (∃ (s : State) (via : Via) (w : Twin) (v : Word) (sl : Slot), s.tidy = true ∧ w ∈ (s.reach via).1 ∧ ((s.tw w).sorus.queue (s.flowQueue w (getFld v
      Fld.SORUS_REL_FLOW))).slotOf? (getFld v Fld.SORUS_REL_FLOW) (s.rf (banked (sorusReq via) (Reg.SORUS_REL_SEQ w)) Fld.SORUS_REL_SEQ_SEQ) = some sl
      ∧ getFld v Fld.SORUS_REL_DROP = 1 ∧ s.flowWindow w (getFld v Fld.SORUS_REL_FLOW) ≠ 0 ∧ sl.st = SlotSt.popped ∧ ((s.tw w).sorus.flow (getFld v
      Fld.SORUS_REL_FLOW)).nextRel = s.rf (banked (sorusReq via) (Reg.SORUS_REL_SEQ w)) Fld.SORUS_REL_SEQ_SEQ ∧ ((s.tw w).sorus.flow (getFld v
      Fld.SORUS_REL_FLOW)).out = 1 ∧ (Smap.wf (fun (x : ℕ) => Flow.empty) (s.tw w).sorus.flows = true)) ∧
    (∃ (s : State) (via : Via) (w : Twin) (v : Word) (sl : Slot), s.tidy = true ∧ w ∈ (s.reach via).1 ∧ ((s.tw w).sorus.queue (s.flowQueue w (getFld v
      Fld.SORUS_REL_FLOW))).slotOf? (getFld v Fld.SORUS_REL_FLOW) (s.rf (banked (sorusReq via) (Reg.SORUS_REL_SEQ w)) Fld.SORUS_REL_SEQ_SEQ) = some sl
      ∧ sl.st ≠ SlotSt.popped ∧ s.rb (Reg.SORUS_EVT_CTL w) Fld.SORUS_EVT_CTL_REF_EN = true ∧ (s.tw w).marked 75 = false) ∧
    (∃ (s : State) (w : Twin) (via : Via) (q : Fin 64) (t : Nat), s.tidy = true ∧ (s.reach via).1 = [w] ∧ via ≠ Via.mirror ∧ ((s.tw w).sorus.queue ↑q).pop (max s.now t)
      (s.qDepth w ↑q) (reqWindow ↑q) = none ∧ s.rb (Reg.SORUS_EVT_CTL w) Fld.SORUS_EVT_CTL_UNDER_EN = true ∧ (s.tw w).marked 74 = false) ∧
    (∃ (s : State), s.tidy = true ∧ s.dev.inReset = false ∧ s.mainOff = false ∧ s.inNap = true) ∧
    (∃ (s : State), s.tidy = true ∧ s.dev.inReset = false ∧ s.mainOff = false ∧ s.inNap = false ∧ s.active = none ∧ s.once.seen = []) :=
  ⟨⟨(queued [slot16] .a), 5, .a, .mirror, 0x10000002, by decide +kernel⟩,
    ⟨(queued [slot16,slot16] .a), 5, .a, .mirror, 0x10000002, by decide +kernel⟩,
    ⟨(queued [slot16] .a), 5, Twin.a, (.priv .a), 2, ⟨16, 3, false, false, false, 0, 0, 5, [0x01#8, 0x02#8, 0x03#8]⟩, ⟨1, 1, [], 0x0000000000000000#64⟩,
      by decide +kernel⟩,
    ⟨live, 5, Twin.a, (.priv .a), 0, by decide +kernel⟩,
    ⟨(queued [slot16] .a), 5, Twin.a, (.priv .a), 2, ⟨16, 3, false, false, false, 0, 0, 5, [0x01#8, 0x02#8, 0x03#8]⟩, ⟨1, 1, [], 0x0000000000000000#64⟩,
      by decide +kernel⟩,
    ⟨live, Twin.a, by decide +kernel⟩,
    ⟨live, .mirror, 0, true, .a, by decide +kernel⟩,
    ⟨(flowed .popped), .mirror, .a, 0x00018000, ⟨⟨16, 3, false, false, true, 1, 0, 5, [0x01#8, 0x02#8, 0x03#8]⟩, SlotSt.popped, 16, 5, 0, true, none⟩, by
      decide +kernel⟩,
    ⟨(flowed .queued), .mirror, .a, 0x00010000, ⟨⟨16, 3, false, false, true, 1, 0, 5, [0x01#8, 0x02#8, 0x03#8]⟩, SlotSt.queued, 16, 5, 0, true, none⟩, by
      decide +kernel⟩,
    ⟨(live.sb (Reg.SORUS_EVT_CTL .a) Fld.SORUS_EVT_CTL_UNDER_EN true), .a, (.priv .a), 63, 5, by decide +kernel⟩,
    ⟨napping, by decide +kernel⟩,
    ⟨idle, by decide +kernel⟩⟩

theorem met_SorusGivesItemsToCores :
    (∃ (s : State) (t : Nat) (w : Twin) (p q c : Nat) (it : Item) (qu : Queue), s.tidy = true ∧ s.asleep = false ∧ ((s.tw w).sorus.queue q).pop (max s.now t) (s.qDepth w q) c
      = some (it, qu) ∧ (s.beginAt t).dispatchPick w = some (p, q, c)) ∧
    (∃ (s : State) (t : Nat) (w : Twin) (p q c : Nat) (it : Item) (qu : Queue), s.tidy = true ∧ s.asleep = false ∧ ((s.tw w).sorus.queue q).pop (max s.now t) (s.qDepth w q) c
      = some (it, qu) ∧ (s.beginAt t).preemptPick w = some (p, q, c)) ∧
    (∃ (s : State) (w : Twin) (c : Fin 16), s.tidy = true ∧ w ∈ (s.reach (Via.core w c)).1 ∧ (s.tw w).sorus.core ↑c = []) ∧
    (∃ (s : State) (w : Twin) (c : Fin 16) (top : Running) (rest : List Running), s.tidy = true ∧ w ∈ (s.reach (Via.core w c)).1 ∧ (s.tw w).sorus.core
      ↑c = top :: rest ∧ (Smap.wf (fun (x : ℕ) => []) (s.tw w).sorus.cores = true) ∧ (∀ sl ∈ ((s.tw w).sorus.queue top.q).slots, sl.st = SlotSt.queued
      → sl.openTo ≠ some ↑c)) :=
  ⟨⟨(queued [slot16] .a), 5, .a, 3, 2, 0, ⟨16, 3, false, false, false, 0, 0, 5, [0x01#8, 0x02#8, 0x03#8]⟩, ⟨1, 1, [], 0x0000000000000000#64⟩, by
      decide +kernel⟩,
    ⟨(ent2 4 0 2 10 1 1 ((queued [slot16] .a).modSorus .a (fun o => o.setCore 0 [⟨2,{item16 with prio := 1},false⟩,⟨2,item16,false⟩]))), 5, .a, 3, 2, 0,
      ⟨16, 3, false, false, false, 0, 0, 5, [0x01#8, 0x02#8, 0x03#8]⟩, ⟨1, 1, [], 0x0000000000000000#64⟩, by decide +kernel⟩,
    ⟨live, .a, 0, by decide +kernel⟩,
    ⟨((queued [slot16] .a).modSorus .a (fun o => o.setCore 0 [⟨2,{item16 with prio := 1},false⟩])), .a, 0, ⟨2, ⟨16, 1, false, false, false, 0, 0, 5,
      [0x01#8, 0x02#8, 0x03#8]⟩, false⟩, [], by decide +kernel⟩⟩

theorem met_BanksChangeOwnerAndState :
    (∃ (s : State) (w : Twin) (n : Fin 96) (via : Via) (v : Word), s.tidy = true ∧ w ∈ (s.reach via).1 ∧
      ((match viaAgent via with | BankAgent.host => true | BankAgent.core x => decide (↑x = 0) || s.ownsBank w (↑n) (BankAgent.core x) | x => false) =
      true) ∧ (decide (getFld v Fld.BANK_CTL_OWNER ≤ 5) && decide (getFld v Fld.BANK_CTL_STATE ≠ 3) && (!s.holdsRing w ↑n || decide (getFld v
      Fld.BANK_CTL_OWNER = 1) && decide (getFld v Fld.BANK_CTL_STATE = 2))) = true ∧ (s.bank w ↑n).target = none ∧ (decide (getFld v
      Fld.BANK_CTL_OWNER ≠ s.bankOwner w ↑n) || decide (getFld v Fld.BANK_CTL_OWNER = 5) && decide (getFld v Fld.BANK_CTL_CORE ≠ s.bankCore w ↑n)) =
      true) ∧
    (∃ (s : State) (w : Twin) (n : Fin 96) (via : Via) (v : Word), s.tidy = true ∧ w ∈ (s.reach via).1 ∧
      ((match viaAgent via with | BankAgent.host => true | BankAgent.core x => decide (↑x = 0) || s.ownsBank w (↑n) (BankAgent.core x) | x => false) =
      true) ∧ (decide (getFld v Fld.BANK_CTL_OWNER ≤ 5) && decide (getFld v Fld.BANK_CTL_STATE ≠ 3) && (!s.holdsRing w ↑n || decide (getFld v
      Fld.BANK_CTL_OWNER = 1) && decide (getFld v Fld.BANK_CTL_STATE = 2))) = true ∧ (s.bank w ↑n).target = none ∧ (decide (getFld v
      Fld.BANK_CTL_OWNER ≠ s.bankOwner w ↑n) || decide (getFld v Fld.BANK_CTL_OWNER = 5) && decide (getFld v Fld.BANK_CTL_CORE ≠ s.bankCore w ↑n)) =
      false) ∧
    (∃ (s : State) (w : Twin) (n : Fin 96) (via : Via) (v : Word), s.tidy = true ∧ w ∈ (s.reach via).1 ∧
      ((match viaAgent via with | BankAgent.host => true | BankAgent.core x => decide (↑x = 0) || s.ownsBank w (↑n) (BankAgent.core x) | x => false) =
      true) ∧ (decide (getFld v Fld.BANK_CTL_OWNER ≤ 5) && decide (getFld v Fld.BANK_CTL_STATE ≠ 3) && (!s.holdsRing w ↑n || decide (getFld v
      Fld.BANK_CTL_OWNER = 1) && decide (getFld v Fld.BANK_CTL_STATE = 2))) = true ∧ (s.bank w ↑n).target = none ∧ s.bankState w ↑n = getFld v
      Fld.BANK_CTL_STATE) ∧
    (∃ (s : State) (w : Twin) (n : Fin 96) (via : Via) (v : Word), s.tidy = true ∧ w ∈ (s.reach via).1 ∧
      ((match viaAgent via with | BankAgent.host => true | BankAgent.core x => decide (↑x = 0) || s.ownsBank w (↑n) (BankAgent.core x) | x => false) =
      true) ∧ (decide (getFld v Fld.BANK_CTL_OWNER ≤ 5) && decide (getFld v Fld.BANK_CTL_STATE ≠ 3) && (!s.holdsRing w ↑n || decide (getFld v
      Fld.BANK_CTL_OWNER = 1) && decide (getFld v Fld.BANK_CTL_STATE = 2))) = true ∧ (s.bank w ↑n).target = none ∧ s.bankState w ↑n ≠ getFld v
      Fld.BANK_CTL_STATE) ∧
    (∃ (s : State) (w : Twin) (n : Fin 96) (via : Via) (v : Word), s.tidy = true ∧ w ∈ (s.reach via).1 ∧
      ((match viaAgent via with | BankAgent.host => true | BankAgent.core x => decide (↑x = 0) || s.ownsBank w (↑n) (BankAgent.core x) | x => false) =
      false ∨ (decide (getFld v Fld.BANK_CTL_OWNER ≤ 5) && decide (getFld v Fld.BANK_CTL_STATE ≠ 3) && (!s.holdsRing w ↑n || decide (getFld v
      Fld.BANK_CTL_OWNER = 1) && decide (getFld v Fld.BANK_CTL_STATE = 2))) = false) ∧ s.rb (Reg.BANK_EVT_CTL w) Fld.BANK_EVT_CTL_VIOL_EN = false) ∧
    (∃ (s : State) (w : Twin) (n : Fin 96) (via : Via) (v : Word), s.tidy = true ∧ w ∈ (s.reach via).1 ∧
      ((match viaAgent via with | BankAgent.host => true | BankAgent.core x => decide (↑x = 0) || s.ownsBank w (↑n) (BankAgent.core x) | x => false) =
      false ∨ (decide (getFld v Fld.BANK_CTL_OWNER ≤ 5) && decide (getFld v Fld.BANK_CTL_STATE ≠ 3) && (!s.holdsRing w ↑n || decide (getFld v
      Fld.BANK_CTL_OWNER = 1) && decide (getFld v Fld.BANK_CTL_STATE = 2))) = false) ∧ s.rb (Reg.BANK_EVT_CTL w) Fld.BANK_EVT_CTL_VIOL_EN = true ∧
      (s.tw w).marked 76 = false) ∧
    (∃ (s : State) (w : Twin) (n : Fin 96) (a : Nat), s.tidy = true ∧ (Smap.wf (fun (x : ℕ) => BankSt.still) (s.tw w).banks = true) ∧ (s.bank w
      ↑n).moving = true ∧ (s.bank w ↑n).held = [] ∧ (s.bank w ↑n).clr = true ∧ decide (bankAddr w ↑n ≤ a ∧ a < bankAddr w ↑n + 1048576) = true) ∧
    (∃ (s : State) (w : Twin) (n : Fin 96) (st a : Nat), s.tidy = true ∧ (Smap.wf (fun (x : ℕ) => BankSt.still) (s.tw w).banks = true) ∧ (s.bank w
      ↑n).target = some st ∧ st ≤ 2 ∧ (s.bank w ↑n).queued = none ∧ (st = 0 ∨ s.bankState w ↑n = 3) ∧ decide (bankAddr w ↑n ≤ a ∧ a < bankAddr w ↑n +
      1048576) = true) ∧
    (∃ (s : State) (w : Twin) (n : Fin 96) (st : Nat), s.tidy = true ∧ (Smap.wf (fun (x : ℕ) => BankSt.still) (s.tw w).banks = true) ∧ (s.bank w
      ↑n).target = some st ∧ st ≤ 2 ∧ (s.bank w ↑n).queued = none ∧ st = 2 ∧ s.rb (Reg.BANK_EVT_CTL w) Fld.BANK_EVT_CTL_READY_EN = true ∧ (s.tw
      w).marked 77 = false) ∧
    (∃ (s : State) (w : Twin) (n : Fin 96) (a : Nat), s.tidy = true ∧ (Smap.wf (fun (x : ℕ) => BankSt.still) (s.tw w).banks = true) ∧ (s.bank w
      ↑n).moving = true ∧ (s.bank w ↑n).held = [(a, none)] ∧ (s.bank w ↑n).clr = false) :=
  ⟨⟨quiet, .a, 0, .mirror, 1, by decide +kernel⟩,
    ⟨quiet, .a, 0, .mirror, 0, by decide +kernel⟩,
    ⟨quiet, .a, 0, .mirror, 0, by decide +kernel⟩,
    ⟨(bank5 0 2 BankSt.still), .a, 5, .mirror, 0, by decide +kernel⟩,
    ⟨quiet, .a, 0, .mirror, 6, by decide +kernel⟩,
    ⟨live, .a, 0, .mirror, 6, by decide +kernel⟩,
    ⟨(bank5 1 2 {BankSt.still with moving := true, clr := true}), .a, 5, (bankAddr .a 5), by decide +kernel⟩,
    ⟨((bank5 1 3 {BankSt.still with target := some 2}).wrB (bankAddr .a 5) 7), .a, 5, 2, (bankAddr .a 5), by decide +kernel⟩,
    ⟨([Twin.a,.b].foldl (fun s w => (s.sb (Reg.BANK_EVT_CTL w) Fld.BANK_EVT_CTL_VIOL_EN true).sb (Reg.BANK_EVT_CTL w) Fld.BANK_EVT_CTL_READY_EN true)
      (bank5 1 4 {BankSt.still with target := some 2})), .a, 5, 2, by decide +kernel⟩,
    ⟨(bank5 1 2 {BankSt.still with moving := true, held := [(bankAddr .a 5, none)]}), .a, 5, (bankAddr .a 5), by decide +kernel⟩⟩

theorem met_BankAccessesAndErrorsAreCounted :
    (∃ (s : State) (w : Twin) (n : Fin 96) (ag : BankAgent), s.tidy = true ∧ s.reachesBank w (↑n) ag = true) ∧
    (∃ (s : State) (w : Twin) (n : Fin 96) (ag : BankAgent), s.tidy = true ∧ s.reachesBank w (↑n) ag = false ∧ s.rb (Reg.BANK_EVT_CTL w)
      Fld.BANK_EVT_CTL_VIOL_EN = false) ∧
    (∃ (s : State) (w : Twin) (n : Fin 96) (ag : BankAgent), s.tidy = true ∧ s.reachesBank w (↑n) ag = false ∧ s.rb (Reg.BANK_EVT_CTL w)
      Fld.BANK_EVT_CTL_VIOL_EN = true ∧ (s.tw w).marked 76 = false) ∧
    (∃ (s : State) (acc : Access) (off : Nat), s.tidy = true ∧ (dramCore (match acc with | Access.read => false | Access.write v => true) off = false)
      ∧ ((match acc with | Access.read => false | Access.write v => true) = false)) ∧
    (∃ (s : State) (w : Twin) (acc : Access) (off : Nat), s.tidy = true ∧ (dramCore (match acc with | Access.read => false | Access.write v => true)
      off = false) ∧ s.rb (Reg.BANK_EVT_CTL w) Fld.BANK_EVT_CTL_VIOL_EN = true ∧ (s.tw w).marked 76 = false) ∧
    (∃ (s : State) (w : Twin) (acc : Access) (off : Nat), s.tidy = true ∧ (dramCore (match acc with | Access.read => false | Access.write v => true)
      off = false) ∧ s.rb (Reg.BANK_EVT_CTL w) Fld.BANK_EVT_CTL_VIOL_EN = false) ∧
    (∃ (s : State) (off : Nat), s.tidy = true ∧ dramHost off = false) ∧
    (∃ (s : State) (w : Twin), s.tidy = true ∧ s.rb (Reg.BANK_EVT_CTL w) Fld.BANK_EVT_CTL_CE_EN = true ∧ (s.tw w).marked 79 = false) ∧
    (∃ (s : State) (w : Twin), s.tidy = true ∧ s.roleOf w ≠ Role.off ∧ s.roleOf w ≠ Role.isolated) ∧
    (∃ (s : State) (w : Twin), s.tidy = true ∧ s.rb (Reg.BANK_EVT_CTL w) Fld.BANK_EVT_CTL_UE_EN = true ∧ (s.tw w).marked 80 = false) ∧
    (∃ (s : State) (site : EccSite) (c : Fin 16) (off : Nat), s.tidy = true ∧ site = EccSite.lmem c off) ∧
    (∃ (s : State) (site : EccSite) (off : Nat) (req : Fin 7), s.tidy = true ∧ site = EccSite.dram off req ∧ off < 2 ^ 35) :=
  ⟨⟨(bank5 0 2 BankSt.still), .a, 5, .host, by decide +kernel⟩,
    ⟨quiet, .a, 0, .host, by decide +kernel⟩,
    ⟨live, .a, 0, .host, by decide +kernel⟩,
    ⟨live, .read, 0x800000000, by decide +kernel⟩,
    ⟨live, .a, .read, 0x800000000, by decide +kernel⟩,
    ⟨quiet, .a, .read, 0x800000000, by decide +kernel⟩,
    ⟨live, 0x790000000, by decide +kernel⟩,
    ⟨live, .a, by decide +kernel⟩,
    ⟨live, .a, by decide +kernel⟩,
    ⟨live, .a, by decide +kernel⟩,
    ⟨live, (.lmem 15 0xFFFF), 15, 0xFFFF, by decide +kernel⟩,
    ⟨live, (.dram 0x7FFFFFFFF 6), 0x7FFFFFFFF, 6, by decide +kernel⟩⟩

theorem met_BackgroundTestAndScrubAdvance :
    (∃ (s : State) (w : Twin) (b : Nat) (march rerun : Passed), s.tidy = true ∧ s.rb (Reg.BANK_TEST_CFG w) Fld.BANK_TEST_CFG_EN = true ∧
      (((s.nextTested w (s.tw w).bankTest.bank).orElse fun (x : Unit) => s.nextTested w 0) = some b) ∧ (s.tw w).bankTest.slotAt ≤ s.now ∧ march = false ∧ rerun = false ∧ s.roleOf w ≠
      Role.off ∧ s.roleOf w ≠ Role.isolated) ∧
    (∃ (s : State) (w : Twin) (b : Nat) (march rerun : Passed), s.tidy = true ∧ s.rb (Reg.BANK_TEST_CFG w) Fld.BANK_TEST_CFG_EN = true ∧
      (((s.nextTested w (s.tw w).bankTest.bank).orElse fun (x : Unit) => s.nextTested w 0) = some b) ∧ (s.tw w).bankTest.slotAt ≤ s.now ∧ march = false ∧ rerun = false ∧ s.rb
      (Reg.BANK_EVT_CTL w) Fld.BANK_EVT_CTL_TEST_EN = true ∧ (s.tw w).marked 78 = false) ∧
    (∃ (s : State) (t : Nat) (w : Twin) (n : Fin 96) (win : Nat), s.tidy = true ∧ (s.tw w).bankTest.cur = some (↑n, win) ∧ max s.now t < (s.tw w).bankTest.until_ ∧ max s.now t + 6144 ≠ (s.tw w).bankTest.until_ ∧ (if (s.tw w).bankTest.bank = ↑n ∧ (s.tw w).bankTest.win = win then (s.tw w).bankTest.aborts else 0) + 1 < max 1 (s.rf
      (Reg.BANK_TEST_CFG w) Fld.BANK_TEST_CFG_ABORT_MAX)) ∧
    (∃ (s : State) (t : Nat) (w : Twin) (n : Fin 96) (win : Nat), s.tidy = true ∧ (s.tw w).bankTest.cur = some (↑n, win) ∧ max s.now t < (s.tw w).bankTest.until_ ∧ max s.now t + 6144 ≠ (s.tw w).bankTest.until_ ∧ max 1 (s.rf (Reg.BANK_TEST_CFG w) Fld.BANK_TEST_CFG_ABORT_MAX) ≤ (if (s.tw w).bankTest.bank = ↑n ∧ (s.tw w).bankTest.win =
      win then (s.tw w).bankTest.aborts else 0) + 1) ∧
    (∃ (s : State) (w : Twin), s.tidy = true ∧ s.rb (Reg.DRAM_SCRUB w) Fld.DRAM_SCRUB_EN = true) ∧
    (∃ (s : State) (t : Nat) (w : Twin) (n : Fin 96) (win : Nat), s.tidy = true ∧ (s.tw w).bankTest.cur = some (↑n, win) ∧ max s.now t + 6144 = (s.tw
      w).bankTest.until_) ∧
    (∃ (s : State) (t : Nat) (w : Twin) (b : Nat), s.tidy = true ∧ (s.beginAt t).windowBank w = none ∧ s.engineBank w = some b ∧ s.rb (Reg.BANK_EVT_CTL w)
      Fld.BANK_EVT_CTL_TEST_EN = true ∧ (s.tw w).marked 78 = false) :=
  ⟨⟨(testing 3 0), .a, 5, false, false, by decide +kernel⟩,
    ⟨(testing 3 0), .a, 5, false, false, by decide +kernel⟩,
    ⟨(testing 3 0), 255, .a, 5, 3, by decide +kernel⟩,
    ⟨(testing 3 200), 255, .a, 5, 3, by decide +kernel⟩,
    ⟨live, .a, by decide +kernel⟩,
    ⟨(testing 3 0), 1993856, .a, 5, 3, by decide +kernel⟩,
    ⟨(bank5 4 2 BankSt.still).sb (Reg.BANK_TEST_CFG .a) Fld.BANK_TEST_CFG_EN false, 5, .a, 5, by decide +kernel⟩⟩

theorem met_CalibrationRunsAndApplies :
    (∃ (s : State) (src : Requester) (n : Nat), s.tidy = true ∧ s.thAllows src = true ∧ s.cal.run = none ∧ s.cal.pend = none ∧ n < 45) ∧
    (∃ (s : State) (src : Requester), s.tidy = true ∧ s.thAllows src = true ∧ s.cal.run = none ∧ s.cal.pend = none ∧ s.rf Reg.CAL_CFG
      Fld.CAL_CFG_PERIOD ≠ 0) ∧
    (∃ (s : State) (src : Requester) (p : List Nat), s.tidy = true ∧ s.thAllows src = true ∧ s.cal.run = none ∧ s.cal.pend = some p) ∧
    (∃ (s : State) (src : Requester) (c : Nat) (rest : List Nat) (n : Nat), s.tidy = true ∧ s.thAllows src = true ∧ s.cal.run = some (c :: rest) ∧ n <
      45 ∧ c < n) ∧
    (∃ (s : State) (src : Requester) (c : Nat) (rest : List Nat) (n : Nat), s.tidy = true ∧ s.thAllows src = true ∧ s.cal.run = some (c :: rest) ∧ n <
      45 ∧ n ≤ c) ∧
    (∃ (s : State) (src : Requester) (n : Nat), s.tidy = true ∧ s.thAllows src = true ∧ 45 ≤ n) ∧
    (∃ (s : State) (x : Nat) (rest : List Nat), s.tidy = true ∧ s.mainOff = false ∧ s.cal.run = some (x :: rest) ∧ s.cal.busy = true ∧ s.cal.void =
      false ∧ s.once.seen = [] ∧ 0 < x ∧ (x < 17 ∨ 24 < x ∨ s.bankWaits x = []) ∧ rest = []) ∧
    (∃ (s : State) (x : Nat) (rest : List Nat) (y : Nat) (tl : List Nat), s.tidy = true ∧ s.mainOff = false ∧ s.cal.run = some (x :: rest) ∧
      s.cal.busy = true ∧ s.cal.void = false ∧ s.once.seen = [] ∧ 0 < x ∧ (x < 17 ∨ 24 < x ∨ s.bankWaits x = []) ∧ rest = y :: tl ∧ y ≠ x ∧ y < 45 ∧
      s.calTurn y = CalTurn.take) ∧
    (∃ (s : State) (x : Nat) (rest : List Nat) (code : Nat), s.tidy = true ∧ s.mainOff = false ∧ s.cal.run = some (x :: rest) ∧ s.cal.busy = true ∧
      s.cal.void = false ∧ s.once.seen = [] ∧ x = 0 ∧ (code < 9900000 ∨ 10100000 < code) ∧ code < 2 ^ 24) ∧
    (∃ (s : State) (p : Fin 128) (e : Nat × Nat), s.tidy = true ∧ s.mainOff = false ∧ (List.find? (fun (e : ℕ × ℕ) => decide (e.1 = ↑p)) s.cal.apply =
      some e) ∧ (((List.filter (fun (e : ℕ × ℕ) => decide (e.1 ≠ ↑p)) s.cal.apply).any fun (e : ℕ × ℕ) => decide (e.1 / 16 = ↑p / 16)) = true)) ∧
    (∃ (s : State) (p : Fin 128) (e : Nat × Nat), s.tidy = true ∧ s.mainOff = false ∧ (List.find? (fun (e : ℕ × ℕ) => decide (e.1 = ↑p)) s.cal.apply =
      some e) ∧ (((List.filter (fun (e : ℕ × ℕ) => decide (e.1 ≠ ↑p)) s.cal.apply).any fun (e : ℕ × ℕ) => decide (e.1 / 16 = ↑p / 16)) = false)) :=
  ⟨⟨live, .pcie, 44, by decide +kernel⟩,
    ⟨(live.sf Reg.CAL_CFG Fld.CAL_CFG_PERIOD 2), .pcie, by decide +kernel⟩,
    ⟨{live with cal := {Cal.reset with pend := some [4]}}, .pcie, [4], by decide +kernel⟩,
    ⟨(calRuns [3]), .pcie, 3, [], 44, by decide +kernel⟩,
    ⟨(calRuns [3]), .pcie, 3, [], 3, by decide +kernel⟩,
    ⟨live, .pcie, 3000000, by decide +kernel⟩,
    ⟨(calRuns [3]), 3, [], by decide +kernel⟩,
    ⟨(calRuns [3,5]), 3, [5], 5, [], by decide +kernel⟩,
    ⟨(calRuns [0,3]), 0, [3], 3000000, by decide +kernel⟩,
    ⟨{live with cal := {Cal.reset with apply := [(0,7),(3,9)]}}, 0, (0, 7), by decide +kernel⟩,
    ⟨{latching with cal := {Cal.reset with apply := [(0,7)]}}, 0, (0, 7), by decide +kernel⟩⟩

theorem met_EventsAreRaised :
    (∃ (s : State) (n : Fin 256), s.tidy = true ∧ s.mainOff = false ∧ s.dev.inReset = false ∧ evtReserved ↑n = false ∧ (↑n < 9 ∨ 14 < ↑n ∧ ↑n < 32) ∧
      s.rb (Reg.EVT_ROUTE ↑n) Fld.EVT_ROUTE_LOG = true ∧ s.rb Reg.EVT_LOG_CTL Fld.EVT_LOG_CTL_FREEZE = false) ∧
    (∃ (s : State) (n : Fin 256), s.tidy = true ∧ s.mainOff = false ∧ s.dev.inReset = false ∧ evtReserved ↑n = false ∧ 9 ≤ ↑n ∧ ↑n ≤ 14 ∧ s.once.seen
      = []) ∧
    (∃ (s : State) (late : Nat) (n : Fin 256) (w : Twin), s.tidy = true ∧ s.mainOff = false ∧ s.dev.inReset = false ∧ evtReserved ↑n = false ∧ 32 ≤ ↑n
      ∧ s.roleOf w ≠ Role.off ∧ late ≤ 5000 ∧ s.roleOf w = Role.active) ∧
    (∃ (s : State) (late : Nat) (n : Fin 256) (w : Twin), s.tidy = true ∧ s.mainOff = false ∧ s.dev.inReset = false ∧ evtReserved ↑n = false ∧ 32 ≤ ↑n
      ∧ s.roleOf w ≠ Role.off ∧ 5000 < late ∧ ↑n ≠ 72 ∧ ↑n ≠ 76 ∧ ↑n ≠ 81) ∧
    (∃ (s : State) (n : Fin 256), s.tidy = true ∧ s.mainOff = false ∧ evtReserved ↑n = true) ∧
    (∃ (s : State) (via : Via) (w : Twin), s.tidy = true ∧ s.mainOff = false ∧ w ∈ (s.reach via).1 ∧ s.roleOf w = Role.active) ∧
    (∃ (s : State) (t : Nat) (n : Fin 256), s.tidy = true ∧ s.mainOff = false ∧ s.dev.inReset = false ∧ evtReserved ↑n = false ∧ ↑n < 9 ∧ s.rb (Reg.EVT_ROUTE
      ↑n) Fld.EVT_ROUTE_LOG = true ∧ s.rb Reg.EVT_LOG_CTL Fld.EVT_LOG_CTL_FREEZE = false ∧ s.logCycle.at_ = max s.now t ∧ s.logCycle.recs ≠ [] ∧
      s.logCycle.recs.length < 1024) :=
  ⟨⟨live, 0, by decide +kernel⟩,
    ⟨live, 9, by decide +kernel⟩,
    ⟨live, 5000, 72, .a, by decide +kernel⟩,
    ⟨live, 3000000, 82, .a, by decide +kernel⟩,
    ⟨live, 32, by decide +kernel⟩,
    ⟨live, .mirror, .a, by decide +kernel⟩,
    ⟨{live with logCycle := (live.raiseTh 4 0).logCycle}, 5, 0, by decide +kernel⟩⟩

theorem met_PendingBitsClearOnWrite :
    ∃ (s : State) (t : Nat) (src : Requester), s.tidy = true ∧ s.thAllows src = true ∧ s.now < t :=
  ⟨live, 2000000, .pcie, by decide +kernel⟩

theorem met_LogTailFollowsTheHost :
    ∃ (s : State) (src : Requester), s.tidy = true ∧ s.thAllows src = true :=
  ⟨live, .pcie, by decide +kernel⟩

theorem met_TapAndPlainRegisterWrites :
    (∃ (s : State) (code : Nat), s.tidy = true ∧ code ≤ 1) ∧
    (∃ (s : State) (code a : Nat), s.tidy = true ∧ 1 < code ∧ keptByDevice a = true) ∧
    (∃ (s : State) (req : Requester) (addr : Nat), s.tidy = true ∧ s.thAllows req = true ∧ addr % 4 = 0 ∧ 32768 ≤ addr ∧ addr < 61440) :=
  ⟨⟨live, 1, by decide +kernel⟩,
    ⟨live, 3000000, 0xEFFC, by decide +kernel⟩,
    ⟨live, .pcie, 0xEFFC, by decide +kernel⟩⟩

theorem met_RelayAndMailboxAccess :
    (∃ (s : State) (w : Twin), s.tidy = true ∧ s.dev.inReset = false ∧ s.mainOff = false ∧ s.roleOf w ≠ Role.active) ∧
    (∃ (s : State) (w : Twin), s.tidy = true ∧ s.dev.inReset = false ∧ s.mainOff = false ∧ s.roleOf w = Role.active ∧ (805306368 ≤ BitVec.toNat (s.reg
      Reg.HOST_RELAY_ADDR) ∨ BitVec.toNat (s.reg Reg.HOST_RELAY_ADDR) % 4 ≠ 0 ∨ BitVec.toNat (s.reg Reg.HOST_RELAY_ADDR) = Reg.HOST_RELAY_DATA)) ∧
    (∃ (s : State) (w : Twin), s.tidy = true ∧ s.dev.inReset = false ∧ s.mainOff = false ∧ s.roleOf w = Role.active ∧ BitVec.toNat (s.reg
      Reg.HOST_RELAY_ADDR) % 4 = 0 ∧ 32768 ≤ BitVec.toNat (s.reg Reg.HOST_RELAY_ADDR) ∧ BitVec.toNat (s.reg Reg.HOST_RELAY_ADDR) < 61440) ∧
    (∃ (s : State) (t : Nat) (portB : Bool) (src : Requester) (word : Nat), s.tidy = true ∧ s.dev.inReset = false ∧ s.mainOff = false ∧ word < 16384 ∧
      (portB = true → s.thAllows src = true) ∧ (∀ (o : MbxAcc), (s.mbxPort !portB) = some o → o.word = word → o.clock + 1 < max s.now t / 5) ∧ portB =
      false ∧ 16320 ≤ word ∧ word < 16352) ∧
    (∃ (s : State) (t : Nat) (portB : Bool) (src : Requester) (word : Nat) (v : LaneWord) (o : MbxAcc) (x y : Word), s.tidy = true ∧ s.dev.inReset = false
      ∧ s.mainOff = false ∧ word < 16384 ∧ (portB = true → s.thAllows src = true) ∧ (s.mbxPort !portB) = some o ∧ o.word = word ∧ o.clock = max s.now
      t / 5 ∧ o.wrote = some (x, y) ∧ x ≠ mergeBytes y v) ∧
    (∃ (s : State) (t : Nat) (portB : Bool) (src : Requester) (word : Nat) (o : MbxAcc) (x y : Word), s.tidy = true ∧ s.dev.inReset = false ∧
      s.mainOff = false ∧ word < 16384 ∧ (portB = true → s.thAllows src = true) ∧ (s.mbxPort !portB) = some o ∧ o.word = word ∧ o.clock + 1 = max
      s.now t / 5 ∧ o.wrote = some (x, y) ∧ s.once.seen = [] ∧ portB = true) ∧
    (∃ (s : State) (t : Nat) (portB : Bool) (src : Requester) (word : Nat) (o : MbxAcc) (x y : Word), s.tidy = true ∧ s.dev.inReset = false ∧
      s.mainOff = false ∧ word < 16384 ∧ (portB = true → s.thAllows src = true) ∧ (s.mbxPort !portB) = some o ∧ o.word = word ∧ o.clock + 1 = max
      s.now t / 5 ∧ o.wrote = some (x, y) ∧ s.once.seen = [] ∧ portB = false) ∧
    (∃ (s : State) (t : Nat) (portB : Bool) (src : Requester) (word : Nat), s.tidy = true ∧ s.dev.inReset = false ∧ s.mainOff = false ∧ word < 16384 ∧
      (portB = true → s.thAllows src = true) ∧ (∀ (o : MbxAcc), (s.mbxPort !portB) = some o → o.word = word → o.wrote.isSome = true → o.clock + 1 <
      max s.now t / 5)) ∧
    (∃ (s : State) (t : Nat) (portB : Bool) (src : Requester) (word : Nat) (o : MbxAcc), s.tidy = true ∧ s.dev.inReset = false ∧ s.mainOff = false ∧
      word < 16384 ∧ (portB = true → s.thAllows src = true) ∧ (s.mbxPort !portB) = some o ∧ o.word = word ∧ o.wrote.isSome = true ∧ (o.clock = max
      s.now t / 5 ∨ o.clock + 1 = max s.now t / 5) ∧ s.once.seen = [] ∧ portB = true) ∧
    (∃ (s : State) (t : Nat) (portB : Bool) (src : Requester) (word : Nat) (o : MbxAcc), s.tidy = true ∧ s.dev.inReset = false ∧ s.mainOff = false ∧
      word < 16384 ∧ (portB = true → s.thAllows src = true) ∧ (s.mbxPort !portB) = some o ∧ o.word = word ∧ o.wrote.isSome = true ∧ (o.clock = max
      s.now t / 5 ∨ o.clock + 1 = max s.now t / 5) ∧ s.once.seen = [] ∧ portB = false) :=
  ⟨⟨live, .b, by decide +kernel⟩,
    ⟨(live.setReg Reg.HOST_RELAY_ADDR 0x8001), .a, by decide +kernel⟩,
    ⟨(live.setReg Reg.HOST_RELAY_ADDR 0x8000), .a, by decide +kernel⟩,
    ⟨live, 3000000, false, .pcie, 0x3FDF, by decide +kernel⟩,
    ⟨(mailed (some ⟨400000,3,some (7,5),none⟩) none), 2000000, true, .pcie, 3, ⟨15, 0⟩, ⟨400000, 3, some (0x00000007#32, 0x00000005#32), none⟩,
      0x00000007#32, 0x00000005#32, by decide +kernel⟩,
    ⟨(mailed (some ⟨399999,3,some (7,5),none⟩) (some ⟨399999,3,some (7,5),some .i2c⟩)), 2000000, true, .pcie, 3, ⟨399999, 3, some (0x00000007#32,
      0x00000005#32), none⟩, 0x00000007#32, 0x00000005#32, by decide +kernel⟩,
    ⟨(mailed (some ⟨399999,3,some (7,5),none⟩) (some ⟨399999,3,some (7,5),some .i2c⟩)), 2000000, false, .pcie, 3, ⟨399999, 3, some (0x00000007#32,
      0x00000005#32), some (Requester.i2c)⟩, 0x00000007#32, 0x00000005#32, by decide +kernel⟩,
    ⟨live, 3000000, true, .pcie, 0x3FE0, by decide +kernel⟩,
    ⟨(mailed (some ⟨400000,3,some (7,5),none⟩) none), 2000000, true, .pcie, 3, ⟨400000, 3, some (0x00000007#32, 0x00000005#32), none⟩, by
      decide +kernel⟩,
    ⟨(mailed none (some ⟨400000,3,some (7,5),some .pcie⟩)), 2000000, false, .pcie, 3, ⟨400000, 3, some (0x00000007#32, 0x00000005#32), some
      (Requester.pcie)⟩, by decide +kernel⟩⟩

theorem met_ManagementAndEndpointAnswer :
    (∃ (s : State) (addr : Nat) (words : List Word) (pecOk : Passed) (i : Nat), s.tidy = true ∧ s.dev.inReset = false ∧ s.mainOff = false ∧ s.rb
      Reg.PWR_STAT Fld.PWR_STAT_WAKE_FAIL = false ∧ addr % 4 = 0 ∧ 32768 ≤ addr ∧ addr + 4 * words.length ≤ 61440 ∧ (s.rb Reg.MGMT_CFG
      Fld.MGMT_CFG_PEC = false ∨ pecOk = true ∧ 1 ≤ words.length ∧ words.length ≤ 16) ∧ i < words.length) ∧
    (∃ (s : State) (addr : Nat) (words : List Word) (pecOk : Passed) (a : Nat), s.tidy = true ∧ s.dev.inReset = false ∧ s.mainOff = false ∧ s.rb
      Reg.PWR_STAT Fld.PWR_STAT_WAKE_FAIL = false ∧ addr % 4 = 0 ∧ 32768 ≤ addr ∧ addr + 4 * words.length ≤ 61440 ∧ (s.rb Reg.MGMT_CFG
      Fld.MGMT_CFG_PEC = false ∨ pecOk = true ∧ 1 ≤ words.length ∧ words.length ≤ 16) ∧ (a < addr ∨ addr + 4 * words.length ≤ a)) ∧
    (∃ (s : State) (addr : Nat) (words : List Word) (pecOk : Passed), s.tidy = true ∧ s.dev.inReset = false ∧ s.mainOff = false ∧ s.rb Reg.PWR_STAT
      Fld.PWR_STAT_WAKE_FAIL = false ∧ addr % 4 = 0 ∧ 32768 ≤ addr ∧ addr + 4 * words.length ≤ 61440 ∧ s.rb Reg.MGMT_CFG Fld.MGMT_CFG_PEC = true ∧
      pecOk = false) ∧
    (∃ (s : State) (addr count : Nat), s.tidy = true ∧ s.dev.inReset = false ∧ s.mainOff = false ∧ s.rb Reg.PWR_STAT Fld.PWR_STAT_WAKE_FAIL = false ∧
      addr % 4 = 0 ∧ 32768 ≤ addr ∧ addr + 4 * count ≤ 61440 ∧ s.rb Reg.MGMT_CFG Fld.MGMT_CFG_PEC = false) ∧
    (∃ (s : State) (addr count : Nat), s.tidy = true ∧ s.dev.inReset = false ∧ s.mainOff = false ∧ s.rb Reg.PWR_STAT Fld.PWR_STAT_WAKE_FAIL = false ∧
      addr % 4 = 0 ∧ 32768 ≤ addr ∧ addr + 4 * count ≤ 61440 ∧ s.rb Reg.MGMT_CFG Fld.MGMT_CFG_PEC = true ∧ 1 ≤ count ∧ count ≤ 16) ∧
    (∃ (s : State) (a : Nat), s.tidy = true ∧ s.dev.inReset = false ∧ s.mainOff = false ∧ s.rb Reg.PWR_STAT Fld.PWR_STAT_WAKE_FAIL = false ∧ s.perst =
      false ∧ (a < 86016 ∨ 86048 ≤ a)) ∧
    (∃ (s : State) (en bme fmask : Bool), s.tidy = true ∧ s.dev.inReset = false ∧ s.mainOff = false ∧ s.rb Reg.PWR_STAT Fld.PWR_STAT_WAKE_FAIL = false
      ∧ s.perst = false ∧ (en = false ∨ bme = false ∨ fmask = true)) ∧
    (∃ (s : State) (en bme fmask : Bool) (v : Nat), s.tidy = true ∧ s.dev.inReset = false ∧ s.mainOff = false ∧ s.rb Reg.PWR_STAT
      Fld.PWR_STAT_WAKE_FAIL = false ∧ s.perst = false ∧ en = true ∧ bme = true ∧ fmask = false ∧ v < 256 ∧ bitAt (BitVec.toNat (s.rdB (81920 + 16 * v
      + 12))) 0 = false ∧ bitAt (BitVec.toNat (s.rdB (86016 + v / 8))) (v % 8) = true) ∧
    (∃ (s : State), s.tidy = true ∧ s.dev.inReset = false ∧ s.mainOff = true ∧ s.rb Reg.PWR_STAT Fld.PWR_STAT_WAKE_FAIL = false ∧ s.powerPhase = 0) :=
  ⟨⟨live, 0xEFFC, [5], true, 0, by decide +kernel⟩,
    ⟨live, 0xEFFC, [], true, 3000000, by decide +kernel⟩,
    ⟨(live.sb Reg.MGMT_CFG Fld.MGMT_CFG_PEC true), 0xEFFC, [], false, by decide +kernel⟩,
    ⟨live, 0xEFFC, 1, by decide +kernel⟩,
    ⟨(live.sb Reg.MGMT_CFG Fld.MGMT_CFG_PEC true), 0xEFFC, 1, by decide +kernel⟩,
    ⟨live, 3000000, by decide +kernel⟩,
    ⟨live, true, true, true, by decide +kernel⟩,
    ⟨({((live.wrB 0x15001 4).wrB 0x1400C 0).wrB (0x14000+16*10+12) 0 with msixEn := true}), true, true, false, 10, by decide +kernel⟩,
    ⟨{live with mainOff := true, role := ⟨.off,.off⟩}, by decide +kernel⟩⟩

theorem met_FlashCommandsRun :
    (∃ (s : State) (ch : Fin 2) (src : Requester) (op : Nat), s.tidy = true ∧ s.thAllows src = true ∧ op ∈ [1, 2, 3, 4, 5, 6] ∧ channelServes (↑ch)
      src = false) ∧
    (∃ (s : State) (ch : Fin 2) (src : Requester) (len op : Nat), s.tidy = true ∧ s.thAllows src = true ∧ op ∈ [1, 2, 3, 4, 5, 6] ∧ channelServes
      (↑ch) src = true ∧ (s.flashReason (⟨↑ch, op, if op = 3 ∨ op = 4 then 0 else len, BitVec.toNat (s.reg (Reg.FLASH_ADDR ↑ch)), s.rf (Reg.FLASH_DST
      ↑ch) Fld.FLASH_DST_DST, if op = 2 then s.rdBytes (24832 + ↑ch * 512) len else []⟩ : FlashJob) ≠ 0)) ∧
    (∃ (s : State) (ch : Fin 2) (src : Requester) (len op : Nat), s.tidy = true ∧ s.thAllows src = true ∧ op ∈ [1, 2, 3, 4, 5, 6] ∧ channelServes
      (↑ch) src = true ∧ (s.flashReason (⟨↑ch, op, if op = 3 ∨ op = 4 then 0 else len, BitVec.toNat (s.reg (Reg.FLASH_ADDR ↑ch)), s.rf (Reg.FLASH_DST
      ↑ch) Fld.FLASH_DST_DST, if op = 2 then s.rdBytes (24832 + ↑ch * 512) len else []⟩ : FlashJob) = 0) ∧ ((⟨↑ch, op, if op = 3 ∨ op = 4 then 0 else
      len, BitVec.toNat (s.reg (Reg.FLASH_ADDR ↑ch)), s.rf (Reg.FLASH_DST ↑ch) Fld.FLASH_DST_DST, if op = 2 then s.rdBytes (24832 + ↑ch * 512) len
      else []⟩ : FlashJob).covers.2 = 0)) ∧
    (∃ (s : State) (ch : Fin 2) (src : Requester) (len op n : Nat), s.tidy = true ∧ s.thAllows src = true ∧ op ∈ [1, 2, 3, 4, 5, 6] ∧ channelServes
      (↑ch) src = true ∧ (s.flashReason (⟨↑ch, op, if op = 3 ∨ op = 4 then 0 else len, BitVec.toNat (s.reg (Reg.FLASH_ADDR ↑ch)), s.rf (Reg.FLASH_DST
      ↑ch) Fld.FLASH_DST_DST, if op = 2 then s.rdBytes (24832 + ↑ch * 512) len else []⟩ : FlashJob) = 0) ∧ n < 5 ∧ (overlaps (s.slotRange n).1
      (s.slotRange n).2 (⟨↑ch, op, if op = 3 ∨ op = 4 then 0 else len, BitVec.toNat (s.reg (Reg.FLASH_ADDR ↑ch)), s.rf (Reg.FLASH_DST ↑ch)
      Fld.FLASH_DST_DST, if op = 2 then s.rdBytes (24832 + ↑ch * 512) len else []⟩ : FlashJob).covers.1 (⟨↑ch, op, if op = 3 ∨ op = 4 then 0 else len,
      BitVec.toNat (s.reg (Reg.FLASH_ADDR ↑ch)), s.rf (Reg.FLASH_DST ↑ch) Fld.FLASH_DST_DST, if op = 2 then s.rdBytes (24832 + ↑ch * 512) len else []⟩
      : FlashJob).covers.2 = true)) ∧
    (∃ (s : State) (ch : Fin 2) (j : FlashJob) (rest : List FlashJob) (i : Nat), s.tidy = true ∧ s.flash = j :: rest ∧ j.ch = ↑ch ∧ j.addr + 65536 ≤
      s.flashSize ∧ j.addr < 2 ^ 32 - 65536 ∧ j.len ≤ 256 ∧ j.bytes.length ≤ 256 ∧ 1 ≤ j.op ∧ j.op ≤ 6 ∧ j.op = 1 ∧ i < j.len) ∧
    (∃ (s : State) (ch : Fin 2) (j : FlashJob) (rest : List FlashJob) (i : Nat), s.tidy = true ∧ s.flash = j :: rest ∧ j.ch = ↑ch ∧ j.addr + 65536 ≤
      s.flashSize ∧ j.addr < 2 ^ 32 - 65536 ∧ j.len ≤ 256 ∧ j.bytes.length ≤ 256 ∧ 1 ≤ j.op ∧ j.op ≤ 6 ∧ j.op = 2 ∧ i < if j.op = 3 then 4096 else if
      j.op = 4 then 65536 else j.bytes.length) ∧
    (∃ (s : State) (ch : Fin 2) (j : FlashJob) (rest : List FlashJob) (i : Nat), s.tidy = true ∧ s.flash = j :: rest ∧ j.ch = ↑ch ∧ j.addr + 65536 ≤
      s.flashSize ∧ j.addr < 2 ^ 32 - 65536 ∧ j.len ≤ 256 ∧ j.bytes.length ≤ 256 ∧ 1 ≤ j.op ∧ j.op ≤ 6 ∧ (j.op = 3 ∨ j.op = 4) ∧ i < if j.op = 3 then
      4096 else if j.op = 4 then 65536 else j.bytes.length) ∧
    (∃ (s : State) (ch : Fin 2) (j : FlashJob) (rest : List FlashJob) (w : Twin) (i : Nat), s.tidy = true ∧ s.flash = j :: rest ∧ j.ch = ↑ch ∧ j.addr
      + 65536 ≤ s.flashSize ∧ j.addr < 2 ^ 32 - 65536 ∧ j.len ≤ 256 ∧ j.bytes.length ≤ 256 ∧ 1 ≤ j.op ∧ j.op ≤ 6 ∧ j.op = 6 ∧ j.dst + j.len ≤
      34359738368 ∧ s.roleOf w ≠ Role.off ∧ i < j.len) ∧
    (∃ (s : State) (ch : Fin 2) (j : FlashJob) (rest : List FlashJob), s.tidy = true ∧ s.flash = j :: rest ∧ j.ch = ↑ch ∧ j.addr + 65536 ≤ s.flashSize
      ∧ j.addr < 2 ^ 32 - 65536 ∧ j.len ≤ 256 ∧ j.bytes.length ≤ 256 ∧ 2 ≤ j.op ∧ j.op ≤ 4) :=
  ⟨⟨(flashed []), 0, (.core .a 0), 6, by decide +kernel⟩,
    ⟨(flashed []), 0, .pcie, 256, 6, by decide +kernel⟩,
    ⟨(flashed []), 0, .pcie, 256, 5, by decide +kernel⟩,
    ⟨((flashed []).setReg (Reg.FLASH_ADDR 0) 0x810000), 0, .pcie, 256, 4, 2, by decide +kernel⟩,
    ⟨(flashed [⟨0,1,4,0xD10000,0,[]⟩]), 0, ⟨0, 1, 4, 13697024, 0, []⟩, [], 3, by decide +kernel⟩,
    ⟨(flashed [⟨0,2,2,0xD10000,0,[0x55,0xF0]⟩]), 0, ⟨0, 2, 2, 13697024, 0, [0x55#8, 0xf0#8]⟩, [], 1, by decide +kernel⟩,
    ⟨(flashed [⟨0,3,0,0xD10000,0,[]⟩]), 0, ⟨0, 3, 0, 13697024, 0, []⟩, [], 256, by decide +kernel⟩,
    ⟨(flashed [⟨1,6,4,0xD10000,0x770000000,[]⟩]), 1, ⟨1, 6, 4, 13697024, 31943819264, []⟩, [], .a, 3, by decide +kernel⟩,
    ⟨(flashed [⟨0,2,2,0xD10000,0,[0x55,0xF0]⟩]), 0, ⟨0, 2, 2, 13697024, 0, [0x55#8, 0xf0#8]⟩, [], by decide +kernel⟩⟩

theorem met_RhizoidOutboundTransactions :
    (∃ (s : State) (w : Twin) (x : RzWrite), s.tidy = true ∧ s.rzOn = true ∧ s.active = some w ∧ s.rz.grant = none ∧ s.rz.txn = none ∧
      ((match s.rz.lock with | none => (s.tw w).bridge.writes.head? | some (c, fst, snd) => List.find? (fun (x : RzWrite) => x.locked && decide (x.req = c)) (s.tw w).bridge.writes)
      = some x)) ∧
    (∃ (s : State) (t : Nat) (w : Twin) (addr : Nat) (v : Word), s.tidy = true ∧ s.rzOn = true ∧ s.active = some w ∧ addr < 2 ^ 32 ∧ (s.beginAt
      t).pfWord w addr = some v) ∧
    (∃ (s : State) (t : Nat) (w : Twin) (addr : Nat), s.tidy = true ∧ s.rzOn = true ∧ s.active = some w ∧ addr < 2 ^ 32 ∧ s.rz.grant = none ∧ s.rz.txn
      = none ∧ s.rz.lock = none ∧ (s.tw w).bridge.writes = [] ∧ (s.tw w).bridge.reads = [] ∧ (s.beginAt t).pfWord w addr = none) ∧
    (∃ (s : State) (w : Twin) (addr : Nat), s.tidy = true ∧ s.rzOn = true ∧ s.active = some w ∧ addr < 2 ^ 32 ∧ s.rz.grant = none ∧ s.rz.txn = none ∧
      s.rz.lock = none ∧ (s.tw w).bridge.writes = [] ∧ (s.tw w).bridge.reads = [] ∧ s.rb Reg.RZP_CFG Fld.RZP_CFG_QM16_LOCK = true) ∧
    (∃ (s : State) (w : Twin) (addr : Nat), s.tidy = true ∧ s.rzOn = true ∧ s.active = some w ∧ addr < 2 ^ 32 ∧ s.rb Reg.RZP_CFG Fld.RZP_CFG_QM16_LOCK
      = false) ∧
    (∃ (s : State) (w : Twin) (x : RzTxn), s.tidy = true ∧ s.rzOn = true ∧ s.active = some w ∧ s.rz.txn = some x ∧ x.again = false ∧ s.rz.grant = none
      ∧ s.mainOff = false ∧ x.cmd ≠ 3 ∧ x.range = none ∧ (∃ (r : RzRead), (s.tw w).bridge.reads = [r] ∧ r.addr = x.addr ∧ r.locked = x.locked) ∧ x.req
      = 16) ∧
    (∃ (s : State) (w : Twin) (x : RzTxn), s.tidy = true ∧ s.rzOn = true ∧ s.active = some w ∧ s.rz.txn = some x ∧ x.again = false ∧ s.rz.grant = none
      ∧ s.mainOff = false ∧ x.cmd = 3 ∧ (s.tw w).bridge.reads = [] ∧ x.locked = true) ∧
    (∃ (s : State) (w : Twin) (x : RzTxn), s.tidy = true ∧ s.rzOn = true ∧ s.active = some w ∧ s.rz.txn = some x ∧ x.again = false ∧ s.rz.grant = none
      ∧ s.mainOff = false ∧ x.cmd = 3 ∧ (s.tw w).bridge.reads = [] ∧ s.rb (Reg.BRDG_EVT_CTL w) Fld.BRDG_EVT_CTL_WERR_EN = true ∧ (s.tw w).marked 84 =
      false) ∧
    (∃ (s : State) (w : Twin) (x : RzTxn), s.tidy = true ∧ s.rzOn = true ∧ s.active = some w ∧ s.rz.txn = some x ∧ x.again = false ∧ s.rz.grant = none
      ∧ s.mainOff = false ∧ x.retries < 8) ∧
    (∃ (s : State) (w : Twin) (c from_ a : Nat), s.tidy = true ∧ s.rzOn = true ∧ s.active = some w ∧ s.rz.lock = some (c, from_, a) ∧ s.rz.txn = none
      ∧ s.rz.grant = none ∧ (s.tw w).bridge.writes = [] ∧ (s.tw w).bridge.reads = [] ∧ s.rb (Reg.BRDG_EVT_CTL w) Fld.BRDG_EVT_CTL_LOCK_EN = true ∧
      (s.tw w).marked 87 = false) ∧
    (∃ (s : State) (t : Nat) (w : Twin) (x : RzTxn), s.tidy = true ∧ s.rzOn = true ∧ s.active = some w ∧ s.rz.txn = some x ∧ x.again = false ∧ s.rz.grant = none
      ∧ s.mainOff = false ∧ x.cmd ≠ 3 ∧ x.range = none ∧ (∃ (r : RzRead), (s.tw w).bridge.reads = [r] ∧ r.addr = x.addr ∧ r.locked = x.locked) ∧
      (s.beginAt t).hostLate x = true) ∧
    (∃ (s : State) (t : Nat) (w : Twin) (x : RzTxn), s.tidy = true ∧ s.rzOn = true ∧ s.active = some w ∧ s.rz.txn = some x ∧ x.again = false ∧ s.rz.grant = none
      ∧ s.mainOff = false ∧ x.cmd ≠ 3 ∧ x.range = none ∧ (∃ (r : RzRead), (s.tw w).bridge.reads = [r] ∧ r.addr = x.addr ∧ r.locked = x.locked) ∧
      (s.beginAt t).hostLate x = false) :=
  ⟨⟨posted, Twin.a, ⟨256, 0x00000007#32, 3, false⟩, by decide +kernel⟩,
    ⟨(((bussed Rhizoid.reset).sb (Reg.BRDG_PF_BASE .a 0) Fld.BRDG_PF_BASE_EN true).modBridge .a (fun b => {b with held := [(0,0,999999,List.replicate
      16 5)]})), 15, Twin.a, 15, 0x00000005#32, by decide +kernel⟩,
    ⟨(bussed Rhizoid.reset), 3000000, Twin.a, 3000000, by decide +kernel⟩,
    ⟨((bussed Rhizoid.reset).sb Reg.RZP_CFG Fld.RZP_CFG_QM16_LOCK true), Twin.a, 3000000, by decide +kernel⟩,
    ⟨(bussed Rhizoid.reset), Twin.a, 3000000, by decide +kernel⟩,
    ⟨({reading with rz := {reading.rz with txn := some ⟨2, 0x100, [], 0, 16, false, 0, none, false⟩}}), Twin.a, ⟨2, 256, [], 0x00000000#32, 16, false,
      0, none, false⟩, by decide +kernel, by decide +kernel, by decide +kernel, by decide +kernel, by decide +kernel, by decide +kernel, by
      decide +kernel, by decide +kernel, by decide +kernel, ⟨⟨0x100, 3, false, 0, 1000000⟩, by decide +kernel⟩, by decide +kernel⟩,
    ⟨(writing 0), Twin.a, ⟨3, 256, [], 0x00000007#32, 3, true, 0, none, false⟩, by decide +kernel⟩,
    ⟨(writing 0), Twin.a, ⟨3, 256, [], 0x00000007#32, 3, true, 0, none, false⟩, by decide +kernel⟩,
    ⟨reading, Twin.a, ⟨2, 256, [], 0x00000000#32, 3, false, 0, none, false⟩, by decide +kernel⟩,
    ⟨(bussed {Rhizoid.reset with lock := some (3,5,0x100)}), Twin.a, 3, 5, 256, by decide +kernel⟩,
    ⟨((bussed { Rhizoid.reset with txn := some ⟨2, 0x100, [], 0, 16, false, 0, none, false⟩ }).modBridge .a (fun b => { b with reads := [⟨0x100, 16,
      false, 0, 1000000⟩] })), 1002001, Twin.a, ⟨2, 256, [], 0x00000000#32, 16, false, 0, none, false⟩, by decide +kernel, by decide +kernel, by
      decide +kernel, by decide +kernel, by decide +kernel, by decide +kernel, by decide +kernel, by decide +kernel, by decide +kernel, ⟨⟨0x100, 16,
      false, 0, 1000000⟩, by decide +kernel⟩, by decide +kernel⟩,
    ⟨((bussed { Rhizoid.reset with txn := some ⟨2, 0x100, [], 0, 16, false, 0, none, false⟩ }).modBridge .a (fun b => { b with reads := [⟨0x100, 16,
      false, 0, 1000000⟩] })), 1002000, Twin.a, ⟨2, 256, [], 0x00000000#32, 16, false, 0, none, false⟩, by decide +kernel, by decide +kernel, by
      decide +kernel, by decide +kernel, by decide +kernel, by decide +kernel, by decide +kernel, by decide +kernel, by decide +kernel, ⟨⟨0x100, 16,
      false, 0, 1000000⟩, by decide +kernel⟩, by decide +kernel⟩⟩

theorem met_RhizoidFarInitiatorsSemaphoresAndLines :
    (∃ (s : State), s.tidy = true ∧ s.rzOn = true ∧ s.rzIdle = true ∧ s.rz.lock = none) ∧
    (∃ (s : State), s.tidy = true ∧ s.rzOn = true ∧ (s.rzIdle = false ∨ s.rz.lock.isSome = true)) ∧
    (∃ (s : State) (x : RzTxn), s.tidy = true ∧ s.rzOn = true ∧ s.rz.txn = some x ∧ x.again = false ∧ s.rz.lock = none ∧ x.retries < 8) ∧
    (∃ (s : State) (far : Fin 2) (at_ addr word : Nat), s.tidy = true ∧ s.rzOn = true ∧ s.rz.grant = some (↑far, at_) ∧ s.rz.txn = none ∧ (∀ (y :
      Twin), (s.tw y).bridge.reads = []) ∧ (s.rb Reg.RZP_MBX Fld.RZP_MBX_EN && decide (s.rf Reg.RZP_MBX Fld.RZP_MBX_BASE * 131072 ≤ addr / 4 * 4 ∧
      addr / 4 * 4 - s.rf Reg.RZP_MBX Fld.RZP_MBX_BASE * 131072 < 65664)) = true ∧ addr / 4 * 4 = s.rf Reg.RZP_MBX Fld.RZP_MBX_BASE * 131072 + 4 *
      word ∧ word < 16384 ∧ s.mbxB = none) ∧
    (∃ (s : State) (far : Fin 2) (at_ addr n : Nat), s.tidy = true ∧ s.rzOn = true ∧ s.rz.grant = some (↑far, at_) ∧ s.rz.txn = none ∧ (∀ (y : Twin),
      (s.tw y).bridge.reads = []) ∧ (s.rb Reg.RZP_MBX Fld.RZP_MBX_EN && decide (s.rf Reg.RZP_MBX Fld.RZP_MBX_BASE * 131072 ≤ addr / 4 * 4 ∧ addr / 4 *
      4 - s.rf Reg.RZP_MBX Fld.RZP_MBX_BASE * 131072 < 65664)) = true ∧ addr / 4 * 4 = s.rf Reg.RZP_MBX Fld.RZP_MBX_BASE * 131072 + 65536 + 4 * n ∧ n
      < 32 ∧ s.rf (Reg.RZP_SEM n) Fld.RZP_SEM_OWNER = 31) ∧
    (∃ (s : State) (far : Fin 2) (at_ addr d : Nat) (y : Twin), s.tidy = true ∧ s.rzOn = true ∧ s.rz.grant = some (↑far, at_) ∧ s.rz.txn = none ∧ (∀
      (y : Twin), (s.tw y).bridge.reads = []) ∧ (s.rb Reg.RZP_MBX Fld.RZP_MBX_EN && decide (s.rf Reg.RZP_MBX Fld.RZP_MBX_BASE * 131072 ≤ addr / 4 * 4
      ∧ addr / 4 * 4 - s.rf Reg.RZP_MBX Fld.RZP_MBX_BASE * 131072 < 65664)) = false ∧ s.inWindow (addr / 4 * 4) = some d ∧ (s.reach Via.mirror).1 ≠ []
      ∧ y ∈ (s.reach Via.mirror).1) ∧
    (∃ (s : State) (far : Fin 2) (at_ addr : Nat), s.tidy = true ∧ s.rzOn = true ∧ s.rz.grant = some (↑far, at_) ∧ s.rz.txn = none ∧ (∀ (y : Twin),
      (s.tw y).bridge.reads = []) ∧ (s.rb Reg.RZP_MBX Fld.RZP_MBX_EN && decide (s.rf Reg.RZP_MBX Fld.RZP_MBX_BASE * 131072 ≤ addr / 4 * 4 ∧ addr / 4 *
      4 - s.rf Reg.RZP_MBX Fld.RZP_MBX_BASE * 131072 < 65664)) = false ∧ s.inWindow (addr / 4 * 4) = none) ∧
    (∃ (s : State) (t g at_ : Nat), s.tidy = true ∧ s.rzOn = true ∧ s.rz.grant = some (g, at_) ∧ at_ + 40 ≤ max s.now t ∧ s.rz.txn = none ∧ (∀ (y : Twin), (s.tw y).bridge.reads = [])) ∧
    (∃ (s : State) (src : Requester), s.tidy = true ∧ s.rzOn = true ∧ s.thAllows src = true) ∧
    (∃ (s : State) (w : Twin) (i : Nat), s.tidy = true ∧ s.rzOn = true ∧ s.roleOf w ≠ Role.off ∧ i < 8) ∧
    (∃ (s : State) (lines : Byte) (w : Twin), s.tidy = true ∧ s.rzOn = true ∧ s.roleOf w ≠ Role.off ∧ (∃ i < 8, (bitAt (s.rf (Reg.BRDG_LINE w)
      Fld.BRDG_LINE_MASK) i && if bitAt (s.rf (Reg.BRDG_LINE w) Fld.BRDG_LINE_EDGE) i = true then bitAt s.rz.level i != bitAt (BitVec.toNat lines) i
      else bitAt s.rz.level i && !bitAt (BitVec.toNat lines) i) = true ∧ bitAt (s.rf (Reg.BRDG_LINE w) Fld.BRDG_LINE_PEND) i = false) ∧ s.rb
      (Reg.BRDG_EVT_CTL w) Fld.BRDG_EVT_CTL_LINE_EN = true ∧ (s.tw w).marked 86 = false) ∧
    (∃ (s : State) (t g at_ : Nat), s.tidy = true ∧ s.rzOn = true ∧ s.rz.grant = some (g, at_) ∧ max s.now t < at_ + 40) :=
  ⟨⟨(bussed Rhizoid.reset), by decide +kernel⟩,
    ⟨granted, by decide +kernel⟩,
    ⟨reading, ⟨2, 256, [], 0x00000000#32, 3, false, 0, none, false⟩, by decide +kernel⟩,
    ⟨granted, 1, 900000, 0xFFFC, 16383, by decide +kernel, by decide +kernel, by decide +kernel, by decide +kernel, bothTwins (by decide +kernel) (by
      decide +kernel), by decide +kernel, by decide +kernel, by decide +kernel, by decide +kernel⟩,
    ⟨granted, 1, 900000, 0x1007C, 31, by decide +kernel, by decide +kernel, by decide +kernel, by decide +kernel, bothTwins (by decide +kernel) (by
      decide +kernel), by decide +kernel, by decide +kernel, by decide +kernel, by decide +kernel⟩,
    ⟨granted, 1, 900000, 0x1000004, 32480690180, .a, by decide +kernel, by decide +kernel, by decide +kernel, by decide +kernel, bothTwins (by
      decide +kernel) (by decide +kernel), by decide +kernel, by decide +kernel, by decide +kernel, by decide +kernel⟩,
    ⟨granted, 1, 900000, 3000000, by decide +kernel, by decide +kernel, by decide +kernel, by decide +kernel, bothTwins (by decide +kernel) (by
      decide +kernel), by decide +kernel, by decide +kernel⟩,
    ⟨granted, 5, 1, 900000, by decide +kernel, by decide +kernel, by decide +kernel, by decide +kernel, by decide +kernel, bothTwins (by decide +kernel) (by decide +kernel)⟩,
    ⟨(bussed Rhizoid.reset), .pcie, by decide +kernel⟩,
    ⟨(bussed Rhizoid.reset), .a, 5, by decide +kernel⟩,
    ⟨([Twin.a,.b].foldl (fun s w => (s.sf (Reg.BRDG_LINE w) Fld.BRDG_LINE_MASK 0x3F).sf (Reg.BRDG_LINE w) Fld.BRDG_LINE_EDGE 0xF |>.sb
      (Reg.BRDG_EVT_CTL w) Fld.BRDG_EVT_CTL_LINE_EN true |>.sf (Reg.BRDG_LINE w) Fld.BRDG_LINE_PEND 3) (bussed Rhizoid.reset)), 0x5A, .a, by
      decide +kernel, by decide +kernel, by decide +kernel, ⟨2, by decide +kernel⟩, by decide +kernel, by decide +kernel⟩,
    ⟨(bussed { Rhizoid.reset with grant := some (1, 1000000) }), 1000039, 1, 1000000, by decide +kernel⟩⟩

theorem met_ControlSessionsAndMessages :
    (∃ (s : State) (w : Twin) (via : Via), s.tidy = true ∧ w ∈ (s.reach via).1 ∧ (Smap.wf (fun (x : ℕ) => 0) (s.ctl w).words = true) ∧ s.rf
      (Reg.CTL_KEY_SEL w) Fld.CTL_KEY_SEL_WORD = 7) ∧
    (∃ (s : State) (w : Twin) (via : Via), s.tidy = true ∧ w ∈ (s.reach via).1 ∧ (Smap.wf (fun (x : ℕ) => 0) (s.ctl w).words = true) ∧ s.rf
      (Reg.CTL_KEY_SEL w) Fld.CTL_KEY_SEL_WORD ≠ 7) ∧
    (∃ (s : State) (w : Twin) (via : Via) (x : Nat), s.tidy = true ∧ w ∈ (s.reach via).1 ∧ (Smap.wf (fun (x : ℕ) => 0) (s.ctl w).words = true) ∧ x ≠ 8
      * s.rf (Reg.CTL_KEY_SEL w) Fld.CTL_KEY_SEL_INDEX + s.rf (Reg.CTL_KEY_SEL w) Fld.CTL_KEY_SEL_WORD) ∧
    (∃ (s : State) (w : Twin) (via : Via) (v : Word), s.tidy = true ∧ w ∈ (s.reach via).1 ∧ getFld v Fld.CTL_KEY_SEL_CLEAR = 1) ∧
    (∃ (s : State) (w : Twin) (via : Via) (v : Word), s.tidy = true ∧ w ∈ (s.reach via).1 ∧ getFld v Fld.CTL_KEY_SEL_CLEAR = 0) ∧
    (∃ (s : State) (t : Nat) (n : Fin 4) (msg : List Byte) (w : Twin) (k : List Byte), s.tidy = true ∧ s.active = some w ∧ s.netFlag w (↑n) 4 = true ∧
      s.inNap = false ∧ s.dev.inReset = false ∧ s.mainOff = false ∧ msgForm msg 1 = true ∧ msgLen msg = 20 ∧ s.ctlKey w (msgN msg 16 1) = some k ∧
      msgTagOk k msg = true ∧ ((List.filter (fun (x : CtlSession) => decide (x.port = ↑n)) (List.filter (fun (x : CtlSession) => decide ((s.beginAt
      t).tbNow 3 < x.heard + 10000000000)) (s.ctl w).sessions)).length < 8)) ∧
    (∃ (s : State) (n : Fin 4) (msg : List Byte) (w : Twin) (k : List Byte), s.tidy = true ∧ s.active = some w ∧ s.netFlag w (↑n) 4 = true ∧ s.inNap =
      false ∧ s.dev.inReset = false ∧ s.mainOff = false ∧ msgForm msg 1 = true ∧ msgLen msg = 20 ∧ s.ctlKey w (msgN msg 16 1) = some k ∧ msgTagOk k
      msg = false) ∧
    (∃ (s : State) (t : Nat) (n : Fin 4) (msg : List Byte) (w : Twin) (x : CtlSession), s.tidy = true ∧ s.active = some w ∧ s.netFlag w (↑n) 4 = true
      ∧ s.inNap = false ∧ s.dev.inReset = false ∧ s.mainOff = false ∧ (List.find? (fun (x : CtlSession) => decide (x.port = ↑n) && decide (x.num =
      msgN msg 4 4)) (List.filter (fun (x : CtlSession) => decide ((s.beginAt t).tbNow 3 < x.heard + 10000000000)) (s.ctl w).sessions) = some x) ∧
      msgTagOk x.key msg = true ∧ x.accepts (msgN msg 8 4) = true ∧ msgForm msg 6 = true) ∧
    (∃ (s : State) (t : Nat) (n : Fin 4) (msg : List Byte) (w : Twin) (x : CtlSession) (a : Nat), s.tidy = true ∧ s.active = some w ∧ s.netFlag w (↑n)
      4 = true ∧ s.inNap = false ∧ s.dev.inReset = false ∧ s.mainOff = false ∧ (List.find? (fun (x : CtlSession) => decide (x.port = ↑n) && decide
      (x.num = msgN msg 4 4)) (List.filter (fun (x : CtlSession) => decide ((s.beginAt t).tbNow 3 < x.heard + 10000000000)) (s.ctl w).sessions) = some
      x) ∧ msgTagOk x.key msg = true ∧ x.accepts (msgN msg 8 4) = true ∧ a % 4 = 0 ∧ 32768 ≤ a ∧ a < 61440 ∧ msgN msg 16 4 = a ∧ ctlCount msg = 1 ∧
      msgForm msg 3 = true ∧ msgLen msg = 8) ∧
    (∃ (s : State) (t : Nat) (n : Fin 4) (msg : List Byte) (w : Twin) (x : CtlSession) (a : Nat), s.tidy = true ∧ s.active = some w ∧ s.netFlag w (↑n)
      4 = true ∧ s.inNap = false ∧ s.dev.inReset = false ∧ s.mainOff = false ∧ (List.find? (fun (x : CtlSession) => decide (x.port = ↑n) && decide
      (x.num = msgN msg 4 4)) (List.filter (fun (x : CtlSession) => decide ((s.beginAt t).tbNow 3 < x.heard + 10000000000)) (s.ctl w).sessions) = some
      x) ∧ msgTagOk x.key msg = true ∧ x.accepts (msgN msg 8 4) = true ∧ a % 4 = 0 ∧ 32768 ≤ a ∧ a < 61440 ∧ msgN msg 16 4 = a ∧ ctlCount msg = 1 ∧
      msgForm msg 4 = true ∧ msgLen msg = 12) :=
  ⟨⟨({channel.sf (Reg.CTL_KEY_SEL .a) Fld.CTL_KEY_SEL_WORD 7 with now := 20000000000}), .a, .mirror, by decide +kernel⟩,
    ⟨channel, .a, .mirror, by decide +kernel⟩,
    ⟨channel, .a, .mirror, 3000000, by decide +kernel⟩,
    ⟨channel, .a, .mirror, 0xFFFFFFFF, by decide +kernel⟩,
    ⟨channel, .a, .mirror, 0, by decide +kernel⟩,
    ⟨channel, 3000000, 0, (message 1 0 0 (List.replicate 20 0) (List.replicate 32 0)), Twin.a, (List.replicate 32 0), by decide +kernel, by
      decide +kernel, by decide +kernel, by decide +kernel, by decide +kernel, by decide +kernel, tagged_form (by decide +kernel), by decide +kernel,
      by decide +kernel, tagged_ok (by decide +kernel), by decide +kernel⟩,
    ⟨channel, 0, (forged (List.replicate 32 0) (plainMsg 1 0 0 (List.replicate 20 0))), Twin.a, (List.replicate 32 0), by decide +kernel, by
      decide +kernel, by decide +kernel, by decide +kernel, by decide +kernel, by decide +kernel, forged_form (by decide +kernel), by decide +kernel,
      by decide +kernel, forged_bad (by decide +kernel)⟩,
    ⟨channel, 3000000, 0, (message 6 5 4 [] (List.replicate 32 9)), Twin.a, (⟨0, 5, List.replicate 32 9, 0, [], 0, 3, [], 5⟩), by decide +kernel, by
      decide +kernel, by decide +kernel, by decide +kernel, by decide +kernel, by decide +kernel, by decide +kernel, tagged_ok (by decide +kernel), by
      decide +kernel, tagged_form (by decide +kernel)⟩,
    ⟨channel, 3000000, 0, (message 3 5 4 (leBytes 4 0x8000 ++ leBytes 2 1 ++ [0,0]) (List.replicate 32 9)), Twin.a, (⟨0, 5, List.replicate 32 9, 0,
      [], 0, 3, [], 5⟩), 0x8000, by decide +kernel, by decide +kernel, by decide +kernel, by decide +kernel, by decide +kernel, by decide +kernel, by
      decide +kernel, tagged_ok (by decide +kernel), by decide +kernel, by decide +kernel, by decide +kernel, by decide +kernel, by decide +kernel, by
      decide +kernel, tagged_form (by decide +kernel), by decide +kernel⟩,
    ⟨channel, 3000000, 0, (message 4 5 5 (leBytes 4 0xEFFC ++ leBytes 2 1 ++ [0,0,1,2,3,4]) (List.replicate 32 9)), Twin.a, (⟨0, 5, List.replicate 32
      9, 0, [], 0, 3, [], 5⟩), 0xEFFC, by decide +kernel, by decide +kernel, by decide +kernel, by decide +kernel, by decide +kernel, by
      decide +kernel, by decide +kernel, tagged_ok (by decide +kernel), by decide +kernel, by decide +kernel, by decide +kernel, by decide +kernel, by
      decide +kernel, by decide +kernel, tagged_form (by decide +kernel), by decide +kernel⟩⟩

theorem met_PowerRequestsAreTaken :
    (∃ (s : State) (src : Requester) (v : Word), s.tidy = true ∧ s.thAllows src = true ∧ getFld v Fld.PWR_CTL_FORCE = 0 ∧ s.wakeFailed = false ∧
      s.powerState ≠ 4 ∧ s.powerPhase = 0 ∧ (getFld v Fld.PWR_CTL_REQ = 1 ∨ getFld v Fld.PWR_CTL_REQ = 2) ∧ (s.powerState = 1 ∨ s.powerState = 2) ∧
      getFld v Fld.PWR_CTL_REQ ≠ s.powerState) ∧
    (∃ (s : State) (src : Requester) (v : Word), s.tidy = true ∧ s.thAllows src = true ∧ getFld v Fld.PWR_CTL_FORCE = 0 ∧ s.wakeFailed = false ∧
      s.powerState ≠ 4 ∧ s.powerPhase = 0 ∧ 1 ≤ getFld v Fld.PWR_CTL_REQ ∧ getFld v Fld.PWR_CTL_REQ = s.powerState) ∧
    (∃ (s : State) (src : Requester) (v : Word), s.tidy = true ∧ s.thAllows src = true ∧ getFld v Fld.PWR_CTL_FORCE = 0 ∧ s.wakeFailed = false ∧
      s.powerState ≠ 4 ∧ s.powerPhase = 0 ∧ (getFld v Fld.PWR_CTL_REQ = 3 ∨ getFld v Fld.PWR_CTL_REQ = 4) ∧ getFld v Fld.PWR_CTL_REQ ≠ s.powerState ∧
      (if getFld v Fld.PWR_CTL_REQ = 3 then s.napEn s.powerTwin else s.darkEn s.powerTwin) = true) ∧
    (∃ (s : State) (src : Requester) (v : Word), s.tidy = true ∧ s.thAllows src = true ∧ getFld v Fld.PWR_CTL_FORCE = 0 ∧ s.wakeFailed = false ∧
      s.powerState ≠ 4 ∧ s.powerPhase = 0 ∧ (getFld v Fld.PWR_CTL_REQ = 3 ∨ getFld v Fld.PWR_CTL_REQ = 4) ∧ getFld v Fld.PWR_CTL_REQ ≠ s.powerState ∧
      (if getFld v Fld.PWR_CTL_REQ = 3 then s.napEn s.powerTwin else s.darkEn s.powerTwin) = false ∧ s.once.seen = []) ∧
    (∃ (s : State) (src : Requester) (v : Word), s.tidy = true ∧ s.thAllows src = true ∧ getFld v Fld.PWR_CTL_FORCE = 0 ∧ s.wakeFailed = false ∧
      s.powerState ≠ 4 ∧ s.powerPhase ≠ 0 ∧ 3 ≤ getFld v Fld.PWR_CTL_REQ ∧ getFld v Fld.PWR_CTL_REQ ≤ 4) ∧
    (∃ (s : State) (src : Requester) (code arrival : Nat), s.tidy = true ∧ s.thAllows src = true ∧ s.pwr.change = some (code, arrival) ∧ (code = 1 ∨
      code = 2) ∧ s.tg.ran = true ∧ arrival + 2000 ≤ s.tg.cur.raw ∧ s.powerPhase = 0 ∧ s.pwr.opp = none) ∧
    (∃ (s : State) (src : Requester) (key : Byte) (a : Nat), s.tidy = true ∧ s.thAllows src = true ∧ s.fiddlehead Twin.a = false ∧ s.fiddlehead Twin.b
      = false ∧ key = 90 ∧ a ≠ 61444 ∧ evtByte a = false) ∧
    (∃ (s : State) (src : Requester) (key : Byte), s.tidy = true ∧ s.thAllows src = true ∧ s.fiddlehead Twin.a = false ∧ s.fiddlehead Twin.b = false ∧
      key ≠ 90) :=
  ⟨⟨(powered 1 0), .pcie, (BitVec.ofNat 32 (2 * 2 ^ Fld.PWR_CTL_REQ.lo)), by decide +kernel⟩,
    ⟨(powered 1 0), .pcie, (BitVec.ofNat 32 (1 * 2 ^ Fld.PWR_CTL_REQ.lo)), by decide +kernel⟩,
    ⟨(powered 1 0), .pcie, (BitVec.ofNat 32 (3 * 2 ^ Fld.PWR_CTL_REQ.lo)), by decide +kernel⟩,
    ⟨ticked, .pcie, (BitVec.ofNat 32 (3 * 2 ^ Fld.PWR_CTL_REQ.lo)), by decide +kernel⟩,
    ⟨(powered 1 4), .pcie, (BitVec.ofNat 32 (3 * 2 ^ Fld.PWR_CTL_REQ.lo)), by decide +kernel⟩,
    ⟨(pwr 1 0 (fun p => {p with change := some (2, 5)})), .pcie, 2, 5, by decide +kernel⟩,
    ⟨(powered 1 0), .pcie, 0x5A, 3000000, by decide +kernel⟩,
    ⟨(powered 1 0), .pcie, 0xA5, by decide +kernel⟩⟩

theorem met_OperatingPointChanges :
    (∃ (s : State) (src : Requester), s.tidy = true ∧ s.thAllows src = true) ∧
    (∃ (s : State) (t : Nat) (c : OppChange) (pgA pgB : Bool), s.tidy = true ∧ s.pwr.opp = some c ∧ c.new < c.old ∧ c.new < 4 ∧ c.since + s.oppSettle
      ≤ max s.now t ∧ pgA = true ∧ pgB = true) ∧
    (∃ (s : State) (t : Nat) (c : OppChange) (pgA pgB : Bool), s.tidy = true ∧ s.pwr.opp = some c ∧ c.new < c.old ∧ c.new < 4 ∧ (max s.now t < c.since
      + s.oppSettle ∨ pgA = false ∨ pgB = false)) ∧
    (∃ (s : State) (c : OppChange) (pgA pgB : Bool), s.tidy = true ∧ s.pwr.opp = some c ∧ c.new < c.old ∧ c.new < 4 ∧ (pgA = false ∨ pgB = false) ∧
      pgA = false ∧ s.roleOf Twin.a ≠ Role.off ∧ s.roleOf Twin.a ≠ Role.isolated) ∧
    (∃ (s : State) (c : OppChange) (pgA pgB : Bool), s.tidy = true ∧ s.pwr.opp = some c ∧ c.new < c.old ∧ c.new < 4 ∧ (pgA = false ∨ pgB = false) ∧
      pgB = false ∧ s.roleOf Twin.b ≠ Role.off ∧ s.roleOf Twin.b ≠ Role.isolated) ∧
    (∃ (s : State) (c : OppChange), s.tidy = true ∧ s.pwr.opp = some c ∧ c.old < c.new) :=
  ⟨⟨(opping 2 1), .pcie, by decide +kernel⟩,
    ⟨(opping 2 1), 3000000, ⟨2, 1, 1000000⟩, true, true, by decide +kernel⟩,
    ⟨(opping 2 1), 3000000, ⟨2, 1, 1000000⟩, true, false, by decide +kernel⟩,
    ⟨(opping 2 1), ⟨2, 1, 1000000⟩, false, true, by decide +kernel⟩,
    ⟨(opping 2 1), ⟨2, 1, 1000000⟩, true, false, by decide +kernel⟩,
    ⟨(opping 1 2), ⟨1, 2, 1000000⟩, by decide +kernel⟩⟩

theorem met_SleepSequenceSteps :
    (∃ (s : State) (q : SleepReq), s.tidy = true ∧ s.mainOff = false ∧ s.pwr.sleep = some q ∧ s.powerPhase = 0 ∧ s.tg.ran = true ∧ q.from_ ≤
      s.tg.cur.raw) ∧
    (∃ (s : State) (q : SleepReq), s.tidy = true ∧ s.mainOff = false ∧ s.pwr.sleep = some q ∧ s.rf Reg.PWR_STAT Fld.PWR_STAT_HELD = 0 ∧ s.once.seen =
      [] ∧ s.powerPhase = 1 ∧ s.latchDue = none ∧ s.peri.arb = none ∧ s.rf Reg.PERI_RESYNC Fld.PERI_RESYNC_PHASE = 0 ∧ q.target = 3 ∧ (∀ (w : Twin),
      s.active = some w → s.graftState w = 0) ∧ s.flashBusy 1 = false ∧ s.coresBusy = false ∧ s.ringsBusy = false ∧ s.postedWrites = false ∧ s.rz.lock = none ∧ s.twinInCal s.now = false) ∧
    (∃ (s : State) (q : SleepReq), s.tidy = true ∧ s.mainOff = false ∧ s.pwr.sleep = some q ∧ s.rf Reg.PWR_STAT Fld.PWR_STAT_HELD = 0 ∧ s.once.seen =
      [] ∧ s.powerPhase = 1 ∧ s.latchDue = none ∧ s.peri.arb.isSome = true) ∧
    (∃ (s : State) (t : Nat) (q : SleepReq), s.tidy = true ∧ s.mainOff = false ∧ s.pwr.sleep = some q ∧ s.rf Reg.PWR_STAT Fld.PWR_STAT_HELD = 0 ∧
      s.once.seen = [] ∧ s.powerPhase = 3 ∧ s.coresBusy = true ∧ q.stepAt + 1000000 ≤ max s.now t) ∧
    (∃ (s : State) (t : Nat) (q : SleepReq), s.tidy = true ∧ s.mainOff = false ∧ s.pwr.sleep = some q ∧ s.rf Reg.PWR_STAT Fld.PWR_STAT_HELD = 0 ∧
      s.once.seen = [] ∧ s.powerPhase = 4 ∧ s.ringsBusy = true ∧ q.stepAt + 1000000 ≤ max s.now t) :=
  ⟨⟨(sleeping 3 0 5), ⟨3, 800000, 5⟩, by decide +kernel⟩,
    ⟨(sleeping 3 1 1000000), ⟨3, 800000, 1000000⟩, by decide +kernel⟩,
    ⟨({sleeping 3 1 1000000 with tg := {(sleeping 3 1 1000000).tg with latchK := 5}, peri := {Peri.reset with arb := some ⟨950000, 1000000, 900000,
      .a, []⟩}}), ⟨3, 800000, 1000000⟩, by decide +kernel⟩,
    ⟨(working (sleeping 3 3 1000000)), 3000000, ⟨3, 800000, 1000000⟩, by decide +kernel⟩,
    ⟨(((sleeping 4 4 1000000).sf (Reg.NET_TX_TAIL .a 0) Fld.NET_TX_TAIL_TAIL 1)), 3000000, ⟨4, 800000, 1000000⟩, by decide +kernel⟩⟩

theorem met_WakesFromNapAndDark :
    (∃ (s : State) (source : Fin 8) (w : Twin) (n : Nat), s.tidy = true ∧ s.wakeFailed = false ∧ s.powerPhase = 0 ∧ s.mainOff = false ∧ s.powerState =
      3 ∧ (↑source = 1 ∨ ↑source = 3 ∨ ↑source = 4 ∨ ↑source = 5) ∧ (s.pwr.before = 1 ∨ s.pwr.before = 2) ∧ s.pwr.deferred = [] ∧ s.cal.run = none ∧
      s.once.seen = [] ∧ n < 4 ∧ s.roleOf w ≠ Role.off) ∧
    (∃ (s : State) (source : Fin 8), s.tidy = true ∧ s.wakeFailed = false ∧ s.powerPhase = 0 ∧ s.mainOff = false ∧ s.powerState = 3 ∧ (↑source = 0 ∨
      ↑source = 2 ∨ 6 ≤ ↑source)) ∧
    (∃ (s : State), s.tidy = true ∧ s.wakeFailed = false ∧ s.powerPhase = 0 ∧ s.powerState ≠ 3) ∧
    (∃ (s : State) (source : Fin 8) (e : Nat × Nat), s.tidy = true ∧ s.wakeFailed = false ∧ s.powerPhase = 0 ∧ s.mainOff = true ∧ s.pwr.wake = none ∧
      (↑source = 2 ∨ ↑source = 3 ∨ ↑source = 5) ∧ s.pwr.saved = none ∧ s.dev.testEn = false ∧ e ∈ s.heldEvents ∧ e.1 < 256) ∧
    (∃ (s : State) (source : Fin 8), s.tidy = true ∧ s.wakeFailed = false ∧ s.powerPhase = 0 ∧ s.mainOff = true ∧ s.pwr.wake = none ∧ ↑source ≠ 2 ∧
      ↑source ≠ 3 ∧ ↑source ≠ 5) ∧
    (∃ (s : State), s.tidy = true ∧ s.wakeFailed = false ∧ s.powerPhase = 0 ∧ s.mainOff = true ∧ s.rb Reg.PWR_CFG Fld.PWR_CFG_ALARM_EN = true ∧
      s.tbNow 3 ≤ s.rd64 Reg.PWR_ALARM) ∧
    (∃ (s : State), s.tidy = true ∧ s.wakeFailed = false ∧ s.powerPhase = 0 ∧ s.rb Reg.PWR_CFG Fld.PWR_CFG_ALARM_EN = false) ∧
    (∃ (s : State) (n : Fin 4) (i : Fin 32) (bytes : List Byte), s.tidy = true ∧ s.wakeFailed = false ∧ s.powerPhase = 0 ∧ s.mainOff = true ∧
      s.wakeArmed s.powerTwin ↑n = true ∧ List.find? (s.wakeEntry s.powerTwin (↑n) bytes) (List.range 32) = some ↑i) ∧
    (∃ (s : State) (n : Fin 4), s.tidy = true ∧ s.wakeFailed = false ∧ s.powerPhase = 0 ∧ s.wakeArmed s.powerTwin ↑n = false) ∧
    (∃ (s : State) (x : WakeSt) (rail : Fin 16) (stage : Nat), s.tidy = true ∧ s.mainOff = true ∧ s.pwr.wake = some x ∧ s.once.seen = [] ∧ (↑rail,
      stage) ∈ [(1, 1), (4, 3), (2, 4), (3, 4)] ∧ x.stage ≤ stage ∧ x.retried = false) ∧
    (∃ (s : State) (t : Nat) (x : WakeSt), s.tidy = true ∧ s.mainOff = true ∧ s.pwr.wake = some x ∧ s.once.seen = [] ∧ x.stage ≤ 1 ∧ x.retried = true
      ∧ x.retryAt < max s.now t) ∧
    (∃ (s : State) (x : WakeSt), s.tidy = true ∧ s.mainOff = true ∧ s.pwr.wake = some x ∧ s.once.seen = [] ∧ x.stage ≤ 2 ∧ x.retried = false) ∧
    (∃ (s : State) (t : Nat) (x : WakeSt), s.tidy = true ∧ s.mainOff = true ∧ s.pwr.wake = some x ∧ s.once.seen = [] ∧ x.stage ≤ 2 ∧ x.retried = true
      ∧ x.retryAt < max s.now t) ∧
    (∃ (s : State) (source : Fin 8) (w : Twin) (n : Nat), s.tidy = true ∧ s.wakeFailed = false ∧ s.powerPhase = 0 ∧ s.mainOff = false ∧ s.powerState =
      3 ∧ ↑source = 1 ∧ s.pwr.before = 1 ∧ s.pwr.deferred = [] ∧ s.cal.run = none ∧ s.once.seen = [] ∧ n < 4 ∧ s.roleOf w ≠ Role.off ∧ s.rb (Reg.NET_LINK w
      n) Fld.NET_LINK_LINK_UP = true) :=
  ⟨⟨napping, 1, .a, 3, by decide +kernel⟩,
    ⟨napping, 0, by decide +kernel⟩,
    ⟨dark, by decide +kernel⟩,
    ⟨({(dark.sb Reg.PWR_CFG Fld.PWR_CFG_ALARM_EN true) with heldEvents := [(9,4),(10,0)]}), 2, (9, 4), by decide +kernel⟩,
    ⟨dark, 0, by decide +kernel⟩,
    ⟨((dark.sb Reg.PWR_CFG Fld.PWR_CFG_ALARM_EN true).wr64 Reg.PWR_ALARM 7000000), by decide +kernel⟩,
    ⟨napping, by decide +kernel⟩,
    ⟨(ent2 2 0 0 6 1 0xF (ent2 5 3 2 0 2 0x0100 (ent2 5 0 0 0 2 0x0401 dark))), 0, 2, [], by decide +kernel⟩,
    ⟨napping, 0, by decide +kernel⟩,
    ⟨(waking 1 false), ⟨3, 1, false, 1000000, false, false⟩, 1, 1, by decide +kernel⟩,
    ⟨(waking 1 true), 3000000, ⟨3, 1, true, 1000000, false, false⟩, by decide +kernel⟩,
    ⟨(waking 1 false), ⟨3, 1, false, 1000000, false, false⟩, by decide +kernel⟩,
    ⟨(waking 1 true), 3000000, ⟨3, 1, true, 1000000, false, false⟩, by decide +kernel⟩,
    ⟨napping.sb (Reg.NET_LINK .a 3) Fld.NET_LINK_LINK_UP true, 1, .a, 3, by decide +kernel⟩⟩

theorem met_SuppliesWarnResetAndRecover :
    (∃ (s : State) (rail : Fin 16), s.tidy = true ∧ s.mainOff = false ∧ ↑rail ≤ 5 ∧ s.once.seen = [] ∧ (↑rail = 2 ∨ ↑rail = 4) ∧ s.roleOf Twin.a ≠
      Role.off ∧ s.roleOf Twin.a ≠ Role.isolated) ∧
    (∃ (s : State) (rail : Fin 16), s.tidy = true ∧ s.mainOff = false ∧ ↑rail ≤ 5 ∧ s.once.seen = [] ∧ (↑rail = 3 ∨ ↑rail = 4) ∧ s.roleOf Twin.b ≠
      Role.off ∧ s.roleOf Twin.b ≠ Role.isolated) ∧
    (∃ (s : State) (rail : Fin 16), s.tidy = true ∧ s.mainOff = false ∧ 5 < ↑rail) ∧
    (∃ (s : State) (rail : Fin 16) (a : Nat), s.tidy = true ∧ s.mainOff = false ∧ ↑rail = 0 ∧ keptAlways a = true) ∧
    (∃ (s : State) (rail : Fin 16), s.tidy = true ∧ s.mainOff = false ∧ (↑rail = 1 ∨ ↑rail = 4 ∨ ↑rail = 5) ∧ s.dev.testEn = false) ∧
    (∃ (s : State) (w : Twin), s.tidy = true ∧ s.mainOff = false ∧ s.fiddlehead w = false ∧ s.active = some w ∧ s.standby = some w.other) ∧
    (∃ (s : State) (w : Twin), s.tidy = true ∧ s.mainOff = false ∧ s.railOff w = true ∧ s.wakeFailed = false ∧ s.active = some w.other ∧ s.rb
      Reg.TWIN_CTL (Fld.rst w) = false) ∧
    (∃ (s : State) (w : Twin), s.tidy = true ∧ s.mainOff = false ∧ s.railOff w = true ∧ s.wakeFailed = false ∧ s.active ≠ some w.other ∧ s.dev.testEn = false) ∧
    (∃ (s : State) (w : Twin), s.tidy = true ∧ s.mainOff = false ∧ s.railOff w = false) :=
  ⟨⟨live, 2, by decide +kernel⟩,
    ⟨live, 3, by decide +kernel⟩,
    ⟨live, 6, by decide +kernel⟩,
    ⟨live, 0, (Addr.flash 0 0), by decide +kernel⟩,
    ⟨live, 1, by decide +kernel⟩,
    ⟨live, Twin.a, by decide +kernel⟩,
    ⟨(railed .a), .a, by decide +kernel⟩,
    ⟨{railed .b with role := ⟨.off,.off⟩}, .b, by decide +kernel⟩,
    ⟨live, .a, by decide +kernel⟩⟩

theorem met_FirmwareActivationAndTrials :
    (∃ (s : State) (src : Requester) (v : Word), s.tidy = true ∧ s.mainOff = false ∧ s.thAllows src = true ∧ getFld v Fld.BOOT_CTL_ACT = 0) ∧
    (∃ (s : State) (src : Requester) (v : Word), s.tidy = true ∧ s.mainOff = false ∧ s.thAllows src = true ∧ getFld v Fld.BOOT_CTL_ACT = 1 ∧ getFld v
      Fld.BOOT_CTL_KEY ≠ 90) ∧
    (∃ (s : State) (src : Requester) (v : Word), s.tidy = true ∧ s.mainOff = false ∧ s.thAllows src = true ∧ getFld v Fld.BOOT_CTL_ACT = 1 ∧ getFld v
      Fld.BOOT_CTL_KEY = 90 ∧ s.actReason (if getFld v Fld.BOOT_CTL_TWIN = 1 then Twin.b else Twin.a) (getFld v Fld.BOOT_CTL_SLOT) (decide (getFld v
      Fld.BOOT_CTL_FORCE = 1)) ≠ 0) ∧
    (∃ (s : State) (src : Requester) (v : Word), s.tidy = true ∧ s.mainOff = false ∧ s.thAllows src = true ∧ getFld v Fld.BOOT_CTL_ACT = 1 ∧ getFld v
      Fld.BOOT_CTL_KEY = 90 ∧ s.actReason (if getFld v Fld.BOOT_CTL_TWIN = 1 then Twin.b else Twin.a) (getFld v Fld.BOOT_CTL_SLOT) (decide (getFld v
      Fld.BOOT_CTL_FORCE = 1)) = 0 ∧ s.boot.hand = none ∧ s.roleOf (if getFld v Fld.BOOT_CTL_TWIN = 1 then Twin.b else Twin.a) ≠ Role.active ∧ s.rb
      Reg.TWIN_CTL (Fld.iso (if getFld v Fld.BOOT_CTL_TWIN = 1 then Twin.b else Twin.a)) = false ∧ s.rb Reg.TWIN_CTL (Fld.rst (if getFld v
      Fld.BOOT_CTL_TWIN = 1 then Twin.b else Twin.a)) = false) ∧
    (∃ (s : State) (src : Requester) (v : Word), s.tidy = true ∧ s.mainOff = false ∧ s.thAllows src = true ∧ getFld v Fld.BOOT_CTL_ACT = 1 ∧ getFld v
      Fld.BOOT_CTL_KEY = 90 ∧ s.actReason (if getFld v Fld.BOOT_CTL_TWIN = 1 then Twin.b else Twin.a) (getFld v Fld.BOOT_CTL_SLOT) (decide (getFld v
      Fld.BOOT_CTL_FORCE = 1)) = 0 ∧ s.boot.hand = none ∧ s.roleOf (if getFld v Fld.BOOT_CTL_TWIN = 1 then Twin.b else Twin.a) = Role.active ∧
      s.roleOf (if getFld v Fld.BOOT_CTL_TWIN = 1 then Twin.b else Twin.a).other = Role.ready ∧ s.swapDue = none) ∧
    (∃ (s : State) (t : Nat) (w : Twin) (x : Nat), s.tidy = true ∧ s.mainOff = false ∧ s.fiddlehead w = true ∧ s.fiddlehead w.other = false ∧
      s.boot.hand = none ∧ s.roleOf w ≠ Role.active ∧ s.rb Reg.TWIN_CTL (Fld.iso w) = false ∧ s.boot.trial w = some x ∧ x ≤ (s.beginAt t).tbNow 3) ∧
    (∃ (s : State) (t : Nat) (w : Twin) (x : Nat), s.tidy = true ∧ s.mainOff = false ∧ s.fiddlehead w = true ∧ s.fiddlehead w.other = false ∧
      s.boot.hand = none ∧ s.roleOf w ≠ Role.active ∧ s.rb Reg.TWIN_CTL (Fld.iso w) = false ∧ s.boot.start w = some x ∧ x + 5000000000 ≤ max s.now t) ∧
    (∃ (s : State) (w : Twin) (via : Via) (v : Word), s.tidy = true ∧ s.mainOff = false ∧ w ∈ (s.reach via).1 ∧ v = 197 ∧ s.fiddlehead w = true ∧
      s.fiddlehead w.other = false ∧ (s.roleOf w = Role.ready ∨ s.roleOf w = Role.active)) ∧
    (∃ (s : State) (w : Twin) (via : Via) (v : Word), s.tidy = true ∧ s.mainOff = false ∧ w ∈ (s.reach via).1 ∧ via ≠ Via.mirror ∧ (v ≠ 197 ∨
      s.fiddlehead w = false ∨ s.roleOf w ≠ Role.ready ∧ s.roleOf w ≠ Role.active)) ∧
    (∃ (s : State) (w : Twin) (arr : Nat), s.tidy = true ∧ s.mainOff = false ∧ s.boot.inPlace = some (w, arr) ∧ s.tg.ran = true ∧ arr + 2000 ≤
      s.tg.cur.raw ∧ s.roleOf w = Role.active ∧ s.latchDue.isSome = true) ∧
    (∃ (s : State) (w : Twin) (arr a : Nat), s.tidy = true ∧ s.mainOff = false ∧ s.boot.inPlace = some (w, arr) ∧ s.tg.ran = true ∧ arr + 2000 ≤
      s.tg.cur.raw ∧ s.roleOf w = Role.active ∧ s.latchDue = none ∧ memInDram w a = true) ∧
    (∃ (s : State) (h : Handover), s.tidy = true ∧ s.mainOff = false ∧ s.boot.hand = some h ∧ s.started h.w = true) :=
  ⟨⟨confirming, .pcie, 0, by decide +kernel⟩,
    ⟨confirming, .pcie, 0xC5, by decide +kernel⟩,
    ⟨confirming, .pcie, (actWord 0 0), by decide +kernel⟩,
    ⟨(verified live), .pcie, (actWord 1 1), by decide +kernel⟩,
    ⟨(verified live), .pcie, (actWord 0 1), by decide +kernel⟩,
    ⟨confirming, 3000000, .b, 5, by decide +kernel⟩,
    ⟨({fiddler .off with boot := {(fiddler .off).boot with trialB := none, startB := some 5}}), 6000000000, .b, 5, by decide +kernel⟩,
    ⟨confirming, .b, .mirror, 0xC5, by decide +kernel⟩,
    ⟨confirming, .a, (.priv .a), (actWord 0 0), by decide +kernel⟩,
    ⟨(inPlaceDue latching), Twin.a, 5, by decide +kernel⟩,
    ⟨(inPlaceDue {ticked with tg := {ticked.tg with latchK := 5}}), Twin.a, 5, (Addr.dram .a 0), by decide +kernel⟩,
    ⟨handing, ⟨.a, TwinState.reset, [], []⟩, by decide +kernel⟩⟩

theorem met_SlotsRecordsKeysAndSettings :
    (∃ (s : State) (src : Requester) (v : Word), s.tidy = true ∧ s.thAllows src = true ∧ ((s.flashBusy 0 || decide (s.rf Reg.REJ_LOAD_STAT
      Fld.REJ_LOAD_STAT_SRC = 3)) = true ∨ 5 ≤ getFld v Fld.BOOT_VERIFY_SLOT)) ∧
    (∃ (s : State) (src : Requester) (v : Word), s.tidy = true ∧ s.thAllows src = true ∧ (s.flashBusy 0 || decide (s.rf Reg.REJ_LOAD_STAT
      Fld.REJ_LOAD_STAT_SRC = 3)) = false ∧ getFld v Fld.BOOT_VERIFY_SLOT < 5) ∧
    (∃ (s : State) (src : Requester) (v : Word), s.tidy = true ∧ s.thAllows src = true ∧ bitAt (s.rf Reg.BOOT_STAT Fld.BOOT_STAT_VERIFIED) (3 + getFld
      v Fld.REJ_BOOT_PRIMARY) = true) ∧
    (∃ (s : State) (src : Requester) (v : Word), s.tidy = true ∧ s.thAllows src = true ∧ bitAt (s.rf Reg.BOOT_STAT Fld.BOOT_STAT_VERIFIED) (3 + getFld
      v Fld.REJ_BOOT_PRIMARY) = false) ∧
    (∃ (s : State) (src : Requester) (v : Word), s.tidy = true ∧ s.thAllows src = true ∧ getFld v Fld.OTP_KEY_CMD_KEY ≠ 90) ∧
    (∃ (s : State) (src : Requester) (v : Word) (i : Nat), s.tidy = true ∧ s.thAllows src = true ∧ getFld v Fld.OTP_KEY_CMD_KEY = 90 ∧ getFld v
      Fld.OTP_KEY_CMD_OP = 1 ∧ bitAt (s.rf Reg.OTP_KEY_STAT (otpSlot (getFld v Fld.OTP_KEY_CMD_SLOT))) 0 = false ∧ i < 96) ∧
    (∃ (s : State) (src : Requester) (v : Word), s.tidy = true ∧ s.thAllows src = true ∧ getFld v Fld.OTP_KEY_CMD_KEY = 90 ∧ getFld v
      Fld.OTP_KEY_CMD_OP = 2 ∧ (([0, 1, 2, 3].any fun (m : ℕ) => decide (m ≠ getFld v Fld.OTP_KEY_CMD_SLOT) && fwKey (s.rf Reg.OTP_KEY_STAT (otpSlot
      m))) = true)) ∧
    (∃ (s : State) (src : Requester) (v : Word), s.tidy = true ∧ s.thAllows src = true ∧ getFld v Fld.OTP_KEY_CMD_KEY = 90 ∧ (getFld v
      Fld.OTP_KEY_CMD_OP = 1 ∧ bitAt (s.rf Reg.OTP_KEY_STAT (otpSlot (getFld v Fld.OTP_KEY_CMD_SLOT))) 0 = true ∨ getFld v Fld.OTP_KEY_CMD_OP = 2 ∧
      ([0, 1, 2, 3].any fun (m : ℕ) => decide (m ≠ getFld v Fld.OTP_KEY_CMD_SLOT) && fwKey (s.rf Reg.OTP_KEY_STAT (otpSlot m))) = false)) ∧
    (∃ (s : State) (j : FlashJob) (rest : List FlashJob), s.tidy = true ∧ s.flash = j :: rest ∧ j.op = 7 ∧ j.len < 5 ∧ verifyCode j.len s ≠ 0) ∧
    (∃ (s : State) (j : FlashJob) (rest : List FlashJob) (a : Nat), s.tidy = true ∧ s.flash = j :: rest ∧ j.op = 8 ∧ (a < Addr.flash 0
      ((match s.recInForce with | some (c, snd) => 1 - c | none => 0) * 4096) ∨ Addr.flash 0
      ((match s.recInForce with | some (c, snd) => 1 - c | none => 0) * 4096) + 4096 ≤ a)) ∧
    (∃ (s : State) (w : Twin) (h : Nat), s.tidy = true ∧ (s.tw w).setHalf = some h ∧ h ≤ 1 ∧ s.rb (Reg.UPD_STAT w) Fld.UPD_STAT_PENDING_WRITE = true ∧
      s.fiddlehead w = true ∧ s.roleOf w = Role.active) :=
  ⟨⟨live, .pcie, (otpWord 1 1), by decide +kernel⟩,
    ⟨(live.sf Reg.REJ_LOAD_STAT Fld.REJ_LOAD_STAT_SRC 0), .pcie, 4, by decide +kernel⟩,
    ⟨(verified live), .pcie, (otpWord 1 1), by decide +kernel⟩,
    ⟨live, .pcie, (otpWord 1 1), by decide +kernel⟩,
    ⟨live, .pcie, 4, by decide +kernel⟩,
    ⟨live, .pcie, (otpWord 1 1), 95, by decide +kernel⟩,
    ⟨live, .pcie, (otpWord 2 1), by decide +kernel⟩,
    ⟨(live.sf Reg.OTP_KEY_STAT (otpSlot 1) 3), .pcie, (otpWord 1 1), by decide +kernel⟩,
    ⟨({live with flash := [⟨0,7,1,0,0,[]⟩]}.sf Reg.REJ_LOAD_STAT Fld.REJ_LOAD_STAT_SRC 0), ⟨0, 7, 1, 0, 0, []⟩, [], by decide +kernel⟩,
    ⟨(flashed [⟨0,8,0,0,0,[]⟩, ⟨0,1,4,0xD10000,0,[]⟩]), ⟨0, 8, 0, 0, 0, []⟩, ([⟨0, 1, 4, 13697024, 0, []⟩]), 3000000, by decide +kernel⟩,
    ⟨migrated, .a, 0, by decide +kernel⟩⟩

theorem met_StatePackagesBeginAndEnd :
    (∃ (s : State) (via : Via), s.tidy = true ∧ throughMirror via = false) ∧
    (∃ (s : State) (w : Twin) (via : Via) (v : Word), s.tidy = true ∧ throughMirror via = true ∧ w ∈ (s.reach via).1 ∧ getFld v Fld.UPD_PKG_CMD_OP = 1
      ∧ s.roleOf w = Role.active ∧ (decide (s.graftState w = 0) && decide (s.rf (Reg.UPD_PKG_STAT w) Fld.UPD_PKG_STAT_STATE = 0) && decide (s.pkgAt w
      + pkgLength ≤ 1073741824)) = true) ∧
    (∃ (s : State) (w : Twin) (via : Via) (v : Word), s.tidy = true ∧ throughMirror via = true ∧ w ∈ (s.reach via).1 ∧ getFld v Fld.UPD_PKG_CMD_OP = 1
      ∧ s.roleOf w = Role.active ∧ (decide (s.graftState w = 0) && decide (s.rf (Reg.UPD_PKG_STAT w) Fld.UPD_PKG_STAT_STATE = 0) && decide (s.pkgAt w
      + pkgLength ≤ 1073741824)) = false) ∧
    (∃ (s : State) (w : Twin) (via : Via) (v : Word), s.tidy = true ∧ throughMirror via = true ∧ w ∈ (s.reach via).1 ∧ getFld v Fld.UPD_PKG_CMD_OP = 2
      ∧ s.importReason w ≠ 0) ∧
    (∃ (s : State) (w : Twin), s.tidy = true ∧ s.rf (Reg.UPD_PKG_STAT w) Fld.UPD_PKG_STAT_STATE = 1) ∧
    (∃ (s : State) (w : Twin), s.tidy = true ∧ s.rf (Reg.UPD_PKG_STAT w) Fld.UPD_PKG_STAT_STATE = 2 ∧ (s.tw w).pkg = none) :=
  ⟨⟨(live.sf (Reg.UPD_PKG_STAT .a) Fld.UPD_PKG_STAT_STATE 1), (.priv .a), by decide +kernel⟩,
    ⟨live, .a, .mirror, 1, by decide +kernel⟩,
    ⟨(live.sf (Reg.UPD_PKG_STAT .a) Fld.UPD_PKG_STAT_STATE 1), .a, .mirror, 1, by decide +kernel⟩,
    ⟨(live.sf (Reg.UPD_PKG_STAT .a) Fld.UPD_PKG_STAT_STATE 1), .a, .mirror, 2, by decide +kernel⟩,
    ⟨(live.sf (Reg.UPD_PKG_STAT .a) Fld.UPD_PKG_STAT_STATE 1), .a, by decide +kernel⟩,
    ⟨(live.sf (Reg.UPD_PKG_STAT .a) Fld.UPD_PKG_STAT_STATE 2), .a, by decide +kernel⟩⟩

/-! ### The hypotheses that hang on an opaque function, or on many bytes -/

/-- A firmware file of 320 bytes lies in slot GOLD: its header and its signature block (Tables 18-4 and 4-19). -/
def withGold (s : State) : State :=
  (s.wrBytes (Addr.flash 0 0x10000) (leBytes 4 0x49574651 ++ [1, 1, 0, 0] ++ leBytes 4 320 ++ leBytes 4 0 ++ [1, 0, 0, 0])).wrBytes
    (Addr.flash 0 0x100C0) (leBytes 4 0x47534A52 ++ [0, 1] ++ List.replicate 26 0)

/-- Byte `i` of that file. -/
def goldByte (s : State) (i : Nat) : Byte := s.flashB (fwBase 0 + i)

/-- The signature of that file verifies. Whether one does is an opaque constant of Config, so no state can be shown to have it. -/
def GoldSigned (s : State) : Prop :=
  Config.signatureOk (fileBytes (goldByte s) 0 224) 0 (s.keyBytes 0) (fileBytes (goldByte s) 224 96) = true

theorem fwBad_of_signed {s : State}
    (c : (fileN (goldByte s) 0 4 = 0x49574651 ∧ fileN (goldByte s) 4 1 = 1 ∧ fileN (goldByte s) 5 1 = 1 ∧ fileN (goldByte s) 6 2 = 0 ∧
      fileN (goldByte s) 8 4 = 320 ∧ fileN (goldByte s) 16 2 = 1 ∧ fileN (goldByte s) 18 2 = 0) ∧
      (fileN (goldByte s) 192 4 = 0x47534A52 ∧ fileN (goldByte s) 196 1 = 0 ∧ fileN (goldByte s) 197 1 = 1 ∧
      fileN (goldByte s) 198 26 = 0) ∧ 1 ≤ s.compat ∧ s.keyUsable 0 false = true) (h : GoldSigned s) : fwBad 0 s = none := by
  obtain ⟨⟨a1, a2, a3, a4, a5, a6, a7⟩, ⟨b1, b2, b3, b4⟩, c1, c2⟩ := c
  change ((chkFirst 0 0xFF [
    (0, fileN (goldByte s) 0 4 = 0x49574651, 0x01), (4, fileN (goldByte s) 4 1 = 1, 0x02), (5, fileN (goldByte s) 5 1 ≠ 0, 0x0C),
    (5, fileN (goldByte s) 5 1 ≤ s.compat, 0x03), (6, fileN (goldByte s) 6 2 = 0, 0x0C), (16, fileN (goldByte s) 16 2 ≠ 0, 0x0C),
    (18, fileN (goldByte s) 18 2 = 0, 0x0C),
    (8, fileN (goldByte s) 8 4 % 64 = 0 ∧ 320 ≤ fileN (goldByte s) 8 4 ∧ fileN (goldByte s) 8 4 ≤ 0x400000, 0x04)]).orElse
      (fun _ => signatureBad (goldByte s) false s)) = none
  have h' : Config.signatureOk (fileBytes (goldByte s) 0 224) 0 (s.keyBytes 0) (fileBytes (goldByte s) 224 96) = true := h
  simp [chkFirst, signatureBad, a1, a2, a3, a4, a5, a6, a7, b1, b2, b3, b4, c1, c2, h']

/-- For each statement whose conclusion has `fwBad 0 s = none → …`: states of its other hypotheses with signed firmware in slot GOLD. -/
theorem met_fwBad : ∀ s ∈ [withGold inRst, withGold (railed .a), withGold (railed .b), withGold (verified (beside .off)),
    withGold (inPlaceDue { ticked with tg := { ticked.tg with latchK := 5 } })], s.tidy = true ∧ (GoldSigned s → fwBad 0 s = none) := by
  intro s hs
  simp only [List.mem_cons, List.not_mem_nil, or_false] at hs
  rcases hs with rfl | rfl | rfl | rfl | rfl <;> exact ⟨by decide +kernel, fwBad_of_signed (by decide +kernel)⟩

/-- SlotsRecordsKeysAndSettings: a verification of slot GOLD that ends with code 0. -/
theorem met_verifyCode (s : State) (e : s = withGold (flashed [⟨0, 7, 0, 0, 0, []⟩])) :
    s.tidy = true ∧ s.flash = [⟨0, 7, 0, 0, 0, []⟩] ∧ (GoldSigned s → verifyCode 0 s = 0) := by
  subst e
  refine ⟨by decide +kernel, rfl, fun h => ?_⟩
  have k := fwBad_of_signed (by decide +kernel) h
  simp [verifyCode, k]

theorem crc_zeros : ∀ l : List Byte, (∀ b ∈ l, b = 0) → l.foldl crcByte 0 = 0
  | [], _ => rfl
  | b :: l, h => by
    rw [List.foldl_cons, h b (by simp), show crcByte 0 0 = 0 by decide]
    exact crc_zeros l (fun x hx => h x (by simp [hx]))

theorem get_above {d : Byte} : ∀ {l : List Host.Cell} {i : Nat}, (∀ e ∈ l, e.1 < i) → Smap.get d l i = d
  | [], _, _ => rfl
  | (j, v) :: rest, i, h => by
    have k : j < i := h (j, v) (by simp)
    rw [Smap.get, if_neg (by omega), if_neg (by omega)]
    exact get_above (fun e he => h e (by simp [he]))

/-- A state package of 553,032 bytes in the staging area of Twin A, all of whose bytes from 68 on are zero: its CRC is counted by hand, since
the four bytes of ones take the CRC register to 0. -/
def packaged : State :=
  live.wrBytes (Addr.dram .a 0x7C0000000)
    (leBytes 4 0x4B505351 ++ [1, 1, 0, 0] ++ leBytes 4 553032 ++ List.replicate 16 0 ++ leBytes 4 0xFFFFFFFF ++ List.replicate 32 0 ++
      List.replicate 4 0xFF)

/-- StatePackagesBeginAndEnd: an import that is not refused. -/
theorem met_importReason : packaged.tidy = true ∧ .a ∈ (packaged.reach .mirror).1 ∧ packaged.importReason .a = 0 := by
  refine ⟨by decide +kernel, by decide +kernel, ?_⟩
  have far : ∀ i < 0x100000, packaged.rdB (Addr.dram .a (0x7C0000000 + 0 + (68 + i))) = 0 := by
    intro i hi
    have k : ∀ e ∈ packaged.mem, e.1 < Addr.dram .a (0x7C0000000 + 0 + 68) := by decide +kernel
    have a : Addr.dram .a (0x7C0000000 + 0 + (68 + i)) = 0x17C0000044 + i := by simp only [Addr.dram]; omega
    have b : Addr.dram .a (0x7C0000000 + 0 + 68) = 0x17C0000044 := by decide
    have m : memDefault (0x17C0000044 + i) = 0 := by rw [memDefault, if_neg (by omega), if_neg (by omega)]
    rw [State.rdB, get_above (fun e he => by have := k e he; rw [b] at this; omega), a, m]
  have body : crc32 (fileBytes (fun i => packaged.rdB (Addr.dram .a (0x7C0000000 + 0 + i))) 64 (4 + 552964)) = 0xFFFFFFFF := by
    rw [fileBytes, List.range_add, List.map_append, crc32, List.foldl_append]
    have first : ((List.range 4).map (fun i => packaged.rdB (Addr.dram .a (0x7C0000000 + 0 + (64 + i))))).foldl crcByte 0xFFFFFFFF = 0 := by
      decide +kernel
    rw [first, crc_zeros _ ?_]
    · decide
    intro x hx
    simp only [List.map_map, List.mem_map, List.mem_range, Function.comp] at hx
    obtain ⟨i, hi, rfl⟩ := hx
    have f := far i (by omega)
    rw [show 68 + i = 64 + (4 + i) by omega] at f
    exact f
  have n : fileN (fun i => packaged.rdB (Addr.dram .a (0x7C0000000 + 0 + i))) 8 4 = 4 + 552964 + 64 := by decide +kernel
  have p : packaged.pkgAt .a = 0 := by decide +kernel
  rw [State.importReason, p]
  simp only [n]
  rw [if_neg (by decide +kernel), if_neg (by decide +kernel), if_neg, if_neg (by decide +kernel)]
  rw [show 4 + 552964 + 64 - 64 = 4 + 552964 from rfl, body]
  decide +kernel

end Sys2Proof.Tests
end

section
/-!
SUPPORT. What the release of a reset can change: the flash controller, the boot record, the firmware, the load and the power-up calibration.
-/
namespace Sys2Proof.Machine

set_option Elab.async false

/-- The registers that a release may change: those of events, every register of a twin, and what shows the boot record, the flash, the load,
the minimal configuration and the calibration. -/
def releaseReg (a : Nat) : Bool :=
  evtReg a || decide (0x10000000 ≤ a) ||
  decide (a ∈ [Reg.BOOT_STAT, Reg.FLASH_INFO, Reg.REJ_LOAD_STAT, Reg.REJ_LOAD_ERR_AT, Reg.OUT_CTL, Reg.PERI_CFG, Reg.PERI_IMG, Reg.PWR_STAT,
    Reg.TGEN_STAT, Reg.TGEN_SRC_STAT, Reg.CAL_STAT])

/-- `s` with what a release may change taken from `u`. -/
def State.withRelease (s u : State) : State :=
  { s with out := u.out, regs := u.regs, mem := u.mem, logFirst := u.logFirst, logCycle := u.logCycle, once := u.once,
           heldEvents := u.heldEvents, a := u.a, b := u.b, boot := u.boot, flash := u.flash, tg := u.tg, pwr := u.pwr, cal := u.cal }

/-- `u` is `s` but for what a release may change; the registers keep their canonical form. -/
structure Release (s u : State) : Prop where
  rest : u = s.withRelease u
  regs : s.regsWf = true → u.regsWf = true ∧ ∀ a, releaseReg a = false → u.reg a = s.reg a

theorem releaseReg_of_evtReg {a : Nat} (h : evtReg a = true) : releaseReg a = true := by simp [releaseReg, h]

theorem twinBase_ge (w : Twin) : 0x10000000 ≤ w.base := by cases w <;> decide

theorem releaseReg_twin (w : Twin) (k : Nat) : releaseReg (w.base + k) = true := by
  simp [releaseReg, Nat.le_add_right_of_le (twinBase_ge w)]

theorem releaseReg_twinAt (w : Twin) (k j : Nat) : releaseReg (w.base + k + j) = true := by
  rw [Nat.add_assoc]; exact releaseReg_twin w _

variable {s0 s u : State}

theorem Release.refl (s : State) : Release s s := ⟨rfl, fun h => ⟨h, fun _ _ => rfl⟩⟩

theorem Release.trans (h : Release s0 s) (g : Release s u) : Release s0 u := by
  refine ⟨?_, fun x => ?_⟩
  · rw [g.rest, h.rest]; rfl
  · obtain ⟨wf, keep⟩ := h.regs x
    obtain ⟨wf', keep'⟩ := g.regs wf
    exact ⟨wf', fun a ha => (keep' a ha).trans (keep a ha)⟩

/-- A step that leaves the registers. -/
theorem Release.frame (h : Release s0 s) (rest : u = s.withRelease u := by rfl) (regs : u.regs = s.regs := by rfl) : Release s0 u :=
  h.trans ⟨rest, fun x => ⟨by rw [State.regsWf, regs]; exact x, fun a _ => by rw [State.reg, regs]; rfl⟩⟩

theorem Release.boot (h : Release s0 s) {b : Boot} : Release s0 { s with boot := b } := h.frame
theorem Release.tg (h : Release s0 s) {g : TickGen} : Release s0 { s with tg := g } := h.frame
theorem Release.pwr (h : Release s0 s) {p : Power} : Release s0 { s with pwr := p } := h.frame
theorem Release.cal (h : Release s0 s) {c : Cal} : Release s0 { s with cal := c } := h.frame

/-- Raising an event is within what a release may change. -/
theorem Release.evt (h : Release s0 s) (g : Evt s u) : Release s0 u := by
  refine h.trans ⟨by rw [g.rest]; rfl, fun x => ?_⟩
  obtain ⟨wf, keep⟩ := g.regs x
  refine ⟨wf, fun a ha => keep a ?_⟩
  cases e : evtReg a with
  | false => rfl
  | true => rw [releaseReg_of_evtReg e] at ha; cases ha

theorem Release.raiseTh (h : Release s0 s) {n data : Nat} (hn : n < 256 := by decide) : Release s0 (s.raiseTh n data) :=
  h.evt ((Evt.refl _).raiseTh _ _ hn)

theorem Release.raiseIf (h : Release s0 s) {w : Twin} {c : Nat} {en : Fld} {n data : Nat} (hn : n < 256 := by decide) :
    Release s0 (s.raiseIf w c en n data) :=
  h.evt ((Evt.refl _).raiseIf _ _ _ _ _ hn)

theorem Release.raiseOnce (h : Release s0 s) {w : Twin} {c : Nat} {en : Fld} {n data : Nat} (hn : n < 256 := by decide) :
    Release s0 (s.raiseOnce w c en n data) :=
  h.evt ((Evt.refl _).raiseOnce _ _ _ _ _ hn)

/-! ### Shapes of a definition -/

theorem Release.ite {a b : State} {c : Prop} [Decidable c] (ha : Release s0 a) (hb : Release s0 b) : Release s0 (if c then a else b) := by
  split
  · exact ha
  · exact hb

theorem Release.foldl {α : Type} {f : State → α → State} {l : List α} (h : Release s0 s) (hf : ∀ x e, Release s0 x → Release s0 (f x e)) :
    Release s0 (l.foldl f s) := by
  induction l generalizing s with
  | nil => exact h
  | cons e l ih => exact ih (hf s e h)

theorem Release.each {p : Twin → Bool} {f : Twin → State → State} (h : Release s0 s) (hf : ∀ w x, Release s0 x → Release s0 (f w x)) :
    Release s0 (s.each p f) :=
  have ha : Release s0 (if p .a then f .a s else s) := .ite (hf _ _ h) h
  .ite (hf _ _ ha) ha

theorem Release.snd {α : Type} {a : α} {p : α × State} (h : Release s0 p.2) (e : p = (a, s)) : Release s0 s := by
  subst e; exact h

/-! ### Registers, bytes and twins -/

theorem Release.setReg (h : Release s0 s) {a : Nat} {v : Word} (ha : releaseReg a = true := by decide) : Release s0 (s.setReg a v) := by
  refine h.trans ⟨rfl, fun x => ⟨State.regsWf_setReg x a v, fun b hb => State.reg_setReg_ne x (fun e => ?_) v⟩⟩
  rw [e, ha] at hb; cases hb

theorem Release.sf (h : Release s0 s) {a : Nat} {f : Fld} {v : Nat} (ha : releaseReg a = true := by decide) (hf : f.hi < 32 := by decide) :
    Release s0 (s.sf a f v) := by
  rw [State.sf_low _ _ _ _ hf]; exact h.setReg ha

theorem Release.sb (h : Release s0 s) {a : Nat} {f : Fld} {v : Bool} (ha : releaseReg a = true := by decide) (hf : f.hi < 32 := by decide) :
    Release s0 (s.sb a f v) := h.sf ha hf

theorem Release.bump (h : Release s0 s) {a : Nat} {f : Fld} {n : Nat} (ha : releaseReg a = true := by decide) (hf : f.hi < 32 := by decide) :
    Release s0 (s.bump a f n) := h.sf ha hf

theorem Release.wr64 (h : Release s0 s) {a v : Nat} (ha : releaseReg a = true) (ha4 : releaseReg (a + 4) = true) : Release s0 (s.wr64 a v) :=
  (h.setReg ha).setReg ha4

theorem Release.wrBytes (h : Release s0 s) {a : Nat} {l : List Byte} : Release s0 (s.wrBytes a l) := by
  induction l generalizing s a with
  | nil => exact h
  | cons b l ih => exact ih (h.frame (u := s.wrB a b))

theorem Release.modTw (h : Release s0 s) {w : Twin} {f : TwinState → TwinState} : Release s0 (s.modTw w f) := by
  cases w <;> exact h.frame

/-! ### Flash, boot record and firmware (R431, R475, R480) -/

theorem Release.detectFlash (h : Release s0 s) : Release s0 (detectFlash s) := by
  unfold Machine.detectFlash
  exact .ite h.setReg h.sf.sf

theorem Release.setRec (h : Release s0 s) {r : BootRec} : Release s0 (s.setRec r) := by
  unfold State.setRec
  extract_lets _ s1
  have h1 : Release s0 s1 := h.frame
  exact h1.sb.sb

theorem Release.revertRecord (h : Release s0 s) {w : Twin} {reason : Nat} : Release s0 (revertRecord w reason s) := by
  unfold Machine.revertRecord
  exact Release.raiseTh (Release.sb (Release.boot h.setRec) (hf := by cases w <;> decide))

theorem Release.readRecord (h : Release s0 s) : Release s0 (readRecord s) := by
  unfold Machine.readRecord
  refine Release.each ?_ fun _ _ hx => hx.revertRecord
  split
  · exact h.boot
  · exact Release.boot h.sb

theorem Release.startFirmware (h : Release s0 s) {w : Twin} : Release s0 (startFirmware w s) := by
  unfold Machine.startFirmware
  extract_lets r tried
  split
  · exact h.frame
  · extract_lets s1 s2 s3
    have h1 : Release s0 s1 := h.sf (hf := by cases w <;> decide)
    have h2 : Release s0 s2 := .ite h1 (h1.sf (hf := by cases w <;> decide))
    have h3 : Release s0 s3 := h2.setReg (releaseReg_twin _ _)
    exact h3.frame

/-! ### The image in a twin (R121) -/

theorem Release.wholeImage (h : Release s0 s) {rd : Nat → Byte} {secs : List DirEnt} {w : Twin} : Release s0 (wholeImage rd secs w s) := by
  unfold Machine.wholeImage defaultEntries writeSections State.resetMem
  exact Release.foldl (Release.wrBytes (Release.wrBytes (Release.wrBytes h.frame))) fun _ _ hx => hx.wrBytes

theorem Release.loadBanks (h : Release s0 s) {w : Twin} : Release s0 (loadBanks w s) := by
  unfold Machine.loadBanks State.setBankState State.setBank State.clearBank State.resetMem
  refine h.foldl fun x n hx => ?_
  extract_lets st s1 s2
  have h1 : Release s0 s1 := Release.modTw hx.frame
  have h2 : Release s0 s2 := (h1.sf (releaseReg_twinAt _ _ _)).sf (releaseReg_twinAt _ _ _)
  exact (h2.sf (releaseReg_twinAt _ _ _)).sf (releaseReg_twinAt _ _ _)

theorem Release.layerShadows (h : Release s0 s) {w : Twin} {l : Nat} : Release s0 (layerShadows w l s) := by
  have reg : ∀ k, releaseReg (w.base + k + l * 0x40) = true := fun k => releaseReg_twinAt w k _
  unfold Machine.layerShadows
  extract_lets v s1 s2
  have h1 : Release s0 s1 := ((h.sf (reg _)).sb (reg _)).sf (reg _)
  have h2 : Release s0 s2 := (h1.sf (reg _)).sf (reg _)
  exact (h2.sf (reg _)).sf (reg _)

theorem Release.live (h : Release s0 s) {w : Twin} {l : Nat} {v : LayerVals} : Release s0 (s.live w l v) := by
  have reg : ∀ k, releaseReg (w.base + k + l * 0x40) = true := fun k => releaseReg_twinAt w k _
  unfold State.live
  extract_lets s1 s2 s3
  have h1 : Release s0 s1 := (h.sf (reg _)).sb (reg _)
  have h2 : Release s0 s2 := h1.sf (reg _)
  have h3 : Release s0 s3 := (h2.sf (reg _)).sf (reg _)
  exact (h3.sf (reg _)).sf (reg _)

theorem Release.freshSlots (h : Release s0 s) {w : Twin} {cs : List Nat} : Release s0 (freshSlots w cs s) := by
  unfold Machine.freshSlots State.modCurves
  exact h.modTw

theorem Release.setLayer (h : Release s0 s) {w : Twin} {l : Nat} {x : Layer} : Release s0 (s.setLayer w l x) := by
  unfold State.setLayer State.modLay
  exact h.modTw

theorem Release.imageDefaults (h : Release s0 s) {w : Twin} : Release s0 (imageDefaults w s) := by
  unfold Machine.imageDefaults
  extract_lets s1 gm
  have h1 : Release s0 s1 := h.foldl fun _ _ hx => hx.layerShadows.live
  exact (h1.sf (releaseReg_twin _ _)).sf (releaseReg_twin _ _)

theorem Release.watchSpare (h : Release s0 s) {w : Twin} : Release s0 (watchSpare w s) := by
  unfold Machine.watchSpare
  extract_lets _ n s1
  have h1 : Release s0 s1 := h.modTw
  exact .ite h1.raiseIf h1

theorem Release.requestEnum (h : Release s0 s) {p : Nat} {w : Twin} : Release s0 (requestEnum p w s) := by
  unfold Machine.requestEnum
  exact .ite h.modTw h

theorem Release.showDmx (h : Release s0 s) {w : Twin} {p : Nat} : Release s0 (showDmx w p s) := by
  unfold Machine.showDmx
  exact ((h.sf (releaseReg_twinAt _ _ _)).sf (releaseReg_twinAt _ _ _)).sb (releaseReg_twinAt _ _ _)

theorem Release.startDisc (h : Release s0 s) {p : Nat} {w : Twin} : Release s0 (startDisc p w s) := by
  unfold Machine.startDisc
  refine .ite h ?_
  extract_lets x
  split
  · exact h
  · exact (h.modTw.sb (releaseReg_twinAt _ _ _)).showDmx

theorem Release.buildTwin (h : Release s0 s) {w : Twin} {curves : List Nat} {id : Nat} : Release s0 (buildTwin w curves id s) := by
  unfold Machine.buildTwin
  extract_lets s1 s2 s3 s4 s5
  have h1 : Release s0 s1 := h.loadBanks
  have h2 : Release s0 s2 := Release.freshSlots h1.modTw
  have h3 : Release s0 s3 := h2.imageDefaults
  have h4 : Release s0 s4 := h3.foldl fun _ _ hx => hx.requestEnum
  have h5 : Release s0 s5 := h4.foldl fun _ _ hx => .ite hx.startDisc hx
  exact (h5.modTw.setReg (releaseReg_twin _ _)).watchSpare

/-! ### The tick is armed (R56, R94) -/

theorem Release.lateEffects (h : Release s0 s) {w : Twin} {stamp : Nat} {ls : List Nat} : Release s0 (lateEffects w stamp ls s) := by
  unfold Machine.lateEffects
  extract_lets s1 s2 s3
  have h1 : Release s0 s1 := h.foldl fun _ _ hx => hx.sb (releaseReg_twinAt _ _ _)
  have h2 : Release s0 s2 := (h1.wr64 (releaseReg_twin _ _) (releaseReg_twinAt _ _ _)).setReg (releaseReg_twin _ _)
  have h3 : Release s0 s3 := (h2.bump (releaseReg_twin _ _)).modTw
  exact h3.raiseOnce

theorem Release.judgeEarly (h : Release s0 s) {w : Twin} : Release s0 (judgeEarly w s) := by
  unfold Machine.judgeEarly
  extract_lets es s1
  have h1 : Release s0 s1 := h.modTw.foldl fun _ _ hx => hx.setLayer
  refine h1.foldl fun x e hx => ?_
  extract_lets late y
  have hy : Release s0 y := hx.foldl fun _ _ hz => hz.setLayer
  exact .ite hy.lateEffects hy

theorem Release.showPending (h : Release s0 s) {w : Twin} : Release s0 (showPending w s) := by
  unfold Machine.showPending
  exact (h.sb (releaseReg_twin _ _)).sb (releaseReg_twin _ _)

theorem Release.mastersLate (h : Release s0 s) {w : Twin} {stamp : Nat} : Release s0 (mastersLate w stamp s) := by
  unfold Machine.mastersLate
  extract_lets s1 s2
  have h1 : Release s0 s1 := (h.sb (releaseReg_twin _ _)).wr64 (releaseReg_twin _ _) (releaseReg_twinAt _ _ _)
  have h2 : Release s0 s2 := h1.setReg (releaseReg_twin _ _)
  exact h2.modTw.raiseOnce

theorem Release.judgeEarlyMasters (h : Release s0 s) {w : Twin} : Release s0 (judgeEarlyMasters w s) := by
  unfold Machine.judgeEarlyMasters
  split
  · exact h
  · refine Release.watchSpare (Release.showPending (Release.foldl h.modTw fun _ _ hx => ?_))
    exact .ite (Release.mastersLate hx.modTw) hx.modTw

theorem Release.armTick (h : Release s0 s) : Release s0 (armTick s) := by
  unfold Machine.armTick captureTiming judgePlaced showWaiting
  exact Release.each (Release.sb (Release.tg (Release.sb h.tg))) fun _ _ hx => hx.judgeEarly.judgeEarlyMasters

/-! ### The load and the calibration (R121, R122, R497) -/

theorem Release.periImage (h : Release s0 s) {w : Twin} : Release s0 (periImage w s) := by
  unfold Machine.periImage
  exact h.sf.sf.sf

theorem Release.enterState (h : Release s0 s) {st : Nat} : Release s0 (enterState st s) := by
  unfold Machine.enterState
  exact Release.pwr h.sf

theorem Release.minimalConfig (h : Release s0 s) : Release s0 (minimalConfig s) := by
  unfold Machine.minimalConfig
  extract_lets s1 s2
  have h1 : Release s0 s1 := h.each fun _ _ hx => hx.wholeImage.buildTwin
  have h2 : Release s0 s2 := h1.sb.periImage.enterState
  exact h2.sf.armTick.raiseTh

theorem Release.stageImage (h : Release s0 s) {rd : Nat → Byte} : Release s0 (stageImage rd s) := by
  unfold Machine.stageImage
  exact h.each fun _ _ hx => hx.wrBytes

theorem Release.trySlot (h : Release s0 s) {slot : Nat} : Release s0 (trySlot slot s).2 := by
  unfold Machine.trySlot
  extract_lets rd s1
  have h1 : Release s0 s1 := .ite h.stageImage h
  have err : (slotErr slot).hi < 32 := by unfold slotErr; split <;> decide
  split
  · exact (h1.sf (hf := err)).setReg
  · dsimp only
    exact Release.each h1 fun _ _ hx => hx.wholeImage.buildTwin

theorem Release.beginLoad (h : Release s0 s) : Release s0 (beginLoad s) := by
  unfold Machine.beginLoad
  extract_lets s1 p
  have h1 : Release s0 s1 := h.setReg
  split
  next s2 e => exact h1.trySlot.snd e
  next s2 e =>
    have h2 : Release s0 s2 := h1.trySlot.snd e
    split
    · split
      next s3 e' => exact h2.trySlot.snd e'
      next s3 e' => exact (h2.trySlot.snd e').minimalConfig
    · exact h2.minimalConfig

theorem Release.endRun (h : Release s0 s) : Release s0 (endRun s) := by
  unfold Machine.endRun
  exact Release.raiseTh (Release.sb h.cal)

theorem Release.takeUnit (h : Release s0 s) {n : Nat} : Release s0 (takeUnit n s) := by
  unfold Machine.takeUnit State.setCalUnit
  exact Release.cal (Release.sf h.cal)

theorem Release.calNext (h : Release s0 s) {l : List Nat} : Release s0 (calNext l s) := by
  induction l generalizing s with
  | nil => exact Release.endRun h.frame
  | cons n rest ih =>
    rw [Machine.calNext]
    split
    · exact Release.takeUnit h.frame
    · exact h.frame
    · exact ih h.frame
    · exact ih h.frame

theorem Release.startRun (h : Release s0 s) {units : List Nat} {powerUp : Bool} : Release s0 (startRun units powerUp s) := by
  unfold Machine.startRun
  exact Release.calNext (Release.sb (Release.cal (h.foldl fun _ _ hx => hx.cal)))

theorem Release.powerUpRun (h : Release s0 s) : Release s0 (powerUpRun s) := Release.startRun h.cal

/-! ### The release -/

/-- A part whose reset is released at the present instant, before its load begins. -/
def State.released (s : State) : State := { s with dev := { s.dev with inReset := false, releasedAt := s.now, resetLowAt := none } }

theorem releaseReset_release (h : s.dev.testEn = false) : Release s.released (releaseReset s) := by
  unfold releaseReset
  rw [if_neg (by simp [h])]
  refine Release.powerUpRun (Release.beginLoad (Release.each ?_ fun _ _ hx => hx.startFirmware))
  exact (Release.refl s.released).detectFlash.readRecord

end Sys2Proof.Machine
end

section
/-!
The resets of Table 1-7: what a device reset, a power-on reset and a release leave, and the statements of chapter 0.
-/
namespace Sys2Proof.Machine

set_option Elab.async false

/-! ### Tables with entries left out -/

/-- A key whose entries are left out reads as unlisted. -/
theorem Smap.get_filter_out {α : Type} {d : α} {q : Nat → Bool} {i : Nat} (hi : q i = false) :
    ∀ m : List (Nat × α), Smap.get d (m.filter (fun e => q e.1)) i = d
  | [] => rfl
  | (j, v) :: rest => by
    by_cases hj : q j = true
    · have hij : i ≠ j := fun e => by rw [← e, hi] at hj; cases hj
      simp only [List.filter_cons, hj, if_true, Smap.get, if_neg hij]
      split
      · rfl
      · exact Smap.get_filter_out hi rest
    · simp only [List.filter_cons, hj]
      exact Smap.get_filter_out hi rest

theorem Smap.get_filter_in_above {α : Type} [DecidableEq α] (d : Nat → α) {dv : α} {q : Nat → Bool} {i : Nat} (hi : q i = true) :
    ∀ (m : List (Nat × α)) (lo : Option Nat), Smap.above d lo m = true → Smap.get dv (m.filter (fun e => q e.1)) i = Smap.get dv m i
  | [], _, _ => rfl
  | (j, v) :: rest, lo, h => by
    obtain ⟨-, -, hrest⟩ := Smap.above_cons.1 h
    have ih := Smap.get_filter_in_above d (dv := dv) hi rest _ hrest
    by_cases hj : q j = true
    · simp only [List.filter_cons, hj, if_true, Smap.get, ih]
    · have hij : i ≠ j := fun e => hj (e ▸ hi)
      rw [List.filter_cons, if_neg hj, ih, Smap.get, if_neg hij]
      by_cases hlt : i < j
      · rw [if_pos hlt, Smap.get_below hrest (Nat.le_of_lt hlt)]
      · rw [if_neg hlt]

/-- A key whose entries stay reads as before. -/
theorem Smap.get_filter_in {α : Type} [DecidableEq α] {d : Nat → α} {q : Nat → Bool} {m : List (Nat × α)} (h : Smap.wf d m = true) {i : Nat}
    (hi : q i = true) (dv : α) : Smap.get dv (m.filter (fun e => q e.1)) i = Smap.get dv m i :=
  Smap.get_filter_in_above d hi m none h

/-! ### The keepalive generator -/

theorem genHold_eq_withLine (p : Nat) (s : State) : genHold p s = s.withLine (genHold p s) := rfl

theorem foldl_genHold_eq_withLine (ps : List Nat) (s : State) :
    ps.foldl (fun x p => genHold p x) s = s.withLine (ps.foldl (fun x p => genHold p x) s) := by
  induction ps generalizing s with
  | nil => rfl
  | cons p ps ih => rw [List.foldl_cons, ih, genHold_eq_withLine p s]; rfl

/-- The keepalive generator changes the strand lines alone. -/
theorem syncGen_eq_withLine (s : State) : syncGen s = s.withLine (syncGen s) := by
  unfold syncGen
  extract_lets ps s1
  rw [foldl_genHold_eq_withLine]
  rfl

theorem withLine_reg (s u : State) (a : Nat) : (s.withLine u).reg a = s.reg a := rfl

@[simp] theorem syncGen_reg (s : State) (a : Nat) : (syncGen s).reg a = s.reg a := by rw [syncGen_eq_withLine, withLine_reg]

/-! ### The device reset (Table 1-7) -/

/-- How a device reset leaves what lies beside registers and bytes. -/
structure InDeviceReset (s u : State) : Prop where
  pending : u.pending = s.pending
  now : u.now = s.now
  role : u.role = ⟨.off, .off⟩
  latches : u.latches = []
  holds : u.holds = []
  ports : u.pwr.ports = 0
  inReset : u.dev.inReset = true
  resetHold : u.dev.resetHold = true
  ctxPend : u.dev.ctxPend = false
  testEn : u.dev.testEn = s.dev.testEn

theorem deviceReset_inDeviceReset (s : State) : InDeviceReset s (deviceReset s) := by
  unfold deviceReset
  extract_lets
  rw [syncGen_eq_withLine]
  exact ⟨rfl, rfl, rfl, rfl, rfl, rfl, rfl, rfl, rfl, rfl⟩

/-- Calibration's flags and the keepalives leave every register but calibration's status. -/
theorem reg_syncGen_calIdle {s : State} (h : s.regsWf = true) {a : Nat} (ha : a ≠ Reg.CAL_STAT) :
    (syncGen ((s.sb Reg.CAL_STAT Fld.CAL_STAT_RUNNING false).sb Reg.CAL_STAT Fld.CAL_STAT_PENDING false)).reg a = s.reg a := by
  rw [syncGen_reg]
  calc ((s.sb Reg.CAL_STAT Fld.CAL_STAT_RUNNING false).sb Reg.CAL_STAT Fld.CAL_STAT_PENDING false).reg a
      = (s.sb Reg.CAL_STAT Fld.CAL_STAT_RUNNING false).reg a := State.reg_sf_ne (State.regsWf_sf h _ _ _) _ _ (by decide) ha
    _ = s.reg a := State.reg_sf_ne h _ _ (by decide) ha

/-- But for calibration's status, the registers are those of domain POR. -/
theorem deviceReset_reg {s : State} (h : s.regsWf = true) {a : Nat} (ha : a ≠ Reg.CAL_STAT) :
    (deviceReset s).reg a = Smap.get (resetWord a) (s.regs.filter (fun e => decide (domainOf e.1 = some .por))) a := by
  unfold deviceReset
  refine reg_syncGen_calIdle ?_ ha
  exact Smap.wf_filter h _

theorem deviceReset_reg_reset {s : State} (h : s.regsWf = true) {a : Nat} (hd : domainOf a ≠ some .por) (ha : a ≠ Reg.CAL_STAT) :
    (deviceReset s).reg a = resetWord a :=
  (deviceReset_reg h ha).trans (Smap.get_filter_out (q := fun x => decide (domainOf x = some .por)) (decide_eq_false hd) _)

theorem deviceReset_reg_por {s : State} (h : s.regsWf = true) {a : Nat} (hd : domainOf a = some .por) (ha : a ≠ Reg.CAL_STAT) :
    (deviceReset s).reg a = s.reg a :=
  (deviceReset_reg h ha).trans (Smap.get_filter_in (q := fun x => decide (domainOf x = some .por)) h (decide_eq_true hd) _)

theorem deviceReset_mem (s : State) : (deviceReset s).mem = s.mem.filter (fun e => keptByDevice e.1) := by
  unfold deviceReset
  extract_lets
  rw [syncGen_eq_withLine]
  rfl

/-- A filter of the memory by address leaves the bytes that it picks, and the others unlisted. -/
theorem rdB_of_mem_filter {s u : State} {q : Nat → Bool} (e : u.mem = s.mem.filter (fun c => q c.1)) (h : Memory.wf s.mem = true) (a : Nat) :
    (q a = true → u.rdB a = s.rdB a) ∧ (q a = false → u.rdB a = memDefault a) := by
  unfold State.rdB
  rw [e]
  exact ⟨fun ha => Smap.get_filter_in h ha _, fun ha => Smap.get_filter_out ha _⟩

/-- While a device reset holds the part, every strand port is in HOLD. -/
theorem deviceReset_holdOn {s : State} (h : s.regsWf = true) : (deviceReset s).holdOn = true := by
  have d := deviceReset_inDeviceReset s
  have out : (deviceReset s).reg Reg.OUT_CTL = resetWord Reg.OUT_CTL :=
    deviceReset_reg_reset h (by decide +kernel) (by decide)
  have safe : (deviceReset s).rb Reg.OUT_CTL Fld.OUT_CTL_SAFE = false := by
    rw [State.rb, State.rf, State.regNat_low _ _ _ (by decide), out]
    decide +kernel
  simp [State.holdOn, State.safeOn, safe, d.ports, d.resetHold]

/-! ### The power-on reset -/

theorem powerOn_reg (s : State) {a : Nat} (ha : a ≠ Reg.OTP_KEY_STAT) : (powerOn s).reg a = resetWord a := by
  unfold powerOn
  extract_lets
  exact State.reg_sf_ne rfl _ _ (by decide) ha

theorem State.rf_lt (s : State) (a : Nat) (f : Fld) : s.rf a f < 2 ^ (f.hi - f.lo + 1) := Nat.mod_lt _ (Nat.two_pow_pos _)

/-- The OTP key slots keep their state. -/
theorem powerOn_slots (s : State) :
    (powerOn s).rf Reg.OTP_KEY_STAT Fld.OTP_KEY_STAT_SLOTS = s.rf Reg.OTP_KEY_STAT Fld.OTP_KEY_STAT_SLOTS := by
  unfold powerOn
  extract_lets slots
  exact (State.rf_sf_self rfl _ _ _ (by decide) (by decide)).trans (Nat.mod_eq_of_lt (State.rf_lt _ _ _))

/-! ### The release -/

/-- A release lets the part run from the present instant, unless TEST_EN is high. -/
theorem releaseReset_dev (s : State) : (releaseReset s).dev = if s.dev.testEn then { s.dev with resetLowAt := none } else s.released.dev := by
  cases h : s.dev.testEn with
  | true => simp [releaseReset, h]
  | false => rw [(releaseReset_release h).rest]; rfl

theorem releaseReset_resetLowAt (s : State) : (releaseReset s).dev.resetLowAt = none := by
  rw [releaseReset_dev]; split <;> rfl

theorem releaseReset_inReset {s : State} (h : s.dev.testEn = false) : (releaseReset s).dev.inReset = false := by
  rw [releaseReset_dev, h]; rfl

theorem releaseReset_releasedAt {s : State} (h : s.dev.testEn = false) : (releaseReset s).dev.releasedAt = s.now := by
  rw [releaseReset_dev, h]; rfl

theorem releaseReset_role {s : State} (h : s.dev.testEn = false) : (releaseReset s).role = s.role := by
  rw [(releaseReset_release h).rest]; rfl

/-- A release leaves the management address. -/
theorem releaseReset_addr {s : State} (h : s.dev.testEn = false) (hr : s.regsWf = true) :
    (releaseReset s).rf Reg.MGMT_CFG Fld.MGMT_CFG_ADDR = s.rf Reg.MGMT_CFG Fld.MGMT_CFG_ADDR := by
  obtain ⟨-, keep⟩ := (releaseReset_release h).regs hr
  have reg : (releaseReset s).reg Reg.MGMT_CFG = s.reg Reg.MGMT_CFG := keep _ (by decide)
  rw [State.rf, State.rf, State.regNat_low _ _ _ (by decide), State.regNat_low _ _ _ (by decide), reg]

/-! ### The commands -/

theorem tidy_iff {s : State} : s.tidy = true ↔ s.regsWf = true ∧ Memory.wf s.mem = true := by simp [State.tidy]

/-- RESET_N holds the part from an instant on. -/
def State.heldFrom (u : State) (x : Nat) : State := { u with dev := { u.dev with resetLowAt := some x } }

theorem State.heldFrom_reg (u : State) (x a : Nat) : (u.heldFrom x).reg a = u.reg a := rfl
theorem State.heldFrom_rdB (u : State) (x a : Nat) : (u.heldFrom x).rdB a = u.rdB a := rfl
theorem State.heldFrom_holdOn (u : State) (x : Nat) : (u.heldFrom x).holdOn = u.holdOn := rfl
theorem State.heldFrom_resetLowAt (u : State) (x : Nat) : (u.heldFrom x).dev.resetLowAt = some x := rfl

theorem InDeviceReset.heldFrom {s u : State} (h : InDeviceReset s u) (x : Nat) : InDeviceReset s (u.heldFrom x) :=
  ⟨h.pending, h.now, h.role, h.latches, h.holds, h.ports, h.inReset, h.resetHold, h.ctxPend, h.testEn⟩

theorem exec_resetNAssert (s : State) (t : Nat) :
    exec (.resetNAssert t) s = .next ((deviceReset (clearSave (s.beginAt t))).heldFrom (max s.now t)) := by
  have now : (deviceReset (clearSave (s.beginAt t))).now = max s.now t := (deviceReset_inDeviceReset _).now
  rw [← now]
  rfl

/-- RESET_N_ASSERT in a state in canonical form. -/
theorem execResetNAssert_returns {s : State} (t : Nat) (h : s.tidy = true) : ∃ u, exec (.resetNAssert t) s = .next u ∧
    u.role = ⟨.off, .off⟩ ∧ u.dev.inReset = true ∧ u.dev.resetLowAt = some (max s.now t) ∧ u.holdOn = true ∧ u.pending = s.pending ∧
    (∀ a, domainOf a ≠ some .por → a ≠ Reg.CAL_STAT → u.reg a = resetWord a) ∧
    (∀ a, domainOf a = some .por → a ≠ Reg.CAL_STAT → u.reg a = s.reg a) ∧
    (∀ a, keptByDevice a = true → a ≠ 0xF004 → u.rdB a = s.rdB a) ∧ (∀ a, keptByDevice a = false → u.rdB a = memDefault a) := by
  obtain ⟨regs, mem⟩ := tidy_iff.1 h
  have regs' : (clearSave (s.beginAt t)).regsWf = true := regs
  have wf : Memory.wf (clearSave (s.beginAt t)).mem = true := State.memWf_wrB (s := s.beginAt t) mem 0xF004 0
  have d := (deviceReset_inDeviceReset (clearSave (s.beginAt t))).heldFrom (max s.now t)
  have bytes := rdB_of_mem_filter (deviceReset_mem (clearSave (s.beginAt t))) wf
  refine ⟨_, exec_resetNAssert s t, d.role, d.inReset, State.heldFrom_resetLowAt _ _, ?_, d.pending, fun a hd ha => ?_, fun a hd ha => ?_,
    fun a hk hv => ?_, fun a hk => ?_⟩
  · rw [State.heldFrom_holdOn]; exact deviceReset_holdOn regs'
  · rw [State.heldFrom_reg]; exact deviceReset_reg_reset regs' hd ha
  · rw [State.heldFrom_reg]; exact deviceReset_reg_por regs' hd ha
  · rw [State.heldFrom_rdB, (bytes a).1 hk]; exact State.rdB_wrB_ne (s := s.beginAt t) mem hv 0
  · rw [State.heldFrom_rdB, (bytes a).2 hk]

/-- POWER_ON_RESET in a state in canonical form. -/
theorem execPowerOnReset_returns {s : State} (t : Nat) (h : s.tidy = true) : ∃ u, exec (.powerOnReset t) s = .next u ∧
    u.role = ⟨.off, .off⟩ ∧ u.dev.inReset = true ∧ u.pending = s.pending ∧
    u.rf Reg.OTP_KEY_STAT Fld.OTP_KEY_STAT_SLOTS = s.rf Reg.OTP_KEY_STAT Fld.OTP_KEY_STAT_SLOTS ∧
    (∀ a, a ≠ Reg.OTP_KEY_STAT → u.reg a = resetWord a) ∧
    (∀ a, keptAlways a = true → u.rdB a = s.rdB a) ∧ (∀ a, keptAlways a = false → u.rdB a = memDefault a) := by
  obtain ⟨-, mem⟩ := tidy_iff.1 h
  have bytes := rdB_of_mem_filter (s := s.beginAt t) (u := powerOn (s.beginAt t)) rfl mem
  exact ⟨_, rfl, rfl, rfl, rfl, powerOn_slots _, fun a => powerOn_reg _, fun a => (bytes a).1, fun a => (bytes a).2⟩

/-- The state in which the end of a power-on reset releases the part. -/
def State.strapped (s : State) : State := s.sf Reg.MGMT_CFG Fld.MGMT_CFG_ADDR (0x68 + s.dev.strap % 8)

theorem strapped_dev (s : State) : s.strapped.dev = s.dev := State.sf_dev _ _ _ _
theorem strapped_role (s : State) : s.strapped.role = s.role := State.sf_role _ _ _ _
theorem strapped_now (s : State) : s.strapped.now = s.now := State.sf_now _ _ _ _

theorem strapped_addr {s : State} (h : s.regsWf = true) : s.strapped.rf Reg.MGMT_CFG Fld.MGMT_CFG_ADDR = 0x68 + s.dev.strap % 8 := by
  unfold State.strapped
  rw [State.rf_sf_self h _ _ _ (by decide) (by decide)]
  exact Nat.mod_eq_of_lt (show 0x68 + s.dev.strap % 8 < 2 ^ 7 by omega)

theorem exec_powerOnResetEnd (s : State) (t : Nat) : exec (.powerOnResetEnd t) s = .next (releaseReset (s.beginAt t).strapped) := rfl

/-- RESET_N_RELEASE releases a part that RESET_N holds. -/
theorem exec_resetNRelease_held {s : State} (t : Nat) (h : s.dev.resetLowAt.isSome = true) :
    exec (.resetNRelease t) s = .next (releaseReset (s.beginAt t)) :=
  if_pos (show (s.beginAt t).dev.resetLowAt.isSome = true from h)

theorem exec_resetNRelease_free {s : State} (t : Nat) (h : s.dev.resetLowAt = none) :
    exec (.resetNRelease t) s = .next (s.beginAt t) :=
  if_neg (show ¬ (s.beginAt t).dev.resetLowAt.isSome = true by simp [h])

/-! ### The statements -/

/-- Settles O3: nothing is listed after reset, so the state is sound and each register reads the reset value of its row. -/
theorem resetStateIsSound : Obligations.ResetStateIsSound := by
  unfold Obligations.ResetStateIsSound
  refine ⟨rfl, rfl, by decide +kernel, fun w => ?_, by decide +kernel⟩
  cases w <;> decide +kernel

/-- Settles O6: a device reset and a power-on reset filter registers and bytes by domain, and what a release begins leaves roles, the reset
state of the part and the management address alone. -/
theorem resetsReturnTheirDomains : Obligations.ResetsReturnTheirDomains := by
  unfold Obligations.ResetsReturnTheirDomains
  refine ⟨fun s t => ⟨?_, ?_, ?_, ?_, exec_resetNRelease_free t⟩, fun s t h => ⟨execResetNAssert_returns t h, execPowerOnReset_returns t h⟩,
    fun s t h off en => ⟨fun held => ?_, ?_⟩⟩
  · exact ⟨_, rfl, rfl, rfl⟩
  · have d := (deviceReset_inDeviceReset (clearSave (s.beginAt t))).heldFrom (max s.now t)
    exact ⟨_, exec_resetNAssert s t, d.role, d.inReset, State.heldFrom_resetLowAt _ _⟩
  · refine ⟨_, exec_powerOnResetEnd s t, releaseReset_resetLowAt _, fun en => releaseReset_inReset ?_⟩
    rw [strapped_dev]; exact en
  · exact fun held => ⟨_, exec_resetNRelease_held t held, releaseReset_resetLowAt _, fun en => releaseReset_inReset en⟩
  · have en' : (s.beginAt t).dev.testEn = false := en
    refine ⟨_, exec_resetNRelease_held t held, releaseReset_inReset en', releaseReset_resetLowAt _, releaseReset_releasedAt en', ?_⟩
    rw [releaseReset_role en']; exact off
  · obtain ⟨regs, -⟩ := tidy_iff.1 h
    have regs' : (s.beginAt t).regsWf = true := regs
    have en' : (s.beginAt t).strapped.dev.testEn = false := by rw [strapped_dev]; exact en
    refine ⟨_, exec_powerOnResetEnd s t, releaseReset_inReset en', ?_, ?_, ?_⟩
    · rw [releaseReset_releasedAt en', strapped_now]; rfl
    · rw [releaseReset_role en', strapped_role]; exact off
    · rw [releaseReset_addr en' (State.regsWf_sf regs' _ _ _), strapped_addr regs']; rfl

end Sys2Proof.Machine
end

section
/-!
One field of one register: what a write and a count leave, and what software's writes to the Thallus come to.
-/
namespace Sys2Proof.Machine

set_option Elab.async false

variable {s u : State}

/-! ### A field -/

theorem getFld_testBit (v : Word) (f : Fld) (i : Nat) : (getFld v f).testBit i = (decide (i < f.hi - f.lo + 1) && v.toNat.testBit (f.lo + i)) := by
  rw [getFld, Nat.testBit_mod_two_pow, Nat.testBit_div_two_pow, Nat.add_comm i]

/-- Putting back what a field holds changes nothing. -/
theorem putFld_getFld (v : Word) (f : Fld) (h : f.lo ≤ f.hi) : putFld v.toNat f (getFld v f) = v.toNat := by
  apply Nat.eq_of_testBit_eq
  intro i
  rw [putFld_testBit _ _ _ _ h]
  split
  next hi =>
    have hlt : i - f.lo < f.hi - f.lo + 1 := by omega
    have hadd : f.lo + (i - f.lo) = i := by omega
    rw [getFld_testBit, decide_eq_true hlt, Bool.true_and, hadd]
  next => rfl

theorem withFld_getFld (v : Word) (f : Fld) (h : f.lo ≤ f.hi) : withFld v f (getFld v f) = v := by
  rw [withFld, putFld_getFld v f h, BitVec.ofNat_toNat, BitVec.setWidth_eq]

theorem rf_eq_getFld (s : State) (a : Nat) (f : Fld) (hf : f.hi < 32) : s.rf a f = getFld (s.reg a) f := by
  rw [State.rf, State.regNat_low _ _ _ hf]; rfl

theorem reg_sf_withFld (h : s.regsWf = true) (a : Nat) (f : Fld) (v : Nat) (hf : f.hi < 32) : (s.sf a f v).reg a = withFld (s.reg a) f v :=
  State.reg_sf_self h a f v hf

theorem reg_bump_countUp (h : s.regsWf = true) (a : Nat) (f : Fld) (hf : f.hi < 32) : (s.bump a f).reg a = countUp (s.reg a) f := by
  rw [State.bump, reg_sf_withFld h _ _ _ hf, rf_eq_getFld _ _ _ hf]; rfl

/-- Writing back what a one-bit field holds leaves every register. -/
theorem reg_sb_rb (h : s.regsWf = true) (a : Nat) (f : Fld) (one : f.hi = f.lo) (hf : f.hi < 32) (b : Nat) : (s.sb a f (s.rb a f)).reg b = s.reg b := by
  by_cases hb : b = a
  · subst hb
    have bit : getFld (s.reg b) f < 2 := by
      have := getFld_lt (s.reg b) f
      rwa [one, Nat.sub_self] at this
    have held : (if s.rb b f then 1 else 0) = getFld (s.reg b) f := by
      rw [State.rb, rf_eq_getFld _ _ _ hf]
      generalize getFld (s.reg b) f = x at bit
      interval_cases x <;> rfl
    rw [State.sb, reg_sf_withFld h _ _ _ hf, held, withFld_getFld _ _ (by omega)]
  · exact State.reg_sf_ne h _ _ hf hb

theorem rb_congr (a : Nat) (f : Fld) (hf : f.hi < 32) (e : u.reg a = s.reg a) : u.rb a f = s.rb a f := by
  rw [State.rb, State.rb, rf_eq_getFld _ _ _ hf, rf_eq_getFld _ _ _ hf, e]

/-! ### One register alone -/

theorem onlyRegs_sf (h : s.regsWf = true) (a : Nat) (f : Fld) (v : Nat) (hf : f.hi < 32) : onlyRegs [a] s (s.sf a f v) := by
  refine ⟨?_, fun b hb => State.reg_sf_ne h _ _ hf (by simpa using hb)⟩
  rw [State.sf_eq]

theorem onlyRegs_bump (h : s.regsWf = true) (a : Nat) (f : Fld) (hf : f.hi < 32) : onlyRegs [a] s (s.bump a f) := onlyRegs_sf h a f _ hf

theorem State.regsWf_bump (h : s.regsWf = true) (a : Nat) (f : Fld) (n : Nat) : (s.bump a f n).regsWf = true := State.regsWf_sf h _ _ _

theorem onlyRegs.refl (l : List Nat) (s : State) : onlyRegs l s s := ⟨rfl, fun _ _ => rfl⟩

/-! ### A write to the Thallus -/

/-- A write that the Thallus takes acts at the command's instant. -/
theorem thWrite_beginAt (t : Nat) (src : Requester) (f : State → State) (h : s.thAllows src = true) :
    (s.beginAt t).thWrite src f = f (s.beginAt t) :=
  if_pos (show (s.beginAt t).thAllows src = true by cases src <;> simpa [State.thAllows] using h)

theorem keyErr_counts (h : s.regsWf = true) :
    s.keyErr.reg Reg.DEV_STAT = countUp (s.reg Reg.DEV_STAT) Fld.DEV_STAT_KEY_ERR ∧ onlyRegs [Reg.DEV_STAT] s s.keyErr :=
  ⟨reg_bump_countUp h _ _ (by decide), onlyRegs_bump h _ _ (by decide)⟩

/-- Every key but 0x5A is wrong. -/
theorem devCtl_wrong_key {dev ctx : Bool} {key : Byte} (h : (dev || ctx) = true) (hk : key ≠ 0x5A) (s : State) :
    devCtl dev ctx key.toNat s = s.keyErr := by
  have ne : key.toNat ≠ 0x5A := fun e => hk (BitVec.eq_of_toNat_eq e)
  have asked : ¬ (!dev && !ctx) = true := by rw [← Bool.not_or, h]; decide
  rw [devCtl, if_neg asked, if_pos ne]

theorem devCtl_device (ctx : Bool) (s : State) : devCtl true ctx 0x5A s = resetAndRelease s := rfl

theorem devCtl_context_merges (h : s.dev.ctxPend = true) : devCtl false true 0x5A s = s := if_pos h

theorem devCtl_context_waits (h : s.dev.ctxPend = false) :
    devCtl false true 0x5A s = { s.sf Reg.DEV_STAT Fld.DEV_STAT_CTX_DROP 0 with dev := { s.dev with ctxPend := true } } := by
  have free : ¬ s.dev.ctxPend = true := by rw [h]; decide
  exact if_neg free

end Sys2Proof.Machine
end

section
/-!
The requests for a reset by register (R30, R34, R46, R551).
-/
namespace Sys2Proof.Machine

set_option Elab.async false

variable {s : State}

theorem exec_ctxRst (t : Nat) (src : Requester) (key : Byte) (h : s.thAllows src = true) :
    exec (.ctxRst t src key) s = .next (devCtl false true key.toNat (s.beginAt t)) :=
  congrArg _ (thWrite_beginAt t src _ h)

theorem exec_devRst (t : Nat) (src : Requester) (key : Byte) (both : Bool) (h : s.thAllows src = true) :
    exec (.devRst t src key both) s = .next (devCtl true both key.toNat (s.beginAt t)) :=
  congrArg _ (thWrite_beginAt t src _ h)

/-- What waits for a context reset is its request and CTX_DROP cleared. -/
theorem devCtl_context_frame (h : s.regsWf = true) (hp : s.dev.ctxPend = false) :
    (devCtl false true 0x5A s).reg Reg.DEV_STAT = withFld (s.reg Reg.DEV_STAT) Fld.DEV_STAT_CTX_DROP 0 ∧
      onlyRegs [Reg.DEV_STAT] { s with dev := { s.dev with ctxPend := true } } (devCtl false true 0x5A s) := by
  obtain ⟨rest, regs⟩ := onlyRegs_sf h Reg.DEV_STAT Fld.DEV_STAT_CTX_DROP 0 (by decide)
  rw [devCtl_context_waits hp]
  refine ⟨reg_sf_withFld h _ _ _ (by decide), ?_, regs⟩
  rw [rest]

/-- Settles O4, by the cases of the key and of a request that waits already. -/
theorem contextResetRequestWaitsOrMerges : Obligations.ContextResetRequestWaitsOrMerges := by
  unfold Obligations.ContextResetRequestWaitsOrMerges
  intro s t src key tidy allows
  obtain ⟨regs, -⟩ := tidy_iff.1 tidy
  have regs' : (s.beginAt t).regsWf = true := regs
  refine ⟨_, exec_ctxRst t src key allows, ?_, ?_, ?_⟩
  · rintro rfl
    exact devCtl_context_merges (s := s.beginAt t)
  · rintro rfl
    exact devCtl_context_frame regs'
  · intro wrong
    rw [devCtl_wrong_key rfl wrong]
    exact keyErr_counts regs'

/-! ### The device reset that the part releases itself -/

/-- What a release leaves of the state in which it finds the part, whether TEST_EN is high or not. -/
structure AfterRelease (s u : State) : Prop where
  role : u.role = s.role
  pending : u.pending = s.pending
  latches : u.latches = s.latches
  holds : u.holds = s.holds
  dev : u.dev = if s.dev.testEn then { s.dev with resetLowAt := none } else s.released.dev

theorem releaseReset_afterRelease (s : State) : AfterRelease s (releaseReset s) := by
  cases h : s.dev.testEn with
  | true => rw [releaseReset, if_pos h]; exact ⟨rfl, rfl, rfl, rfl, by rw [h]; rfl⟩
  | false => rw [(releaseReset_release h).rest]; exact ⟨rfl, rfl, rfl, rfl, by rw [h]; rfl⟩

/-- The flags of the part that a device reset clears. -/
theorem deviceReset_wdogAt (s : State) : (deviceReset s).dev.wdogAt = none := by
  unfold deviceReset
  extract_lets
  rw [syncGen_eq_withLine]
  rfl

/-- How a device reset by register leaves the part, 1 µs later (R46, R551). -/
structure ResetByRegister (s u : State) : Prop where
  role : u.role = ⟨.off, .off⟩
  inReset : u.dev.inReset = s.dev.testEn
  ctxPend : u.dev.ctxPend = false
  releasedAt : s.dev.testEn = false → u.dev.releasedAt = s.now + 1000
  resetHold : u.dev.resetHold = true
  wdogAt : u.dev.wdogAt = none
  latches : u.latches = []
  holds : u.holds = []
  pending : u.pending = s.pending

theorem resetAndRelease_resetByRegister (s : State) : ResetByRegister s (resetAndRelease s) := by
  have d := deviceReset_inDeviceReset s
  have wdog : ((deviceReset s).at (s.now + 1000)).dev.wdogAt = none := deviceReset_wdogAt s
  have en : ((deviceReset s).at (s.now + 1000)).dev.testEn = s.dev.testEn := d.testEn
  have hold : ((deviceReset s).at (s.now + 1000)).dev.resetHold = true := d.resetHold
  have held : ((deviceReset s).at (s.now + 1000)).dev.inReset = true := d.inReset
  have pend : ((deviceReset s).at (s.now + 1000)).dev.ctxPend = false := d.ctxPend
  have now : ((deviceReset s).at (s.now + 1000)).now = s.now + 1000 := by
    rw [State.at, d.now]; exact max_eq_right (Nat.le_add_right _ _)
  obtain ⟨role, pending, latches, holds, dev⟩ := releaseReset_afterRelease ((deviceReset s).at (s.now + 1000))
  have free : (resetAndRelease s).dev = _ := dev
  refine ⟨role.trans d.role, ?_, ?_, fun h => ?_, ?_, ?_, latches.trans d.latches, holds.trans d.holds, pending.trans d.pending⟩ <;>
    rw [free, en]
  · cases s.dev.testEn with
    | true => exact held
    | false => rfl
  · split <;> exact pend
  · rw [h]; exact now
  · split <;> exact hold
  · split <;> exact wdog

/-- Settles O5: the device reset is made and released whatever the context-reset bit says. -/
theorem deviceResetByRegister : Obligations.DeviceResetByRegister := by
  unfold Obligations.DeviceResetByRegister
  intro s t src key both tidy allows
  obtain ⟨regs, -⟩ := tidy_iff.1 tidy
  have regs' : (s.beginAt t).regsWf = true := regs
  refine ⟨_, exec_devRst t src key both allows, ?_, ?_⟩
  · rintro rfl
    have r := resetAndRelease_resetByRegister (s.beginAt t)
    exact ⟨r.role, r.inReset, r.ctxPend, r.releasedAt, r.resetHold, r.latches, r.holds, r.pending⟩
  · intro wrong
    rw [devCtl_wrong_key rfl wrong]
    exact keyErr_counts regs'

end Sys2Proof.Machine
end

section
/-!
SUPPORT. Events pending in the Thallus (R514): raising one sets its bit, and no other raise clears a bit.
-/
namespace Sys2Proof.Machine

set_option Elab.async false

/-- The address is that of a word of pending bits. -/
def pendReg (a : Nat) : Bool := decide (Reg.EVT_PEND 0 ≤ a ∧ a < Reg.EVT_PEND 8)

theorem pendReg_pend {n : Nat} (h : n < 256) : pendReg (Reg.EVT_PEND (n / 32)) = true := by
  refine decide_eq_true ?_
  simp only [Reg.EVT_PEND]; omega

theorem pendReg_twin (w : Twin) (k : Nat) : pendReg (w.base + k) = false := by
  have := twinBase_ge w
  refine decide_eq_false ?_
  simp only [Reg.EVT_PEND]; omega

/-- From `s` to `u` no event of the Thallus stops being pending. -/
structure PendKept (s u : State) : Prop where
  kept : s.regsWf = true → u.regsWf = true ∧ ∀ n, n < 256 → s.evtPending n = true → u.evtPending n = true

variable {s0 s u : State}

theorem evtPending_congr (n : Nat) (h : u.reg (Reg.EVT_PEND (n / 32)) = s.reg (Reg.EVT_PEND (n / 32))) : u.evtPending n = s.evtPending n := by
  rw [State.evtPending, State.evtPending, h]

theorem bitAt_testBit (v i : Nat) : bitAt v i = v.testBit i := by
  simp [bitAt, Nat.testBit_eq_decide_div_mod_eq]

/-- A word with more bits set shows a bit that it had. -/
theorem bitAt_or_left (v : Word) (m i : Nat) (h : bitAt v.toNat i = true) : bitAt (v ||| BitVec.ofNat 32 m).toNat i = true := by
  rw [bitAt_testBit] at h ⊢
  rw [BitVec.toNat_or, Nat.testBit_or, h, Bool.true_or]

/-- A word with a bit set shows it. -/
theorem bitAt_or_two_pow (v : Word) {i : Nat} (h : i < 32) : bitAt (v ||| BitVec.ofNat 32 (2 ^ i)).toNat i = true := by
  have lt : 2 ^ i < 2 ^ 32 := Nat.pow_lt_pow_right (by decide) h
  rw [bitAt_testBit, BitVec.toNat_or, Nat.testBit_or, BitVec.toNat_ofNat, Nat.mod_eq_of_lt lt, Nat.testBit_two_pow_self, Bool.or_true]

theorem PendKept.refl (s : State) : PendKept s s := ⟨fun h => ⟨h, fun _ _ => id⟩⟩

theorem PendKept.trans (h : PendKept s0 s) (g : PendKept s u) : PendKept s0 u := by
  refine ⟨fun x => ?_⟩
  obtain ⟨wf, keep⟩ := h.kept x
  obtain ⟨wf', keep'⟩ := g.kept wf
  exact ⟨wf', fun n hn p => keep' n hn (keep n hn p)⟩

/-- A change beside the registers. -/
theorem PendKept.frame (h : PendKept s0 s) (e : u.regs = s.regs := by rfl) : PendKept s0 u :=
  h.trans ⟨fun x => ⟨by rw [State.regsWf, e]; exact x, fun n _ p => by rw [← p]; exact evtPending_congr n (by rw [State.reg, e]; rfl)⟩⟩

theorem PendKept.setReg (h : PendKept s0 s) {a : Nat} {v : Word} (ha : pendReg a = false) : PendKept s0 (s.setReg a v) := by
  refine h.trans ⟨fun x => ⟨State.regsWf_setReg x a v, fun n hn p => ?_⟩⟩
  have ne : Reg.EVT_PEND (n / 32) ≠ a := fun e => by rw [← e, pendReg_pend hn] at ha; cases ha
  rw [evtPending_congr n (State.reg_setReg_ne x ne v), p]

theorem PendKept.sf (h : PendKept s0 s) {a : Nat} {f : Fld} {v : Nat} (hf : f.hi < 32) (ha : pendReg a = false) : PendKept s0 (s.sf a f v) := by
  rw [State.sf_low _ _ _ _ hf]; exact h.setReg ha

theorem PendKept.bump (h : PendKept s0 s) {a : Nat} {f : Fld} {n : Nat} (hf : f.hi < 32) (ha : pendReg a = false) : PendKept s0 (s.bump a f n) :=
  h.sf hf ha

/-- Setting a bit of a pending word clears none. -/
theorem PendKept.orReg (h : PendKept s0 s) (a m : Nat) : PendKept s0 (s.orReg a m) := by
  refine h.trans ⟨fun x => ⟨State.regsWf_setReg x _ _, fun n _ p => ?_⟩⟩
  by_cases e : Reg.EVT_PEND (n / 32) = a
  · rw [State.evtPending, State.orReg, e, State.reg_setReg_self x]
    refine bitAt_or_left _ _ _ ?_
    rw [← e]; exact p
  · rw [State.orReg, evtPending_congr n (State.reg_setReg_ne x e _), p]

theorem PendKept.ite {a b : State} {c : Prop} [Decidable c] (ha : PendKept s0 a) (hb : PendKept s0 b) : PendKept s0 (if c then a else b) := by
  split
  · exact ha
  · exact hb

theorem wrBytes_regs (s : State) (a : Nat) (l : List Byte) : (s.wrBytes a l).regs = s.regs := by
  induction l generalizing s a with
  | nil => rfl
  | cons b l ih => exact ih _ _

theorem writeRecords_regs (s : State) (first : Bool) (i : Nat) (l : List LogRec) : (s.writeRecords first i l).regs = s.regs := by
  unfold State.writeRecords
  generalize l.zipIdx = m
  induction m generalizing s with
  | nil => rfl
  | cons e m ih => rw [List.foldl_cons, ih, wrBytes_regs]

theorem PendKept.logRecord (h : PendKept s0 s) (src n data stamp : Nat) : PendKept s0 (s.logRecord src n data stamp) := by
  unfold State.logRecord
  refine .ite (h.bump (by decide) (by decide)) ?_
  extract_lets head tail old recs s1 s2
  have h1 : PendKept s0 s1 := .ite (h.bump (by decide) (by decide)) h
  have h2 : PendKept s0 s2 := h1.frame (writeRecords_regs _ _ _ _)
  have h3 : PendKept s0 { s2 with logFirst := false, logCycle := ⟨s.now, old.2, recs⟩ } := h2.frame
  exact h3.setReg (by decide)

theorem sendMsix_regs (s : State) (v n : Nat) : (s.sendMsix v n).regs = s.regs := by
  unfold State.sendMsix
  split <;> rfl

theorem PendKept.accept (h : PendKept s0 s) (src n data stamp : Nat) : PendKept s0 (s.accept src n data stamp) := by
  unfold State.accept
  extract_lets route s1 s2
  have h1 : PendKept s0 s1 := .ite h.frame (h.orReg _ _)
  have h2 : PendKept s0 s2 := .ite (h1.frame (sendMsix_regs _ _ _)) h1
  exact .ite (h2.logRecord _ _ _ _) h2

theorem modTw_regs (s : State) (w : Twin) (f : TwinState → TwinState) : (s.modTw w f).regs = s.regs := by cases w <;> rfl

theorem PendKept.modTw (h : PendKept s0 s) (w : Twin) (f : TwinState → TwinState) : PendKept s0 (s.modTw w f) := h.frame (modTw_regs _ _ _)

theorem PendKept.bankViol (h : PendKept s0 s) (w : Twin) (n : Nat) : PendKept s0 (s.bankViol w n) :=
  (h.bump (by decide) (pendReg_twin w _)).sf (by decide) (pendReg_twin w _)

theorem pushItem_regs (w : Twin) (q by_ : Nat) (soft : Bool) (k : Nat) (item : Item) (s : State) :
    (pushItem w q by_ soft k item s).2.2.regs = s.regs := by
  unfold Machine.pushItem
  extract_lets
  iterate 7
    split
    · rfl
  exact modTw_regs _ _ _

/-- The queue routes of a raise clear no bit of the Thallus. -/
theorem PendKept.routeTwin (fuel : Nat) (w : Twin) (h : PendKept s0 s) (src n data stamp : Nat) :
    PendKept s0 (routeTwin fuel w src n data stamp s) := by
  induction fuel generalizing s src n data stamp with
  | zero => exact h
  | succ fuel ih =>
    have raise : ∀ (en : Bool) (m d : Nat) (x : State), PendKept s0 x →
        PendKept s0 (if (!en || (x.tw w).marked m) = true then x
          else Machine.routeTwin fuel w (w.code + 1) m d stamp
            (if (x.modTw w (·.mark m d)).roleOf w = .active then (x.modTw w (·.mark m d)).accept (w.code + 1) m d stamp
             else x.modTw w (·.mark m d))) :=
      fun en m d x hx => .ite hx (ih (.ite ((hx.modTw _ _).accept _ _ _ _) (hx.modTw _ _)) _ _ _ _)
    have drop : ∀ x, PendKept s0 x → PendKept s0 (x.bump (Reg.EVT_TSTAT w) Fld.EVT_TSTAT_QDROP) :=
      fun x hx => hx.bump (by decide) (pendReg_twin w _)
    have overflow : ∀ (q : Nat) (x : State), PendKept s0 x →
        PendKept s0 ((x.bump (Reg.SORUS_QCNT w q) Fld.SORUS_QCNT_OVERFLOW).bump (Reg.SORUS_CNT w) Fld.SORUS_CNT_OVERFLOW) := by
      intro q x hx
      refine PendKept.bump (hx.bump (by decide) ?_) (by decide) (pendReg_twin w _)
      rw [Reg.SORUS_QCNT, Nat.add_assoc]; exact pendReg_twin w _
    simp only [Machine.routeTwin]
    have h1 : PendKept s0 (s.orReg (Reg.EVT_TPEND w (n / 32)) (2 ^ (n % 32))) := h.orReg _ _
    generalize s.orReg (Reg.EVT_TPEND w (n / 32)) (2 ^ (n % 32)) = y at h1 ⊢
    generalize getFld (y.reg (Reg.EVT_QROUTE w n)) Fld.EVT_QROUTE_QUEUE = q
    have hp := h1.frame (pushItem_regs w q reqEvent false y.tickNo
      { typ := 4, prio := y.qPrio w q, more := false, dl := false, flowed := false, flow := 0, seq := 0, tick := 0, body := y.eventBody src n data stamp } y)
    generalize Machine.pushItem w q reqEvent false y.tickNo _ y = p at hp ⊢
    obtain ⟨r, c, z⟩ := p
    change PendKept s0 z at hp
    refine .ite h1 (.ite (raise _ _ _ _ (drop _ h1)) ?_)
    cases r
    case done => exact hp
    case full => exact raise _ _ _ _ (drop _ (raise _ _ _ _ (overflow _ _ hp)))
    case bank => exact raise _ _ _ _ (drop _ (raise _ _ _ _ (raise _ _ _ _ (overflow _ _ (hp.bankViol _ _)))))
    all_goals exact raise _ _ _ _ (drop _ hp)

theorem PendKept.raiseThAt (h : PendKept s0 s) (n data stamp : Nat) : PendKept s0 (s.raiseThAt n data stamp) :=
  .routeTwin _ _ (.routeTwin _ _ (h.accept _ _ _ _) _ _ _ _) _ _ _ _

theorem PendKept.raiseTh (h : PendKept s0 s) (n data : Nat) : PendKept s0 (s.raiseTh n data) := h.raiseThAt _ _ _

/-- The Thallus side of a raise sets the bit of its event while the main domain is on. -/
theorem evtPending_accept (h : s.regsWf = true) (on : s.mainOff = false) {n : Nat} (hn : n < 256) (src data stamp : Nat) :
    (s.accept src n data stamp).evtPending n = true := by
  have set : (s.orReg (Reg.EVT_PEND (n / 32)) (2 ^ (n % 32))).evtPending n = true := by
    rw [State.evtPending, State.orReg, State.reg_setReg_self h]
    exact bitAt_or_two_pow _ (Nat.mod_lt _ (by decide))
  have h0 : PendKept (s.orReg (Reg.EVT_PEND (n / 32)) (2 ^ (n % 32))) (s.accept src n data stamp) := by
    unfold State.accept
    extract_lets route s1 s2
    have e1 : s1 = s.orReg (Reg.EVT_PEND (n / 32)) (2 ^ (n % 32)) := if_neg (by rw [on]; decide)
    rw [← e1]
    have h2 : PendKept s1 s2 := .ite ((PendKept.refl _).frame (sendMsix_regs _ _ _)) (.refl _)
    exact .ite (h2.logRecord _ _ _ _) h2
  obtain ⟨-, keep⟩ := h0.kept (State.regsWf_setReg h _ _)
  exact keep n hn set

/-- An event that the Thallus raises is pending (R514). -/
theorem evtPending_raiseTh (h : s.regsWf = true) (on : s.mainOff = false) {n : Nat} (data : Nat) (hn : n < 256 := by decide) :
    (s.raiseTh n data).evtPending n = true := by
  unfold State.raiseTh State.raiseThAt
  extract_lets on3
  have wf := (((PendKept.refl s).accept 0 n data (if on3 then s.stamp3 else s.stamp)).kept h).1
  have routed := PendKept.routeTwin 4 .b (.routeTwin 4 .a (.refl (s.accept 0 n data (if on3 then s.stamp3 else s.stamp))) 0 n data
    (if on3 then s.stamp3 else s.stamp)) 0 n data (if on3 then s.stamp3 else s.stamp)
  exact (routed.kept wf).2 n hn (evtPending_accept h on hn _ _ _)

end Sys2Proof.Machine
end

section
/-!
Output control (R42, R43, R280, R281): HOLD packets at once on each port that the keepalive generator drives.
-/
namespace Sys2Proof.Machine

set_option Elab.async false

variable {s u : State}

/-! ### The keepalive generator -/

/-- The generator has sent a port a HOLD with the present SAFE flag. -/
def State.served (s : State) (p : Nat) : Bool := s.dev.gen.any (fun e => decide (e.1 = p) && decide (e.2.2 = s.safeOn))

/-- An output that is a HOLD packet of the generator, on a port of `l`. -/
def isGenHold (safe : Bool) (l : List Nat) (o : Out) : Prop := ∃ p at_ plus, o = .strand p at_ plus (withCrc (holdPkt safe true)) ∧ p ∈ l

theorem genHold_out (p : Nat) (s : State) : ∃ at_ plus, (genHold p s).out = s.out ++ [.strand p at_ plus (withCrc (holdPkt s.safeOn true))] :=
  ⟨_, _, rfl⟩

theorem genHold_safeOn (p : Nat) (s : State) : (genHold p s).safeOn = s.safeOn := rfl

theorem genHold_served_self (p : Nat) (s : State) : (genHold p s).served p = true := by
  rw [State.served, genHold_safeOn]
  change (s.dev.gen.filter _ ++ [(p, s.now, s.safeOn)]).any _ = true
  simp

/-- A HOLD on one port leaves the others served. -/
theorem genHold_served {p q : Nat} (h : s.served q = true) : (genHold p s).served q = true := by
  by_cases e : q = p
  · rw [e]; exact genHold_served_self p s
  · rw [State.served, List.any_eq_true] at h
    obtain ⟨x, mem, hx⟩ := h
    rw [State.served, genHold_safeOn]
    change (s.dev.gen.filter _ ++ [(p, s.now, s.safeOn)]).any _ = true
    have port : x.1 = q := of_decide_eq_true (Bool.and_eq_true_iff.1 hx).1
    refine List.any_eq_true.2 ⟨x, List.mem_append_left _ (List.mem_filter.2 ⟨mem, decide_eq_true ?_⟩), hx⟩
    rw [port]; exact e

theorem foldl_genHold_out (l : List Nat) (s : State) :
    ∀ o ∈ (l.foldl (fun x p => genHold p x) s).out, o ∈ s.out ∨ isGenHold s.safeOn l o := by
  induction l generalizing s with
  | nil => exact fun o ho => .inl ho
  | cons p l ih =>
    intro o ho
    obtain ⟨at_, plus, out⟩ := genHold_out p s
    rcases ih (genHold p s) o ho with old | ⟨q, a, d, e, hq⟩
    · rw [out, List.mem_append, List.mem_singleton] at old
      exact old.imp_right fun e => ⟨p, at_, plus, e, List.mem_cons_self⟩
    · exact .inr ⟨q, a, d, e, List.mem_cons_of_mem _ hq⟩

theorem foldl_genHold_served (l : List Nat) (s : State) (q : Nat) (h : q ∈ l ∨ s.served q = true) :
    (l.foldl (fun x p => genHold p x) s).served q = true := by
  induction l generalizing s with
  | nil => exact h.resolve_left (List.not_mem_nil)
  | cons p l ih =>
    refine ih _ ?_
    rcases h with mem | served
    · rcases List.mem_cons.1 mem with rfl | mem
      · exact .inr (genHold_served_self _ _)
      · exact .inl mem
    · exact .inr (genHold_served served)

/-- What the generator holds of the lines does not say which ports it drives. -/
theorem withLine_keepalivePorts (s u : State) : (s.withLine u).keepalivePorts = s.keepalivePorts := rfl

theorem withLine_safeOn (s u : State) : (s.withLine u).safeOn = s.safeOn := rfl
theorem withLine_holdOn (s u : State) : (s.withLine u).holdOn = s.holdOn := rfl
theorem withLine_fullDue (s u : State) : (s.withLine u).fullDue = s.fullDue := rfl

theorem syncGen_keepalivePorts (s : State) : (syncGen s).keepalivePorts = s.keepalivePorts := by
  rw [syncGen_eq_withLine, withLine_keepalivePorts]
theorem syncGen_safeOn (s : State) : (syncGen s).safeOn = s.safeOn := by rw [syncGen_eq_withLine, withLine_safeOn]
theorem syncGen_holdOn (s : State) : (syncGen s).holdOn = s.holdOn := by rw [syncGen_eq_withLine, withLine_holdOn]
theorem syncGen_fullDue (s : State) : (syncGen s).fullDue = s.fullDue := by rw [syncGen_eq_withLine, withLine_fullDue]

/-- The generator forgets the ports that it no longer drives, and the traffic that has passed. -/
def State.pruned (s : State) : State :=
  { s with dev := { s.dev with gen := s.dev.gen.filter (fun e => s.keepalivePorts.contains e.1),
                               traffic := s.dev.traffic.filter (fun e => decide (s.now < e.2.2)) } }

theorem syncGen_eq (s : State) :
    syncGen s = (s.keepalivePorts.filter (fun p => !s.pruned.served p)).foldl (fun x p => genHold p x) s.pruned := rfl

/-- From nothing sent, the generator sends exactly what the state calls for (R281). -/
theorem syncGen_holdsSent (h : s.out = []) : (syncGen s).holdsSent := by
  rw [State.holdsSent, syncGen_keepalivePorts, syncGen_safeOn]
  constructor
  · intro o ho
    rw [syncGen_eq] at ho
    rcases foldl_genHold_out _ s.pruned o ho with old | ⟨p, at_, plus, e, hp⟩
    · have none : s.pruned.out = [] := h
      rw [none] at old; cases old
    · exact ⟨p, at_, plus, e, (List.mem_filter.1 hp).1⟩
  · intro p hp
    have served : (syncGen s).served p = true := by
      rw [syncGen_eq]
      refine foldl_genHold_served _ _ _ ?_
      cases e : s.pruned.served p with
      | true => exact .inr rfl
      | false => exact .inl (List.mem_filter.2 ⟨hp, by rw [e]; rfl⟩)
    rw [State.served, syncGen_safeOn] at served
    exact served

/-! ### A write of OUT_CTL -/

/-- What follows a change of HOLD or SAFE: a full frame where the ports come back to the twins. -/
def State.givenBack (old new : State) : State := if old.portHeld && !new.portHeld then new.forceFullAll else new

theorem leaveHold_eq (old new : State) : leaveHold old new = syncGen (old.givenBack new) := rfl

theorem givenBack_eq (old new : State) : old.givenBack new = { new with fullDue := (old.givenBack new).fullDue } := by
  unfold State.givenBack
  split <;> rfl

theorem givenBack_fullDue (old new : State) :
    (old.givenBack new).fullDue = if old.portHeld && !new.portHeld then BitVec.allOnes 128 else new.fullDue := by
  unfold State.givenBack
  split <;> rfl

theorem portHeld_eq (s : State) : s.portHeld = (s.holdOn || s.safeOn) := Bool.or_comm _ _

theorem givenBack_holdOn (old new : State) : (old.givenBack new).holdOn = new.holdOn := by rw [givenBack_eq]; rfl
theorem givenBack_safeOn (old new : State) : (old.givenBack new).safeOn = new.safeOn := by rw [givenBack_eq]; rfl
theorem givenBack_reg (old new : State) (a : Nat) : (old.givenBack new).reg a = new.reg a := by rw [givenBack_eq]; rfl

/-- What a write of OUT_CTL changes (R42, R43, R280, R281): `new` holds the word written. -/
structure OutCtl (s new u : State) : Prop where
  line : u = { new with fullDue := u.fullDue }.withLine u
  reg : ∀ a, u.reg a = new.reg a
  sent : s.out = [] → u.holdsSent
  fullDue : u.fullDue = if (s.holdOn || s.safeOn) && !(u.holdOn || u.safeOn) then BitVec.allOnes 128 else s.fullDue

/-- OUT_CTL with two bits written. -/
def State.outWord (s : State) (hold safe : Bool) : State := (s.sb Reg.OUT_CTL Fld.OUT_CTL_HOLD hold).sb Reg.OUT_CTL Fld.OUT_CTL_SAFE safe

theorem outWord_eq (s : State) (hold safe : Bool) : s.outWord hold safe = { s with regs := (s.outWord hold safe).regs } := by
  unfold State.outWord State.sb
  rw [State.sf_eq, State.sf_eq]

theorem outCtl_changes (hold safe : Bool) (s : State) : OutCtl s (s.outWord hold safe) (outCtl hold safe s) := by
  have e : outCtl hold safe s = syncGen (s.givenBack (s.outWord hold safe)) := rfl
  have due := givenBack_fullDue s (s.outWord hold safe)
  rw [e]
  refine ⟨?_, fun a => ?_, fun h => syncGen_holdsSent ?_, ?_⟩
  · rw [syncGen_fullDue, ← givenBack_eq]; exact syncGen_eq_withLine _
  · rw [syncGen_reg, givenBack_reg]
  · rw [givenBack_eq, outWord_eq]; exact h
  · rw [syncGen_fullDue, syncGen_holdOn, syncGen_safeOn, givenBack_holdOn, givenBack_safeOn, due, portHeld_eq, portHeld_eq, outWord_eq]

/-- Writing HOLD with SAFE as it is, or SAFE with HOLD as it is, writes one field. -/
theorem outWord_hold_reg (h : s.regsWf = true) (on : Bool) (a : Nat) :
    (s.outWord on (s.rb Reg.OUT_CTL Fld.OUT_CTL_SAFE)).reg a = (s.sb Reg.OUT_CTL Fld.OUT_CTL_HOLD on).reg a := by
  have safe : (s.sb Reg.OUT_CTL Fld.OUT_CTL_HOLD on).rb Reg.OUT_CTL Fld.OUT_CTL_SAFE = s.rb Reg.OUT_CTL Fld.OUT_CTL_SAFE := by
    rw [State.rb, State.sb, State.rf_sf_other h _ _ _ _ (by decide) (by decide) (by decide) (by decide) (by decide)]; rfl
  rw [State.outWord, ← safe]
  exact reg_sb_rb (State.regsWf_sf h _ _ _) _ _ rfl (by decide) a

theorem outWord_safe_reg (h : s.regsWf = true) (on : Bool) (a : Nat) :
    (s.outWord (s.rb Reg.OUT_CTL Fld.OUT_CTL_HOLD) on).reg a = (s.sb Reg.OUT_CTL Fld.OUT_CTL_SAFE on).reg a := by
  have wf : (s.sb Reg.OUT_CTL Fld.OUT_CTL_HOLD (s.rb Reg.OUT_CTL Fld.OUT_CTL_HOLD)).regsWf = true := State.regsWf_sf h _ _ _
  have same := reg_sb_rb h Reg.OUT_CTL Fld.OUT_CTL_HOLD rfl (by decide)
  rw [State.outWord]
  by_cases e : a = Reg.OUT_CTL
  · subst e
    exact (reg_sf_withFld wf _ _ _ (by decide)).trans (by rw [same, State.sb, reg_sf_withFld h _ _ _ (by decide)])
  · exact (State.reg_sf_ne wf _ _ (by decide) e).trans ((same a).trans (State.reg_sf_ne h _ _ (by decide) e).symm)

/-- A write of OUT_CTL that comes to one field `f` of it. -/
theorem OutCtl.field (h : s.regsWf = true) {hold safe on : Bool} {f : Fld} (hf : f.hi < 32) (c : OutCtl s (s.outWord hold safe) u)
    (e : ∀ a, (s.outWord hold safe).reg a = (s.sb Reg.OUT_CTL f on).reg a) :
    u.reg Reg.OUT_CTL = withFld (s.reg Reg.OUT_CTL) f (if on then 1 else 0) ∧
      onlyRegs [Reg.OUT_CTL] ({ s with fullDue := u.fullDue }.withLine u) u := by
  refine ⟨?_, ?_, fun a ha => ?_⟩
  · rw [c.reg, e, State.sb, reg_sf_withFld h _ _ _ hf]
  · conv_lhs => rw [c.line, outWord_eq]
    have regs : u.regs = (s.outWord hold safe).regs := by rw [c.line]; rfl
    have clock : u.clock = s.clock := by rw [c.line, outWord_eq]; rfl
    rw [regs, clock]
    rfl
  · rw [c.reg, e, withLine_reg]
    exact State.reg_sf_ne h _ _ hf (by simpa using ha)

theorem exec_outHold (t : Nat) (src : Requester) (on : Bool) (h : s.thAllows src = true) :
    exec (.outHold t src on) s = .next (outCtl on ((s.beginAt t).rb Reg.OUT_CTL Fld.OUT_CTL_SAFE) (s.beginAt t)) :=
  congrArg _ (thWrite_beginAt t src _ h)

theorem exec_outSafe (t : Nat) (src : Requester) (on : Bool) (h : s.thAllows src = true) :
    exec (.outSafe t src on) s = .next (outCtl ((s.beginAt t).rb Reg.OUT_CTL Fld.OUT_CTL_HOLD) on (s.beginAt t)) :=
  congrArg _ (thWrite_beginAt t src _ h)

/-- Settles O9: each write changes one field of OUT_CTL, and the generator follows. -/
theorem outputControlSetsHoldAndSafe : Obligations.OutputControlSetsHoldAndSafe := by
  unfold Obligations.OutputControlSetsHoldAndSafe
  intro s t src on tidy allows
  obtain ⟨regs, -⟩ := tidy_iff.1 tidy
  have regs' : (s.beginAt t).regsWf = true := regs
  refine ⟨⟨_, exec_outHold t src on allows, ?_⟩, ⟨_, exec_outSafe t src on allows, ?_⟩⟩
  · have c := outCtl_changes on ((s.beginAt t).rb Reg.OUT_CTL Fld.OUT_CTL_SAFE) (s.beginAt t)
    obtain ⟨reg, only⟩ := c.field regs' (by decide) (outWord_hold_reg regs' on)
    exact ⟨reg, only, c.sent rfl, c.fullDue⟩
  · have c := outCtl_changes ((s.beginAt t).rb Reg.OUT_CTL Fld.OUT_CTL_HOLD) on (s.beginAt t)
    obtain ⟨reg, only⟩ := c.field regs' (by decide) (outWord_safe_reg regs' on)
    exact ⟨reg, only, c.sent rfl, c.fullDue⟩

end Sys2Proof.Machine
end

section
/-!
The host watchdog (R45).
-/
namespace Sys2Proof.Machine

set_option Elab.async false

variable {s u : State}

/-! ### Writes of WDOG_CTL and WDOG_KICK -/

/-- The row of WDOG_CTL: its three fields are RW and lie side by side. -/
theorem rowAt_wdogCtl : rowAt Reg.WDOG_CTL =
    some (⟨"WDOG_CTL", .thallus, 0x18, [], false, .dev, [⟨31, 18, .rsvd, []⟩, ⟨17, 16, .rw, []⟩, ⟨15, 1, .rw, [0x3E8]⟩, ⟨0, 0, .rw, []⟩]⟩, 0, 0) := by
  decide +kernel

/-- Three neighbouring fields taken from a word are one field of it. -/
theorem putFld_three (old new : Word) :
    putFld (putFld (putFld old.toNat ⟨17, 16⟩ (getFld new ⟨17, 16⟩)) ⟨15, 1⟩ (getFld new ⟨15, 1⟩)) ⟨0, 0⟩ (getFld new ⟨0, 0⟩) =
      putFld old.toNat ⟨17, 0⟩ new.toNat := by
  apply Nat.eq_of_testBit_eq
  intro i
  rw [putFld_testBit _ _ _ _ (by decide), putFld_testBit _ _ _ _ (by decide), putFld_testBit _ _ _ _ (by decide),
    putFld_testBit _ _ _ _ (by decide)]
  simp only [getFld_testBit]
  by_cases h0 : i = 0
  · subst h0; simp
  by_cases h1 : i ≤ 15
  · simp [h0, h1, show 1 ≤ i by omega, show i - 1 < 15 by omega, show 1 + (i - 1) = i by omega, show i ≤ 17 by omega]
  by_cases h2 : i ≤ 17
  · simp [h0, h1, h2, show 16 ≤ i by omega, show i - 16 < 2 by omega, show 16 + (i - 16) = i by omega]
  · simp [h0, h1, h2]

theorem plainWrite_wdogCtl (h : s.regsWf = true) (v : Word) :
    (s.plainWrite Reg.WDOG_CTL v).reg Reg.WDOG_CTL = withFld (s.reg Reg.WDOG_CTL) ⟨17, 0⟩ v.toNat ∧
      onlyRegs [Reg.WDOG_CTL] s (s.plainWrite Reg.WDOG_CTL v) := by
  unfold State.plainWrite
  rw [rowAt_wdogCtl]
  refine ⟨?_, rfl, fun a ha => State.reg_setReg_ne h (by simpa using ha) _⟩
  refine (State.reg_setReg_self h _ _).trans ?_
  rw [withFld, ← putFld_three]
  simp [RegRow.writeWord, RegRow.w1cBits, FieldRow.inWord, show v &&& 4294967295#32 = v from BitVec.and_allOnes]

/-- The count of the watchdog becomes `o`. -/
def State.withWdog (s : State) (o : Option Nat) : State := { s with dev := { s.dev with wdogAt := o } }

theorem withWdog_self (s : State) : s.withWdog s.dev.wdogAt = s := rfl

theorem onlyRegs.withWdog {l : List Nat} (h : onlyRegs l s u) (o : Option Nat) : onlyRegs l (s.withWdog o) (u.withWdog o) := by
  refine ⟨?_, h.regs⟩
  have rest := h.rest
  conv_lhs => rw [rest]
  rfl

/-- The count after a write of WDOG_CTL (R45): stopped, running on, or loaded. -/
def State.wdogAfter (s : State) (v : Word) : Option Nat :=
  if getFld v Fld.WDOG_CTL_EN = 0 then none
  else if s.rb Reg.WDOG_CTL Fld.WDOG_CTL_EN then s.dev.wdogAt
  else some (s.now + max 1 (getFld v Fld.WDOG_CTL_TIMEOUT) * 1000000)

theorem wdogCtl_eq (h : s.regsWf = true) (v : Word) : wdogCtl v s = (s.plainWrite Reg.WDOG_CTL v).withWdog (s.wdogAfter v) := by
  have rest := (plainWrite_wdogCtl h v).2.rest
  have dev : (s.plainWrite Reg.WDOG_CTL v).dev = s.dev := by rw [rest]
  have now : (s.plainWrite Reg.WDOG_CTL v).now = s.now := by rw [rest]
  unfold wdogCtl loadWdog State.wdogAfter
  extract_lets was s1
  split
  · rfl
  · split
    · rw [← dev, withWdog_self]
    · rw [← now]; rfl

theorem exec_wdogCtlWrite (t : Nat) (src : Requester) (v : Word) (h : s.thAllows src = true) :
    exec (.wdogCtlWrite t src v) s = .next (wdogCtl v (s.beginAt t)) :=
  congrArg _ (thWrite_beginAt t src _ h)

theorem exec_wdogKick (t : Nat) (src : Requester) (v : Word) (h : s.thAllows src = true) :
    exec (.wdogKick t src v) s = .next (kickWdog v (s.beginAt t)) :=
  congrArg _ (thWrite_beginAt t src _ h)

theorem kickWdog_wrong_key {v : Word} (h : v ≠ 0xA5) (s : State) : kickWdog v s = s.keyErr := if_pos h

/-- The right key reloads a count that runs. -/
theorem kickWdog_key (s : State) :
    kickWdog 0xA5 s = s.withWdog (s.dev.wdogAt.map (fun _ => s.now + max 1 (s.rf Reg.WDOG_CTL Fld.WDOG_CTL_TIMEOUT) * 1000000)) := by
  rw [kickWdog, if_neg (by decide)]
  cases h : s.dev.wdogAt with
  | none => exact (withWdog_self s).symm.trans (by rw [h]; rfl)
  | some x => rfl

/-! ### The count reaches zero -/

theorem State.exists_sf (s : State) (a : Nat) (f : Fld) (v : Nat) : ∃ r, s.sf a f v = { s with regs := r } := ⟨_, State.sf_eq s a f v⟩

theorem sf_withWdog (s : State) (o : Option Nat) (a : Nat) (f : Fld) (v : Nat) : (s.withWdog o).sf a f v = (s.sf a f v).withWdog o := by
  unfold State.sf
  simp only []
  split <;> rfl

/-- A field that no event changes may be written before the event or after it. -/
theorem eventsOnly.sf (h : eventsOnly s u) (hs : s.regsWf = true) (hu : u.regsWf = true) {a : Nat} {f : Fld} (v : Nat) (hf : f.hi < 32)
    (ha : evtReg a = false) : eventsOnly (s.sf a f v) (u.sf a f v) := by
  obtain ⟨r, er⟩ := s.exists_sf a f v
  obtain ⟨q, eq⟩ := u.exists_sf a f v
  refine ⟨?_, fun b hb => ?_, fun b hb => ?_⟩
  · rw [er, eq, h.rest]; rfl
  · by_cases e : b = a
    · subst e
      rw [reg_sf_withFld hu _ _ _ hf, reg_sf_withFld hs _ _ _ hf, h.regs _ hb]
    · rw [State.reg_sf_ne hu _ _ hf e, State.reg_sf_ne hs _ _ hf e, h.regs _ hb]
  · rw [er, eq]; exact h.bytes b hb

theorem eventsOnly.withWdog (h : eventsOnly s u) (o : Option Nat) : eventsOnly (s.withWdog o) (u.withWdog o) :=
  ⟨by rw [h.rest]; rfl, h.regs, h.bytes⟩

/-- The watchdog's event has been raised. -/
def State.wdogRaised (s : State) (x : Nat) : State := (s.beginAt x).raiseTh 25 0

/-- Then EN is cleared and the count has stopped. -/
def State.wdogFired (s : State) (x : Nat) : State := ((s.wdogRaised x).sb Reg.WDOG_CTL Fld.WDOG_CTL_EN false).withWdog none

/-- The same without the event. -/
def State.wdogDone (s : State) (x : Nat) : State := ((s.beginAt x).withWdog none).sb Reg.WDOG_CTL Fld.WDOG_CTL_EN false

/-- What the part does with an action of the watchdog. -/
def wdogAction (action : Nat) (s : State) : State :=
  match action with
  | 1 => outCtl true (s.rb Reg.OUT_CTL Fld.OUT_CTL_SAFE) s
  | 2 => outCtl (s.rb Reg.OUT_CTL Fld.OUT_CTL_HOLD) true s
  | 3 => resetAndRelease s
  | _ => s

theorem wdogRaised_evt (s : State) (x : Nat) : Evt (s.beginAt x) (s.wdogRaised x) := (Evt.refl _).raiseTh _ _ (by decide)

theorem wdogRaised_regsWf (h : s.regsWf = true) (x : Nat) : (s.wdogRaised x).regsWf = true := ((wdogRaised_evt s x).regs h).1

theorem exec_wdogExpired {x : Nat} (h : s.regsWf = true) (run : s.dev.wdogAt = some x) :
    exec .wdogExpired s = .next (wdogAction (s.rf Reg.WDOG_CTL Fld.WDOG_CTL_ACTION) (s.wdogFired x)) := by
  have keep : (s.wdogRaised x).reg Reg.WDOG_CTL = s.reg Reg.WDOG_CTL := ((wdogRaised_evt s x).regs h).2 _ (by decide)
  have action : s.rf Reg.WDOG_CTL Fld.WDOG_CTL_ACTION = (s.wdogRaised x).rf Reg.WDOG_CTL Fld.WDOG_CTL_ACTION := by
    rw [rf_eq_getFld _ _ _ (by decide), rf_eq_getFld _ _ _ (by decide), keep]
  have run' : s.begin.dev.wdogAt = some x := run
  rw [action]
  change execWdogExpired s = _
  unfold execWdogExpired wdogAction
  extract_lets s0
  rw [run']
  change (match (s.wdogRaised x).rf Reg.WDOG_CTL Fld.WDOG_CTL_ACTION with
    | 1 => _ | 2 => _ | 3 => _ | _ => _) = _
  split <;> rfl

/-- But for what the event leaves, the watchdog has stopped. -/
theorem wdogFired_eventsOnly (h : s.tidy = true) (x : Nat) : eventsOnly (s.wdogDone x) (s.wdogFired x) := by
  obtain ⟨regs, mem⟩ := tidy_iff.1 h
  have raised : eventsOnly (s.beginAt x) (s.wdogRaised x) := (wdogRaised_evt s x).only regs mem
  rw [State.wdogDone, State.sb, sf_withWdog]
  exact (raised.sf regs (wdogRaised_regsWf regs x) _ (by decide) (by decide)).withWdog none

theorem wdogFired_regsWf (h : s.regsWf = true) (x : Nat) : (s.wdogFired x).regsWf = true :=
  State.regsWf_sf (wdogRaised_regsWf h x) _ _ _

theorem wdogDone_regsWf (h : s.regsWf = true) (x : Nat) : (s.wdogDone x).regsWf = true :=
  State.regsWf_sf (s := (s.beginAt x).withWdog none) h _ _ _

theorem wdogFired_evtPending (h : s.regsWf = true) (on : s.mainOff = false) (x : Nat) : (s.wdogFired x).evtPending 25 = true := by
  have raised : (s.wdogRaised x).evtPending 25 = true := evtPending_raiseTh (s := s.beginAt x) h on 0
  rw [← raised]
  exact evtPending_congr 25 (State.reg_sf_ne (wdogRaised_regsWf h x) _ _ (by decide) (by decide))

theorem wdogFired_now (s : State) (x : Nat) : (s.wdogFired x).now = max s.now x := by
  have now : (s.wdogFired x).now = (s.wdogRaised x).now := State.sf_now _ _ _ _
  rw [now, (wdogRaised_evt s x).rest]; rfl

theorem wdogFired_testEn (s : State) (x : Nat) : (s.wdogFired x).dev.testEn = s.dev.testEn := by
  have dev : ((s.wdogRaised x).sb Reg.WDOG_CTL Fld.WDOG_CTL_EN false).dev = (s.wdogRaised x).dev := State.sf_dev _ _ _ _
  change ((s.wdogRaised x).sb Reg.WDOG_CTL Fld.WDOG_CTL_EN false).dev.testEn = _
  rw [dev, (wdogRaised_evt s x).rest]; rfl

/-- With HOLD or SAFE written as 1, OUT_CTL holds the ports. -/
theorem held_of_outBit {f : Fld} (hf : f = Fld.OUT_CTL_HOLD ∨ f = Fld.OUT_CTL_SAFE) (h : u.rb Reg.OUT_CTL f = true) : (u.holdOn || u.safeOn) = true := by
  rcases hf with rfl | rfl
  · cases safe : u.safeOn <;> simp [State.holdOn, safe, h]
  · simp [State.safeOn, h]

/-- A write of OUT_CTL that sets one bit and holds the ports, after an event: beside the event, that bit and the strand lines change. -/
theorem eventsOnly.outCtl {e0 : State} {hold safe : Bool} {f : Fld} (h : eventsOnly e0 s) (he : e0.regsWf = true) (hs : s.regsWf = true)
    (hf : f.hi < 32) (c : OutCtl s (s.outWord hold safe) u) (e : ∀ a, (s.outWord hold safe).reg a = (s.sb Reg.OUT_CTL f true).reg a)
    (due : u.fullDue = s.fullDue) : eventsOnly ((e0.sb Reg.OUT_CTL f true).withLine u) u := by
  have set := h.sf he hs 1 hf (show evtReg Reg.OUT_CTL = false by decide)
  obtain ⟨r, er⟩ := e0.exists_sf Reg.OUT_CTL f 1
  have line := c.line
  rw [due, outWord_eq] at line
  refine ⟨?_, fun a ha => ?_, fun a ha => ?_⟩
  · rw [State.sb, if_pos rfl, er]
    generalize (s.outWord hold safe).regs = q at line
    have rest := h.rest
    rw [line, rest]
    rfl
  · rw [c.reg, e]; exact set.regs a ha
  · have same : u.rdB a = s.rdB a := by rw [line]; rfl
    have keep : ((e0.sb Reg.OUT_CTL f true).withLine u).rdB a = e0.rdB a := by rw [State.sb, if_pos rfl, er]; rfl
    rw [same, keep]; exact h.bytes a ha

/-- The actions that set a bit of OUT_CTL. -/
theorem wdogFired_outCtl {x : Nat} {hold safe : Bool} {f : Fld} (hf : f = Fld.OUT_CTL_HOLD ∨ f = Fld.OUT_CTL_SAFE) (h : s.tidy = true)
    (on : s.mainOff = false) (c : OutCtl (s.wdogFired x) ((s.wdogFired x).outWord hold safe) u)
    (e : ∀ a, ((s.wdogFired x).outWord hold safe).reg a = ((s.wdogFired x).sb Reg.OUT_CTL f true).reg a) :
    eventsOnly (((s.wdogDone x).sb Reg.OUT_CTL f true).withLine u) u ∧ u.evtPending 25 = true := by
  obtain ⟨regs, -⟩ := tidy_iff.1 h
  have wf := wdogFired_regsWf regs x
  have ⟨low, ordered, one⟩ : f.hi < 32 ∧ f.lo ≤ f.hi ∧ f.hi - f.lo + 1 = 1 := by rcases hf with rfl | rfl <;> decide
  have reg : ∀ a, u.reg a = ((s.wdogFired x).sb Reg.OUT_CTL f true).reg a := fun a => (c.reg a).trans (e a)
  have set : u.rb Reg.OUT_CTL f = true := by
    rw [rb_congr _ _ low (reg _), State.rb, State.sb, State.rf_sf_self wf _ _ _ ordered low, one]; rfl
  have due : u.fullDue = (s.wdogFired x).fullDue := by rw [c.fullDue, held_of_outBit hf set, Bool.not_true, Bool.and_false, if_neg (by decide)]
  refine ⟨(wdogFired_eventsOnly h x).outCtl (wdogDone_regsWf regs x) wf low c e due, ?_⟩
  rw [← wdogFired_evtPending regs on x]
  exact evtPending_congr 25 ((reg _).trans (State.reg_sf_ne wf _ _ low (by decide)))

/-- Settles O10, by the word of WDOG_CTL, the key of WDOG_KICK, and the four actions. -/
theorem hostWatchdogCounts : Obligations.HostWatchdogCounts := by
  unfold Obligations.HostWatchdogCounts
  intro s tidy
  obtain ⟨regs, -⟩ := tidy_iff.1 tidy
  refine ⟨fun t src v allows => ⟨?_, fun wrong => ?_, ?_⟩, fun x run on => ⟨_, exec_wdogExpired regs run, ?_, ?_, ?_, ?_⟩⟩
  · have regs' : (s.beginAt t).regsWf = true := regs
    obtain ⟨word, only⟩ := plainWrite_wdogCtl regs' v
    refine ⟨_, exec_wdogCtlWrite t src v allows, ?_⟩
    rw [wdogCtl_eq regs' v]
    exact ⟨word, only.withWdog _⟩
  · have regs' : (s.beginAt t).regsWf = true := regs
    refine ⟨_, exec_wdogKick t src v allows, ?_⟩
    rw [kickWdog_wrong_key wrong]
    exact keyErr_counts regs'
  · rintro rfl
    exact ⟨_, exec_wdogKick t src _ allows, kickWdog_key _⟩
  · intro action
    rw [action]
    exact ⟨wdogFired_eventsOnly tidy x, wdogFired_evtPending regs on x⟩
  · intro action
    rw [action]
    exact wdogFired_outCtl (.inl rfl) tidy on (outCtl_changes _ _ _) (outWord_hold_reg (wdogFired_regsWf regs x) true)
  · intro action
    rw [action]
    exact wdogFired_outCtl (.inr rfl) tidy on (outCtl_changes _ _ _) (outWord_safe_reg (wdogFired_regsWf regs x) true)
  · intro action
    rw [action]
    have r := resetAndRelease_resetByRegister (s.wdogFired x)
    have en := wdogFired_testEn s x
    refine ⟨r.role, r.inReset.trans en, r.wdogAt, fun h => ?_⟩
    rw [← wdogFired_now s x]
    exact r.releasedAt (en.trans h)

end Sys2Proof.Machine
end

section
/-!
The apertures (R21 to R28, R33): where an access leads, what a read returns, and what a write stores.
-/
namespace Sys2Proof.Machine

set_option Elab.async false

variable {s u : State}

/-! ### Bytes -/

theorem wrBytes_eq (s : State) (a : Nat) (l : List Byte) : s.wrBytes a l = { s with mem := (s.wrBytes a l).mem } := by
  induction l generalizing s a with
  | nil => rfl
  | cons b l ih => rw [State.wrBytes, ih]; rfl

theorem memWf_wrBytes (h : Memory.wf s.mem = true) (a : Nat) (l : List Byte) : Memory.wf (s.wrBytes a l).mem = true := by
  induction l generalizing s a with
  | nil => exact h
  | cons b l ih => exact ih (State.memWf_wrB h a b) _

/-- What the bytes of a number written at an address leave at each address. -/
theorem rdB_wrBytes_leBytes (h : Memory.wf s.mem = true) (a n v x : Nat) :
    (s.wrBytes a (leBytes n v)).rdB x = if a ≤ x ∧ x < a + n then BitVec.ofNat 8 (v / 256 ^ (x - a)) else s.rdB x := by
  induction n generalizing s a v with
  | zero => rw [if_neg (by omega)]; rfl
  | succ n ih =>
    rw [leBytes, State.wrBytes, ih (State.memWf_wrB h _ _)]
    by_cases e : x = a
    · subst e
      rw [if_neg (by omega), if_pos (by omega), State.rdB_wrB_self h, Nat.sub_self, Nat.pow_zero, Nat.div_one]
    · rw [State.rdB_wrB_ne h e]
      by_cases i : a + 1 ≤ x ∧ x < a + 1 + n
      · have pow : 256 * 256 ^ (x - (a + 1)) = 256 ^ (x - a) := by
          rw [← Nat.pow_succ', show (x - (a + 1)).succ = x - a by omega]
        rw [if_pos i, if_pos (by omega), Nat.div_div_eq_div_mul, pow]
      · rw [if_neg i, if_neg (by omega)]

theorem putWord_eq (s : State) (a : Nat) (v : Word) : s.putWord a v = { s with mem := (s.putWord a v).mem } := wrBytes_eq _ _ _

theorem memWf_putWord (h : Memory.wf s.mem = true) (a : Nat) (v : Word) : Memory.wf (s.putWord a v).mem = true := memWf_wrBytes h _ _

theorem rdB_putWord (h : Memory.wf s.mem = true) (a : Nat) (v : Word) (x : Nat) :
    (s.putWord a v).rdB x = if a ≤ x ∧ x < a + 4 then BitVec.ofNat 8 (v.toNat / 256 ^ (x - a)) else s.rdB x := rdB_wrBytes_leBytes h _ _ _ _

theorem rdB_putWord_out (h : Memory.wf s.mem = true) {a : Nat} (v : Word) {x : Nat} (hx : x < a ∨ a + 4 ≤ x) : (s.putWord a v).rdB x = s.rdB x := by
  rw [rdB_putWord h, if_neg (by omega)]

theorem rdB_putWord_in (h : Memory.wf s.mem = true) (a : Nat) (v : Word) {i : Nat} (hi : i < 4) :
    (s.putWord a v).rdB (a + i) = BitVec.ofNat 8 (v.toNat / 256 ^ i) := by
  rw [rdB_putWord h, if_pos (by omega), Nat.add_sub_cancel_left]

/-! ### The mirror aperture -/

/-- The host's requests complete: no reset, and the main domain on. -/
theorem answersTo_i2c (h : s.dev.inReset = false) (on : s.mainOff = false) : s.answersTo .i2c = true := by
  simp [State.answersTo, h, on]

/-- An offset of a word in the mirror aperture leads to the twins. -/
theorem destOf_mirror {off : Nat} (h4 : off % 4 = 0) (h : off < 0xE000000) : destOf .i2c (0x2000000 + off) = .twin .mirror off := by
  have word : ¬ (0x2000000 + off) % 4 ≠ 0 := by omega
  simp only [destOf, if_neg word, hostDest]
  rw [if_neg (by omega), if_neg (by omega), if_neg (by omega), if_pos (by omega), Nat.add_sub_cancel_left]

theorem exec_mirrorRead (t : Nat) {off : Nat} (h4 : off % 4 = 0) (h : off < 0xE000000) (free : s.dev.inReset = false) (on : s.mainOff = false) :
    exec (.mirrorRead t .i2c off) s = .next (emitRead (twPathRead .mirror .i2c off (s.beginAt t))) := by
  have ans : (s.beginAt t).answersTo .i2c = true := answersTo_i2c (s := s.beginAt t) free on
  change execMirrorRead t .i2c off s = _
  rw [execMirrorRead, if_pos h, barRead, ans, if_neg (by decide), destOf_mirror h4 h]

theorem exec_mirrorWrite (t : Nat) {off : Nat} (v : Word) (h4 : off % 4 = 0) (h : off < 0xE000000) (graft : off ≠ 0xD0800)
    (free : s.dev.inReset = false) (on : s.mainOff = false) :
    exec (.mirrorWrite t .i2c off v) s = .next ((s.beginAt t).deliver .mirror (twWord .mirror .i2c off v)) := by
  have ans : (s.beginAt t).answersTo .i2c = true := answersTo_i2c (s := s.beginAt t) free on
  have relay : 0x2000000 + off ≠ Reg.HOST_RELAY_DATA := by rw [Reg.HOST_RELAY_DATA]; omega
  change execMirrorWrite t .i2c off v s = _
  rw [execMirrorWrite, if_pos h, barWrite, if_neg relay, writeAt, destOf_mirror h4 h]
  simp only [ans, if_true, twAccess, if_neg graft]

/-- A read of a core local memory in the twin that serves it. -/
theorem twRead_localMemory (via : Via) (req : Requester) {off : Nat} (lo : 0x100000 ≤ off) (hi : off < 0x200000) (w : Twin) (s : State) :
    twRead via req off w s = (some (s.memWord (w.base + off)), s) := by
  have bytes : twBytes off = true := decide_eq_true (.inr (.inr (.inr (.inr (.inr (.inr ⟨lo, hi⟩))))))
  rw [twRead, if_pos bytes]

/-- A write of a core local memory in a twin. -/
theorem twWord_localMemory (via : Via) (req : Requester) {off : Nat} (lo : 0x100000 ≤ off) (hi : off < 0x200000) (v : Word) (w : Twin) (s : State) :
    twWord via req off v w s = s.putWord (w.base + off) v := by
  rw [twWord, if_neg (by omega), if_neg (by omega), if_pos hi]

/-- The part is not in NAP. -/
theorem pwrState_of_inNap (h : s.inNap = false) : s.rf Reg.PWR_STAT Fld.PWR_STAT_STATE ≠ 3 := of_decide_eq_false h

/-- A mirror write reaches the twins of R22 while nothing discards it. -/
theorem reach_mirror (free : s.dev.inReset = false) (on : s.mainOff = false) (nap : s.inNap = false) (pend : s.dev.ctxPend = false)
    (hand : s.boot.hand = none) : s.reach .mirror = (twins.filter s.takesMirror, s) := by
  simp only [State.reach, free, on, pend, hand, if_neg (pwrState_of_inNap nap)]
  rfl

/-- One that arrives while a context reset waits is dropped and counted (R33). -/
theorem reach_mirror_pending (free : s.dev.inReset = false) (on : s.mainOff = false) (nap : s.inNap = false) (pend : s.dev.ctxPend = true) :
    s.reach .mirror = ([], s.ctxDrop) := by
  simp only [State.reach, free, on, pend, if_neg (pwrState_of_inNap nap)]
  rfl

theorem twRole_of_takesMirror {w : Twin} (h : s.takesMirror w = true) : s.roleOf w ≠ .isolated := by
  intro e
  simp [State.takesMirror, State.computes, e] at h

/-- `s` with a word stored in each of the twins that `p` picks. -/
def State.putBoth (s : State) (p : Twin → Bool) (off : Nat) (v : Word) : State := s.each p (fun w x => x.putWord (w.base + off) v)

theorem putBoth_eq (s : State) (p : Twin → Bool) (off : Nat) (v : Word) : s.putBoth p off v = { s with mem := (s.putBoth p off v).mem } := by
  unfold State.putBoth State.each
  extract_lets s1
  have e1 : s1 = { s with mem := s1.mem } := by
    simp only [s1]
    split
    · exact putWord_eq _ _ _
    · rfl
  split
  · dsimp only
    rw [putWord_eq s1, e1]
  · exact e1

/-- What a word stored in each twin that `p` picks leaves at each address. -/
theorem rdB_putBoth (h : Memory.wf s.mem = true) (p : Twin → Bool) {off : Nat} (_hi : off < 0x200000) (v : Word) (x : Nat) :
    (s.putBoth p off v).rdB x = if p .a = true ∧ Twin.a.base + off ≤ x ∧ x < Twin.a.base + off + 4 then
        BitVec.ofNat 8 (v.toNat / 256 ^ (x - (Twin.a.base + off)))
      else if p .b = true ∧ Twin.b.base + off ≤ x ∧ x < Twin.b.base + off + 4 then
        BitVec.ofNat 8 (v.toNat / 256 ^ (x - (Twin.b.base + off)))
      else s.rdB x := by
  unfold State.putBoth State.each
  have hA : Twin.a.base = 0x10000000 := rfl
  have hB : Twin.b.base = 0x20000000 := rfl
  cases pa : p .a <;> cases pb : p .b <;>
    simp only [if_true, if_false, true_and, false_and, Bool.false_eq_true]
  · rw [rdB_putWord h]
  · rw [rdB_putWord h]
  · rw [rdB_putWord (memWf_putWord h _ _), rdB_putWord h]
    by_cases inA : Twin.a.base + off ≤ x ∧ x < Twin.a.base + off + 4
    · rw [if_neg (by omega), if_pos inA, if_pos inA]
    · rw [if_neg inA, if_neg inA]

/-- A fold over the twins that a predicate picks takes them in order. -/
theorem foldl_twins_filter (p : Twin → Bool) (f : Twin → State → State) (s : State) :
    (twins.filter p).foldl (fun x w => f w x) s = s.each p f := by
  cases pa : p .a <;> cases pb : p .b <;> simp [twins, List.filter, State.each, pa, pb]

theorem each_congr {p : Twin → Bool} {f g : Twin → State → State} (h : ∀ w x, f w x = g w x) (s : State) : s.each p f = s.each p g := by
  simp only [State.each, h]

/-- A mirror write to a core local memory. -/
theorem deliver_localMemory (req : Requester) {off : Nat} (lo : 0x100000 ≤ off) (hi : off < 0x200000) (v : Word)
    (reach : s.reach .mirror = (twins.filter s.takesMirror, s)) :
    s.deliver .mirror (twWord .mirror req off v) = s.putBoth s.takesMirror off v := by
  rw [State.deliver, reach]
  exact (foldl_twins_filter _ _ _).trans (each_congr (twWord_localMemory .mirror req lo hi v) s)

/-! ### Reads that no twin serves -/

/-- A read that no twin serves sets NOTWIN_RD and raises E27 (R23). -/
theorem noTwinRead_shows (h : s.regsWf = true) (on : s.mainOff = false) :
    (noTwinRead s).rb Reg.DEV_STAT Fld.DEV_STAT_NOTWIN_RD = true ∧ (noTwinRead s).evtPending 27 = true ∧ (noTwinRead s).role = s.role := by
  have wf : (s.sb Reg.DEV_STAT Fld.DEV_STAT_NOTWIN_RD true).regsWf = true := State.regsWf_sf h _ _ _
  have on' : (s.sb Reg.DEV_STAT Fld.DEV_STAT_NOTWIN_RD true).mainOff = false := (State.sf_mainOff _ _ _ _).trans on
  have g : Evt (s.sb Reg.DEV_STAT Fld.DEV_STAT_NOTWIN_RD true) (noTwinRead s) := (Evt.refl _).raiseTh _ _ (by decide)
  refine ⟨?_, evtPending_raiseTh wf on' 0, ?_⟩
  · rw [rb_congr _ _ (by decide) ((g.regs wf).2 _ (by decide)), State.rb, State.sb, State.rf_sf_self h _ _ _ (by decide) (by decide)]
    decide
  · have role : (noTwinRead s).role = (s.sb Reg.DEV_STAT Fld.DEV_STAT_NOTWIN_RD true).role := by rw [g.rest]; rfl
    rw [role]; exact State.sf_role _ _ _ _

/-- The same with the value that leaves the part. -/
theorem noTwinRead_returns (h : s.regsWf = true) (on : s.mainOff = false) {u : State} (e : u = (noTwinRead s).emit (.readData 0xFFFFFFFF)) :
    .readData 0xFFFFFFFF ∈ u.out ∧ u.rb Reg.DEV_STAT Fld.DEV_STAT_NOTWIN_RD = true ∧ u.evtPending 27 = true ∧ u.role = s.role := by
  subst e
  exact ⟨List.mem_append_right _ (List.mem_singleton.2 rfl), noTwinRead_shows h on⟩

/-! ### Counted accesses -/

/-- A count and then an output. -/
theorem onlyRegs_bump_emit (h : s.regsWf = true) (empty : s.out = []) (a : Nat) (f : Fld) (hf : f.hi < 32) (o : Out) :
    ((s.bump a f).emit o).reg a = countUp (s.reg a) f ∧ onlyRegs [a] { s with out := [o] } ((s.bump a f).emit o) := by
  obtain ⟨rest, regs⟩ := onlyRegs_bump h a f hf
  refine ⟨reg_bump_countUp h a f hf, ?_, regs⟩
  rw [rest, State.emit, empty]; rfl

theorem exec_deadAcc_read (t : Nat) {w : Twin} (off : Nat) (free : s.dev.inReset = false) (on : s.mainOff = false)
    (dead : s.roleOf w = .off ∨ s.roleOf w = .isolated) : exec (.deadAcc t w .read off) s =
      .next (((s.beginAt t).bump Reg.MIRROR_STAT Fld.MIRROR_STAT_DEAD_ACC).emit (.readData 0xFFFFFFFF)) := by
  refine if_neg ?_
  rcases dead with e | e <;> simp [State.shut, free, on, e]

theorem exec_deadAcc_write (t : Nat) {w : Twin} (v : Word) (off : Nat) (free : s.dev.inReset = false) (on : s.mainOff = false)
    (dead : s.roleOf w = .off ∨ s.roleOf w = .isolated) : exec (.deadAcc t w (.write v) off) s =
      .next ((s.beginAt t).bump Reg.MIRROR_STAT Fld.MIRROR_STAT_DEAD_ACC) := by
  refine if_neg ?_
  rcases dead with e | e <;> simp [State.shut, free, on, e]

/-- A core of a twin that is not OFF reaches the count of R27. -/
theorem crossAcc_counts {w : Twin} (h : s.roleOf w ≠ .off) : crossAcc w s = s.bump Reg.MIRROR_STAT Fld.MIRROR_STAT_XTWIN_ACC := if_neg h

theorem exec_xtwinAcc (t : Nat) {w : Twin} (c : Fin 16) (acc : Access) (off : Nat) (free : s.dev.inReset = false) (on : s.mainOff = false)
    (nap : s.inNap = false) (runs : s.roleOf w ≠ .off) : exec (.xtwinAcc t w c acc off) s =
      (match acc with
        | .read => .next (((s.beginAt t).bump Reg.MIRROR_STAT Fld.MIRROR_STAT_XTWIN_ACC).emit (.readData 0))
        | .write _ => .next ((s.beginAt t).bump Reg.MIRROR_STAT Fld.MIRROR_STAT_XTWIN_ACC)) := by
  have runs' : (s.beginAt t).roleOf w ≠ .off := by rw [State.beginAt_roleOf]; exact runs
  change execXtwinAcc t w c acc off s = _
  have nap' : (s.beginAt t).inNap = false := nap
  unfold execXtwinAcc
  extract_lets s1
  refine (if_neg (by simp [s1, State.shut, free, on, nap', runs])).trans ?_
  have counts : crossAcc w s1 = s1.bump Reg.MIRROR_STAT Fld.MIRROR_STAT_XTWIN_ACC := crossAcc_counts runs'
  cases acc with
  | read => exact congrArg (fun x : State => Host.Outcome.next (x.emit (.readData 0))) counts
  | write v => exact congrArg Host.Outcome.next counts

/-! ### A core's write to the Cortex store (R28) -/

theorem not_inArr_of_above {base stride n a : Nat} (h : base + n * stride ≤ a) : ¬ inArr base stride n a = true := by
  simp only [inArr, decide_eq_true_eq]; omega

/-- In the Cortex store no register lies: a word is stored as it is. -/
theorem thWord_cortex (req : Requester) {a : Nat} (lo : 0x8000 ≤ a) (hi : a < 0xF000) (v : Word) (s : State) : thWord req a v s = s.putWord a v := by
  have below : ∀ r, r < 0x8000 → a ≠ r := fun r hr e => by omega
  have array : ∀ base stride n, base + n * stride ≤ 0x8000 → ¬ inArr base stride n a = true := fun _ _ _ h => not_inArr_of_above (h.trans lo)
  have tail : a ≠ Reg.EVT_LOG_TAIL := by rw [Reg.EVT_LOG_TAIL]; omega
  have phase : ¬ (a = Reg.TGEN_PHASE ∨ a = Reg.TGEN_PHASE + 4) := by rw [Reg.TGEN_PHASE]; omega
  unfold thWord
  rw [if_neg (below _ (by decide)), if_neg (below _ (by decide)), if_neg (below _ (by decide)), if_neg (below _ (by decide)),
    if_neg (below _ (by decide)), if_neg (below _ (by decide)), if_neg (array _ _ _ (by decide)), if_neg (array _ _ _ (by decide)),
    if_neg (array _ _ _ (by decide)), if_neg (below _ (by decide)), if_neg (below _ (by decide)), if_neg (below _ (by decide)),
    if_neg phase, if_neg (array _ _ _ (by decide)), if_neg (below _ (by decide)), if_neg (below _ (by decide)), if_neg (below _ (by decide)),
    if_neg (below _ (by decide)), if_neg (below _ (by decide)), if_neg (below _ (by decide)), if_neg tail, if_neg (array _ _ _ (by decide)),
    if_pos ⟨lo, hi⟩]

theorem destOf_core_thallus (w : Twin) (c : Fin 16) {a : Nat} (h4 : a % 4 = 0) (h : a < 0x1000000) : destOf (.core w c) a = .thallus a := by
  have word : ¬ a % 4 ≠ 0 := by omega
  simp only [destOf, if_neg word, coreDest, if_pos (show a < 0x30000000 by omega), hostDest, if_pos h]

theorem exec_coreThallusWrite (t : Nat) (w : Twin) (c : Fin 16) {a : Nat} (v : Word) (h4 : a % 4 = 0) (lo : 0x8000 ≤ a) (hi : a < 0xF000) :
    exec (.coreThallusWrite t w c a v) s =
      .next (if (s.beginAt t).thAllows (.core w c) = true then (s.beginAt t).putWord a v else s.beginAt t) := by
  have relay : a ≠ Reg.HOST_RELAY_DATA := by rw [Reg.HOST_RELAY_DATA]; omega
  have pwr : a ≠ Reg.PWR_CTL := by rw [Reg.PWR_CTL]; omega
  change execCoreThallusWrite t w c a v s = _
  rw [execCoreThallusWrite, if_pos (by omega), barWrite, if_neg relay, writeAt, destOf_core_thallus w c h4 (by omega)]
  simp only [thAccess, if_neg pwr, State.thWrite, thWord_cortex _ lo hi]

theorem thAllows_core (free : s.dev.inReset = false) (on : s.mainOff = false) (w : Twin) (c : Fin 16) :
    s.thAllows (.core w c) = decide (s.roleOf w = .active) := by
  simp [State.thAllows, free, on]

/-! ### A twin that misses a forwarded write (R22, R350) -/

/-- The health word of a twin. -/
def healthReg (w : Twin) : Nat := if w = .a then Reg.PERI_HEALTH_A else Reg.PERI_HEALTH_B

/-- A health bit of a twin that is neither OFF nor ISOLATED: its flag, and what the Peristome notes. -/
theorem setHealth_flags {w : Twin} (off : s.roleOf w ≠ .off) (iso : s.roleOf w ≠ .isolated) (bit : Nat) :
    ∃ p, s.setHealth w bit = { s.orReg (healthReg w) (2 ^ bit) with peri := p } := by
  unfold State.setHealth
  rw [if_neg (by simp [off, iso])]
  cases w <;> exact ⟨_, rfl⟩

/-- MISS of a twin. -/
def missFld (w : Twin) : Fld := if w = .a then Fld.MIRROR_STAT_MISS_A else Fld.MIRROR_STAT_MISS_B

theorem mirrorMiss_eq (w : Twin) (s : State) : mirrorMiss w s = ((s.bump Reg.MIRROR_STAT (missFld w)).setHealth w 8).raiseTh 26 w.code := by
  cases w <;> rfl

/-- What the Thallus does about a twin that misses a forwarded write. -/
theorem mirrorMiss_shows {w : Twin} (h : s.tidy = true) (on : s.mainOff = false) (off : s.roleOf w ≠ .off) (iso : s.roleOf w ≠ .isolated) :
    (mirrorMiss w s).reg Reg.MIRROR_STAT = countUp (s.reg Reg.MIRROR_STAT) (missFld w) ∧
      bitAt ((mirrorMiss w s).reg (healthReg w)).toNat 8 = true ∧ (mirrorMiss w s).evtPending 26 = true ∧ (mirrorMiss w s).now = s.now ∧
      ∀ a, evtByte a = false → (mirrorMiss w s).rdB a = s.rdB a := by
  obtain ⟨regs, mem⟩ := tidy_iff.1 h
  have low : (missFld w).hi < 32 := by cases w <;> decide
  have ne : Reg.MIRROR_STAT ≠ healthReg w := by cases w <;> decide
  have quiet : evtReg (healthReg w) = false := by cases w <;> decide
  obtain ⟨r, er⟩ := s.exists_sf Reg.MIRROR_STAT (missFld w) (min (s.rf Reg.MIRROR_STAT (missFld w) + 1) (2 ^ ((missFld w).hi - (missFld w).lo + 1) - 1))
  have e1 : s.bump Reg.MIRROR_STAT (missFld w) = { s with regs := r } := er
  have off1 : (s.bump Reg.MIRROR_STAT (missFld w)).roleOf w ≠ .off := by rw [e1]; cases w <;> exact off
  have iso1 : (s.bump Reg.MIRROR_STAT (missFld w)).roleOf w ≠ .isolated := by rw [e1]; cases w <;> exact iso
  have wf1 : (s.bump Reg.MIRROR_STAT (missFld w)).regsWf = true := State.regsWf_bump regs _ _ _
  have count := reg_bump_countUp regs Reg.MIRROR_STAT (missFld w) low
  have on1 : (s.bump Reg.MIRROR_STAT (missFld w)).mainOff = false := by rw [e1]; exact on
  have mem1 : (s.bump Reg.MIRROR_STAT (missFld w)).mem = s.mem := by rw [e1]
  have now1 : (s.bump Reg.MIRROR_STAT (missFld w)).now = s.now := by rw [e1]
  rw [mirrorMiss_eq]
  generalize s.bump Reg.MIRROR_STAT (missFld w) = x at off1 iso1 wf1 count on1 mem1 now1
  obtain ⟨p, e2⟩ := setHealth_flags off1 iso1 8
  have wf2 : (x.setHealth w 8).regsWf = true := by rw [e2]; exact State.regsWf_setReg wf1 _ _
  have on2 : (x.setHealth w 8).mainOff = false := by rw [e2]; exact on1
  have mem2 : (x.setHealth w 8).mem = s.mem := by rw [e2]; exact mem1
  have count2 : (x.setHealth w 8).reg Reg.MIRROR_STAT = countUp (s.reg Reg.MIRROR_STAT) (missFld w) := by
    rw [e2, ← count]; exact State.reg_setReg_ne wf1 ne _
  have flag2 : bitAt ((x.setHealth w 8).reg (healthReg w)).toNat 8 = true := by
    have word : (x.setHealth w 8).reg (healthReg w) = x.reg (healthReg w) ||| BitVec.ofNat 32 (2 ^ 8) := by
      rw [e2]; exact State.reg_setReg_self wf1 _ _
    rw [word]; exact bitAt_or_two_pow _ (by decide)
  have now2 : (x.setHealth w 8).now = s.now := by rw [e2]; exact now1
  have g : Evt (x.setHealth w 8) ((x.setHealth w 8).raiseTh 26 w.code) := (Evt.refl _).raiseTh _ _ (by decide)
  obtain ⟨-, keep⟩ := g.regs wf2
  obtain ⟨-, bytes⟩ := g.bytes (by rw [mem2]; exact mem)
  refine ⟨(keep _ (by decide)).trans count2, ?_, evtPending_raiseTh wf2 on2 _, ?_, fun a ha => ?_⟩
  · rw [keep _ quiet]; exact flag2
  · rw [g.rest]; exact now2
  · rw [bytes a ha, State.rdB, mem2]; rfl

/-- What both twins but one take: the other one's write. -/
theorem foldl_twins_other (p : Twin → Bool) (w : Twin) (f : Twin → State → State) (s : State) :
    ((twins.filter p).filter (fun x => decide (x ≠ w))).foldl (fun x y => f y x) s = if p w.other = true then f w.other s else s := by
  cases w <;> cases pa : p .a <;> cases pb : p .b <;> simp [twins, List.filter, Twin.other, pa, pb]

theorem contains_twins_filter (p : Twin → Bool) (w : Twin) : (twins.filter p).contains w = p w := by
  cases w <;> cases pa : p .a <;> cases pb : p .b <;> simp [twins, List.filter, pa, pb]

/-- `s` in which the twin beside `w` has taken a word, if it takes mirror writes. -/
def State.otherTook (s : State) (w : Twin) (off : Nat) (v : Word) : State :=
  if s.takesMirror w.other = true then s.putWord (w.other.base + off) v else s

theorem otherTook_eq (s : State) (w : Twin) (off : Nat) (v : Word) : s.otherTook w off v = { s with mem := (s.otherTook w off v).mem } := by
  unfold State.otherTook
  split
  · exact putWord_eq _ _ _
  · rfl

theorem memWf_otherTook (h : Memory.wf s.mem = true) (w : Twin) (off : Nat) (v : Word) : Memory.wf (s.otherTook w off v).mem = true := by
  unfold State.otherTook
  split
  · exact memWf_putWord h _ _
  · exact h

/-- The two twins' private apertures lie apart: the word of the one is not that of the other. -/
theorem rdB_otherTook (h : Memory.wf s.mem = true) (w : Twin) {off : Nat} (_hi : off < 0x200000) (v : Word) {i : Nat} (hi4 : i < 4) :
    (s.otherTook w off v).rdB (w.base + off + i) = s.rdB (w.base + off + i) ∧
      (s.takesMirror w.other = true → (s.otherTook w off v).rdB (w.other.base + off + i) = BitVec.ofNat 8 (v.toNat / 256 ^ i)) := by
  have apart : w.base + off + i < w.other.base + off ∨ w.other.base + off + 4 ≤ w.base + off + i := by
    cases w <;> simp only [Twin.other, Twin.base] <;> omega
  unfold State.otherTook
  split
  next => exact ⟨rdB_putWord_out h v apart, fun _ => rdB_putWord_in h _ v hi4⟩
  next no => exact ⟨rfl, fun yes => absurd yes no⟩

/-- What is left 2 µs after a forwarded write that one twin has missed. -/
theorem mirrorTimeout_shows {t : Nat} {w : Twin} {off : Nat} (tidy : s.tidy = true) (on : s.mainOff = false) (v : Word) (hi : off < 0x200000)
    (takes : s.takesMirror w = true) (runs : s.roleOf w ≠ .off) {u : State}
    (e : u = mirrorMiss w (((s.beginAt t).otherTook w off v).at (t + 2000))) :
    u.reg Reg.MIRROR_STAT = countUp (s.reg Reg.MIRROR_STAT) (missFld w) ∧ bitAt (u.reg (healthReg w)).toNat 8 = true ∧ u.evtPending 26 = true ∧
      u.now = max (max s.now t) (t + 2000) ∧ ∀ i, i < 4 → u.rdB (w.base + off + i) = s.rdB (w.base + off + i) ∧
        (s.takesMirror w.other = true → u.rdB (w.other.base + off + i) = BitVec.ofNat 8 (v.toNat / 256 ^ i)) := by
  obtain ⟨regs, mem⟩ := tidy_iff.1 tidy
  have quiet : ∀ (y : Twin) i, evtByte (y.base + off + i) = false := fun y i => by
    have := twinBase_ge y
    exact decide_eq_false (by omega)
  have took := fun (i : Nat) (hi4 : i < 4) => rdB_otherTook (s := s.beginAt t) mem w hi v hi4
  have wf := memWf_otherTook (s := s.beginAt t) mem w off v
  have same := otherTook_eq (s.beginAt t) w off v
  generalize (s.beginAt t).otherTook w off v = x at took wf same e
  have tidy' : (x.at (t + 2000)).tidy = true := tidy_iff.2 ⟨by rw [same]; exact regs, wf⟩
  have on' : (x.at (t + 2000)).mainOff = false := by rw [same]; exact on
  have role : (x.at (t + 2000)).roleOf w = s.roleOf w := by rw [same]; cases w <;> rfl
  have now' : (x.at (t + 2000)).now = max (max s.now t) (t + 2000) := by rw [same]; rfl
  have count' : (x.at (t + 2000)).reg Reg.MIRROR_STAT = s.reg Reg.MIRROR_STAT := by rw [same]; rfl
  obtain ⟨count, flag, pend, now, bytes⟩ := mirrorMiss_shows (w := w) tidy' on' (by rw [role]; exact runs) (by rw [role]; exact twRole_of_takesMirror takes)
  rw [e]
  refine ⟨by rw [count, count'], flag, pend, now.trans now', fun i hi4 => ⟨?_, fun yes => ?_⟩⟩
  · rw [bytes _ (quiet w i)]; exact (took i hi4).1
  · rw [bytes _ (quiet w.other i)]; exact (took i hi4).2 yes

/-- The twin that is left takes a forwarded write of a core local memory; then the other is counted. -/
theorem exec_mirrorTimeout {t : Nat} {w : Twin} {off : Nat} (v : Word) (h4 : off % 4 = 0) (lo : 0x100000 ≤ off) (hi : off < 0x200000)
    (takes : s.takesMirror w = true) (reach : (s.beginAt t).reach .mirror = (twins.filter s.takesMirror, s.beginAt t)) :
    exec (.mirrorTimeout t .i2c w (.word off v)) s =
      .next (mirrorMiss w (((s.beginAt t).otherTook w off v).at (t + 2000))) := by
  have word : ∀ y x, forwarded (.word off v) .i2c y x = x.putWord (y.base + off) v := fun y x =>
    (if_pos ⟨by omega, h4⟩).trans (twWord_localMemory _ _ lo hi _ _ _)
  change execMirrorTimeout t .i2c w (.word off v) s = _
  unfold execMirrorTimeout
  rw [reach]
  dsimp only
  rw [foldl_twins_other, contains_twins_filter, takes, if_pos rfl, word]
  rfl

/-! ### The statement -/

/-- Settles O8, clause by clause: the reads, the counted accesses, and the writes. -/
theorem aperturesServeReadsAndWrites : Obligations.AperturesServeReadsAndWrites := by
  unfold Obligations.AperturesServeReadsAndWrites
  refine ⟨fun s t tidy free on nap => ?_, fun s t tidy free on nap hand => ?_⟩ <;> obtain ⟨regs, mem⟩ := tidy_iff.1 tidy <;>
    have regs' : (s.beginAt t).regsWf = true := regs <;> have on' : (s.beginAt t).mainOff = false := on <;>
    have nap' : (s.beginAt t).inNap = false := nap
  · refine ⟨fun w off act h4 lo hi => ?_, fun none off h4 hi => ?_, fun off => ?_, fun w off dead => ⟨?_, fun v => ?_⟩,
      fun w c off runs => ⟨?_, fun v => ?_⟩⟩
    · have act' : (s.beginAt t).active = some w := act
      refine ⟨_, exec_mirrorRead t h4 (by omega) free on, ?_⟩
      simp only [twPathRead, nap', act', twRead_localMemory _ _ lo hi]
      rfl
    · have none' : (s.beginAt t).active = .none := none
      refine ⟨_, exec_mirrorRead t h4 hi free on, noTwinRead_returns regs' on' ?_⟩
      simp only [twPathRead, nap', none']
      rfl
    · refine ⟨_, if_neg ?_, noTwinRead_returns regs' on' rfl⟩
      simp [State.shut, free, on, nap']
    · exact ⟨_, exec_deadAcc_read t off free on dead, onlyRegs_bump_emit regs' rfl _ _ (by decide) _⟩
    · exact ⟨_, exec_deadAcc_write t v off free on dead, reg_bump_countUp regs' _ _ (by decide), onlyRegs_bump regs' _ _ (by decide)⟩
    · exact ⟨_, exec_xtwinAcc t c .read off free on nap runs, onlyRegs_bump_emit regs' rfl _ _ (by decide) _⟩
    · exact ⟨_, exec_xtwinAcc t c (.write v) off free on nap runs, reg_bump_countUp regs' _ _ (by decide), onlyRegs_bump regs' _ _ (by decide)⟩
  · refine ⟨fun off v h4 lo hi pend => ?_, fun off v h4 hi graft pend => ?_, fun w c a v h4 lo hi => ?_, fun w off v takes runs pend h4 lo hi => ?_⟩
    · have reach := reach_mirror (s := s.beginAt t) free on nap pend hand
      refine ⟨_, exec_mirrorWrite t v h4 (by omega) (by omega) free on, ?_⟩
      rw [deliver_localMemory _ lo hi v reach]
      exact ⟨putBoth_eq _ _ _ _, rdB_putBoth (s := s.beginAt t) mem _ hi v⟩
    · refine ⟨_, exec_mirrorWrite t v h4 hi graft free on, ?_⟩
      rw [State.deliver, reach_mirror_pending (s := s.beginAt t) free on nap pend]
      change (s.beginAt t).ctxDrop.reg Reg.DEV_STAT = _ ∧ onlyRegs _ _ (s.beginAt t).ctxDrop
      exact ⟨reg_bump_countUp regs' _ _ (by decide), onlyRegs_bump regs' _ _ (by decide)⟩
    · refine ⟨_, exec_coreThallusWrite t w c v h4 lo hi, ?_⟩
      rw [thAllows_core (s := s.beginAt t) free on, State.beginAt_roleOf]
      by_cases act : s.roleOf w = .active
      · rw [if_pos (decide_eq_true act)]
        refine ⟨putWord_eq _ _ _, fun x => (rdB_putWord (s := s.beginAt t) mem a v x).trans ?_⟩
        simp [act]
      · rw [if_neg (by simp [act])]
        exact ⟨rfl, fun x => by simp [act]⟩
    · have reach := reach_mirror (s := s.beginAt t) free on nap pend hand
      exact ⟨_, exec_mirrorTimeout v h4 lo hi takes reach, mirrorTimeout_shows tidy on v hi takes runs rfl⟩

end Sys2Proof.Machine
end

section
/-!
The change of roles (R339, R340, R48) and the start of the twins (R18, R482).
-/
namespace Sys2Proof.Machine

set_option Elab.async false

variable {s0 s u : State}

/-! ### What a change of roles leaves -/

/-- What the parts of a change of roles leave as it was: the roles themselves once they are set, the boot record and starts, the swap that is
due, the instant, and the main domain; the registers keep their canonical form. -/
structure RoleSteps (s u : State) : Prop where
  role : u.role = s.role
  boot : u.boot = s.boot
  swapDue : u.swapDue = s.swapDue
  now : u.now = s.now
  mainOff : u.mainOff = s.mainOff
  started : ∀ w, u.started w = s.started w
  fiveSec : u.dev.fiveSec = s.dev.fiveSec
  regs : s.regsWf = true → u.regsWf = true

theorem RoleSteps.refl (s : State) : RoleSteps s s := ⟨rfl, rfl, rfl, rfl, rfl, fun _ => rfl, rfl, id⟩

theorem RoleSteps.trans (h : RoleSteps s0 s) (g : RoleSteps s u) : RoleSteps s0 u :=
  ⟨g.role.trans h.role, g.boot.trans h.boot, g.swapDue.trans h.swapDue, g.now.trans h.now, g.mainOff.trans h.mainOff,
    fun w => (g.started w).trans (h.started w), g.fiveSec.trans h.fiveSec, fun x => g.regs (h.regs x)⟩

theorem RoleSteps.ite {a b : State} {c : Prop} [Decidable c] (ha : RoleSteps s a) (hb : RoleSteps s b) : RoleSteps s (if c then a else b) := by
  split
  · exact ha
  · exact hb

/-- A change beside the registers and what `RoleSteps` names. -/
theorem RoleSteps.frame (h : RoleSteps s0 s) (role : u.role = s.role := by rfl) (boot : u.boot = s.boot := by rfl)
    (swapDue : u.swapDue = s.swapDue := by rfl) (now : u.now = s.now := by rfl) (mainOff : u.mainOff = s.mainOff := by rfl)
    (startA : u.dev.startA = s.dev.startA := by rfl) (startB : u.dev.startB = s.dev.startB := by rfl)
    (fiveSec : u.dev.fiveSec = s.dev.fiveSec := by rfl) (regs : u.regs = s.regs := by rfl) : RoleSteps s0 u := by
  refine h.trans ⟨role, boot, swapDue, now, mainOff, fun w => ?_, fiveSec, fun x => by rw [State.regsWf, regs]; exact x⟩
  cases w
  · exact startA
  · exact startB

theorem RoleSteps.setReg (h : RoleSteps s0 s) {a : Nat} {v : Word} : RoleSteps s0 (s.setReg a v) :=
  h.trans ⟨rfl, rfl, rfl, rfl, rfl, fun w => by cases w <;> rfl, rfl, fun x => State.regsWf_setReg x a v⟩

theorem RoleSteps.sf (h : RoleSteps s0 s) {a : Nat} {f : Fld} {v : Nat} (hf : f.hi < 32 := by decide) : RoleSteps s0 (s.sf a f v) := by
  rw [State.sf_low _ _ _ _ hf]; exact h.setReg

theorem RoleSteps.evt (h : RoleSteps s0 s) (g : Evt s u) : RoleSteps s0 u := by
  refine h.trans ⟨by rw [g.rest]; rfl, by rw [g.rest]; rfl, by rw [g.rest]; rfl, by rw [g.rest]; rfl, by rw [g.rest]; rfl, fun w => ?_,
    by rw [g.rest]; rfl, fun x => (g.regs x).1⟩
  rw [g.rest]
  cases w <;> rfl

theorem RoleSteps.raiseTh (h : RoleSteps s0 s) {n data : Nat} (hn : n < 256 := by decide) : RoleSteps s0 (s.raiseTh n data) :=
  h.evt ((Evt.refl _).raiseTh _ _ hn)

theorem RoleSteps.beginResync (h : RoleSteps s0 s) (w : Twin) : RoleSteps s0 (s.beginResync w) := by
  unfold State.beginResync
  extract_lets s1 p s2 s3 p4 s4
  have h1 : RoleSteps s0 s1 := h.setReg
  have h2 : RoleSteps s0 s2 := h1.frame
  have h3 : RoleSteps s0 s3 := h2.sf
  refine .ite ?_ h3.sf
  have h4 : RoleSteps s0 s4 := h3.frame
  exact h4.sf.sf

theorem RoleSteps.roleEvents (h : RoleSteps s0 s) (old new : Role) : RoleSteps s0 (s.roleEvents old new) := by
  unfold State.roleEvents
  refine .ite h ?_
  split
  · exact h.raiseTh
  · exact h.raiseTh
  · exact h.raiseTh
  · exact h

theorem RoleSteps.leaveHold (h : RoleSteps s0 s) (old : State) : RoleSteps s0 (leaveHold old s) := by
  rw [leaveHold_eq, givenBack_eq, syncGen_eq_withLine]
  exact h.frame

/-- A twin whose role stays, or that enters neither ISOLATED nor DIVERGED, ends no trial (R487). -/
def quietEntry (old new : Role) : Prop := old = new ∨ (new ≠ .isolated ∧ new ≠ .diverged)

theorem revertEntered_quiet {w : Twin} {old new : Role} (h : quietEntry old new) (s : State) : revertEntered w old new s = s := by
  unfold revertEntered
  refine if_neg ?_
  rcases h with e | ⟨iso, div⟩
  · simp [e]
  · simp [iso, div]

/-- A change of roles that ends no trial: the roles are those set, and where the ACTIVE twin changes E7 is pending (R48, R340). -/
theorem setRoles_steps {ra rb : Role} (s : State) (qa : quietEntry s.role.a ra) (qb : quietEntry s.role.b rb) :
    RoleSteps { s with role := ⟨ra, rb⟩ } (s.setRoles ra rb) ∧
      (s.regsWf = true → s.mainOff = false → s.active ≠ { s with role := ⟨ra, rb⟩ }.active → (s.setRoles ra rb).evtPending 7 = true) := by
  unfold State.setRoles
  extract_lets oa ob before s1 s2 s3 s4 p5 s5 s6 d6 p6 s6' p7 s7
  rw [revertEntered_quiet qa, revertEntered_quiet qb]
  have h1 : RoleSteps s1 s1 := .refl s1
  have h2 : RoleSteps s1 s2 := .ite (h1.beginResync _) h1
  have h3 : RoleSteps s1 s3 := .ite (h2.beginResync _) h2
  have h4 : RoleSteps s1 s4 := .ite h3.sf h3
  have h5 : RoleSteps s1 s5 := .ite h4.frame h4
  have h6 : RoleSteps s1 s6 := (h5.roleEvents _ _).roleEvents _ _
  have h6' : RoleSteps s1 s6' := .ite h6.frame h6
  have hp : RoleSteps s1 (State.frameFlag { s6' with peri := { p7 with forced := false, parked := false } } 32) := h6'.frame
  have h7 : RoleSteps s1 s7 := .ite h6' (RoleSteps.leaveHold (hp.raiseTh (n := 7)) s)
  have active : s6'.active = s1.active := by rw [State.active, State.active, h6'.role]
  refine ⟨h7, fun wf on change => ?_⟩
  have e7 : s7 = _ := if_neg (by rw [active]; exact change)
  rw [e7, leaveHold_eq]
  refine (evtPending_congr 7 ((syncGen_reg _ _).trans (givenBack_reg _ _ _))).trans ?_
  exact evtPending_raiseTh (hp.regs wf) (hp.mainOff.trans on) _

/-- The roles with that of one twin replaced. -/
def Roles.put (r : Roles) : Twin → Role → Roles
  | .a, x => ⟨x, r.b⟩
  | .b, x => ⟨r.a, x⟩

theorem setRole_steps {w : Twin} {r : Role} (s : State) (q : quietEntry (s.roleOf w) r) :
    RoleSteps { s with role := s.role.put w r } (s.setRole w r) := by
  cases w
  · exact (setRoles_steps s q (.inl rfl)).1
  · exact (setRoles_steps s (.inl rfl) q).1

theorem quietEntry_resync (old : Role) : quietEntry old .resync := .inr ⟨by decide, by decide⟩
theorem quietEntry_active (old : Role) : quietEntry old .active := .inr ⟨by decide, by decide⟩
theorem quietEntry_ready (old : Role) : quietEntry old .ready := .inr ⟨by decide, by decide⟩

/-! ### The end of a start sequence -/

/-- What the last steps of a start sequence leave (R482, R489, R500): roles, the part's flags, the boot record, starts and the handover, the
instant, and TWIN_CTL. -/
structure StartSteps (s u : State) : Prop where
  role : u.role = s.role
  dev : u.dev = s.dev
  now : u.now = s.now
  mainOff : u.mainOff = s.mainOff
  hand : u.boot.hand = s.boot.hand
  start : ∀ w, u.boot.start w = s.boot.start w
  regs : s.regsWf = true → u.regsWf = true ∧ u.reg Reg.TWIN_CTL = s.reg Reg.TWIN_CTL

theorem StartSteps.refl (s : State) : StartSteps s s := ⟨rfl, rfl, rfl, rfl, rfl, fun _ => rfl, fun h => ⟨h, rfl⟩⟩

theorem StartSteps.trans (h : StartSteps s0 s) (g : StartSteps s u) : StartSteps s0 u := by
  refine ⟨g.role.trans h.role, g.dev.trans h.dev, g.now.trans h.now, g.mainOff.trans h.mainOff, g.hand.trans h.hand,
    fun w => (g.start w).trans (h.start w), fun x => ?_⟩
  obtain ⟨wf, keep⟩ := h.regs x
  obtain ⟨wf', keep'⟩ := g.regs wf
  exact ⟨wf', keep'.trans keep⟩

/-- A change beside the registers and what `StartSteps` names. -/
theorem StartSteps.frame (h : StartSteps s0 s) (role : u.role = s.role := by rfl) (dev : u.dev = s.dev := by rfl) (now : u.now = s.now := by rfl)
    (mainOff : u.mainOff = s.mainOff := by rfl) (boot : u.boot = s.boot := by rfl) (regs : u.regs = s.regs := by rfl) : StartSteps s0 u :=
  h.trans ⟨role, dev, now, mainOff, by rw [boot], fun w => by rw [boot], fun x => ⟨by rw [State.regsWf, regs]; exact x, by rw [State.reg, regs]; rfl⟩⟩

theorem StartSteps.evt (h : StartSteps s0 s) (g : Evt s u) : StartSteps s0 u := by
  refine h.trans ⟨by rw [g.rest]; rfl, by rw [g.rest]; rfl, by rw [g.rest]; rfl, by rw [g.rest]; rfl, by rw [g.rest]; rfl, fun w => by rw [g.rest]; rfl,
    fun x => ?_⟩
  obtain ⟨wf, keep⟩ := g.regs x
  exact ⟨wf, keep _ (by decide)⟩

theorem StartSteps.setReg (h : StartSteps s0 s) {a : Nat} {v : Word} (ha : a ≠ Reg.TWIN_CTL) : StartSteps s0 (s.setReg a v) :=
  h.trans ⟨rfl, rfl, rfl, rfl, rfl, fun _ => rfl, fun x => ⟨State.regsWf_setReg x a v, State.reg_setReg_ne x ha.symm v⟩⟩

theorem StartSteps.sf (h : StartSteps s0 s) {a : Nat} {f : Fld} {v : Nat} (ha : a ≠ Reg.TWIN_CTL) (hf : f.hi < 32 := by decide) :
    StartSteps s0 (s.sf a f v) := by
  rw [State.sf_low _ _ _ _ hf]; exact h.setReg ha

theorem StartSteps.calAtStart (h : StartSteps s0 s) (w : Twin) : StartSteps s0 (calAtStart w s) := by
  unfold Machine.calAtStart
  generalize allUnits.filter _ = l
  induction l generalizing s with
  | nil => exact h
  | cons u l ih => exact ih h.frame

theorem updStat_ne_twinCtl (w : Twin) : Reg.UPD_STAT w ≠ Reg.TWIN_CTL := by cases w <;> decide

theorem StartSteps.settingsStart (h : StartSteps s0 s) (w : Twin) : StartSteps s0 (settingsStart w s) := by
  have ne := updStat_ne_twinCtl w
  unfold Machine.settingsStart
  extract_lets half s1 own
  have h1 : StartSteps s0 s1 := StartSteps.setReg (by cases w <;> exact h.frame) ne
  clear_value half
  split
  · exact h1
  · extract_lets migrated s2
    have h2 : StartSteps s0 s2 := (h1.sf ne).sf ne
    split
    · exact StartSteps.evt (h2.sf ne) ((Evt.refl _).raiseTwin _ _ _ (by decide))
    · exact h2

theorem StartSteps.trialStarts (h : StartSteps s0 s) (w : Twin) : StartSteps s0 (trialStarts w s) := by
  unfold Machine.trialStarts
  split
  · refine StartSteps.evt (h.trans ?_) ((Evt.refl _).raiseTh _ _ (by decide))
    refine ⟨rfl, rfl, rfl, rfl, ?_, fun y => ?_, fun x => ⟨x, rfl⟩⟩
    · cases w <;> rfl
    · cases w <;> cases y <;> rfl
  · exact h

/-- The twin's start is complete. -/
def State.startEnded (s : State) (w : Twin) : State := { s.setStarted w true with boot := s.boot.setStart w none }

/-- A twin has its first heartbeat. -/
def State.beating (s : State) : Twin → State
  | .a => { s with peri := { s.peri with hbA := s.now } }
  | .b => { s with peri := { s.peri with hbB := s.now } }

theorem StartSteps.beating (h : StartSteps s0 s) (w : Twin) : StartSteps s0 (s.beating w) := by cases w <;> exact h.frame

/-- The role that the end of a start sequence gives (R18). -/
def roleAtStart (w : Twin) (s : State) : State :=
  if w = .a ∧ s.active = some .b ∧ s.dev.firstAt = some s.now then s.setRoles .active .resync
  else if s.active.isSome then s.setRole w .resync
  else firstActive w s

/-- The start sequence ends, and the role follows. -/
def roleAfter (w : Twin) (s : State) : State :=
  if s.boot.hand.any (fun h => decide (h.w = w)) then s
  else if s.rb Reg.TWIN_CTL (Fld.iso w) then s
  else if s.roleOf w = .isolated then s.setRole w .resync
  else if s.roleOf w ≠ .off then s
  else roleAtStart w s

theorem startDone_running {w : Twin} (runs : (s.boot.start w).isSome = true) :
    startDone w s = roleAfter w (trialStarts w (settingsStart w (calAtStart w ((s.startEnded w).beating w)))) := by
  have none : ¬ (s.boot.start w).isNone = true := by simpa [Option.isSome_iff_ne_none] using runs
  unfold startDone
  rw [if_neg none]
  extract_lets s1 pa pb s2 s3
  have e2 : s2 = (s.startEnded w).beating w := by
    cases w
    · rfl
    · rfl
  clear_value s2
  subst e2
  rfl

/-- The start sequence of an OFF twin that neither restarts in place nor is under ISO. -/
theorem startDone_eq {w : Twin} (regs : s.regsWf = true) (hand : s.boot.hand = none) (runs : (s.boot.start w).isSome = true)
    (iso : s.rb Reg.TWIN_CTL (Fld.iso w) = false) (off : s.roleOf w = .off) :
    ∃ x, StartSteps (s.startEnded w) x ∧ startDone w s = roleAtStart w x := by
  have h3 := ((((StartSteps.refl (s.startEnded w)).beating w).calAtStart w).settingsStart w).trialStarts w
  rw [startDone_running runs]
  generalize trialStarts w _ = s3 at h3 ⊢
  have ended : (s.startEnded w).regs = s.regs := by cases w <;> rfl
  have hand3 : s3.boot.hand = .none := h3.hand.trans (by cases w <;> exact hand)
  have role3 : s3.roleOf w = .off := (roleOf_congr h3.role w).trans (by cases w <;> exact off)
  have iso3 : s3.rb Reg.TWIN_CTL (Fld.iso w) = false := by
    have ctl := (h3.regs (by rw [State.regsWf, ended]; exact regs)).2
    rw [rb_congr _ _ (by cases w <;> decide) ctl, ← iso]
    exact rb_congr _ _ (by cases w <;> decide) (by rw [State.reg, ended]; rfl)
  refine ⟨s3, h3, ?_⟩
  rw [roleAfter, hand3, if_neg (by simp), if_neg (by simp [iso3]), if_neg (by simp [role3]), if_neg (by simp [role3])]

theorem startEnded_role (s : State) (w : Twin) : (s.startEnded w).role = s.role := by cases w <;> rfl
theorem startEnded_now (s : State) (w : Twin) : (s.startEnded w).now = s.now := by cases w <;> rfl
theorem startEnded_mainOff (s : State) (w : Twin) : (s.startEnded w).mainOff = s.mainOff := by cases w <;> rfl
theorem startEnded_regsWf (s : State) (w : Twin) : (s.startEnded w).regsWf = s.regsWf := by cases w <;> rfl
theorem startEnded_start (s : State) (w : Twin) : (s.startEnded w).boot.start w = none := by cases w <;> rfl
theorem startEnded_started_self (s : State) (w : Twin) : (s.startEnded w).started w = true := by cases w <;> rfl
theorem startEnded_started_other (s : State) (w : Twin) : (s.startEnded w).started w.other = s.started w.other := by cases w <;> rfl

/-- The part's flags but for the starts. -/
theorem startEnded_dev (s : State) (w : Twin) : (s.startEnded w).dev.firstAt = s.dev.firstAt ∧ (s.startEnded w).dev.everActive = s.dev.everActive ∧
    (s.startEnded w).dev.fiveSec = s.dev.fiveSec ∧ (s.startEnded w).dev.releasedAt = s.dev.releasedAt := by
  cases w <;> exact ⟨rfl, rfl, rfl, rfl⟩

/-- What is known of the state in which a twin whose start has ended takes its role. -/
structure AtStart (w : Twin) (s x : State) : Prop where
  role : x.role = s.role
  now : x.now = s.now
  mainOff : x.mainOff = s.mainOff
  regs : x.regsWf = true
  start : x.boot.start w = none
  self : x.started w = true
  other : x.started w.other = s.started w.other
  firstAt : x.dev.firstAt = s.dev.firstAt
  everActive : x.dev.everActive = s.dev.everActive
  fiveSec : x.dev.fiveSec = s.dev.fiveSec
  releasedAt : x.dev.releasedAt = s.dev.releasedAt

theorem StartSteps.atStart {w : Twin} {x : State} (h : StartSteps (s.startEnded w) x) (regs : s.regsWf = true) : AtStart w s x := by
  obtain ⟨firstAt, everActive, fiveSec, releasedAt⟩ := startEnded_dev s w
  have started : ∀ y, x.started y = (s.startEnded w).started y := fun y => by cases y <;> simp only [State.started, h.dev]
  exact ⟨h.role.trans (startEnded_role s w), h.now.trans (startEnded_now s w), h.mainOff.trans (startEnded_mainOff s w),
    (h.regs (by rw [startEnded_regsWf]; exact regs)).1, (h.start w).trans (startEnded_start s w),
    (started w).trans (startEnded_started_self s w), (started w.other).trans (startEnded_started_other s w),
    by rw [h.dev]; exact firstAt, by rw [h.dev]; exact everActive, by rw [h.dev]; exact fiveSec, by rw [h.dev]; exact releasedAt⟩

theorem AtStart.active {w : Twin} {x : State} (h : AtStart w s x) : x.active = s.active := by rw [State.active, State.active, h.role]

theorem roleOf_of_active {w : Twin} (h : s.active = some w) : s.roleOf w = .active := by
  unfold State.active at h
  split at h
  next e => cases h; exact e
  next =>
    split at h
    next e => cases h; exact e
    next => cases h

theorem roleOf_put_self (r : Roles) (s : State) (w : Twin) (x : Role) (h : s.role = r.put w x) : s.roleOf w = x := by
  cases w <;> simp only [State.roleOf, h] <;> rfl

theorem roleOf_put_other (s u : State) (w : Twin) (x : Role) (h : u.role = s.role.put w x) : u.roleOf w.other = s.roleOf w.other := by
  cases w <;> simp only [Twin.other, State.roleOf, h] <;> rfl

/-- With the other twin ACTIVE, a twin whose start has ended enters RESYNC. -/
theorem roleAtStart_resync {w : Twin} {x : State} (h : AtStart w s x) (act : s.active = some w.other) (late : w = .a → s.dev.firstAt ≠ some s.now) :
    (roleAtStart w x).roleOf w = .resync ∧ (roleAtStart w x).started w = true ∧ (roleAtStart w x).roleOf w.other = .active ∧
      (roleAtStart w x).boot.start w = none := by
  have act' : x.active = some w.other := h.active.trans act
  have e : roleAtStart w x = x.setRole w .resync := by
    rw [roleAtStart, if_neg, if_pos (by rw [act']; rfl)]
    rintro ⟨rfl, -, first⟩
    rw [h.firstAt, h.now] at first
    exact late rfl first
  have steps := setRole_steps x (quietEntry_resync (x.roleOf w))
  rw [e]
  refine ⟨roleOf_put_self _ _ _ _ steps.role, (steps.started w).trans ?_, (roleOf_put_other x _ _ _ steps.role).trans (roleOf_of_active act'), ?_⟩
  · rw [← h.self]; cases w <;> rfl
  · rw [steps.boot]; exact h.start

/-- Twin A takes ACTIVE from a Twin B whose start has ended in the same clock. -/
theorem roleAtStart_first {x : State} (h : AtStart .a s x) (act : s.active = some .b) (first : s.dev.firstAt = some s.now) :
    (roleAtStart .a x).role = ⟨.active, .resync⟩ ∧ (roleAtStart .a x).started .a = true := by
  have e : roleAtStart .a x = x.setRoles .active .resync :=
    if_pos ⟨rfl, h.active.trans act, by rw [h.firstAt, h.now]; exact first⟩
  obtain ⟨steps, -⟩ := setRoles_steps x (quietEntry_active _) (quietEntry_resync _)
  rw [e]
  exact ⟨steps.role, (steps.started .a).trans h.self⟩

theorem roleAtStart_none {w : Twin} {x : State} (h : AtStart w s x) (act : s.active = none) (ever : s.dev.everActive = false) :
    roleAtStart w x = if w = .a then x.takeActive .a
      else if x.dev.fiveSec ∨ x.dev.releasedAt + 5000000000 ≤ x.now then
        { x.takeActive .b with dev := { (x.takeActive .b).dev with firstAt := some (x.takeActive .b).now } }
      else x := by
  have act' : x.active = none := h.active.trans act
  have ever' : ¬ x.dev.everActive = true := by rw [h.everActive, ever]; decide
  rw [roleAtStart, if_neg (by rw [act']; rintro ⟨-, e, -⟩; cases e), if_neg (by rw [act']; decide), firstActive, if_neg ever']

/-- A twin that takes ACTIVE while the other has no start complete leaves the other's role. -/
theorem takeActive_alone (s : State) (w : Twin) (h : s.started w.other = false) : s.takeActive w = s.setRoles2 w .active (s.roleOf w.other) := by
  unfold State.takeActive
  extract_lets o ro
  have e : ro = s.roleOf o := if_neg (fun c => by rw [h] at c; cases c.2.1)
  rw [e]

/-- Twin A alone takes ACTIVE, with E7. -/
theorem roleAtStart_alone {x : State} (h : AtStart .a s x) (act : s.active = none) (ever : s.dev.everActive = false) (off : s.roleOf .b = .off)
    (idle : s.started .b = false) : (roleAtStart .a x).role = ⟨.active, .off⟩ ∧ (roleAtStart .a x).started .a = true ∧
      (s.mainOff = false → (roleAtStart .a x).evtPending 7 = true) := by
  have off' : x.role.b = .off := by rw [h.role]; exact off
  have e : roleAtStart .a x = x.setRoles .active .off := by
    rw [roleAtStart_none h act ever, if_pos rfl, takeActive_alone x .a (h.other.trans idle)]
    exact congrArg (x.setRoles .active) off'
  obtain ⟨steps, pend⟩ := setRoles_steps x (quietEntry_active _) (.inl off' : quietEntry x.role.b .off)
  rw [e]
  refine ⟨steps.role, (steps.started .a).trans h.self, fun on => pend h.regs (h.mainOff.trans on) ?_⟩
  rw [h.active, act]
  intro c; cases c

/-- Twin B stays as it is within the first 5 s. -/
theorem roleAtStart_early {x : State} (h : AtStart .b s x) (act : s.active = none) (ever : s.dev.everActive = false) (five : s.dev.fiveSec = false)
    (early : s.now < s.dev.releasedAt + 5000000000) : roleAtStart .b x = x := by
  rw [roleAtStart_none h act ever, if_neg (by decide), if_neg]
  rw [h.fiveSec, h.releasedAt, h.now, five]
  rintro (c | c)
  · cases c
  · omega

theorem exec_twinStartComplete (t : Nat) (w : Twin) (s : State) : exec (.twinStartComplete t w) s = .next (startDone w (s.beginAt t)) := rfl

/-- Of two twins a predicate picks one. -/
theorem each_one {p : Twin → Bool} {w : Twin} (h : p w = true) (o : p w.other = false) (f : Twin → State → State) (s : State) :
    s.each p f = f w s := by
  have idle : ¬ p w.other = true := by rw [o]; decide
  cases w with
  | a => exact (if_neg idle).trans (if_pos h)
  | b => exact (if_pos h).trans (congrArg (f .b) (if_neg idle))

/-- Five seconds after the release Twin B takes ACTIVE where it alone has completed. -/
theorem twinStartTimeout_takes (held : s.dev.inReset = false) (five : s.dev.fiveSec = false) (act : s.active = none)
    (ever : s.dev.everActive = false) (done : s.started .b = true) (iso : s.rb Reg.TWIN_CTL (Fld.iso .b) = false) :
    ∃ x : State, x.role = s.role ∧ x.dev.fiveSec = true ∧ x.now = max s.now (s.dev.releasedAt + 5000000000) ∧ x.started .a = s.started .a ∧
      exec .twinStartTimeout s = .next (x.takeActive .b) := by
  refine ⟨{ s.begin.at (s.dev.releasedAt + 5000000000) with dev := { s.dev with fiveSec := true } }, rfl, rfl, rfl, rfl, ?_⟩
  have held' : (s.begin.dev.inReset || s.begin.dev.fiveSec) = false := by
    change (s.dev.inReset || s.dev.fiveSec) = false
    rw [held, five]; rfl
  change execTwinStartTimeout s = _
  unfold execTwinStartTimeout
  extract_lets s0 s1 s2
  rw [if_neg (by simp only [s0]; rw [held']; decide)]
  refine if_pos ⟨?_, ?_, done, ?_⟩
  · change s.active.isNone = true; rw [act]; rfl
  · change (!s.dev.everActive) = true; rw [ever]; rfl
  · change (!s.rb Reg.TWIN_CTL (Fld.iso .b)) = true; rw [iso]; rfl

/-- Settles O7: the last steps of a start leave the roles, and then the cases of R18 follow. -/
theorem startSequenceGivesRoles : Obligations.StartSequenceGivesRoles := by
  unfold Obligations.StartSequenceGivesRoles
  intro s t tidy hand
  obtain ⟨regs, -⟩ := tidy_iff.1 tidy
  have regs' : (s.beginAt t).regsWf = true := regs
  refine ⟨fun w runs iso off _ => ?_, fun w mine other runs iso off act late => ?_, fun held five act ever doneB idle off _ iso => ?_⟩
  · obtain ⟨x, steps, e⟩ := startDone_eq (s := s.beginAt t) regs' hand runs iso (by rw [State.beginAt_roleOf]; exact off)
    have h := steps.atStart regs'
    have run : exec (.twinStartComplete t w) s = .next (roleAtStart w x) := by rw [exec_twinStartComplete, e]
    refine ⟨fun act late => ?_, fun act hw first => ?_, fun act ever hw offB idle => ?_, fun act ever hw five early => ?_⟩
    · obtain ⟨mine, started, other, -⟩ := roleAtStart_resync h act late
      exact ⟨_, run, mine, started, other⟩
    · subst hw
      exact ⟨_, run, roleAtStart_first h act first⟩
    · subst hw
      exact ⟨_, run, roleAtStart_alone (s := s.beginAt t) h act ever offB idle⟩
    · subst hw
      refine ⟨_, run, ?_⟩
      rw [roleAtStart_early h act ever five early]
      exact ⟨h.role, h.self⟩
  · obtain ⟨x, steps, e⟩ := startDone_eq (s := s.beginAt t) regs' hand runs iso (by rw [State.beginAt_roleOf]; exact off)
    obtain ⟨role, started, -, start⟩ := roleAtStart_resync (steps.atStart regs') act late
    have run : exec (.fwTrial t) s = .next (roleAtStart w x) := by
      rw [← e]
      exact congrArg Host.Outcome.next (each_one (p := (s.beginAt t).fiddlehead) mine other startDone _)
    exact ⟨_, run, role, started, start⟩
  · obtain ⟨x, role, fiveSec, now, started, run⟩ := twinStartTimeout_takes held five act ever doneB iso
    have offA : x.role.a = .off := by rw [role]; exact off
    have e : x.takeActive .b = x.setRoles .off .active := by
      rw [takeActive_alone x .b (started.trans idle)]
      exact congrArg (fun r => x.setRoles r .active) offA
    obtain ⟨steps, -⟩ := setRoles_steps x (.inl offA : quietEntry x.role.a .off) (quietEntry_active _)
    rw [e] at run
    exact ⟨_, run, steps.role, steps.fiveSec.trans fiveSec, steps.now.trans now⟩

end Sys2Proof.Machine
end

section
/-!
A received frame (R135 to R138, R142 to R146): what it counts, and the first source of a universe.
-/
namespace Sys2Proof.Machine

set_option Elab.async false

variable {s u : State}

/-! ### A value put in a sparse table -/

/-- A value that is not the default stands at its key, whatever the table's form. -/
theorem Smap.get_put_self {α : Type} [DecidableEq α] {d v : α} (hv : v ≠ d) (i : Nat) :
    ∀ m : List (Nat × α), Smap.get d (Smap.set d m i v) i = v
  | [] => by simp [Smap.set, Smap.get, hv]
  | (j, x) :: rest => by
    have ih := Smap.get_put_self hv i rest
    by_cases eq : i = j
    · simp [Smap.set, Smap.get, eq, hv]
    · by_cases lt : i < j
      · simp [Smap.set, Smap.get, eq, lt, hv]
      · simp [Smap.set, Smap.get, eq, lt, ih]

/-- Every other key reads as before, whatever the table's form. -/
theorem Smap.get_put_ne {α : Type} [DecidableEq α] {d v : α} (hv : v ≠ d) {i k : Nat} (hk : k ≠ i) :
    ∀ m : List (Nat × α), Smap.get d (Smap.set d m i v) k = Smap.get d m k
  | [] => by simp [Smap.set, Smap.get, hv, hk]
  | (j, x) :: rest => by
    have ih := Smap.get_put_ne hv hk rest
    by_cases eq : i = j
    · subst eq
      simp [Smap.set, Smap.get, hv, hk]
    · by_cases lt : i < j
      · have outside : k < i → k ≠ j ∧ k < j := fun below => by omega
        by_cases below : k < i
        · simp [Smap.set, Smap.get, eq, lt, hv, hk, below, outside below]
        · simp [Smap.set, Smap.get, eq, lt, hv, hk, below]
      · simp [Smap.set, Smap.get, eq, lt, ih]

theorem univ_setUniv_self {w : Twin} {v : Univ} (hv : v ≠ Univ.empty) (s : State) (e : Nat) : (s.setUniv w e v).univ w e = v := by
  cases w <;> exact Smap.get_put_self hv e _

theorem univ_setUniv_ne {w : Twin} {v : Univ} (hv : v ≠ Univ.empty) (s : State) {e o : Nat} (ho : o ≠ e) :
    (s.setUniv w e v).univ w o = s.univ w o := by
  cases w <;> exact Smap.get_put_ne hv ho _

theorem reg_setUniv (s : State) (w : Twin) (e : Nat) (v : Univ) (a : Nat) : (s.setUniv w e v).reg a = s.reg a := by
  rw [State.reg, State.reg, State.setUniv, State.modNet, modTw_regs]

/-! ### Counters -/

theorem onlyRegs.trans {l : List Nat} {x : State} (h : onlyRegs l s u) (g : onlyRegs l u x) : onlyRegs l s x := by
  refine ⟨?_, fun a ha => (g.regs a ha).trans (h.regs a ha)⟩
  have rest := g.rest
  rw [h.rest] at rest
  exact rest

theorem onlyRegs.setUniv {l : List Nat} (h : onlyRegs l s u) (w : Twin) (e : Nat) (v : Univ) : onlyRegs l (s.setUniv w e v) (u.setUniv w e v) := by
  obtain ⟨rest, only⟩ := h
  generalize u.regs = r at rest
  generalize u.clock = c at rest
  subst rest
  cases w
  · exact ⟨rfl, only⟩
  · exact ⟨rfl, only⟩

theorem onlyRegs.mono {l l' : List Nat} (h : onlyRegs l s u) (sub : l ⊆ l') : onlyRegs l' s u :=
  ⟨h.rest, fun a ha => h.regs a (fun mem => ha (sub mem))⟩

/-- Each twin that takes part counts in its own register. -/
theorem each_bump (h : s.regsWf = true) {p : Twin → Bool} {f : Twin → State → State} {r : Twin → Nat} {c : Fld} (low : c.hi < 32)
    (apart : r .a ≠ r .b) (count : ∀ w x, f w x = x.bump (r w) c) {w : Twin} (hp : p w = true) :
    (s.each p f).reg (r w) = countUp (s.reg (r w)) c ∧ onlyRegs [r .a, r .b] s (s.each p f) := by
  have own : ∀ (x : State) (y : Twin), x.regsWf = true → onlyRegs [r .a, r .b] x (x.bump (r y) c) := fun x y wf =>
    (onlyRegs_bump wf _ _ low).mono (by cases y <;> simp)
  have wf : (s.bump (r .a) c).regsWf = true := State.regsWf_bump h _ _ _
  rw [each_congr count]
  unfold State.each
  cases w with
  | a =>
    rw [if_pos hp]
    split
    · exact ⟨((onlyRegs_bump wf _ _ low).regs _ (by simpa using apart)).trans (reg_bump_countUp h _ _ low), (own _ .a h).trans (own _ .b wf)⟩
    · exact ⟨reg_bump_countUp h _ _ low, own _ .a h⟩
  | b =>
    rw [if_pos hp]
    split
    · refine ⟨(reg_bump_countUp wf _ _ low).trans ?_, (own _ .a h).trans (own _ .b wf)⟩
      rw [(onlyRegs_bump h _ _ low).regs _ (by simpa using apart.symm)]
    · exact ⟨reg_bump_countUp h _ _ low, own _ .b h⟩

theorem rd64_wr64 (h : s.regsWf = true) (a v : Nat) : (s.wr64 a v).rd64 a = v % 2 ^ 64 := by
  have wf : (s.setReg a (BitVec.ofNat 32 v)).regsWf = true := State.regsWf_setReg h _ _
  rw [State.rd64, State.wr64, State.reg_setReg_self wf, State.reg_setReg_ne wf (by omega), State.reg_setReg_self h, BitVec.toNat_ofNat,
    BitVec.toNat_ofNat]
  omega

theorem onlyRegs_wr64 (h : s.regsWf = true) (a v : Nat) : onlyRegs [a, a + 4] s (s.wr64 a v) := by
  refine ⟨rfl, fun b hb => ?_⟩
  obtain ⟨low, high⟩ : b ≠ a ∧ b ≠ a + 4 := by simpa using hb
  rw [State.wr64, State.reg_setReg_ne (State.regsWf_setReg h _ _) high, State.reg_setReg_ne h low]

theorem rd64_congr {a : Nat} (low : u.reg a = s.reg a) (high : u.reg (a + 4) = s.reg (a + 4)) : u.rd64 a = s.rd64 a := by
  rw [State.rd64, State.rd64, low, high]

/-! ### The branches of a received frame -/

section
variable {n t0 : Nat} {good : Bool} {bytes : List Byte} {w : Twin}

theorem rxFrame_runt (short : bytes.length < 64) (w : Twin) (s : State) :
    rxFrame n t0 good bytes w s = s.bump (Reg.NET_RX_ERR w n) Fld.NET_RX_ERR_RUNT := if_pos short

theorem rxFrame_badFcs (long : 64 ≤ bytes.length) (w : Twin) (s : State) :
    rxFrame n t0 false bytes w s = s.bump (Reg.NET_RX_ERR w n) Fld.NET_RX_ERR_FCS :=
  (if_neg (Nat.not_lt.2 long)).trans (if_pos rfl)

/-- A frame that is long enough and whose FCS is good, but that carries two tags. -/
theorem rxFrame_tagged (long : 64 ≤ bytes.length) (tags : 2 ≤ (parse bytes).tags) (w : Twin) (s : State) :
    rxFrame n t0 true bytes w s = s.bump (Reg.NET_RX_DROP w n) Fld.NET_RX_DROP_FILTERED :=
  ((if_neg (Nat.not_lt.2 long)).trans (if_neg Bool.false_ne_true)).trans (if_pos tags)

theorem rxFrame_pause (long : 64 ≤ bytes.length) (tags : (parse bytes).tags < 2) (pause : (parse bytes).etype = 0x8808) (w : Twin) (s : State) :
    rxFrame n t0 true bytes w s = s.bump (Reg.NET_RX_MISC w n) Fld.NET_RX_MISC_PAUSE :=
  (((if_neg (Nat.not_lt.2 long)).trans (if_neg Bool.false_ne_true)).trans (if_neg (Nat.not_le.2 tags))).trans (if_pos pause)

/-- A frame that passes the filter is counted (R135). -/
def State.rxCounted (s : State) (w : Twin) (n len : Nat) : State :=
  let s1 := s.bump (Reg.NET_RX_FRAMES w n) Fld.NET_RX_FRAMES_COUNT
  s1.wr64 (Reg.NET_RX_BYTES w n) ((s1.rd64 (Reg.NET_RX_BYTES w n) + len) % 2 ^ 64)

theorem rxCounted_eq (s : State) (w : Twin) (n len : Nat) : s.rxCounted w n len = { s with regs := (s.rxCounted w n len).regs } := by
  obtain ⟨r, er⟩ := s.exists_sf (Reg.NET_RX_FRAMES w n) Fld.NET_RX_FRAMES_COUNT
    (min (s.rf (Reg.NET_RX_FRAMES w n) Fld.NET_RX_FRAMES_COUNT + 1) (2 ^ (Fld.NET_RX_FRAMES_COUNT.hi - Fld.NET_RX_FRAMES_COUNT.lo + 1) - 1))
  unfold State.rxCounted State.bump
  rw [er]
  rfl

/-- The classifier reads the image, not the registers. -/
theorem classify_regs (s : State) (r : List (Nat × Word)) (w : Twin) (n : Nat) (b : List Byte) :
    ({ s with regs := r } : State).classify w n b = s.classify w n b := rfl

theorem rxFrame_sacn (long : 64 ≤ bytes.length) (tags : (parse bytes).tags < 2) (pause : (parse bytes).etype ≠ 0x8808)
    (mac : s.macPasses w n bytes = true) (fits : bytes.length ≤ s.netMaxLen w n) (cls : s.classify w n bytes = .sacn) :
    rxFrame n t0 true bytes w s = sacnFrame w n t0 bytes (s.rxCounted w n bytes.length) := by
  have eq := rxCounted_eq s w n bytes.length
  have cls' : (s.rxCounted w n bytes.length).classify w n bytes = .sacn := by rw [eq, classify_regs]; exact cls
  have fits' : ¬ (s.rxCounted w n bytes.length).netMaxLen w n < bytes.length := by rw [eq]; exact Nat.not_lt.2 fits
  have mac' : ¬ (!s.macPasses w n bytes) = true := by rw [mac]; decide
  refine ((if_neg (Nat.not_lt.2 long)).trans (if_neg Bool.false_ne_true)).trans ((if_neg (Nat.not_le.2 tags)).trans ?_)
  refine ((if_neg pause).trans (if_neg mac')).trans ((if_neg fits').trans ?_)
  dsimp only [State.rxCounted] at cls' ⊢
  rw [cls']

/-- A data packet of a universe that the image lists. -/
theorem sacnFrame_data {e : Nat} {b : List Byte} (pkt : slice bytes ((parse bytes).body + 8) (beAt bytes ((parse bytes).body + 4) 2 - 8) = b)
    (kind : sacnKind b = .data)
    (listed : (s.usedEntries w 5 1).find? (fun e => decide (s.ent w 5 1 e 0 2 = beAt b 113 2) && bitAt (s.ent w 5 1 e 2 1) n) = some e) :
    sacnFrame w n t0 bytes s = sacnData w n e t0 bytes b s := by
  unfold sacnFrame
  extract_lets p b' uni
  have same : b' = b := pkt
  rw [same, kind]
  simp only [uni, same, listed]

end

/-! ### The first source of a universe -/

/-- What a universe without sources becomes by a data packet, without synchronisation (R144 to R146). -/
def Univ.begun (u : Univ) (src : SacnSrc) (stamp : Nat) : Univ :=
  ({ u with srcs := [src], lost := false, stamp := stamp, pkts := (u.pkts + 1) % 2 ^ 32 } : Univ).merge

theorem map_slotAt (l : List Byte) : (List.range l.length).map (fun i => BitVec.ofNat 8 (slotAt l i)) = l := by
  apply List.ext_getElem
  · simp
  · intro i hi hi'
    simp [slotAt, hi']

theorem leaders_single {u : Univ} {src : SacnSrc} (one : u.srcs = [src]) (live : src.live = true) : u.leaders = [src] := by
  simp [Univ.leaders, Univ.prio, one, live]

/-- One source alone is the merge. -/
theorem merge_single {u : Univ} {src : SacnSrc} (one : u.srcs = [src]) (live : src.live = true) : u.merge = { u with fill := src.data } := by
  have lead := leaders_single one live
  have slots : u.slots = src.data.length := by simp [Univ.slots, lead]
  have data : (List.range u.slots).map (fun i => BitVec.ofNat 8 ((u.leaders.map (fun x => slotAt x.data i)).foldl max 0)) = src.data := by
    rw [slots, lead]
    simpa using map_slotAt src.data
  rw [Univ.merge, if_neg (by rw [one]; simp), data]

theorem begun_eq (u : Univ) {src : SacnSrc} (live : src.live = true) (stamp : Nat) :
    u.begun src stamp = { u with srcs := [src], lost := false, stamp := stamp, pkts := (u.pkts + 1) % 2 ^ 32, fill := src.data } :=
  merge_single rfl live

theorem begun_ne_empty (u : Univ) {src : SacnSrc} (live : src.live = true) (stamp : Nat) : u.begun src stamp ≠ Univ.empty := by
  rw [begun_eq u live]
  intro c
  have none : [src] = [] := congrArg Univ.srcs c
  cases none

/-- The source of a data packet (R143, R144). -/
def State.sacnSource (s : State) (b : List Byte) : SacnSrc :=
  { cid := beAt b 22 16, seq := byteAt b 111, prio := byteAt b 108, heard := s.tbNow 3, live := true, data := slice b 126 (beAt b 123 2 - 1), pend := none }

theorem sacnData_first {w : Twin} {n e t0 : Nat} {frame b : List Byte} (shown : bitAt (byteAt b 112) 7 = false) (stays : bitAt (byteAt b 112) 6 = false)
    (free : bitAt (s.ent w 5 1 e 3 1) 1 = false) (none : (s.univ w e).srcs = []) :
    sacnData w n e t0 frame b s = s.setUniv w e ((s.univ w e).begun (s.sacnSource b) (s.rxStamp w n frame t0)) := by
  simp [sacnData, shown, stays, free, none, Univ.begun, State.sacnSource]

/-- A data packet of the first source, in one twin (R142 to R146). -/
theorem sacnData_counted {w : Twin} {n e t0 len : Nat} {frame b : List Byte} (shown : bitAt (byteAt b 112) 7 = false)
    (stays : bitAt (byteAt b 112) 6 = false) (free : bitAt (s.ent w 5 1 e 3 1) 1 = false) (none : (s.univ w e).srcs = []) :
    ∃ v : Univ, sacnData w n e t0 frame b (s.rxCounted w n len) = (s.rxCounted w n len).setUniv w e v ∧ v ≠ Univ.empty ∧
      v.fill = slice b 126 (beAt b 123 2 - 1) ∧ v.frozen = (s.univ w e).frozen ∧
      v.srcs.map (fun x => (x.cid, x.prio)) = [(beAt b 22 16, byteAt b 108)] := by
  have eq := rxCounted_eq s w n len
  have same : (s.rxCounted w n len).univ w e = s.univ w e := by rw [eq]; cases w <;> rfl
  have free' : bitAt ((s.rxCounted w n len).ent w 5 1 e 3 1) 1 = false := by rw [eq]; exact free
  have first := sacnData_first (n := n) (t0 := t0) (frame := frame) shown stays free' (by rw [same]; exact none)
  rw [same] at first
  refine ⟨_, first, begun_ne_empty _ rfl _, ?_, ?_, ?_⟩
  · rw [begun_eq _ rfl]; rfl
  · rw [begun_eq _ rfl]
  · rw [begun_eq _ rfl]; rfl

/-- What counting a frame leaves, whatever a universe becomes. -/
theorem rxCounted_regs (h : s.regsWf = true) (w : Twin) (n len : Nat) :
    (s.rxCounted w n len).reg (Reg.NET_RX_FRAMES w n) = countUp (s.reg (Reg.NET_RX_FRAMES w n)) Fld.NET_RX_FRAMES_COUNT ∧
    (s.rxCounted w n len).rd64 (Reg.NET_RX_BYTES w n) = (s.rd64 (Reg.NET_RX_BYTES w n) + len) % 2 ^ 64 ∧
    onlyRegs [Reg.NET_RX_FRAMES w n, Reg.NET_RX_BYTES w n, Reg.NET_RX_BYTES w n + 4] s (s.rxCounted w n len) := by
  have frames : Reg.NET_RX_FRAMES w n + 8 = Reg.NET_RX_BYTES w n := by unfold Reg.NET_RX_FRAMES Reg.NET_RX_BYTES; omega
  have one := onlyRegs_bump h (Reg.NET_RX_FRAMES w n) Fld.NET_RX_FRAMES_COUNT (by decide)
  have wf : (s.bump (Reg.NET_RX_FRAMES w n) Fld.NET_RX_FRAMES_COUNT).regsWf = true := State.regsWf_bump h _ _ _
  have two := onlyRegs_wr64 wf (Reg.NET_RX_BYTES w n)
    (((s.bump (Reg.NET_RX_FRAMES w n) Fld.NET_RX_FRAMES_COUNT).rd64 (Reg.NET_RX_BYTES w n) + len) % 2 ^ 64)
  refine ⟨?_, ?_, (one.mono (by simp)).trans (two.mono (by simp))⟩
  · exact (two.regs _ (by simp only [List.mem_cons, List.not_mem_nil, or_false, not_or]; omega)).trans (reg_bump_countUp h _ _ (by decide))
  · refine (rd64_wr64 wf _ _).trans ?_
    rw [Nat.mod_mod, rd64_congr (one.regs _ _) (one.regs _ _)]
    · simp only [List.mem_singleton]; omega
    · simp only [List.mem_singleton]; omega

/-- A data packet of the first source, received in one twin (R135, R142 to R146). -/
theorem rxFrame_first (wf : s.regsWf = true) {w : Twin} {n e t0 : Nat} {bytes b : List Byte}
    (pkt : slice bytes ((parse bytes).body + 8) (beAt bytes ((parse bytes).body + 4) 2 - 8) = b) (long : 64 ≤ bytes.length)
    (tags : (parse bytes).tags < 2) (pause : (parse bytes).etype ≠ 0x8808) (mac : s.macPasses w n bytes = true)
    (fits : bytes.length ≤ s.netMaxLen w n) (cls : s.classify w n bytes = .sacn) (kind : sacnKind b = .data)
    (listed : (s.usedEntries w 5 1).find? (fun e => decide (s.ent w 5 1 e 0 2 = beAt b 113 2) && bitAt (s.ent w 5 1 e 2 1) n) = some e)
    (shown : bitAt (byteAt b 112) 7 = false) (stays : bitAt (byteAt b 112) 6 = false) (free : bitAt (s.ent w 5 1 e 3 1) 1 = false)
    (none : (s.univ w e).srcs = []) :
    ∃ u, rxFrame n t0 true bytes w s = u ∧
    u.reg (Reg.NET_RX_FRAMES w n) = countUp (s.reg (Reg.NET_RX_FRAMES w n)) Fld.NET_RX_FRAMES_COUNT ∧
    u.rd64 (Reg.NET_RX_BYTES w n) = (s.rd64 (Reg.NET_RX_BYTES w n) + bytes.length) % 2 ^ 64 ∧
    (u.univ w e).fill = slice b 126 (beAt b 123 2 - 1) ∧ (u.univ w e).frozen = (s.univ w e).frozen ∧
    (u.univ w e).srcs.map (fun x => (x.cid, x.prio)) = [(beAt b 22 16, byteAt b 108)] ∧ (∀ o, o ≠ e → u.univ w o = s.univ w o) ∧
    onlyRegs [Reg.NET_RX_FRAMES w n, Reg.NET_RX_BYTES w n, Reg.NET_RX_BYTES w n + 4] (s.setUniv w e (u.univ w e)) u := by
  obtain ⟨v, eq, some, fill, frozen, srcs⟩ := sacnData_counted (n := n) (t0 := t0) (len := bytes.length) (frame := bytes) shown stays free none
  obtain ⟨frames, octets, only⟩ := rxCounted_regs wf w n bytes.length
  have counted := rxCounted_eq s w n bytes.length
  have run := rxFrame_sacn (t0 := t0) long tags pause mac fits cls
  generalize s.rxCounted w n bytes.length = x at *
  have listed' : (x.usedEntries w 5 1).find? (fun e => decide (x.ent w 5 1 e 0 2 = beAt b 113 2) && bitAt (x.ent w 5 1 e 2 1) n) = .some e := by
    rw [counted]; exact listed
  have univs : ∀ o, x.univ w o = s.univ w o := fun o => by rw [counted]; cases w <;> rfl
  have same := reg_setUniv x w e v
  have self : (x.setUniv w e v).univ w e = v := univ_setUniv_self some x e
  refine ⟨x.setUniv w e v, run.trans ((sacnFrame_data pkt kind listed').trans eq), ?_⟩
  rw [self]
  exact ⟨(same _).trans frames, (rd64_congr (same _) (same _)).trans octets, fill, frozen, srcs,
    fun o ho => (univ_setUniv_ne some x ho).trans (univs o), only.setUniv w e v⟩

theorem exec_netRxFrame (t t0 : Nat) (n : Fin 4) (good : Bool) (bytes : List Byte) (runs : s.netStopped = false) :
    exec (.netRxFrame t t0 n good bytes) s = .next ((s.beginAt t).each (fun w => decide ((s.beginAt t).roleOf w ≠ .off) &&
      decide ((s.beginAt t).netMode w n.val ≠ 0) && (s.beginAt t).rb (Reg.NET_LINK w n.val) Fld.NET_LINK_LINK_UP) (rxFrame n.val t0 good bytes)) :=
  if_neg (fun c => by have on : s.netStopped = true := c; rw [runs] at on; cases on)

/-- Settles O25: each branch of the receiver counts in a register of its own twin, and the first source of a universe is its merge. -/
theorem receivedFrameIsClassified : Obligations.ReceivedFrameIsClassified := by
  unfold Obligations.ReceivedFrameIsClassified
  intro s t t0 n good bytes tidy
  obtain ⟨regs, -⟩ := tidy_iff.1 tidy
  have regs' : (s.beginAt t).regsWf = true := regs
  refine ⟨fun stopped => if_pos stopped, fun w runs on mode up => ?_⟩
  rw [exec_netRxFrame t t0 n good bytes runs]
  have takes : (decide ((s.beginAt t).roleOf w ≠ .off) && decide ((s.beginAt t).netMode w n.val ≠ 0) &&
      (s.beginAt t).rb (Reg.NET_LINK w n.val) Fld.NET_LINK_LINK_UP) = true := by
    have on' : (s.beginAt t).roleOf w ≠ .off := by rw [State.beginAt_roleOf]; exact on
    have mode' : (s.beginAt t).netMode w n.val ≠ 0 := mode
    have up' : (s.beginAt t).rb (Reg.NET_LINK w n.val) Fld.NET_LINK_LINK_UP = true := up
    rw [decide_eq_true on', decide_eq_true mode', up']; rfl
  refine ⟨fun short => ?_, fun long bad => ?_, fun long fine tags => ?_, fun long fine tags pause => ?_, ?_⟩
  · exact ⟨_, rfl, each_bump (r := fun w => Reg.NET_RX_ERR w n.val) regs' (by decide) (by simp [Reg.NET_RX_ERR, Twin.base])
      (rxFrame_runt short) takes⟩
  · subst bad
    exact ⟨_, rfl, each_bump (r := fun w => Reg.NET_RX_ERR w n.val) regs' (by decide) (by simp [Reg.NET_RX_ERR, Twin.base])
      (rxFrame_badFcs long) takes⟩
  · subst fine
    exact ⟨_, rfl, each_bump (r := fun w => Reg.NET_RX_DROP w n.val) regs' (by decide) (by simp [Reg.NET_RX_DROP, Twin.base])
      (rxFrame_tagged long tags) takes⟩
  · subst fine
    exact ⟨_, rfl, each_bump (r := fun w => Reg.NET_RX_MISC w n.val) regs' (by decide) (by simp [Reg.NET_RX_MISC, Twin.base])
      (rxFrame_pause long tags pause) takes⟩
  · intro b e off long fine tags pause mac fits cls kind listed shown stays free none
    subst fine
    have off' : (s.beginAt t).roleOf w.other = .off := by rw [State.beginAt_roleOf]; exact off
    have alone : (decide ((s.beginAt t).roleOf w.other ≠ .off) && decide ((s.beginAt t).netMode w.other n.val ≠ 0) &&
        (s.beginAt t).rb (Reg.NET_LINK w.other n.val) Fld.NET_LINK_LINK_UP) = false := by rw [off']; rfl
    have univ : ∀ o, (s.beginAt t).univ w o = s.univ w o := fun o => by cases w <;> rfl
    rw [each_one takes alone]
    obtain ⟨u, run, frames, octets, fill, frozen, srcs, others, only⟩ := rxFrame_first (s := s.beginAt t) (n := n.val) (e := e) (t0 := t0) (b := b) regs' rfl long tags
      pause mac fits cls kind listed shown stays free ((congrArg Univ.srcs (univ e)).trans none)
    exact ⟨u, congrArg Host.Outcome.next run, frames, octets, fill, frozen.trans (congrArg Univ.frozen (univ e)), srcs, fun o ho => (others o ho).trans (univ o), only⟩

end Sys2Proof.Machine
end

section
/-!
What most of the model's operations leave alone: the roles and what waits to change them, the main domain, and the bytes of the mailbox.
-/
namespace Sys2Proof.Machine

set_option Elab.async false

variable {s0 s u : State}

/-- The roles, what waits to change them, and the main domain. -/
structure CalmView where
  role : Roles
  swapDue : Option SwapDue
  arb : Option Arb
  hand : Option Handover
  sleep : Option SleepReq
  mainOff : Bool

def State.calmView (s : State) : CalmView := ⟨s.role, s.swapDue, s.peri.arb, s.boot.hand, s.pwr.sleep, s.mainOff⟩

/-- The bytes of the mailbox (R31). -/
def boxByte (a : Nat) : Bool := decide (0x01000000 ≤ a ∧ a < 0x01010000)

/-- The bytes of the mailbox are as they were. -/
def BoxKept (s u : State) : Prop := Memory.wf s.mem = true → Memory.wf u.mem = true ∧ ∀ a, boxByte a = true → u.rdB a = s.rdB a

/-- `u` has the roles, what waits to change them, the main domain and the mailbox of `s`. -/
structure Calm (s u : State) : Prop where
  view : u.calmView = s.calmView
  box : BoxKept s u

/-! ### The mailbox -/

theorem BoxKept.refl (s : State) : BoxKept s s := fun h => ⟨h, fun _ _ => rfl⟩

theorem BoxKept.trans (h : BoxKept s0 s) (g : BoxKept s u) : BoxKept s0 u := fun x => by
  obtain ⟨wf, same⟩ := h x
  obtain ⟨wf', same'⟩ := g wf
  exact ⟨wf', fun a ha => (same' a ha).trans (same a ha)⟩

theorem BoxKept.of_mem (h : u.mem = s.mem) : BoxKept s u := fun x => ⟨by rw [h]; exact x, fun a _ => by rw [State.rdB, State.rdB, h]⟩

theorem BoxKept.wrB (s : State) {a : Nat} (ha : 0x01010000 ≤ a) (v : Byte) : BoxKept s (s.wrB a v) := fun x =>
  ⟨State.memWf_wrB x a v, fun b hb => State.rdB_wrB_ne x (by simp only [boxByte, decide_eq_true_eq] at hb; omega) v⟩

theorem BoxKept.resetMem (s : State) {p : Nat → Bool} (hp : ∀ a, p a = true → 0x01010000 ≤ a) : BoxKept s (s.resetMem p) := fun x =>
  ⟨Smap.wf_filter x _, fun a ha => by
    have out : (!p a) = true := by
      by_contra c
      have := hp a (by simpa using c)
      simp only [boxByte, decide_eq_true_eq] at ha
      omega
    exact Smap.get_filter_in (q := fun a => !p a) x out _⟩

theorem BoxKept.evt (h : Evt s u) : BoxKept s u := fun x => by
  obtain ⟨wf, keep⟩ := h.bytes x
  refine ⟨wf, fun a ha => keep a ?_⟩
  simp only [boxByte, decide_eq_true_eq] at ha
  simp only [evtByte, decide_eq_false_iff_not]
  omega

/-! ### What carries `Calm` through a definition -/

theorem Calm.refl (s : State) : Calm s s := ⟨rfl, .refl s⟩

theorem Calm.trans (h : Calm s0 s) (g : Calm s u) : Calm s0 u := ⟨g.view.trans h.view, h.box.trans g.box⟩

theorem Calm.ite {a b : State} {c : Prop} [Decidable c] (ha : Calm s a) (hb : Calm s b) : Calm s (if c then a else b) := by
  split
  · exact ha
  · exact hb

theorem Calm.foldl {α : Type} {f : State → α → State} (h : Calm s0 s) (step : ∀ x e, Calm s0 x → Calm s0 (f x e)) (l : List α) :
    Calm s0 (l.foldl f s) := by
  induction l generalizing s with
  | nil => exact h
  | cons e l ih => exact ih (step s e h)

/-- A fold that carries a number beside the state. -/
theorem Calm.foldl_snd {α β : Type} {f : β × State → α → β × State} (step : ∀ p e, Calm s0 p.2 → Calm s0 (f p e).2) (l : List α) :
    ∀ p : β × State, Calm s0 p.2 → Calm s0 (l.foldl f p).2 := by
  induction l with
  | nil => exact fun _ h => h
  | cons e l ih => exact fun p h => ih _ (step p e h)

theorem Calm.each {p : Twin → Bool} {f : Twin → State → State} (h : Calm s0 s) (step : ∀ w x, Calm s0 x → Calm s0 (f w x)) :
    Calm s0 (s.each p f) := by
  unfold State.each
  split
  · exact .ite (step _ _ (step _ _ h)) (step _ _ h)
  · exact .ite (step _ _ h) h

/-- A change beside what `Calm` names. -/
theorem Calm.frame (h : Calm s0 s) (view : u.calmView = s.calmView := by rfl) (mem : u.mem = s.mem := by rfl) : Calm s0 u :=
  h.trans ⟨view, .of_mem mem⟩

theorem Calm.evt (h : Calm s0 s) (g : Evt s u) : Calm s0 u := by
  refine h.trans ⟨?_, .evt g⟩
  rw [g.rest]
  rfl

/-! ### The shared operations -/

section
variable (h : Calm s0 s)
include h

theorem Calm.wrB {a : Nat} {v : Byte} (ha : 0x01010000 ≤ a) : Calm s0 (s.wrB a v) := h.trans ⟨rfl, .wrB s ha v⟩

theorem Calm.wrBytes {a : Nat} {l : List Byte} (ha : 0x01010000 ≤ a) : Calm s0 (s.wrBytes a l) := by
  induction l generalizing s a with
  | nil => exact h
  | cons b l ih => exact ih (h.wrB ha) (by omega)

theorem Calm.resetMem {p : Nat → Bool} (hp : ∀ a, p a = true → 0x01010000 ≤ a) : Calm s0 (s.resetMem p) := h.trans ⟨rfl, .resetMem s hp⟩

theorem Calm.setReg {a : Nat} {v : Word} : Calm s0 (s.setReg a v) := h.frame
theorem Calm.orReg {a v : Nat} : Calm s0 (s.orReg a v) := h.setReg
theorem Calm.sf {a : Nat} {f : Fld} {v : Nat} : Calm s0 (s.sf a f v) := by
  unfold State.sf
  exact .ite h.setReg.setReg h.setReg
theorem Calm.sb {a : Nat} {f : Fld} {v : Bool} : Calm s0 (s.sb a f v) := h.sf
theorem Calm.bump {a : Nat} {f : Fld} {n : Nat} : Calm s0 (s.bump a f n) := h.sf
theorem Calm.peak {a : Nat} {f : Fld} {n : Nat} : Calm s0 (s.peak a f n) := (h.sf).frame
theorem Calm.wr64 {a v : Nat} : Calm s0 (s.wr64 a v) := h.setReg.setReg
theorem Calm.modTw {w : Twin} {f : TwinState → TwinState} : Calm s0 (s.modTw w f) := by cases w <;> exact h.frame
theorem Calm.modFrame {w : Twin} {k : Nat} {f : FrameAcct → FrameAcct} : Calm s0 (s.modFrame w k f) := h.modTw
theorem Calm.modSorus {w : Twin} {f : Sorus → Sorus} : Calm s0 (s.modSorus w f) := h.modTw
theorem Calm.modHlth {w : Twin} {f : Health → Health} : Calm s0 (s.modHlth w f) := h.modTw
theorem Calm.modNet {w : Twin} {f : Net → Net} : Calm s0 (s.modNet w f) := h.modTw
theorem Calm.setStrand {w : Twin} {p : Nat} {x : Strand} : Calm s0 (s.setStrand w p x) := h.modTw
theorem Calm.setDmx {w : Twin} {p : Nat} {x : DmxPort} : Calm s0 (s.setDmx w p x) := h.modTw
theorem Calm.setSacnOut {w : Twin} {n : Nat} {x : SacnOut} : Calm s0 (s.setSacnOut w n x) := h.modTw
theorem Calm.at {t : Nat} : Calm s0 (s.at t) := h.frame
theorem Calm.emit {o : Out} : Calm s0 (s.emit o) := h.frame
theorem Calm.emitPkt {p at_ : Nat} {b : List Byte} : Calm s0 (s.emitPkt p at_ b) := h.frame
theorem Calm.frameFlag {f : Nat} : Calm s0 (s.frameFlag f) := h.frame
theorem Calm.bankViol {w : Twin} {n : Nat} : Calm s0 (s.bankViol w n) := h.bump.sf
theorem Calm.setHealth {w : Twin} {bit : Nat} : Calm s0 (s.setHealth w bit) := by
  unfold State.setHealth
  refine .ite h ?_
  cases w
  · exact h.frame
  · exact h.frame
theorem Calm.raiseTwinAt {w : Twin} {n data stamp : Nat} (hn : n < 256 := by decide) : Calm s0 (s.raiseTwinAt w n data stamp) :=
  h.evt ((Evt.refl s).raiseTwinAt _ _ _ _ hn)
theorem Calm.raiseTwin {w : Twin} {n data : Nat} (hn : n < 256 := by decide) : Calm s0 (s.raiseTwin w n data) := h.raiseTwinAt hn
theorem Calm.raiseIf {w : Twin} {ctl n data : Nat} {en : Fld} (hn : n < 256 := by decide) : Calm s0 (s.raiseIf w ctl en n data) :=
  .ite (h.raiseTwin hn) h
theorem Calm.raiseOnce {w : Twin} {ctl n data : Nat} {en : Fld} (hn : n < 256 := by decide) : Calm s0 (s.raiseOnce w ctl en n data) :=
  .ite (h.modTw.raiseTwin hn) h
theorem Calm.raiseTh {n data : Nat} (hn : n < 256 := by decide) : Calm s0 (s.raiseTh n data) := h.evt ((Evt.refl s).raiseTh _ _ hn)
theorem Calm.setCalUnit {n : Nat} {x : CalUnit} : Calm s0 (s.setCalUnit n x) := h.frame

end

/-! ### Work queues -/

section
variable (h : Calm s0 s) {w : Twin} {q by_ stampTick k : Nat} {soft : Bool} {item : Item}
include h

theorem Calm.pushItem : Calm s0 (pushItem w q by_ soft stampTick item s).2.2 := h.evt ((Evt.refl s).pushItem _ _ _ _ _ _)

theorem Calm.pushLost : Calm s0 (pushLost w q s) := h.bump.bump.raiseOnce

theorem Calm.giveWay {t : Slot} : Calm s0 (giveWay w q t s) := .ite h.modTw.pushLost.sf h.modTw.pushLost

theorem Calm.pushPlaced : Calm s0 (pushPlaced w q by_ soft stampTick item s).2.2 := by
  unfold Machine.pushPlaced
  extract_lets r
  split
  · exact h.giveWay.pushItem
  · exact h.pushItem

theorem Calm.pushCounted : Calm s0 (pushCounted w q by_ soft stampTick item s).2 := by
  have placed : Calm s0 (Machine.pushPlaced w q by_ soft stampTick item s).2.2 := h.pushPlaced
  unfold Machine.pushCounted
  generalize Machine.pushPlaced w q by_ soft stampTick item s = p at placed
  obtain ⟨r, cut, s1⟩ := p
  have h2 : Calm s0 (if cut then s1.bump (Reg.SORUS_ERR w) Fld.SORUS_ERR_PKT_TRUNC else s1) := .ite placed.bump placed
  cases r
  case done => exact h2
  case full => exact h2.pushLost
  case bank => exact h2.bankViol.raiseOnce.pushLost
  case window => exact h2.bump.bump.raiseOnce
  all_goals exact h2.bump.raiseOnce

theorem Calm.drainFlow {f fuel : Nat} : Calm s0 (drainFlow w f fuel s) := by
  induction fuel generalizing s with
  | zero => exact h
  | succ fuel ih =>
    unfold Machine.drainFlow
    extract_lets
    split
    · exact h
    · split
      · extract_lets
        exact ih (Calm.modSorus (.ite h.bump h.pushCounted))
      · exact h

theorem Calm.dropSlots {p : Slot → Bool} : Calm s0 (dropSlots w q p s) := h.modSorus.foldl (fun _ _ hx => hx.drainFlow) _

end

end Sys2Proof.Machine
end

section
/-!
What falls between two ticks leaves alone: the compute deadline, the latch and the frame records (R60 to R72).
-/
namespace Sys2Proof.Machine

set_option Elab.async false

variable {s0 s u : State}

/-! ### Addresses above the mailbox -/

theorem box_le_twin (w : Twin) (n : Nat) : 0x01010000 ≤ w.base + n := by cases w <;> simp only [Twin.base] <;> omega
theorem box_le_twin2 (w : Twin) (n m : Nat) : 0x01010000 ≤ w.base + n + m := by have := box_le_twin w n; omega
theorem box_le_img (w : Twin) (ty inst off : Nat) : 0x01010000 ≤ Addr.img w ty inst off := by unfold Addr.img; omega
theorem box_le_dram (w : Twin) (off : Nat) : 0x01010000 ≤ Addr.dram w off := by cases w <;> simp only [Addr.dram] <;> omega
theorem box_le_inner (w : Twin) (blk off : Nat) : 0x01010000 ≤ Addr.inner w blk off := by unfold Addr.inner; omega

/-! ### The compute deadline (R60, R62) -/

section
variable (h : Calm s0 s) {w : Twin} {k key at_ : Nat}
include h

theorem Calm.raiseComp : Calm s0 (raiseComp w k at_ s) := by
  unfold Machine.raiseComp
  split
  · exact .ite h (.ite h.modFrame.raiseTwinAt h.modFrame)
  · exact h

theorem Calm.raiseEmit : Calm s0 (raiseEmit w k at_ s) := by
  unfold Machine.raiseEmit
  split
  · exact .ite h.modFrame (.ite h.modFrame.raiseTwinAt h.modFrame)
  · exact h

theorem Calm.markStale : Calm s0 (markStale w k key at_ s) := by
  unfold Machine.markStale
  split
  · exact .ite h (.ite h.modFrame (.ite h.modFrame.raiseTwinAt h.modFrame))
  · exact h

theorem Calm.markSlice : Calm s0 (markSlice w k key at_ s) := by
  unfold Machine.markSlice
  extract_lets s1
  refine Calm.markStale ?_
  unfold s1
  split
  · exact .ite h h.markStale
  · exact h

theorem Calm.closeFrame {f : FrameAcct} : Calm s0 (closeFrame at_ w f s) := by
  unfold Machine.closeFrame
  extract_lets dropped scan any_ s1 s2
  have h2 : Calm s0 s2 := .ite h.modFrame.raiseComp h.modFrame
  refine h2.foldl (fun x e hx => ?_) _
  split
  · exact .ite hx hx.markSlice
  · exact hx.markStale

theorem Calm.lagging {f : FrameAcct} : Calm s0 (lagging f s) := by
  unfold Machine.lagging
  split
  · exact h
  · exact .ite (.ite h (Calm.setHealth h.frame)) h

theorem Calm.sorusAbort : Calm s0 (sorusAbort w k s).2 := by
  unfold Machine.sorusAbort
  generalize List.range 64 = queues
  extract_lets o hit step
  have aborted : Calm s0 (queues.foldl step (0, s)).2 := by
    refine Calm.foldl_snd (fun p q hp => ?_) _ _ h
    obtain ⟨n, y⟩ := p
    unfold step
    extract_lets inRing onStack m
    clear_value m
    dsimp only
    split
    · exact hp
    · have dropped : Calm s0 (Machine.dropSlots w q hit y) := Calm.dropSlots hp
      dsimp only
      exact dropped.bump
  generalize queues.foldl step (0, s) = p at aborted
  obtain ⟨n, s1⟩ := p
  have marked : Calm s0 s1 := aborted
  dsimp only
  exact (marked.foldl (fun x c hx => .ite hx.modSorus.sb hx) _).bump.bump

theorem Calm.computeDeadline : Calm s0 (computeDeadline s) := by
  unfold Machine.computeDeadline
  refine .ite h ?_
  extract_lets at_ s00 g s00' k s1 s2
  have h1 : Calm s0 s1 := Calm.each (s := s00') h.frame (fun w x hx => by
    split
    · exact hx.closeFrame
    · exact hx)
  have h2 : Calm s0 s2 := by
    unfold s2
    split
    · split
      · exact h1.lagging
      · exact h1
    · exact h1
  refine h2.each (fun w x hx => ?_)
  have aborted : Calm s0 (Machine.sorusAbort w k x).2 := hx.sorusAbort
  generalize Machine.sorusAbort w k x = p at aborted
  obtain ⟨n, y⟩ := p
  exact .ite aborted aborted.modFrame.raiseComp

end

/-! ### Emission (R63 to R69) -/

section
variable (h : Calm s0 s) {w : Twin} {f : FrameAcct} {x : Slice} {k p key at_ start stop : Nat}
include h

theorem Calm.settleKey {changed : Bool} : Calm s0 (settleKey w k key changed s) := h.modFrame

theorem Calm.recordEmission : Calm s0 (recordEmission w x s) := by
  unfold Machine.recordEmission
  extract_lets s1 s2 s3
  have h1 : Calm s0 s1 := h.modTw.modTw
  have h2 : Calm s0 s2 := by
    unfold s2
    split
    · exact .ite h1.frame h1.setReg
    · exact h1
  exact h2.bump.modHlth

theorem Calm.sendPkt {b : List Byte} : Calm s0 (sendPkt w p at_ b s) := by
  unfold Machine.sendPkt
  refine .ite ?_ h
  extract_lets d s1
  have h1 : Calm s0 s1 := .ite h.frame h
  exact h1.emitPkt

theorem Calm.sendPkts {l : List (List Byte)} : Calm s0 (sendPkts w p at_ l s).2 := by
  induction l generalizing s at_ with
  | nil => exact h
  | cons b l ih => exact ih h.sendPkt

theorem Calm.showStatic : Calm s0 (showStatic w p s) := by
  unfold Machine.showStatic
  exact h.sf.sf

theorem Calm.prnData {window line : Nat} {full : Bool} : Calm s0 (prnData w f p start window line full x s) :=
  h.sendPkts.setStrand.bump.bump.sb.modFrame.recordEmission

theorem Calm.prnStatic : Calm s0 (prnStatic w f p start stop x s) := h.sendPkts.bump.sb.setStrand.modFrame.recordEmission

theorem Calm.prnStale : Calm s0 (prnStale w f p start s) := h.sendPkt.setStrand.sb.markStale

theorem Calm.staleOrHold {stale : State → State} (keep : ∀ x, Calm s0 x → Calm s0 (stale x)) : Calm s0 (staleOrHold w f p stale s) :=
  .ite (keep s h) h.modFrame

theorem Calm.prnConfig {budget : Nat} : Calm s0 (prnConfig w f p start budget s) :=
  h.sendPkts.setStrand.bump.bump.sb.staleOrHold (fun _ hx => hx.markStale)

theorem Calm.prnEmit : Calm s0 (prnEmit w f p start stop s) := by
  unfold Machine.prnEmit
  extract_lets ch s00
  have hs : Calm s0 s00 := h.settleKey
  have stale : Calm s0 (Machine.staleOrHold w f p (Machine.prnStale w f p start) s00) := hs.staleOrHold (fun _ hx => hx.prnStale)
  split
  · exact .ite stale (.ite (.ite hs.setStrand.prnData.showStatic (.ite hs.prnConfig stale.raiseEmit))
      (.ite hs.setStrand.prnStatic.showStatic stale.raiseEmit))
  · exact stale

theorem Calm.sendWire {b : List Byte} : Calm s0 (sendWire w p stop b s) := by
  have h1 : Calm s0 (if s.active = some w ∧ !s.portHeld then s.emit (.wire p (stop - s.tWire w p b) (s.wireForm w p) (s.wireBytes w p b)) else s) :=
    .ite h.emit h
  exact .ite h1.setDmx h1

theorem Calm.repeatWire {b : List Byte} : Calm s0 (repeatWire w f p stop b s) := .ite h.sendWire.bump h.bump

theorem Calm.wireEmit : Calm s0 (wireEmit w f p key start s) := by
  unfold Machine.wireEmit
  extract_lets stop ch s00 idle bad
  have hs : Calm s0 s00 := h.settleKey
  have hbad : Calm s0 (bad s00) := .ite (.ite hs.markSlice hs.markSlice.repeatWire) hs.modFrame
  split
  · exact .ite hs (.ite hs.sendWire.bump.modFrame.recordEmission hbad.raiseEmit)
  · exact hbad

theorem Calm.sendNet {n a : Nat} {v6 : Bool} {b : List Byte} : Calm s0 (sendNet w n v6 a b s) := .ite h.bump.wr64.emit h.bump.wr64

theorem Calm.releaseUniv {a : Nat} {pkt : List Byte} : Calm s0 (releaseUniv w f a start stop pkt s) := by
  refine h.foldl (fun x n hx => ?_) _
  split
  · exact hx
  · exact .ite hx.bump.markStale.raiseEmit hx.modFrame.bump.sendNet

theorem Calm.univEmit {a : Nat} : Calm s0 (univEmit w f a start s) := by
  unfold Machine.univEmit
  extract_lets key stop ch s00 o keep fits send last
  have hs : Calm s0 s00 := h.settleKey
  refine .ite hs.markStale ?_
  split
  extract_lets due
  have hsend : ∀ b x, Calm s0 x → Calm s0 (send b x) := fun b x hx => hx.setSacnOut.releaseUniv
  split
  · exact .ite (.ite (hsend _ _ hs).recordEmission (hsend _ _ hs)) hs.setSacnOut
  · exact hsend _ _ hs.markStale

theorem Calm.emitSlice : Calm s0 (emitSlice k key start w s) := by
  unfold Machine.emitSlice
  split
  · exact h
  · split
    · exact h.univEmit
    · refine .ite h.settleKey.modFrame ?_
      split
      · exact h.settleKey
      · exact h.prnEmit
      · exact h.wireEmit

/-! ### The tables of an older image (R112) -/

theorem Calm.putEntries {l : List ((Nat × Nat × Nat) × List Byte)} : Calm s0 (putEntries w l s) :=
  h.foldl (fun _ _ hx => hx.wrBytes (box_le_img _ _ _ _)) _

theorem Calm.onOldTables {g : State → State} (keep : ∀ x, Calm s0 x → Calm s0 (g x)) : Calm s0 (onOldTables w k g s) :=
  .ite (keep s h) (keep _ h.putEntries).putEntries

theorem Calm.asOf : Calm s0 (s.asOf w k) := .ite h h.putEntries

theorem Calm.emitOne : Calm s0 (emitOne k key start w s) := h.onOldTables (fun _ hx => hx.emitSlice)

theorem Calm.emitKey : Calm s0 (emitKey k key start s) := by
  have each : Calm s0 (s.each s.computes (Machine.emitOne k key start)) := h.each (fun _ _ hx => hx.emitOne)
  exact .ite each.frame each

theorem Calm.settleFrame : Calm s0 (settleFrame k s) := by
  unfold Machine.settleFrame
  split
  · exact h
  · refine h.foldl (fun x e hx => ?_) _
    split
    · refine .ite hx ?_
      split
      · exact hx.emitKey
      · exact hx
    · exact hx

/-! ### RDM on a strand port -/

theorem Calm.showDmx : Calm s0 (showDmx w p s) := h.sf.sf.sb

theorem Calm.rdmItem {r : RdmReq} {status len stamp : Nat} : Calm s0 (rdmItem w p r status len stamp s) := .ite h h.pushCounted

theorem Calm.endRdm : Calm s0 (endRdm w p at_ s) := h.setDmx.showDmx

theorem Calm.slipRdm : Calm s0 (slipRdm w p s) := by
  unfold Machine.slipRdm
  split
  · split
    · exact (Calm.ite h h.rdmItem).endRdm
    · exact h.endRdm
  · exact h

theorem Calm.markSlip : Calm s0 (markSlip w k p s) := h.modFrame

theorem Calm.slipStream : Calm s0 (slipStream k p s) := by
  unfold Machine.slipStream
  refine .ite h ?_
  extract_lets p1 s1 s2 p2
  have h1 : Calm s0 s1 := Calm.bump h.frame
  have h2 : Calm s0 s2 := h1.each (fun _ _ hx => hx.markSlip.slipRdm)
  exact .ite h2 (Calm.raiseTh h2.frame)

/-! ### The latch (R51, R39) -/

theorem Calm.prnLatch : Calm s0 (prnLatch w f p at_ s) := .ite h (.ite h.sendPkt.sendPkt h.sendPkt)

theorem Calm.sendSyncs : Calm s0 (sendSyncs w f s) := h.foldl (fun _ _ hx => hx.modTw.foldl (fun _ _ hy => hy.bump.sendNet) _) _

theorem Calm.refreshCfg : Calm s0 (refreshCfg w p k at_ s) := h.sendPkts.setStrand.bump

theorem Calm.prnPoll : Calm s0 (prnPoll w p k at_ s) := .ite h.setStrand h.setStrand.sendPkt.sf.refreshCfg

theorem Calm.latchTwin {deferred : Bool} : Calm s0 (latchTwin k at_ deferred w s) := by
  unfold Machine.latchTwin
  split
  · exact h
  · extract_lets ports s1 s2
    have h2 : Calm s0 s2 := (h.foldl (fun _ _ hx => hx.prnLatch) _).sendSyncs
    exact .ite h2 (h2.foldl (fun _ _ hx => hx.prnPoll) _)

theorem Calm.turnPort {a b : Nat} : Calm s0 (turnPort p a b s) := .ite h.frame h

theorem Calm.portSwitched {a : Nat} : Calm s0 (portSwitched w p a s) := by
  unfold Machine.portSwitched
  refine .ite h ?_
  extract_lets s1 s2 s3
  have h1 : Calm s0 s1 := .ite h.setStrand.sf h
  have h2 : Calm s0 s2 := .ite h1.setDmx.showDmx h1
  have h3 : Calm s0 s3 := h2.modTw.turnPort
  exact h3.frame

theorem Calm.dropOld : Calm s0 (dropOld w s) := h.modTw.foldl (fun _ _ hx => .ite hx.portSwitched hx) _

theorem Calm.leaveHold {old : State} : Calm s0 (leaveHold old s) := by
  rw [leaveHold_eq, givenBack_eq, syncGen_eq_withLine]
  exact h.frame

theorem Calm.latchRelease : Calm s0 (latchRelease k s) := by
  unfold Machine.latchRelease
  extract_lets d s1 pw s2
  have h1 : Calm s0 s1 := h.frame
  have h2 : Calm s0 s2 := by
    unfold s2
    split
    · exact .ite h1.frame h1
    · exact h1
  exact h2.leaveHold

end

/-- No twin restarts in place. -/
theorem Calm.hand (h : Calm s0 s) (free : s0.boot.hand = none) : s.boot.hand = none := (congrArg CalmView.hand h.view).trans free

/-- No sleep sequence is under way. -/
theorem Calm.sleep (h : Calm s0 s) (awake : s0.pwr.sleep = none) : s.pwr.sleep = none := (congrArg CalmView.sleep h.view).trans awake

theorem inPlaceLatch_none (free : s.boot.hand = none) : inPlaceLatch s = s := by rw [inPlaceLatch, free]

theorem Calm.inPlaceLatch (h : Calm s0 s) (free : s0.boot.hand = none) : Calm s0 (inPlaceLatch s) := by
  rw [inPlaceLatch_none (h.hand free)]
  exact h

theorem sleepOn_none (awake : s.pwr.sleep = none) : sleepOn s = s := by rw [sleepOn, runSleep, awake]

theorem Calm.latch (h : Calm s0 s) (free : s0.boot.hand = none) : Calm s0 (latch s) := by
  unfold Machine.latch
  split
  next => exact h
  next k _ =>
    extract_lets s00 l bl sh pending deferred worst d at_ ws late s1 us stamp s2 s3 s4 s5 s6 s6'
    have h0 : Calm s0 s00 := h.settleFrame
    have h1 : Calm s0 s1 := h0.at.foldl (fun _ _ hx => hx.slipStream) _
    have h2 : Calm s0 s2 := .ite h1.peak h1
    have h3 : Calm s0 s3 := h2.sb.wr64
    have h4 : Calm s0 s4 := h3.each (fun _ _ hx => hx.modFrame)
    have h5 : Calm s0 s5 := h4.each (fun _ _ hx => hx.modFrame)
    have h6 : Calm s0 s6 := h5.each (fun _ _ hx => hx.onOldTables (fun _ hy => hy.latchTwin))
    have h6' : Calm s0 s6' := h6.each (fun _ _ hx => hx.dropOld)
    exact Calm.inPlaceLatch (Calm.latchRelease h6'.frame) free

/-! ### Frame records (R72) -/

section
variable (h : Calm s0 s) {w : Twin} {f : FrameAcct}
include h

theorem Calm.setPortMap {r : Nat → Nat} {l : List Nat} : Calm s0 (setPortMap r l s) := h.foldl (fun _ _ hx => hx.setReg) _

theorem Calm.setBitMap {a n : Nat} {l : List Nat} (ha : 0x01010000 ≤ a) : Calm s0 (setBitMap a n l s) := by
  refine Calm.foldl (h.resetMem (fun x hx => ?_)) (fun _ _ hx => hx.wrB (by omega)) _
  have := of_decide_eq_true hx
  omega

theorem Calm.showGroups : Calm s0 (showGroups w f s) := (h.foldl (fun _ _ hx => hx.sf) _).setBitMap (box_le_twin _ _)

theorem Calm.writeRecord : Calm s0 (writeRecord w f s) := by
  unfold Machine.writeRecord
  extract_lets chg ports univs s1 s2 s3 s4 s5 s6 s7 patch s8 s9 s10
  have h4 : Calm s0 s4 := (h.wrBytes (box_le_twin2 _ _ _)).setReg.peak.peak.bump.bump
  have h5 : Calm s0 s5 := .ite h4.bump h4
  have h7 : Calm s0 s7 := (h5.setPortMap.setPortMap.setBitMap (box_le_twin _ _)).setBitMap (box_le_twin _ _)
  have h9 : Calm s0 s9 := (h7.sf.sf.foldl (fun _ _ hx => hx.setReg) _).showGroups
  exact h9.modTw.raiseIf

theorem Calm.recordsDue : Calm s0 (recordsDue w s) := h.foldl (fun _ _ hx => hx.writeRecord) _

theorem Calm.calApplied {n code : Nat} : Calm s0 (calApplied n code s) := h.setCalUnit

theorem Calm.strandApply {p : Nat} : Calm s0 (strandApply p s) := by
  unfold Machine.strandApply
  split
  · exact h
  · exact .ite h.frame (Calm.calApplied h.frame)

theorem Calm.latchDueNow (free : s0.boot.hand = none) (awake : s0.pwr.sleep = none) : Calm s0 (latchDueNow s) := by
  refine .ite ?_ h
  have fallen := (h.foldl (f := fun x e => Machine.strandApply e.1 x) (fun _ _ hx => hx.strandApply) s.cal.apply).latch free
  rw [sleepOn_none (fallen.sleep awake)]
  exact fallen

/-- What falls before the tick leaves the roles, the mailbox and what waits for the tick. -/
theorem Calm.catchUp (free : s0.boot.hand = none) (awake : s0.pwr.sleep = none) : Calm s0 (catchUp s) :=
  (Calm.ite (h.latchDueNow free awake).computeDeadline (h.computeDeadline.latchDueNow free awake)).each (fun _ _ hx => hx.recordsDue)

end

end Sys2Proof.Machine
end

section
/-!
What the tick's swap, health actions and graft leave alone (R44, R127, R352).
-/
namespace Sys2Proof.Machine

set_option Elab.async false

variable {s0 s u : State}

/-! ### The steps of a graft -/

section
variable (h : Calm s0 s) {w : Twin} {k : Nat}
include h

theorem Calm.modLay {f : Layers → Layers} : Calm s0 (s.modLay w f) := h.modTw
theorem Calm.setLayer {l : Nat} {x : Layer} : Calm s0 (s.setLayer w l x) := h.modLay
theorem Calm.modMasters {f : Masters → Masters} : Calm s0 (s.modMasters w f) := h.modTw
theorem Calm.modCurves {f : Curves → Curves} : Calm s0 (s.modCurves w f) := h.modTw
theorem Calm.setBank {n : Nat} {b : BankSt} : Calm s0 (s.setBank w n b) := h.modTw
theorem Calm.setUniv {e : Nat} {x : Univ} : Calm s0 (s.setUniv w e x) := h.modNet
theorem Calm.setFlow {f : Nat} {x : StFlow} : Calm s0 (s.setFlow w f x) := h.modNet
theorem Calm.setHealthEntry {f : Nat} {x : HealthEntry} : Calm s0 (s.setHealthEntry w f x) := h.modHlth
theorem Calm.setGraftState {v : Nat} : Calm s0 (setGraftState w v s) := h.sf

theorem Calm.watchSpare : Calm s0 (watchSpare w s) := .ite h.modCurves.raiseIf h.modCurves

theorem Calm.freshSlots {cs : List Nat} : Calm s0 (freshSlots w cs s) := h.modCurves

theorem Calm.releaseOther {cs : List Nat} : Calm s0 (releaseOther w cs s) := by
  refine .ite h ?_
  exact (h.foldl (fun _ _ hx => hx.wrBytes (box_le_img _ _ _ _)) _).modCurves.freshSlots

theorem Calm.releaseSlots {restore : Bool} {g : Graft} : Calm s0 (releaseSlots restore w g s) := by
  unfold Machine.releaseSlots
  extract_lets cs s1 s2
  have h1 : Calm s0 s1 := .ite (h.foldl (fun _ _ hx => hx.wrBytes (box_le_img _ _ _ _)) _).freshSlots h
  have h2 : Calm s0 s2 := h1.modCurves
  exact .ite h2.releaseOther h2

theorem Calm.showRefusal {b : Bad} : Calm s0 (showRefusal b w s) := h.sf.sf.sb.setReg.raiseTwin

theorem Calm.refuseGraft {b : Bad} : Calm s0 (refuseGraft b w s) := by
  unfold Machine.refuseGraft
  split
  · exact h
  · exact h.releaseSlots.modTw.setGraftState.showRefusal.watchSpare

theorem Calm.forgetGraft : Calm s0 (forgetGraft w s) := by
  unfold Machine.forgetGraft
  split
  · exact h
  · exact h.releaseSlots.modTw.setGraftState.watchSpare

theorem Calm.dropGrafts : Calm s0 (dropGrafts s) := h.each (fun _ _ hx => hx.forgetGraft)

theorem Calm.refuseBoth {b : Bad} : Calm s0 (refuseBoth b s) := h.each (fun _ _ hx => hx.refuseGraft)

/-! ### The graft's timing set -/

theorem Calm.setTb {n : Fin 4} {t : TimeBase} : Calm s0 (s.setTb n t) := by
  unfold State.setTb
  split
  all_goals exact h.frame

theorem Calm.setTbState {n : Fin 4} {st : Nat} : Calm s0 (s.setTbState n st) := by
  unfold State.setTbState
  exact (Calm.ite h.setReg h).sf

theorem Calm.runTb {n : Fin 4} {rate : Int} : Calm s0 (s.runTb n rate) := h.setTb.setReg

theorem Calm.enterHoldover {n : Fin 4} {rate : Int} : Calm s0 (s.enterHoldover n rate) := h.runTb.setTbState.setTb.setReg.raiseTh

theorem Calm.writeMode {n : Fin 4} {mode : Nat} : Calm s0 (s.writeMode n mode) := by
  unfold State.writeMode
  extract_lets old s1 b free s2 b2
  refine .ite h ?_
  have h1 : Calm s0 s1 := h.sf
  have hfree : ∀ x, Calm s0 x → Calm s0 (free x) := fun x hx => hx.setTbState
  exact .ite h1.runTb.setTbState (.ite (.ite h1.runTb.setTbState.setTb h1.enterHoldover) (.ite (hfree _ h1.runTb) (.ite (hfree _ h1.runTb) h1)))

theorem Calm.baseImage {v : Nat → Nat → Nat} {n : Fin 4} : Calm s0 (baseImage v n s) := by
  unfold Machine.baseImage
  extract_lets b s1 s2 s3 s4
  have h4 : Calm s0 s4 := h.writeMode.sb.sf.setReg.setReg.setReg
  exact .ite h4.setReg h4

theorem Calm.timeImage {v : Nat → Nat → Nat} : Calm s0 (timeImage v s) := h.setReg.sf.setReg.sf.foldl (fun _ _ hx => hx.baseImage) _

theorem Calm.captureTiming {at_ : Nat} : Calm s0 (captureTiming at_ s) := Calm.sb h.frame

theorem Calm.graftTime : Calm s0 (graftTime w s) := by
  unfold Machine.graftTime
  split
  · exact h
  · split
    · exact h
    · extract_lets v drop s1 g s2
      have h1 : Calm s0 s1 := h.timeImage.captureTiming
      clear_value s1
      have h2 : Calm s0 s2 := h1.frame
      exact .ite (h2.each (fun _ _ hx => hx.sb)) h2

/-! ### The graft's entries -/

theorem Calm.writeSections {rd : Nat → Byte} {secs : List DirEnt} : Calm s0 (writeSections rd secs w s) :=
  h.foldl (fun _ _ hx => hx.wrBytes (box_le_img _ _ _ _)) _

theorem Calm.layerShadows {l : Nat} : Calm s0 (layerShadows w l s) := by
  unfold Machine.layerShadows
  exact h.sf.sb.sf.sf.sf.sf.sf

theorem Calm.live {l : Nat} {v : LayerVals} : Calm s0 (s.live w l v) := by
  unfold State.live
  exact h.sf.sb.sf.sf.sf.sf.sf

theorem Calm.show {l : Nat} {slot : Option Nat} : Calm s0 (s.show w l slot) := by
  unfold State.show
  cases slot
  · exact h.sb.sf
  · exact h.sb.sf

theorem Calm.dropCommits {e : GraftEnt} : Calm s0 (dropCommits w e s) := by
  unfold Machine.dropCommits
  split
  · extract_lets mark x
    split
    · split
      · exact h.setLayer.sb
      · exact h
    · exact h
  · split
    · exact .ite h.modMasters.sb h
    · exact h
  · exact h

theorem Calm.liveDefaults {e : GraftEnt} : Calm s0 (liveDefaults w e s) := by
  refine .ite h ?_
  split
  · exact h.layerShadows.live.sb.sb
  · exact h.sf.sf
  · exact h

theorem Calm.restartQueue {q : Nat} : Calm s0 (restartQueue w q s) := h.modSorus

theorem Calm.restartFlow {f : Nat} : Calm s0 (restartFlow w f s) := h.modSorus

theorem Calm.univChanged {e old new : Nat} {now : Bool} : Calm s0 (univChanged w e old new now s) := .ite h.setUniv (.ite h h.setUniv)

theorem Calm.flowChanged {f : Nat} : Calm s0 (flowChanged w f s) := by
  refine Calm.wr64 (Calm.setReg (Calm.sb (h.setFlow.foldl (fun _ _ hx => hx.resetMem (fun _ ha => ?_)) _)))
  exact Nat.le_trans (box_le_inner _ _ _) (of_decide_eq_true ha).1

theorem Calm.requestEnum {p : Nat} : Calm s0 (requestEnum p w s) := .ite h.setStrand h

theorem Calm.portChanged {p : Nat} {old new : List Byte} : Calm s0 (portChanged w p old new s) := by
  have h1 : Calm s0 (if s.latchOpen w then s else Machine.portSwitched w p (byteAt old 0) s) := .ite h h.portSwitched
  exact .ite h1.requestEnum h1

theorem Calm.restartLayer {l : Nat} : Calm s0 (restartLayer w l s) := h.show.setLayer.setReg.setReg.sf.sb

theorem Calm.restartFixture {f : Nat} : Calm s0 (restartFixture w f s) := by
  unfold Machine.restartFixture
  exact h.sf.setHealthEntry.modHlth

theorem Calm.clearBank {n : Nat} : Calm s0 (s.clearBank w n) :=
  h.resetMem (fun _ ha => Nat.le_trans (box_le_twin2 _ _ _) (of_decide_eq_true ha).1)

theorem Calm.entryChanged {old : List Byte} {e : GraftEnt} : Calm s0 (entryChanged w old e s) := by
  unfold Machine.entryChanged
  extract_lets i new st s1 s2 s3 b3
  split
  · have h1 : Calm s0 s1 := .ite h.clearBank h
    have h3 : Calm s0 s3 := h1.sf.sf.sf.sf
    exact (Calm.ite h3.clearBank h3).setBank
  · exact h.restartQueue
  · exact h.restartFlow
  · exact h.univChanged
  · exact h.flowChanged
  · exact h.portChanged
  · exact .ite h.restartLayer h
  · exact .ite h.restartFixture h
  · exact h

theorem Calm.scheduleState {n : Nat} {r : Option (List JoinRec)} : Calm s0 (scheduleState w n r s) := h.modNet

theorem Calm.cfgChanged {before : State} : Calm s0 (cfgChanged w k before s) := h.foldl (fun _ _ hx => .ite hx hx.setStrand) _

theorem Calm.powerImage : Calm s0 (powerImage w s) := h.sf.sf

theorem Calm.applyGraft : Calm s0 (applyGraft k w s) := by
  unfold Machine.applyGraft
  split
  next => exact h
  next g _ =>
    extract_lets rd all ch kept s1 s2 s3 s4 s5 s6 touched lay s7 s8 pw s9 s10 s11 s12
    have h1 : Calm s0 s1 := .ite h.modTw h
    have h3 : Calm s0 s3 := (h1.writeSections.foldl (fun _ _ hx => hx.liveDefaults) _).foldl (fun _ _ hx => hx.dropCommits) _
    have h4 : Calm s0 s4 := h3.foldl (fun _ _ hx => hx.entryChanged) _
    have h5 : Calm s0 s5 := h4.foldl (fun _ _ hx => .ite hx hx.scheduleState) _
    have h8 : Calm s0 s8 := h5.cfgChanged.modTw.modLay.releaseSlots
    clear_value s8
    have h9 : Calm s0 s9 := .ite (Calm.powerImage h8.frame) h8
    have h12 : Calm s0 s12 := h9.setReg.setReg.sf.frameFlag.sb.setGraftState
    exact h12.raiseTwin.watchSpare

end

/-! ### A change of roles -/

/-- `u` has the main domain and the mailbox of `s`. -/
structure Boxed (s u : State) : Prop where
  mainOff : u.mainOff = s.mainOff
  box : BoxKept s u

theorem Boxed.refl (s : State) : Boxed s s := ⟨rfl, .refl s⟩

theorem Boxed.trans (h : Boxed s0 s) (g : Boxed s u) : Boxed s0 u := ⟨g.mainOff.trans h.mainOff, h.box.trans g.box⟩

theorem Boxed.calm (h : Boxed s0 s) (g : Calm s u) : Boxed s0 u := h.trans ⟨congrArg CalmView.mainOff g.view, g.box⟩

theorem Boxed.ite {a b : State} {c : Prop} [Decidable c] (ha : Boxed s a) (hb : Boxed s b) : Boxed s (if c then a else b) := by
  split
  · exact ha
  · exact hb

/-- A change beside what `Boxed` names. -/
theorem Boxed.frame (h : Boxed s0 s) (mainOff : u.mainOff = s.mainOff := by rfl) (mem : u.mem = s.mem := by rfl) : Boxed s0 u :=
  h.trans ⟨mainOff, .of_mem mem⟩

theorem box_le_memInTwin {w : Twin} {a : Nat} (h : memInTwin w a = true) : 0x01010000 ≤ a := by
  rcases of_decide_eq_true h with ⟨le, -⟩ | ⟨le, -⟩ | ⟨le, -⟩ | ⟨le, -⟩
  · exact Nat.le_trans (box_le_twin w 0) le
  · exact Nat.le_trans (box_le_dram w 0) le
  · exact Nat.le_trans (box_le_img w 0 0 0) le
  · exact Nat.le_trans (box_le_inner w 0 0) le

section
variable (h : Boxed s0 s) {w : Twin}
include h

theorem Boxed.sf {a : Nat} {f : Fld} {v : Nat} : Boxed s0 (s.sf a f v) := h.calm (Calm.refl s).sf
theorem Boxed.sb {a : Nat} {f : Fld} {v : Bool} : Boxed s0 (s.sb a f v) := h.sf
theorem Boxed.raiseTh {n data : Nat} (hn : n < 256 := by decide) : Boxed s0 (s.raiseTh n data) := h.calm ((Calm.refl s).raiseTh hn)

theorem Boxed.twinReset : Boxed s0 (s.twinReset w) := by
  have cleared : Boxed s0 (s.resetMem (memInTwin w)) := h.trans ⟨rfl, .resetMem s (fun _ => box_le_memInTwin)⟩
  cases w <;> exact cleared.frame

theorem Boxed.resetKeepingDram : Boxed s0 (s.resetKeepingDram w) := by
  refine h.trans ⟨(Boxed.twinReset (.refl s)).mainOff, fun x => ⟨Smap.wf_filter x _, fun a ha => ?_⟩⟩
  have out : (!memInTwin w a || memInDram w a) = true := by
    by_contra c
    have inside : memInTwin w a = true := by
      revert c
      cases memInTwin w a <;> simp
    have := box_le_memInTwin inside
    simp only [boxByte, decide_eq_true_eq] at ha
    omega
  exact Smap.get_filter_in (q := fun a => !memInTwin w a || memInDram w a) x out _

theorem Boxed.startFirmware : Boxed s0 (startFirmware w s) := by
  unfold Machine.startFirmware
  extract_lets r tried
  split
  · exact h.frame
  · extract_lets s1 s2 s3
    have h2 : Boxed s0 s2 := .ite h.sf h.sf.sf
    exact h2.frame

theorem Boxed.restartFirmware : Boxed s0 (restartFirmware w s) := .ite h.twinReset h.twinReset.startFirmware

theorem Boxed.setRec {r : BootRec} : Boxed s0 (s.setRec r) := Boxed.sb (Boxed.sb h.frame)

theorem Boxed.revertRecord {reason : Nat} : Boxed s0 (revertRecord w reason s) := by
  unfold Machine.revertRecord
  extract_lets r r2 s1 b
  have h1 : Boxed s0 s1 := h.setRec
  clear_value s1
  exact Boxed.raiseTh (Boxed.sb h1.frame)

theorem Boxed.revertEntered {old new : Role} : Boxed s0 (revertEntered w old new s) := by
  unfold Machine.revertEntered
  refine .ite ?_ h
  extract_lets s1 r
  have h1 : Boxed s0 s1 := h.revertRecord.restartFirmware
  clear_value s1
  cases w
  · exact h1.frame
  · exact h1.frame

end

theorem Calm.beginResync (h : Calm s0 s) (w : Twin) : Calm s0 (s.beginResync w) := by
  unfold State.beginResync
  extract_lets s1 p s2 s3 p4 s4
  have h3 : Calm s0 s3 := Calm.sf (h.frame : Calm s0 s2)
  exact .ite (Calm.sf (Calm.sf h3.frame)) h3.sf

theorem Calm.roleEvents (h : Calm s0 s) (old new : Role) : Calm s0 (s.roleEvents old new) := by
  unfold State.roleEvents
  refine .ite h ?_
  split
  · exact h.raiseTh
  · exact h.raiseTh
  · exact h.raiseTh
  · exact h

section
variable (h : Boxed s0 s) {w : Twin}
include h

theorem Boxed.setRoles {ra rb : Role} : Boxed s0 (s.setRoles ra rb) := by
  unfold State.setRoles
  extract_lets oa ob before s1 s2 s3 s4 p5 s5 s6 d6 p6 s6' p7 s7
  have h2 : Calm s1 s2 := .ite ((Calm.refl s1).beginResync _) (.refl s1)
  have h3 : Calm s1 s3 := .ite (h2.beginResync _) h2
  have h4 : Calm s1 s4 := .ite h3.sf h3
  have h5 : Calm s1 s5 := .ite h4.frame h4
  have h6 : Calm s1 s6 := (h5.roleEvents _ _).roleEvents _ _
  have h6' : Calm s1 s6' := .ite h6.frame h6
  have hp : Calm s1 (State.frameFlag { s6' with peri := { p7 with forced := false, parked := false } } 32) := h6'.frame
  have h7 : Calm s1 s7 := .ite h6' (Calm.leaveHold (hp.raiseTh (n := 7)))
  have entered : Boxed s0 s1 := h.frame
  exact (entered.calm h7).revertEntered.revertEntered

theorem Boxed.setRole {r : Role} : Boxed s0 (s.setRole w r) := by
  cases w
  · exact h.setRoles
  · exact h.setRoles

theorem Boxed.setRoles2 {a b : Role} : Boxed s0 (s.setRoles2 w a b) := by
  cases w
  · exact h.setRoles
  · exact h.setRoles

theorem Boxed.isolate : Boxed s0 (s.isolate w) := h.sb.setRole

theorem Boxed.holdReset : Boxed s0 (s.holdReset w) := by
  unfold State.holdReset
  extract_lets s00 s1
  have h1 : Boxed s0 s1 := (Boxed.ite h.sb.revertRecord h.sb).twinReset
  exact .ite h1.setRole h1.setRole

theorem Boxed.addSwap {d : SwapDue} : Boxed s0 (s.addSwap d) := by
  unfold State.addSwap
  split
  · exact .ite h.frame h.frame
  · exact h.frame

/-! ### The swap at the tick (R44) -/

theorem Boxed.doSwapDue : Boxed s0 s.doSwapDue := by
  unfold State.doSwapDue
  split
  next => exact h
  next d _ =>
    extract_lets s00 o b s1 s2
    have h0 : Boxed s0 s00 := h.frame
    split
    · split
      · exact h0.setRoles2
      · exact h0.setRoles2
      · exact h0.sb.setRoles2
      · exact h0.setRoles2.holdReset
      · exact h0.setRoles2.frame
    · exact .ite h0 (.ite h0.sb (.ite h0.sb.sb h0.sb.sb.sb))

theorem Boxed.restartNow : Boxed s0 (restartNow w s) := .ite h.restartFirmware.setRole h.restartFirmware.setRole

theorem Boxed.inPlaceStart : Boxed s0 (inPlaceStart w s) := h.setRoles2.resetKeepingDram.startFirmware

theorem Boxed.restartOn : Boxed s0 (restartOn w s) := by
  unfold Machine.restartOn
  split
  · exact .ite h.restartNow (.ite h (Boxed.startFirmware h.resetKeepingDram.frame))
  · exact .ite h.restartNow (.ite h.addSwap (.ite h.frame (Boxed.inPlaceStart h.frame)))

theorem Boxed.swapTick : Boxed s0 (swapTick s) := by
  unfold Machine.swapTick
  extract_lets s1
  have h1 : Boxed s0 s1 := h.doSwapDue
  clear_value s1
  split
  · exact h1
  · exact .ite h1 (.ite (Boxed.restartNow h1.frame) (.ite h1.frame h1.restartOn))

theorem Boxed.flagActions : Boxed s0 (flagActions s) := by
  unfold Machine.flagActions
  extract_lets p s00 due bo
  have h0 : Boxed s0 s00 := h.frame
  clear_value s00
  split
  · exact h0
  · exact .ite h0.isolate (.ite h0.setRole (.ite (.ite h0.sb.setRoles2 (.ite h0.setRoles2 h0)) h0))

/-! ### The graft at the tick (R127) -/

theorem Boxed.forgetGraft : Boxed s0 (forgetGraft w s) := h.calm (Calm.refl s).forgetGraft

theorem Boxed.graftTick {fate : GraftFate} {k : Nat} : Boxed s0 (graftTick fate k s) := by
  unfold Machine.graftTick
  split
  · exact h
  · exact h.calm (Calm.refl s).refuseBoth
  · extract_lets s1 o
    have h1 : Boxed s0 s1 := h.calm (Calm.refl s).applyGraft
    clear_value s1
    have rest : Boxed s0 (if s1.grafting o then Machine.forgetGraft o s1 else s1) := .ite h1.forgetGraft h1
    refine .ite rest (.ite rest.setRole ?_)
    split
    · exact (h1.calm (Calm.refl s1).refuseGraft).setRole
    · exact h1.calm (Calm.refl s1).applyGraft

/-- What comes before a context reset at its tick leaves the main domain and the mailbox. -/
theorem Boxed.rolesAndGraft : Boxed s0 (rolesAndGraft s) := by
  unfold Machine.rolesAndGraft
  extract_lets before s1 fate
  have h1 : Boxed s0 s1 := h.swapTick.flagActions.calm (Calm.refl _).dropGrafts
  clear_value fate s1
  refine Boxed.graftTick ?_
  cases fate with
  | go w => exact h1.calm (Calm.refl s1).graftTime
  | wait => exact h1
  | refuse b => exact h1

end

end Sys2Proof.Machine
end

section
/-!
The swap and the context reset at the tick (R44, R31).
-/
namespace Sys2Proof.Machine

set_option Elab.async false

variable {s0 s u : State}

/-! ### What the context reset of a twin leaves alone -/

section
variable (h : Calm s0 s) {w : Twin}
include h

theorem Calm.layerContextReset : Calm s0 (layerContextReset w s) := h.foldl (fun _ _ hx => .ite hx.setLayer hx) _

theorem Calm.showPending : Calm s0 (showPending w s) := h.sb.sb

theorem Calm.causeAll {f : Fld} : Calm s0 (causeAll w f s) := h.foldl (fun _ _ hx => hx.sb) _

theorem Calm.sorusContextReset : Calm s0 (sorusContextReset w s) := h.modSorus.causeAll

theorem Calm.rdmContextReset : Calm s0 (rdmContextReset w s) := h.modTw

theorem Calm.contextTwin : Calm s0 (contextTwin w s) := by
  unfold Machine.contextTwin
  extract_lets s1 s2 s3 s4 s5
  have h1 : Calm s0 s1 := h.foldl (fun _ _ hx => hx.layerShadows) _
  have h4 : Calm s0 s4 := h1.sf.layerContextReset.modMasters.showPending.sorusContextReset.rdmContextReset
  have h5 : Calm s0 s5 := h4.foldl (fun _ _ hx => hx.showDmx) _
  exact h5.modNet.modHlth.watchSpare

end

/-- A register of the semaphores (R31). -/
def semReg (a : Nat) : Bool := decide (0x7100 ≤ a ∧ a < 0x7180)

/-- The semaphores are as they were. -/
def SemKept (s u : State) : Prop := s.regsWf = true → u.regsWf = true ∧ ∀ a, semReg a = true → u.reg a = s.reg a

theorem SemKept.refl (s : State) : SemKept s s := fun x => ⟨x, fun _ _ => rfl⟩

theorem SemKept.trans (h : SemKept s0 s) (g : SemKept s u) : SemKept s0 u := fun x => by
  obtain ⟨wf, same⟩ := h x
  obtain ⟨wf', same'⟩ := g wf
  exact ⟨wf', fun a ha => (same' a ha).trans (same a ha)⟩

theorem SemKept.foldl {α : Type} {f : State → α → State} (h : SemKept s0 s) (step : ∀ x e, SemKept s0 x → SemKept s0 (f x e)) (l : List α) :
    SemKept s0 (l.foldl f s) := by
  induction l generalizing s with
  | nil => exact h
  | cons e l ih => exact ih (step s e h)

theorem SemKept.ite {a b : State} {c : Prop} [Decidable c] (ha : SemKept s a) (hb : SemKept s b) : SemKept s (if c then a else b) := by
  split
  · exact ha
  · exact hb

theorem SemKept.each {p : Twin → Bool} {f : Twin → State → State} (h : SemKept s0 s) (step : ∀ w x, SemKept s0 x → SemKept s0 (f w x)) :
    SemKept s0 (s.each p f) := by
  unfold State.each
  split
  · exact .ite (step _ _ (step _ _ h)) (step _ _ h)
  · exact .ite (step _ _ h) h

theorem semReg_sem (n : Nat) (hn : n < 32) : semReg (Reg.RZP_SEM n) = true := by
  unfold semReg Reg.RZP_SEM
  exact decide_eq_true ⟨by omega, by omega⟩

theorem evtReg_sem {a : Nat} (h : semReg a = true) : evtReg a = false := by
  obtain ⟨low, high⟩ := of_decide_eq_true h
  rw [Bool.eq_false_iff]
  intro evt
  simp only [evtReg, twins, List.any_cons, List.any_nil, Bool.or_false, Bool.or_eq_true, decide_eq_true_eq] at evt
  simp only [Reg.EVT_PEND, Reg.EVT_LOG_HEAD, Reg.EVT_LOG_STAT, Reg.EVT_TPEND, Reg.EVT_TSTAT, Reg.BANK_VIOL, Reg.SORUS_CNT, Reg.SORUS_QCNT,
    Twin.base] at evt
  omega

theorem SemKept.evt (h : SemKept s0 s) (g : Evt s u) : SemKept s0 u := h.trans (fun x => by
  obtain ⟨wf, same⟩ := g.regs x
  exact ⟨wf, fun a ha => same a (evtReg_sem ha)⟩)

theorem box_le_banked (c : Nat) (w : Twin) : 0x01010000 ≤ banked c (Reg.SORUS_CAUSE w) :=
  Nat.le_trans (box_le_twin w _) (Nat.le_add_right _ _)

section
variable (h : SemKept s0 s) {w : Twin}
include h

theorem SemKept.of_regs (regs : u.regs = s.regs) : SemKept s0 u :=
  h.trans (fun x => ⟨by rw [State.regsWf, regs]; exact x, fun a _ => by rw [State.reg, State.reg, regs]⟩)

theorem SemKept.sf {a : Nat} {f : Fld} {v : Nat} (ha : 0x01010000 ≤ a) (hf : f.hi < 32 := by decide) : SemKept s0 (s.sf a f v) :=
  h.trans (fun x => ⟨State.regsWf_sf x _ _ _, fun b hb => State.reg_sf_ne x _ _ hf (by
    simp only [semReg, decide_eq_true_eq] at hb
    omega)⟩)

theorem SemKept.sb {a : Nat} {f : Fld} {v : Bool} (ha : 0x01010000 ≤ a) (hf : f.hi < 32 := by decide) : SemKept s0 (s.sb a f v) := h.sf ha hf

theorem SemKept.modTw {f : TwinState → TwinState} : SemKept s0 (s.modTw w f) := h.of_regs (modTw_regs s w f)

theorem SemKept.setLayer {l : Nat} {x : Layer} : SemKept s0 (s.setLayer w l x) := by
  unfold State.setLayer State.modLay
  exact h.modTw

theorem SemKept.layerShadows {l : Nat} : SemKept s0 (layerShadows w l s) := by
  unfold Machine.layerShadows
  exact ((((((h.sf (box_le_twin2 _ _ _)).sb (box_le_twin2 _ _ _)).sf (box_le_twin2 _ _ _)).sf (box_le_twin2 _ _ _)).sf (box_le_twin2 _ _ _)).sf
    (box_le_twin2 _ _ _)).sf (box_le_twin2 _ _ _)

theorem SemKept.layerContextReset : SemKept s0 (layerContextReset w s) := h.foldl (fun _ _ hx => .ite hx.setLayer hx) _

theorem SemKept.showPending : SemKept s0 (showPending w s) := (h.sb (box_le_twin _ _)).sb (box_le_twin _ _)

theorem SemKept.sorusContextReset : SemKept s0 (sorusContextReset w s) :=
  SemKept.foldl h.modTw (fun _ _ hx => hx.sb (box_le_banked _ _)) _

theorem SemKept.showDmx {p : Nat} : SemKept s0 (showDmx w p s) := by
  unfold Machine.showDmx
  exact ((h.sf (box_le_twin2 _ _ _)).sf (box_le_twin2 _ _ _)).sb (box_le_twin2 _ _ _)

theorem SemKept.watchSpare : SemKept s0 (watchSpare w s) :=
  .ite (h.modTw.evt ((Evt.refl _).raiseIf _ _ _ _ _ (by decide))) h.modTw

theorem SemKept.contextTwin : SemKept s0 (contextTwin w s) := by
  unfold Machine.contextTwin
  extract_lets s1 s2 s3 s4 s5
  have h1 : SemKept s0 s1 := h.foldl (fun _ _ hx => hx.layerShadows) _
  have h4 : SemKept s0 s4 := (SemKept.showPending (h1.sf (box_le_twin _ _)).layerContextReset.modTw).sorusContextReset.modTw
  have h5 : SemKept s0 s5 := h4.foldl (fun _ _ hx => hx.showDmx) _
  exact h5.modTw.modTw.watchSpare

end

/-! ### The context reset (R31) -/

/-- What a context reset leaves, but for its event. -/
structure ContextCleared (s u : State) : Prop where
  regs : u.regsWf = true
  mainOff : u.mainOff = s.mainOff
  pend : u.dev.ctxPend = false
  sems : ∀ n, n < 32 → u.reg (Reg.RZP_SEM n) = resetWord (Reg.RZP_SEM n)
  flags : ∀ a, 0x0100FF00 ≤ a → a < 0x01010000 → u.rdB a = 0
  data : ∀ a, 0x01000000 ≤ a → a < 0x0100FF00 → u.rdB a = s.rdB a
  mem : Memory.wf u.mem = true

theorem domainOf_sem : ∀ n, n < 32 → domainOf (Reg.RZP_SEM n) = some .ctx := by decide +kernel

theorem contextClear_cleared (regs : s.regsWf = true) (mem : Memory.wf s.mem = true) : ContextCleared s (contextClear s) := by
  unfold contextClear
  extract_lets s1 s2 s3 d
  have wf2 : s2.regsWf = true := Smap.wf_filter regs _
  have mem2 : Memory.wf s2.mem = true := Smap.wf_filter mem _
  have calm : Calm s2 s3 := (Calm.refl s2).each (fun _ _ hx => hx.contextTwin)
  have sem : SemKept s2 s3 := (SemKept.refl s2).each (fun _ _ hx => hx.contextTwin)
  obtain ⟨wf3, sems⟩ := sem wf2
  obtain ⟨mem3, box⟩ := calm.box mem2
  clear_value s3
  refine ⟨wf3, congrArg CalmView.mainOff calm.view, rfl, fun n hn => ?_, fun a lo hi => ?_, fun a lo hi => ?_, mem3⟩
  · refine (sems _ (semReg_sem n hn)).trans ?_
    · exact Smap.get_filter_out (q := fun a => !decide (domainOf a = some .ctx)) (by simp [domainOf_sem n hn]) _
  · refine (box a ?_).trans ?_
    · simp only [boxByte, decide_eq_true_eq]; omega
    · refine (Smap.get_filter_out (q := fun a => !decide (0x0100FF00 ≤ a ∧ a < 0x01010000)) ?_ _).trans ?_
      · simp; omega
      · unfold memDefault
        rw [if_neg (by omega), if_neg (by omega)]
  · refine (box a ?_).trans ?_
    · simp only [boxByte, decide_eq_true_eq]; omega
    · refine Smap.get_filter_in (q := fun a => !decide (0x0100FF00 ≤ a ∧ a < 0x01010000)) mem ?_ _
      simp; omega

/-- The state in which what falls at the tick begins: the frame's flags are those of the coming tick. -/
def State.comingTick (s : State) : State :=
  { (catchUp s).at (catchUp s).tickRaw with tg := { ((catchUp s).at (catchUp s).tickRaw).tg with cur :=
    { ((catchUp s).at (catchUp s).tickRaw).tg.cur with flags := 0 } } }

theorem comingTick_calm (free : s.boot.hand = none) (awake : s.pwr.sleep = none) : Calm s s.comingTick :=
  Calm.frame ((Calm.refl s).catchUp free awake)

theorem comingTick_regs (regs : s.regsWf = true) : s.comingTick.regsWf = true := (keeps_catchUp (Keeps.refl s)).regs regs

/-- What is done before the tick, but for the tick's own flags. -/
theorem atNextTick_eq (f : State → State) (s : State) : ∃ g, atNextTick f s = { f s.comingTick with tg := g } := ⟨_, rfl⟩

/-! ### The swap (R44) -/

/-- A swap that is due to a twin that is ready. -/
theorem swapTick_ready {w : Twin} {host : Bool} (due : s.swapDue = some { from_ := w, then_ := .ready, byHost := host }) (act : s.active = some w)
    (ready : s.roleOf w.other = .ready) (arb : s.peri.arb = none) :
    swapTick s = ({ s with swapDue := none } : State).setRoles2 w .ready .active := by
  have swap : s.doSwapDue = ({ s with swapDue := none } : State).setRoles2 w .ready .active := by
    unfold State.doSwapDue
    rw [due]
    exact if_pos ⟨act, by cases w <;> exact ready, arb⟩
  unfold swapTick
  rw [due, swap]
  exact if_pos (fun c => by cases c)

/-- ACTIVE passes to the other twin, and E7 is pending. -/
theorem setRoles2_swaps {w : Twin} (act : s.active = some w) :
    (s.setRoles2 w .ready .active).roleOf w = .ready ∧ (s.setRoles2 w .ready .active).roleOf w.other = .active ∧
      (s.setRoles2 w .ready .active).swapDue = s.swapDue ∧
      (s.regsWf = true → s.mainOff = false → (s.setRoles2 w .ready .active).evtPending 7 = true) := by
  cases w with
  | a =>
    obtain ⟨steps, pend⟩ := setRoles_steps s (quietEntry_ready _) (quietEntry_active _)
    exact ⟨congrArg Roles.a steps.role, congrArg Roles.b steps.role, steps.swapDue, fun wf on => pend wf on (by rw [act]; intro c; cases c)⟩
  | b =>
    obtain ⟨steps, pend⟩ := setRoles_steps s (quietEntry_active _) (quietEntry_ready _)
    exact ⟨congrArg Roles.b steps.role, congrArg Roles.a steps.role, steps.swapDue, fun wf on => pend wf on (by rw [act]; intro c; cases c)⟩

/-- Settles O17: what falls before the tick leaves the roles and the mailbox, and then the swap or the context reset is made. -/
theorem swapAndContextResetFallAtTheTick : Obligations.SwapAndContextResetFallAtTheTick := by
  unfold Obligations.SwapAndContextResetFallAtTheTick
  intro s tidy armed on awake free
  obtain ⟨regs, mem⟩ := tidy_iff.1 tidy
  have calm : Calm s.begin s.begin.comingTick := comingTick_calm free awake
  have regs' : s.begin.comingTick.regsWf = true := comingTick_regs regs
  refine ⟨fun w host due act ready arb => ?_, fun pend nap => ?_⟩
  · obtain ⟨g, run⟩ := atNextTick_eq swapTick s.begin
    have exec_eq : exec .roleSwap s = .next (atNextTick swapTick s.begin) := if_pos (by
      change (s.swapDue.isSome && s.tickArmed) = true
      rw [due, armed]; rfl)
    generalize s.begin.comingTick = x at calm regs' run
    have role : x.role = s.role := congrArg CalmView.role calm.view
    have act' : x.active = some w := by rw [← act, State.active, State.active, role]
    rw [swapTick_ready ((congrArg CalmView.swapDue calm.view).trans due) act' ((roleOf_congr role _).trans ready)
      ((congrArg CalmView.arb calm.view).trans arb)] at run
    obtain ⟨mine, other, none, e7⟩ := setRoles2_swaps (s := { x with swapDue := none }) (w := w) act'
    refine ⟨_, exec_eq.trans (congrArg Host.Outcome.next run), ?_, ?_, none, e7 regs' ((congrArg CalmView.mainOff calm.view).trans on)⟩
    · cases w <;> exact mine
    · cases w <;> exact other
  · obtain ⟨g, run⟩ := atNextTick_eq (fun x => (contextClear (rolesAndGraft x)).raiseTh 24 0) s.begin
    have exec_eq : exec .contextReset s = .next (atNextTick (fun x => (contextClear (rolesAndGraft x)).raiseTh 24 0) s.begin) := if_pos (by
      change ((s.dev.ctxPend && !s.inNap) && s.tickArmed) = true
      rw [pend, nap, armed]; rfl)
    generalize s.begin.comingTick = x at calm regs' run
    have boxed : Boxed s.begin (rolesAndGraft x) := Boxed.rolesAndGraft ((Boxed.refl _).calm calm)
    have regsY : (rolesAndGraft x).regsWf = true := (keeps_rolesAndGraft (Keeps.refl x)).regs regs'
    obtain ⟨memY, boxY⟩ := boxed.box mem
    have onY : (rolesAndGraft x).mainOff = false := boxed.mainOff.trans on
    generalize rolesAndGraft x = y at run regsY memY boxY onY
    obtain ⟨regsZ, mainOff, done, sems, flags, data, memZ⟩ := contextClear_cleared regsY memY
    generalize contextClear y = z at *
    have evt : Evt z (z.raiseTh 24 0) := (Evt.refl z).raiseTh 24 0 (by decide)
    obtain ⟨-, kept⟩ := SemKept.evt (.refl z) evt regsZ
    obtain ⟨-, box⟩ := BoxKept.evt evt memZ
    refine ⟨_, exec_eq.trans (congrArg Host.Outcome.next run), ?_, evtPending_raiseTh regsZ (mainOff.trans onY) 0, fun n hn => ?_, fun a lo hi => ?_,
      fun a lo hi => ?_⟩
    · exact (congrArg (fun u : State => u.dev.ctxPend) evt.rest).trans done
    · exact (kept _ (semReg_sem n hn)).trans (sems n hn)
    · exact (box a (decide_eq_true ⟨by omega, hi⟩)).trans (flags a lo hi)
    · exact (box a (decide_eq_true ⟨lo, by omega⟩)).trans ((data a lo hi).trans (boxY a (decide_eq_true ⟨lo, by omega⟩)))

end Sys2Proof.Machine
end

section
/-!
The timing set (R54, R97): its capture, its discard, and the phase that waits for the next tick.
-/
namespace Sys2Proof.Machine

set_option Elab.async false

variable {s : State}

/-- Of two writes of a field the second stays. -/
theorem withFld_withFld (v : Word) (f : Fld) (x y : Nat) (hl : f.lo ≤ f.hi) (hf : f.hi < 32) : withFld (withFld v f x) f y = withFld v f y := by
  unfold withFld
  rw [BitVec.toNat_ofNat, Nat.mod_eq_of_lt (putFld_lt _ _ _ hl hf v.isLt)]
  congr 1
  apply Nat.eq_of_testBit_eq
  intro i
  rw [putFld_testBit _ _ _ _ hl, putFld_testBit _ _ _ _ hl, putFld_testBit _ _ _ _ hl]
  by_cases inside : f.lo ≤ i ∧ i ≤ f.hi
  · rw [if_pos inside, if_pos inside]
  · rw [if_neg inside, if_neg inside, if_neg inside]

/-- A state with the set that waits replaced. -/
def State.withPend (s : State) (x : Option TimingSet) : State := { s with tg := { s.tg with pend := x } }

/-- A capture leaves the set and PENDING. -/
theorem captureTiming_frame (h : s.regsWf = true) (at_ : Nat) :
    (captureTiming at_ s).reg Reg.TGEN_STAT = withFld (s.reg Reg.TGEN_STAT) Fld.TGEN_STAT_PENDING 1 ∧
      onlyRegs [Reg.TGEN_STAT] (s.withPend (some (s.timingShadows at_))) (captureTiming at_ s) :=
  have wf : (s.withPend (some (s.timingShadows at_))).regsWf = true := h
  ⟨reg_sf_withFld wf _ Fld.TGEN_STAT_PENDING _ (by decide), onlyRegs_sf wf _ Fld.TGEN_STAT_PENDING _ (by decide)⟩

/-- A discard leaves no set and clears PENDING. -/
theorem cancelTiming_frame (h : s.regsWf = true) :
    (cancelTiming s).reg Reg.TGEN_STAT = withFld (s.reg Reg.TGEN_STAT) Fld.TGEN_STAT_PENDING 0 ∧
      onlyRegs [Reg.TGEN_STAT] (s.withPend none) (cancelTiming s) :=
  have wf : (s.withPend none).regsWf = true := h
  ⟨reg_sf_withFld wf _ Fld.TGEN_STAT_PENDING _ (by decide), onlyRegs_sf wf _ Fld.TGEN_STAT_PENDING _ (by decide)⟩

theorem regsWf_cancelTiming (h : s.regsWf = true) : (cancelTiming s).regsWf = true :=
  State.regsWf_sf (s := s.withPend none) h _ _ _

/-- The shadows do not depend on a set that waits. -/
theorem timingShadows_cancelTiming (h : s.regsWf = true) (at_ : Nat) : (cancelTiming s).timingShadows at_ = s.timingShadows at_ := by
  obtain ⟨-, rest, keep⟩ := cancelTiming_frame h
  have stamp : (cancelTiming s).stamp = s.stamp := by rw [rest]; rfl
  have rate : (cancelTiming s).reg Reg.TGEN_RATE = s.reg Reg.TGEN_RATE := keep _ (by decide)
  have lofs : (cancelTiming s).reg Reg.TGEN_LOFS = s.reg Reg.TGEN_LOFS := keep _ (by decide)
  have cdl : (cancelTiming s).rf Reg.TGEN_CDL Fld.TGEN_CDL_PERMILLE = s.rf Reg.TGEN_CDL Fld.TGEN_CDL_PERMILLE := by
    rw [rf_eq_getFld _ _ _ (by decide), rf_eq_getFld _ _ _ (by decide)]
    exact congrArg (getFld · _) (keep _ (by decide))
  rw [State.timingShadows, State.timingShadows, stamp, rate, lofs, cdl]

/-- CANCEL in the write of a COMMIT makes no difference: the set that waits is replaced (R54). -/
theorem captureTiming_cancelTiming (h : s.regsWf = true) (at_ : Nat) :
    (captureTiming at_ (cancelTiming s)).reg Reg.TGEN_STAT = withFld (s.reg Reg.TGEN_STAT) Fld.TGEN_STAT_PENDING 1 ∧
      onlyRegs [Reg.TGEN_STAT] (s.withPend (some (s.timingShadows at_))) (captureTiming at_ (cancelTiming s)) := by
  obtain ⟨shown, rest, keep⟩ := cancelTiming_frame h
  obtain ⟨shown', rest', keep'⟩ := captureTiming_frame (regsWf_cancelTiming h) at_
  rw [timingShadows_cancelTiming h] at rest'
  refine ⟨by rw [shown', shown, withFld_withFld _ _ _ _ (by decide) (by decide)], ?_, fun a ha => (keep' a ha).trans (keep a ha)⟩
  rw [rest', rest]
  rfl

theorem exec_tgenCommit (t : Nat) (src : Requester) (cancel : Bool) (h : s.thAllows src = true) :
    exec (.tgenCommit t src cancel) s =
      .next (captureTiming (max s.now t) (if cancel then cancelTiming (s.beginAt t) else s.beginAt t)) :=
  congrArg _ (thWrite_beginAt t src _ h)

theorem exec_tgenCancel (t : Nat) (src : Requester) (h : s.thAllows src = true) :
    exec (.tgenCancel t src) s = .next (cancelTiming (s.beginAt t)) :=
  congrArg _ (thWrite_beginAt t src _ h)

theorem exec_tgenPhaseWrite (t : Nat) (src : Requester) (v : BitVec 64) (h : s.thAllows src = true) :
    exec (.tgenPhaseWrite t src v) s = .next (writePhase v ((s.beginAt t).wholeAccess src Reg.TGEN_PHASE)) :=
  congrArg _ (thWrite_beginAt t src _ h)

/-- A phase that waits for the next tick is shown in TGEN_PHASE. -/
theorem writePhase_frame (h : s.regsWf = true) (v : BitVec 64) :
    (writePhase v s).rd64 Reg.TGEN_PHASE = v.toNat ∧
      onlyRegs [Reg.TGEN_PHASE, Reg.TGEN_PHASE + 4] { s with tg := { s.tg with phaseWrite := some v } } (writePhase v s) := by
  have wf : ({ s with tg := { s.tg with phaseWrite := some v } } : State).regsWf = true := h
  exact ⟨(rd64_wr64 wf _ _).trans (Nat.mod_eq_of_lt v.isLt), onlyRegs_wr64 wf _ _⟩

/-- Settles O12, by the frames of a capture, with and without a discard before it, of a discard, and of a write of the phase. -/
theorem timingSetIsCaptured : Obligations.TimingSetIsCaptured := by
  unfold Obligations.TimingSetIsCaptured
  intro s t src tidy allows
  obtain ⟨regs, -⟩ := tidy_iff.1 tidy
  have regs' : (s.beginAt t).regsWf = true := regs
  refine ⟨fun cancel => ⟨_, exec_tgenCommit t src cancel allows, ?_⟩, ⟨_, exec_tgenCancel t src allows, cancelTiming_frame regs'⟩,
    fun v => ⟨_, exec_tgenPhaseWrite t src v allows, writePhase_frame (s := (s.beginAt t).wholeAccess src Reg.TGEN_PHASE) regs v⟩⟩
  cases cancel
  · exact captureTiming_frame regs' _
  · exact captureTiming_cancelTiming regs' _

end Sys2Proof.Machine
end

section
/-!
What computing and emitting a frame leave alone: the tick generator, the time bases, the roles and the Peristome's arbitration. The frame
accounts only grow.
-/
namespace Sys2Proof.Machine

set_option Elab.async false

variable {s0 s u : State}

/-! ### The accounts of the frames -/

/-- An account that has gone on without a new slice: a frame stays closed, and what is settled in it stays settled. -/
structure FrameAcct.Grows (f g : FrameAcct) : Prop where
  k : g.k = f.k
  slices : g.slices = f.slices
  closed : f.closed = true → g.closed = true
  settled : ∀ key ∈ f.settled, key ∈ g.settled

theorem FrameAcct.Grows.refl (f : FrameAcct) : f.Grows f := ⟨rfl, rfl, id, fun _ => id⟩

theorem FrameAcct.Grows.trans {f g h : FrameAcct} (x : f.Grows g) (y : g.Grows h) : f.Grows h :=
  ⟨y.k.trans x.k, y.slices.trans x.slices, fun c => y.closed (x.closed c), fun key m => y.settled key (x.settled key m)⟩

theorem State.frame_congr {w : Twin} (h : (u.tw w).frames = (s.tw w).frames) (k : Nat) : u.frame w k = s.frame w k :=
  congrArg (List.find? fun f : FrameAcct => decide (f.k = k)) h

theorem State.frame_k {w : Twin} {k : Nat} {f : FrameAcct} (h : s.frame w k = some f) : f.k = k := by
  simpa using List.find?_some h

theorem State.modTw_tw_other (s : State) {w v : Twin} (f : TwinState → TwinState) (h : v ≠ w) : (s.modTw w f).tw v = s.tw v := by
  cases w with
  | a => cases v with
    | a => exact absurd rfl h
    | b => rfl
  | b => cases v with
    | a => rfl
    | b => exact absurd rfl h

theorem State.modTw_tw (s : State) (w : Twin) (f : TwinState → TwinState) : (s.modTw w f).tw w = f (s.tw w) := by cases w <;> rfl

/-- The accounts after a change of the accounts of frame `k`. -/
theorem State.frame_modFrame (s : State) (w : Twin) (k : Nat) {φ : FrameAcct → FrameAcct} (hk : ∀ f, (φ f).k = f.k) (j : Nat) :
    (s.modFrame w k φ).frame w j = (s.frame w j).map (fun f => if f.k = k then φ f else f) := by
  have same : ∀ f : FrameAcct, (if f.k = k then φ f else f).k = f.k := fun f => by
    split
    · exact hk f
    · rfl
  rw [State.frame, State.modFrame, State.modTw_tw, List.find?_map]
  simp only [Function.comp_def, same]
  rfl

theorem State.frame_modFrame_self (s : State) {w : Twin} {k : Nat} {φ : FrameAcct → FrameAcct} {f : FrameAcct} (h : s.frame w k = some f)
    (hk : ∀ f, (φ f).k = f.k := by exact fun _ => rfl) : (s.modFrame w k φ).frame w k = some (φ f) := by
  rw [State.frame_modFrame s w k hk, h]
  exact congrArg some (if_pos (State.frame_k h))

theorem State.frame_modFrame_other (s : State) {w v : Twin} (h : v ≠ w) (k j : Nat) (φ : FrameAcct → FrameAcct) :
    (s.modFrame w k φ).frame v j = s.frame v j :=
  State.frame_congr (congrArg TwinState.frames (State.modTw_tw_other s _ h)) j

/-- Each account of `s` is in `u`, and may have grown. -/
def FramesGrow (s u : State) : Prop := ∀ w k f, s.frame w k = some f → ∃ g, u.frame w k = some g ∧ f.Grows g

theorem FramesGrow.trans (h : FramesGrow s0 s) (g : FramesGrow s u) : FramesGrow s0 u := fun w k f hf => by
  obtain ⟨f', hf', grow⟩ := h w k f hf
  obtain ⟨f'', hf'', grow'⟩ := g w k f' hf'
  exact ⟨f'', hf'', grow.trans grow'⟩

theorem FramesGrow.of_frames (h : ∀ w, (u.tw w).frames = (s.tw w).frames) : FramesGrow s u :=
  fun w k f hf => ⟨f, (State.frame_congr (h w) k).trans hf, .refl f⟩

theorem FramesGrow.modFrame (s : State) (w : Twin) (k : Nat) {φ : FrameAcct → FrameAcct} (grow : ∀ f, FrameAcct.Grows f (φ f)) :
    FramesGrow s (s.modFrame w k φ) := fun v j f hf => by
  by_cases same : v = w
  · subst same
    rw [State.frame_modFrame s v k (fun f => (grow f).k), hf]
    refine ⟨_, rfl, ?_⟩
    dsimp only
    split
    · exact grow f
    · exact .refl f
  · exact ⟨f, (State.frame_modFrame_other s same k j φ).trans hf, .refl f⟩

/-! ### The tables of the image -/

/-- Unless a graft has left older tables in a twin, no older tables come, and memory keeps all but what events write. -/
def TablesKept (s u : State) : Prop := (∀ w, (s.tw w).oldEnts = []) → (∀ w, (u.tw w).oldEnts = []) ∧
  (Memory.wf s.mem = true → Memory.wf u.mem = true ∧ ∀ a, evtByte a = false → u.rdB a = s.rdB a)

theorem TablesKept.trans (h : TablesKept s0 s) (g : TablesKept s u) : TablesKept s0 u := fun none_ => by
  obtain ⟨none', keep⟩ := h none_
  obtain ⟨none'', keep'⟩ := g none'
  refine ⟨none'', fun x => ?_⟩
  obtain ⟨wf, same⟩ := keep x
  obtain ⟨wf', same'⟩ := keep' wf
  exact ⟨wf', fun a ha => (same' a ha).trans (same a ha)⟩

theorem TablesKept.of_mem (old : ∀ w, (u.tw w).oldEnts = (s.tw w).oldEnts) (mem : u.mem = s.mem) : TablesKept s u :=
  fun none_ => ⟨fun w => (old w).trans (none_ w), fun x => ⟨by rw [mem]; exact x, fun a _ => by rw [State.rdB, State.rdB, mem]⟩⟩

/-! ### Registers that stay -/

/-- The registers that `p` picks are as they were. -/
def RegsKept (p : Nat → Bool) (s u : State) : Prop := s.regsWf = true → u.regsWf = true ∧ ∀ a, p a = true → u.reg a = s.reg a

section
variable {p : Nat → Bool}

theorem RegsKept.refl (s : State) : RegsKept p s s := fun h => ⟨h, fun _ _ => rfl⟩

theorem RegsKept.trans (h : RegsKept p s0 s) (g : RegsKept p s u) : RegsKept p s0 u := fun x => by
  obtain ⟨wf, same⟩ := h x
  obtain ⟨wf', same'⟩ := g wf
  exact ⟨wf', fun a ha => (same' a ha).trans (same a ha)⟩

theorem RegsKept.of_regs (h : u.regs = s.regs) : RegsKept p s u :=
  fun x => ⟨by rw [State.regsWf, h]; exact x, fun a _ => by rw [State.reg, State.reg, h]⟩

theorem RegsKept.setReg (s : State) {a : Nat} (v : Word) (ha : p a = false) : RegsKept p s (s.setReg a v) :=
  fun x => ⟨State.regsWf_setReg x a v, fun b hb => State.reg_setReg_ne x (fun e => by rw [e, ha] at hb; cases hb) v⟩

theorem RegsKept.evt (h : Evt s u) (out : ∀ a, p a = true → evtReg a = false) : RegsKept p s u := fun x => by
  obtain ⟨wf, keep⟩ := h.regs x
  exact ⟨wf, fun a ha => keep a (out a ha)⟩

theorem RegsKept.resetRegs (s : State) {q : Nat → Bool} (out : ∀ a, p a = true → q a = false) : RegsKept p s (s.resetRegs q) := fun x =>
  ⟨Smap.wf_filter x _, fun a ha => Smap.get_filter_in (q := fun a => !q a) x (by rw [out a ha]; rfl) _⟩

end

/-! ### What stays while a frame is computed and emitted -/

/-- The present instant, the tick generator, the time bases, the roles, what the Peristome decides and shifts, what restarts in
place, and the sleep sequence. -/
structure SteadyView where
  now : Nat
  tg : TickGen
  tb0 : TimeBase
  tb1 : TimeBase
  tb2 : TimeBase
  tb3 : TimeBase
  role : Roles
  arb : Option Arb
  shifts : List (Nat × Nat × Nat)
  hand : Option Handover
  sleep : Option SleepReq

def State.steadyView (s : State) : SteadyView := ⟨s.now, s.tg, s.tb0, s.tb1, s.tb2, s.tb3, s.role, s.peri.arb, s.peri.shifts, s.boot.hand,
  s.pwr.sleep⟩

/-- TGEN_NUM, TGEN_LATCH_TS and PERI_STAT. -/
def steadyReg (a : Nat) : Bool := [Reg.TGEN_NUM, Reg.TGEN_LATCH_TS, Reg.TGEN_LATCH_TS + 4, Reg.PERI_STAT].contains a

/-- `u` has the tick generator, the time bases, the roles, the registers above and the tables of `s`, and its frame accounts, which may have
grown. -/
structure Steady (s u : State) : Prop where
  view : u.steadyView = s.steadyView
  regs : RegsKept steadyReg s u
  frames : FramesGrow s u
  tables : TablesKept s u

/-- The accounts and the older tables of a twin. -/
def TwinState.accounts (t : TwinState) : List FrameAcct × List ((Nat × Nat × Nat) × List Byte) := (t.frames, t.oldEnts)

/-- An address of none of the registers that stay. -/
abbrev Away (a : Nat) : Prop := steadyReg a = false

theorem Away.high {a : Nat} (h : 0x01010000 ≤ a) : Away a := by
  refine Bool.eq_false_iff.2 ?_
  intro c
  have := List.contains_iff_mem.1 c
  simp only [Reg.TGEN_NUM, Reg.TGEN_LATCH_TS, Reg.PERI_STAT, List.mem_cons, List.not_mem_nil, or_false] at this
  omega

theorem Away.twin {w : Twin} {n : Nat} : Away (w.base + n) := .high (box_le_twin w n)
theorem Away.twin2 {w : Twin} {n m : Nat} : Away (w.base + n + m) := .high (box_le_twin2 w n m)
theorem Away.twin3 {w : Twin} {n m l : Nat} : Away (w.base + n + m + l) := .high (Nat.le_trans (box_le_twin2 w n m) (Nat.le_add_right _ _))
theorem Away.banked {r : Nat} {w : Twin} {n : Nat} : Away (banked r (w.base + n)) :=
  .high (Nat.le_trans (box_le_twin w n) (Nat.le_add_right _ _))

theorem evtReg_of_steadyReg (a : Nat) (h : steadyReg a = true) : evtReg a = false := by
  have all : ∀ b ∈ [Reg.TGEN_NUM, Reg.TGEN_LATCH_TS, Reg.TGEN_LATCH_TS + 4, Reg.PERI_STAT], evtReg b = false := by decide
  exact all a (List.contains_iff_mem.1 h)

theorem Steady.refl (s : State) : Steady s s := ⟨rfl, .refl s, .of_frames fun _ => rfl, .of_mem (fun _ => rfl) rfl⟩

theorem Steady.trans (h : Steady s0 s) (g : Steady s u) : Steady s0 u :=
  ⟨g.view.trans h.view, h.regs.trans g.regs, h.frames.trans g.frames, h.tables.trans g.tables⟩

theorem Steady.ite {a b : State} {c : Prop} [Decidable c] (ha : Steady s a) (hb : Steady s b) : Steady s (if c then a else b) := by
  split
  · exact ha
  · exact hb

theorem Steady.foldl {α : Type} {f : State → α → State} (h : Steady s0 s) (step : ∀ x e, Steady s0 x → Steady s0 (f x e)) (l : List α) :
    Steady s0 (l.foldl f s) := by
  induction l generalizing s with
  | nil => exact h
  | cons e l ih => exact ih (step s e h)

/-- A fold that carries a number beside the state. -/
theorem Steady.foldl_snd {α β : Type} {f : β × State → α → β × State} (step : ∀ p e, Steady s0 p.2 → Steady s0 (f p e).2) (l : List α) :
    ∀ p : β × State, Steady s0 p.2 → Steady s0 (l.foldl f p).2 := by
  induction l with
  | nil => exact fun _ h => h
  | cons e l ih => exact fun p h => ih _ (step p e h)

theorem Steady.each {p : Twin → Bool} {f : Twin → State → State} (h : Steady s0 s) (step : ∀ w x, Steady s0 x → Steady s0 (f w x)) :
    Steady s0 (s.each p f) := by
  unfold State.each
  split
  · exact .ite (step _ _ (step _ _ h)) (step _ _ h)
  · exact .ite (step _ _ h) h

/-- A change beside what `Steady` names. -/
theorem Steady.frame (h : Steady s0 s) (view : u.steadyView = s.steadyView := by rfl) (regs : u.regs = s.regs := by rfl)
    (mem : u.mem = s.mem := by rfl) (a : u.a.accounts = s.a.accounts := by rfl) (b : u.b.accounts = s.b.accounts := by rfl) : Steady s0 u := by
  have twins : ∀ w, (u.tw w).accounts = (s.tw w).accounts := fun w => by
    cases w
    · exact a
    · exact b
  exact h.trans ⟨view, .of_regs regs, .of_frames fun w => congrArg Prod.fst (twins w), .of_mem (fun w => congrArg Prod.snd (twins w)) mem⟩

theorem Steady.evt (h : Steady s0 s) (g : Evt s u) : Steady s0 u := by
  have twins : ∀ w, (u.tw w).accounts = (s.tw w).accounts := fun w => by
    rw [g.rest]
    cases w <;> rfl
  refine h.trans ⟨?_, .evt g evtReg_of_steadyReg, .of_frames fun w => congrArg Prod.fst (twins w),
    fun none_ => ⟨fun w => (congrArg Prod.snd (twins w)).trans (none_ w), g.bytes⟩⟩
  rw [g.rest]
  rfl

/-- Where a graft has left older tables nothing is said of the tables. -/
theorem Steady.wrBytes {a : Nat} {l : List Byte} (h : Steady s0 s) (busy : ¬∀ w, (s0.tw w).oldEnts = []) : Steady s0 (s.wrBytes a l) := by
  rw [wrBytes_eq]
  exact ⟨h.view, h.regs.trans (.of_regs rfl), h.frames.trans (.of_frames fun _ => rfl), fun none_ => absurd none_ busy⟩

/-! ### The shared operations -/

section
variable (h : Steady s0 s) {w : Twin}
include h

theorem Steady.setReg {a : Nat} {v : Word} (ha : Away a := by decide) : Steady s0 (s.setReg a v) :=
  h.trans ⟨rfl, .setReg s v ha, .of_frames fun _ => rfl, .of_mem (fun _ => rfl) rfl⟩
theorem Steady.orReg {a v : Nat} (ha : Away a := by decide) : Steady s0 (s.orReg a v) := h.setReg ha
theorem Steady.sf {a : Nat} {f : Fld} {v : Nat} (ha : Away a := by decide) (hf : f.hi < 32 := by decide) : Steady s0 (s.sf a f v) := by
  rw [State.sf_low _ _ _ _ hf]
  exact h.setReg ha
theorem Steady.sb {a : Nat} {f : Fld} {v : Bool} (ha : Away a := by decide) (hf : f.hi < 32 := by decide) : Steady s0 (s.sb a f v) := h.sf ha hf
theorem Steady.bump {a : Nat} {f : Fld} {n : Nat} (ha : Away a := by decide) (hf : f.hi < 32 := by decide) : Steady s0 (s.bump a f n) :=
  h.sf ha hf
theorem Steady.wr64 {a v : Nat} (ha : Away a := by decide) (ha' : Away (a + 4) := by decide) : Steady s0 (s.wr64 a v) :=
  (h.setReg ha).setReg ha'
theorem Steady.peak {a : Nat} {f : Fld} {n : Nat} (ha : Away a := by decide) (hf : f.hi < 32 := by decide) : Steady s0 (s.peak a f n) :=
  (h.sf (v := max (s.rf a f) (min n (2 ^ (f.hi - f.lo + 1) - 1))) ha hf).frame
theorem Steady.modTw {f : TwinState → TwinState} (keep : ∀ t, (f t).accounts = t.accounts := by exact fun _ => rfl) : Steady s0 (s.modTw w f) := by
  cases w
  · exact h.frame (a := keep _)
  · exact h.frame (b := keep _)
theorem Steady.modFrame {k : Nat} {φ : FrameAcct → FrameAcct}
    (grow : ∀ f, FrameAcct.Grows f (φ f) := by exact fun _ => ⟨rfl, rfl, id, fun _ => id⟩) : Steady s0 (s.modFrame w k φ) :=
  h.trans ⟨by cases w <;> rfl, .of_regs (modTw_regs s w _), .modFrame s w k grow, .of_mem (fun v => by cases w <;> cases v <;> rfl) (by cases w <;> rfl)⟩
theorem Steady.modSorus {f : Sorus → Sorus} : Steady s0 (s.modSorus w f) := h.modTw
theorem Steady.modHlth {f : Health → Health} : Steady s0 (s.modHlth w f) := h.modTw
theorem Steady.setStrand {p : Nat} {x : Strand} : Steady s0 (s.setStrand w p x) := h.modTw
theorem Steady.setDmx {p : Nat} {x : DmxPort} : Steady s0 (s.setDmx w p x) := h.modTw
theorem Steady.setSacnOut {n : Nat} {x : SacnOut} : Steady s0 (s.setSacnOut w n x) := h.modTw
theorem Steady.emit {o : Out} : Steady s0 (s.emit o) := h.frame
theorem Steady.emitPkt {p at_ : Nat} {b : List Byte} : Steady s0 (s.emitPkt p at_ b) := h.frame
theorem Steady.bankViol {n : Nat} : Steady s0 (s.bankViol w n) := h.evt ((Evt.refl s).bankViol w n)
theorem Steady.setHealth {bit : Nat} : Steady s0 (s.setHealth w bit) := by
  unfold State.setHealth
  refine .ite h ?_
  cases w
  · exact Steady.frame (h.orReg (a := Reg.PERI_HEALTH_A) (v := 2 ^ bit))
  · exact Steady.frame (h.orReg (a := Reg.PERI_HEALTH_B) (v := 2 ^ bit))
theorem Steady.raiseTwinAt {n data stamp : Nat} (hn : n < 256 := by decide) : Steady s0 (s.raiseTwinAt w n data stamp) :=
  h.evt ((Evt.refl s).raiseTwinAt _ _ _ _ hn)
theorem Steady.raiseOnce {ctl n data : Nat} {en : Fld} (hn : n < 256 := by decide) : Steady s0 (s.raiseOnce w ctl en n data) :=
  h.evt ((Evt.refl s).raiseOnce _ _ _ _ _ hn)
theorem Steady.raiseTh {n data : Nat} (hn : n < 256 := by decide) : Steady s0 (s.raiseTh n data) := h.evt ((Evt.refl s).raiseTh _ _ hn)

end

/-! ### Work queues -/

section
variable (h : Steady s0 s) {w : Twin} {q by_ stampTick k : Nat} {soft : Bool} {item : Item}
include h

theorem Steady.pushItem : Steady s0 (pushItem w q by_ soft stampTick item s).2.2 := h.evt ((Evt.refl s).pushItem _ _ _ _ _ _)

theorem Steady.pushLost : Steady s0 (pushLost w q s) := ((h.bump .twin2).bump .twin).raiseOnce

theorem Steady.giveWay {t : Slot} : Steady s0 (giveWay w q t s) := .ite (h.modTw.pushLost.sf .banked) h.modTw.pushLost

theorem Steady.pushPlaced : Steady s0 (pushPlaced w q by_ soft stampTick item s).2.2 := by
  unfold Machine.pushPlaced
  extract_lets r
  split
  · exact h.giveWay.pushItem
  · exact h.pushItem

theorem Steady.pushCounted : Steady s0 (pushCounted w q by_ soft stampTick item s).2 := by
  have placed : Steady s0 (Machine.pushPlaced w q by_ soft stampTick item s).2.2 := h.pushPlaced
  unfold Machine.pushCounted
  generalize Machine.pushPlaced w q by_ soft stampTick item s = p at placed
  obtain ⟨r, cut, s1⟩ := p
  have h2 : Steady s0 (if cut then s1.bump (Reg.SORUS_ERR w) Fld.SORUS_ERR_PKT_TRUNC else s1) := .ite (placed.bump .twin) placed
  cases r
  case done => exact h2
  case full => exact h2.pushLost
  case bank => exact h2.bankViol.raiseOnce.pushLost
  case window => exact ((h2.bump .twin).bump .twin2).raiseOnce
  all_goals exact (h2.bump .twin).raiseOnce

theorem Steady.drainFlow {f fuel : Nat} : Steady s0 (drainFlow w f fuel s) := by
  induction fuel generalizing s with
  | zero => exact h
  | succ fuel ih =>
    unfold Machine.drainFlow
    extract_lets
    split
    · exact h
    · split
      · extract_lets
        exact ih (Steady.modSorus (.ite (h.bump .twin2) h.pushCounted))
      · exact h

theorem Steady.dropSlots {p : Slot → Bool} : Steady s0 (dropSlots w q p s) := h.modSorus.foldl (fun _ _ hx => hx.drainFlow) _

end

/-! ### The compute deadline (R60, R62) -/

section
variable (h : Steady s0 s) {w : Twin} {k key at_ : Nat}
include h

theorem Steady.raiseComp : Steady s0 (raiseComp w k at_ s) := by
  unfold Machine.raiseComp
  split
  · exact .ite h (.ite h.modFrame.raiseTwinAt h.modFrame)
  · exact h

theorem Steady.raiseEmit : Steady s0 (raiseEmit w k at_ s) := by
  unfold Machine.raiseEmit
  split
  · exact .ite h.modFrame (.ite h.modFrame.raiseTwinAt h.modFrame)
  · exact h

theorem Steady.markStale : Steady s0 (markStale w k key at_ s) := by
  unfold Machine.markStale
  split
  · exact .ite h (.ite h.modFrame (.ite h.modFrame.raiseTwinAt h.modFrame))
  · exact h

theorem Steady.markSlice : Steady s0 (markSlice w k key at_ s) := by
  unfold Machine.markSlice
  extract_lets s1
  refine Steady.markStale ?_
  unfold s1
  split
  · exact .ite h h.markStale
  · exact h

end

/-- A deadline closes the account of its frame, and what follows only goes on from there. -/
theorem closeFrame_closing (at_ : Nat) (w : Twin) (f : FrameAcct) (s : State) : ∃ φ : FrameAcct → FrameAcct,
    (∀ g, FrameAcct.Grows g (φ g) ∧ (φ g).closed = true) ∧ Steady (s.modFrame w f.k φ) (closeFrame at_ w f s) := by
  unfold closeFrame
  extract_lets dropped scan any_ s1 s2
  refine ⟨fun a => { a with closed := true, dropped := any_, mapDrop := !dropped.isEmpty }, fun g => ⟨⟨rfl, rfl, fun _ => rfl, fun _ => id⟩, rfl⟩, ?_⟩
  change Steady s1 _
  have h2 : Steady s1 s2 := .ite (Steady.refl s1).raiseComp (.refl s1)
  refine h2.foldl (fun x e hx => ?_) _
  split
  · exact .ite hx hx.markSlice
  · exact hx.markStale

section
variable (h : Steady s0 s) {w : Twin} {k key at_ : Nat}
include h

theorem Steady.closeFrame {f : FrameAcct} : Steady s0 (closeFrame at_ w f s) := by
  obtain ⟨φ, grow, rest⟩ := closeFrame_closing at_ w f s
  exact (h.modFrame fun g => (grow g).1).trans rest

theorem Steady.lagging {f : FrameAcct} : Steady s0 (lagging f s) := by
  unfold Machine.lagging
  split
  · exact h
  · exact .ite (.ite h (Steady.setHealth h.frame)) h

theorem Steady.sorusAbort : Steady s0 (sorusAbort w k s).2 := by
  unfold Machine.sorusAbort
  generalize List.range 64 = queues
  extract_lets o hit step
  have aborted : Steady s0 (queues.foldl step (0, s)).2 := by
    refine Steady.foldl_snd (fun p q hp => ?_) _ _ h
    obtain ⟨n, y⟩ := p
    unfold step
    extract_lets inRing onStack m
    clear_value m
    dsimp only
    split
    · exact hp
    · have dropped : Steady s0 (Machine.dropSlots w q hit y) := Steady.dropSlots hp
      dsimp only
      exact dropped.bump .twin2
  generalize queues.foldl step (0, s) = p at aborted
  obtain ⟨n, s1⟩ := p
  have marked : Steady s0 s1 := aborted
  dsimp only
  exact ((marked.foldl (fun x c hx => .ite (hx.modSorus.sb .banked) hx) _).bump .twin).bump .twin

end

/-! ### Emission (R63 to R69) -/

section
variable (h : Steady s0 s) {w : Twin} {f : FrameAcct} {x : Slice} {k p key at_ start stop : Nat}
include h

theorem Steady.settleKey {changed : Bool} : Steady s0 (settleKey w k key changed s) :=
  h.modFrame (fun _ => ⟨rfl, rfl, id, fun _ => List.mem_append_left _⟩)

theorem Steady.recordEmission : Steady s0 (recordEmission w x s) := by
  unfold Machine.recordEmission
  extract_lets s1 s2 s3
  have h1 : Steady s0 s1 := h.modTw.modTw
  have h2 : Steady s0 s2 := by
    unfold s2
    split
    next q _ =>
      have shown : Steady s0 (s1.setReg (Reg.MAP_PORT_CRC w q) (BitVec.ofNat 32 (crc32 x.bytes))) := h1.setReg .twin2
      exact .ite shown.frame shown
    next => exact h1
  exact (h2.bump .twin).modHlth

theorem Steady.sendPkt {b : List Byte} : Steady s0 (sendPkt w p at_ b s) := by
  unfold Machine.sendPkt
  refine .ite ?_ h
  extract_lets d s1
  have h1 : Steady s0 s1 := .ite h.frame h
  exact h1.emitPkt

theorem Steady.sendPkts {l : List (List Byte)} : Steady s0 (sendPkts w p at_ l s).2 := by
  induction l generalizing s at_ with
  | nil => exact h
  | cons b l ih => exact ih h.sendPkt

theorem Steady.showStatic : Steady s0 (showStatic w p s) := by
  unfold Machine.showStatic
  exact (h.sf .twin2).sf .twin2

theorem Steady.prnData {window line : Nat} {full : Bool} : Steady s0 (prnData w f p start window line full x s) :=
  (((h.sendPkts.setStrand.bump .twin2).bump .twin2).sb .twin2).modFrame.recordEmission

theorem Steady.prnStatic : Steady s0 (prnStatic w f p start stop x s) :=
  ((h.sendPkts.bump .twin2).sb .twin2).setStrand.modFrame.recordEmission

theorem Steady.prnStale : Steady s0 (prnStale w f p start s) := (h.sendPkt.setStrand.sb .twin2).markStale

theorem Steady.staleOrHold {stale : State → State} (keep : ∀ x, Steady s0 x → Steady s0 (stale x)) : Steady s0 (staleOrHold w f p stale s) :=
  .ite (keep s h) h.modFrame

theorem Steady.prnConfig {budget : Nat} : Steady s0 (prnConfig w f p start budget s) :=
  (((h.sendPkts.setStrand.bump .twin2).bump .twin2).sb .twin2).staleOrHold (fun _ hx => hx.markStale)

end

/-- A Proren port's slice is settled, and what follows only goes on from there. -/
theorem prnEmit_settles (w : Twin) (f : FrameAcct) (p start stop : Nat) (s : State) :
    Steady (settleKey w f.k p (s.complete w f p && s.changed w f p) s) (prnEmit w f p start stop s) := by
  unfold prnEmit
  extract_lets ch s00
  have hs : Steady s00 s00 := .refl s00
  have stale : Steady s00 (staleOrHold w f p (prnStale w f p start) s00) := hs.staleOrHold (fun _ hx => hx.prnStale)
  split
  · exact .ite stale (.ite (.ite hs.setStrand.prnData.showStatic (.ite hs.prnConfig stale.raiseEmit))
      (.ite hs.setStrand.prnStatic.showStatic stale.raiseEmit))
  · exact stale

section
variable (h : Steady s0 s) {w : Twin} {f : FrameAcct} {k p key at_ start stop : Nat}
include h

theorem Steady.sendWire {b : List Byte} : Steady s0 (sendWire w p stop b s) := by
  have h1 : Steady s0 (if s.active = some w ∧ !s.portHeld then s.emit (.wire p (stop - s.tWire w p b) (s.wireForm w p) (s.wireBytes w p b)) else s) :=
    .ite h.emit h
  exact .ite h1.setDmx h1

theorem Steady.repeatWire {b : List Byte} : Steady s0 (repeatWire w f p stop b s) := .ite (h.sendWire.bump .twin2) (h.bump .twin2)

end

/-- A DMX or pixel port's slice is settled, and what follows only goes on from there. -/
theorem wireEmit_settles (w : Twin) (f : FrameAcct) (p key start : Nat) (s : State) :
    Steady (settleKey w f.k key (s.complete w f key && s.changed w f key) s) (wireEmit w f p key start s) := by
  unfold wireEmit
  extract_lets stop ch s00 idle bad
  have hs : Steady s00 s00 := .refl s00
  have hbad : Steady s00 (bad s00) := .ite (.ite hs.markSlice hs.markSlice.repeatWire) hs.modFrame
  split
  · exact .ite hs (.ite (hs.sendWire.bump .twin2).modFrame.recordEmission hbad.raiseEmit)
  · exact hbad

section
variable (h : Steady s0 s) {w : Twin} {f : FrameAcct} {k p key at_ start stop : Nat}
include h

theorem Steady.sendNet {n a : Nat} {v6 : Bool} {b : List Byte} : Steady s0 (sendNet w n v6 a b s) :=
  .ite ((h.bump .twin2).wr64 .twin2 .twin3).emit ((h.bump .twin2).wr64 .twin2 .twin3)

theorem Steady.releaseUniv {a : Nat} {pkt : List Byte} : Steady s0 (releaseUniv w f a start stop pkt s) := by
  refine h.foldl (fun x n hx => ?_) _
  split
  · exact hx
  · exact .ite (hx.bump .twin).markStale.raiseEmit (hx.modFrame.bump .twin).sendNet

end

/-- A universe's slice is settled, and what follows only goes on from there. -/
theorem univEmit_settles (w : Twin) (f : FrameAcct) (n start : Nat) (s : State) :
    Steady (settleKey w f.k (128 + n) (s.complete w f (128 + n) && s.changed w f (128 + n)) s) (univEmit w f n start s) := by
  unfold univEmit
  extract_lets key stop ch s00 o keep fits send last
  have hs : Steady s00 s00 := .refl s00
  refine .ite hs.markStale ?_
  split
  extract_lets due
  have hsend : ∀ b x, Steady s00 x → Steady s00 (send b x) := fun b x hx => hx.setSacnOut.releaseUniv
  split
  · exact .ite (.ite (hsend _ _ hs).recordEmission (hsend _ _ hs)) hs.setSacnOut
  · exact hsend _ _ hs.markStale

/-- A slice of a frame is settled, under the key of its port where it has one. -/
theorem emitSlice_settles {w : Twin} {k : Nat} {f : FrameAcct} {s : State} (key start : Nat) (hf : s.frame w k = some f) :
    ∃ n b, (s.slicePort w key = none ∨ s.slicePort w key = some key → n = key) ∧ Steady (settleKey w k n b s) (emitSlice k key start w s) := by
  unfold emitSlice
  rw [hf]
  have same : f.k = k := State.frame_k hf
  subst same
  dsimp only
  split
  next free =>
    refine ⟨_, _, fun _ => ?_, univEmit_settles w f (key - 128) start s⟩
    have univ : ¬ key < 128 := fun low => by
      rw [State.slicePort, if_pos low] at free
      cases free
    omega
  next p port =>
    have held : Steady (settleKey w f.k key (s.complete w f key && s.changed w f key) s)
        (settleKey w f.k key (s.complete w f key && s.changed w f key) s) := .refl _
    split
    · exact ⟨key, _, fun _ => rfl, held.modFrame⟩
    · split
      · exact ⟨key, _, fun _ => rfl, .refl _⟩
      · refine ⟨p, _, fun own => ?_, prnEmit_settles w f p start _ s⟩
        rcases own with c | c
        · rw [port] at c
          cases c
        · exact Option.some.inj (port.symm.trans c)
      · exact ⟨key, _, fun _ => rfl, wireEmit_settles w f p key start s⟩

section
variable (h : Steady s0 s) {w : Twin} {f : FrameAcct} {k p key at_ start stop : Nat}
include h

theorem Steady.emitSlice : Steady s0 (emitSlice k key start w s) := by
  cases hf : s.frame w k with
  | none =>
    unfold Machine.emitSlice
    rw [hf]
    exact h
  | some f =>
    obtain ⟨n, b, -, rest⟩ := emitSlice_settles key start hf
    exact h.settleKey.trans rest

/-! ### The tables of an older image (R112) -/

theorem Steady.putEntries {l : List ((Nat × Nat × Nat) × List Byte)} (busy : ¬∀ v, (s0.tw v).oldEnts = []) : Steady s0 (putEntries w l s) :=
  h.foldl (fun _ _ hx => hx.wrBytes busy) _

theorem Steady.onOldTables {g : State → State} (keep : ∀ x, Steady s0 x → Steady s0 (g x)) : Steady s0 (onOldTables w k g s) := by
  unfold Machine.onOldTables
  extract_lets old
  split
  · exact keep s h
  next other =>
    have busy : ¬∀ v, (s0.tw v).oldEnts = [] := fun none_ => other (.inl ((h.tables none_).1 w))
    exact (keep _ (h.putEntries busy)).putEntries busy

theorem Steady.emitOne : Steady s0 (emitOne k key start w s) := h.onOldTables (fun _ hx => hx.emitSlice)

theorem Steady.emitKey : Steady s0 (emitKey k key start s) := by
  have each : Steady s0 (s.each s.computes (Machine.emitOne k key start)) := h.each (fun _ _ hx => hx.emitOne)
  exact .ite each.frame each

theorem Steady.settleFrame : Steady s0 (settleFrame k s) := by
  unfold Machine.settleFrame
  split
  · exact h
  · refine h.foldl (fun x e hx => ?_) _
    split
    · refine .ite hx ?_
      split
      · exact hx.emitKey
      · exact hx
    · exact hx

/-! ### RDM on a strand port -/

theorem Steady.showDmx : Steady s0 (showDmx w p s) := ((h.sf .twin2).sf .twin2).sb .twin2

theorem Steady.rdmItem {r : RdmReq} {status len stamp : Nat} : Steady s0 (rdmItem w p r status len stamp s) := .ite h h.pushCounted

theorem Steady.endRdm : Steady s0 (endRdm w p at_ s) := h.setDmx.showDmx

theorem Steady.slipRdm : Steady s0 (slipRdm w p s) := by
  unfold Machine.slipRdm
  split
  · split
    · exact (Steady.ite h h.rdmItem).endRdm
    · exact h.endRdm
  · exact h

theorem Steady.markSlip : Steady s0 (markSlip w k p s) := h.modFrame (fun a => by
  split
  · exact .refl a
  · exact ⟨rfl, rfl, id, fun _ => id⟩)

theorem Steady.slipStream : Steady s0 (slipStream k p s) := by
  unfold Machine.slipStream
  refine .ite h ?_
  extract_lets p1 s1 s2 p2
  have h1 : Steady s0 s1 := Steady.bump h.frame
  have h2 : Steady s0 s2 := h1.each (fun _ _ hx => hx.markSlip.slipRdm)
  exact .ite h2 (Steady.raiseTh h2.frame)

/-! ### The latch (R51, R39) -/

theorem Steady.prnLatch : Steady s0 (prnLatch w f p at_ s) := .ite h (.ite h.sendPkt.sendPkt h.sendPkt)

theorem Steady.sendSyncs : Steady s0 (sendSyncs w f s) := h.foldl (fun _ _ hx => hx.modTw.foldl (fun _ _ hy => (hy.bump .twin).sendNet) _) _

theorem Steady.refreshCfg : Steady s0 (refreshCfg w p k at_ s) := h.sendPkts.setStrand.bump .twin2

theorem Steady.prnPoll : Steady s0 (prnPoll w p k at_ s) := .ite h.setStrand (h.setStrand.sendPkt.sf .twin2).refreshCfg

theorem Steady.latchTwin {deferred : Bool} : Steady s0 (latchTwin k at_ deferred w s) := by
  unfold Machine.latchTwin
  split
  · exact h
  · extract_lets ports s1 s2
    have h2 : Steady s0 s2 := (h.foldl (fun _ _ hx => hx.prnLatch) _).sendSyncs
    exact .ite h2 (h2.foldl (fun _ _ hx => hx.prnPoll) _)

theorem Steady.turnPort {a b : Nat} : Steady s0 (turnPort p a b s) := .ite h.frame h

theorem Steady.portSwitched {a : Nat} : Steady s0 (portSwitched w p a s) := by
  unfold Machine.portSwitched
  refine .ite h ?_
  extract_lets s1 s2 s3
  have h1 : Steady s0 s1 := .ite (h.setStrand.sf .twin2) h
  have h2 : Steady s0 s2 := .ite h1.setDmx.showDmx h1
  have h3 : Steady s0 s3 := h2.modTw.turnPort
  exact h3.frame

theorem Steady.dropOld : Steady s0 (dropOld w s) := by
  refine Steady.foldl (s := s.modTw w (fun t => { t with oldEnts := [] })) (h.trans ?_) (fun _ _ hx => .ite hx.portSwitched hx) _
  refine ⟨by cases w <;> rfl, .of_regs (modTw_regs s w _), .of_frames fun v => by cases w <;> cases v <;> rfl, fun none_ => ⟨fun v => ?_, fun x => ?_⟩⟩
  · by_cases same : v = w
    · rw [same, State.modTw_tw]
    · rw [State.modTw_tw_other s _ same]
      exact none_ v
  · cases w <;> exact ⟨x, fun _ _ => rfl⟩

end

end Sys2Proof.Machine
end

section
/-!
The account of a frame while it is computed (R52, R60, R62).
-/
namespace Sys2Proof.Machine

set_option Elab.async false

variable {s0 s u : State} {w : Twin} {f : FrameAcct} {k t : Nat}

/-! ### The frame that a twin computes -/

/-- The newest frame's account stands under its number, and the frame has that of the newest tick. -/
theorem computing_frame (h : s.computing w = some f) : s.frame w f.k = some f ∧ f.k = s.tickNo := by
  have newest : s.frame w s.tickNo = some f := by
    unfold State.computing at h
    change (match s.frame w s.tickNo with | some f => if f.closed = true then none else some f | none => none) = some f at h
    cases found : s.frame w s.tickNo with
    | none =>
      rw [found] at h
      cases h
    | some g =>
      rw [found] at h
      dsimp only at h
      split at h
      · cases h
      · rw [h]
  have same : f.k = s.tickNo := State.frame_k newest
  exact ⟨same ▸ newest, same⟩

theorem State.computing_beginAt (s : State) (t : Nat) (w : Twin) : (s.beginAt t).computing w = s.computing w := by cases w <;> rfl

/-- A change of one twin's account of a frame leaves the rest. -/
theorem State.modFrame_rest (s : State) (w : Twin) (k : Nat) (φ : FrameAcct → FrameAcct) :
    (s.modFrame w k φ).tw w.other = s.tw w.other ∧ (s.modFrame w k φ).mem = s.mem ∧ (s.modFrame w k φ).regs = s.regs ∧
      (s.modFrame w k φ).role = s.role := by
  cases w <;> exact ⟨rfl, rfl, rfl, rfl⟩

/-! ### A stripe (R191) -/

/-- The next stripe of the frame that a twin computes is recorded in its account. -/
theorem stripeComplete_records (computing : s.computing w = some f) (early : max s.now t < s.deadlineRaw) {i : Nat} (within : i < s.stripeCount w)
    (next : i = f.stripes.length) : ∃ u, exec (.stripeComplete t w i) s = .next u ∧
      (u.frame w f.k).map (·.stripes) = some (i :: f.stripes) ∧ u.tw w.other = s.tw w.other ∧ u.mem = s.mem ∧ u.role = s.role := by
  obtain ⟨account, -⟩ := computing_frame ((State.computing_beginAt s t w).trans computing)
  have open_ : ¬((s.beginAt t).stripeCount w ≤ i ∨ i ≠ f.stripes.length ∨ (s.beginAt t).deadlineRaw ≤ (s.beginAt t).now) := by
    rintro (c | c | c)
    · exact absurd within (Nat.not_lt.2 c)
    · exact c next
    · exact absurd early (Nat.not_lt.2 c)
  change ∃ u, execStripeComplete t w i s = .next u ∧ _
  unfold execStripeComplete
  dsimp only
  rw [State.computing_beginAt, computing]
  dsimp only
  rw [if_neg open_]
  generalize hs2 : (s.beginAt t).modLay w _ = s2
  have kept : s2.frame w f.k = some f := by
    rw [← hs2, State.modLay, ← account]
    exact State.frame_congr (by rw [State.modTw_tw]) _
  have rest : s2.tw w.other = s.tw w.other ∧ s2.mem = s.mem ∧ s2.role = s.role := by
    rw [← hs2]
    cases w <;> exact ⟨rfl, rfl, rfl⟩
  generalize hs3 : s2.modFrame w f.k _ = s3
  have recorded : (s3.frame w f.k).map (·.stripes) = some (i :: f.stripes) := by
    rw [← hs3]
    exact congrArg (Option.map FrameAcct.stripes) (State.frame_modFrame_self s2 kept)
  have rest3 : s3.tw w.other = s.tw w.other ∧ s3.mem = s.mem ∧ s3.role = s.role := by
    rw [← hs3]
    obtain ⟨other, mem, -, role⟩ := s2.modFrame_rest w f.k _
    exact ⟨other.trans rest.1, mem.trans rest.2.1, role.trans rest.2.2⟩
  split
  · exact ⟨_, rfl, recorded, rest3⟩
  · exact ⟨_, rfl, recorded, rest3⟩

/-! ### The patch (R213) -/

/-- The end of the patch of the frame that a twin computes is recorded in its account. -/
theorem patchDone_records (computing : s.computing w = some f) (early : max s.now t < s.deadlineRaw) (first : f.patched = none) :
    ∃ u, exec (.patchDone t w) s = .next u ∧ (u.frame w f.k).map (·.patched) = some (some (max s.now t)) ∧
      u.tw w.other = s.tw w.other ∧ u.regs = s.regs ∧ u.mem = s.mem := by
  obtain ⟨account, -⟩ := computing_frame ((State.computing_beginAt s t w).trans computing)
  change ∃ u, execPatchDone t w s = .next u ∧ _
  unfold execPatchDone
  dsimp only
  rw [State.computing_beginAt, computing]
  dsimp only
  rw [if_pos ⟨early, by rw [first]; rfl⟩]
  obtain ⟨other, mem, regs, -⟩ := (s.beginAt t).modFrame_rest w f.k (fun a => { a with patched := some (s.beginAt t).now })
  exact ⟨_, rfl, congrArg (Option.map FrameAcct.patched) (State.frame_modFrame_self _ account), other.trans (State.beginAt_tw s t w.other), regs, mem⟩

/-! ### A slice (R62, R203) -/

theorem Steady.setChan {fx c : Nat} {x : Channel} (h : Steady s0 s) : Steady s0 (s.setChan w fx c x) := h.modHlth

theorem Steady.setHealthEntry {fx : Nat} {x : HealthEntry} (h : Steady s0 s) : Steady s0 (s.setHealthEntry w fx x) := h.modHlth

theorem Steady.blindChannels {lits : List Lit} (h : Steady s0 s) : Steady s0 (blindChannels w lits s) := by
  unfold Machine.blindChannels
  extract_lets bl isNew s1
  have h1 : Steady s0 s1 := h.foldl (fun x l hx =>
    .ite ((hx.setChan.setHealthEntry.bump .twin).bump .twin) hx.setChan.setHealthEntry) _
  split
  · exact h1
  · exact h1.raiseOnce

/-- A slice is built under its key at the present instant. -/
theorem buildSlice_slice (s : State) (w : Twin) (f : FrameAcct) (key : Nat) :
    (buildSlice w f key s).1.key = key ∧ (buildSlice w f key s).1.done = s.now := ⟨rfl, rfl⟩

theorem Steady.buildSlice {key : Nat} (h : Steady s0 s) : Steady s0 (buildSlice w f key s).2 :=
  Steady.blindChannels ((h.bump .twin).bump .twin)

/-- A slice that the frame does not have is found once it is added. -/
theorem find_added {l : List Slice} {sl : Slice} {key : Nat} (new : l.any (fun x => decide (x.key = key)) = false) (own : sl.key = key) :
    (l ++ [sl]).find? (fun x => decide (x.key = key)) = some sl := by
  have none_ : l.find? (fun x => decide (x.key = key)) = none := List.find?_eq_none.2 fun x hx => by
    simpa using List.any_eq_false.1 new x hx
  rw [List.find?_append, none_]
  simp [own]

/-- A slice of the frame that a twin computes is recorded in its account, with the instant at which it is complete. -/
theorem sliceReady_records (computing : s.computing w = some f) (early : max s.now t < s.deadlineRaw) {key : SliceKey}
    (due : s.sliceDue w f (sliceKeyNat key) = true) : ∃ u x, exec (.sliceReady t w key) s = .next u ∧
      u.sliceOf w f.k (sliceKeyNat key) = some x ∧ x.key = sliceKeyNat key ∧ x.done = max s.now t ∧ u.role = s.role := by
  obtain ⟨account, -⟩ := computing_frame ((State.computing_beginAt s t w).trans computing)
  have due' : (s.beginAt t).sliceDue w f (sliceKeyNat key) = true := by
    rw [← due]
    rfl
  change ∃ u x, execSliceReady t w key s = .next u ∧ _
  unfold execSliceReady
  dsimp only
  rw [State.computing_beginAt, computing]
  dsimp only
  rw [if_pos ⟨early, due'⟩]
  have new : f.slices.any (fun x => decide (x.key = sliceKeyNat key)) = false := by
    unfold State.sliceDue at due
    simp only [Bool.and_eq_true, Bool.not_eq_true'] at due
    exact due.1.2
  obtain ⟨own, done⟩ := buildSlice_slice (s.beginAt t) w f (sliceKeyNat key)
  have built : Steady (s.beginAt t) (buildSlice w f (sliceKeyNat key) (s.beginAt t)).2 := .buildSlice (.refl _)
  generalize buildSlice w f (sliceKeyNat key) (s.beginAt t) = r at own done built
  obtain ⟨g, account', grows⟩ := built.frames w f.k f account
  refine ⟨_, r.1, rfl, ?_, own, done, ?_⟩
  · have found := State.frame_modFrame_self r.2 (φ := fun a => { a with slices := a.slices ++ [r.1] }) account'
    refine (congrArg (fun o : Option FrameAcct => o.bind (fun f => f.slices.find? (fun x => decide (x.key = sliceKeyNat key)))) found).trans ?_
    exact find_added (by rw [grows.slices]; exact new) own
  · obtain ⟨-, -, -, role⟩ := r.2.modFrame_rest w f.k (fun a => { a with slices := a.slices ++ [r.1] })
    exact role.trans (congrArg SteadyView.role built.view)

/-! ### The deadline (R60, R62) -/

/-- The operation over the twins reaches a twin that it picks, between two stretches that leave everything steady. -/
theorem Steady.each_at {p : Twin → Bool} {g : Twin → State → State} (step : ∀ v x, Steady x (g v x)) (pick : p w = true) (s : State) :
    ∃ x, Steady s x ∧ Steady (g w x) (s.each p g) := by
  have through : ∀ x v, Steady x (if p v = true then g v x else x) := fun x v => .ite (step v x) (.refl x)
  cases w with
  | a =>
    refine ⟨s, .refl s, ?_⟩
    have first : s.each p g = if p .b = true then g .b (g .a s) else g .a s := by rw [State.each, if_pos pick]
    rw [first]
    exact through _ .b
  | b =>
    refine ⟨_, through s .a, ?_⟩
    have last : s.each p g = g .b (if p .a = true then g .a s else s) := by rw [State.each, if_pos pick]
    rw [last]
    exact .refl _

/-- The deadline closes the account of its frame. -/
theorem closeFrame_closes (at_ : Nat) (g : FrameAcct) (h : s.frame w g.k = some f) :
    ∃ x, (closeFrame at_ w g s).frame w g.k = some x ∧ x.closed = true := by
  obtain ⟨φ, grow, rest⟩ := closeFrame_closing at_ w g s
  obtain ⟨x, account, grows⟩ := rest.frames w g.k _ (State.frame_modFrame_self s h fun a => (grow a).1.k)
  exact ⟨x, account, grows.closed (grow f).2⟩

/-- The state in which the compute deadline falls. -/
def State.atDeadline (s : State) : State := { s.at s.deadlineRaw with tg := { s.tg with dlDone := true } }

/-- The deadline of the newest frame leaves everything steady, and closes the account of each twin that computes. -/
theorem computeDeadline_closes (ran : s.tg.ran = true) (open_ : s.tg.dlDone = false) : Steady s.atDeadline (computeDeadline s) ∧
    ∀ w f, s.computes w = true → s.frame w s.tg.cur.k = some f → ((computeDeadline s).frame w s.tg.cur.k).map (·.closed) = some true := by
  unfold computeDeadline
  rw [if_neg (by rw [ran, open_]; decide)]
  extract_lets at_ s00 g s00' k s1 s2
  have close : ∀ v x, Steady x (match x.frame v k with | some f => closeFrame at_ v f x | none => x) := fun v x => by
    split
    · exact (Steady.refl x).closeFrame
    · exact .refl x
  have h1 : Steady s00' s1 := (Steady.refl s00').each (fun v x hx => hx.trans (close v x))
  have h2 : Steady s1 s2 := by
    unfold s2
    split
    · split
      · exact (Steady.refl s1).lagging
      · exact .refl s1
    · exact .refl s1
  generalize ended : s2.each _ _ = u
  have last : Steady s1 u := by
    rw [← ended]
    refine h2.each (fun w x hx => ?_)
    have aborted : Steady s1 (sorusAbort w k x).2 := hx.sorusAbort
    generalize sorusAbort w k x = p at aborted
    obtain ⟨n, y⟩ := p
    exact .ite aborted aborted.modFrame.raiseComp
  refine ⟨h1.trans last, fun w f comp account => ?_⟩
  obtain ⟨x, before, after⟩ := Steady.each_at (p := s00'.computes) close comp s00'
  obtain ⟨f', account', -⟩ := before.frames w k f account
  rw [account'] at after
  obtain ⟨y, closed, done⟩ := closeFrame_closes at_ f' ((State.frame_k account').symm ▸ account')
  rw [State.frame_k account'] at closed
  obtain ⟨z, final, grows⟩ := (after.trans last).frames w k y closed
  exact (congrArg (Option.map FrameAcct.closed) final).trans (congrArg some (grows.closed done))

/-- Settles O18: the account of the newest frame takes a stripe, the patch and a slice, and the deadline closes it. -/
theorem frameAccountsFollowTheCompute : Obligations.FrameAccountsFollowTheCompute := by
  unfold Obligations.FrameAccountsFollowTheCompute
  intro s _
  refine ⟨fun t w f computing early => ⟨fun i within next => stripeComplete_records computing early within next,
    fun first => patchDone_records computing early first, fun key due => sliceReady_records computing early due⟩, fun ran open_ => ?_⟩
  obtain ⟨steady, closes⟩ := computeDeadline_closes (s := s.begin) ran open_
  refine ⟨_, rfl, congrArg TickGen.dlDone (congrArg SteadyView.tg steady.view), congrArg SteadyView.now steady.view,
    congrArg SteadyView.role steady.view, (congrArg (fun v => TickGen.cur (SteadyView.tg v)) steady.view).trans rfl, fun w f comp account => ?_⟩
  exact closes w f comp account

end Sys2Proof.Machine
end

section
/-!
The emission of a slice, the Soredium latch and the record of a frame (R63, R64, R51, R39, R72).
-/
namespace Sys2Proof.Machine

set_option Elab.async false

variable {s0 s u x : State} {w : Twin} {f : FrameAcct} {k key start t : Nat}

/-! ### The slice that is due, whatever has been output -/

theorem wrBytes_begin (s : State) (a : Nat) (l : List Byte) : s.begin.wrBytes a l = (s.wrBytes a l).begin := by
  induction l generalizing s a with
  | nil => rfl
  | cons b l ih => exact ih (s.wrB a b) (a + 1)

theorem putEntries_begin (w : Twin) (l : List ((Nat × Nat × Nat) × List Byte)) (s : State) : putEntries w l s.begin = (putEntries w l s).begin := by
  induction l generalizing s with
  | nil => rfl
  | cons e l ih => exact (congrArg (putEntries w l) (wrBytes_begin s _ e.2)).trans (ih _)

theorem asOf_begin (s : State) (w : Twin) (k : Nat) : s.begin.asOf w k = (s.asOf w k).begin := by
  unfold State.asOf
  rw [State.begin_tw]
  dsimp only
  split
  · rfl
  · exact putEntries_begin w _ s

theorem emitDue_begin (s : State) (key : Nat) : s.begin.emitDue key = s.emitDue key := by
  refine congrArg (Option.bind s.ledger) (funext fun w => ?_)
  rw [State.begin_tw]
  refine congrArg (List.findSome? · (s.tw w).frames) (funext fun f => ?_)
  rw [asOf_begin]
  rfl

/-! ### What a slice leaves settled -/

/-- The slice of a key goes to no port of another key: it is a port's, or a universe's that is sent. -/
def State.ownKey (s : State) (w : Twin) (key : Nat) : Prop := s.slicePort w key = none ∨ s.slicePort w key = some key

theorem ownKey_port (s : State) (w : Twin) (h : key < 128) : s.ownKey w key := .inr (if_pos h)

theorem ownKey_univ {e : Nat} (h : s.outDest w e ≠ 2) : s.ownKey w (128 + e) := by
  refine .inl ?_
  rw [State.slicePort, if_neg (by omega), Nat.add_sub_cancel_left, if_neg h]

/-- A slice of a frame is settled in its account. -/
theorem emitSlice_settled (own : s.ownKey w key) (account : s.frame w k = some f) :
    ∃ g, (emitSlice k key start w s).frame w k = some g ∧ key ∈ g.settled := by
  obtain ⟨n, b, same, rest⟩ := emitSlice_settles key start account
  obtain ⟨g, account', grows⟩ := rest.frames w k _ (State.frame_modFrame_self s account)
  refine ⟨g, account', grows.settled key ?_⟩
  rw [same own]
  exact List.mem_append_right _ (List.mem_singleton_self key)

theorem putEntries_frame (w : Twin) (l : List ((Nat × Nat × Nat) × List Byte)) (s : State) (v : Twin) (k : Nat) :
    (putEntries w l s).frame v k = s.frame v k := by
  induction l generalizing s with
  | nil => rfl
  | cons e l ih =>
    refine (ih _).trans ?_
    dsimp only
    rw [wrBytes_eq]
    rfl

/-- A slice of a frame is settled under the tables of that frame too: a port's key does not depend on them. -/
theorem emitOne_settled (own : key < 128 ∨ (s.tw w).oldEnts = [] ∧ s.ownKey w key) (account : s.frame w k = some f) :
    ∃ g, (emitOne k key start w s).frame w k = some g ∧ key ∈ g.settled := by
  unfold emitOne onOldTables
  dsimp only
  split
  · exact emitSlice_settled (own.elim (ownKey_port s w) And.right) account
  next other =>
    have port : key < 128 := own.resolve_right fun c => other (.inl c.1)
    rw [putEntries_frame]
    exact emitSlice_settled (ownKey_port _ w port) ((putEntries_frame w _ s w k).trans account)

/-! ### EMISSION_START (R63, R64) -/

/-- No event writes a byte of an image. -/
theorem evtByte_img (w : Twin) (ty inst off : Nat) : evtByte (Addr.img w ty inst off) = false := by
  unfold evtByte Addr.img
  exact decide_eq_false (by omega)

/-- Where no graft has left older tables, the destinations of the universes stay. -/
theorem Steady.outDest (h : Steady s u) (none_ : ∀ v, (s.tw v).oldEnts = []) (mem : Memory.wf s.mem = true) (w : Twin) (e : Nat) :
    u.outDest w e = s.outDest w e := by
  have same : u.rdB (entryAddr w 13 1 e + 2) = s.rdB (entryAddr w 13 1 e + 2) := ((h.tables none_).2 mem).2 _ (evtByte_img w 13 1 (e * 16 + 2))
  change leNat [u.rdB (entryAddr w 13 1 e + 2)] = leNat [s.rdB (entryAddr w 13 1 e + 2)]
  rw [same]

/-- At S a slice is settled in the account of its frame in every computing twin. -/
theorem emitKey_settled (own : key < 128 ∨ (∀ v, (s.tw v).oldEnts = []) ∧ ∃ e, key = 128 + e ∧ ∀ v, s.outDest v e ≠ 2)
    (mem : Memory.wf s.mem = true) (comp : s.computes w = true) (account : s.frame w k = some f) :
    ∃ g, (emitKey k key start s).frame w k = some g ∧ key ∈ g.settled := by
  obtain ⟨x, before, after⟩ := Steady.each_at (p := s.computes) (fun v x => (Steady.refl x).emitOne (w := v) (k := k) (key := key) (start := start))
    comp s
  obtain ⟨f', account', -⟩ := before.frames w k f account
  have own' : key < 128 ∨ (x.tw w).oldEnts = [] ∧ x.ownKey w key := own.imp_right fun ⟨none_, e, eq, dest⟩ =>
    ⟨(before.tables none_).1 w, eq ▸ ownKey_univ (by rw [before.outDest none_ mem]; exact dest w)⟩
  obtain ⟨g, account'', settled⟩ := emitOne_settled (start := start) own' account'
  have used : Steady (s.each s.computes (emitOne k key start)) (emitKey k key start s) := .ite (.frame (.refl _)) (.refl _)
  obtain ⟨g', final, grows⟩ := (after.trans used).frames w k g account''
  exact ⟨g', final, grows.settled key settled⟩

/-- The emission of the slice that is due, when no latch of an earlier frame is. -/
theorem exec_emissionStart {key : SliceKey} (due : s.emitDue (sliceKeyNat key) = some (k, start)) (latch : s.latchDue = none ∨ s.latchDue = some k) :
    exec (.emissionStart key) s = .next (emitKey k (sliceKeyNat key) start (s.beginAt start)) := by
  change execEmissionStart key s = _
  unfold execEmissionStart
  dsimp only
  rw [emitDue_begin, due]
  have same : s.begin.latchDue = s.latchDue := rfl
  rw [same]
  dsimp only
  rcases latch with c | c
  · rw [c]
    rfl
  · rw [c]
    dsimp only
    rw [if_neg (fun d => d rfl)]
    rfl

/-- R63, R64: at S a slice that waits for its emission is decided in the account of its frame in every computing twin. -/
theorem emissionStart_settles (tidy : s.tidy = true) {key : SliceKey} (due : s.emitDue (sliceKeyNat key) = some (k, start))
    (latch : s.latchDue = none ∨ s.latchDue = some k)
    (univ : ∀ (w : Twin) (e : Fin 16384), key = .univ e → s.outDest w e.val ≠ 2 ∧ (s.tw w).oldEnts = []) :
    ∃ u, exec (.emissionStart key) s = .next u ∧ start ≤ u.now ∧ u.role = s.role ∧
      ∀ w f, s.computes w = true → s.frame w k = some f → ∃ g, u.frame w k = some g ∧ sliceKeyNat key ∈ g.settled := by
  obtain ⟨-, mem⟩ := tidy_iff.1 tidy
  have steady : Steady (s.beginAt start) (emitKey k (sliceKeyNat key) start (s.beginAt start)) := (Steady.refl _).emitKey
  refine ⟨_, exec_emissionStart due latch, ?_, congrArg SteadyView.role steady.view, fun w f comp account => ?_⟩
  · rw [show State.now _ = max s.now start from congrArg SteadyView.now steady.view]
    exact Nat.le_max_right _ _
  · refine emitKey_settled ?_ mem comp account
    cases key with
    | port p => exact .inl p.isLt
    | univ e => exact .inr ⟨fun v => (congrArg TwinState.oldEnts (State.beginAt_tw s start v)).trans (univ v e rfl).2, e.val, rfl, fun v => (univ v e rfl).1⟩

/-! ### The latch (R51, R39) -/

/-- The stamp of an instant fits a register of 64 bits. -/
theorem stampOf_lt (n : Fin 4) (c : Nat) : stampOf n c < 2 ^ 64 := by
  have := n.isLt
  unfold stampOf
  omega

/-- The end of the hold after a reset, beside which nothing of the tick generator changes. -/
theorem latchRelease_frame (k : Nat) (s : State) : (latchRelease k s).steadyView = s.steadyView ∧ (latchRelease k s).regs = s.regs ∧
    (latchRelease k s).dev.resetHold = false := by
  unfold latchRelease
  extract_lets d s1 pw s2
  have h2 : s2.steadyView = s.steadyView ∧ s2.regs = s.regs ∧ s2.dev.resetHold = false := by
    unfold s2
    split
    · split
      · exact ⟨rfl, rfl, rfl⟩
      · exact ⟨rfl, rfl, rfl⟩
    · exact ⟨rfl, rfl, rfl⟩
  rw [leaveHold_eq, givenBack_eq, syncGen_eq_withLine]
  exact h2

theorem tb_congr (h : u.steadyView = s.steadyView) (n : Fin 4) : u.tb n = s.tb n := by
  unfold State.tb
  split
  · exact congrArg SteadyView.tb0 h
  · exact congrArg SteadyView.tb1 h
  · exact congrArg SteadyView.tb2 h
  · exact congrArg SteadyView.tb3 h

theorem latchInstant_congr (h : u.steadyView = s.steadyView) : u.latchInstant = s.latchInstant := by
  have tg : u.tg = s.tg := congrArg SteadyView.tg h
  unfold State.latchInstant State.tickCount
  rw [tb_congr h, tg]

/-- With no stream shifted and no arbitration pending nothing bears on a latch. -/
theorem latchShifts_none (arb : s.peri.arb = none) (shifts : s.peri.shifts = []) (bl : Nat) : s.latchShifts bl = [] := by
  unfold State.latchShifts
  rw [arb, shifts]
  rfl

/-- PERI_STAT.DEFERRED and TGEN_LATCH_TS show a latch. -/
theorem showLatch_shows (wf : s.regsWf = true) (deferred : Bool) {stamp : Nat} (fits : stamp < 2 ^ 64) :
    ((s.sb Reg.PERI_STAT Fld.PERI_STAT_DEFERRED deferred).wr64 Reg.TGEN_LATCH_TS stamp).rd64 Reg.TGEN_LATCH_TS = stamp ∧
      ((s.sb Reg.PERI_STAT Fld.PERI_STAT_DEFERRED deferred).wr64 Reg.TGEN_LATCH_TS stamp).rb Reg.PERI_STAT Fld.PERI_STAT_DEFERRED = deferred ∧
      ((s.sb Reg.PERI_STAT Fld.PERI_STAT_DEFERRED deferred).wr64 Reg.TGEN_LATCH_TS stamp).regsWf = true := by
  have wf' : (s.sb Reg.PERI_STAT Fld.PERI_STAT_DEFERRED deferred).regsWf = true := State.regsWf_sf wf _ _ _
  refine ⟨(rd64_wr64 wf' _ _).trans (Nat.mod_eq_of_lt fits), ?_, State.regsWf_setReg (State.regsWf_setReg wf' _ _) _ _⟩
  have apart := (onlyRegs_wr64 wf' Reg.TGEN_LATCH_TS stamp).regs Reg.PERI_STAT (by decide)
  rw [rb_congr _ _ (by decide) apart, State.rb, State.sb, State.rf_sf_self wf _ _ _ (by decide) (by decide)]
  cases deferred <;> rfl

/-- The latch that is due falls: the tick generator, and the hold after a reset. -/
theorem latch_falls (due : s.latchDue = some k) (free : s.boot.hand = none) :
    (latch s).tg = { s.tg with latchK := (k + 1) % 2 ^ 32 } ∧ (latch s).dev.resetHold = false ∧
      (s.regsWf = true → s.peri.arb = none → s.peri.shifts = [] → (latch s).now = max s.now s.latchInstant ∧
        (latch s).rd64 Reg.TGEN_LATCH_TS = stampOf s.tg.base ((s.tb s.tg.base).ns s.latchInstant) ∧
        (latch s).rb Reg.PERI_STAT Fld.PERI_STAT_DEFERRED = false) := by
  unfold latch
  split
  next c =>
    rw [due] at c
    cases c
  next j c =>
    obtain rfl : k = j := Option.some.inj (due.symm.trans c)
    extract_lets s00 l bl sh pending deferred worst d at_ ws late s1 us stamp s2 s3 s4 s5 s6 s6'
    have h0 : Steady s s00 := (Steady.refl s).settleFrame
    clear_value s00
    have h1 : Steady (s00.at at_) s1 := (Steady.refl _).foldl (fun _ _ hx => hx.slipStream) _
    clear_value s1
    have h2 : Steady (s00.at at_) s2 := .ite h1.peak h1
    clear_value s2
    have shown : s3.steadyView = s2.steadyView := by
      unfold s3
      rw [State.sb, State.sf_low _ _ _ _ (by decide)]
      rfl
    have shows : s2.regsWf = true → s3.rd64 Reg.TGEN_LATCH_TS = stamp ∧ s3.rb Reg.PERI_STAT Fld.PERI_STAT_DEFERRED = deferred ∧ s3.regsWf = true :=
      fun wf => showLatch_shows wf deferred (stampOf_lt _ _)
    clear_value s3
    have h4 : Steady s3 s4 := (Steady.refl s3).each (fun _ _ hx => hx.modFrame)
    have h5 : Steady s3 s5 := h4.each (fun _ _ hx => hx.modFrame)
    have h6 : Steady s3 s6 := h5.each (fun _ _ hx => hx.onOldTables (fun _ hy => hy.latchTwin))
    have h6' : Steady s3 s6' := h6.each (fun _ _ hx => hx.dropOld)
    clear_value s6'
    have view : s6'.steadyView = (s00.at at_).steadyView := h6'.view.trans (shown.trans h2.view)
    generalize hF : ({ s6' with tg := _, peri := _ } : State) = F
    have tgF : F.tg = { s.tg with latchK := (k + 1) % 2 ^ 32 } := by
      have tg : s6'.tg = s.tg := (congrArg SteadyView.tg view).trans (congrArg SteadyView.tg h0.view)
      rw [← hF, ← tg]
    have nowF : F.now = max s.now at_ := by
      rw [← hF]
      exact (congrArg SteadyView.now view).trans (congrArg (max · at_) (congrArg SteadyView.now h0.view))
    have handF : F.boot.hand = none := by
      rw [← hF]
      exact (congrArg SteadyView.hand view).trans ((congrArg SteadyView.hand h0.view).trans free)
    have regsF : F.regs = s6'.regs := by rw [← hF]
    clear hF
    obtain ⟨viewL, regsL, hold⟩ := latchRelease_frame k F
    rw [inPlaceLatch_none ((congrArg SteadyView.hand viewL).trans handF)]
    refine ⟨(congrArg SteadyView.tg viewL).trans tgF, hold, fun wf arb shifts => ?_⟩
    have arb0 : s00.peri.arb = none := (congrArg SteadyView.arb h0.view).trans arb
    have sh_none : sh = [] := latchShifts_none arb0 ((congrArg SteadyView.shifts h0.view).trans shifts) bl
    have pending_no : pending = false := by
      unfold pending
      rw [arb0]
    have deferred_no : deferred = false := by
      unfold deferred
      rw [pending_no, sh_none]
      rfl
    have instant : at_ = s.latchInstant := by
      have d0 : d = 0 := if_neg (by rw [deferred_no]; decide)
      unfold at_
      rw [d0, Nat.add_zero]
      exact latchInstant_congr h0.view
    have stamp_eq : stamp = stampOf s.tg.base ((s.tb s.tg.base).ns s.latchInstant) := by
      have view1 : s1.steadyView = (s00.at at_).steadyView := h1.view
      have tg1 : s1.tg = s.tg := (congrArg SteadyView.tg view1).trans (congrArg SteadyView.tg h0.view)
      have tb1 : s1.tb s.tg.base = s.tb s.tg.base := (tb_congr view1 _).trans (tb_congr h0.view _)
      unfold stamp
      rw [tg1, tb1, instant]
    obtain ⟨ts, def_, wf3⟩ := shows (h2.regs (h0.regs wf).1).1
    obtain ⟨-, kept⟩ := h6'.regs wf3
    have reg : ∀ a, steadyReg a = true → (latchRelease k F).reg a = s3.reg a := fun a ha => by
      rw [State.reg, regsL, regsF]
      exact kept a ha
    refine ⟨?_, (rd64_congr (reg _ (by decide)) (reg _ (by decide))).trans (ts.trans stamp_eq),
      (rb_congr _ _ (by decide) (reg _ (by decide))).trans (def_.trans deferred_no)⟩
    rw [show (latchRelease k F).now = F.now from congrArg SteadyView.now viewL, nowF, instant]

/-- R51, R39: the latch that is due falls. -/
theorem sorediumLatch_falls (tidy : s.tidy = true) (due : s.latchDue = some k) (free : s.boot.hand = none) :
    ∃ u, exec .sorediumLatch s = .next u ∧ u.tg.latchK = (k + 1) % 2 ^ 32 ∧ u.dev.resetHold = false ∧ u.tg.cur.k = s.tg.cur.k ∧ u.role = s.role ∧
      (s.peri.arb = none → s.peri.shifts = [] → u.now = max s.now s.latchInstant ∧
        u.rd64 Reg.TGEN_LATCH_TS = stampOf s.tg.base ((s.tb s.tg.base).ns s.latchInstant) ∧
        u.rb Reg.PERI_STAT Fld.PERI_STAT_DEFERRED = false) := by
  obtain ⟨regs, -⟩ := tidy_iff.1 tidy
  obtain ⟨tg, hold, shows⟩ := latch_falls (s := s.begin) due free
  have calm : Calm s.begin (latch s.begin) := (Calm.refl _).latch free
  exact ⟨_, rfl, congrArg TickGen.latchK tg, hold, (congrArg (fun g : TickGen => g.cur.k) tg).trans rfl, congrArg CalmView.role calm.view, shows regs⟩

/-! ### The frame record (R72) -/

theorem wrBytes_append (s : State) (a : Nat) (l m : List Byte) : s.wrBytes a (l ++ m) = (s.wrBytes a l).wrBytes (a + l.length) m := by
  induction l generalizing s a with
  | nil => rfl
  | cons b l ih =>
    rw [List.cons_append, State.wrBytes, ih, State.wrBytes, List.length_cons, Nat.add_assoc, Nat.add_comm 1]

/-- A run of bytes leaves what is below it. -/
theorem rdB_wrBytes_below (h : Memory.wf s.mem = true) {a x : Nat} (below : x < a) (l : List Byte) : (s.wrBytes a l).rdB x = s.rdB x := by
  induction l generalizing s a with
  | nil => rfl
  | cons b l ih => exact (ih (State.memWf_wrB h a b) (Nat.lt_succ_of_lt below)).trans (State.rdB_wrB_ne h (Nat.ne_of_lt below) b)

/-- The number that the bytes of a number spell. -/
theorem rdLE_of_bytes {a n v : Nat} (h : ∀ i, i < n → s.rdB (a + i) = BitVec.ofNat 8 (v / 256 ^ i)) : s.rdLE a n = v % 256 ^ n := by
  unfold State.rdLE
  induction n generalizing a v with
  | zero => rw [Nat.pow_zero, Nat.mod_one]; rfl
  | succ n ih =>
    have low : (s.rdB a).toNat = v % 256 := by
      rw [show s.rdB a = _ from h 0 (Nat.succ_pos n), Nat.pow_zero, Nat.div_one, BitVec.toNat_ofNat]
    have high : leNat (s.rdBytes (a + 1) n) = v / 256 % 256 ^ n := ih fun i hi => by
      rw [Nat.add_assoc, Nat.add_comm 1, h (i + 1) (Nat.succ_lt_succ hi), Nat.div_div_eq_div_mul, Nat.pow_succ']
    rw [Nat.pow_succ', Nat.mod_mul, ← low, ← high]
    rfl

/-- Where the ring of a twin holds the record of frame `k`. -/
def recordAddr (w : Twin) (k : Nat) : Nat := w.base + 0x11000 + k % 256 * 64

/-- A record begins with the number of its frame. -/
theorem recordBytes_head (mem : Memory.wf s.mem = true) (w : Twin) (f : FrameAcct) {i : Nat} (hi : i < 4) :
    (s.wrBytes (recordAddr w f.k) (s.recordBytes w f)).rdB (recordAddr w f.k + i) = BitVec.ofNat 8 (f.k / 256 ^ i) := by
  have head : ∃ rest, s.recordBytes w f = leBytes 4 f.k ++ rest := by
    unfold State.recordBytes
    extract_lets
    simp only [List.append_assoc]
    exact ⟨_, rfl⟩
  obtain ⟨rest, eq⟩ := head
  rw [eq, wrBytes_append, leBytes_length, rdB_wrBytes_below (memWf_wrBytes mem _ _) (by omega), rdB_wrBytes_leBytes mem, if_pos (by omega),
    Nat.add_sub_cancel_left]

/-- TICK_FR_NEWEST of a twin. -/
def newestReg (w : Twin) (a : Nat) : Bool := decide (a = Reg.TICK_FR_NEWEST w)

theorem newestReg_above {w : Twin} {n : Nat} (h : 0x10000 < n := by decide) : newestReg w (w.base + n) = false := by
  unfold newestReg Reg.TICK_FR_NEWEST
  exact decide_eq_false (by omega)

theorem newestReg_above2 {w : Twin} {n m : Nat} (h : 0x10000 < n := by decide) : newestReg w (w.base + n + m) = false := by
  rw [Nat.add_assoc]
  exact newestReg_above (by omega)

theorem evtReg_of_newestReg (w : Twin) (a : Nat) (h : newestReg w a = true) : evtReg a = false := by
  rw [of_decide_eq_true h]
  cases w <;> decide

/-- `u` names the newest recorded frame that `s` names, and has the number that the record of frame `k` begins with. -/
structure RecordKept (w : Twin) (k : Nat) (s u : State) : Prop where
  regs : RegsKept (newestReg w) s u
  bytes : Memory.wf s.mem = true → Memory.wf u.mem = true ∧ ∀ i, i < 4 → u.rdB (recordAddr w k + i) = s.rdB (recordAddr w k + i)

theorem RecordKept.refl (w : Twin) (k : Nat) (s : State) : RecordKept w k s s := ⟨.refl s, fun h => ⟨h, fun _ _ => rfl⟩⟩

theorem RecordKept.trans (h : RecordKept w k s0 s) (g : RecordKept w k s u) : RecordKept w k s0 u := ⟨h.regs.trans g.regs, fun x => by
  obtain ⟨wf, same⟩ := h.bytes x
  obtain ⟨wf', same'⟩ := g.bytes wf
  exact ⟨wf', fun i hi => (same' i hi).trans (same i hi)⟩⟩

theorem RecordKept.ite {a b : State} {c : Prop} [Decidable c] (ha : RecordKept w k s a) (hb : RecordKept w k s b) :
    RecordKept w k s (if c then a else b) := by
  split
  · exact ha
  · exact hb

theorem RecordKept.foldl {α : Type} {g : State → α → State} (h : RecordKept w k s0 s)
    (step : ∀ x e, RecordKept w k s0 x → RecordKept w k s0 (g x e)) (l : List α) : RecordKept w k s0 (l.foldl g s) := by
  induction l generalizing s with
  | nil => exact h
  | cons e l ih => exact ih (step s e h)

section
variable (h : RecordKept w k s0 s)
include h

theorem RecordKept.of_mem (regs : RegsKept (newestReg w) s u) (mem : u.mem = s.mem) : RecordKept w k s0 u :=
  h.trans ⟨regs, fun x => ⟨by rw [mem]; exact x, fun i _ => by rw [State.rdB, State.rdB, mem]⟩⟩

theorem RecordKept.setReg {a : Nat} {v : Word} (ha : newestReg w a = false) : RecordKept w k s0 (s.setReg a v) := h.of_mem (.setReg s v ha) rfl

theorem RecordKept.sf {a : Nat} {g : Fld} {v : Nat} (ha : newestReg w a = false) (hg : g.hi < 32 := by decide) :
    RecordKept w k s0 (s.sf a g v) := by
  rw [State.sf_low _ _ _ _ hg]
  exact h.setReg ha

theorem RecordKept.bump {a : Nat} {g : Fld} {n : Nat} (ha : newestReg w a = false) (hg : g.hi < 32 := by decide) :
    RecordKept w k s0 (s.bump a g n) := h.sf ha hg

theorem RecordKept.peak {a : Nat} {g : Fld} {n : Nat} (ha : newestReg w a = false) (hg : g.hi < 32 := by decide) :
    RecordKept w k s0 (s.peak a g n) :=
  (h.sf (v := max (s.rf a g) (min n (2 ^ (g.hi - g.lo + 1) - 1))) ha hg).of_mem (.of_regs rfl) rfl

theorem RecordKept.modTw {g : TwinState → TwinState} : RecordKept w k s0 (s.modTw w g) :=
  h.of_mem (.of_regs (modTw_regs s w g)) (by cases w <;> rfl)

theorem RecordKept.evt (g : Evt s u) : RecordKept w k s0 u := h.trans ⟨.evt g (evtReg_of_newestReg w), fun x => by
  obtain ⟨wf, keep⟩ := g.bytes x
  refine ⟨wf, fun i _ => keep _ ?_⟩
  have := box_le_twin2 w 0x11000 (k % 256 * 64 + i)
  unfold evtByte recordAddr
  exact decide_eq_false (by omega)⟩

theorem RecordKept.wrB {a : Nat} {v : Byte} (above : ∀ i, i < 4 → recordAddr w k + i < a) : RecordKept w k s0 (s.wrB a v) :=
  h.trans ⟨.of_regs rfl, fun x => ⟨State.memWf_wrB x _ _, fun i hi => State.rdB_wrB_ne x (Nat.ne_of_lt (above i hi)) _⟩⟩

/-- A map of bits above the ring. -/
theorem RecordKept.setBitMap {n m : Nat} {l : List Nat} (above : 0x15000 ≤ n := by decide) : RecordKept w k s0 (setBitMap (w.base + n) m l s) := by
  have below : ∀ i, i < 4 → recordAddr w k + i < w.base + n := fun i hi => by
    unfold recordAddr
    omega
  have cleared : RecordKept w k s0 (s.resetMem (fun x => decide (w.base + n ≤ x ∧ x < w.base + n + m))) :=
    h.trans ⟨.of_regs rfl, fun x => ⟨Smap.wf_filter x _, fun i hi => by
      have out : (!decide (w.base + n ≤ recordAddr w k + i ∧ recordAddr w k + i < w.base + n + m)) = true := by
        have := below i hi
        simp only [Bool.not_eq_true', decide_eq_false_iff_not]
        omega
      exact Smap.get_filter_in (q := fun a => !decide (w.base + n ≤ a ∧ a < w.base + n + m)) x out _⟩⟩
  exact cleared.foldl (fun _ _ hy => hy.wrB fun i hi => Nat.lt_add_right _ (below i hi)) _

theorem RecordKept.setPortMap {r : Nat → Nat} {l : List Nat} (out : ∀ n, newestReg w (r n) = false) : RecordKept w k s0 (setPortMap r l s) :=
  h.foldl (fun _ n hx => hx.setReg (out n)) _

theorem RecordKept.showGroups : RecordKept w k s0 (showGroups w f s) :=
  (h.foldl (fun _ _ hx => hx.sf newestReg_above2) _).setBitMap

end

/-- The accounts of the twins are as events leave them. -/
theorem Evt.frames (h : Evt s u) (w : Twin) : (u.tw w).frames = (s.tw w).frames := by
  rw [h.rest]
  cases w <;> rfl

/-- The record of a frame begins with its number, TICK_FR_NEWEST names it, and its account is done. -/
theorem writeRecord_writes (w : Twin) (f : FrameAcct) (regs : s.regsWf = true) (mem : Memory.wf s.mem = true) :
    (writeRecord w f s).reg (Reg.TICK_FR_NEWEST w) = BitVec.ofNat 32 f.k ∧ (writeRecord w f s).rdLE (recordAddr w f.k) 4 = f.k % 2 ^ 32 ∧
      (writeRecord w f s).frame w f.k = none := by
  unfold writeRecord
  extract_lets chg ports univs s1 s2 s3 s4 s5 s6 s7 patch s8 s9 s10
  have regs1 : s1.regsWf = true := by
    unfold s1
    rw [State.regsWf, wrBytes_regs]
    exact regs
  have mem1 : Memory.wf s1.mem = true := memWf_wrBytes mem _ _
  have head1 : ∀ i, i < 4 → s1.rdB (recordAddr w f.k + i) = BitVec.ofNat 8 (f.k / 256 ^ i) := fun i hi => recordBytes_head mem w f hi
  clear_value s1
  have same : s2.mem = s1.mem := rfl
  have mem2 : Memory.wf s2.mem = true := by rw [same]; exact mem1
  have newest : s2.reg (Reg.TICK_FR_NEWEST w) = BitVec.ofNat 32 f.k := State.reg_setReg_self regs1 _ _
  have head : ∀ i, i < 4 → s2.rdB (recordAddr w f.k + i) = BitVec.ofNat 8 (f.k / 256 ^ i) := fun i hi => by
    rw [State.rdB, same]
    exact head1 i hi
  have wf2 : s2.regsWf = true := State.regsWf_setReg regs1 _ _
  clear_value s2
  have h4 : RecordKept w f.k s2 s4 :=
    ((((RecordKept.refl w f.k s2).peak newestReg_above).peak newestReg_above).bump newestReg_above).bump newestReg_above
  have h5 : RecordKept w f.k s2 s5 := .ite (h4.bump newestReg_above) h4
  have h7 : RecordKept w f.k s2 s7 :=
    ((h5.setPortMap fun _ => newestReg_above2).setPortMap fun _ => newestReg_above2).setBitMap.setBitMap
  have h8 : RecordKept w f.k s2 s8 := (h7.sf newestReg_above).sf newestReg_above
  have h9 : RecordKept w f.k s2 s9 := (h8.foldl (fun _ _ hx => hx.setReg newestReg_above2) _).showGroups
  clear_value s9
  have last : Evt s10 (s10.raiseIf w (Reg.TICK_EVT_CTL w) Fld.TICK_EVT_CTL_REC_EN 39 f.k) := (Evt.refl s10).raiseIf _ _ _ _ _ (by decide)
  have kept : RecordKept w f.k s2 (s10.raiseIf w (Reg.TICK_EVT_CTL w) Fld.TICK_EVT_CTL_REC_EN 39 f.k) := h9.modTw.evt last
  obtain ⟨-, regs'⟩ := kept.regs wf2
  obtain ⟨-, bytes'⟩ := kept.bytes mem2
  refine ⟨(regs' _ (decide_eq_true rfl)).trans newest, rdLE_of_bytes fun i hi => (bytes' i hi).trans (head i hi), ?_⟩
  refine (State.frame_congr (last.frames w) f.k).trans ?_
  have gone : (s10.tw w).frames = (s9.tw w).frames.filter (fun a => a.k ≠ f.k) := by
    unfold s10
    rw [State.modTw_tw]
  rw [State.frame, gone, List.find?_eq_none]
  intro a ha
  simpa using (List.mem_filter.1 ha).2

/-- R72: the record of the first frame whose latch has fallen. -/
theorem frameRecord_writes (tidy : s.tidy = true) (comp : s.computes w = true)
    (first : (s.tw w).frames.find? (fun f => f.latchRaw.isSome) = some f) :
    ∃ u, exec (.frameRecord w) s = .next u ∧ u.reg (Reg.TICK_FR_NEWEST w) = BitVec.ofNat 32 f.k ∧
      u.rdLE (w.base + 0x11000 + f.k % 256 * 64) 4 = f.k % 2 ^ 32 ∧ u.frame w f.k = none ∧ u.role = s.role := by
  obtain ⟨regs, mem⟩ := tidy_iff.1 tidy
  have run : exec (.frameRecord w) s = .next (writeRecord w f (s.beginAt (f.latchRaw.getD 0))) := by
    change execFrameRecord w s = _
    unfold execFrameRecord
    dsimp only
    rw [if_pos (show s.begin.computes w = true from comp), State.begin_tw, first]
    rfl
  obtain ⟨newest, number, gone⟩ := writeRecord_writes (s := s.beginAt (f.latchRaw.getD 0)) w f regs mem
  have calm : Calm (s.beginAt (f.latchRaw.getD 0)) (writeRecord w f (s.beginAt (f.latchRaw.getD 0))) := (Calm.refl _).writeRecord
  exact ⟨_, run, newest, number, gone, congrArg CalmView.role calm.view⟩

/-- Settles O19: the slice at S, the latch, and the record. -/
theorem emissionLatchAndRecord : Obligations.EmissionLatchAndRecord := by
  unfold Obligations.EmissionLatchAndRecord
  exact fun s tidy => ⟨fun key k start due latch univ => emissionStart_settles tidy due latch univ,
    fun k due free => sorediumLatch_falls tidy due free, fun w f comp first => frameRecord_writes tidy comp first⟩

end Sys2Proof.Machine
end

section
/-!
What falls before the tick leaves the number of the newest tick (R49): the compute deadline, the latch, the records.
-/
namespace Sys2Proof.Machine

set_option Elab.async false

variable {s0 s u : State}

/-! ### The number of the newest tick -/

/-- That the tick runs, the number of the newest one, and the sleep sequence that is under way. -/
structure TickingView where
  ran : Bool
  k : Nat
  sleep : Option SleepReq

def State.tickingView (s : State) : TickingView := ⟨s.tg.ran, s.tg.cur.k, s.pwr.sleep⟩

/-- TGEN_NUM. -/
def numReg (a : Nat) : Bool := decide (a = Reg.TGEN_NUM)

/-- `u` has the number of the newest tick and TGEN_NUM of `s`. -/
structure Ticking (s u : State) : Prop where
  view : u.tickingView = s.tickingView
  regs : RegsKept numReg s u

/-- The address of another register than TGEN_NUM. -/
abbrev OffNum (a : Nat) : Prop := numReg a = false

theorem OffNum.high {a : Nat} (h : 0x01010000 ≤ a) : OffNum a := decide_eq_false (by unfold Reg.TGEN_NUM; omega)
theorem OffNum.twin {w : Twin} {n : Nat} : OffNum (w.base + n) := .high (box_le_twin w n)
theorem OffNum.twin2 {w : Twin} {n m : Nat} : OffNum (w.base + n + m) := .high (box_le_twin2 w n m)
theorem OffNum.twin3 {w : Twin} {n m l : Nat} : OffNum (w.base + n + m + l) := .high (Nat.le_trans (box_le_twin2 w n m) (Nat.le_add_right _ _))
theorem OffNum.banked {r : Nat} {w : Twin} {n : Nat} : OffNum (banked r (w.base + n)) :=
  .high (Nat.le_trans (box_le_twin w n) (Nat.le_add_right _ _))
/-- A register of a time base. -/
theorem OffNum.tb {n : Fin 4} {c : Nat} (h : c < 0x3100 := by decide) : OffNum (c + n.val * 0x100) :=
  decide_eq_false (by
    have := n.isLt
    unfold Reg.TGEN_NUM
    omega)

theorem evtReg_of_numReg (a : Nat) (h : numReg a = true) : evtReg a = false := by
  rw [of_decide_eq_true h]
  decide

theorem steadyReg_of_numReg (a : Nat) (h : numReg a = true) : steadyReg a = true := by
  rw [of_decide_eq_true h]
  decide

theorem RegsKept.mono {p q : Nat → Bool} (h : RegsKept q s u) (sub : ∀ a, p a = true → q a = true) : RegsKept p s u := fun x => by
  obtain ⟨wf, same⟩ := h x
  exact ⟨wf, fun a ha => same a (sub a ha)⟩

theorem Ticking.refl (s : State) : Ticking s s := ⟨rfl, .refl s⟩

theorem Ticking.trans (h : Ticking s0 s) (g : Ticking s u) : Ticking s0 u := ⟨g.view.trans h.view, h.regs.trans g.regs⟩

/-- What leaves the whole tick generator steady leaves the number of its tick. -/
theorem Ticking.steady (h : Ticking s0 s) (g : Steady s u) : Ticking s0 u := by
  have tg : u.tg = s.tg := congrArg SteadyView.tg g.view
  have sleep : u.pwr.sleep = s.pwr.sleep := congrArg SteadyView.sleep g.view
  refine h.trans ⟨?_, g.regs.mono steadyReg_of_numReg⟩
  unfold State.tickingView
  rw [tg, sleep]

theorem Ticking.ite {a b : State} {c : Prop} [Decidable c] (ha : Ticking s a) (hb : Ticking s b) : Ticking s (if c then a else b) := by
  split
  · exact ha
  · exact hb

theorem Ticking.foldl {α : Type} {f : State → α → State} (h : Ticking s0 s) (step : ∀ x e, Ticking s0 x → Ticking s0 (f x e)) (l : List α) :
    Ticking s0 (l.foldl f s) := by
  induction l generalizing s with
  | nil => exact h
  | cons e l ih => exact ih (step s e h)

/-- A fold that carries a value beside the state. -/
theorem Ticking.foldl_snd {α β : Type} {f : β × State → α → β × State} (step : ∀ p e, Ticking s0 p.2 → Ticking s0 (f p e).2) (l : List α) :
    ∀ p : β × State, Ticking s0 p.2 → Ticking s0 (l.foldl f p).2 := by
  induction l with
  | nil => exact fun _ h => h
  | cons e l ih => exact fun p h => ih _ (step p e h)

theorem Ticking.each {p : Twin → Bool} {f : Twin → State → State} (h : Ticking s0 s) (step : ∀ w x, Ticking s0 x → Ticking s0 (f w x)) :
    Ticking s0 (s.each p f) := by
  unfold State.each
  split
  · exact .ite (step _ _ (step _ _ h)) (step _ _ h)
  · exact .ite (step _ _ h) h

/-- A change beside what `Ticking` names. -/
theorem Ticking.frame (h : Ticking s0 s) (view : u.tickingView = s.tickingView := by rfl) (regs : u.regs = s.regs := by rfl) : Ticking s0 u :=
  h.trans ⟨view, .of_regs regs⟩

theorem Ticking.evt (h : Ticking s0 s) (g : Evt s u) : Ticking s0 u := by
  refine h.trans ⟨?_, .evt g evtReg_of_numReg⟩
  rw [g.rest]
  rfl

/-! ### The shared operations -/

section
variable (h : Ticking s0 s) {w : Twin}
include h

theorem Ticking.setReg {a : Nat} {v : Word} (ha : OffNum a := by decide) : Ticking s0 (s.setReg a v) := h.trans ⟨rfl, .setReg s v ha⟩
theorem Ticking.sf {a : Nat} {f : Fld} {v : Nat} (ha : OffNum a := by decide) (hf : f.hi < 32 := by decide) : Ticking s0 (s.sf a f v) := by
  rw [State.sf_low _ _ _ _ hf]
  exact h.setReg ha
theorem Ticking.sb {a : Nat} {f : Fld} {v : Bool} (ha : OffNum a := by decide) (hf : f.hi < 32 := by decide) : Ticking s0 (s.sb a f v) :=
  h.sf ha hf
theorem Ticking.bump {a : Nat} {f : Fld} {n : Nat} (ha : OffNum a := by decide) (hf : f.hi < 32 := by decide) : Ticking s0 (s.bump a f n) :=
  h.sf ha hf
theorem Ticking.peak {a : Nat} {f : Fld} {n : Nat} (ha : OffNum a := by decide) (hf : f.hi < 32 := by decide) : Ticking s0 (s.peak a f n) :=
  (h.sf (v := max (s.rf a f) (min n (2 ^ (f.hi - f.lo + 1) - 1))) ha hf).frame
theorem Ticking.wr64 {a v : Nat} (ha : OffNum a := by decide) (ha' : OffNum (a + 4) := by decide) : Ticking s0 (s.wr64 a v) :=
  (h.setReg ha).setReg ha'
theorem Ticking.resetRegs {q : Nat → Bool} (out : q Reg.TGEN_NUM = false) : Ticking s0 (s.resetRegs q) :=
  h.trans ⟨rfl, .resetRegs s fun a ha => by rw [of_decide_eq_true ha]; exact out⟩
theorem Ticking.modTw {f : TwinState → TwinState} : Ticking s0 (s.modTw w f) := by cases w <;> exact h.frame
theorem Ticking.modFrame {k : Nat} {f : FrameAcct → FrameAcct} : Ticking s0 (s.modFrame w k f) := h.modTw
theorem Ticking.modSorus {f : Sorus → Sorus} : Ticking s0 (s.modSorus w f) := h.modTw
theorem Ticking.modHlth {f : Health → Health} : Ticking s0 (s.modHlth w f) := h.modTw
theorem Ticking.modNet {f : Net → Net} : Ticking s0 (s.modNet w f) := h.modTw
theorem Ticking.modLay {f : Layers → Layers} : Ticking s0 (s.modLay w f) := h.modTw
theorem Ticking.setLayer {l : Nat} {x : Layer} : Ticking s0 (s.setLayer w l x) := h.modLay
theorem Ticking.modMasters {f : Masters → Masters} : Ticking s0 (s.modMasters w f) := h.modTw
theorem Ticking.modCurves {f : Curves → Curves} : Ticking s0 (s.modCurves w f) := h.modTw
theorem Ticking.setBank {n : Nat} {b : BankSt} : Ticking s0 (s.setBank w n b) := h.modTw
theorem Ticking.setUniv {e : Nat} {x : Univ} : Ticking s0 (s.setUniv w e x) := h.modNet
theorem Ticking.setFlow {f : Nat} {x : StFlow} : Ticking s0 (s.setFlow w f x) := h.modNet
theorem Ticking.setHealthEntry {f : Nat} {x : HealthEntry} : Ticking s0 (s.setHealthEntry w f x) := h.modHlth
theorem Ticking.setChan {f c : Nat} {x : Channel} : Ticking s0 (s.setChan w f c x) := h.modHlth
theorem Ticking.setStrand {p : Nat} {x : Strand} : Ticking s0 (s.setStrand w p x) := h.modTw
theorem Ticking.setDmx {p : Nat} {x : DmxPort} : Ticking s0 (s.setDmx w p x) := h.modTw
theorem Ticking.at {t : Nat} : Ticking s0 (s.at t) := h.frame
theorem Ticking.emit {o : Out} : Ticking s0 (s.emit o) := h.frame
theorem Ticking.setRd {p : Nat} {plus : Bool} : Ticking s0 (s.setRd p plus) := h.frame
theorem Ticking.emitWake {p : Nat} : Ticking s0 (s.emitWake p) := h.setRd.emit
theorem Ticking.frameFlag {f : Nat} : Ticking s0 (s.frameFlag f) := h.frame
theorem Ticking.wrB {a : Nat} {v : Byte} : Ticking s0 (s.wrB a v) := h.frame
theorem Ticking.wrBytes {a : Nat} {l : List Byte} : Ticking s0 (s.wrBytes a l) := by
  rw [wrBytes_eq]
  exact h.frame
theorem Ticking.resetMem {p : Nat → Bool} : Ticking s0 (s.resetMem p) := h.frame
theorem Ticking.raiseTwin {n data : Nat} (hn : n < 256 := by decide) : Ticking s0 (s.raiseTwin w n data) := h.evt ((Evt.refl s).raiseTwin _ _ _ hn)
theorem Ticking.raiseIf {ctl n data : Nat} {en : Fld} (hn : n < 256 := by decide) : Ticking s0 (s.raiseIf w ctl en n data) :=
  h.evt ((Evt.refl s).raiseIf _ _ _ _ _ hn)
theorem Ticking.raiseOnce {ctl n data : Nat} {en : Fld} (hn : n < 256 := by decide) : Ticking s0 (s.raiseOnce w ctl en n data) :=
  h.evt ((Evt.refl s).raiseOnce _ _ _ _ _ hn)
theorem Ticking.raiseTh {n data : Nat} (hn : n < 256 := by decide) : Ticking s0 (s.raiseTh n data) := h.evt ((Evt.refl s).raiseTh _ _ hn)
theorem Ticking.setCalUnit {n : Nat} {x : CalUnit} : Ticking s0 (s.setCalUnit n x) := h.frame
theorem Ticking.setHealth {bit : Nat} : Ticking s0 (s.setHealth w bit) := h.steady (Steady.refl s).setHealth
theorem Ticking.pushCounted {q by_ stampTick : Nat} {soft : Bool} {item : Item} : Ticking s0 (pushCounted w q by_ soft stampTick item s).2 :=
  h.steady (Steady.refl s).pushCounted

end

/-! ### The compute deadline, the records and the trim codes (R60, R72, R505) -/

section
variable (h : Ticking s0 s) {w : Twin} {f : FrameAcct}
include h

theorem Ticking.computeDeadline : Ticking s0 (computeDeadline s) := by
  by_cases due : (!s.tg.ran || s.tg.dlDone) = true
  · unfold Machine.computeDeadline
    rw [if_pos due]
    exact h
  · simp only [Bool.or_eq_true, Bool.not_eq_true', not_or, Bool.not_eq_false, Bool.not_eq_true] at due
    have falls : Ticking s0 s.atDeadline := h.frame
    exact falls.steady (computeDeadline_closes due.1 due.2).1

theorem Ticking.setPortMap {r : Nat → Nat} {l : List Nat} (out : ∀ n, OffNum (r n)) : Ticking s0 (setPortMap r l s) :=
  h.foldl (fun _ n hx => hx.setReg (out n)) _

theorem Ticking.setBitMap {a n : Nat} {l : List Nat} : Ticking s0 (setBitMap a n l s) := h.resetMem.foldl (fun _ _ hx => hx.wrB) _

theorem Ticking.showGroups : Ticking s0 (showGroups w f s) := (h.foldl (fun _ _ hx => hx.sf .twin2) _).setBitMap

theorem Ticking.writeRecord : Ticking s0 (writeRecord w f s) := by
  unfold Machine.writeRecord
  extract_lets chg ports univs s1 s2 s3 s4 s5 s6 s7 patch s8 s9 s10
  have h4 : Ticking s0 s4 := ((((h.wrBytes.setReg .twin).peak .twin).peak .twin).bump .twin).bump .twin
  have h5 : Ticking s0 s5 := .ite (h4.bump .twin) h4
  have h7 : Ticking s0 s7 := ((h5.setPortMap fun _ => .twin2).setPortMap fun _ => .twin2).setBitMap.setBitMap
  have h9 : Ticking s0 s9 := (((h7.sf .twin).sf .twin).foldl (fun _ _ hx => hx.setReg .twin2) _).showGroups
  exact h9.modTw.raiseIf

theorem Ticking.recordsDue : Ticking s0 (recordsDue w s) := h.foldl (fun _ _ hx => hx.writeRecord) _

theorem Ticking.strandApply {p : Nat} : Ticking s0 (strandApply p s) := by
  unfold Machine.strandApply
  split
  · exact h
  · exact .ite h.frame (Ticking.setCalUnit h.frame)

end

/-! ### Resets, firmware and boot records -/

theorem iso_low (w : Twin) : (Fld.iso w).hi < 32 := by cases w <;> decide
theorem rst_low (w : Twin) : (Fld.rst w).hi < 32 := by cases w <;> decide
theorem bootSlot_low (w : Twin) : (Fld.bootSlot w).hi < 32 := by cases w <;> decide
theorem bootFell_low (w : Twin) : (Fld.bootFell w).hi < 32 := by cases w <;> decide
theorem bootReverted_low (w : Twin) : (Fld.bootReverted w).hi < 32 := by cases w <;> decide

theorem inTwin_num (w : Twin) : inTwin w Reg.TGEN_NUM = false := by cases w <;> decide

section
variable (h : Ticking s0 s) {w : Twin}
include h

theorem Ticking.twinReset : Ticking s0 (s.twinReset w) := by
  have cleared : Ticking s0 (s.resetRegs (fun a => inTwin w a && (domainOf a = some .ctx || domainOf a = some .twin))) :=
    h.resetRegs (by rw [inTwin_num]; rfl)
  cases w <;> exact cleared.frame

theorem Ticking.resetKeepingDram : Ticking s0 (s.resetKeepingDram w) := h.twinReset.frame

theorem Ticking.startFirmware : Ticking s0 (startFirmware w s) := by
  unfold Machine.startFirmware
  extract_lets r tried
  split
  · exact h.frame
  · extract_lets s1 s2 s3
    have h1 : Ticking s0 s1 := h.sf (hf := bootSlot_low w)
    have h2 : Ticking s0 s2 := .ite h1 (h1.sf (hf := bootFell_low w))
    have h3 : Ticking s0 s3 := h2.setReg .twin
    exact h3.frame

theorem Ticking.restartFirmware : Ticking s0 (restartFirmware w s) := .ite h.twinReset h.twinReset.startFirmware

theorem Ticking.setRec {r : BootRec} : Ticking s0 (s.setRec r) := Ticking.sb (Ticking.sb h.frame)

theorem Ticking.revertRecord {reason : Nat} : Ticking s0 (revertRecord w reason s) := by
  unfold Machine.revertRecord
  extract_lets r r2 s1 b
  have h1 : Ticking s0 s1 := h.setRec
  clear_value s1
  exact Ticking.raiseTh (Ticking.sb h1.frame (hf := bootReverted_low w))

theorem Ticking.revertEntered {old new : Role} : Ticking s0 (revertEntered w old new s) := by
  unfold Machine.revertEntered
  refine .ite ?_ h
  extract_lets s1 r
  have h1 : Ticking s0 s1 := h.revertRecord.restartFirmware
  clear_value s1
  cases w
  · exact h1.frame
  · exact h1.frame

/-! ### A change of roles -/

theorem Ticking.leaveHold {old : State} : Ticking s0 (leaveHold old s) := by
  rw [leaveHold_eq, givenBack_eq, syncGen_eq_withLine]
  exact h.frame

theorem Ticking.beginResync : Ticking s0 (s.beginResync w) := by
  unfold State.beginResync
  extract_lets s1 p s2 s3 p4 s4
  have h1 : Ticking s0 s1 := h.setReg .twin
  have h2 : Ticking s0 s2 := h1.frame
  have h3 : Ticking s0 s3 := h2.sf
  exact .ite (Ticking.sf (Ticking.sf h3.frame)) h3.sf

theorem Ticking.roleEvents {old new : Role} : Ticking s0 (s.roleEvents old new) := by
  unfold State.roleEvents
  refine .ite h ?_
  split
  · exact h.raiseTh
  · exact h.raiseTh
  · exact h.raiseTh
  · exact h

theorem Ticking.setRoles {ra rb : Role} : Ticking s0 (s.setRoles ra rb) := by
  unfold State.setRoles
  extract_lets oa ob before s1 s2 s3 s4 p5 s5 s6 d6 p6 s6' p7 s7
  have h1 : Ticking s0 s1 := h.frame
  have h2 : Ticking s0 s2 := .ite h1.beginResync h1
  have h3 : Ticking s0 s3 := .ite h2.beginResync h2
  have h4 : Ticking s0 s4 := .ite h3.sf h3
  have h5 : Ticking s0 s5 := .ite h4.frame h4
  have h6 : Ticking s0 s6 := h5.roleEvents.roleEvents
  have h6' : Ticking s0 s6' := .ite h6.frame h6
  have hp : Ticking s0 (State.frameFlag { s6' with peri := { p7 with forced := false, parked := false } } 32) := h6'.frame
  have h7 : Ticking s0 s7 := .ite h6' (Ticking.leaveHold (hp.raiseTh (n := 7)))
  exact h7.revertEntered.revertEntered

theorem Ticking.setRole {r : Role} : Ticking s0 (s.setRole w r) := by
  cases w
  · exact h.setRoles
  · exact h.setRoles

theorem Ticking.setRoles2 {a b : Role} : Ticking s0 (s.setRoles2 w a b) := by
  cases w
  · exact h.setRoles
  · exact h.setRoles

theorem Ticking.inPlaceStart : Ticking s0 (inPlaceStart w s) := h.setRoles2.resetKeepingDram.startFirmware

/-! ### The latch (R51) -/

theorem Ticking.latchRelease {k : Nat} : Ticking s0 (latchRelease k s) := by
  unfold Machine.latchRelease
  extract_lets d s1 pw s2
  have h1 : Ticking s0 s1 := h.frame
  have h2 : Ticking s0 s2 := by
    unfold s2
    split
    · exact .ite h1.frame h1
    · exact h1
  exact h2.leaveHold

theorem Ticking.inPlaceLatch : Ticking s0 (inPlaceLatch s) := by
  unfold Machine.inPlaceLatch
  split
  · exact .ite h.inPlaceStart h
  · exact h

theorem Ticking.latch : Ticking s0 (latch s) := by
  unfold Machine.latch
  split
  next => exact h
  next k _ =>
    extract_lets s00 l bl sh pending deferred worst d at_ ws late s1 us stamp s2 s3 s4 s5 s6 s6'
    have h0 : Ticking s0 s00 := h.steady (Steady.refl s).settleFrame
    clear_value s00
    have h1 : Ticking s0 s1 := h0.at.foldl (fun x _ hx => hx.steady (Steady.refl x).slipStream) _
    clear_value s1
    have h2 : Ticking s0 s2 := .ite h1.peak h1
    have h3 : Ticking s0 s3 := h2.sb.wr64
    clear_value s3
    have h5 : Steady s3 s5 := ((Steady.refl s3).each (fun _ _ hx => hx.modFrame)).each (fun _ _ hx => hx.modFrame)
    have h6 : Steady s3 s6' := (h5.each (fun _ _ hx => hx.onOldTables (fun _ hy => hy.latchTwin))).each (fun _ _ hx => hx.dropOld)
    have h6' : Ticking s0 s6' := h3.steady h6
    clear_value s6'
    exact Ticking.inPlaceLatch (Ticking.latchRelease h6'.frame)

/-- The latch that is due, while no sleep sequence is under way. -/
theorem Ticking.latchDueNow (awake : s0.pwr.sleep = none) : Ticking s0 (latchDueNow s) := by
  refine .ite ?_ h
  have fallen := (h.foldl (f := fun x e => Machine.strandApply e.1 x) (fun _ _ hx => hx.strandApply) s.cal.apply).latch
  rw [sleepOn_none ((congrArg TickingView.sleep fallen.view).trans awake)]
  exact fallen

/-- What falls before the tick leaves the number of the newest one. -/
theorem Ticking.catchUp (awake : s0.pwr.sleep = none) : Ticking s0 (catchUp s) :=
  (Ticking.ite (h.latchDueNow awake).computeDeadline (h.computeDeadline.latchDueNow awake)).each (fun _ _ hx => hx.recordsDue)

end

end Sys2Proof.Machine
end

section
/-!
What changes roles and grafts at the tick leaves its number (R44, R127, R129, R352, R362, R483, R493).
-/
namespace Sys2Proof.Machine

set_option Elab.async false

variable {s0 s u : State}

/-- A register of one twin at its place in the other. -/
theorem OffNum.moved {w : Twin} {a b : Nat} : OffNum (a - b + w.base) := by
  rw [Nat.add_comm]
  exact .twin

theorem domainOf_num : domainOf Reg.TGEN_NUM = some .dev := by decide +kernel

/-- A fold whose list is known. -/
theorem Ticking.foldl_mem {α : Type} {f : State → α → State} {l : List α} (h : Ticking s0 s)
    (step : ∀ x, ∀ e ∈ l, Ticking s0 x → Ticking s0 (f x e)) : Ticking s0 (l.foldl f s) := by
  induction l generalizing s with
  | nil => exact h
  | cons e l ih => exact ih (step s e List.mem_cons_self h) fun x y hy => step x y (List.mem_cons_of_mem _ hy)

/-! ### The steps of a graft -/

section
variable (h : Ticking s0 s) {w : Twin} {k : Nat}
include h

theorem Ticking.setGraftState {v : Nat} : Ticking s0 (setGraftState w v s) := h.sf .twin

theorem Ticking.watchSpare : Ticking s0 (watchSpare w s) := .ite h.modCurves.raiseIf h.modCurves

theorem Ticking.freshSlots {cs : List Nat} : Ticking s0 (freshSlots w cs s) := h.modCurves

theorem Ticking.releaseOther {cs : List Nat} : Ticking s0 (releaseOther w cs s) := by
  refine .ite h ?_
  exact (h.foldl (fun _ _ hx => hx.wrBytes) _).modCurves.freshSlots

theorem Ticking.releaseSlots {restore : Bool} {g : Graft} : Ticking s0 (releaseSlots restore w g s) := by
  unfold Machine.releaseSlots
  extract_lets cs s1 s2
  have h1 : Ticking s0 s1 := .ite (h.foldl (fun _ _ hx => hx.wrBytes) _).freshSlots h
  have h2 : Ticking s0 s2 := h1.modCurves
  exact .ite h2.releaseOther h2

theorem Ticking.showRefusal {b : Bad} : Ticking s0 (showRefusal b w s) := ((((h.sf .twin).sf .twin).sb .twin).setReg .twin).raiseTwin

theorem Ticking.refuseGraft {b : Bad} : Ticking s0 (refuseGraft b w s) := by
  unfold Machine.refuseGraft
  split
  · exact h
  · exact h.releaseSlots.modTw.setGraftState.showRefusal.watchSpare

theorem Ticking.forgetGraft : Ticking s0 (forgetGraft w s) := by
  unfold Machine.forgetGraft
  split
  · exact h
  · exact h.releaseSlots.modTw.setGraftState.watchSpare

theorem Ticking.dropGrafts : Ticking s0 (dropGrafts s) := h.each (fun _ _ hx => hx.forgetGraft)

theorem Ticking.refuseBoth {b : Bad} : Ticking s0 (refuseBoth b s) := h.each (fun _ _ hx => hx.refuseGraft)

/-! ### The graft's timing set -/

theorem Ticking.setTb {n : Fin 4} {t : TimeBase} : Ticking s0 (s.setTb n t) := by
  unfold State.setTb
  split
  all_goals exact h.frame

theorem Ticking.setTbState {n : Fin 4} {st : Nat} : Ticking s0 (s.setTbState n st) := by
  unfold State.setTbState
  exact (Ticking.ite (h.setReg .tb) h).sf .tb

theorem Ticking.runTb {n : Fin 4} {rate : Int} : Ticking s0 (s.runTb n rate) := h.setTb.setReg .tb

theorem Ticking.enterHoldover {n : Fin 4} {rate : Int} : Ticking s0 (s.enterHoldover n rate) :=
  (h.runTb.setTbState.setTb.setReg .tb).raiseTh

theorem Ticking.writeMode {n : Fin 4} {mode : Nat} : Ticking s0 (s.writeMode n mode) := by
  unfold State.writeMode
  extract_lets old s1 b free s2 b2
  refine .ite h ?_
  have h1 : Ticking s0 s1 := h.sf .tb
  have hfree : ∀ x, Ticking s0 x → Ticking s0 (free x) := fun x hx => hx.setTbState
  exact .ite h1.runTb.setTbState (.ite (.ite h1.runTb.setTbState.setTb h1.enterHoldover) (.ite (hfree _ h1.runTb) (.ite (hfree _ h1.runTb) h1)))

theorem Ticking.baseImage {v : Nat → Nat → Nat} {n : Fin 4} : Ticking s0 (baseImage v n s) := by
  unfold Machine.baseImage
  extract_lets b s1 s2 s3 s4
  have h4 : Ticking s0 s4 := ((((h.writeMode.sb .tb).sf .tb).setReg .tb).setReg .tb).setReg .tb
  exact .ite h4.setReg h4

theorem Ticking.timeImage {v : Nat → Nat → Nat} : Ticking s0 (timeImage v s) := h.setReg.sf.setReg.sf.foldl (fun _ _ hx => hx.baseImage) _

theorem Ticking.captureTiming {at_ : Nat} : Ticking s0 (captureTiming at_ s) := Ticking.sb h.frame

theorem Ticking.graftTime : Ticking s0 (graftTime w s) := by
  unfold Machine.graftTime
  split
  · exact h
  · split
    · exact h
    · extract_lets v drop s1 g s2
      have h1 : Ticking s0 s1 := h.timeImage.captureTiming
      clear_value s1
      have h2 : Ticking s0 s2 := h1.frame
      exact .ite (h2.each (fun _ _ hx => hx.sb .twin)) h2

/-! ### The graft's entries -/

theorem Ticking.writeSections {rd : Nat → Byte} {secs : List DirEnt} : Ticking s0 (writeSections rd secs w s) :=
  h.foldl (fun _ _ hx => hx.wrBytes) _

theorem Ticking.layerShadows {l : Nat} : Ticking s0 (layerShadows w l s) := by
  unfold Machine.layerShadows
  exact ((((((h.sf .twin2).sb .twin2).sf .twin2).sf .twin2).sf .twin2).sf .twin2).sf .twin2

theorem Ticking.live {l : Nat} {v : LayerVals} : Ticking s0 (s.live w l v) := by
  unfold State.live
  exact ((((((h.sf .twin2).sb .twin2).sf .twin2).sf .twin2).sf .twin2).sf .twin2).sf .twin2

theorem Ticking.show {l : Nat} {slot : Option Nat} : Ticking s0 (s.show w l slot) := by
  unfold State.show
  cases slot
  · exact (h.sb .twin2).sf .twin2
  · exact (h.sb .twin2).sf .twin2

theorem Ticking.dropCommits {e : GraftEnt} : Ticking s0 (dropCommits w e s) := by
  unfold Machine.dropCommits
  split
  · extract_lets mark x
    split
    · split
      · exact h.setLayer.sb .twin
      · exact h
    · exact h
  · split
    · exact .ite (h.modMasters.sb .twin) h
    · exact h
  · exact h

theorem Ticking.liveDefaults {e : GraftEnt} : Ticking s0 (liveDefaults w e s) := by
  refine .ite h ?_
  split
  · exact (h.layerShadows.live.sb .twin2).sb .twin2
  · exact (h.sf .twin).sf .twin
  · exact h

theorem Ticking.univChanged {e old new : Nat} {now : Bool} : Ticking s0 (univChanged w e old new now s) := .ite h.setUniv (.ite h h.setUniv)

theorem Ticking.flowChanged {f : Nat} : Ticking s0 (flowChanged w f s) :=
  (((h.setFlow.foldl (fun _ _ hx => hx.resetMem) _).sb .twin2).setReg .twin2).wr64 .twin2 .twin3

theorem Ticking.requestEnum {p : Nat} : Ticking s0 (requestEnum p w s) := .ite h.setStrand h

theorem Ticking.portChanged {p : Nat} {old new : List Byte} : Ticking s0 (portChanged w p old new s) := by
  have h1 : Ticking s0 (if s.latchOpen w then s else Machine.portSwitched w p (byteAt old 0) s) := .ite h (h.steady (Steady.refl s).portSwitched)
  exact .ite h1.requestEnum h1

theorem Ticking.restartLayer {l : Nat} : Ticking s0 (restartLayer w l s) :=
  (((h.show.setLayer.setReg .twin2).setReg .twin2).sf .twin2).sb .twin2

theorem Ticking.restartFixture {f : Nat} : Ticking s0 (restartFixture w f s) := by
  unfold Machine.restartFixture
  exact (h.sf .twin).setHealthEntry.modHlth

theorem Ticking.entryChanged {old : List Byte} {e : GraftEnt} : Ticking s0 (entryChanged w old e s) := by
  unfold Machine.entryChanged
  extract_lets i new st s1 s2 s3 b3
  split
  · have h1 : Ticking s0 s1 := .ite h.resetMem h
    have h3 : Ticking s0 s3 := (((h1.sf .twin2).sf .twin2).sf .twin2).sf .twin2
    exact (Ticking.ite h3.resetMem h3).setBank
  · exact h.modSorus
  · exact h.modSorus
  · exact h.univChanged
  · exact h.flowChanged
  · exact h.portChanged
  · exact .ite h.restartLayer h
  · exact .ite h.restartFixture h
  · exact h

theorem Ticking.cfgChanged {before : State} : Ticking s0 (cfgChanged w k before s) := h.foldl (fun _ _ hx => .ite hx hx.setStrand) _

theorem Ticking.powerImage : Ticking s0 (powerImage w s) := h.sf.sf

theorem Ticking.applyGraft : Ticking s0 (applyGraft k w s) := by
  unfold Machine.applyGraft
  split
  next => exact h
  next g _ =>
    extract_lets rd all ch kept s1 s2 s3 s4 s5 s6 touched lay s7 s8 pw s9 s10 s11 s12
    have h1 : Ticking s0 s1 := .ite h.modTw h
    have h3 : Ticking s0 s3 := (h1.writeSections.foldl (fun _ _ hx => hx.liveDefaults) _).foldl (fun _ _ hx => hx.dropCommits) _
    have h4 : Ticking s0 s4 := h3.foldl (fun _ _ hx => hx.entryChanged) _
    have h5 : Ticking s0 s5 := h4.foldl (fun _ _ hx => .ite hx hx.modNet) _
    have h8 : Ticking s0 s8 := h5.cfgChanged.modTw.modLay.releaseSlots
    clear_value s8
    have h9 : Ticking s0 s9 := .ite (Ticking.powerImage h8.frame) h8
    have h12 : Ticking s0 s12 := ((((h9.setReg .twin).setReg .twin).sf .twin).frameFlag.sb .twin).setGraftState
    exact h12.raiseTwin.watchSpare

theorem Ticking.graftTick {fate : GraftFate} : Ticking s0 (graftTick fate k s) := by
  unfold Machine.graftTick
  split
  · exact h
  · exact h.refuseBoth
  · extract_lets s1 o
    have h1 : Ticking s0 s1 := h.applyGraft
    clear_value s1
    have rest : Ticking s0 (if s1.grafting o then Machine.forgetGraft o s1 else s1) := .ite h1.forgetGraft h1
    refine .ite rest (.ite rest.setRole ?_)
    split
    · exact h1.refuseGraft.setRole
    · exact h1.applyGraft

end

/-! ### The swap and the health bits at the tick (R44, R352) -/

section
variable (h : Ticking s0 s) {w : Twin}
include h

theorem Ticking.isolate : Ticking s0 (s.isolate w) := (h.sb (hf := iso_low w)).setRole

theorem Ticking.holdReset : Ticking s0 (s.holdReset w) := by
  unfold State.holdReset
  extract_lets s00 s1
  have h0 : Ticking s0 s00 := h.sb (hf := rst_low w)
  have h1 : Ticking s0 s1 := (Ticking.ite h0.revertRecord h0).twinReset
  exact .ite h1.setRole h1.setRole

theorem Ticking.addSwap {d : SwapDue} : Ticking s0 (s.addSwap d) := by
  unfold State.addSwap
  split
  · exact .ite h.frame h.frame
  · exact h.frame

theorem Ticking.doSwapDue : Ticking s0 s.doSwapDue := by
  unfold State.doSwapDue
  split
  next => exact h
  next d _ =>
    extract_lets s00 o swapped b s1 s2
    have h0 : Ticking s0 s00 := h.frame
    split
    · split
      · exact h0.setRoles2
      · exact h0.setRoles2
      · exact (h0.sb (hf := iso_low _)).setRoles2
      · exact h0.setRoles2.holdReset
      · exact h0.setRoles2.frame
    · have h1 : Ticking s0 s1 := h0.sb
      have h2 : Ticking s0 s2 := h1.sb (hf := rst_low _)
      exact .ite h0 (.ite h1 (.ite h2 (h2.sb (hf := iso_low _))))

theorem Ticking.restartNow : Ticking s0 (restartNow w s) := .ite h.restartFirmware.setRole h.restartFirmware.setRole

theorem Ticking.restartOn : Ticking s0 (restartOn w s) := by
  unfold Machine.restartOn
  split
  · exact .ite h.restartNow (.ite h (Ticking.startFirmware h.resetKeepingDram.frame))
  · exact .ite h.restartNow (.ite h.addSwap (.ite h.frame (Ticking.inPlaceStart h.frame)))

theorem Ticking.swapTick : Ticking s0 (swapTick s) := by
  unfold Machine.swapTick
  extract_lets s1
  have h1 : Ticking s0 s1 := h.doSwapDue
  clear_value s1
  split
  · exact h1
  · exact .ite h1 (.ite (Ticking.restartNow h1.frame) (.ite h1.frame h1.restartOn))

theorem Ticking.flagActions : Ticking s0 (flagActions s) := by
  unfold Machine.flagActions
  extract_lets p s00 due bo
  have h0 : Ticking s0 s00 := h.frame
  clear_value s00
  split
  · exact h0
  · exact .ite h0.isolate (.ite h0.setRole (.ite (.ite (h0.sb (hf := iso_low _)).setRoles2 (.ite h0.setRoles2 h0)) h0))

/-! ### A resync at the tick (R362) -/

theorem Ticking.causeAll {f : Fld} (hf : f.hi < 32 := by decide) : Ticking s0 (causeAll w f s) := h.foldl (fun _ _ hx => hx.sb .banked hf) _

theorem Ticking.copyRegs : Ticking s0 (copyRegs w s) := by
  unfold Machine.copyRegs
  extract_lets o keep src old s1 s2
  have h1 : Ticking s0 s1 := h.resetRegs (by rw [inTwin_num]; rfl)
  have h2 : Ticking s0 s2 := h1.foldl (fun _ _ hx => hx.setReg .moved) _
  exact h2.foldl (fun _ _ hx => (hx.sf .twin2).sf .twin2) _

theorem Ticking.copyMem : Ticking s0 (copyMem w s) := h.resetMem.foldl (fun _ _ hx => hx.wrB) _

/-- A change of the peristome's state and of the phase of the resync. -/
theorem Ticking.resyncPhase {p : Peri} {v : Nat} : Ticking s0 (State.sf { s with peri := p } Reg.PERI_RESYNC Fld.PERI_RESYNC_PHASE v) :=
  Ticking.sf h.frame

theorem Ticking.joinAt : Ticking s0 (joinAt w s) := by
  unfold Machine.joinAt
  extract_lets src mine c curves s1 s2 p
  have h1 : Ticking s0 s1 := h.copyRegs.copyMem.modTw.sf .twin
  clear_value s1
  have h2 : Ticking s0 s2 := h1.causeAll.causeAll
  clear_value s2
  exact h2.resyncPhase

theorem Ticking.sendWriting : Ticking s0 (sendWriting w s) := by
  unfold Machine.sendWriting
  extract_lets o cs s1
  have h1 : Ticking s0 s1 := h.foldl (fun _ _ hx => hx.wrBytes) _
  exact h1.modTw

theorem Ticking.resyncTick : Ticking s0 (resyncTick s) := by
  unfold Machine.resyncTick
  split
  next => exact h
  next v _ =>
    extract_lets s1 p s2
    have h1 : Ticking s0 s1 := h.sendWriting.setRole
    clear_value s1
    have h2 : Ticking s0 s2 := h1.frame
    refine .ite h (.ite h2.sf.sf ?_)
    split
    · exact .ite h.joinAt h
    · exact h

theorem Ticking.releaseDiverged {was : Roles} : Ticking s0 (releaseDiverged was s) := .ite h (h.each (fun _ _ hx => hx.setRole))

/-! ### Restarts in place and imports at the tick (R483, R493) -/

theorem Ticking.inPlaceTick : Ticking s0 (inPlaceTick s) := by
  unfold Machine.inPlaceTick
  split
  next => exact h
  next v arr _ =>
    extract_lets b s1 b1 s2
    have h1 : Ticking s0 s1 := h.frame
    have h2 : Ticking s0 s2 := h1.frame
    exact .ite h (.ite h1.restartOn (.ite h2 h2.inPlaceStart))

theorem Ticking.inPlaceReturn : Ticking s0 (inPlaceReturn s) := by
  unfold Machine.inPlaceReturn
  split
  next => exact h
  next hd _ =>
    extract_lets b s1 v own keep r1 r2 t c r3 r4 d b4 r5
    have h1 : Ticking s0 s1 := h.frame
    have back : Ticking s0 r1 := h.foldl_mem (fun x e he hx => hx.setReg (ha := by
      have twin := (List.mem_filter.1 he).2
      simp only [Bool.and_eq_true, decide_eq_true_eq] at twin
      exact decide_eq_false fun num => by
        rw [num, domainOf_num] at twin
        cases twin.2))
    have h4 : Ticking s0 r4 := (back.foldl (fun _ _ hx => hx.wrB) _).modTw.setGraftState
    clear_value r4
    have h5 : Ticking s0 r5 := h4.frame
    exact .ite h (.ite (.ite h1.setRole h1) (Ticking.frame h5.setRole))

theorem Ticking.flashErase {a n : Nat} : Ticking s0 (flashErase a n s) := .ite h.resetMem h

theorem Ticking.importSettings {b : List Byte} : Ticking s0 (importSettings b s) := h.flashErase.wrBytes

theorem Ticking.writeTrim {v : Word} : Ticking s0 (s.writeTrim v) := h.runTb.setReg

theorem Ticking.importTick : Ticking s0 (importTick w s) := by
  unfold Machine.importTick
  split
  next => exact h
  next b _ =>
    extract_lets s1 x y s2
    have h1 : Ticking s0 s1 := h.modTw
    have h2 : Ticking s0 s2 := .ite h1 h1.wrBytes.setReg.writeTrim.importSettings
    exact .ite h2.modTw (h2.sf .twin)

end

end Sys2Proof.Machine
end

section
/-!
The units of a twin at the tick leave its number (R31, R58, R147, R177, R233, R237, R288, R305, R322, R388).
-/
namespace Sys2Proof.Machine

set_option Elab.async false

variable {s0 s u : State}

/-! ### A new tick interval, and ingest (R57, R58, R147) -/

section
variable (h : Ticking s0 s) {w : Twin}
include h

theorem Ticking.lostEvent : Ticking s0 (lostEvent w s) := .ite h h.modNet.raiseTwin

theorem Ticking.newInterval : Ticking s0 (newInterval s) := by
  unfold Machine.newInterval
  extract_lets k s00 s1
  have h0 : Ticking s0 s00 := h.at.each (fun _ _ hx => hx.lostEvent)
  have h1 : Ticking s0 s1 := h0.each (fun _ _ hx => hx.modTw)
  exact h1.frame

theorem Ticking.ingestTick : Ticking s0 (ingestTick w s) :=
  h.modNet.foldl (fun _ _ hx => .ite (.ite ((hx.setFlow.sb .twin2).setReg .twin2 |>.wr64 .twin2 .twin3) ((hx.sb .twin2).bump .twin2)) hx) _

/-! ### Layers and masters (R177, R233) -/

theorem Ticking.raiseOncePer {n data : Nat} (hn : n < 256 := by decide) : Ticking s0 (s.raiseOncePer w n data) := .ite h (h.modTw.raiseTwin hn)

theorem Ticking.latchLayer {l : Nat} {carried : Bool} : Ticking s0 (latchLayer w l carried s) := by
  unfold Machine.latchLayer
  extract_lets stat
  split
  next => exact h
  next i _ =>
    extract_lets sub s1 s2 s3 s4
    have h1 : Ticking s0 s1 := h.show
    have h2 : Ticking s0 s2 := by
      clear_value sub
      unfold s2
      split
      · exact h1.setLayer
      · exact h1
    have h3 : Ticking s0 s3 := ((h2.sb .twin2).sb .twin2).bump .twin
    have h4 : Ticking s0 s4 := h.setLayer
    exact .ite (.ite h3.raiseOncePer h3) (.ite (h4.sb .twin2) h4)

theorem Ticking.layerTick {l : Nat} : Ticking s0 (layerTick w l s) := by
  unfold Machine.layerTick
  extract_lets x s1 s2 carried s3
  have h1 : Ticking s0 s1 := h.setLayer
  have h2 : Ticking s0 s2 := by
    unfold s2
    split
    next c _ =>
      extract_lets y
      have hy : Ticking s0 y := by
        unfold y
        split
        · exact h1.live
        · exact h1
      split
      · exact .ite hy.show hy
      · exact hy
    next => exact h1
  have h3 : Ticking s0 s3 := .ite h2.latchLayer h2
  exact h3.setLayer

theorem Ticking.showPending : Ticking s0 (showPending w s) := (h.sb .twin).sb .twin

theorem Ticking.mastersTick : Ticking s0 (mastersTick w s) := by
  unfold Machine.mastersTick
  extract_lets m s1
  have h1 : Ticking s0 s1 := by
    unfold s1
    split
    next => exact h
    next c _ =>
      extract_lets y
      have hy : Ticking s0 y := by
        unfold y
        split
        · exact h.sf .twin
        · exact h
      exact (hy.sf .twin).modMasters
  exact h1.modMasters.showPending.watchSpare

theorem Ticking.zonesTick {due : List (Nat × List Nat)} {reports : List (Nat × Int)} : Ticking s0 (zonesTick w due reports s) := by
  unfold Machine.zonesTick
  extract_lets old new was told colder hotter s1 s2
  have h1 : Ticking s0 s1 := h.modTw
  have h2 : Ticking s0 s2 := .ite h1.raiseIf h1
  exact .ite h2.raiseOnce h2

/-! ### Strands (R288, R289, R305) -/

theorem Ticking.delaysTick {p : Nat} : Ticking s0 (delaysTick w p s) := by
  unfold Machine.delaysTick
  extract_lets _ rt d s1 s2
  have h2 : Ticking s0 s2 := (h.setStrand.sf .twin2).sf .twin2
  exact h2.sf .twin2

theorem Ticking.showDmx {p : Nat} : Ticking s0 (showDmx w p s) := h.steady (Steady.refl s).showDmx

theorem Ticking.rdmTick {p : Nat} : Ticking s0 (rdmTick w p s) := .ite h h.setDmx.showDmx

theorem Ticking.sendPkt {p at_ : Nat} {b : List Byte} : Ticking s0 (sendPkt w p at_ b s) := h.steady (Steady.refl s).sendPkt

theorem Ticking.startEnum {p : Nat} : Ticking s0 (startEnum w p s) := by
  unfold Machine.startEnum
  refine .ite h ?_
  extract_lets reset count s1 s2 s3 s4 r
  have h1 : Ticking s0 s1 := .ite h.emitWake h
  have h4 : Ticking s0 s4 := (h1.sendPkt.sendPkt.sendPkt.sb .twin2).sf .twin2
  exact h4.setStrand

end

/-! ### Reports (R322 to R334) -/

section
variable {w : Twin} {p : HealthNews × State}

theorem Ticking.confirm {fx c r : Nat} (h : Ticking s0 p.2) : Ticking s0 (confirm w fx c r p).2 := by
  obtain ⟨news, s⟩ := p
  unfold Machine.confirm
  dsimp -zeta only
  extract_lets _ _ s1
  have hs : Ticking s0 s1 := h.setChan
  split
  · exact hs
  · split
    · dsimp only
      exact hs.setHealthEntry.bump .twin
    · dsimp only
      exact hs.setHealthEntry.bump .twin
    · exact hs.setHealthEntry

theorem Ticking.unblind {fx c : Nat} (h : Ticking s0 s) : Ticking s0 (unblind w fx c s) := .ite (h.setHealthEntry.sf .twin) h

theorem Ticking.result {fx c r : Nat} (h : Ticking s0 p.2) : Ticking s0 (result w fx c r p).2 := by
  obtain ⟨news, s⟩ := p
  unfold Machine.result
  dsimp -zeta only
  extract_lets s1 x need
  have h1 : Ticking s0 s1 := h.unblind
  split
  · exact h1.setChan
  · split
    · exact Ticking.confirm h1.setChan
    · exact h1.setChan

theorem Ticking.limits {fx : Nat} {hot supply : Bool} (h : Ticking s0 p.2) : Ticking s0 (limits w fx hot supply p).2 := h.setHealthEntry

theorem Ticking.limitsOf (h : Ticking s0 p.2) : Ticking s0 (limitsOf w p).2 := Ticking.foldl_snd (fun _ _ hx => hx.limits) _ _ h

theorem Ticking.applyStatus {n : Nat} {b : List Byte} (h : Ticking s0 p.2) : Ticking s0 (applyStatus w n b p).2 := by
  obtain ⟨news, s⟩ := p
  unfold Machine.applyStatus
  dsimp -zeta only
  extract_lets node
  split
  · dsimp only
    exact h.bump .twin
  · extract_lets e e1 acc
    have told : Ticking s0 acc.2 := h.setHealthEntry
    split
    · exact told
    · split
      · exact told
      · refine Ticking.foldl_snd (fun _ _ hx => hx.result) _ _ ?_
        dsimp only
        exact told.modHlth

theorem Ticking.applyPost {x : Nat × Nat × Nat × Nat} (h : Ticking s0 p.2) : Ticking s0 (applyPost w x p).2 := by
  obtain ⟨news, s⟩ := p
  obtain ⟨typ, chunk, fx, v⟩ := x
  unfold Machine.applyPost
  dsimp -zeta only
  extract_lets e
  split
  · exact h.setHealthEntry
  · exact h.setHealthEntry
  · exact Ticking.foldl_snd (fun _ _ hx => hx.confirm) _ _ h.setHealthEntry

end

section
variable (h : Ticking s0 s) {w : Twin}
include h

theorem Ticking.waitTick : Ticking s0 (waitTick w s) := .ite h (h.foldl (fun _ _ hx => hx.foldl (fun _ _ hy => hy.setChan) _) _)

theorem Ticking.voidPulses : Ticking s0 (voidPulses w s) := .ite h (h.modHlth.bump .twin)

theorem Ticking.healthEvent {en : Fld} {n : Nat} {l : List Nat} (hn : n < 256 := by decide) : Ticking s0 (healthEvent w en n l s) := by
  unfold Machine.healthEvent
  split
  · exact h.raiseOnce hn
  · exact h

theorem Ticking.noReports : Ticking s0 (noReports w s) := (h.foldl (fun _ _ hx => hx.setHealthEntry) _).healthEvent

theorem Ticking.healthTick : Ticking s0 (healthTick w s).2 := by
  unfold Machine.healthTick
  extract_lets hl here sts posts dropped s00 s1 reports acc
  have h1 : Ticking s0 s1 := h.modHlth.waitTick.bump .twin
  have hacc : Ticking s0 acc.2 := Ticking.foldl_snd (fun _ _ hx => hx.applyStatus) _ _ h1
  have applied := Ticking.limitsOf (w := w) (Ticking.foldl_snd (fun _ x hx => hx.applyPost (x := x) (w := w)) posts _ hacc)
  exact (applied.voidPulses.healthEvent.healthEvent.healthEvent).noReports

/-! ### The units of a twin, its frame and its TICK item -/

theorem Ticking.twinTick : Ticking s0 (twinTick w s) := by
  unfold Machine.twinTick
  extract_lets s1
  have h1 : Ticking s0 s1 := (h.foldl (fun _ _ hx => hx.layerTick) _).ingestTick
  have h2 := (h1.mastersTick (w := w)).healthTick (w := w)
  split
  next reports s2 eq =>
    rw [eq] at h2
    extract_lets s3 s4 s5
    have h5 : Ticking s0 s5 := (h2.zonesTick.foldl (fun _ _ hx => hx.delaysTick) _).foldl (fun _ _ hx => hx.rdmTick) _
    exact h5.foldl (fun _ _ hx => .ite hx.startEnum hx) _

theorem Ticking.newFrame : Ticking s0 (newFrame w s) := by
  unfold Machine.newFrame
  extract_lets t c b f
  exact h.modTw

theorem Ticking.tickItem {k stamp flags recTick : Nat} : Ticking s0 (tickItem w k stamp flags recTick s) :=
  .ite (.ite h.pushCounted (h.bump .twin)) h

theorem Ticking.pushTick : Ticking s0 (pushTick w s) := h.tickItem

/-! ### The context reset (R31) -/

theorem Ticking.layerContextReset : Ticking s0 (layerContextReset w s) := h.foldl (fun _ _ hx => .ite hx.setLayer hx) _

theorem Ticking.contextTwin : Ticking s0 (contextTwin w s) := by
  unfold Machine.contextTwin
  extract_lets s1 s2 s3 s4 s5
  have h2 : Ticking s0 s2 := ((h.foldl (fun _ _ hx => hx.layerShadows) _).sf .twin).layerContextReset
  have h3 : Ticking s0 s3 := h2.modMasters.showPending
  have h4 : Ticking s0 s4 := h3.modSorus.causeAll.modTw
  have h5 : Ticking s0 s5 := h4.foldl (fun _ _ hx => hx.showDmx) _
  exact h5.modNet.modHlth.watchSpare

theorem Ticking.contextClear : Ticking s0 (contextClear s) := by
  unfold Machine.contextClear
  extract_lets s1 s2 s3
  have h1 : Ticking s0 s1 := h.resetRegs (by rw [domainOf_num]; rfl)
  have h3 : Ticking s0 s3 := h1.resetMem.each (fun _ _ hx => hx.contextTwin)
  clear_value s3
  exact Ticking.frameFlag h3.frame

/-! ### What the Thallus does at a tick (R43, R342, R453, R456, R463) -/

theorem Ticking.resumeTick : Ticking s0 (resumeTick s) := by
  unfold Machine.resumeTick
  split
  next r _ =>
    extract_lets s1
    have h1 : Ticking s0 s1 := h.frame
    refine .ite ?_ h
    split
    · exact h1.foldl (fun _ _ hx => hx.emitWake) _
    · exact h1
  next => exact h

theorem Ticking.formDigests : Ticking s0 (formDigests s) := h.frame

theorem Ticking.blackout : Ticking s0 (blackout s) := by
  unfold Machine.blackout
  extract_lets v zero
  refine .ite h (h.foldl (fun x p hx => ?_) _)
  split
  · exact .ite hx.emit hx
  · exact hx.emit
  · exact hx.emit
  · exact hx

theorem Ticking.setOpp {n : Nat} : Ticking s0 (setOpp n s) := h.sf.sf

theorem Ticking.startOpp {n : Nat} : Ticking s0 (startOpp n s) := by
  unfold Machine.startOpp
  extract_lets old s1
  have h1 : Ticking s0 s1 := h.frame
  exact .ite h (.ite h1.setOpp h1)

theorem Ticking.oppTick : Ticking s0 (oppTick s) := by
  unfold Machine.oppTick
  split
  · exact .ite (Ticking.startOpp h.frame) h
  · exact h

theorem Ticking.stateChange : Ticking s0 (stateChange s) := by
  unfold Machine.stateChange
  split
  next code arrival _ =>
    extract_lets s1
    have shown : Ticking s0 (s.sf Reg.PWR_STAT Fld.PWR_STAT_STATE code) := h.sf
    have h1 : Ticking s0 s1 := shown.frame
    exact .ite h1.oppTick h
  next => exact h

end

end Sys2Proof.Machine
end

section
/-!
O16: the tick takes the number that follows the last (R49, R50). What falls before the tick leaves the number of the newest one, the advance
of the tick sets it, and what the units do at the tick leaves it again.
-/
namespace Sys2Proof.Machine

set_option Elab.async false

variable {s0 s u : State} {k : Nat}

/-! ### What the advance of the tick does before it takes its number (R54, R93, R97) -/

section
variable (h : Ticking s0 s)
include h

theorem Ticking.cancelTiming : Ticking s0 (cancelTiming s) := by
  have h1 : Ticking s0 { s with tg := { s.tg with pend := none } } := h.frame
  exact h1.sb

theorem Ticking.applyTiming {x : TimingSet} {c : Nat} : Ticking s0 (applyTiming x c s) := (h.setReg.sf.setReg).wr64

theorem Ticking.timingTick {raw c : Nat} : Ticking s0 (timingTick raw c s).2 := by
  unfold Machine.timingTick
  split
  next => exact h
  next x _ =>
    split
    · exact h
    · extract_lets s1 r
      have h1 : Ticking s0 s1 := h.cancelTiming
      split
      · exact (h1.sb.sf).raiseTh
      · exact h1.applyTiming

theorem Ticking.moveTick : Ticking s0 (moveTick s).2 := by
  unfold Machine.moveTick
  extract_lets n _ s1
  have h1 : Ticking s0 s1 := h.frame
  split
  · dsimp only
    exact h1.sf.sb.sb
  · dsimp only
    exact h.sb

theorem Ticking.phaseTick : Ticking s0 (phaseTick s).2 := by
  unfold Machine.phaseTick
  split
  next v _ =>
    have h1 : Ticking s0 { s with tg := { s.tg with phaseWrite := none } } := h.frame
    exact h1.wr64
  next => exact h

theorem Ticking.comingK : s.comingK = s0.comingK := by
  have ran : s.tg.ran = s0.tg.ran := congrArg TickingView.ran h.view
  have num : s.tg.cur.k = s0.tg.cur.k := congrArg TickingView.k h.view
  unfold State.comingK State.tickNo
  rw [ran, num]

end

/-! ### The number of a tick that has fallen -/

/-- The tick runs, the newest one has number `k`, TGEN_NUM shows it, and no sleep sequence is under way. -/
structure Ticked (k : Nat) (u : State) : Prop where
  ran : u.tg.ran = true
  num : u.tg.cur.k = k
  awake : u.pwr.sleep = none
  wf : u.regsWf = true
  shown : u.reg Reg.TGEN_NUM = BitVec.ofNat 32 k

theorem Ticked.ticking (h : Ticked k s) (g : Ticking s u) : Ticked k u := by
  obtain ⟨wf, same⟩ := g.regs h.wf
  exact ⟨(congrArg TickingView.ran g.view).trans h.ran, (congrArg TickingView.k g.view).trans h.num,
    (congrArg TickingView.sleep g.view).trans h.awake, wf, (same _ rfl).trans h.shown⟩

/-- A state whose tick generator has taken number `k`, once TGEN_NUM is written. -/
theorem Ticked.shows (ran : s.tg.ran = true) (num : s.tg.cur.k = k) (awake : s.pwr.sleep = none) (wf : s.regsWf = true) :
    Ticked k (s.setReg Reg.TGEN_NUM (BitVec.ofNat 32 k)) :=
  ⟨ran, num, awake, State.regsWf_setReg wf _ _, State.reg_setReg_self wf _ _⟩

theorem advanceTick_ticked (wf : s.regsWf = true) (awake : s.pwr.sleep = none) : Ticked s.comingK (advanceTick s) := by
  unfold advanceTick
  extract_lets raw s00 c0 k stepped _ s1
  have h1 : Ticking s s1 := (Ticking.refl s).at.frame
  clear_value s1
  have h2 : Ticking s (timingTick raw c0 s1).2 := h1.timingTick
  generalize timingTick raw c0 s1 = timed at h2 ⊢
  obtain ⟨commit, s2⟩ := timed
  have h3 : Ticking s (moveTick s2).2 := h2.moveTick
  dsimp -zeta only
  generalize moveTick s2 = move at h3 ⊢
  obtain ⟨moved, s3⟩ := move
  have h4 : Ticking s (phaseTick s3).2 := h3.phaseTick
  dsimp -zeta only
  generalize phaseTick s3 = phase at h4 ⊢
  obtain ⟨phased, s4⟩ := phase
  obtain ⟨wf4, -⟩ := h4.regs wf
  have awake4 : s4.pwr.sleep = none := (congrArg TickingView.sleep h4.view).trans awake
  dsimp -zeta only
  extract_lets b c realign proto flags counts cur _ s5 s6
  have h6 : Ticked s.comingK s6 := (Ticked.shows (s := s5) rfl rfl awake4 wf4).ticking (Ticking.refl _).wr64
  clear_value s6
  split
  · exact h6.ticking ((Ticking.refl s6).sf).raiseTh
  · exact h6

/-! ### The tick (R49) -/

theorem Ticking.resyncAfter {join : Bool} (h : Ticking s0 s) : Ticking s0 (if join then Machine.resyncTick s else s) := .ite h.resyncTick h

/-- Roles and grafts at the tick, around its advance. -/
theorem tickRoles_ticked (wf : s.regsWf = true) (awake : s.pwr.sleep = none) : Ticked s.comingK (tickRoles s) := by
  unfold tickRoles
  extract_lets was join k raw fate s1 s2 s3
  have h1 : Ticking s s1 := by
    clear_value fate
    unfold s1
    split
    · exact (Ticking.refl s).graftTime
    · exact .refl s
  clear_value s1
  have fell : Ticked s.comingK (advanceTick s1) := by
    rw [← h1.comingK]
    exact advanceTick_ticked (h1.regs wf).1 ((congrArg TickingView.sleep h1.view).trans awake)
  have h2 : Ticking (advanceTick s1) s2 := (((Ticking.refl _).swapTick).flagActions).dropGrafts
  have h3 : Ticking (advanceTick s1) s3 := h2.resyncAfter.releaseDiverged
  exact fell.ticking (((h3.each (fun _ _ hx => hx.importTick)).graftTick).inPlaceTick).inPlaceReturn

theorem Ticked.sleepBegin (h : Ticked k s) : Ticked k (sleepBegin s) := by
  unfold Machine.sleepBegin
  rw [h.awake]
  exact h

theorem tick_ticked (wf : s.regsWf = true) (awake : s.pwr.sleep = none) : Ticked s.comingK (tick s) := by
  unfold tick
  extract_lets join sa s00 s2 items s3 s4 s5 s6 s7
  have h0 : Ticking s s00 := ((Ticking.refl s).catchUp awake).newInterval
  have fell : Ticked s.comingK s2 := by
    rw [← h0.comingK]
    exact tickRoles_ticked (h0.regs wf).1 ((congrArg TickingView.sleep h0.view).trans awake)
  clear_value s00 s2
  have hi : ∀ {x : State}, Ticking s2 x → Ticking s2 (items x) := fun hx => hx.each (fun _ _ hy => hy.pushTick)
  have h3 : Ticking s2 s3 := .ite (hi (Ticking.refl s2).contextClear).raiseTh (hi (Ticking.refl s2))
  have h5 : Ticking s2 s5 := h3.resumeTick.each (fun _ _ hx => hx.twinTick)
  have h6 : Ticking s2 s6 := h5.each (fun _ _ hx => hx.newFrame)
  have h7 : Ticking s2 s7 := (Ticking.ite h6 h6.resyncTick).formDigests
  exact (fell.ticking h7.blackout.stateChange.oppTick).sleepBegin

/-- Settles O16, from what the advance of the tick sets and what everything else at a tick leaves. -/
theorem tickAdvancesTheNumber : Obligations.TickAdvancesTheNumber := by
  unfold Obligations.TickAdvancesTheNumber
  intro s tidy armed out on awake k
  have wf : s.regsWf = true := (Bool.and_eq_true_iff.1 tidy).1
  have falls : exec .tick s = .next (tick s.begin) := if_pos (by
    rw [Bool.and_eq_true, Bool.and_eq_true]
    exact ⟨⟨armed, by rw [State.begin_dev, out]; rfl⟩, by
      have same : s.begin.mainOff = s.mainOff := rfl
      rw [same, on]
      rfl⟩)
  have fell : Ticked k (tick s.begin) := tick_ticked (s := s.begin) wf awake
  exact ⟨_, falls, fell.ran, fell.num, fell.shown⟩

end Sys2Proof.Machine
end

section
/-!
SUPPORT. What a change of a time base (chapter 3) leaves of the state: the other bases, and every register that it does not name.
-/
namespace Sys2Proof.Machine

set_option Elab.async false

variable {s0 s u : State} {n : Fin 4} {l : List Nat}

/-! ### Reading and replacing a base -/

@[simp] theorem tb_setTb_self (s : State) (n : Fin 4) (b : TimeBase) : (s.setTb n b).tb n = b := by fin_cases n <;> rfl

theorem tb_setTb_ne {m : Fin 4} (h : m ≠ n) (s : State) (b : TimeBase) : (s.setTb n b).tb m = s.tb m := by
  fin_cases n <;> fin_cases m <;> simp_all [State.tb, State.setTb]

theorem setTb_tb (s : State) (n : Fin 4) : s.setTb n (s.tb n) = s := by fin_cases n <;> rfl

@[simp] theorem setTb_regs (s : State) (n : Fin 4) (b : TimeBase) : (s.setTb n b).regs = s.regs := by fin_cases n <;> rfl
@[simp] theorem setTb_now (s : State) (n : Fin 4) (b : TimeBase) : (s.setTb n b).now = s.now := by fin_cases n <;> rfl
@[simp] theorem setTb_mainOff (s : State) (n : Fin 4) (b : TimeBase) : (s.setTb n b).mainOff = s.mainOff := by fin_cases n <;> rfl
@[simp] theorem setTb_tg (s : State) (n : Fin 4) (b : TimeBase) : (s.setTb n b).tg = s.tg := by fin_cases n <;> rfl
@[simp] theorem setTb_mem (s : State) (n : Fin 4) (b : TimeBase) : (s.setTb n b).mem = s.mem := by fin_cases n <;> rfl

@[simp] theorem setTb_reg (s : State) (n : Fin 4) (b : TimeBase) (a : Nat) : (s.setTb n b).reg a = s.reg a := by rw [State.reg, State.reg, setTb_regs]
@[simp] theorem setTb_regsWf (s : State) (n : Fin 4) (b : TimeBase) : (s.setTb n b).regsWf = s.regsWf := by
  rw [State.regsWf, State.regsWf, setTb_regs]

@[simp] theorem setReg_tb (s : State) (a : Nat) (v : Word) (n : Fin 4) : (s.setReg a v).tb n = s.tb n := rfl
@[simp] theorem sf_tb (s : State) (a : Nat) (f : Fld) (v : Nat) (n : Fin 4) : (s.sf a f v).tb n = s.tb n := by rw [State.sf_eq]; rfl

theorem tbState_congr (h : u.reg (Reg.TB_STAT n.val) = s.reg (Reg.TB_STAT n.val)) : u.tbState n = s.tbState n := by
  rw [State.tbState, State.tbState, rf_eq_getFld _ _ _ (by decide), rf_eq_getFld _ _ _ (by decide), h]

/-! ### One base alone -/

/-- `u` is `s` but for the base `n` and registers at `l`, and its register file is in canonical form. -/
structure OnlyBase (l : List Nat) (n : Fin 4) (s u : State) : Prop where
  wf : u.regsWf = true
  only : onlyRegs l (s.setTb n (u.tb n)) u

theorem OnlyBase.refl (h : s.regsWf = true) : OnlyBase l n s s := ⟨h, by rw [setTb_tb]; exact .refl l s⟩

section
variable (h : OnlyBase l n s u)
include h

theorem OnlyBase.setTb {b : TimeBase} : OnlyBase l n s (u.setTb n b) := by
  obtain ⟨wf, rest, regs⟩ := h
  refine ⟨by rw [setTb_regsWf, wf], ?_, fun a ha => ?_⟩
  · rw [tb_setTb_self, setTb_regs]
    generalize u.tb n = c, u.regs = r, u.clock = k at rest
    subst rest
    fin_cases n <;> rfl
  · rw [setTb_reg, setTb_reg, regs a ha, setTb_reg]

theorem OnlyBase.setReg {a : Nat} {v : Word} (ha : a ∈ l) : OnlyBase l n s (u.setReg a v) := by
  obtain ⟨wf, rest, regs⟩ := h
  refine ⟨State.regsWf_setReg wf a v, ?_, fun x hx => ?_⟩
  · rw [setReg_tb]
    conv_lhs => rw [State.setReg, rest]
    rfl
  · have ne : x ≠ a := fun e => hx (e ▸ ha)
    rw [State.reg_setReg_ne wf ne, setReg_tb, regs x hx]

theorem OnlyBase.sf {a : Nat} {f : Fld} {v : Nat} (hf : f.hi < 32) (ha : a ∈ l) : OnlyBase l n s (u.sf a f v) := by
  rw [State.sf_low _ _ _ _ hf]
  exact h.setReg ha

theorem OnlyBase.sb {a : Nat} {f : Fld} {v : Bool} (hf : f.hi < 32) (ha : a ∈ l) : OnlyBase l n s (u.sb a f v) := h.sf hf ha

theorem OnlyBase.ite {v : State} {c : Prop} [Decidable c] (g : OnlyBase l n s v) : OnlyBase l n s (if c then u else v) := by
  split
  · exact h
  · exact g

theorem OnlyBase.runTb {rate : Int} (hr : Reg.TB_RATE n.val ∈ l) : OnlyBase l n s (u.runTb n rate) := h.setTb.setReg hr

theorem OnlyBase.setTbState {st : Nat} (hs : Reg.TB_STAT n.val ∈ l) (ha : Reg.TB_HOLD_AGE n.val ∈ l) : OnlyBase l n s (u.setTbState n st) := by
  unfold State.setTbState
  exact ((h.setReg ha).ite h).sf (by decide) hs

theorem OnlyBase.keepMeas {ofs : Int} {x0 : Nat} {rate : Int} (ho : Reg.TB_OFS_LAST n.val ∈ l) (ha : Reg.TB_RATE_AVG n.val ∈ l) :
    OnlyBase l n s (u.keepMeas n ofs x0 rate) := (h.setTb.setReg ho).setReg ha

theorem OnlyBase.reg {a : Nat} (ha : a ∉ l) : u.reg a = s.reg a := by rw [h.only.regs a ha, setTb_reg]
theorem OnlyBase.others {m : Fin 4} (hm : m ≠ n) : u.tb m = s.tb m := (congrArg (State.tb · m) h.only.rest).trans (tb_setTb_ne hm s _)
theorem OnlyBase.mainOff : u.mainOff = s.mainOff := (congrArg State.mainOff h.only.rest).trans (setTb_mainOff s n _)
theorem OnlyBase.tg : u.tg = s.tg := (congrArg State.tg h.only.rest).trans (setTb_tg s n _)
theorem OnlyBase.mem : u.mem = s.mem := (congrArg State.mem h.only.rest).trans (setTb_mem s n _)

end

/-! ### The base after each operation -/

theorem setTbState_tb (s : State) (n : Fin 4) (st : Nat) (m : Fin 4) : (s.setTbState n st).tb m = s.tb m := by
  unfold State.setTbState
  extract_lets s1
  rw [sf_tb]
  unfold s1
  split <;> rfl

theorem setTbState_now (s : State) (n : Fin 4) (st : Nat) : (s.setTbState n st).now = s.now := by
  unfold State.setTbState
  extract_lets s1
  rw [State.sf_now]
  unfold s1
  split <;> rfl

theorem setTbState_tbState (h : s.regsWf = true) {st : Nat} (lt : st < 8) : (s.setTbState n st).tbState n = st := by
  unfold State.setTbState
  extract_lets s1
  have wf : s1.regsWf = true := by
    unfold s1
    split
    · exact State.regsWf_setReg h _ _
    · exact h
  rw [State.tbState, State.rf_sf_self wf _ _ _ (by decide) (by decide)]
  exact Nat.mod_eq_of_lt lt

theorem runTb_tb (s : State) (n : Fin 4) (rate : Int) : (s.runTb n rate).tb n = (s.tb n).runAt s.now rate := by
  rw [State.runTb, setReg_tb, tb_setTb_self]

theorem runTb_now (s : State) (n : Fin 4) (rate : Int) : (s.runTb n rate).now = s.now := by
  rw [State.runTb, State.setReg_now, setTb_now]

/-! ### A raise by the Thallus -/

theorem raiseTh_tb (s : State) {k : Nat} (data : Nat) (m : Fin 4) (hk : k < 256 := by decide) : (s.raiseTh k data).tb m = s.tb m :=
  Eq.trans (b := (s.withEvents (s.raiseTh k data)).tb m) (congrArg (State.tb · m) ((Evt.refl s).raiseTh k data hk).rest) rfl

theorem raiseTh_reg_tbStat (h : s.regsWf = true) {k : Nat} (data : Nat) (hk : k < 256 := by decide) :
    (s.raiseTh k data).reg (Reg.TB_STAT n.val) = s.reg (Reg.TB_STAT n.val) := by
  have outside : ∀ m : Fin 4, evtReg (Reg.TB_STAT m.val) = false := by decide
  exact (((Evt.refl s).raiseTh k data hk).regs h).2 _ (outside n)

end Sys2Proof.Machine
end

section
/-!
O13: a loss of source enters HOLDOVER (R87), whatever reports it.
-/
namespace Sys2Proof.Machine

set_option Elab.async false

variable {s u : State} {n : Fin 4} {t : Nat}

/-- From `s`, the base `n` has entered HOLDOVER at the present instant: it runs on at its mean rate without a step, E17 is pending, and the
other bases are as they were (R87). -/
def HeldOver (s : State) (n : Fin 4) (u : State) : Prop :=
  u.tbState n = tbHoldover ∧ u.evtPending 17 = true ∧ (u.tb n).at_ = s.now ∧
    (u.tb n).rate = toSigned 32 (s.reg (Reg.TB_RATE_AVG n.val)).toNat ∧ (u.tb n).count = (s.tb n).exact s.now ∧
    (u.tb n).holdAt = s.now ∧ ∀ m, m ≠ n → u.tb m = s.tb m

/-- What only forgets the qualifying measurements of the base leaves it held over. -/
theorem HeldOver.dropQuals (h : HeldOver s n u) : HeldOver s n (u.setTb n { u.tb n with quals := [] }) := by
  obtain ⟨state, event, at_, rate, count, hold, others⟩ := h
  refine ⟨(tbState_congr (setTb_reg _ _ _ _)).trans state, (evtPending_congr 17 (setTb_reg _ _ _ _)).trans event, ?_, ?_, ?_, ?_,
    fun m hm => (tb_setTb_ne hm _ _).trans (others m hm)⟩
  all_goals rw [tb_setTb_self]; assumption

theorem lossOfSource_eq (h : s.tbState n = tbLocking ∨ s.tbState n = tbLocked ∨ s.tbState n = tbSlewing) :
    s.lossOfSource n = s.enterHoldover n (toSigned 32 (s.reg (Reg.TB_RATE_AVG n.val)).toNat) := if_pos h

/-- The base on entry into HOLDOVER at the raw instant `x`. -/
def TimeBase.heldAt (b : TimeBase) (x : Nat) (rate : Int) : TimeBase :=
  { b.runAt x rate with holdAt := x, quals := [], inLock := 0, rejRun := 0, slewEnd := none, warned := false }

theorem enterHoldover_tb (s : State) (n : Fin 4) (rate : Int) : (s.enterHoldover n rate).tb n = (s.tb n).heldAt s.now rate := by
  rw [State.enterHoldover, raiseTh_tb, setReg_tb, tb_setTb_self, setTbState_tb, setTbState_now, runTb_tb, runTb_now]
  rfl

/-- Entry into HOLDOVER before its event. -/
def State.holding (s : State) (n : Fin 4) (rate : Int) : State :=
  (((s.runTb n rate).setTbState n tbHoldover).setTb n ((s.tb n).heldAt s.now rate)).setReg (Reg.TB_RATE_AVG n.val)
    (BitVec.ofNat 32 (ofSigned 32 rate))

theorem enterHoldover_eq (s : State) (n : Fin 4) (rate : Int) : s.enterHoldover n rate = (s.holding n rate).raiseTh 17 n.val := by
  rw [State.enterHoldover, setTbState_tb, setTbState_now, runTb_tb, runTb_now]
  rfl

/-- The registers that entry into HOLDOVER writes before its event. -/
def holdRegs (n : Fin 4) : List Nat := [Reg.TB_RATE n.val, Reg.TB_STAT n.val, Reg.TB_HOLD_AGE n.val, Reg.TB_RATE_AVG n.val]

theorem holding_entered (wf : s.regsWf = true) (rate : Int) :
    OnlyBase (holdRegs n) n s ((s.runTb n rate).setTbState n tbHoldover) ∧ ((s.runTb n rate).setTbState n tbHoldover).tbState n = tbHoldover := by
  have ran : OnlyBase (holdRegs n) n s (s.runTb n rate) := (OnlyBase.refl wf).runTb (by simp [holdRegs])
  exact ⟨ran.setTbState (by simp [holdRegs]) (by simp [holdRegs]), setTbState_tbState ran.wf (by decide)⟩

theorem holding_onlyBase (wf : s.regsWf = true) (rate : Int) : OnlyBase (holdRegs n) n s (s.holding n rate) :=
  (holding_entered wf rate).1.setTb.setReg (by simp [holdRegs])

theorem holding_tbState (wf : s.regsWf = true) (rate : Int) : (s.holding n rate).tbState n = tbHoldover := by
  obtain ⟨entered, state⟩ := holding_entered (n := n) wf rate
  have apart : Reg.TB_STAT n.val ≠ Reg.TB_RATE_AVG n.val := by simp only [Reg.TB_STAT, Reg.TB_RATE_AVG]; omega
  refine (tbState_congr ?_).trans state
  rw [State.holding, State.reg_setReg_ne entered.setTb.wf apart, setTb_reg]

/-- Entry into HOLDOVER at the mean rate holds the base over. -/
theorem enterHoldover_heldOver (wf : s.regsWf = true) (on : s.mainOff = false) :
    HeldOver s n (s.enterHoldover n (toSigned 32 (s.reg (Reg.TB_RATE_AVG n.val)).toNat)) := by
  have base := enterHoldover_tb s n (toSigned 32 (s.reg (Reg.TB_RATE_AVG n.val)).toNat)
  have held := holding_onlyBase (n := n) wf (toSigned 32 (s.reg (Reg.TB_RATE_AVG n.val)).toNat)
  have state := holding_tbState (n := n) wf (toSigned 32 (s.reg (Reg.TB_RATE_AVG n.val)).toNat)
  rw [enterHoldover_eq] at base ⊢
  refine ⟨(tbState_congr (raiseTh_reg_tbStat held.wf _)).trans state, evtPending_raiseTh held.wf (held.mainOff.trans on) _, ?_, ?_, ?_, ?_,
    fun m hm => (raiseTh_tb _ _ m).trans (held.others hm)⟩
  all_goals rw [base]; rfl

/-- R87: a base that follows its source is held over by the loss of it. -/
theorem lossOfSource_heldOver (wf : s.regsWf = true) (on : s.mainOff = false)
    (h : s.tbState n = tbLocking ∨ s.tbState n = tbLocked ∨ s.tbState n = tbSlewing) : HeldOver s n (s.lossOfSource n) := by
  rw [lossOfSource_eq h]
  exact enterHoldover_heldOver wf on

/-! ### What reports a loss -/

/-- R78, R87: a submission with INVALID or NEW_SRC. -/
theorem submitMeas_loss (low : n.val ≤ 1) (slave : s.tbMode n = 1) {newSrc invalid : Bool} (bad : (newSrc || invalid) = true) :
    submitMeas n newSrc invalid s = (s.lossOfSource n).setTb n { (s.lossOfSource n).tb n with quals := [] } := by
  rw [submitMeas, if_pos ⟨low, slave⟩, if_pos bad]

theorem exec_tbMeasSubmit (t : Nat) (src : Requester) (n : Fin 4) (newSrc invalid : Bool) (h : s.thAllows src = true) :
    exec (.tbMeasSubmit t src n newSrc invalid) s = .next (submitMeas n newSrc invalid (s.beginAt t)) :=
  congrArg _ (thWrite_beginAt t src _ h)

theorem exec_tbMeasInvalid (t : Nat) (src : Requester) (n : Fin 4) (h : s.thAllows src = true) :
    exec (.tbMeasInvalid t src n) s = .next (submitMeas n false true (s.beginAt t)) := congrArg _ (thWrite_beginAt t src _ h)

theorem exec_tbMeasNewSrc (t : Nat) (src : Requester) (n : Fin 4) (h : s.thAllows src = true) :
    exec (.tbMeasNewSrc t src n) s = .next (submitMeas n false true (s.beginAt t)) := congrArg _ (thWrite_beginAt t src _ h)

theorem measOver_of_timeout (ltc : n = 2 ∧ s.onLtc = true → s.ltcOver = true)
    (late : n = 2 ∧ s.onLtc = true ∨ (s.tb n).measAt + s.rf (Reg.TB_TIMEOUT n.val) Fld.TB_TIMEOUT_MEAS_TO * 1000000 ≤ s.now) :
    s.measOver n = true := by
  unfold State.measOver
  split
  next follows => exact ltc follows
  next free => exact decide_eq_true (late.resolve_left free)

theorem exec_tbHoldover (late : (s.beginAt t).measOver n = true) : exec (.tbHoldover t n) s = .next ((s.beginAt t).lossOfSource n) :=
  if_pos late

/-- TB2 with the run of decoded LTC frames forgotten, as a loss of LTC leaves it (R83). -/
def State.ltcForgotten (s : State) : State := { s with show_ := { s.show_ with jamRun := 0, lastFrame := none } }

theorem exec_ltcLoss (slave : s.tbMode 2 = 1) (follows : s.rf Reg.TB2_LTC_CTL Fld.TB2_LTC_CTL_SRC ≠ 2) (late : (s.beginAt t).ltcOver = true) :
    exec (.ltcLoss t) s = .next ((s.beginAt t).ltcForgotten.lossOfSource 2) := by
  have onLtc : (s.beginAt t).onLtc = true := Bool.and_eq_true_iff.2 ⟨decide_eq_true slave, decide_eq_true follows⟩
  exact if_pos (Bool.and_eq_true_iff.2 ⟨onLtc, late⟩)

/-- Settles O13: each report of a loss comes down to the loss of source of the base at the command's instant. -/
theorem lossOfSourceEntersHoldover : Obligations.LossOfSourceEntersHoldover := by
  unfold Obligations.LossOfSourceEntersHoldover
  intro s t n tidy on source held
  have wf : s.regsWf = true := (Bool.and_eq_true_iff.1 tidy).1
  have lost : held ((s.beginAt t).lossOfSource n) := lossOfSource_heldOver (s := s.beginAt t) wf on source
  refine ⟨fun src allows low slave => ?_, fun ltc late => ?_, fun two slave follows late => ?_⟩
  · have reported : ∀ newSrc invalid, (newSrc || invalid) = true → held (submitMeas n newSrc invalid (s.beginAt t)) := by
      intro newSrc invalid bad
      rw [submitMeas_loss (s := s.beginAt t) low slave bad]
      exact HeldOver.dropQuals (s := s.beginAt t) lost
    exact ⟨⟨_, exec_tbMeasInvalid t src n allows, reported false true rfl⟩, ⟨_, exec_tbMeasNewSrc t src n allows, reported false true rfl⟩,
      fun newSrc => ⟨_, exec_tbMeasSubmit t src n newSrc true allows, reported newSrc true (Bool.or_true _)⟩⟩
  · exact ⟨_, exec_tbHoldover (measOver_of_timeout (s := s.beginAt t) ltc late), lost⟩
  · subst two
    exact ⟨_, exec_ltcLoss slave follows late, lossOfSource_heldOver (s := (s.beginAt t).ltcForgotten) wf on source⟩

end Sys2Proof.Machine
end

section
/-!
O14: the servo takes a measurement (R86), a slew ends (R88), and a long HOLDOVER is reported (R87).
-/
namespace Sys2Proof.Machine

set_option Elab.async false

variable {s u : State} {n : Fin 4}

/-! ### A measurement on a LOCKED base -/

theorem clampRate_natAbs_le (r : Int) : (clampRate (ppm 500) r).natAbs ≤ 500 * 2 ^ 40 / 1000000 := by
  unfold clampRate ppm
  omega

/-- The servo runs a base within 500 ppm of the raw clock. -/
theorem servoNext_natAbs_le (s : State) (n : Fin 4) (ofs : Int) (x0 : Nat) (given : Option Int) :
    (s.servoNext n ofs x0 given).natAbs ≤ 500 * 2 ^ 40 / 1000000 := clampRate_natAbs_le _

theorem endSlew_of_not_slewing (h : s.tbState n ≠ tbSlewing) : s.endSlew n = s := by
  unfold State.endSlew
  split
  next => exact if_neg (fun ended => h ended.1)
  next => rfl

/-- The measurement does not differ from the one predicted by more than REJECT, where there is a prediction (R86). -/
def State.withinReject (s : State) (n : Fin 4) (ofs : Int) (x0 : Nat) : Prop :=
  ∀ o t0, (s.tb n).last = some (o, t0) → ((ofs - predictOfs (s.tb n) o t0 x0 (s.tb n).servo).natAbs : Int) ≤ s.rejBound n

theorem measure_locked {ofs : Int} {ts : Nat} (given : Option Int) (phase : Bool) (locked : s.tbState n = tbLocked)
    (within : s.withinReject n ofs (s.rawOfTs n ts)) :
    s.measure n ofs ts given phase = s.measLocked n ofs (s.rawOfTs n ts) given := by
  unfold State.measure
  rw [endSlew_of_not_slewing (by rw [locked]; decide)]
  extract_lets s1 st x0 b pred
  have near : ((ofs - pred).natAbs : Int) ≤ s.rejBound n := by
    unfold pred
    split
    next o t0 last => exact within o t0 last
    next =>
      rw [Int.sub_self, State.rejBound]
      omega
  have valid : ¬ (phase && decide (s.rejBound n < (ofs - pred).natAbs)) = true := by
    rw [Bool.and_eq_true, decide_eq_true_iff]
    omega
  have isLocked : st = tbLocked := locked
  rw [isLocked, if_neg (by decide), if_pos (by decide), if_neg valid, if_neg (by decide), if_pos rfl]

/-- A base with a valid measurement kept, at the raw instant `x` (R86, R87). -/
def TimeBase.kept (b : TimeBase) (ofs : Int) (x0 x : Nat) (rate : Int) : TimeBase :=
  { b with last := some (ofs, x0), hist := ((ofs, x0) :: b.hist).take 64, rates := (rate :: b.rates).take 64, rejRun := 0, measAt := x }

theorem keepMeas_tb (s : State) (n : Fin 4) (ofs : Int) (x0 : Nat) (rate : Int) :
    (s.keepMeas n ofs x0 rate).tb n = (s.tb n).kept ofs x0 s.now rate := by
  rw [State.keepMeas, setReg_tb, setReg_tb, tb_setTb_self]
  rfl

theorem keepMeas_now (s : State) (n : Fin 4) (ofs : Int) (x0 : Nat) (rate : Int) : (s.keepMeas n ofs x0 rate).now = s.now := by
  rw [State.keepMeas, State.setReg_now, State.setReg_now, setTb_now]

/-- A base after a measurement in LOCKED: it runs on from its count, at the servo's rate (R84). -/
def TimeBase.measured (b : TimeBase) (ofs : Int) (x0 x : Nat) (rate : Int) : TimeBase :=
  { (b.kept ofs x0 x rate).runAt x rate with servo := rate }

theorem measLocked_tb (s : State) (n : Fin 4) (ofs : Int) (x0 : Nat) (given : Option Int) :
    (s.measLocked n ofs x0 given).tb n = (s.tb n).measured ofs x0 s.now (s.servoNext n ofs x0 given) := by
  rw [State.measLocked, tb_setTb_self, runTb_tb, keepMeas_tb, keepMeas_now]
  rfl

theorem measLocked_rate_natAbs_le (s : State) (n : Fin 4) (ofs : Int) (x0 : Nat) (given : Option Int) :
    ((s.measLocked n ofs x0 given).tb n).rate.natAbs ≤ 500 * 2 ^ 40 / 1000000 := by
  rw [measLocked_tb]
  exact servoNext_natAbs_le _ _ _ _ _

/-- The registers that a measurement in LOCKED writes. -/
def measRegs (n : Fin 4) : List Nat := [Reg.TB_OFS_LAST n.val, Reg.TB_RATE_AVG n.val, Reg.TB_RATE n.val]

theorem tbStat_notMem_measRegs (n : Fin 4) : Reg.TB_STAT n.val ∉ measRegs n := by
  simp only [measRegs, Reg.TB_STAT, Reg.TB_OFS_LAST, Reg.TB_RATE_AVG, Reg.TB_RATE, List.mem_cons, List.not_mem_nil, or_false]
  omega

theorem measLocked_onlyBase (wf : s.regsWf = true) (ofs : Int) (x0 : Nat) (given : Option Int) :
    OnlyBase (measRegs n) n s (s.measLocked n ofs x0 given) :=
  (((OnlyBase.refl wf).keepMeas (by simp [measRegs]) (by simp [measRegs])).runTb (by simp [measRegs])).setTb

/-- R78: a submission without INVALID and NEW_SRC hands its measurement to the servo. -/
theorem submitMeas_measures (low : n.val ≤ 1) (slave : s.tbMode n = 1) :
    submitMeas n false false s = s.measure n (toSigned 64 (s.rd64 (Reg.TB_MEAS_OFS n.val))) (s.reg (Reg.TB_MEAS_AT n.val)).toNat none true :=
  if_pos ⟨low, slave⟩

/-! ### The end of a slew -/

theorem exec_tbSlewEnd {e : Nat} (slewing : s.tbState n = tbSlewing) (ends : (s.tb n).slewEnd = some e) :
    exec (.tbSlewEnd n) s = .next ((s.beginAt e).slewOver n (max s.now e)) := by
  change execTbSlewEnd n s = _
  rw [execTbSlewEnd, ends]
  exact if_pos slewing

theorem slewOver_tb (s : State) (n : Fin 4) (x : Nat) :
    (s.slewOver n x).tb n = { (s.tb n).runAt x (s.tb n).servo with slewEnd := none } := by
  rw [State.slewOver, setReg_tb, tb_setTb_self]

theorem slewOver_onlyBase (wf : s.regsWf = true) (x : Nat) : OnlyBase [Reg.TB_RATE n.val] n s (s.slewOver n x) :=
  (OnlyBase.refl wf).setTb.setReg (List.mem_singleton_self _)

theorem slewOver_reg_rate (wf : s.regsWf = true) (x : Nat) :
    (s.slewOver n x).reg (Reg.TB_RATE n.val) = BitVec.ofNat 32 (ofSigned 32 (s.tb n).servo) :=
  State.reg_setReg_self (by rw [setTb_regsWf, wf]) _ _

/-! ### A long HOLDOVER -/

/-- The instant at which the age of the present HOLDOVER passes HOLD_WARN. -/
def State.holdLongAt (s : State) (n : Fin 4) : Nat :=
  (s.tb n).holdAt + s.rf (Reg.TB_SLEW n.val) Fld.TB_SLEW_HOLD_WARN * 1000000000

/-- A HOLDOVER marked as long, before its event. -/
def State.holdLong (s : State) (n : Fin 4) : State :=
  (s.setTb n { s.tb n with warned := true }).sb (Reg.TB_STAT n.val) Fld.TB_STAT_HOLD_LONG true

theorem exec_tbHoldLong (holding : s.tbState n = tbHoldover) (fresh : (s.tb n).warned = false) :
    exec (.tbHoldLong n) s = .next (((s.beginAt (s.holdLongAt n)).holdLong n).raiseTh 19 n.val) :=
  if_pos ⟨holding, by rw [fresh]; rfl⟩

theorem holdLong_onlyBase (wf : s.regsWf = true) : OnlyBase [Reg.TB_STAT n.val] n s (s.holdLong n) :=
  (OnlyBase.refl wf).setTb.sb (by decide) (List.mem_singleton_self _)

theorem holdLong_rb (wf : s.regsWf = true) : (s.holdLong n).rb (Reg.TB_STAT n.val) Fld.TB_STAT_HOLD_LONG = true := by
  rw [State.rb, State.holdLong, State.sb, State.rf_sf_self (by rw [setTb_regsWf, wf]) _ _ _ (by decide) (by decide)]
  rfl

/-- The flag lies beside the state. -/
theorem holdLong_tbState (wf : s.regsWf = true) : (s.holdLong n).tbState n = s.tbState n := by
  rw [State.tbState, State.holdLong, State.sb,
    State.rf_sf_other (by rw [setTb_regsWf, wf]) _ _ _ _ (by decide) (by decide) (by decide) (by decide) (by decide)]
  exact tbState_congr (setTb_reg _ _ _ _)

theorem holdLong_tb (s : State) (n : Fin 4) : (s.holdLong n).tb n = { s.tb n with warned := true } := by
  rw [State.holdLong, State.sb, sf_tb, tb_setTb_self]

/-- Settles O14: the base that the servo leaves, the frame of the end of a slew, and the flag and the event of a long HOLDOVER. -/
theorem servoTakesMeasurements : Obligations.ServoTakesMeasurements := by
  unfold Obligations.ServoTakesMeasurements
  intro s t n tidy
  have wf : s.regsWf = true := (Bool.and_eq_true_iff.1 tidy).1
  refine ⟨?_, fun e slewing ends => ?_, fun holding fresh on => ?_⟩
  · intro src allows low slave locked x0 within
    have measured := (submitMeas_measures (s := s.beginAt t) low slave).trans (measure_locked (s := s.beginAt t) none true locked within)
    have kept := measLocked_onlyBase (s := s.beginAt t) (n := n) wf (toSigned 64 (s.rd64 (Reg.TB_MEAS_OFS n.val))) x0 none
    have base := measLocked_tb (s.beginAt t) n (toSigned 64 (s.rd64 (Reg.TB_MEAS_OFS n.val))) x0 none
    refine ⟨_, (exec_tbMeasSubmit t src n false false allows).trans (congrArg _ measured),
      (tbState_congr (kept.reg (tbStat_notMem_measRegs n))).trans locked, ?_, ?_, ?_, ?_, ?_, ?_, kept.tg, kept.mem⟩
    · exact congrArg TimeBase.measAt base
    · exact congrArg TimeBase.last base
    · exact measLocked_rate_natAbs_le _ _ _ _ _
    · exact congrArg TimeBase.at_ base
    · exact congrArg TimeBase.count base
    · exact congrArg TimeBase.rejRun base
  · have base := slewOver_tb (s.beginAt e) n (max s.now e)
    exact ⟨_, exec_tbSlewEnd slewing ends, congrArg TimeBase.rate base, congrArg TimeBase.count base, congrArg TimeBase.at_ base,
      slewOver_reg_rate (s := s.beginAt e) wf _, (slewOver_onlyBase (s := s.beginAt e) wf _).only⟩
  · have marked := holdLong_onlyBase (s := s.beginAt (s.holdLongAt n)) (n := n) wf
    have stat := raiseTh_reg_tbStat (n := n) marked.wf (k := 19) n.val
    refine ⟨_, exec_tbHoldLong holding fresh, ?_, evtPending_raiseTh marked.wf (marked.mainOff.trans on) _, ?_, ?_⟩
    · exact (rb_congr _ _ (by decide) stat).trans (holdLong_rb (s := s.beginAt (s.holdLongAt n)) wf)
    · rw [raiseTh_tb, holdLong_tb]
    · exact (tbState_congr stat).trans ((holdLong_tbState (s := s.beginAt (s.holdLongAt n)) wf).trans holding)

end Sys2Proof.Machine
end

section
/-!
What the last steps of a load from reset leave alone (R121): the present instant, the roles, the tick generator beside its arming, and the
registers that show the load and the power state.
-/
namespace Sys2Proof.Machine

set_option Elab.async false

variable {s0 s u : State}

/-- The present instant, the roles and the tick generator. -/
structure LoadView where
  now : Nat
  role : Roles
  tg : TickGen

def State.loadView (s : State) : LoadView := ⟨s.now, s.role, s.tg⟩

/-- PWR_STAT, REJ_LOAD_STAT, REJ_LOAD_ID and REJ_IMAGE of each twin. -/
def loadReg (a : Nat) : Bool := decide (a ∈ [Reg.PWR_STAT, Reg.REJ_LOAD_STAT, Reg.REJ_LOAD_ID, Reg.REJ_IMAGE .a, Reg.REJ_IMAGE .b])

/-- `u` has the instant, the roles, the tick generator and the registers above of `s`. -/
structure Loading (s u : State) : Prop where
  view : u.loadView = s.loadView
  regs : RegsKept loadReg s u

/-- The address of none of these registers. -/
abbrev OffLoad (a : Nat) : Prop := loadReg a = false

/-- A register of a time base. -/
theorem OffLoad.tb {n : Fin 4} {c : Nat} (low : c < 0x3100 := by decide) (high : 0x3000 ≤ c := by decide) : OffLoad (c + n.val * 0x100) := by
  have := n.isLt
  refine decide_eq_false ?_
  simp only [Reg.PWR_STAT, Reg.REJ_LOAD_STAT, Reg.REJ_LOAD_ID, Reg.REJ_IMAGE, Twin.base, List.mem_cons, List.not_mem_nil, or_false]
  omega

/-- LAYER_STAT of any layer: its place in a block of 64 bytes is not that of REJ_IMAGE. -/
theorem OffLoad.layerStat {w : Twin} {l : Nat} : OffLoad (Reg.LAYER_STAT w l) := by
  refine decide_eq_false ?_
  cases w <;>
    simp only [Reg.LAYER_STAT, Reg.PWR_STAT, Reg.REJ_LOAD_STAT, Reg.REJ_LOAD_ID, Reg.REJ_IMAGE, Twin.base, List.mem_cons, List.not_mem_nil,
      or_false] <;>
    omega

theorem evtReg_of_loadReg (a : Nat) (h : loadReg a = true) : evtReg a = false := by
  have all : ∀ b ∈ [Reg.PWR_STAT, Reg.REJ_LOAD_STAT, Reg.REJ_LOAD_ID, Reg.REJ_IMAGE .a, Reg.REJ_IMAGE .b], evtReg b = false := by decide
  exact all a (of_decide_eq_true h)

theorem loadReg_image (w : Twin) : loadReg (Reg.REJ_IMAGE w) = true := by cases w <;> decide

/-! ### What carries `Loading` through a definition -/

theorem Loading.refl (s : State) : Loading s s := ⟨rfl, .refl s⟩

theorem Loading.trans (h : Loading s0 s) (g : Loading s u) : Loading s0 u := ⟨g.view.trans h.view, h.regs.trans g.regs⟩

theorem Loading.ite {a b : State} {c : Prop} [Decidable c] (ha : Loading s a) (hb : Loading s b) : Loading s (if c then a else b) := by
  split
  · exact ha
  · exact hb

theorem Loading.foldl {α : Type} {f : State → α → State} (h : Loading s0 s) (step : ∀ x e, Loading s0 x → Loading s0 (f x e)) (l : List α) :
    Loading s0 (l.foldl f s) := by
  induction l generalizing s with
  | nil => exact h
  | cons e l ih => exact ih (step s e h)

theorem Loading.each {p : Twin → Bool} {f : Twin → State → State} (h : Loading s0 s) (step : ∀ w x, Loading s0 x → Loading s0 (f w x)) :
    Loading s0 (s.each p f) := by
  have first : Loading s0 (if p .a then f .a s else s) := .ite (step _ _ h) h
  exact .ite (step _ _ first) first

/-- A change beside what `Loading` names. -/
theorem Loading.frame (h : Loading s0 s) (view : u.loadView = s.loadView := by rfl) (regs : u.regs = s.regs := by rfl) : Loading s0 u :=
  h.trans ⟨view, .of_regs regs⟩

theorem Loading.evt (h : Loading s0 s) (g : Evt s u) : Loading s0 u := by
  refine h.trans ⟨?_, .evt g evtReg_of_loadReg⟩
  rw [g.rest]
  rfl

theorem Loading.now (h : Loading s u) : u.now = s.now := congrArg LoadView.now h.view
theorem Loading.role (h : Loading s u) : u.role = s.role := congrArg LoadView.role h.view
theorem Loading.tg (h : Loading s u) : u.tg = s.tg := congrArg LoadView.tg h.view

/-! ### The shared operations -/

section
variable (h : Loading s0 s) {w : Twin}
include h

theorem Loading.setReg {a : Nat} {v : Word} (ha : OffLoad a := by decide) : Loading s0 (s.setReg a v) := h.trans ⟨rfl, .setReg s v ha⟩
theorem Loading.sf {a : Nat} {f : Fld} {v : Nat} (ha : OffLoad a := by decide) (hf : f.hi < 32 := by decide) : Loading s0 (s.sf a f v) := by
  rw [State.sf_low _ _ _ _ hf]
  exact h.setReg ha
theorem Loading.sb {a : Nat} {f : Fld} {v : Bool} (ha : OffLoad a := by decide) (hf : f.hi < 32 := by decide) : Loading s0 (s.sb a f v) :=
  h.sf ha hf
theorem Loading.bump {a : Nat} {f : Fld} {n : Nat} (ha : OffLoad a := by decide) (hf : f.hi < 32 := by decide) : Loading s0 (s.bump a f n) :=
  h.sf ha hf
theorem Loading.wr64 {a v : Nat} (ha : OffLoad a := by decide) (ha' : OffLoad (a + 4) := by decide) : Loading s0 (s.wr64 a v) :=
  (h.setReg ha).setReg ha'
theorem Loading.modTw {f : TwinState → TwinState} : Loading s0 (s.modTw w f) := by cases w <;> exact h.frame
theorem Loading.modNet {f : Net → Net} : Loading s0 (s.modNet w f) := h.modTw
theorem Loading.raiseTwin {n data : Nat} (hn : n < 256 := by decide) : Loading s0 (s.raiseTwin w n data) := h.evt ((Evt.refl s).raiseTwin _ _ _ hn)
theorem Loading.raiseOnce {ctl n data : Nat} {en : Fld} (hn : n < 256 := by decide) : Loading s0 (s.raiseOnce w ctl en n data) :=
  h.evt ((Evt.refl s).raiseOnce _ _ _ _ _ hn)
theorem Loading.raiseIf {ctl n data : Nat} {en : Fld} (hn : n < 256 := by decide) : Loading s0 (s.raiseIf w ctl en n data) :=
  h.evt ((Evt.refl s).raiseIf _ _ _ _ _ hn)
theorem Loading.raiseTh {n data : Nat} (hn : n < 256 := by decide) : Loading s0 (s.raiseTh n data) := h.evt ((Evt.refl s).raiseTh _ _ hn)

/-! ### The shadows and the bases of a TIME section (R56, R77, R113) -/

theorem Loading.setTb {n : Fin 4} {t : TimeBase} : Loading s0 (s.setTb n t) := by
  unfold State.setTb
  split
  all_goals exact h.frame

theorem Loading.setTbState {n : Fin 4} {st : Nat} : Loading s0 (s.setTbState n st) := by
  unfold State.setTbState
  exact (Loading.ite (h.setReg .tb) h).sf .tb

theorem Loading.runTb {n : Fin 4} {rate : Int} : Loading s0 (s.runTb n rate) := h.setTb.setReg .tb

theorem Loading.enterHoldover {n : Fin 4} {rate : Int} : Loading s0 (s.enterHoldover n rate) :=
  (h.runTb.setTbState.setTb.setReg .tb).raiseTh

theorem Loading.writeMode {n : Fin 4} {mode : Nat} : Loading s0 (s.writeMode n mode) := by
  unfold State.writeMode
  extract_lets old s1 b free s2 b2
  have h1 : Loading s0 s1 := h.sf .tb
  have off : Loading s0 ((s1.runTb n 0).setTbState n tbOff) := h1.runTb.setTbState
  have slave : Loading s0 s2 := h1.runTb.setTbState
  have released : ∀ rate, Loading s0 (free (s1.runTb n rate)) := fun _ => h1.runTb.setTbState
  exact .ite h (.ite off (.ite (.ite slave.setTb h1.enterHoldover) (.ite (released _) (.ite (released _) h1))))

theorem Loading.baseImage {v : Nat → Nat → Nat} {n : Fin 4} : Loading s0 (baseImage v n s) := by
  unfold Machine.baseImage
  extract_lets b s1 s2 s3 s4
  have h2 : Loading s0 s2 := (h.writeMode.sb .tb).sf .tb
  have h4 : Loading s0 s4 := ((h2.setReg .tb).setReg .tb).setReg .tb
  exact .ite h4.setReg h4

theorem Loading.timeImage {v : Nat → Nat → Nat} : Loading s0 (timeImage v s) := h.setReg.sf.setReg.sf.foldl (fun _ _ hx => hx.baseImage) _

theorem Loading.periImage : Loading s0 (periImage w s) := by
  unfold Machine.periImage
  exact h.sf.sf.sf

theorem Loading.powerImage : Loading s0 (powerImage w s) := h.sf.sf

/-! ### Commits that were made before the tick was placed (R189, R233) -/

theorem Loading.showWaiting : Loading s0 (showWaiting s) := h.sb

theorem Loading.modLay {f : Layers → Layers} : Loading s0 (s.modLay w f) := h.modTw

theorem Loading.setLayer {l : Nat} {x : Layer} : Loading s0 (s.setLayer w l x) := h.modLay

theorem Loading.watchSpare : Loading s0 (watchSpare w s) := .ite (Loading.raiseIf h.modTw) h.modTw

theorem Loading.lateEffects {stamp : Nat} {ls : List Nat} : Loading s0 (lateEffects w stamp ls s) := by
  have twin : ∀ a ∈ [Reg.LAYER_LATE_TS w, Reg.LAYER_LATE_TS w + 4, Reg.LAYER_LATE_TICK w, Reg.LAYER_CNT w], OffLoad a := by cases w <;> decide
  simp only [List.forall_mem_cons] at twin
  obtain ⟨low, high, tick, cnt, -⟩ := twin
  unfold Machine.lateEffects
  extract_lets s1 s2 s3
  have h1 : Loading s0 s1 := h.foldl (fun _ _ hx => hx.sb .layerStat) _
  have h2 : Loading s0 s2 := (h1.wr64 low high).setReg tick
  have h3 : Loading s0 s3 := (h2.bump cnt).modTw
  exact h3.raiseOnce

theorem Loading.judgeEarly : Loading s0 (judgeEarly w s) := by
  unfold Machine.judgeEarly
  extract_lets es s1
  have h1 : Loading s0 s1 := h.modTw.foldl (fun _ _ hx => hx.setLayer) _
  refine h1.foldl (fun x e hx => ?_) _
  extract_lets late y
  have hy : Loading s0 y := hx.foldl (fun _ _ hz => hz.setLayer) _
  exact .ite hy.lateEffects hy

theorem Loading.showPending : Loading s0 (showPending w s) := by
  have stat : OffLoad (Reg.COLR_STAT w) := by cases w <;> decide
  exact (h.sb stat).sb stat

theorem Loading.mastersLate {stamp : Nat} : Loading s0 (mastersLate w stamp s) := by
  have twin : ∀ a ∈ [Reg.COLR_STAT w, Reg.COLR_LATE_TS w, Reg.COLR_LATE_TS w + 4, Reg.COLR_LATE_TICK w], OffLoad a := by cases w <;> decide
  simp only [List.forall_mem_cons] at twin
  obtain ⟨stat, low, high, tick, -⟩ := twin
  exact (((h.sb stat).wr64 low high).setReg tick).modTw.raiseOnce

theorem Loading.judgeEarlyMasters : Loading s0 (judgeEarlyMasters w s) := by
  unfold Machine.judgeEarlyMasters
  split
  · exact h
  · refine Loading.watchSpare (Loading.showPending (Loading.foldl h.modTw (fun _ _ hx => ?_) _))
    exact .ite (Loading.mastersLate hx.modTw) hx.modTw

theorem Loading.judgePlaced : Loading s0 (judgePlaced s) := h.each (fun _ _ hx => hx.judgeEarly.judgeEarlyMasters)

/-! ### Membership of every port (R160) -/

theorem Loading.scheduleState {n : Nat} {records : Option (List JoinRec)} : Loading s0 (scheduleState w n records s) := h.modNet

end

/-- A field of a register that is as it was. -/
theorem rf_congr (a : Nat) (f : Fld) (hf : f.hi < 32) (e : u.reg a = s.reg a) : u.rf a f = s.rf a f := by
  rw [rf_eq_getFld _ _ _ hf, rf_eq_getFld _ _ _ hf, e]

/-! ### The tick is armed (R56, R94) -/

/-- A tick generator armed at the raw instant `arm`, on TB3, whose next tick falls at the count `next`. -/
def State.armedAt (s : State) (arm next : Nat) : State := { s with tg := { s.tg with base := 3, arm := some arm, next := next } }

/-- `u` is armed at 1 ms after the instant of `s`, on TB3; roles and the registers of the load are those of `s`. -/
structure TickArmed (s u : State) : Prop where
  arm : u.tg.arm = some (s.now + 1000000)
  base : u.tg.base = 3
  role : u.role = s.role
  regs : RegsKept loadReg s u

theorem armTick_armed (s : State) : TickArmed s (armTick s) := by
  unfold armTick
  extract_lets s1 arm c x n d phase next
  have now : s1.now = s.now := State.sf_now _ _ _ _
  have role : s1.role = s.role := State.sf_role _ _ _ _
  have captured : RegsKept loadReg s s1 := by
    have set : RegsKept loadReg s { s with tg := { s.tg with pend := some (s.timingShadows s.now) } } := .of_regs rfl
    exact set.trans (Loading.refl _).sb.regs
  have armed : RegsKept loadReg s (s1.armedAt arm next) := captured.trans (.of_regs rfl)
  have placed : Loading (s1.armedAt arm next) (judgePlaced (showWaiting (s1.armedAt arm next))) := (Loading.refl _).showWaiting.judgePlaced
  exact ⟨(congrArg TickGen.arm placed.tg).trans (congrArg (fun x => some (x + 1000000)) now), congrArg TickGen.base placed.tg,
    placed.role.trans role, armed.trans placed.regs⟩

/-! ### Steps 5 and 6 (R121) -/

/-- The image's values in the Thallus and in the time bases. -/
def State.imaged (s : State) (w : Twin) : State :=
  periImage w (powerImage w ((timeImage (fun o n => s.imgTime w o n) s).wr64 Reg.TGEN_PHASE (s.imgTime w 12 8)))

/-- RUN (1) or DIM (2), as the image's POWER section says. -/
def State.loadedState (s : State) (w : Twin) : Nat := if (s.imaged w).imgPower w 0 1 = 1 then 2 else 1

/-- The part in that state, with its tick armed. -/
def State.entered (s : State) (w : Twin) : State := armTick (enterState (s.loadedState w) (s.imaged w))

/-- The slot, the time that the load took and the image are shown. -/
def State.showLoad (s : State) (w : Twin) (slot : Nat) : State :=
  let x := (s.sf Reg.REJ_LOAD_STAT Fld.REJ_LOAD_STAT_SRC slot).sf Reg.REJ_LOAD_STAT Fld.REJ_LOAD_STAT_LOAD_MS
    (min 4095 ((s.now - s.dev.releasedAt) / 1000000))
  x.setReg Reg.REJ_LOAD_ID (x.reg (Reg.REJ_IMAGE w))

theorem imaged_loading (s : State) (w : Twin) : Loading s (s.imaged w) := (Loading.refl s).timeImage.wr64.powerImage.periImage

theorem loadedState_run_or_dim (s : State) (w : Twin) : s.loadedState w = 1 ∨ s.loadedState w = 2 := by
  unfold State.loadedState
  split
  · exact .inr rfl
  · exact .inl rfl

/-- The slot fits in the field that shows it. -/
theorem loadedSlot_lt (s : State) : s.loadedSlot < 4 := by
  have primary : s.rf Reg.REJ_BOOT Fld.REJ_BOOT_PRIMARY < 2 := State.rf_lt _ _ _
  unfold State.loadedSlot
  extract_lets p
  split
  · exact Nat.lt_trans primary (by decide)
  · omega

/-- The part enters a state (R452): PWR_STAT shows it, and nothing else that a load shows changes. -/
theorem enterState_shows (wf : s.regsWf = true) {st : Nat} (fits : st < 8) :
    (enterState st s).regsWf = true ∧ (enterState st s).rf Reg.PWR_STAT Fld.PWR_STAT_STATE = st ∧
    ∀ a, a ≠ Reg.PWR_STAT → (enterState st s).reg a = s.reg a :=
  ⟨State.regsWf_sf wf _ _ _, (State.rf_sf_self wf _ _ _ (by decide) (by decide)).trans (Nat.mod_eq_of_lt fits),
    fun _ ha => State.reg_sf_ne wf _ _ (by decide) ha⟩

theorem enterState_now (st : Nat) (s : State) : (enterState st s).now = s.now := State.sf_now _ _ _ _
theorem enterState_role (st : Nat) (s : State) : (enterState st s).role = s.role := State.sf_role _ _ _ _

/-- What the part shows once it has entered its state with the tick armed. -/
structure Entered (w : Twin) (st : Nat) (s u : State) : Prop where
  wf : u.regsWf = true
  arm : u.tg.arm = some (s.now + 1000000)
  base : u.tg.base = 3
  role : u.role = s.role
  image : u.reg (Reg.REJ_IMAGE w) = s.reg (Reg.REJ_IMAGE w)
  power : u.rf Reg.PWR_STAT Fld.PWR_STAT_STATE = st

theorem Loading.entered (h : Loading s u) (wf : s.regsWf = true) (w : Twin) {st : Nat} (fits : st < 8) : Entered w st s (armTick (enterState st u)) := by
  obtain ⟨wfu, same⟩ := h.regs wf
  obtain ⟨wfe, power, elsewhere⟩ := enterState_shows wfu fits
  have armed := armTick_armed (enterState st u)
  obtain ⟨wf', kept⟩ := armed.regs wfe
  have away : Reg.REJ_IMAGE w ≠ Reg.PWR_STAT := by cases w <;> decide
  exact ⟨wf', by rw [armed.arm, enterState_now, h.now], armed.base, by rw [armed.role, enterState_role, h.role],
    by rw [kept _ (loadReg_image w), elsewhere _ away, same _ (loadReg_image w)], (rf_congr _ _ (by decide) (kept _ (by decide))).trans power⟩

theorem entered_entered (wf : s.regsWf = true) (w : Twin) : Entered w (s.loadedState w) s (s.entered w) :=
  (imaged_loading s w).entered wf w (by have := loadedState_run_or_dim s w; omega)

/-- What is shown of a load, in a state in canonical form. -/
theorem showLoad_shows (wf : s.regsWf = true) (w : Twin) {slot : Nat} (fits : slot < 4) :
    (s.showLoad w slot).regsWf = true ∧ (s.showLoad w slot).rf Reg.REJ_LOAD_STAT Fld.REJ_LOAD_STAT_SRC = slot ∧
    (s.showLoad w slot).reg Reg.REJ_LOAD_ID = s.reg (Reg.REJ_IMAGE w) ∧
    (s.showLoad w slot).rf Reg.PWR_STAT Fld.PWR_STAT_STATE = s.rf Reg.PWR_STAT Fld.PWR_STAT_STATE := by
  have elsewhere : Reg.REJ_IMAGE w ≠ Reg.REJ_LOAD_STAT := by cases w <;> decide
  unfold State.showLoad
  generalize hsrc : s.sf Reg.REJ_LOAD_STAT Fld.REJ_LOAD_STAT_SRC slot = y
  have wfy : y.regsWf = true := by rw [← hsrc]; exact State.regsWf_sf wf _ _ _
  extract_lets x
  have wfx : x.regsWf = true := State.regsWf_sf wfy _ _ _
  refine ⟨State.regsWf_setReg wfx _ _, ?_, ?_, ?_⟩
  · rw [rf_congr _ _ (by decide) (State.reg_setReg_ne wfx (by decide) _),
      State.rf_sf_other wfy _ _ _ _ (by decide) (by decide) (by decide) (by decide) (by decide), ← hsrc,
      State.rf_sf_self wf _ _ _ (by decide) (by decide)]
    exact Nat.mod_eq_of_lt fits
  · rw [State.reg_setReg_self wfx, State.reg_sf_ne wfy _ _ (by decide) elsewhere, ← hsrc, State.reg_sf_ne wf _ _ (by decide) elsewhere]
  · rw [rf_congr _ _ (by decide) (State.reg_setReg_ne wfx (by decide) _), State.rf_sf_ne wfy _ _ _ (by decide) (by decide) (by decide), ← hsrc,
      State.rf_sf_ne wf _ _ _ (by decide) (by decide) (by decide)]

theorem showLoad_role (s : State) (w : Twin) (slot : Nat) : (s.showLoad w slot).role = s.role := by
  unfold State.showLoad
  rw [State.setReg_role, State.sf_role, State.sf_role]

theorem showLoad_tg (s : State) (w : Twin) (slot : Nat) : (s.showLoad w slot).tg = s.tg := by
  unfold State.showLoad
  rw [State.setReg_tg, State.sf_tg, State.sf_tg]

/-- From reset, what follows the show of the load are reports and events. -/
theorem finishLoad_loading (fresh : s.pwr.saved = none) (w : Twin) : Loading ((s.entered w).showLoad w s.loadedSlot) (finishLoad w s) := by
  unfold finishLoad
  rw [fresh]
  have reported := (Loading.refl ((s.entered w).showLoad w s.loadedSlot)).each
    (p := fun x => decide (((s.entered w).showLoad w s.loadedSlot).roleOf x ≠ .off))
    (f := fun x y => (List.range 4).foldl (fun z n => scheduleState x n none z) y) (fun _ _ hx => hx.foldl (fun _ _ hz => hz.scheduleState) _)
  exact Loading.each (.ite reported reported.raiseTh) (fun _ _ hx => hx.raiseTwin)

theorem exec_rejLoaded (t : Nat) {w : Twin} (act : s.active = some w) (out : s.dev.inReset = false)
    (under : s.rf Reg.REJ_LOAD_STAT Fld.REJ_LOAD_STAT_SRC = 3) : exec (.rejLoaded t) s = .next (finishLoad w (s.beginAt t)) := by
  have act' : (s.beginAt t).active = some w := act
  change execRejLoaded t s = _
  unfold execRejLoaded
  extract_lets s1
  rw [act']
  exact if_pos ⟨under, by rw [State.beginAt_dev, out]; rfl⟩

/-- Settles O20: the tick is armed and the state entered, the load is shown, and what follows leaves both. -/
theorem loadedImageArmsTheTick : Obligations.LoadedImageArmsTheTick := by
  unfold Obligations.LoadedImageArmsTheTick
  intro s t w tidy act out fresh under
  have wf : (s.beginAt t).regsWf = true := (Bool.and_eq_true_iff.1 tidy).1
  have entered := entered_entered wf w
  obtain ⟨wfl, src, image, power⟩ := showLoad_shows entered.wf w (loadedSlot_lt (s.beginAt t))
  have last := finishLoad_loading (s := s.beginAt t) fresh w
  obtain ⟨-, kept⟩ := last.regs wfl
  have tg := last.tg.trans (showLoad_tg _ _ _)
  refine ⟨_, exec_rejLoaded t act out under, (rf_congr _ _ (by decide) (kept _ (by decide))).trans src,
    ((kept _ (by decide)).trans image).trans entered.image, (congrArg TickGen.arm tg).trans entered.arm, (congrArg TickGen.base tg).trans entered.base,
    (last.role.trans (showLoad_role _ _ _)).trans entered.role, ?_⟩
  rw [rf_congr _ _ (by decide) (kept _ (by decide)), power, entered.power]
  exact loadedState_run_or_dim _ w

end Sys2Proof.Machine
end

section
/-!
SUPPORT. The pending events of a twin (R515): an event that it raises is pending, and no raise takes a pending one away.
-/
namespace Sys2Proof.Machine

set_option Elab.async false

variable {s0 s u : State} {v : Twin}

/-- The address is that of a word of pending bits of a twin. -/
def twinPendReg (v : Twin) (a : Nat) : Bool := decide (Reg.EVT_TPEND v 0 ≤ a ∧ a < Reg.EVT_TPEND v 8)

theorem twinPendReg_tpend (v : Twin) {n : Nat} (h : n < 256) : twinPendReg v (Reg.EVT_TPEND v (n / 32)) = true := by
  refine decide_eq_true ?_
  simp only [Reg.EVT_TPEND]; omega

/-- From `s` to `u` no event of twin `v` stops being pending. -/
def TwinPendKept (v : Twin) (s u : State) : Prop :=
  s.regsWf = true → u.regsWf = true ∧ ∀ n, n < 256 → s.evtTwinPending v n = true → u.evtTwinPending v n = true

theorem evtTwinPending_congr (n : Nat) (h : u.reg (Reg.EVT_TPEND v (n / 32)) = s.reg (Reg.EVT_TPEND v (n / 32))) :
    u.evtTwinPending v n = s.evtTwinPending v n := by
  rw [State.evtTwinPending, State.evtTwinPending, h]

theorem TwinPendKept.refl (v : Twin) (s : State) : TwinPendKept v s s := fun h => ⟨h, fun _ _ => id⟩

theorem TwinPendKept.trans (h : TwinPendKept v s0 s) (g : TwinPendKept v s u) : TwinPendKept v s0 u := fun x => by
  obtain ⟨wf, keep⟩ := h x
  obtain ⟨wf', keep'⟩ := g wf
  exact ⟨wf', fun n hn p => keep' n hn (keep n hn p)⟩

/-- Where the words of pending bits stay, so do the events. -/
theorem TwinPendKept.of_regsKept (h : RegsKept (twinPendReg v) s u) : TwinPendKept v s u := fun x => by
  obtain ⟨wf, same⟩ := h x
  exact ⟨wf, fun n hn p => (evtTwinPending_congr n (same _ (twinPendReg_tpend v hn))).trans p⟩

/-- Setting bits of a word takes no pending event away. -/
theorem TwinPendKept.of_orReg (s : State) (a m : Nat) : TwinPendKept v s (s.orReg a m) := fun x =>
  ⟨State.regsWf_setReg x _ _, fun n _ p => by
    by_cases e : Reg.EVT_TPEND v (n / 32) = a
    · rw [State.evtTwinPending, State.orReg, e, State.reg_setReg_self x]
      refine bitAt_or_left _ _ _ ?_
      rw [← e]; exact p
    · rw [State.orReg, evtTwinPending_congr n (State.reg_setReg_ne x e _), p]⟩

theorem TwinPendKept.ite {a b : State} {c : Prop} [Decidable c] (ha : TwinPendKept v s a) (hb : TwinPendKept v s b) :
    TwinPendKept v s (if c then a else b) := by
  split
  · exact ha
  · exact hb

section
variable (h : TwinPendKept v s0 s)
include h

/-- A change beside the registers. -/
theorem TwinPendKept.frame (regs : u.regs = s.regs := by rfl) : TwinPendKept v s0 u := h.trans (.of_regsKept (.of_regs regs))

theorem TwinPendKept.setReg {a : Nat} {x : Word} (ha : twinPendReg v a = false) : TwinPendKept v s0 (s.setReg a x) :=
  h.trans (.of_regsKept (.setReg s x ha))

theorem TwinPendKept.sf {a : Nat} {f : Fld} {x : Nat} (ha : twinPendReg v a = false) (hf : f.hi < 32 := by decide) :
    TwinPendKept v s0 (s.sf a f x) := by
  rw [State.sf_low _ _ _ _ hf]
  exact h.setReg ha

theorem TwinPendKept.bump {a : Nat} {f : Fld} {n : Nat} (ha : twinPendReg v a = false) (hf : f.hi < 32 := by decide) :
    TwinPendKept v s0 (s.bump a f n) := h.sf ha hf

theorem TwinPendKept.orReg (a m : Nat) : TwinPendKept v s0 (s.orReg a m) := h.trans (.of_orReg s a m)

theorem TwinPendKept.modTw (w : Twin) (f : TwinState → TwinState) : TwinPendKept v s0 (s.modTw w f) := h.frame (modTw_regs _ _ _)

/-! ### Raises -/

theorem TwinPendKept.logRecord (src n data stamp : Nat) : TwinPendKept v s0 (s.logRecord src n data stamp) := by
  have log : twinPendReg v Reg.EVT_LOG_STAT = false ∧ twinPendReg v Reg.EVT_LOG_HEAD = false := by cases v <;> decide
  obtain ⟨stat, head_⟩ := log
  unfold State.logRecord
  refine .ite (h.bump stat) ?_
  extract_lets head tail old recs s1 s2
  have h1 : TwinPendKept v s0 s1 := .ite (h.bump stat) h
  have h2 : TwinPendKept v s0 s2 := h1.frame (writeRecords_regs _ _ _ _)
  have h3 : TwinPendKept v s0 { s2 with logFirst := false, logCycle := ⟨s.now, old.2, recs⟩ } := h2.frame
  exact h3.setReg head_

theorem TwinPendKept.accept (src n data stamp : Nat) : TwinPendKept v s0 (s.accept src n data stamp) := by
  unfold State.accept
  extract_lets route s1 s2
  have h1 : TwinPendKept v s0 s1 := .ite h.frame (h.orReg _ _)
  have h2 : TwinPendKept v s0 s2 := .ite (h1.frame (sendMsix_regs _ _ _)) h1
  exact .ite (h2.logRecord _ _ _ _) h2

end

/-- The registers that a queue route counts in hold no pending bits. -/
theorem twinPendReg_counts (v w : Twin) :
    twinPendReg v (Reg.EVT_TSTAT w) = false ∧ twinPendReg v (Reg.BANK_VIOL w) = false ∧ twinPendReg v (Reg.SORUS_CNT w) = false := by
  cases v <;> cases w <;> decide

theorem twinPendReg_qcnt (v w : Twin) {q : Nat} (h : q < 64) : twinPendReg v (Reg.SORUS_QCNT w q) = false := by
  refine decide_eq_false ?_
  cases v <;> cases w <;> simp only [Reg.EVT_TPEND, Reg.SORUS_QCNT, Twin.base] <;> omega

/-- One round of a queue route, once its pending bit is set, keeps what the rounds after it keep. -/
theorem TwinPendKept.routeRound {fuel : Nat} {w : Twin} {stamp : Nat}
    (further : ∀ {x : State} (src n data : Nat), TwinPendKept v s0 x → TwinPendKept v s0 (routeTwin fuel w src n data stamp x))
    {src n data : Nat} (h : TwinPendKept v s0 (s.orReg (Reg.EVT_TPEND w (n / 32)) (2 ^ (n % 32)))) :
    TwinPendKept v s0 (routeTwin (fuel + 1) w src n data stamp s) := by
  obtain ⟨tstat, viol, cnt⟩ := twinPendReg_counts v w
  have raise : ∀ (en : Bool) (m d : Nat) (x : State), TwinPendKept v s0 x →
      TwinPendKept v s0 (if (!en || (x.tw w).marked m) = true then x
        else routeTwin fuel w (w.code + 1) m d stamp
          (if (x.modTw w (·.mark m d)).roleOf w = .active then (x.modTw w (·.mark m d)).accept (w.code + 1) m d stamp
           else x.modTw w (·.mark m d))) :=
    fun en m d x hx => .ite hx (further _ _ _ (.ite ((hx.modTw _ _).accept _ _ _ _) (hx.modTw _ _)))
  have drop : ∀ x, TwinPendKept v s0 x → TwinPendKept v s0 (x.bump (Reg.EVT_TSTAT w) Fld.EVT_TSTAT_QDROP) := fun x hx => hx.bump tstat
  have overflow : ∀ q < 64, ∀ x, TwinPendKept v s0 x →
      TwinPendKept v s0 ((x.bump (Reg.SORUS_QCNT w q) Fld.SORUS_QCNT_OVERFLOW).bump (Reg.SORUS_CNT w) Fld.SORUS_CNT_OVERFLOW) :=
    fun q hq x hx => (hx.bump (twinPendReg_qcnt v w hq)).bump cnt
  have bank : ∀ (i : Nat) (x : State), TwinPendKept v s0 x → TwinPendKept v s0 (x.bankViol w i) := fun i x hx => (hx.bump viol).sf viol
  simp only [Machine.routeTwin]
  generalize s.orReg (Reg.EVT_TPEND w (n / 32)) (2 ^ (n % 32)) = y at h ⊢
  have few : getFld (y.reg (Reg.EVT_QROUTE w n)) Fld.EVT_QROUTE_QUEUE < 64 := getFld_lt _ _
  generalize getFld (y.reg (Reg.EVT_QROUTE w n)) Fld.EVT_QROUTE_QUEUE = q at few ⊢
  have pushed := h.frame (pushItem_regs w q reqEvent false y.tickNo
    { typ := 4, prio := y.qPrio w q, more := false, dl := false, flowed := false, flow := 0, seq := 0, tick := 0, body := y.eventBody src n data stamp } y)
  generalize pushItem w q reqEvent false y.tickNo _ y = p at pushed ⊢
  obtain ⟨r, c, z⟩ := p
  change TwinPendKept v s0 z at pushed
  refine .ite h (.ite (raise _ _ _ _ (drop _ h)) ?_)
  cases r
  case done => exact pushed
  case full => exact raise _ _ _ _ (drop _ (raise _ _ _ _ (overflow q few _ pushed)))
  case bank => exact raise _ _ _ _ (drop _ (raise _ _ _ _ (raise _ _ _ _ (overflow q few _ (bank _ _ pushed)))))
  all_goals exact raise _ _ _ _ (drop _ pushed)

theorem TwinPendKept.routeTwin (fuel : Nat) (w : Twin) (h : TwinPendKept v s0 s) (src n data stamp : Nat) :
    TwinPendKept v s0 (routeTwin fuel w src n data stamp s) := by
  induction fuel generalizing s src n data with
  | zero => exact h
  | succ fuel ih => exact .routeRound (fun src n data hx => ih hx src n data) (h.orReg _ _)

theorem TwinPendKept.raiseTwin (h : TwinPendKept v s0 s) (w : Twin) (n data : Nat) : TwinPendKept v s0 (s.raiseTwin w n data) :=
  .routeTwin 4 w (.ite (h.accept _ _ _ _) h) _ _ _ _

/-- An event that a twin raises is pending in it (R515). -/
theorem evtTwinPending_raiseTwin (h : s.regsWf = true) (w : Twin) {n : Nat} (data : Nat) (hn : n < 256 := by decide) :
    (s.raiseTwin w n data).evtTwinPending w n = true := by
  unfold State.raiseTwin State.raiseTwinAt
  extract_lets s1
  have wf : s1.regsWf = true := by
    have kept : TwinPendKept w s s1 := .ite ((TwinPendKept.refl w s).accept _ _ _ _) (.refl w s)
    exact (kept h).1
  have set : (s1.orReg (Reg.EVT_TPEND w (n / 32)) (2 ^ (n % 32))).evtTwinPending w n = true := by
    rw [State.evtTwinPending, State.orReg, State.reg_setReg_self wf]
    exact bitAt_or_two_pow _ (Nat.mod_lt _ (by decide))
  have routed : TwinPendKept w (s1.orReg (Reg.EVT_TPEND w (n / 32)) (2 ^ (n % 32))) (Machine.routeTwin 4 w (w.code + 1) n data s.stamp s1) :=
    .routeRound (fun _ _ _ hx => .routeTwin 3 w hx _ _ _ _) (.refl w _)
  exact (routed (State.regsWf_setReg wf _ _)).2 n hn set

end Sys2Proof.Machine
end

section
/-!
Grafts up to the tick T: GO, the end of the check, CANCEL and the end of the catch-up (R125, R128, R129, R131).
-/
namespace Sys2Proof.Machine

set_option Elab.async false

variable {s0 s u : State} {w o : Twin}

/-! ### What leaves the graft of a twin alone -/

/-- The roles, and the graft of a twin. -/
structure GraftView where
  role : Roles
  graft : Option Graft

def State.graftView (s : State) (w : Twin) : GraftView := ⟨s.role, (s.tw w).graft⟩

/-- REJ_GRAFT_STAT of a twin. -/
def graftReg (w : Twin) (a : Nat) : Bool := decide (a = Reg.REJ_GRAFT_STAT w)

/-- `u` has the roles and the graft of twin `w` of `s`, with what REJ_GRAFT_STAT shows of it, and no event of that twin has stopped being
pending. -/
structure GraftKept (w : Twin) (s u : State) : Prop where
  view : u.graftView w = s.graftView w
  regs : RegsKept (graftReg w) s u
  pend : TwinPendKept w s u

theorem GraftKept.refl (w : Twin) (s : State) : GraftKept w s s := ⟨rfl, .refl s, .refl w s⟩

theorem GraftKept.trans (h : GraftKept w s0 s) (g : GraftKept w s u) : GraftKept w s0 u :=
  ⟨g.view.trans h.view, h.regs.trans g.regs, h.pend.trans g.pend⟩

theorem GraftKept.ite {a b : State} {c : Prop} [Decidable c] (ha : GraftKept w s a) (hb : GraftKept w s b) :
    GraftKept w s (if c then a else b) := by
  split
  · exact ha
  · exact hb

theorem GraftKept.foldl {α : Type} {f : State → α → State} (h : GraftKept w s0 s) (step : ∀ x e, GraftKept w s0 x → GraftKept w s0 (f x e))
    (l : List α) : GraftKept w s0 (l.foldl f s) := by
  induction l generalizing s with
  | nil => exact h
  | cons e l ih => exact ih (step s e h)

/-- A change beside what `GraftKept` names. -/
theorem GraftKept.frame (h : GraftKept w s0 s) (view : u.graftView w = s.graftView w := by rfl) (regs : u.regs = s.regs := by rfl) :
    GraftKept w s0 u :=
  h.trans ⟨view, .of_regs regs, .of_regsKept (.of_regs regs)⟩

theorem evtReg_of_graftReg (w : Twin) (a : Nat) (h : graftReg w a = true) : evtReg a = false := by
  rw [of_decide_eq_true h]
  cases w <;> decide

section
variable (h : GraftKept w s0 s)
include h

theorem GraftKept.role : s.role = s0.role := congrArg GraftView.role h.view
theorem GraftKept.graft : (s.tw w).graft = (s0.tw w).graft := congrArg GraftView.graft h.view
theorem GraftKept.stat (wf : s0.regsWf = true) : s.reg (Reg.REJ_GRAFT_STAT w) = s0.reg (Reg.REJ_GRAFT_STAT w) :=
  (h.regs wf).2 _ (decide_eq_true rfl)
theorem GraftKept.field (wf : s0.regsWf = true) (f : Fld) (hf : f.hi < 32 := by decide) :
    s.rf (Reg.REJ_GRAFT_STAT w) f = s0.rf (Reg.REJ_GRAFT_STAT w) f := rf_congr _ _ hf (h.stat wf)
theorem GraftKept.computes (v : Twin) : s.computes v = s0.computes v := by
  rw [State.computes, State.computes, roleOf_congr h.role]

theorem GraftKept.raiseTwin {v : Twin} {n data : Nat} (hn : n < 256 := by decide) : GraftKept w s0 (s.raiseTwin v n data) := by
  have e : Evt s (s.raiseTwin v n data) := (Evt.refl s).raiseTwin _ _ _ hn
  refine h.trans ⟨?_, .evt e (evtReg_of_graftReg w), (TwinPendKept.refl w s).raiseTwin _ _ _⟩
  rw [e.rest]
  cases w <;> rfl

theorem GraftKept.raiseIf {v : Twin} {ctl n data : Nat} {en : Fld} (hn : n < 256 := by decide) : GraftKept w s0 (s.raiseIf v ctl en n data) :=
  .ite (h.raiseTwin hn) h

theorem GraftKept.modCurves {v : Twin} {f : Curves → Curves} : GraftKept w s0 (s.modCurves v f) :=
  h.frame (by cases v <;> cases w <;> rfl) (modTw_regs _ _ _)

theorem GraftKept.wrBytes {a : Nat} {l : List Byte} : GraftKept w s0 (s.wrBytes a l) := by
  rw [wrBytes_eq]
  exact h.frame

theorem GraftKept.freshSlots {v : Twin} {cs : List Nat} : GraftKept w s0 (freshSlots v cs s) := h.modCurves

theorem GraftKept.watchSpare {v : Twin} : GraftKept w s0 (watchSpare v s) := .ite h.modCurves.raiseIf h.modCurves

theorem GraftKept.releaseOther {v : Twin} {cs : List Nat} : GraftKept w s0 (releaseOther v cs s) :=
  .ite h (h.foldl (fun _ _ hx => hx.wrBytes) _).modCurves.freshSlots

theorem GraftKept.releaseSlots {v : Twin} {restore : Bool} {g : Graft} : GraftKept w s0 (releaseSlots restore v g s) := by
  unfold Machine.releaseSlots
  extract_lets cs s1 s2
  have h1 : GraftKept w s0 s1 := .ite (h.foldl (fun _ _ hx => hx.wrBytes) _).freshSlots h
  have h2 : GraftKept w s0 s2 := h1.modCurves
  exact .ite h2.releaseOther h2

/-! ### Work on the graft of the other twin -/

theorem GraftKept.setOther (ne : o ≠ w) {f : TwinState → TwinState} : GraftKept w s0 (s.modTw o f) :=
  h.frame (by
    cases o <;> cases w
    case a.a => exact absurd rfl ne
    case b.b => exact absurd rfl ne
    all_goals rfl) (modTw_regs _ _ _)

/-- A register that neither shows the graft of the twin nor holds its pending bits. -/
theorem GraftKept.setReg {a : Nat} {x : Word} (stat : graftReg w a = false) (pend : twinPendReg w a = false) : GraftKept w s0 (s.setReg a x) :=
  h.trans ⟨rfl, .setReg s x stat, .of_regsKept (.setReg s x pend)⟩

theorem GraftKept.otherStat (ne : o ≠ w) {f : Fld} {x : Nat} (hf : f.hi < 32 := by decide) : GraftKept w s0 (s.sf (Reg.REJ_GRAFT_STAT o) f x) := by
  rw [State.sf_low _ _ _ _ hf]
  have away : graftReg w (Reg.REJ_GRAFT_STAT o) = false ∧ twinPendReg w (Reg.REJ_GRAFT_STAT o) = false := by revert ne; cases o <;> cases w <;> decide
  exact h.setReg away.1 away.2

theorem GraftKept.otherRefusal (ne : o ≠ w) {b : Bad} : GraftKept w s0 (showRefusal b o s) := by
  have away : graftReg w (Reg.REJ_GRAFT_ERR_AT o) = false ∧ twinPendReg w (Reg.REJ_GRAFT_ERR_AT o) = false := by cases o <;> cases w <;> decide
  exact ((((h.otherStat ne).otherStat ne).otherStat ne).setReg away.1 away.2).raiseTwin

theorem GraftKept.otherRefuses (ne : o ≠ w) {b : Bad} : GraftKept w s0 (refuseGraft b o s) := by
  unfold Machine.refuseGraft
  split
  · exact h
  · exact (((h.releaseSlots.setOther ne).otherStat ne).otherRefusal ne).watchSpare

theorem GraftKept.otherGoes (ne : o ≠ w) : GraftKept w s0 (graftGo o s) := by
  unfold Machine.graftGo
  extract_lets ofs rd bad bytes takes cs spare g s1
  have h1 : GraftKept w s0 s1 := h.setOther ne
  exact .ite h (.ite (h.otherRefusal ne) (h1.modCurves.otherStat ne).watchSpare)

theorem GraftKept.otherCancels (ne : o ≠ w) : GraftKept w s0 (cancelGraft o s) := .ite (h.otherRefuses ne) h

end

/-! ### Twins that a path reaches (R22) -/

theorem reach_beginAt (s : State) (t : Nat) (via : Via) : ((s.beginAt t).reach via).1 = (s.reach via).1 := by
  cases via <;> simp only [State.reach, apply_ite Prod.fst] <;> rfl

/-- A path that reaches a twin reaches twins in order, and counts nothing. -/
theorem reach_of_mem {via : Via} (hw : w ∈ (s.reach via).1) : ∃ p : Twin → Bool, p w = true ∧ s.reach via = (twins.filter p, s) := by
  have alone : ∀ v : Twin, [v] = twins.filter (fun x => decide (x = v)) := fun v => by cases v <;> rfl
  cases via with
  | mirror =>
    simp only [State.reach] at hw ⊢
    split at hw
    · cases hw
    split at hw
    · cases hw
    split at hw
    · cases hw
    next reset nap ctx => exact ⟨_, (List.mem_filter.1 hw).2, by rw [if_neg reset, if_neg nap, if_neg ctx]⟩
  | priv v =>
    simp only [State.reach] at hw ⊢
    split at hw
    · cases hw
    split at hw
    · cases hw
    next reset dead =>
      exact ⟨fun x => decide (x = v), decide_eq_true (List.mem_singleton.1 hw), by rw [if_neg reset, if_neg dead, alone]⟩
  | core v c =>
    simp only [State.reach] at hw ⊢
    split at hw
    · cases hw
    next live => exact ⟨fun x => decide (x = v), decide_eq_true (List.mem_singleton.1 hw), by rw [if_neg live, alone]⟩

theorem foldl_filter_twins (p : Twin → Bool) (f : Twin → State → State) (s : State) : (twins.filter p).foldl (fun x w => f w x) s = s.each p f := by
  unfold State.each
  cases ha : p .a <;> cases hb : p .b <;> simp [twins, ha, hb]

/-- Where a path reaches a twin and each twin's step leaves the graft of the other alone, that twin makes its own step, with nothing of its
graft changed before or after. -/
theorem deliver_reaches {via : Via} {f : Twin → State → State} (hw : w ∈ (s.reach via).1)
    (apart : ∀ {o x}, o ≠ w → GraftKept w x (f o x)) : ∃ x, GraftKept w s x ∧ GraftKept w (f w x) (s.deliver via f) := by
  obtain ⟨p, pw, reached⟩ := reach_of_mem hw
  have delivered : s.deliver via f = s.each p f := by
    unfold State.deliver
    rw [reached]
    exact foldl_filter_twins p f s
  rw [delivered]
  unfold State.each
  cases w with
  | a => exact ⟨s, .refl _ s, by rw [pw]; exact .ite (apart (by decide)) (.refl _ _)⟩
  | b => exact ⟨if p .a then f .a s else s, .ite (apart (by decide)) (.refl _ s), by rw [pw]; exact .refl _ _⟩

/-! ### The state of a graft -/

@[simp] theorem sf_tw (s : State) (a : Nat) (f : Fld) (n : Nat) (v : Twin) : (s.sf a f n).tw v = s.tw v := by
  rw [State.sf_eq]
  cases v <;> rfl

theorem setGraftState_tw (s : State) (w v : Twin) (n : Nat) : (setGraftState w n s).tw v = s.tw v := sf_tw _ _ _ _ _

theorem setGraftState_graftState (wf : s.regsWf = true) (w : Twin) {n : Nat} (fits : n < 8) : (setGraftState w n s).graftState w = n :=
  (State.rf_sf_self wf _ _ _ (by decide) (by decide)).trans (Nat.mod_eq_of_lt fits)

/-- The graft engine of a twin returns to IDLE. -/
def State.graftEnds (s : State) (w : Twin) : State := setGraftState w 0 (s.modTw w (fun t => { t with graft := none }))

theorem modTw_regsWf (s : State) (w : Twin) (f : TwinState → TwinState) : (s.modTw w f).regsWf = s.regsWf := by
  rw [State.regsWf, modTw_regs]
  rfl

theorem graftEnds_wf (wf : s.regsWf = true) (w : Twin) : (s.graftEnds w).regsWf = true := State.regsWf_sf (by rw [modTw_regsWf, wf]) _ _ _

theorem graftEnds_graftState (wf : s.regsWf = true) (w : Twin) : (s.graftEnds w).graftState w = 0 :=
  setGraftState_graftState (by rw [modTw_regsWf, wf]) w (by decide)

theorem graftEnds_graft (s : State) (w : Twin) : ((s.graftEnds w).tw w).graft = none := by
  rw [State.graftEnds, setGraftState_tw, State.modTw_tw]

/-! ### A refusal (R128) -/

/-- Twin `w` shows a refusal with code `code`: no graft is in progress, and E250 is pending. -/
structure GraftRefused (w : Twin) (code : Nat) (u : State) : Prop where
  state : u.graftState w = 0
  graft : (u.tw w).graft = none
  refused : u.rb (Reg.REJ_GRAFT_STAT w) Fld.REJ_GRAFT_STAT_REFUSED = true
  reason : u.rf (Reg.REJ_GRAFT_STAT w) Fld.REJ_GRAFT_STAT_REASON = code
  event : u.evtTwinPending w 250 = true

theorem GraftRefused.kept {code : Nat} (h : GraftRefused w code s) (wf : s.regsWf = true) (g : GraftKept w s u) : GraftRefused w code u :=
  ⟨(g.field wf _).trans h.state, g.graft.trans h.graft, (rb_congr _ _ (by decide) (g.stat wf)).trans h.refused, (g.field wf _).trans h.reason,
    (g.pend wf).2 250 (by decide) h.event⟩

/-- REASON, SECTION and REFUSED of a refusal. -/
def State.statRefused (s : State) (w : Twin) (b : Bad) : State :=
  ((s.sf (Reg.REJ_GRAFT_STAT w) Fld.REJ_GRAFT_STAT_REASON b.1).sf (Reg.REJ_GRAFT_STAT w) Fld.REJ_GRAFT_STAT_SECTION b.2.2).sb (Reg.REJ_GRAFT_STAT w)
    Fld.REJ_GRAFT_STAT_REFUSED true

theorem statRefused_tw (s : State) (w : Twin) (b : Bad) : (s.statRefused w b).tw w = s.tw w := by
  rw [State.statRefused, State.sb, sf_tw, sf_tw, sf_tw]

/-- The three fields of a refusal and the state are apart from each other. -/
theorem statRefused_fields (wf : s.regsWf = true) (w : Twin) (b : Bad) :
    (s.statRefused w b).regsWf = true ∧ (s.statRefused w b).graftState w = s.graftState w ∧
    (s.statRefused w b).rb (Reg.REJ_GRAFT_STAT w) Fld.REJ_GRAFT_STAT_REFUSED = true ∧
    (s.statRefused w b).rf (Reg.REJ_GRAFT_STAT w) Fld.REJ_GRAFT_STAT_REASON = b.1 % 256 := by
  unfold State.statRefused
  generalize hr : s.sf (Reg.REJ_GRAFT_STAT w) Fld.REJ_GRAFT_STAT_REASON b.1 = x
  have wfx : x.regsWf = true := by rw [← hr]; exact State.regsWf_sf wf _ _ _
  generalize hs : x.sf (Reg.REJ_GRAFT_STAT w) Fld.REJ_GRAFT_STAT_SECTION b.2.2 = y
  have wfy : y.regsWf = true := by rw [← hs]; exact State.regsWf_sf wfx _ _ _
  refine ⟨State.regsWf_sf wfy _ _ _, ?_, ?_, ?_⟩
  · rw [State.graftState, State.sb, State.rf_sf_other wfy _ _ _ _ (by decide) (by decide) (by decide) (by decide) (by decide), ← hs,
      State.rf_sf_other wfx _ _ _ _ (by decide) (by decide) (by decide) (by decide) (by decide), ← hr,
      State.rf_sf_other wf _ _ _ _ (by decide) (by decide) (by decide) (by decide) (by decide)]
    rfl
  · rw [State.rb, State.sb, State.rf_sf_self wfy _ _ _ (by decide) (by decide)]
    decide
  · rw [State.sb, State.rf_sf_other wfy _ _ _ _ (by decide) (by decide) (by decide) (by decide) (by decide), ← hs,
      State.rf_sf_other wfx _ _ _ _ (by decide) (by decide) (by decide) (by decide) (by decide), ← hr,
      State.rf_sf_self wf _ _ _ (by decide) (by decide)]
    rfl

/-- A twin without a graft that shows a refusal. -/
theorem showRefusal_refused (wf : s.regsWf = true) (idle : s.graftState w = 0) (none_ : (s.tw w).graft = none) (b : Bad) :
    (showRefusal b w s).regsWf = true ∧ GraftRefused w (b.1 % 256) (showRefusal b w s) := by
  have away : graftReg w (Reg.REJ_GRAFT_ERR_AT w) = false ∧ twinPendReg w (Reg.REJ_GRAFT_ERR_AT w) = false := by cases w <;> decide
  obtain ⟨wfx, state, refused, reason⟩ := statRefused_fields wf w b
  have located := (GraftKept.refl w (s.statRefused w b)).setReg (a := Reg.REJ_GRAFT_ERR_AT w) (x := BitVec.ofNat 32 b.2.1) away.1 away.2
  have wfl := (located.regs wfx).1
  have shown : GraftKept w (s.statRefused w b) (showRefusal b w s) := located.raiseTwin
  exact ⟨(shown.regs wfx).1, (shown.field wfx _).trans (state.trans idle), shown.graft.trans ((congrArg TwinState.graft (statRefused_tw s w b)).trans none_),
    (rb_congr _ _ (by decide) (shown.stat wfx)).trans refused, (shown.field wfx _).trans reason, evtTwinPending_raiseTwin wfl w b.1⟩

theorem refuseGraft_refused (wf : s.regsWf = true) {g : Graft} (staged : (s.tw w).graft = some g) (b : Bad) :
    (refuseGraft b w s).regsWf = true ∧ GraftRefused w (b.1 % 256) (refuseGraft b w s) := by
  have released := (GraftKept.refl w s).releaseSlots (v := w) (restore := true) (g := g)
  have wfr := (released.regs wf).1
  obtain ⟨wfs, shown⟩ := showRefusal_refused (graftEnds_wf wfr w) (graftEnds_graftState wfr w) (graftEnds_graft _ w) b
  have watched := (GraftKept.refl w (showRefusal b w ((releaseSlots true w g s).graftEnds w))).watchSpare (v := w)
  unfold refuseGraft
  rw [staged]
  exact ⟨(watched.regs wfs).1, shown.kept wfs watched⟩

theorem cancelGraft_refused (wf : s.regsWf = true) {g : Graft} (busy : s.graftState w = 1 ∨ s.graftState w = 2) (staged : (s.tw w).graft = some g) :
    (cancelGraft w s).regsWf = true ∧ GraftRefused w 0x17 (cancelGraft w s) := by
  have cancels : cancelGraft w s = refuseGraft (0x17, 0, 0xFF) w s := if_pos (decide_eq_true busy)
  rw [cancels]
  exact refuseGraft_refused wf staged _

/-- A graft that is dropped leaves the engine in IDLE (R125). -/
theorem forgetGraft_idle (wf : s.regsWf = true) {g : Graft} (staged : (s.tw w).graft = some g) :
    (forgetGraft w s).graftState w = 0 ∧ ((forgetGraft w s).tw w).graft = none := by
  have released := (GraftKept.refl w s).releaseSlots (v := w) (restore := true) (g := g)
  have wfr := (released.regs wf).1
  have watched := (GraftKept.refl w ((releaseSlots true w g s).graftEnds w)).watchSpare (v := w)
  unfold forgetGraft
  rw [staged]
  exact ⟨(watched.field (graftEnds_wf wfr w) _).trans (graftEnds_graftState wfr w), watched.graft.trans (graftEnds_graft _ w)⟩

/-! ### GO (R125) -/

/-- GO stages a graft in a twin that computes the show and has none. -/
theorem graftGo_stages (wf : s.regsWf = true) (runs : s.computes w = true) (idle : s.graftState w = 0) :
    (graftGo w s).regsWf = true ∧ (graftGo w s).graftState w = 1 ∧ ((graftGo w s).tw w).graft.isSome = true ∧ (graftGo w s).role = s.role := by
  unfold graftGo
  rw [if_neg (by rw [runs]; decide), if_neg (by rw [idle]; decide)]
  extract_lets ofs rd bad bytes takes cs spare g s1
  clear_value g
  have wf1 : s1.regsWf = true := by rw [← wf]; exact modTw_regsWf _ _ _
  have staged : (s1.tw w).graft = some g := congrArg TwinState.graft (State.modTw_tw s w _)
  have writing := (GraftKept.refl w s1).modCurves (v := w) (f := fun v => { v with writing := v.writing ++ cs })
  have wfw := (writing.regs wf1).1
  have wfc : (setGraftState w 1 (s1.modCurves w (fun v => { v with writing := v.writing ++ cs }))).regsWf = true := State.regsWf_sf wfw _ _ _
  have watched := (GraftKept.refl w (setGraftState w 1 (s1.modCurves w (fun v => { v with writing := v.writing ++ cs })))).watchSpare (v := w)
  refine ⟨(watched.regs wfc).1, (watched.field wfc _).trans (setGraftState_graftState wfw w (by decide)), ?_, ?_⟩
  · rw [watched.graft, setGraftState_tw, writing.graft, staged]
    rfl
  · rw [watched.role, setGraftState, State.sf_role, writing.role]
    exact role_modTw _ _ _

/-! ### The end of the check (R125) -/

/-- The new curves are in their slots and the graft waits for its tick. -/
def State.graftArms (s : State) (w : Twin) (g : Graft) : State :=
  let x := freshSlots w (g.takes.map (·.1))
    (writeSections (fun i => g.bytes.getD i 0) ((fileSections (fun i => g.bytes.getD i 0)).filter (fun d => decide (d.ty = 10))) w s)
  setGraftState w 2 (x.modTw w (fun t => { t with graft := some { g with armedAt := some x.now } }))

theorem writeSections_eq (rd : Nat → Byte) (secs : List DirEnt) (w : Twin) (s : State) :
    writeSections rd secs w s = { s with mem := (writeSections rd secs w s).mem } := by
  unfold writeSections
  generalize secs.filter _ = l
  induction l generalizing s with
  | nil => rfl
  | cons d l ih =>
    rw [List.foldl_cons, ih, wrBytes_eq]

/-- What an arming leaves of the state on which the target tick is judged. -/
structure ArmKept (s u : State) : Prop where
  now : u.now = s.now
  tg : u.tg = s.tg
  role : u.role = s.role
  regs : u.regs = s.regs

theorem curvesPlaced_kept (cs : List Nat) (rd : Nat → Byte) (secs : List DirEnt) (w : Twin) (s : State) :
    ArmKept s (freshSlots w cs (writeSections rd secs w s)) := by
  rw [writeSections_eq]
  cases w <;> exact ⟨rfl, rfl, rfl, rfl⟩

theorem active_congr (h : u.role = s.role) : u.active = s.active := by rw [State.active, State.active, h]

theorem graftBehind_congr (tg : u.tg = s.tg) (ctl : u.reg (Reg.REJ_GRAFT_CTL w) = s.reg (Reg.REJ_GRAFT_CTL w))
    (tick : u.reg (Reg.REJ_GRAFT_TICK w) = s.reg (Reg.REJ_GRAFT_TICK w)) : u.graftBehind w = s.graftBehind w := by
  rw [State.graftBehind, State.graftBehind, State.tickNo, State.tickNo, rb_congr _ _ (by decide) ctl, tg, tick]

/-- A graft that has been armed. -/
structure GraftArmed (w : Twin) (g : Graft) (s u : State) : Prop where
  state : u.graftState w = 2
  graft : (u.tw w).graft = some { g with armedAt := some s.now }
  role : u.role = s.role
  behind : u.graftBehind w = s.graftBehind w

theorem graftArms_armed (wf : s.regsWf = true) (w : Twin) (g : Graft) : GraftArmed w g s (s.graftArms w g) := by
  unfold State.graftArms
  extract_lets x
  obtain ⟨now, tg, role, regs⟩ : ArmKept s x := curvesPlaced_kept _ _ _ _ _
  clear_value x
  generalize hy : x.modTw w (fun t => { t with graft := some { g with armedAt := some x.now } }) = y
  have regsy : y.regs = s.regs := by rw [← hy, modTw_regs, regs]
  have wfy : y.regsWf = true := by rw [State.regsWf, regsy]; exact wf
  have same : ∀ a, y.reg a = s.reg a := fun a => by rw [State.reg, State.reg, regsy]
  have away : Reg.REJ_GRAFT_CTL w ≠ Reg.REJ_GRAFT_STAT w ∧ Reg.REJ_GRAFT_TICK w ≠ Reg.REJ_GRAFT_STAT w := by cases w <;> decide
  have elsewhere : ∀ a, a ≠ Reg.REJ_GRAFT_STAT w → (setGraftState w 2 y).reg a = s.reg a :=
    fun a ha => (State.reg_sf_ne wfy _ _ (by decide) ha).trans (same a)
  refine ⟨setGraftState_graftState wfy w (by decide), ?_, ?_, graftBehind_congr ?_ (elsewhere _ away.1) (elsewhere _ away.2)⟩
  · rw [setGraftState_tw, ← hy, State.modTw_tw, now]
  · rw [setGraftState, State.sf_role, ← hy, role_modTw, role]
  · rw [setGraftState, State.sf_tg, ← hy, ← tg]
    cases w <;> rfl

/-! ### The commands -/

theorem exec_graftGo (t : Nat) (via : Via) (awake : s.inNap = false) : exec (.graftGo t via) s = .next ((s.beginAt t).deliver via graftGo) := by
  have awake' : (s.beginAt t).inNap = false := awake
  change execGraftGo t via s = _
  rw [execGraftGo, graftGoVia, awake']
  rfl

theorem exec_graftCancel (t : Nat) (via : Via) (s : State) : exec (.graftCancel t via) s = .next ((s.beginAt t).deliver via cancelGraft) := rfl

section
variable {g : Graft} (t : Nat) (staged : (s.tw w).graft = some g) (checking : s.graftState w = 1)
include staged checking

/-- The end of a check in progress, at the command's instant. -/
theorem exec_graftArmed_checking : exec (.graftArmed t w) s =
    if !(s.beginAt t).computes w then .next (forgetGraft w (s.beginAt t))
    else match g.bad with
      | some b => .next (refuseGraft b w (s.beginAt t))
      | none =>
        if ((s.beginAt t).graftArms w g).active = some w ∧ ((s.beginAt t).graftArms w g).graftBehind w then
          .next (refuseBoth (0x14, 0, 0xFF) ((s.beginAt t).graftArms w g))
        else .next ((s.beginAt t).graftArms w g) := by
  have staged' : ((s.beginAt t).tw w).graft = some g := by rw [State.beginAt_tw, staged]
  have checking' : ¬ (s.beginAt t).graftState w ≠ 1 := not_not.2 checking
  change execGraftArmed t w s = _
  unfold execGraftArmed
  extract_lets s1
  rw [staged']
  exact if_neg checking'

theorem exec_graftArmed_idle (out : s.computes w = false) : exec (.graftArmed t w) s = .next (forgetGraft w (s.beginAt t)) := by
  rw [exec_graftArmed_checking t staged checking, State.beginAt_computes, out]
  rfl

theorem exec_graftArmed_bad {b : Bad} (runs : s.computes w = true) (bad : g.bad = some b) :
    exec (.graftArmed t w) s = .next (refuseGraft b w (s.beginAt t)) := by
  rw [exec_graftArmed_checking t staged checking, State.beginAt_computes, runs, bad]
  rfl

theorem exec_graftArmed_good (wf : s.regsWf = true) (runs : s.computes w = true) (good : g.bad = none)
    (ahead : s.active ≠ some w ∨ s.graftBehind w = false) : exec (.graftArmed t w) s = .next ((s.beginAt t).graftArms w g) := by
  have armed := graftArms_armed (s := s.beginAt t) wf w g
  have before : ¬(((s.beginAt t).graftArms w g).active = some w ∧ ((s.beginAt t).graftArms w g).graftBehind w = true) := by
    rw [active_congr armed.role, armed.behind]
    rintro ⟨act, behind⟩
    rcases ahead with other | notBehind
    · exact other act
    · exact Bool.false_ne_true (notBehind.symm.trans behind)
  rw [exec_graftArmed_checking t staged checking, State.beginAt_computes, runs, good]
  exact if_neg before

end

theorem exec_graftCatchupDone (t : Nat) (caught : s.graftState w = 3) :
    exec (.graftCatchupDone t w) s = .next ((s.beginAt t).graftEnds w) := if_pos caught

/-- Settles O21: GO and CANCEL in the twin that they reach, with the other twin's step beside it; the ends of the check; and the end of the
catch-up. -/
theorem graftStages : Obligations.GraftStages := by
  unfold Obligations.GraftStages
  intro s t tidy
  have wf : s.regsWf = true := (Bool.and_eq_true_iff.1 tidy).1
  refine ⟨fun via w awake reached => ⟨fun runs idle => ?_, fun busy staged => ?_⟩, fun w g staged checking => ⟨fun out => ?_, fun runs good ahead => ?_,
    fun b runs bad => ?_⟩, fun w caught => ?_⟩
  · obtain ⟨x, before, after⟩ := deliver_reaches (s := s.beginAt t) (via := via) (f := graftGo) (by rwa [reach_beginAt])
      (fun ne => (GraftKept.refl w _).otherGoes ne)
    obtain ⟨wfu, state, graft, role⟩ := graftGo_stages (before.regs wf).1
      ((before.computes w).trans ((State.beginAt_computes _ _ _).trans runs)) ((before.field wf _).trans idle)
    exact ⟨_, exec_graftGo t via awake, (after.field wfu _).trans state, by rw [after.graft, graft], after.role.trans (role.trans before.role)⟩
  · obtain ⟨x, before, after⟩ := deliver_reaches (s := s.beginAt t) (via := via) (f := cancelGraft) (by rwa [reach_beginAt])
      (fun ne => (GraftKept.refl w _).otherCancels ne)
    obtain ⟨g, staged⟩ := Option.isSome_iff_exists.1 staged
    have state : x.graftState w = s.graftState w := before.field wf _
    obtain ⟨wfu, refused⟩ := cancelGraft_refused (before.regs wf).1 (by rwa [state])
      (before.graft.trans ((congrArg TwinState.graft (State.beginAt_tw _ _ _)).trans staged))
    have cancelled := refused.kept wfu after
    exact ⟨_, exec_graftCancel t via s, cancelled.state, cancelled.graft, cancelled.refused, cancelled.reason, cancelled.event⟩
  · obtain ⟨state, graft⟩ := forgetGraft_idle (s := s.beginAt t) wf (by rw [State.beginAt_tw, staged])
    exact ⟨_, exec_graftArmed_idle t staged checking out, state, graft, congrArg CalmView.role (Calm.refl (s.beginAt t)).forgetGraft.view⟩
  · have armed := graftArms_armed (s := s.beginAt t) wf w g
    exact ⟨_, exec_graftArmed_good t staged checking wf runs good ahead, armed.state, armed.graft, armed.role⟩
  · obtain ⟨-, refused⟩ := refuseGraft_refused (s := s.beginAt t) wf (by rw [State.beginAt_tw, staged]) b
    exact ⟨_, exec_graftArmed_bad t staged checking runs bad, refused.state, refused.graft, refused.reason, refused.event⟩
  · have wf' : ((s.beginAt t).modTw w (fun x => { x with graft := none })).regsWf = true := by rw [modTw_regsWf]; exact wf
    exact ⟨_, exec_graftCatchupDone t caught, graftEnds_graftState (s := s.beginAt t) wf w, onlyRegs_sf wf' _ Fld.REJ_GRAFT_STAT_STATE 0 (by decide)⟩

end Sys2Proof.Machine
end

section
/-!
Losses (R147, R152, R159): what a loss makes of the universes of a twin, and the events that it raises.
-/
namespace Sys2Proof.Machine

set_option Elab.async false

variable {s0 s u : State} {w : Twin}

/-! ### Entries of a sparse table -/

/-- The keys of a table in canonical form rise. -/
theorem Smap.pairwise_above {α : Type} [DecidableEq α] (d : Nat → α) :
    ∀ (m : List (Nat × α)) (lo : Option Nat), Smap.above d lo m = true → m.Pairwise (fun x y => x.1 < y.1) ∧ ∀ e ∈ m, Smap.over lo e.1
  | [], _, _ => by simp
  | (j, v) :: rest, lo, h => by
    obtain ⟨bound, -, tail⟩ := Smap.above_cons.1 h
    obtain ⟨sorted, above⟩ := Smap.pairwise_above d rest (some j) tail
    refine ⟨List.pairwise_cons.2 ⟨fun e he => above e he j rfl, sorted⟩, fun e he => ?_⟩
    rcases List.mem_cons.1 he with rfl | he
    · exact bound
    · exact Smap.over_trans bound (above e he)

theorem Smap.pairwise_of_wf {α : Type} [DecidableEq α] {d : Nat → α} {m : List (Nat × α)} (h : Smap.wf d m = true) :
    m.Pairwise (fun x y => x.1 < y.1) := (Smap.pairwise_above d m none h).1

/-- A listed key reads as its entry. -/
theorem Smap.get_of_mem {α : Type} {d : α} {e : Nat × α} :
    ∀ {m : List (Nat × α)}, m.Pairwise (fun x y => x.1 < y.1) → e ∈ m → Smap.get d m e.1 = e.2
  | (j, v) :: rest, sorted, he => by
    obtain ⟨first, tail⟩ := List.pairwise_cons.1 sorted
    rcases List.mem_cons.1 he with rfl | he
    · simp [Smap.get]
    · have later : j < e.1 := first e he
      rw [Smap.get, if_neg (by omega), if_neg (by omega)]
      exact Smap.get_of_mem tail he

/-- A key that does not read as the default is listed. -/
theorem Smap.mem_of_get_ne {α : Type} {d : α} {i : Nat} : ∀ {m : List (Nat × α)}, Smap.get d m i ≠ d → (i, Smap.get d m i) ∈ m
  | [], h => absurd rfl h
  | (j, v) :: rest, h => by
    rw [Smap.get] at h ⊢
    by_cases same : i = j
    · rw [if_pos same, same]
      exact List.mem_cons_self ..
    · rw [if_neg same] at h ⊢
      by_cases below : i < j
      · exact absurd (if_pos below) h
      · rw [if_neg below] at h ⊢
        exact List.mem_cons_of_mem _ (Smap.mem_of_get_ne h)

/-! ### Work on the universes of a twin -/

/-- The universes of twin `w` that `l` lists have become what `g` makes of them, and nothing else has changed but what that may show. -/
structure UnivsMade (w : Twin) (g : Univ → Univ) (l : List (Nat × Univ)) (s u : State) : Prop where
  rest : u = { s with a := u.a, b := u.b }
  other : u.tw w.other = s.tw w.other
  lost : (u.tw w).net.lost = (s.tw w).net.lost
  once : (u.tw w).once = (s.tw w).once
  made : ∀ e ∈ l, u.univ w e.1 = g e.2
  kept : ∀ i, (∀ e ∈ l, e.1 ≠ i) → u.univ w i = s.univ w i

/-- A universe that its work leaves as it is. -/
theorem UnivsMade.none {g : Univ → Univ} {e : Nat × Univ} (held : s.univ w e.1 = e.2) (same : g e.2 = e.2) : UnivsMade w g [e] s s :=
  ⟨rfl, rfl, rfl, rfl, by simpa [same] using held, fun _ _ => rfl⟩

theorem UnivsMade.one {g : Univ → Univ} {e : Nat × Univ} (some_ : g e.2 ≠ Univ.empty) (s : State) :
    UnivsMade w g [e] s (s.setUniv w e.1 (g e.2)) := by
  have self : (s.setUniv w e.1 (g e.2)).univ w e.1 = g e.2 := univ_setUniv_self some_ s e.1
  have ne : ∀ i, e.1 ≠ i → (s.setUniv w e.1 (g e.2)).univ w i = s.univ w i := fun i hi => univ_setUniv_ne some_ s hi.symm
  refine ⟨?_, ?_, ?_, ?_, by simpa using self, fun i hi => ne i (hi e (List.mem_singleton_self e))⟩ <;> cases w <;> rfl

/-- Work that takes the universes one by one, and counts those that `c` picks. -/
theorem foldl_univsMade {g : Univ → Univ} {c : Univ → Bool} {f : Nat × State → Nat × Univ → Nat × State}
    (step : ∀ k x e, x.univ w e.1 = e.2 → (f (k, x) e).1 = k + (if c e.2 then 1 else 0) ∧ UnivsMade w g [e] x (f (k, x) e).2) :
    ∀ (l : List (Nat × Univ)) (k : Nat) (x : State), l.Pairwise (fun a b => a.1 < b.1) → (∀ e ∈ l, x.univ w e.1 = e.2) →
      (l.foldl f (k, x)).1 = k + l.countP (fun e => c e.2) ∧ UnivsMade w g l x (l.foldl f (k, x)).2
  | [], _, _, _, _ => ⟨rfl, rfl, rfl, rfl, rfl, by simp, fun _ _ => rfl⟩
  | e :: l, k, x, sorted, held => by
    obtain ⟨later, tail⟩ := List.pairwise_cons.1 sorted
    obtain ⟨count, first⟩ := step k x e (held e (List.mem_cons_self ..))
    have apart : ∀ i, e.1 ≠ i → (f (k, x) e).2.univ w i = x.univ w i := fun i hi =>
      first.kept i (fun a ha => by rwa [List.mem_singleton.1 ha])
    have held' : ∀ a ∈ l, (f (k, x) e).2.univ w a.1 = a.2 := fun a ha =>
      (apart a.1 (Nat.ne_of_lt (later a ha))).trans (held a (List.mem_cons_of_mem _ ha))
    obtain ⟨counts, rest⟩ := foldl_univsMade step l (f (k, x) e).1 (f (k, x) e).2 tail held'
    refine ⟨?_, ?_, rest.other.trans first.other, rest.lost.trans first.lost, rest.once.trans first.once, fun a ha => ?_, fun i hi => ?_⟩
    · rw [List.foldl_cons, counts, count, List.countP_cons]
      omega
    · rw [List.foldl_cons, rest.rest, first.rest]
    · rcases List.mem_cons.1 ha with rfl | ha
      · exact (rest.kept a.1 (fun b hb => (Nat.ne_of_lt (later b hb)).symm)).trans (first.made a (List.mem_singleton_self a))
      · exact rest.made a ha
    · exact (rest.kept i (fun a ha => hi a (List.mem_cons_of_mem _ ha))).trans (apart i (hi e (List.mem_cons_self ..)))

/-! ### Sources that leave (R147) -/

/-- The universe after the sources that `p` does not pick have left. -/
def Univ.left (p : SacnSrc → Bool) (v : Univ) : Univ :=
  if v.srcs.filter p = v.srcs then v
  else if v.srcs.filter p = [] then { v with srcs := [], lost := true }
  else ({ v with srcs := v.srcs.filter p } : Univ).merge

/-- Its last source has left. -/
def Univ.loses (p : SacnSrc → Bool) (v : Univ) : Bool := decide (v.srcs.filter p ≠ v.srcs ∧ v.srcs.filter p = [])

@[simp] theorem merge_srcs (v : Univ) : v.merge.srcs = v.srcs := by
  unfold Univ.merge
  split <;> rfl

@[simp] theorem merge_syncLost (v : Univ) : v.merge.syncLost = v.syncLost := by
  unfold Univ.merge
  split <;> rfl

theorem left_srcs (p : SacnSrc → Bool) (v : Univ) : (v.left p).srcs = v.srcs.filter p := by
  unfold Univ.left
  split
  next all => exact all.symm
  next =>
    split
    next gone => exact gone.symm
    next => exact merge_srcs _

theorem left_all_gone {p : SacnSrc → Bool} {v : Univ} (had : v.srcs ≠ []) (gone : v.srcs.filter p = []) :
    v.loses p = true ∧ v.left p = { v with srcs := [], lost := true } := by
  have changed : v.srcs.filter p ≠ v.srcs := by rw [gone]; exact had.symm
  exact ⟨decide_eq_true ⟨changed, gone⟩, by rw [Univ.left, if_neg changed, if_pos gone]⟩

theorem left_ne_empty {p : SacnSrc → Bool} {v : Univ} (changed : v.srcs.filter p ≠ v.srcs) : v.left p ≠ Univ.empty := by
  intro c
  by_cases gone : v.srcs.filter p = []
  · have lost : (v.left p).lost = true := by rw [Univ.left, if_neg changed, if_pos gone]
    rw [c] at lost
    cases lost
  · have srcs := left_srcs p v
    rw [c] at srcs
    exact gone srcs.symm

theorem leaveUniv_made (p : SacnSrc → Bool) {e : Nat × Univ} (held : s.univ w e.1 = e.2) :
    (leaveUniv w e.1 (e.2.srcs.filter p) s).1 = e.2.loses p ∧ UnivsMade w (Univ.left p) [e] s (leaveUniv w e.1 (e.2.srcs.filter p) s).2 := by
  have counts : e.2.loses p = decide (e.2.srcs.filter p ≠ e.2.srcs ∧ e.2.srcs.filter p = []) := rfl
  have set : e.2.srcs.filter p ≠ e.2.srcs → UnivsMade w (Univ.left p) [e] s (s.setUniv w e.1 (e.2.left p)) := fun changed =>
    .one (left_ne_empty changed) s
  unfold leaveUniv
  rw [held]
  by_cases all : e.2.srcs.filter p = e.2.srcs
  · rw [if_pos all, counts]
    exact ⟨by simp [all], .none held (if_pos all)⟩
  · have made := set all
    rw [Univ.left, if_neg all] at made
    rw [if_neg all, counts]
    by_cases gone : e.2.srcs.filter p = []
    · rw [if_pos gone] at made ⊢
      exact ⟨(decide_eq_true ⟨all, gone⟩).symm, made⟩
    · rw [if_neg gone] at made ⊢
      exact ⟨(decide_eq_false fun c => gone c.2).symm, made⟩

/-- One universe's turn at SACN_SRC_LOSS. -/
def leaveStep (w : Twin) (p : SacnSrc → Bool) (acc : Nat × State) (e : Nat × Univ) : Nat × State :=
  let r := leaveUniv w e.1 (e.2.srcs.filter p) acc.2
  (acc.1 + (if r.1 then 1 else 0), r.2)

/-- A source that has sent something within the timeout (R147). -/
def heardSince (now : Nat) (y : SacnSrc) : Bool := decide (now < y.heard + sacnTimeout)

theorem exec_sacnSrcLoss (t : Nat) (w : Twin) (s : State) :
    exec (.sacnSrcLoss t w) s = .next (countLost w
      (((s.beginAt t).tw w).net.univ.foldl (leaveStep w (heardSince ((s.beginAt t).tbNow 3))) (0, s.beginAt t)).1
      (((s.beginAt t).tw w).net.univ.foldl (leaveStep w (heardSince ((s.beginAt t).tbNow 3))) (0, s.beginAt t)).2) := rfl

/-! ### Pending copies that have waited (R152) -/

/-- The pending copy of a source has waited for the timeout. -/
def pendDue (now : Nat) (y : SacnSrc) : Bool := match y.pend with | some p => decide (p.since + sacnTimeout ≤ now) | none => false

/-- The universe without synchronisation: copies that are not forced to wait enter the merge. -/
def Univ.unsynced (v : Univ) : Univ :=
  ({ v with syncLost := true, srcs := v.srcs.map (fun (y : SacnSrc) =>
    match y.pend with | some p => if p.force then y else y.release | none => y) } : Univ).merge

def Univ.waited (now : Nat) (v : Univ) : Bool := v.srcs.any (pendDue now) && !v.syncLost

def Univ.afterWait (now : Nat) (v : Univ) : Univ := if v.waited now then v.unsynced else v

/-- One universe's turn at SACN_SYNC_LOSS. -/
def waitStep (w : Twin) (now : Nat) (acc : Nat × State) (e : Nat × Univ) : Nat × State :=
  if e.2.waited now then (acc.1 + 1, acc.2.setUniv w e.1 e.2.unsynced) else acc

theorem unsynced_syncLost (v : Univ) : v.unsynced.syncLost = true := merge_syncLost _

theorem waitStep_made (now k : Nat) {e : Nat × Univ} (held : s.univ w e.1 = e.2) :
    (waitStep w now (k, s) e).1 = k + (if e.2.waited now then 1 else 0) ∧
      UnivsMade w (Univ.afterWait now) [e] s (waitStep w now (k, s) e).2 := by
  unfold waitStep
  by_cases due : e.2.waited now = true
  · have becomes : e.2.afterWait now = e.2.unsynced := if_pos due
    have some_ : e.2.afterWait now ≠ Univ.empty := fun c => by
      have marked := unsynced_syncLost e.2
      rw [← becomes, c] at marked
      cases marked
    rw [if_pos due, if_pos due, ← becomes]
    exact ⟨rfl, .one some_ s⟩
  · rw [if_neg due, if_neg due]
    exact ⟨rfl, .none held (if_neg due)⟩

theorem exec_sacnSyncLoss (t : Nat) (w : Twin) (s : State) :
    exec (.sacnSyncLoss t w) s =
      (let r := ((s.beginAt t).tw w).net.univ.foldl (waitStep w ((s.beginAt t).tbNow 3)) (0, s.beginAt t)
       if r.1 = 0 then .next r.2 else .next (r.2.raiseFirst w 45 0)) := rfl

/-! ### Events once in a tick interval -/

/-- Ingest is as events leave it. -/
theorem Evt.net (h : Evt s u) (v : Twin) : (u.tw v).net = (s.tw v).net := by
  rw [h.rest]
  cases v <;> rfl

theorem Evt.univ (h : Evt s u) (v : Twin) (e : Nat) : u.univ v e = s.univ v e := by rw [State.univ, h.net]; rfl

theorem Evt.raiseFirst (h : Evt s0 s) (w : Twin) {n : Nat} (data : Nat) (hn : n < 256 := by decide) : Evt s0 (s.raiseFirst w n data) :=
  .ite h ((h.mark w n data).raiseTwin w n data hn)

/-- An event that has not been raised in the tick interval is raised. -/
theorem evtTwinPending_raiseFirst (wf : s.regsWf = true) {n : Nat} (fresh : (s.tw w).marked n = false) (data : Nat) (hn : n < 256 := by decide) :
    (s.raiseFirst w n data).evtTwinPending w n = true := by
  have unmarked : ¬ (s.tw w).marked n = true := by rw [fresh]; decide
  rw [State.raiseFirst, if_neg unmarked]
  exact evtTwinPending_raiseTwin (by rw [modTw_regsWf]; exact wf) w data hn

/-- What raising events may change is within every frame. -/
theorem Evt.framed {l p : Nat → Bool} (h : Evt s u) (tidy : s.tidy = true) : framed l p s u := by
  obtain ⟨wf, mem⟩ := tidy_iff.1 tidy
  refine ⟨?_, fun a _ ha => (h.regs wf).2 a ha, fun a _ ha => (h.bytes mem).2 a ha⟩
  rw [h.rest]
  rfl

theorem framed.trans {l p : Nat → Bool} {x : State} (h : framed l p s u) (g : framed l p u x) : framed l p s x := by
  refine ⟨?_, fun a ha he => (g.regs a ha he).trans (h.regs a ha he), fun a ha he => (g.bytes a ha he).trans (h.bytes a ha he)⟩
  rw [g.rest, h.rest]

/-! ### The losses -/

variable {g : Univ → Univ} {l : List (Nat × Univ)}

theorem UnivsMade.framed {r p : Nat → Bool} (h : UnivsMade w g l s u) : framed r p s u := by
  have rest := h.rest
  generalize u.a = a at rest
  generalize u.b = b at rest
  subst rest
  exact ⟨rfl, fun _ _ _ => rfl, fun _ _ _ => rfl⟩

theorem UnivsMade.tidy (h : UnivsMade w g l s u) : u.tidy = s.tidy := by rw [h.rest]; rfl

theorem univ_beginAt (s : State) (t : Nat) (w : Twin) (e : Nat) : (s.beginAt t).univ w e = s.univ w e := by
  rw [State.univ, State.beginAt_tw]
  rfl

/-- Every universe has become what `g` makes of it. -/
theorem UnivsMade.univ {t : Nat} (h : UnivsMade w g (s.tw w).net.univ (s.beginAt t) u)
    (wf : Smap.wf (fun _ => Univ.empty) (s.tw w).net.univ = true) (idle : g Univ.empty = Univ.empty) (e : Nat) : u.univ w e = g (s.univ w e) := by
  by_cases listed : ∃ a ∈ (s.tw w).net.univ, a.1 = e
  · obtain ⟨a, ha, rfl⟩ := listed
    have held : s.univ w a.1 = a.2 := Smap.get_of_mem (Smap.pairwise_of_wf wf) ha
    rw [held, h.made a ha]
  · have none_ : s.univ w e = Univ.empty := by
      by_contra some_
      exact listed ⟨_, Smap.mem_of_get_ne some_, rfl⟩
    rw [h.kept e fun a ha c => listed ⟨a, ha, c⟩, univ_beginAt, none_, idle]

theorem mem_univ {e : Nat} (some_ : (s.univ w e).srcs ≠ []) :
    (e, s.univ w e) ∈ (s.tw w).net.univ :=
  Smap.mem_of_get_ne (d := Univ.empty) fun c => some_ (congrArg Univ.srcs c)

theorem countLost_univ (w : Twin) (n : Nat) (s : State) (e : Nat) : (countLost w n s).univ w e = s.univ w e := by cases w <;> rfl

/-- SACN_SRC_LOSS (R147): every universe without the sources that have sent nothing, and the number of those that were lost. -/
theorem sacnSrcLoss_made (wf : Smap.wf (fun _ => Univ.empty) (s.tw w).net.univ = true) (t : Nat) :
    ∃ x, exec (.sacnSrcLoss t w) s = .next (countLost w ((s.tw w).net.univ.countP (fun e => e.2.loses (heardSince ((s.beginAt t).tbNow 3)))) x) ∧
      UnivsMade w (Univ.left (heardSince ((s.beginAt t).tbNow 3))) (s.tw w).net.univ (s.beginAt t) x := by
  have sorted := Smap.pairwise_of_wf wf
  obtain ⟨count, made⟩ := foldl_univsMade (w := w) (f := leaveStep w (heardSince ((s.beginAt t).tbNow 3)))
    (c := Univ.loses (heardSince ((s.beginAt t).tbNow 3))) (fun k x e held => by
      obtain ⟨loses, made⟩ := leaveUniv_made (heardSince ((s.beginAt t).tbNow 3)) held
      exact ⟨by rw [← loses]; rfl, made⟩) (s.tw w).net.univ 0 (s.beginAt t) sorted
      (fun e he => (univ_beginAt s t w e.1).trans (Smap.get_of_mem sorted he))
  rw [Nat.zero_add] at count
  refine ⟨_, ?_, made⟩
  rw [exec_sacnSrcLoss, State.beginAt_tw, count]

/-- SACN_SYNC_LOSS (R152): every universe whose pending copy has waited is marked. -/
theorem sacnSyncLoss_made (wf : Smap.wf (fun _ => Univ.empty) (s.tw w).net.univ = true) (t : Nat) :
    ∃ x, exec (.sacnSyncLoss t w) s =
        .next (if (s.tw w).net.univ.countP (fun e => e.2.waited ((s.beginAt t).tbNow 3)) = 0 then x else x.raiseFirst w 45 0) ∧
      UnivsMade w (Univ.afterWait ((s.beginAt t).tbNow 3)) (s.tw w).net.univ (s.beginAt t) x := by
  have sorted := Smap.pairwise_of_wf wf
  obtain ⟨count, made⟩ := foldl_univsMade (w := w) (fun k x e held => waitStep_made ((s.beginAt t).tbNow 3) k held) (s.tw w).net.univ 0 (s.beginAt t)
    sorted (fun e he => (univ_beginAt s t w e.1).trans (Smap.get_of_mem sorted he))
  rw [Nat.zero_add] at count
  refine ⟨_, ?_, made⟩
  rw [exec_sacnSyncLoss, State.beginAt_tw]
  dsimp only
  rw [count]
  split <;> rfl

/-- E43 (R147): the number of the universes lost in the interval is taken, and the event raised. -/
theorem lostEvent_raises (wf : s.regsWf = true) (some_ : (s.tw w).net.lost ≠ 0) :
    (lostEvent w s).evtTwinPending w 43 = true ∧ ((lostEvent w s).tw w).net.lost = 0 := by
  have wf' : (s.modNet w (fun x => { x with lost := 0 })).regsWf = true := (modTw_regsWf _ _ _).trans wf
  rw [lostEvent, if_neg some_]
  refine ⟨evtTwinPending_raiseTwin wf' w _, ?_⟩
  rw [((Evt.refl _).raiseTwin _ _ _ (by decide)).net, State.modNet, State.modTw_tw]

/-- The universe of a source whose pending copy has waited for synchronisation. -/
theorem waited_of_pend {now : Nat} {v : Univ} {y : SacnSrc} {p : SacnPend} (src : y ∈ v.srcs) (pend : y.pend = some p)
    (due : p.since + sacnTimeout ≤ now) (synced : v.syncLost = false) : v.waited now = true := by
  have old : pendDue now y = true := by rw [pendDue, pend]; exact decide_eq_true due
  rw [Univ.waited, List.any_eq_true.2 ⟨y, src, old⟩, synced]
  rfl

theorem afterWait_syncLost {now : Nat} {v : Univ} {y : SacnSrc} {p : SacnPend} (src : y ∈ v.srcs) (pend : y.pend = some p)
    (due : p.since + sacnTimeout ≤ now) : (v.afterWait now).syncLost = true := by
  unfold Univ.afterWait
  split
  next => exact unsynced_syncLost v
  next fresh =>
    cases synced : v.syncLost with
    | true => rfl
    | false => exact absurd (waited_of_pend src pend due synced) fresh

/-- ST_FLOW_LOSS of a flow that has completed no frame for its time (R159). -/
theorem exec_stFlowLoss {t : Nat} {f : Fin 8} (on : s.flowOn w f = true) (complete : (s.flow w f).st = 2)
    (old : (s.flow w f).doneAt + 1000000000 ≤ (s.beginAt t).tbNow 3) :
    exec (.stFlowLoss t w f) s = .next (((s.beginAt t).setFlow w f { s.flow w f with st := 3 }).raiseTwin w 47 f) := by
  have same : (s.beginAt t).flow w f = s.flow w f := by rw [State.flow, State.beginAt_tw]; rfl
  change execStFlowLoss t w f s = _
  unfold execStFlowLoss
  extract_lets s1 x
  have held : x = s.flow w f := same
  rw [held]
  exact if_pos ⟨on, complete, old⟩

theorem flow_setFlow_self {v : StFlow} (some_ : v ≠ StFlow.reset) (s : State) (w : Twin) (f : Nat) : (s.setFlow w f v).flow w f = v := by
  cases w <;> exact Smap.get_put_self some_ f _

/-! ### What each loss leaves -/

/-- After SACN_SRC_LOSS (R147) the sources that remain have sent something in time, and a universe whose sources had all fallen silent is lost and
keeps its values. -/
theorem sacnSrcLoss_marks (listed : Smap.wf (fun _ => Univ.empty) (s.tw w).net.univ = true) (t : Nat) :
    ∃ u, exec (.sacnSrcLoss t w) s = .next u ∧ (∀ e y, y ∈ (u.univ w e).srcs → (s.beginAt t).tbNow 3 < y.heard + sacnTimeout) ∧
      (∀ e, (s.univ w e).srcs ≠ [] → (∀ y ∈ (s.univ w e).srcs, y.heard + sacnTimeout ≤ (s.beginAt t).tbNow 3) →
        (u.univ w e).lost = true ∧ (u.univ w e).fill = (s.univ w e).fill ∧ (s.tw w).net.lost < (u.tw w).net.lost) ∧
      u = { s.beginAt t with a := u.a, b := u.b } ∧ u.tw w.other = s.tw w.other := by
  obtain ⟨x, run, made⟩ := sacnSrcLoss_made listed t
  generalize (s.beginAt t).tbNow 3 = now at run made ⊢
  have univ : ∀ e, (countLost w ((s.tw w).net.univ.countP (fun e => e.2.loses (heardSince now))) x).univ w e = (s.univ w e).left (heardSince now) :=
    fun e => (countLost_univ _ _ _ _).trans (made.univ listed (if_pos rfl) e)
  refine ⟨_, run, fun e y remains => ?_, fun e had gone => ?_, ?_, ?_⟩
  · rw [univ, left_srcs] at remains
    exact of_decide_eq_true (List.mem_filter.1 remains).2
  · have all : (s.univ w e).srcs.filter (heardSince now) = [] :=
      List.filter_eq_nil_iff.2 fun y hy c => Nat.not_lt.2 (gone y hy) (of_decide_eq_true c)
    obtain ⟨loses, left⟩ := left_all_gone had all
    have counted : 0 < (s.tw w).net.univ.countP (fun e => e.2.loses (heardSince now)) := List.countP_pos_iff.2 ⟨_, mem_univ had, loses⟩
    have held : (x.tw w).net.lost = (s.tw w).net.lost := by rw [made.lost, State.beginAt_tw]
    rw [univ, left, countLost, State.modNet, State.modTw_tw]
    exact ⟨rfl, rfl, held ▸ Nat.lt_add_of_pos_right counted⟩
  · rw [made.rest]
    cases w <;> rfl
  · rw [← State.beginAt_tw s t w.other, ← made.other]
    cases w <;> rfl

/-- After SACN_SYNC_LOSS (R152) a universe whose pending copy has waited is marked, and E45 is pending where one was marked first in the tick
interval. -/
theorem sacnSyncLoss_marks (tidy : s.tidy = true) (listed : Smap.wf (fun _ => Univ.empty) (s.tw w).net.univ = true) (t : Nat) :
    ∃ u, exec (.sacnSyncLoss t w) s = .next u ∧
      (∀ e y p, y ∈ (s.univ w e).srcs → y.pend = some p → p.since + sacnTimeout ≤ (s.beginAt t).tbNow 3 → (u.univ w e).syncLost = true) ∧
      (∀ e y p, y ∈ (s.univ w e).srcs → y.pend = some p → p.since + sacnTimeout ≤ (s.beginAt t).tbNow 3 → (s.univ w e).syncLost = false →
        (s.tw w).marked 45 = false → u.evtTwinPending w 45 = true) ∧
      framed nowhere nowhere (s.beginAt t) u := by
  obtain ⟨x, run, made⟩ := sacnSyncLoss_made listed t
  generalize (s.beginAt t).tbNow 3 = now at run made ⊢
  have tidyx : x.tidy = true := made.tidy.trans tidy
  have event : Evt x (if (s.tw w).net.univ.countP (fun e => e.2.waited now) = 0 then x else x.raiseFirst w 45 0) :=
    .ite (.refl x) ((Evt.refl x).raiseFirst w 0)
  refine ⟨_, run, fun e y p src pend due => ?_, fun e y p src pend due synced fresh => ?_, made.framed.trans (event.framed tidyx)⟩
  · rw [event.univ, made.univ listed rfl]
    exact afterWait_syncLost src pend due
  · have counted : 0 < (s.tw w).net.univ.countP (fun e => e.2.waited now) :=
      List.countP_pos_iff.2 ⟨_, mem_univ (List.ne_nil_of_mem src), waited_of_pend src pend due synced⟩
    have fresh' : (x.tw w).marked 45 = false := by
      rw [TwinState.marked, made.once, State.beginAt_tw]
      exact fresh
    rw [if_neg (Nat.ne_of_gt counted)]
    exact evtTwinPending_raiseFirst (tidy_iff.1 tidyx).1 fresh' 0

/-- A flow in LOSS (R159): E47 is pending, and nothing else of the twin has changed. -/
theorem flowLoss_marks (tidy : s.tidy = true) (t : Nat) (w : Twin) (f : Fin 8) :
    ∃ u, ((s.beginAt t).setFlow w f { s.flow w f with st := 3 }).raiseTwin w 47 f = u ∧ (u.flow w f).st = 3 ∧ u.evtTwinPending w 47 = true ∧
      eventsOnly ((s.beginAt t).setFlow w f { s.flow w f with st := 3 }) u := by
  have changed : ({ s.flow w f with st := 3 } : StFlow) ≠ StFlow.reset := fun c => by cases congrArg StFlow.st c
  have self := flow_setFlow_self changed (s.beginAt t) w f
  have tidy' : ((s.beginAt t).setFlow w f { s.flow w f with st := 3 }).tidy = true := by cases w <;> exact tidy
  generalize (s.beginAt t).setFlow w f { s.flow w f with st := 3 } = x at self tidy' ⊢
  obtain ⟨wf, mem⟩ := tidy_iff.1 tidy'
  have event : Evt x (x.raiseTwin w 47 f) := (Evt.refl x).raiseTwin w 47 f (by decide)
  have flow : (x.raiseTwin w 47 f).flow w f = x.flow w f := by rw [State.flow, event.net]; rfl
  exact ⟨_, rfl, by rw [flow, self], evtTwinPending_raiseTwin wf w _, event.only wf mem⟩

/-- Settles O26: the sources that leave and the pending copies that have waited, universe by universe, and the event of each loss. -/
theorem lossesAreMarked : Obligations.LossesAreMarked := by
  unfold Obligations.LossesAreMarked
  intro s t w tidy now
  refine ⟨fun listed => ⟨sacnSrcLoss_marks listed t, lostEvent_raises (tidy_iff.1 tidy).1, sacnSyncLoss_marks tidy listed t⟩,
    fun f on complete old => ?_⟩
  obtain ⟨u, raised, lost⟩ := flowLoss_marks tidy t w f
  exact ⟨u, (exec_stFlowLoss on complete old).trans (congrArg _ raised), lost⟩

end Sys2Proof.Machine
end

section
/-!
SUPPORT. One network port of one twin (chapter 5): what a step of it leaves of everything else, and the two twins' steps together.
-/
namespace Sys2Proof.Machine

set_option Elab.async false

variable {s0 s u : State} {w o v : Twin} {n : Fin 4} {p : Nat → Bool}

theorem other_ne (w : Twin) : w.other ≠ w := by cases w <;> decide

theorem eq_other (h : o ≠ w) : o = w.other := by
  revert h
  cases o <;> cases w <;> decide

/-! ### The registers and the transmit ring of a port -/

/-- The registers of network port `n` of twin `o`. -/
def portRegs (o : Twin) (n a : Nat) : Bool := decide (o.base + 0x30000 + n * 0x100 ≤ a ∧ a < o.base + 0x30000 + n * 0x100 + 0x100)

/-- The transmit descriptors of network port `n` of twin `o` (R161). -/
def portRing (o : Twin) (n a : Nat) : Bool := decide (txDesc o n 0 ≤ a ∧ a < txDesc o n 0 + 0x10000)

/-- The transmit descriptors of network port `n` of both twins. -/
def netRing (n a : Nat) : Bool := twins.any (fun y => portRing y n a)

theorem netReg_of_portRegs {a : Nat} (h : portRegs o n a = true) : netReg n a = true :=
  List.any_eq_true.2 ⟨o, by cases o <;> decide, h⟩

theorem netRing_of_portRing {a : Nat} (h : portRing o n a = true) : netRing n a = true :=
  List.any_eq_true.2 ⟨o, by cases o <;> decide, h⟩

/-- A register at its place in the block of a port. -/
theorem portRegs_at (o : Twin) (n : Nat) {c : Nat} (lo : 0x30000 ≤ c := by decide) (hi : c < 0x30100 := by decide) :
    portRegs o n (o.base + c + n * 0x100) = true := decide_eq_true (by omega)

theorem portRegs_link (o : Twin) (n : Nat) : portRegs o n (Reg.NET_LINK o n) = true := portRegs_at o n
theorem portRegs_head (o : Twin) (n : Nat) : portRegs o n (Reg.NET_TX_HEAD o n) = true := portRegs_at o n
theorem portRegs_tail (o : Twin) (n : Nat) : portRegs o n (Reg.NET_TX_TAIL o n) = true := portRegs_at o n
theorem portRegs_frames (o : Twin) (n : Nat) : portRegs o n (Reg.NET_TX_FRAMES o n) = true := portRegs_at o n
theorem portRegs_bytes (o : Twin) (n : Nat) : portRegs o n (Reg.NET_TX_BYTES o n) = true := portRegs_at o n

/-- No register of a port is one that events change. -/
theorem evtReg_port {a : Nat} (h : portRegs w n a = true) : evtReg a = false := by
  have few := n.isLt
  have inside := of_decide_eq_true h
  cases w <;>
  · simp only [Twin.base] at inside
    simp [evtReg, twins, Reg.EVT_PEND, Reg.EVT_LOG_HEAD, Reg.EVT_LOG_STAT, Reg.EVT_TPEND, Reg.EVT_TSTAT, Reg.BANK_VIOL, Reg.SORUS_CNT,
      Reg.SORUS_QCNT, Twin.base]
    omega

/-- The two twins' ports have no register in common. -/
theorem portRegs_apart (ne : o ≠ w) {a : Nat} (h : portRegs w n a = true) : portRegs o n a = false := by
  have few := n.isLt
  have inside := of_decide_eq_true h
  rw [eq_other ne]
  refine decide_eq_false ?_
  cases w <;> simp only [Twin.base, Twin.other] at inside ⊢ <;> omega

/-- No register of a port holds pending bits. -/
theorem twinPendReg_port {a : Nat} (h : portRegs o n a = true) (v : Twin) : twinPendReg v a = false := by
  have few := n.isLt
  have inside := of_decide_eq_true h
  refine decide_eq_false ?_
  cases o <;> cases v <;> simp only [Twin.base, Reg.EVT_TPEND] at inside ⊢ <;> omega

/-- The descriptors lie in the twin's DRAM. -/
theorem txDesc_eq (o : Twin) (n i : Nat) : txDesc o n i = txDesc o n 0 + i % 4096 * 16 := by
  cases o <;> simp only [txDesc, Addr.dram] <;> omega

/-- The bytes of a descriptor lie in its ring. -/
theorem portRing_txDesc (o : Twin) (n i : Nat) {k : Nat} (hk : k < 16 := by decide) : portRing o n (txDesc o n i + k) = true := by
  rw [txDesc_eq]
  exact decide_eq_true (by omega)

/-- Bytes that the port of twin `o` never writes, and no event: the DRAM of the other twin and the images. -/
def foreignByte (o : Twin) (n a : Nat) : Bool := !portRing o n a && !evtByte a

theorem foreignByte_dram (ne : o ≠ w) (n : Fin 4) {off : Nat} (h : off < 0x1000000000) : foreignByte o n (Addr.dram w off) = true := by
  have few := n.isLt
  have ring : portRing o n (Addr.dram w off) = false := by
    rw [eq_other ne]
    refine decide_eq_false ?_
    cases w <;> simp only [txDesc, Addr.dram, netRegion, Twin.other] <;> omega
  have log : evtByte (Addr.dram w off) = false := by
    refine decide_eq_false ?_
    cases w <;> simp only [Addr.dram] <;> omega
  rw [foreignByte, ring, log]
  rfl

theorem foreignByte_img (o : Twin) (n : Fin 4) (w : Twin) (ty inst off : Nat) : foreignByte o n (Addr.img w ty inst off) = true := by
  have few := n.isLt
  have ring : portRing o n (Addr.img w ty inst off) = false := by
    refine decide_eq_false ?_
    unfold Addr.img
    cases o <;> simp only [txDesc, Addr.dram, netRegion] <;> omega
  rw [foreignByte, ring, evtByte_img]
  rfl

/-! ### Runs of bytes -/

theorem rdBytes_congr : ∀ {n a : Nat}, (∀ i, i < n → u.rdB (a + i) = s.rdB (a + i)) → u.rdBytes a n = s.rdBytes a n
  | 0, _, _ => rfl
  | n + 1, a, same => by
    have tail : u.rdBytes (a + 1) n = s.rdBytes (a + 1) n := rdBytes_congr fun i hi => by
      have := same (i + 1) (by omega)
      rwa [show a + (i + 1) = a + 1 + i by omega] at this
    rw [State.rdBytes, State.rdBytes, tail, show u.rdB a = s.rdB a from same 0 (by omega)]

theorem rdLE_congr {a n : Nat} (same : ∀ i, i < n → u.rdB (a + i) = s.rdB (a + i)) : u.rdLE a n = s.rdLE a n :=
  congrArg leNat (rdBytes_congr same)

/-! ### Frames -/

theorem onlyAt.trans {l : List Nat} {p : Nat → Bool} {x : State} (h : onlyAt l p s u) (g : onlyAt l p u x) : onlyAt l p s x := by
  refine ⟨?_, fun a ha => (g.regs a ha).trans (h.regs a ha), fun a ha => (g.bytes a ha).trans (h.bytes a ha)⟩
  rw [g.rest, h.rest]

theorem onlyAt.mono {l l' : List Nat} {p p' : Nat → Bool} (h : onlyAt l p s u) (regs : l ⊆ l') (bytes : ∀ a, p a = true → p' a = true) :
    onlyAt l' p' s u :=
  ⟨h.rest, fun a ha => h.regs a (fun mem => ha (regs mem)), fun a ha => h.bytes a (Bool.eq_false_iff.2 fun c => Bool.eq_false_iff.1 ha (bytes a c))⟩

theorem onlyRegs.onlyAt {l : List Nat} (h : onlyRegs l s u) (p : Nat → Bool) : onlyAt l p s u := by
  obtain ⟨rest, regs⟩ := h
  generalize u.regs = r at rest
  generalize u.clock = c at rest
  subst rest
  exact ⟨rfl, regs, fun _ _ => rfl⟩

theorem onlyAt.framed {l : List Nat} {r p : Nat → Bool} (h : onlyAt l p s u) (sub : ∀ a ∈ l, r a = true) : framed r p s u := by
  refine ⟨?_, fun a ha _ => h.regs a (fun mem => Bool.eq_false_iff.1 ha (sub a mem)), fun a ha _ => h.bytes a ha⟩
  rw [h.rest]

theorem framed.mono {r r' p p' : Nat → Bool} (h : framed r p s u) (regs : ∀ a, r a = true → r' a = true) (bytes : ∀ a, p a = true → p' a = true) :
    framed r' p' s u :=
  ⟨h.rest, fun a ha => h.regs a (Bool.eq_false_iff.2 fun c => Bool.eq_false_iff.1 ha (regs a c)),
    fun a ha => h.bytes a (Bool.eq_false_iff.2 fun c => Bool.eq_false_iff.1 ha (bytes a c))⟩

/-! ### A step of one port -/

/-- From `s` to `u` port `n` of twin `o` has made a step: registers of the port, bytes that `p` picks, what raising events may change, and what
that twin's ingest holds. -/
structure PortStep (p : Nat → Bool) (o : Twin) (n : Fin 4) (s u : State) : Prop where
  tidy : u.tidy = true
  frame : framed (portRegs o n) p s u
  net : ∀ v, v ≠ o → (u.tw v).net = (s.tw v).net
  pend : ∀ v, TwinPendKept v s u

theorem PortStep.refl (tidy : s.tidy = true) (o : Twin) (n : Fin 4) : PortStep p o n s s :=
  ⟨tidy, ⟨rfl, fun _ _ _ => rfl, fun _ _ _ => rfl⟩, fun _ _ => rfl, fun v => .refl v s⟩

theorem PortStep.trans (h : PortStep p o n s0 s) (g : PortStep p o n s u) : PortStep p o n s0 u :=
  ⟨g.tidy, h.frame.trans g.frame, fun v ne => (g.net v ne).trans (h.net v ne), fun v => (h.pend v).trans (g.pend v)⟩

/-- A step that changes registers of the port and bytes alone. -/
theorem PortStep.of_onlyAt {l : List Nat} (h : onlyAt l p s u) (tidy : u.tidy = true) (sub : ∀ a ∈ l, portRegs o n a = true) :
    PortStep p o n s u := by
  refine ⟨tidy, h.framed sub, fun v _ => ?_, fun v => .of_regsKept fun _ => ⟨(tidy_iff.1 tidy).1, fun a ha => h.regs a fun mem => ?_⟩⟩
  · rw [h.rest]
    cases v <;> rfl
  · rw [twinPendReg_port (sub a mem) v] at ha
    cases ha

theorem PortStep.of_onlyRegs {l : List Nat} (h : onlyRegs l s u) (tidy : u.tidy = true) (sub : ∀ a ∈ l, portRegs o n a = true) : PortStep p o n s u :=
  .of_onlyAt (h.onlyAt _) tidy sub

theorem Evt.tidy (h : Evt s u) (tidy : s.tidy = true) : u.tidy = true := by
  obtain ⟨wf, mem⟩ := tidy_iff.1 tidy
  exact tidy_iff.2 ⟨(h.regs wf).1, (h.bytes mem).1⟩

theorem PortStep.raiseTwin (tidy : s.tidy = true) (o : Twin) (n : Fin 4) (w : Twin) {m : Nat} (data : Nat) (hm : m < 256 := by decide) :
    PortStep p o n s (s.raiseTwin w m data) := by
  have event : Evt s (s.raiseTwin w m data) := (Evt.refl s).raiseTwin w m data hm
  exact ⟨event.tidy tidy, event.framed tidy, fun v _ => event.net v, fun v => (TwinPendKept.refl v s).raiseTwin w m data⟩

theorem PortStep.modNet (tidy : s.tidy = true) (o : Twin) (n : Fin 4) (f : Net → Net) : PortStep p o n s (s.modNet o f) := by
  refine ⟨by cases o <;> exact tidy, ?_, fun v ne => ?_, fun v => .of_regsKept (.of_regs (modTw_regs _ _ _))⟩
  · cases o <;> exact ⟨rfl, fun _ _ _ => rfl, fun _ _ _ => rfl⟩
  · rw [State.modNet, State.modTw_tw_other _ _ ne]

section
variable (h : PortStep p o n s u)
include h

theorem PortStep.now : u.now = s.now := by rw [h.frame.rest]

theorem PortStep.role : u.role = s.role := by rw [h.frame.rest]

/-- The registers of the other twin's port. -/
theorem PortStep.reg (ne : o ≠ w) {a : Nat} (ha : portRegs w n a = true) : u.reg a = s.reg a :=
  h.frame.regs a (portRegs_apart ne ha) (evtReg_port ha)

theorem PortStep.rf (ne : o ≠ w) {a : Nat} (ha : portRegs w n a = true) (f : Fld) (low : f.hi < 32 := by decide) : u.rf a f = s.rf a f := by
  rw [rf_eq_getFld _ _ _ low, rf_eq_getFld _ _ _ low, h.reg ne ha]

theorem PortStep.rb (ne : o ≠ w) {a : Nat} (ha : portRegs w n a = true) (f : Fld) (low : f.hi < 32 := by decide) : u.rb a f = s.rb a f :=
  rb_congr a f low (h.reg ne ha)

end

theorem PortStep.byte (h : PortStep (portRing o n) o n s u) {a : Nat} (ha : foreignByte o n a = true) : u.rdB a = s.rdB a := by
  simp only [foreignByte, Bool.and_eq_true, Bool.not_eq_true'] at ha
  exact h.frame.bytes a ha.1 ha.2

/-- What the image says of a port. -/
theorem PortStep.ent (h : PortStep (portRing o n) o n s u) (w : Twin) (ty inst idx off k : Nat) :
    u.ent w ty inst idx off k = s.ent w ty inst idx off k :=
  rdLE_congr fun i _ => by
    have img : entryAddr w ty inst idx + off + i = Addr.img w ty inst (idx * entrySize ty inst + off + i) := by
      simp only [entryAddr, Addr.img]; omega
    rw [img]
    exact h.byte (foreignByte_img o n w ty inst _)

/-! ### The steps of both twins -/

theorem each_keeps {P : State → Prop} {p : Twin → Bool} {f : Twin → State → State} (h : P s) (step : ∀ w x, P x → P (f w x)) : P (s.each p f) := by
  unfold State.each
  split
  · split
    · exact step _ _ (step _ _ h)
    · exact step _ _ h
  · split
    · exact step _ _ h
    · exact h

/-- A twin that takes part makes its own step, with the other twin's step before it or after it. -/
theorem each_around {R : State → State → Prop} {p : Twin → Bool} {f : Twin → State → State} (pw : p w = true) (same : ∀ x, R x x)
    (step : ∀ x, R x (f w.other x)) (s : State) : ∃ x, R s x ∧ R (f w x) (s.each p f) := by
  unfold State.each
  cases w with
  | a =>
    refine ⟨s, same s, ?_⟩
    rw [pw]
    dsimp only [if_true]
    split
    · exact step _
    · exact same _
  | b =>
    refine ⟨if p .a then f .a s else s, ?_, ?_⟩
    · split
      · exact step _
      · exact same _
    · rw [if_pos pw]
      exact same _

/-- The two twins' steps change registers of the port and bytes alone, beside events. -/
theorem each_portFramed {q : Twin → Nat → Bool} {p : Twin → Bool} {f : Twin → State → State} (tidy : s.tidy = true)
    (step : ∀ o x, x.tidy = true → PortStep (q o) o n x (f o x)) {r : Nat → Bool} (sub : ∀ o a, q o a = true → r a = true) :
    framed (netReg n) r s (s.each p f) := by
  have both : (s.each p f).tidy = true ∧ framed (netReg n) r s (s.each p f) :=
    each_keeps (P := fun x => x.tidy = true ∧ framed (netReg n) r s x) ⟨tidy, rfl, fun _ _ _ => rfl, fun _ _ _ => rfl⟩ fun o x hx =>
      have own := step o x hx.1
      ⟨own.tidy, hx.2.trans (own.frame.mono (fun _ => netReg_of_portRegs) (sub o))⟩
  exact both.2

/-- A twin whose port takes part makes its own step, with the other twin's step before it or after it. -/
theorem each_ports {p : Twin → Bool} {f : Twin → State → State} (pw : p w = true) (tidy : s.tidy = true)
    (step : ∀ o x, x.tidy = true → PortStep (portRing o n) o n x (f o x)) :
    ∃ x, PortStep (portRing w.other n) w.other n s x ∧ PortStep (portRing w.other n) w.other n (f w x) (s.each p f) := by
  obtain ⟨x, before, after⟩ := each_around (R := fun s u => s.tidy = true → PortStep (portRing w.other n) w.other n s u) pw
    (fun _ tidy => .refl tidy _ _) (fun x tidy => step w.other x tidy) s
  exact ⟨x, before tidy, after (step w x (before tidy).tidy).tidy⟩

end Sys2Proof.Machine
end

section
/-!
The transmit ring, the pool and the links of a port (R134, R140, R149, R161).
-/
namespace Sys2Proof.Machine

set_option Elab.async false

variable {s0 s u : State} {w o : Twin} {n : Fin 4} {p : Nat → Bool}

/-! ### The transmit ring (R134, R161) -/

/-- HEAD and TAIL of a transmit ring. -/
def State.txHead (s : State) (w : Twin) (n : Nat) : Nat := s.rf (Reg.NET_TX_HEAD w n) Fld.NET_TX_HEAD_HEAD
def State.txTail (s : State) (w : Twin) (n : Nat) : Nat := s.rf (Reg.NET_TX_TAIL w n) Fld.NET_TX_TAIL_TAIL

theorem head_ne_tail (w : Twin) (n : Nat) : Reg.NET_TX_TAIL w n ≠ Reg.NET_TX_HEAD w n := by
  unfold Reg.NET_TX_TAIL Reg.NET_TX_HEAD
  omega

/-- A MAC that is done with a descriptor writes its STATUS and advances HEAD. -/
structure DescDone (w : Twin) (n : Fin 4) (status : Nat) (s u : State) : Prop where
  tidy : u.tidy = true
  only : onlyAt [Reg.NET_TX_HEAD w n] (portRing w n) s u
  head : u.txHead w n = (s.txHead w n + 1) % 4096
  status : u.rdB (txDesc w n (s.txHead w n) + 7) = BitVec.ofNat 8 status

theorem doneDesc_done (tidy : s.tidy = true) (w : Twin) (n : Fin 4) (status : Nat) : DescDone w n status s (doneDesc w n status s) := by
  obtain ⟨wf, mem⟩ := tidy_iff.1 tidy
  unfold doneDesc
  extract_lets h a s1
  have mem' : Memory.wf (s.wrB (a + 7) (BitVec.ofNat 8 status)).mem = true := State.memWf_wrB mem _ _
  have wf1 : s1.regsWf = true := wf
  have mem1 : Memory.wf s1.mem = true := State.memWf_wrB mem' _ _
  obtain ⟨r, eq⟩ := s1.exists_sf (Reg.NET_TX_HEAD w n) Fld.NET_TX_HEAD_HEAD ((h + 1) % 4096)
  have bytes : ∀ x, (s1.sf (Reg.NET_TX_HEAD w n) Fld.NET_TX_HEAD_HEAD ((h + 1) % 4096)).rdB x = s1.rdB x := fun x => by rw [eq]; rfl
  refine ⟨?_, ⟨?_, fun x hx => ?_, fun x hx => ?_⟩, ?_, ?_⟩
  · exact tidy_iff.2 ⟨State.regsWf_sf wf1 _ _ _, by rw [State.sf_mem]; exact mem1⟩
  · rw [eq]
    rfl
  · exact State.reg_sf_ne wf1 _ _ (by decide) (by simpa using hx)
  · have out : ∀ k, k < 16 → x ≠ a + k := fun k hk c => by
      rw [c, portRing_txDesc w n h hk] at hx
      cases hx
    rw [bytes, State.rdB_wrB_ne mem' (out 6 (by decide)), State.rdB_wrB_ne mem (out 7 (by decide))]
  · rw [State.txHead, State.rf_sf_self wf1 _ _ _ (by decide) (by decide)]
    exact Nat.mod_mod _ _
  · change (s1.sf _ _ _).rdB (a + 7) = _
    rw [bytes, State.rdB_wrB_ne mem' (by omega), State.rdB_wrB_self mem]

theorem DescDone.tail {status : Nat} (h : DescDone w n status s u) : u.txTail w n = s.txTail w n := by
  rw [State.txTail, State.txTail, rf_eq_getFld _ _ _ (by decide), rf_eq_getFld _ _ _ (by decide),
    h.only.regs _ (by simpa using head_ne_tail w n)]

theorem discardTx_onlyAt (w : Twin) (n : Fin 4) (fuel : Nat) (tidy : s.tidy = true) :
    (discardTx w n fuel s).tidy = true ∧ onlyAt [Reg.NET_TX_HEAD w n] (portRing w n) s (discardTx w n fuel s) := by
  induction fuel generalizing s with
  | zero => exact ⟨tidy, (onlyRegs.refl _ s).onlyAt _⟩
  | succ fuel ih =>
    rw [discardTx]
    split
    · exact ⟨tidy, (onlyRegs.refl _ s).onlyAt _⟩
    · have first := doneDesc_done tidy w n 2
      obtain ⟨tidy', rest⟩ := ih first.tidy
      exact ⟨tidy', first.only.trans rest⟩

/-- Every queued frame leaves the ring: HEAD reaches TAIL within a round of the ring. -/
theorem discardTx_head (w : Twin) (n : Fin 4) {fuel : Nat} (tidy : s.tidy = true)
    (enough : (s.txTail w n + 4096 - s.txHead w n) % 4096 ≤ fuel) : (discardTx w n fuel s).txHead w n = s.txTail w n := by
  induction fuel generalizing s with
  | zero =>
    have head : s.txHead w n < 4096 := State.rf_lt _ _ _
    have tail : s.txTail w n < 4096 := State.rf_lt _ _ _
    change s.txHead w n = s.txTail w n
    omega
  | succ fuel ih =>
    rw [discardTx]
    split
    next empty => exact empty
    next queued =>
      have head : s.txHead w n < 4096 := State.rf_lt _ _ _
      have tail : s.txTail w n < 4096 := State.rf_lt _ _ _
      have ne : s.txHead w n ≠ s.txTail w n := queued
      have first := doneDesc_done tidy w n 2
      refine (ih first.tidy ?_).trans first.tail
      rw [first.head, first.tail]
      omega

theorem discardTx_empties (w : Twin) (n : Fin 4) (tidy : s.tidy = true) : (discardTx w n 4096 s).txHead w n = s.txTail w n :=
  discardTx_head w n tidy (Nat.le_of_lt (Nat.mod_lt _ (by decide)))

/-! ### A write of TX_TAIL (R161) -/

theorem exec_netTxTail (t : Nat) (via : Via) (n : Fin 4) (v : Word) (s : State) :
    exec (.netTxTail t via n v) s = .next ((s.beginAt t).deliver via (writeTxTail n v)) := rfl

/-- Where a path reaches a twin, the command is made in the twins that it reaches, in order. -/
theorem deliver_each {via : Via} (hw : w ∈ (s.reach via).1) : ∃ p : Twin → Bool, p w = true ∧ ∀ f, s.deliver via f = s.each p f := by
  obtain ⟨p, pw, reached⟩ := reach_of_mem hw
  refine ⟨p, pw, fun f => ?_⟩
  unfold State.deliver
  rw [reached]
  exact foldl_filter_twins p f s

/-- HEAD and TAIL of port `n` of twin `o`. -/
def ringRegs (o : Twin) (n : Nat) : List Nat := [Reg.NET_TX_TAIL o n, Reg.NET_TX_HEAD o n]

theorem portRegs_ring (o : Twin) (n : Nat) : ∀ a ∈ ringRegs o n, portRegs o n a = true := by
  simp [ringRegs, portRegs_tail, portRegs_head]

/-- A write of TAIL in one twin: TAIL alone on an open link; on a closed one every queued frame is discarded. -/
structure TailWritten (w : Twin) (n : Fin 4) (v : Word) (s u : State) : Prop where
  tidy : u.tidy = true
  only : onlyAt (ringRegs w n) (portRing w n) s u
  tail : u.txTail w n = getFld v Fld.NET_TX_TAIL_TAIL
  opened : s.rb (Reg.NET_LINK w n) Fld.NET_LINK_LINK_UP = true → u.reg (Reg.NET_TX_HEAD w n) = s.reg (Reg.NET_TX_HEAD w n)
  closed : s.rb (Reg.NET_LINK w n) Fld.NET_LINK_LINK_UP = false → u.txHead w n = getFld v Fld.NET_TX_TAIL_TAIL

theorem writeTxTail_written (tidy : s.tidy = true) (w : Twin) (n : Fin 4) (v : Word) : TailWritten w n v s (writeTxTail n v w s) := by
  obtain ⟨wf, mem⟩ := tidy_iff.1 tidy
  have only := onlyRegs_sf wf (Reg.NET_TX_TAIL w n) Fld.NET_TX_TAIL_TAIL (getFld v Fld.NET_TX_TAIL_TAIL) (by decide)
  have tail : (s.sf (Reg.NET_TX_TAIL w n) Fld.NET_TX_TAIL_TAIL (getFld v Fld.NET_TX_TAIL_TAIL)).txTail w n = getFld v Fld.NET_TX_TAIL_TAIL :=
    (State.rf_sf_self wf _ _ _ (by decide) (by decide)).trans (Nat.mod_eq_of_lt (getFld_lt v _))
  have tidy1 : (s.sf (Reg.NET_TX_TAIL w n) Fld.NET_TX_TAIL_TAIL (getFld v Fld.NET_TX_TAIL_TAIL)).tidy = true :=
    tidy_iff.2 ⟨State.regsWf_sf wf _ _ _, by rw [State.sf_mem]; exact mem⟩
  unfold writeTxTail
  extract_lets s1
  change onlyRegs _ s s1 at only
  change s1.txTail w n = _ at tail
  change s1.tidy = true at tidy1
  clear_value s1
  have link : s1.rb (Reg.NET_LINK w n) Fld.NET_LINK_LINK_UP = s.rb (Reg.NET_LINK w n) Fld.NET_LINK_LINK_UP :=
    rb_congr _ _ (by decide) (only.regs _ (by simp [Reg.NET_LINK, Reg.NET_TX_TAIL]))
  have moved : onlyAt (ringRegs w n) (portRing w n) s s1 := (only.mono (by simp [ringRegs])).onlyAt _
  rw [link]
  cases up : s.rb (Reg.NET_LINK w n) Fld.NET_LINK_LINK_UP with
  | true =>
    rw [if_pos rfl]
    exact ⟨tidy1, moved, tail, fun _ => only.regs _ (by simpa using (head_ne_tail w n).symm), fun c => by cases up.symm.trans c⟩
  | false =>
    rw [if_neg Bool.false_ne_true]
    obtain ⟨tidy2, discarded⟩ := discardTx_onlyAt w n 4096 tidy1
    have head := discardTx_empties w n tidy1
    have kept : (discardTx w n 4096 s1).txTail w n = s1.txTail w n := by
      rw [State.txTail, State.txTail, rf_eq_getFld _ _ _ (by decide), rf_eq_getFld _ _ _ (by decide),
        discarded.regs _ (by simpa using head_ne_tail w n)]
    generalize discardTx w n 4096 s1 = x at tidy2 discarded head kept
    exact ⟨tidy2, moved.trans (discarded.mono (by simp [ringRegs]) (fun _ => id)), kept.trans tail, fun c => (by cases up.symm.trans c),
      fun _ => head.trans tail⟩

theorem TailWritten.step {v : Word} (h : TailWritten w n v s u) : PortStep (portRing w n) w n s u := .of_onlyAt h.only h.tidy (portRegs_ring w n)

theorem Evt.now (h : Evt s u) : u.now = s.now := by rw [h.rest]; rfl

theorem TailWritten.around {via : Via} (tidy : s.tidy = true) (hw : w ∈ (s.reach via).1) (n : Fin 4) (v : Word) :
    ∃ x, PortStep (portRing w.other n) w.other n s x ∧ TailWritten w n v x (writeTxTail n v w x) ∧
      PortStep (portRing w.other n) w.other n (writeTxTail n v w x) (s.deliver via (writeTxTail n v)) ∧
      onlyAt [Reg.NET_TX_TAIL .a n, Reg.NET_TX_TAIL .b n, Reg.NET_TX_HEAD .a n, Reg.NET_TX_HEAD .b n] (netRing n) s
        (s.deliver via (writeTxTail n v)) := by
  obtain ⟨p, pw, each⟩ := deliver_each hw
  rw [each]
  obtain ⟨x, before, after⟩ := each_ports pw tidy (fun o _ tidy => (writeTxTail_written tidy o n v).step)
  refine ⟨x, before, writeTxTail_written before.tidy w n v, after, ?_⟩
  refine (each_keeps (P := fun x => x.tidy = true ∧ onlyAt _ (netRing n) s x) ⟨tidy, (onlyRegs.refl _ s).onlyAt _⟩ fun o x hx => ?_).2
  have written := writeTxTail_written hx.1 o n v
  exact ⟨written.tidy, hx.2.trans (written.only.mono (by cases o <;> simp [ringRegs]) fun _ => netRing_of_portRing)⟩

/-- A write of TX_TAIL in a twin that it reaches (R134, R161). -/
theorem netTxTail_moves (tidy : s.tidy = true) (t : Nat) {via : Via} (hw : w ∈ (s.reach via).1) (n : Fin 4) (v : Word) :
    ∃ u, exec (.netTxTail t via n v) s = .next u ∧ u.txTail w n = getFld v Fld.NET_TX_TAIL_TAIL ∧
      (s.rb (Reg.NET_LINK w n) Fld.NET_LINK_LINK_UP = true → u.reg (Reg.NET_TX_HEAD w n) = s.reg (Reg.NET_TX_HEAD w n)) ∧
      (s.rb (Reg.NET_LINK w n) Fld.NET_LINK_LINK_UP = false → u.txHead w n = getFld v Fld.NET_TX_TAIL_TAIL) ∧
      onlyAt [Reg.NET_TX_TAIL .a n, Reg.NET_TX_TAIL .b n, Reg.NET_TX_HEAD .a n, Reg.NET_TX_HEAD .b n] (netRing n) (s.beginAt t) u := by
  obtain ⟨x, before, own, after, only⟩ := TailWritten.around (s := s.beginAt t) tidy (by rwa [reach_beginAt]) n v
  have ne := other_ne w
  have head := portRegs_head w n
  have link := before.rb ne (portRegs_link w n) Fld.NET_LINK_LINK_UP
  refine ⟨_, exec_netTxTail t via n v s, (after.rf ne (portRegs_tail w n) _).trans own.tail, fun up => ?_, fun down => ?_, only⟩
  · exact (after.reg ne head).trans ((own.opened (link.trans up)).trans (before.reg ne head))
  · exact (after.rf ne head _).trans (own.closed (link.trans down))

/-! ### A receive slot given back (R140) -/

theorem exec_netRxfree (t : Nat) (via : Via) (slot : Nat) (s : State) :
    exec (.netRxfree t via slot) s = .next ((s.beginAt t).deliver via (freeSlot slot)) := rfl

theorem netRxfree_frees (t : Nat) {via : Via} (hw : w ∈ (s.reach via).1) (slot : Nat) :
    ∃ u, exec (.netRxfree t via slot) s = .next u ∧
      u.tw w = { s.tw w with net := { (s.tw w).net with pool := (s.tw w).net.pool.filter (fun i => i ≠ slot) } } ∧
      u = { s.beginAt t with a := u.a, b := u.b } := by
  obtain ⟨p, pw, each⟩ := deliver_each (s := s.beginAt t) (by rwa [reach_beginAt])
  obtain ⟨x, before, after⟩ := each_around (R := fun s u => u.tw w = s.tw w) (f := freeSlot slot) pw (fun _ => rfl)
    (fun x => State.modTw_tw_other x _ (other_ne w).symm) (s.beginAt t)
  refine ⟨_, (exec_netRxfree t via slot s).trans (congrArg _ (each _)), ?_, ?_⟩
  · rw [after, freeSlot, State.modNet, State.modTw_tw, before, State.beginAt_tw]
  · refine each_keeps (P := fun x => x = { s.beginAt t with a := x.a, b := x.b }) rfl fun o x hx => ?_
    rw [hx]
    cases o <;> rfl

/-! ### Fields of one bit -/

theorem rb_sb_self (wf : s.regsWf = true) (a : Nat) (f : Fld) (b : Bool) (hl : f.lo ≤ f.hi := by decide) (hf : f.hi < 32 := by decide) :
    (s.sb a f b).rb a f = b := by
  have one : 1 < 2 ^ (f.hi - f.lo + 1) := Nat.one_lt_two_pow (Nat.succ_ne_zero _)
  rw [State.rb, State.sb, State.rf_sf_self wf _ _ _ hl hf]
  cases b with
  | true => simp [Nat.mod_eq_of_lt one]
  | false => simp

theorem rb_sb_other (wf : s.regsWf = true) (a : Nat) (f g : Fld) (b : Bool) (apart : g.hi < f.lo ∨ f.hi < g.lo := by decide)
    (hl : f.lo ≤ f.hi := by decide) (hf : f.hi < 32 := by decide) (hgl : g.lo ≤ g.hi := by decide) (hg : g.hi < 32 := by decide) :
    (s.sb a f b).rb a g = s.rb a g := by
  rw [State.rb, State.rb, State.sb, State.rf_sf_other wf _ _ _ _ hl hf hgl hg apart]

/-! ### Links (R134, R149) -/

/-- From `s` to `u` NET_LINK of a port alone has changed. -/
structure LinkOnly (w : Twin) (n : Fin 4) (s u : State) : Prop where
  tidy : u.tidy = true
  only : onlyRegs [Reg.NET_LINK w n] s u

theorem LinkOnly.sb (tidy : s.tidy = true) (w : Twin) (n : Fin 4) (f : Fld) (b : Bool) (hf : f.hi < 32 := by decide) :
    LinkOnly w n s (s.sb (Reg.NET_LINK w n) f b) := by
  obtain ⟨wf, mem⟩ := tidy_iff.1 tidy
  exact ⟨tidy_iff.2 ⟨State.regsWf_sf wf _ _ _, by rw [State.sb, State.sf_mem]; exact mem⟩, onlyRegs_sf wf _ f _ hf⟩

theorem LinkOnly.trans (h : LinkOnly w n s0 s) (g : LinkOnly w n s u) : LinkOnly w n s0 u := ⟨g.tidy, h.only.trans g.only⟩

theorem LinkOnly.step (h : LinkOnly w n s u) : PortStep p w n s u := .of_onlyRegs h.only h.tidy (by simp [portRegs_link])

theorem LinkOnly.net (h : LinkOnly w n s u) (v : Twin) : (u.tw v).net = (s.tw v).net := by
  rw [h.only.rest]
  cases v <;> rfl

theorem LinkOnly.now (h : LinkOnly w n s u) : u.now = s.now := by rw [h.only.rest]

theorem LinkOnly.wf (h : LinkOnly w n s u) : u.regsWf = true := (tidy_iff.1 h.tidy).1

/-- Block lock without HI_BER. -/
def State.linkLocked (s : State) (w : Twin) (n : Nat) : State :=
  (s.sb (Reg.NET_LINK w n) Fld.NET_LINK_BLOCK_LOCK true).sb (Reg.NET_LINK w n) Fld.NET_LINK_HI_BER false

/-- A change of LINK_UP, with CHG. -/
def State.linkTurned (s : State) (w : Twin) (n : Nat) (up : Bool) : State :=
  (s.sb (Reg.NET_LINK w n) Fld.NET_LINK_LINK_UP up).sb (Reg.NET_LINK w n) Fld.NET_LINK_CHG true

theorem linkLocked_fields (tidy : s.tidy = true) (w : Twin) (n : Fin 4) :
    LinkOnly w n s (s.linkLocked w n) ∧ (s.linkLocked w n).rb (Reg.NET_LINK w n) Fld.NET_LINK_BLOCK_LOCK = true ∧
      (s.linkLocked w n).rb (Reg.NET_LINK w n) Fld.NET_LINK_HI_BER = false ∧
      (s.linkLocked w n).rb (Reg.NET_LINK w n) Fld.NET_LINK_LINK_UP = s.rb (Reg.NET_LINK w n) Fld.NET_LINK_LINK_UP := by
  have first := LinkOnly.sb tidy w n Fld.NET_LINK_BLOCK_LOCK true
  have wf := (tidy_iff.1 tidy).1
  refine ⟨first.trans (.sb first.tidy w n _ _), ?_, rb_sb_self first.wf _ _ _, ?_⟩
  · exact (rb_sb_other first.wf _ _ _ _).trans (rb_sb_self wf _ _ _)
  · exact (rb_sb_other first.wf _ _ _ _).trans (rb_sb_other wf _ _ _ _)

theorem linkTurned_fields (tidy : s.tidy = true) (w : Twin) (n : Fin 4) (up : Bool) :
    LinkOnly w n s (s.linkTurned w n up) ∧ (s.linkTurned w n up).rb (Reg.NET_LINK w n) Fld.NET_LINK_LINK_UP = up ∧
      (s.linkTurned w n up).rb (Reg.NET_LINK w n) Fld.NET_LINK_CHG = true ∧
      (s.linkTurned w n up).rb (Reg.NET_LINK w n) Fld.NET_LINK_BLOCK_LOCK = s.rb (Reg.NET_LINK w n) Fld.NET_LINK_BLOCK_LOCK ∧
      (s.linkTurned w n up).rb (Reg.NET_LINK w n) Fld.NET_LINK_HI_BER = s.rb (Reg.NET_LINK w n) Fld.NET_LINK_HI_BER := by
  have first := LinkOnly.sb tidy w n Fld.NET_LINK_LINK_UP up
  have wf := (tidy_iff.1 tidy).1
  refine ⟨first.trans (.sb first.tidy w n _ _), ?_, rb_sb_self first.wf _ _ _, ?_, ?_⟩
  · exact (rb_sb_other first.wf _ _ _ _).trans (rb_sb_self wf _ _ _)
  · exact (rb_sb_other first.wf _ _ _ _).trans (rb_sb_other wf _ _ _ _)
  · exact (rb_sb_other first.wf _ _ _ _).trans (rb_sb_other wf _ _ _ _)

/-- One twin's port at NET_LINK_UP. -/
def portUp (n : Nat) (w : Twin) (s : State) : State :=
  if s.netMode w n = 0 then s
  else if (s.linkLocked w n).rb (Reg.NET_LINK w n) Fld.NET_LINK_LINK_UP then s.linkLocked w n
  else scheduleState w n none (((s.linkLocked w n).linkTurned w n true).raiseTwin w 40 n)

/-- One twin's port at NET_LINK_DOWN. -/
def portDown (hiBer : Bool) (n : Nat) (w : Twin) (s : State) : State :=
  linkDown w n (if hiBer then s.sb (Reg.NET_LINK w n) Fld.NET_LINK_HI_BER true else s.sb (Reg.NET_LINK w n) Fld.NET_LINK_BLOCK_LOCK false)

/-- The ports of a twin run unless it is OFF. -/
def State.netOn (s : State) (w : Twin) : Bool := decide (s.roleOf w ≠ .off)

theorem netOn_beginAt (t : Nat) (on : s.roleOf w ≠ .off) : (s.beginAt t).netOn w = true := by
  rw [State.netOn, State.beginAt_roleOf]
  exact decide_eq_true on

theorem exec_netLinkUp (t : Nat) (n : Fin 4) (s : State) :
    exec (.netLinkUp t n) s = .next ((s.beginAt t).each (s.beginAt t).netOn (portUp n)) :=
  congrArg Host.Outcome.next (foldl_filter_twins _ (portUp n) (s.beginAt t))

theorem exec_netLinkDown (t : Nat) (n : Fin 4) (hiBer : Bool) (s : State) :
    exec (.netLinkDown t n hiBer) s = .next ((s.beginAt t).each (s.beginAt t).netOn (portDown hiBer n)) :=
  congrArg Host.Outcome.next (foldl_filter_twins _ (portDown hiBer n) (s.beginAt t))

/-- The state reports of a port whose link came up at an instant (R149). -/
def upReports (n now : Nat) : List Report :=
  [⟨n, now, false, false, none⟩, ⟨n, now + 1000000000, false, false, none⟩, ⟨n, now, true, false, none⟩, ⟨n, now + 1000000000, true, false, none⟩]

theorem scheduleState_eq (w : Twin) (n : Nat) (s : State) :
    scheduleState w n none s = s.modNet w (fun x => { x with reports := x.reports ++ upReports n s.now }) := rfl

theorem PortStep.up (tidy : s.tidy = true) (w : Twin) (n : Fin 4) : PortStep p w n s (portUp n w s) := by
  obtain ⟨locked, -⟩ := linkLocked_fields tidy w n
  obtain ⟨turned, -⟩ := linkTurned_fields locked.tidy w n true
  have raised : PortStep p w n _ _ := .raiseTwin turned.tidy w n w (m := 40) n.val
  unfold portUp
  split
  · exact .refl tidy w n
  · split
    · exact locked.step
    · rw [scheduleState_eq]
      exact ((locked.trans turned).step.trans raised).trans (.modNet raised.tidy w n _)

/-- A port whose link has come up (R134, R149). -/
structure CameUp (w : Twin) (n : Fin 4) (now : Nat) (reports : List Report) (u : State) : Prop where
  up : u.rb (Reg.NET_LINK w n) Fld.NET_LINK_LINK_UP = true
  chg : u.rb (Reg.NET_LINK w n) Fld.NET_LINK_CHG = true
  lock : u.rb (Reg.NET_LINK w n) Fld.NET_LINK_BLOCK_LOCK = true
  ber : u.rb (Reg.NET_LINK w n) Fld.NET_LINK_HI_BER = false
  event : u.evtTwinPending w 40 = true
  reports : (u.tw w).net.reports = reports ++ upReports n now

/-- E40 and the schedule of the reports leave NET_LINK. -/
theorem scheduled_raised (tidy : s.tidy = true) (w : Twin) (n : Fin 4) :
    (scheduleState w n none (s.raiseTwin w 40 n)).reg (Reg.NET_LINK w n) = s.reg (Reg.NET_LINK w n) ∧
      (scheduleState w n none (s.raiseTwin w 40 n)).evtTwinPending w 40 = true ∧
      ((scheduleState w n none (s.raiseTwin w 40 n)).tw w).net.reports = (s.tw w).net.reports ++ upReports n s.now := by
  obtain ⟨wf, -⟩ := tidy_iff.1 tidy
  have event : Evt s (s.raiseTwin w 40 n) := (Evt.refl s).raiseTwin w 40 n (by decide)
  have regs : ∀ a, (scheduleState w n none (s.raiseTwin w 40 n)).reg a = (s.raiseTwin w 40 n).reg a := fun a => by
    rw [scheduleState_eq, State.reg, State.modNet, modTw_regs]
    rfl
  refine ⟨(regs _).trans ((event.regs wf).2 _ (evtReg_port (portRegs_link w n))),
    (evtTwinPending_congr 40 (regs _)).trans (evtTwinPending_raiseTwin wf w _), ?_⟩
  rw [scheduleState_eq, State.modNet, State.modTw_tw, event.net, event.now]

theorem portUp_cameUp (tidy : s.tidy = true) (mode : s.netMode w n ≠ 0) (down : s.rb (Reg.NET_LINK w n) Fld.NET_LINK_LINK_UP = false) :
    CameUp w n s.now (s.tw w).net.reports (portUp n w s) := by
  obtain ⟨locked, lock, ber, up⟩ := linkLocked_fields tidy w n
  obtain ⟨turned, up', chg, lock', ber'⟩ := linkTurned_fields locked.tidy w n true
  obtain ⟨link, event, reports⟩ := scheduled_raised turned.tidy w n
  have run : portUp n w s = scheduleState w n none (((s.linkLocked w n).linkTurned w n true).raiseTwin w 40 n) := by
    rw [portUp, if_neg mode, up, down]
    rfl
  have field : ∀ f : Fld, f.hi < 32 → (portUp n w s).rb (Reg.NET_LINK w n) f = ((s.linkLocked w n).linkTurned w n true).rb (Reg.NET_LINK w n) f :=
    fun f low => rb_congr _ _ low (by rw [run]; exact link)
  refine ⟨(field _ (by decide)).trans up', (field _ (by decide)).trans chg, (field _ (by decide)).trans (lock'.trans lock),
    (field _ (by decide)).trans (ber'.trans ber), by rw [run]; exact event, ?_⟩
  rw [run, reports, (locked.trans turned).net, (locked.trans turned).now]

/-- NET_LINK_UP in a twin whose port had no link (R134, R149). -/
theorem netLinkUp_raises (tidy : s.tidy = true) (t : Nat) (on : s.roleOf w ≠ .off) (mode : s.netMode w n ≠ 0)
    (down : s.rb (Reg.NET_LINK w n) Fld.NET_LINK_LINK_UP = false) :
    ∃ u, exec (.netLinkUp t n) s = .next u ∧ CameUp w n (max s.now t) (s.tw w).net.reports u ∧
      framed (netReg n) nowhere (s.beginAt t) u := by
  have tidy' : (s.beginAt t).tidy = true := tidy
  obtain ⟨x, before, after⟩ := each_ports (p := (s.beginAt t).netOn) (netOn_beginAt t on) tidy' (fun o _ tidy => PortStep.up tidy o n)
  have ne := other_ne w
  have own := portUp_cameUp (w := w) before.tidy ((before.ent w 5 0 n 0 1).trans_ne mode) ((before.rb ne (portRegs_link w n) _).trans down)
  have wf := (tidy_iff.1 (PortStep.up (p := nowhere) before.tidy w n).tidy).1
  have link : ∀ f : Fld, f.hi < 32 → _ := fun f low => after.rb ne (portRegs_link w n) f low
  refine ⟨_, exec_netLinkUp t n s, ⟨(link _ (by decide)).trans own.up, (link _ (by decide)).trans own.chg, (link _ (by decide)).trans own.lock,
    (link _ (by decide)).trans own.ber,
    (after.pend w wf).2 40 (by decide) own.event, ?_⟩, each_portFramed tidy' (q := fun _ => nowhere) (fun o _ tidy => .up tidy o n) (fun _ _ => id)⟩
  rw [after.net w ne.symm, own.reports, before.net w ne.symm, before.now, State.beginAt_tw]
  rfl

/-- What takes a link down: HI_BER, or the loss of block lock. -/
def State.linkFault (s : State) (w : Twin) (n : Nat) (hiBer : Bool) : State :=
  if hiBer then s.sb (Reg.NET_LINK w n) Fld.NET_LINK_HI_BER true else s.sb (Reg.NET_LINK w n) Fld.NET_LINK_BLOCK_LOCK false

theorem linkFault_only (tidy : s.tidy = true) (w : Twin) (n : Fin 4) (hiBer : Bool) : LinkOnly w n s (s.linkFault w n hiBer) := by
  unfold State.linkFault
  split
  · exact .sb tidy w n _ _
  · exact .sb tidy w n _ _

theorem linkFault_fields (tidy : s.tidy = true) (w : Twin) (n : Fin 4) (hiBer : Bool) :
    (s.linkFault w n hiBer).rb (Reg.NET_LINK w n) Fld.NET_LINK_LINK_UP = s.rb (Reg.NET_LINK w n) Fld.NET_LINK_LINK_UP ∧
      (hiBer = true → (s.linkFault w n hiBer).rb (Reg.NET_LINK w n) Fld.NET_LINK_HI_BER = true) ∧
      (hiBer = false → (s.linkFault w n hiBer).rb (Reg.NET_LINK w n) Fld.NET_LINK_BLOCK_LOCK = false) := by
  have wf := (tidy_iff.1 tidy).1
  unfold State.linkFault
  split
  next hi => exact ⟨rb_sb_other wf _ _ _ _, fun _ => rb_sb_self wf _ _ _, fun lo => by cases hi.symm.trans lo⟩
  next lo => exact ⟨rb_sb_other wf _ _ _ _, fun hi => absurd hi lo, fun _ => rb_sb_self wf _ _ _⟩

/-- A link that is up goes down; the ring is emptied from this state. -/
def State.linkDropped (s : State) (w : Twin) (n : Nat) (hiBer : Bool) : State :=
  ((s.linkFault w n hiBer).linkTurned w n false).raiseTwin w 40 n

theorem portDown_eq (w : Twin) (n : Nat) (hiBer : Bool) (s : State) :
    portDown hiBer n w s = if (s.linkFault w n hiBer).rb (Reg.NET_LINK w n) Fld.NET_LINK_LINK_UP then discardTx w n 4096 (s.linkDropped w n hiBer)
      else s.linkFault w n hiBer := rfl

theorem linkDropped_step (tidy : s.tidy = true) (w : Twin) (n : Fin 4) (hiBer : Bool) : PortStep p w n s (s.linkDropped w n hiBer) := by
  have fault := linkFault_only tidy w n hiBer
  obtain ⟨turned, -⟩ := linkTurned_fields fault.tidy w n false
  exact (fault.trans turned).step.trans (.raiseTwin turned.tidy w n w (m := 40) n.val)

theorem PortStep.discard (tidy : s.tidy = true) (w : Twin) (n : Fin 4) (fuel : Nat) : PortStep (portRing w n) w n s (discardTx w n fuel s) := by
  obtain ⟨tidy', only⟩ := discardTx_onlyAt w n fuel tidy
  exact .of_onlyAt only tidy' (by simp [portRegs_head])

theorem PortStep.down (tidy : s.tidy = true) (w : Twin) (n : Fin 4) (hiBer : Bool) : PortStep (portRing w n) w n s (portDown hiBer n w s) := by
  have dropped : PortStep (portRing w n) w n s _ := linkDropped_step tidy w n hiBer
  rw [portDown_eq]
  cases up : (s.linkFault w n hiBer).rb (Reg.NET_LINK w n) Fld.NET_LINK_LINK_UP with
  | true =>
    rw [if_pos rfl]
    exact dropped.trans (.discard dropped.tidy w n 4096)
  | false =>
    rw [if_neg Bool.false_ne_true]
    exact (linkFault_only tidy w n hiBer).step

/-- A port whose link has gone down, with `tail` where its queue ended (R134). -/
structure WentDown (w : Twin) (n : Fin 4) (hiBer : Bool) (tail : Nat) (u : State) : Prop where
  up : u.rb (Reg.NET_LINK w n) Fld.NET_LINK_LINK_UP = false
  chg : u.rb (Reg.NET_LINK w n) Fld.NET_LINK_CHG = true
  ber : hiBer = true → u.rb (Reg.NET_LINK w n) Fld.NET_LINK_HI_BER = true
  lock : hiBer = false → u.rb (Reg.NET_LINK w n) Fld.NET_LINK_BLOCK_LOCK = false
  event : u.evtTwinPending w 40 = true
  head : u.txHead w n = tail

theorem link_ne_head (w : Twin) (n : Nat) : Reg.NET_LINK w n ≠ Reg.NET_TX_HEAD w n := by
  unfold Reg.NET_LINK Reg.NET_TX_HEAD
  omega

theorem link_ne_tail (w : Twin) (n : Nat) : Reg.NET_LINK w n ≠ Reg.NET_TX_TAIL w n := by
  unfold Reg.NET_LINK Reg.NET_TX_TAIL
  omega

theorem LinkOnly.txTail (h : LinkOnly w n s u) : u.txTail w n = s.txTail w n :=
  rf_congr _ _ (by decide) (h.only.regs _ (by simpa using (link_ne_tail w n).symm))

/-- Before its ring is emptied: the fields of NET_LINK, E40, and TAIL as it was. -/
theorem linkDropped_fields (tidy : s.tidy = true) (w : Twin) (n : Fin 4) (hiBer : Bool) :
    WentDown w n hiBer ((s.linkDropped w n hiBer).txHead w n) (s.linkDropped w n hiBer) ∧ (s.linkDropped w n hiBer).txTail w n = s.txTail w n := by
  have fault := linkFault_only tidy w n hiBer
  obtain ⟨-, ber, lock⟩ := linkFault_fields tidy w n hiBer
  obtain ⟨turned, up, chg, lock', ber'⟩ := linkTurned_fields fault.tidy w n false
  have event : Evt _ (s.linkDropped w n hiBer) := (Evt.refl _).raiseTwin w 40 n (by decide)
  have link := (event.regs turned.wf).2 _ (evtReg_port (portRegs_link w n))
  have field : ∀ f : Fld, f.hi < 32 → (s.linkDropped w n hiBer).rb (Reg.NET_LINK w n) f = _ := fun f low => rb_congr _ f low link
  refine ⟨⟨(field _ (by decide)).trans up, (field _ (by decide)).trans chg, fun hi => (field _ (by decide)).trans (ber'.trans (ber hi)),
    fun lo => (field _ (by decide)).trans (lock'.trans (lock lo)), evtTwinPending_raiseTwin turned.wf w _, rfl⟩, ?_⟩
  exact (rf_congr _ _ (by decide) ((event.regs turned.wf).2 _ (evtReg_port (portRegs_tail w n)))).trans (fault.trans turned).txTail

/-- To empty the ring leaves NET_LINK and the pending bits. -/
theorem WentDown.discard {hiBer : Bool} {head : Nat} (h : WentDown w n hiBer head s) (tidy : s.tidy = true) :
    WentDown w n hiBer (s.txTail w n) (discardTx w n 4096 s) := by
  have wf := (tidy_iff.1 tidy).1
  have pend := (PortStep.discard tidy w n 4096).pend w
  have empty := discardTx_empties w n tidy
  have link := (discardTx_onlyAt w n 4096 tidy).2.regs _ (by simpa using link_ne_head w n)
  generalize discardTx w n 4096 s = x at pend empty link
  have field : ∀ f : Fld, f.hi < 32 → x.rb (Reg.NET_LINK w n) f = s.rb (Reg.NET_LINK w n) f := fun f low => rb_congr _ f low link
  exact ⟨(field _ (by decide)).trans h.up, (field _ (by decide)).trans h.chg, fun hi => (field _ (by decide)).trans (h.ber hi),
    fun lo => (field _ (by decide)).trans (h.lock lo), (pend wf).2 40 (by decide) h.event, empty⟩

theorem portDown_wentDown (tidy : s.tidy = true) (w : Twin) (n : Fin 4) (hiBer : Bool)
    (up : s.rb (Reg.NET_LINK w n) Fld.NET_LINK_LINK_UP = true) : WentDown w n hiBer (s.txTail w n) (portDown hiBer n w s) := by
  obtain ⟨link, -⟩ := linkFault_fields tidy w n hiBer
  obtain ⟨dropped, tail⟩ := linkDropped_fields tidy w n hiBer
  rw [portDown_eq, if_pos (link.trans up), ← tail]
  exact dropped.discard (linkDropped_step (p := nowhere) tidy w n hiBer).tidy

/-- NET_LINK_DOWN in a twin whose port had a link (R134). -/
theorem netLinkDown_discards (tidy : s.tidy = true) (t : Nat) (on : s.roleOf w ≠ .off) (hiBer : Bool)
    (up : s.rb (Reg.NET_LINK w n) Fld.NET_LINK_LINK_UP = true) :
    ∃ u, exec (.netLinkDown t n hiBer) s = .next u ∧ WentDown w n hiBer (s.txTail w n) u ∧ framed (netReg n) (netRing n) (s.beginAt t) u := by
  have tidy' : (s.beginAt t).tidy = true := tidy
  obtain ⟨x, before, after⟩ := each_ports (p := (s.beginAt t).netOn) (netOn_beginAt t on) tidy' (fun o _ tidy => PortStep.down tidy o n hiBer)
  have ne := other_ne w
  have own := portDown_wentDown before.tidy w n hiBer ((before.rb ne (portRegs_link w n) _).trans up)
  have wf := (tidy_iff.1 (PortStep.down before.tidy w n hiBer).tidy).1
  have link : ∀ f : Fld, f.hi < 32 → _ := fun f low => after.rb ne (portRegs_link w n) f low
  refine ⟨_, exec_netLinkDown t n hiBer s, ⟨(link _ (by decide)).trans own.up, (link _ (by decide)).trans own.chg,
    fun hi => (link _ (by decide)).trans (own.ber hi), fun lo => (link _ (by decide)).trans (own.lock lo),
    (after.pend w wf).2 40 (by decide) own.event, ?_⟩,
    each_portFramed tidy' (q := fun o => portRing o n) (fun o _ tidy => .down tidy o n hiBer) (fun _ _ => netRing_of_portRing)⟩
  exact (after.rf ne (portRegs_head w n) _).trans (own.head.trans (before.rf ne (portRegs_tail w n) _))

end Sys2Proof.Machine
end

section
/-!
What the MAC of a port sends: reports, and the frame at HEAD (R149, R160, R161).
-/
namespace Sys2Proof.Machine

set_option Elab.async false

variable {s0 s u : State} {w o : Twin} {n : Fin 4} {p : Nat → Bool}

/-! ### What is counted -/

/-- The registers that count what port `n` of twin `w` sends. -/
def countRegs (w : Twin) (n : Nat) : List Nat := [Reg.NET_TX_FRAMES w n, Reg.NET_TX_BYTES w n, Reg.NET_TX_BYTES w n + 4]

theorem portRegs_count (w : Twin) (n : Nat) : ∀ a ∈ countRegs w n, portRegs w n a = true := by
  have high : portRegs w n (Reg.NET_TX_BYTES w n + 4) = true := by
    refine decide_eq_true ?_
    unfold Reg.NET_TX_BYTES
    omega
  simp [countRegs, portRegs_frames, portRegs_bytes, high]

/-- A frame of `len` bytes is counted (R149, R161). -/
def State.txCounted (s : State) (w : Twin) (n len : Nat) : State :=
  let s1 := s.bump (Reg.NET_TX_FRAMES w n) Fld.NET_TX_FRAMES_COUNT
  s1.wr64 (Reg.NET_TX_BYTES w n) ((s1.rd64 (Reg.NET_TX_BYTES w n) + len) % 2 ^ 64)

theorem txCounted_counts (tidy : s.tidy = true) (w : Twin) (n len : Nat) :
    (s.txCounted w n len).tidy = true ∧ onlyRegs (countRegs w n) s (s.txCounted w n len) ∧
      (s.txCounted w n len).reg (Reg.NET_TX_FRAMES w n) = countUp (s.reg (Reg.NET_TX_FRAMES w n)) Fld.NET_TX_FRAMES_COUNT := by
  obtain ⟨wf, mem⟩ := tidy_iff.1 tidy
  have first := onlyRegs_bump wf (Reg.NET_TX_FRAMES w n) Fld.NET_TX_FRAMES_COUNT (by decide)
  have up := reg_bump_countUp wf (Reg.NET_TX_FRAMES w n) Fld.NET_TX_FRAMES_COUNT (by decide)
  have wf1 := State.regsWf_bump wf (Reg.NET_TX_FRAMES w n) Fld.NET_TX_FRAMES_COUNT 1
  have mem1 : Memory.wf (s.bump (Reg.NET_TX_FRAMES w n) Fld.NET_TX_FRAMES_COUNT).mem = true := by rw [State.bump, State.sf_mem]; exact mem
  have apart : Reg.NET_TX_FRAMES w n ∉ [Reg.NET_TX_BYTES w n, Reg.NET_TX_BYTES w n + 4] := by
    simp [Reg.NET_TX_FRAMES, Reg.NET_TX_BYTES]
    omega
  unfold State.txCounted
  extract_lets s1
  change onlyRegs _ s s1 at first
  change s1.regsWf = true at wf1
  have second := onlyRegs_wr64 wf1 (Reg.NET_TX_BYTES w n) ((s1.rd64 (Reg.NET_TX_BYTES w n) + len) % 2 ^ 64)
  refine ⟨tidy_iff.2 ⟨?_, mem1⟩, (first.mono (by simp [countRegs])).trans (second.mono (by simp [countRegs])), (second.regs _ apart).trans up⟩
  exact State.regsWf_setReg (State.regsWf_setReg wf1 _ _) _ _

/-! ### What leaves the part -/

/-- From the ACTIVE twin an output leaves the part. -/
def State.emitFrom (s : State) (w : Twin) (x : Out) : State := if s.active = some w then s.emit x else s

theorem emitFrom_eq (w : Twin) (x : Out) (s : State) : s.emitFrom w x = { s with out := (s.emitFrom w x).out } := by
  unfold State.emitFrom
  split <;> rfl

theorem emitFrom_reg (w : Twin) (x : Out) (s : State) (a : Nat) : (s.emitFrom w x).reg a = s.reg a := by
  unfold State.emitFrom
  split <;> rfl

theorem emitFrom_out (w : Twin) (x : Out) (s : State) : s.out ⊆ (s.emitFrom w x).out := by
  unfold State.emitFrom
  split
  · exact List.subset_append_left _ _
  · exact fun _ => id

/-- Frames have been counted and have left: only registers at `l` have changed beside the outputs. -/
structure Sends (l : List Nat) (s u : State) : Prop where
  tidy : u.tidy = true
  only : onlyRegs l { s with out := u.out } u
  out : s.out ⊆ u.out

theorem Sends.refl (l : List Nat) (tidy : s.tidy = true) : Sends l s s := ⟨tidy, .refl l s, fun _ => id⟩

theorem Sends.of_onlyRegs {l : List Nat} (h : onlyRegs l s u) (tidy : u.tidy = true) : Sends l s u := by
  have out : u.out = s.out := by rw [h.rest]
  refine ⟨tidy, ?_, by rw [out]; exact fun _ => id⟩
  rw [out]
  exact h

theorem Sends.trans {l : List Nat} (h : Sends l s0 s) (g : Sends l s u) : Sends l s0 u := by
  refine ⟨g.tidy, ⟨?_, fun a ha => (g.only.regs a ha).trans (h.only.regs a ha)⟩, List.Subset.trans h.out g.out⟩
  rw [g.only.rest, h.only.rest]

theorem Sends.emitFrom {l : List Nat} (h : Sends l s u) (w : Twin) (x : Out) : Sends l s (u.emitFrom w x) := by
  have eq := emitFrom_eq w x u
  refine ⟨?_, ⟨?_, fun a ha => ?_⟩, List.Subset.trans h.out (emitFrom_out w x u)⟩
  · rw [eq]
    exact h.tidy
  · rw [eq, h.only.rest]
  · exact (emitFrom_reg w x u a).trans (h.only.regs a ha)

theorem Sends.foldl {l : List Nat} {α : Type} {f : State → α → State} (step : ∀ x e, x.tidy = true → Sends l x (f x e)) (es : List α)
    (tidy : s.tidy = true) : Sends l s (es.foldl f s) := by
  induction es generalizing s with
  | nil => exact .refl l tidy
  | cons e es ih =>
    have first := step s e tidy
    exact first.trans (ih first.tidy)

theorem PortStep.out (tidy : s.tidy = true) (o : Twin) (n : Fin 4) (l : List Out) : PortStep p o n s { s with out := l } :=
  ⟨tidy, ⟨rfl, fun _ _ _ => rfl, fun _ _ _ => rfl⟩, fun v _ => by cases v <;> rfl, fun _ => .of_regsKept (.of_regs rfl)⟩

theorem Sends.step (h : Sends (countRegs w n) s u) (tidy : s.tidy = true) : PortStep p w n s u :=
  (PortStep.out tidy w n u.out).trans (.of_onlyRegs h.only h.tidy (portRegs_count w n))

theorem Sends.tw {l : List Nat} (h : Sends l s u) (v : Twin) : u.tw v = s.tw v := by
  rw [h.only.rest]
  cases v <;> rfl

theorem txCounted_sends (tidy : s.tidy = true) (w : Twin) (n len : Nat) : Sends (countRegs w n) s (s.txCounted w n len) := by
  obtain ⟨tidy', only, -⟩ := txCounted_counts tidy w n len
  exact .of_onlyRegs only tidy'

/-! ### Reports (R149) -/

/-- A report as it leaves. -/
def State.reportOut (s : State) (w : Twin) (n : Nat) (v6 : Bool) (version : Nat) (records : List JoinRec) : Out :=
  .report n v6 version (s.reportSource w n v6) true (records.map (fun r => (r.typ, r.group, r.srcs)))

theorem sendReport_eq (w : Twin) (n : Nat) (v6 : Bool) (version : Nat) (records : List JoinRec) (s : State) :
    sendReport w n v6 version records s = (s.txCounted w n (reportLength v6 version records)).emitFrom w
      ((s.txCounted w n (reportLength v6 version records)).reportOut w n v6 version records) := rfl

theorem sendReport_sends (tidy : s.tidy = true) (w : Twin) (n : Nat) (v6 : Bool) (version : Nat) (records : List JoinRec) :
    Sends (countRegs w n) s (sendReport w n v6 version records s) := by
  rw [sendReport_eq]
  exact (txCounted_sends tidy w n _).emitFrom w _

theorem sendDue_sends (tidy : s.tidy = true) (w : Twin) (r : Report) : Sends (countRegs w r.port) s (sendDue w r s) := by
  unfold sendDue
  extract_lets size all recs old
  split
  · exact .refl _ tidy
  · split
    · exact .foldl (fun x g tidy => sendReport_sends tidy w _ _ _ _) _ tidy
    · exact .foldl (fun x l tidy => sendReport_sends tidy w _ _ _ _) _ tidy

theorem sendDue_closed {r : Report} (down : s.rb (Reg.NET_LINK w r.port) Fld.NET_LINK_LINK_UP = false) : sendDue w r s = s := by
  unfold sendDue
  rw [down]
  rfl

/-- A report of one record, of the report's family, to a querier of the present version. -/
theorem sendDue_single {r : Report} {x : JoinRec} (one : r.records = some [x]) (family : x.group.length = if r.v6 then 16 else 4)
    (newer : Smap.get 0 (s.tw w).net.older (2 * r.port + if r.v6 then 1 else 0) ≤ s.now)
    (up : s.rb (Reg.NET_LINK w r.port) Fld.NET_LINK_LINK_UP = true) :
    sendDue w r s = sendReport w r.port r.v6 (if r.v6 then 2 else 3) [x] s := by
  have recs : [x].filter (fun y => decide (y.group.length = if r.v6 then 16 else 4)) = [x] := by simp [family]
  have packed : packReports r.v6 (2 * [x].length + 2) [x] [] = [[x]] := by simp [packReports]
  unfold sendDue
  rw [up, one]
  simp only [Bool.not_true, Bool.false_eq_true, if_false, Option.getD_some, recs, packed, decide_eq_true_eq, Nat.not_lt.2 newer, List.foldl_cons,
    List.foldl_nil]

theorem emitFrom_active (active : s.active = some w) (x : Out) : s.emitFrom w x = s.emit x := if_pos active

theorem entBytes_of_mem (h : u.mem = s.mem) (w : Twin) (ty inst idx off k : Nat) : u.entBytes w ty inst idx off k = s.entBytes w ty inst idx off k :=
  rdBytes_congr fun _ _ => by rw [State.rdB, State.rdB, h]

/-- The source of a report is what the image says. -/
theorem reportOut_of_mem (h : u.mem = s.mem) (w : Twin) (n : Nat) (v6 : Bool) (version : Nat) (records : List JoinRec) :
    u.reportOut w n v6 version records = s.reportOut w n v6 version records := by
  rw [State.reportOut, State.reportOut, State.reportSource, State.reportSource, State.netIp4, State.netIp4, State.netMac, State.netMac,
    entBytes_of_mem h, entBytes_of_mem h]

theorem sendReport_counts (tidy : s.tidy = true) (w : Twin) (n : Nat) (v6 : Bool) (version : Nat) (records : List JoinRec) :
    (sendReport w n v6 version records s).reg (Reg.NET_TX_FRAMES w n) = countUp (s.reg (Reg.NET_TX_FRAMES w n)) Fld.NET_TX_FRAMES_COUNT ∧
      (s.active = some w → (sendReport w n v6 version records s).out = s.out ++ [s.reportOut w n v6 version records]) := by
  obtain ⟨-, only, frames⟩ := txCounted_counts tidy w n (reportLength v6 version records)
  rw [sendReport_eq]
  generalize s.txCounted w n (reportLength v6 version records) = x at only frames
  refine ⟨?_, fun active => ?_⟩
  · exact (emitFrom_reg w _ x _).trans frames
  · have same : x.active = s.active ∧ x.mem = s.mem ∧ x.out = s.out := by rw [only.rest]; exact ⟨rfl, rfl, rfl⟩
    obtain ⟨role, mem, outs⟩ := same
    rw [emitFrom_active (role.trans active), State.emit, reportOut_of_mem mem, outs]

/-! ### JOIN_REPORT (R149) -/

theorem exec_joinReport {t : Nat} {r : Report} {rest : List Report}
    (due : (s.tw w).net.reports.filter (fun r => decide (r.port = n.val) && decide (r.due ≤ max s.now t)) = r :: rest) :
    exec (.joinReport t w n) s = .next (joinReport w r (s.beginAt t)) := by
  have listed : ((s.beginAt t).tw w).net.reports.filter (fun r => decide (r.port = n.val) && decide (r.due ≤ (s.beginAt t).now)) = r :: rest := by
    rw [State.beginAt_tw]
    exact due
  change execJoinReport t w n s = _
  unfold execJoinReport
  dsimp only
  rw [listed]

theorem joinReport_sends (tidy : s.tidy = true) (w : Twin) (r : Report) :
    Sends (countRegs w r.port) (s.modNet w (fun x => { x with reports := x.reports.erase r })) (joinReport w r s) :=
  sendDue_sends (by cases w <;> exact tidy) w r

theorem modNet_out (w : Twin) (f : Net → Net) (l : List Out) (s : State) : { s.modNet w f with out := l } = { s with out := l }.modNet w f := by
  cases w <;> rfl

/-- A report that is due: taken from the list, and sent on an open link. -/
theorem joinReport_taken (tidy : s.tidy = true) (t : Nat) {r : Report} {rest : List Report}
    (due : (s.tw w).net.reports.filter (fun r => decide (r.port = n.val) && decide (r.due ≤ max s.now t)) = r :: rest) :
    ∃ u, exec (.joinReport t w n) s = .next u ∧ (u.tw w).net.reports = (s.tw w).net.reports.erase r ∧
      (s.rb (Reg.NET_LINK w n) Fld.NET_LINK_LINK_UP = false → u.regs = s.regs ∧ u.out = []) ∧
      (∀ x, r.records = some [x] → x.group.length = (if r.v6 then 16 else 4) →
        Smap.get 0 (s.tw w).net.older (2 * n.val + (if r.v6 then 1 else 0)) ≤ max s.now t →
        s.rb (Reg.NET_LINK w n) Fld.NET_LINK_LINK_UP = true →
        u.reg (Reg.NET_TX_FRAMES w n) = countUp (s.reg (Reg.NET_TX_FRAMES w n)) Fld.NET_TX_FRAMES_COUNT ∧
        (s.active = some w → u.out = [s.reportOut w n r.v6 (if r.v6 then 2 else 3) [x]])) ∧
      onlyRegs (countRegs w n) ({ s.beginAt t with out := u.out }.modNet w (fun x => { x with reports := x.reports.erase r })) u := by
  have port : r.port = n.val := by
    have mem : r ∈ (s.tw w).net.reports.filter (fun r => decide (r.port = n.val) && decide (r.due ≤ max s.now t)) := by
      rw [due]
      exact List.mem_cons_self ..
    exact of_decide_eq_true (Bool.and_eq_true_iff.1 (List.mem_filter.1 mem).2).1
  have sends := joinReport_sends (s := s.beginAt t) tidy w r
  rw [port] at sends
  refine ⟨_, exec_joinReport due, ?_, fun down => ?_, fun x one family newer up => ?_, modNet_out w _ _ _ ▸ sends.only⟩
  · rw [sends.tw, State.modNet, State.modTw_tw, State.beginAt_tw]
  · have closed : joinReport w r (s.beginAt t) = (s.beginAt t).modNet w (fun x => { x with reports := x.reports.erase r }) :=
      sendDue_closed (by rw [port]; cases w <;> exact down)
    rw [closed]
    cases w <;> exact ⟨rfl, rfl⟩
  · have tidy' : ((s.beginAt t).modNet w (fun x => { x with reports := x.reports.erase r })).tidy = true := by cases w <;> exact tidy
    have single : joinReport w r (s.beginAt t) = sendReport w n r.v6 (if r.v6 then 2 else 3) [x] _ :=
      (sendDue_single one family (by rw [port]; cases w <;> exact newer) (by rw [port]; cases w <;> exact up)).trans (by rw [port])
    obtain ⟨frames, out⟩ := sendReport_counts tidy' w n r.v6 (if r.v6 then 2 else 3) [x]
    rw [single]
    refine ⟨frames.trans (by cases w <;> rfl), fun active => (out (by cases w <;> exact active)).trans ?_⟩
    rw [reportOut_of_mem (s := s) (by cases w <;> rfl)]
    cases w <;> rfl

/-! ### The frame at HEAD (R161) -/

/-- The descriptor at HEAD, the length that it holds, and the frame that it points to. -/
def State.txPlace (s : State) (w : Twin) (n : Nat) : Nat := txDesc w n (s.txHead w n)
def State.txLen (s : State) (w : Twin) (n : Nat) : Nat := s.rdLE (s.txPlace w n + 4) 2
def State.txBytes (s : State) (w : Twin) (n : Nat) : List Byte :=
  s.rdBytes (Addr.dram w (netRegion + s.rdLE (s.txPlace w n) 4 % 0x8000000)) (s.txLen w n)

/-- The frame has a length that the port sends. -/
def State.txFits (s : State) (w : Twin) (n : Nat) : Prop := 60 ≤ s.txLen w n ∧ s.txLen w n + 4 ≤ s.netMaxLen w n

/-- No report of the port is due before this instant. -/
def State.portIdle (s : State) (w : Twin) (n : Nat) : Prop := ∀ r ∈ (s.tw w).net.reports, r.port = n → s.now ≤ r.due

/-- The reports that go before the frame at HEAD have gone. -/
def State.txReported (s : State) (w : Twin) (n : Nat) : State := reportsFirst w n (s.txStart w n (s.txLen w n + 4)) (s.txBytes w n) s

/-- The stamp of a frame stands in its descriptor, where that asks for it. -/
def State.txStamped (s : State) (w : Twin) (n place : Nat) (frame : List Byte) (start : Nat) : State :=
  if bitAt (s.rdB (place + 6)).toNat 0 then s.wrBytes (place + 8) (leBytes 5 (s.rxStamp w n frame start)) else s

/-- A frame of `len` bytes and its FCS has ended: it is counted, stamped, and its descriptor is done. -/
def State.txEnded (s : State) (w : Twin) (n place len : Nat) (frame : List Byte) (start : Nat) : State :=
  doneDesc w n 0 ((s.txCounted w n (len + 4)).txStamped w n place frame start)

theorem txOne_empty (empty : s.txHead w n = s.txTail w n) : txOne n w s = s := if_pos empty

section
variable (queued : s.txHead w n ≠ s.txTail w n)
include queued

theorem txOne_misfit (bad : s.txLen w n < 60 ∨ s.netMaxLen w n < s.txLen w n + 4) : txOne n w s = doneDesc w n 1 s :=
  (if_neg queued).trans (if_pos bad)

theorem txOne_closed (fits : s.txFits w n) (down : s.rb (Reg.NET_LINK w n) Fld.NET_LINK_LINK_UP = false) : txOne n w s = doneDesc w n 2 s :=
  ((if_neg queued).trans (if_neg (not_or.2 ⟨Nat.not_lt.2 fits.1, Nat.not_lt.2 fits.2⟩))).trans (if_pos (by rw [down]; rfl))

theorem txOne_open (fits : s.txFits w n) (up : s.rb (Reg.NET_LINK w n) Fld.NET_LINK_LINK_UP = true) :
    txOne n w s = ((s.txReported w n).txEnded w n (s.txPlace w n) (s.txLen w n) (s.txBytes w n) (s.txStart w n (s.txLen w n + 4))).emitFrom w
      (.net n (withFcs (s.txBytes w n))) := by
  unfold txOne
  extract_lets h a len frame start s1 s2 s3 s4 s5
  have counted : s3 = s1.txCounted w n (len + 4) := by
    rw [State.txCounted, ← Nat.add_assoc]
  have ended : s5 = s1.txEnded w n a len frame start := by
    rw [State.txEnded, ← counted]
    rfl
  have long : ¬(len < 60 ∨ s.netMaxLen w n < len + 4) := not_or.2 ⟨Nat.not_lt.2 fits.1, Nat.not_lt.2 fits.2⟩
  refine ((if_neg queued).trans (if_neg long)).trans ((if_neg (by rw [up]; exact Bool.false_ne_true)).trans ?_)
  rw [ended]
  rfl

end

/-! ### The reports before it (R160) -/

/-- Reports of port `n` have left: a step of the port that leaves HEAD, and what was sent before is sent. -/
structure Reported (w : Twin) (n : Fin 4) (s u : State) : Prop where
  step : PortStep (portRing w n) w n s u
  head : u.txHead w n = s.txHead w n
  out : s.out ⊆ u.out

theorem head_not_counted (w : Twin) (n : Fin 4) : Reg.NET_TX_HEAD w n ∉ countRegs w n := by
  have few := n.isLt
  cases w <;>
  · simp only [countRegs, List.mem_cons, List.not_mem_nil, or_false, Reg.NET_TX_HEAD, Reg.NET_TX_FRAMES, Reg.NET_TX_BYTES, Twin.base]
    omega

theorem Sends.txHead (h : Sends (countRegs w n) s u) : u.txHead w n = s.txHead w n :=
  rf_congr _ _ (by decide) (h.only.regs _ (head_not_counted w n))

theorem joinReport_reported (tidy : s.tidy = true) {r : Report} (port : r.port = n.val) : Reported w n s (joinReport w r s) := by
  have tidy' : (s.modNet w (fun x => { x with reports := x.reports.erase r })).tidy = true := by cases w <;> exact tidy
  have sends := joinReport_sends tidy w r
  rw [port] at sends
  refine ⟨(PortStep.modNet tidy w n _).trans (sends.step tidy'), sends.txHead.trans (by cases w <;> rfl), ?_⟩
  exact List.Subset.trans (by cases w <;> exact fun _ => id) sends.out

theorem foldl_reported (tidy : s.tidy = true) {l : List Report} (ports : ∀ r ∈ l, r.port = n.val) :
    Reported w n s (l.foldl (fun x r => joinReport w r x) s) := by
  induction l generalizing s with
  | nil => exact ⟨.refl tidy w n, rfl, fun _ => id⟩
  | cons r l ih =>
    have first : Reported w n s (joinReport w r s) := joinReport_reported tidy (ports r (List.mem_cons_self ..))
    have rest := ih first.step.tidy (fun r hr => ports r (List.mem_cons_of_mem _ hr))
    exact ⟨first.step.trans rest.step, rest.head.trans first.head, List.Subset.trans first.out rest.out⟩

theorem txReported_reported (tidy : s.tidy = true) (w : Twin) (n : Fin 4) : Reported w n s (s.txReported w n) := by
  unfold State.txReported reportsFirst
  split
  · exact ⟨.refl tidy w n, rfl, fun _ => id⟩
  · exact foldl_reported tidy fun r hr => of_decide_eq_true (Bool.and_eq_true_iff.1 (List.mem_filter.1 hr).2).1

/-- Nothing goes before a frame where no report of the port is due. -/
theorem txReported_idle (idle : s.portIdle w n) : s.txReported w n = s := by
  have none_ : (s.tw w).net.reports.filter (fun r => decide (r.port = n.val) && decide (r.due < s.txStart w n (s.txLen w n + 4))) = [] := by
    refine List.filter_eq_nil_iff.2 fun r hr due => ?_
    obtain ⟨port, before⟩ := Bool.and_eq_true_iff.1 due
    have late := idle r hr (of_decide_eq_true port)
    have start : s.txStart w n (s.txLen w n + 4) ≤ s.now := Nat.sub_le _ _
    have := of_decide_eq_true before
    omega
  unfold State.txReported reportsFirst
  split
  · rfl
  · rw [none_]
    rfl

/-! ### The end of the frame -/

theorem txStamped_only (tidy : s.tidy = true) (w : Twin) (n : Fin 4) (i : Nat) (frame : List Byte) (start : Nat) :
    (s.txStamped w n (txDesc w n i) frame start).tidy = true ∧ onlyAt [] (portRing w n) s (s.txStamped w n (txDesc w n i) frame start) := by
  obtain ⟨wf, mem⟩ := tidy_iff.1 tidy
  unfold State.txStamped
  split
  · have eq := wrBytes_eq s (txDesc w n i + 8) (leBytes 5 (s.rxStamp w n frame start))
    refine ⟨tidy_iff.2 ⟨by rw [eq]; exact wf, memWf_wrBytes mem _ _⟩, by rw [eq], fun a _ => by rw [eq]; rfl, fun a ha => ?_⟩
    rw [rdB_wrBytes_leBytes mem, if_neg]
    rintro ⟨low, high⟩
    have inside := portRing_txDesc w n i (k := a - txDesc w n i) (by omega)
    rw [show txDesc w n i + (a - txDesc w n i) = a by omega, ha] at inside
    cases inside
  · exact ⟨tidy, (onlyRegs.refl [] s).onlyAt _⟩

/-- The registers that a frame which ends changes. -/
def endRegs (w : Twin) (n : Nat) : List Nat := Reg.NET_TX_HEAD w n :: countRegs w n

theorem portRegs_end (w : Twin) (n : Nat) : ∀ a ∈ endRegs w n, portRegs w n a = true :=
  List.forall_mem_cons.2 ⟨portRegs_head w n, portRegs_count w n⟩

/-- A frame has ended: counted, its descriptor done with status 0, and only that port's registers and descriptors changed. -/
structure FrameEnded (w : Twin) (n : Fin 4) (s u : State) : Prop where
  tidy : u.tidy = true
  only : onlyAt (endRegs w n) (portRing w n) s u
  head : u.txHead w n = (s.txHead w n + 1) % 4096
  status : u.rdB (s.txPlace w n + 7) = 0
  frames : u.reg (Reg.NET_TX_FRAMES w n) = countUp (s.reg (Reg.NET_TX_FRAMES w n)) Fld.NET_TX_FRAMES_COUNT

theorem txEnded_ended (tidy : s.tidy = true) (w : Twin) (n : Fin 4) (len : Nat) (frame : List Byte) (start : Nat) :
    FrameEnded w n s (s.txEnded w n (s.txPlace w n) len frame start) := by
  obtain ⟨tidy1, counts, frames⟩ := txCounted_counts tidy w n (len + 4)
  unfold State.txEnded State.txPlace
  generalize s.txCounted w n (len + 4) = x at tidy1 counts frames
  obtain ⟨tidy2, stamps⟩ := txStamped_only tidy1 w n (s.txHead w n) frame start
  generalize x.txStamped w n (txDesc w n (s.txHead w n)) frame start = y at tidy2 stamps
  have done := doneDesc_done tidy2 w n 0
  have head : y.txHead w n = s.txHead w n := rf_congr _ _ (by decide) ((stamps.regs _ (by simp)).trans (counts.regs _ (head_not_counted w n)))
  have apart : Reg.NET_TX_FRAMES w n ∉ [Reg.NET_TX_HEAD w n] := by
    have out := head_not_counted w n
    simp only [countRegs, List.mem_cons, not_or] at out
    simpa using Ne.symm out.1
  refine ⟨done.tidy, ?_, done.head.trans (by rw [head]), ?_, ?_⟩
  · exact (((counts.mono (by simp [endRegs])).onlyAt _).trans (stamps.mono (by simp) (fun _ => id))).trans
      (done.only.mono (by simp [endRegs]) (fun _ => id))
  · have status := done.status
    rw [head] at status
    exact status
  · exact (done.only.regs _ apart).trans ((stamps.regs _ (by simp)).trans frames)

theorem FrameEnded.step (h : FrameEnded w n s u) : PortStep (portRing w n) w n s u := .of_onlyAt h.only h.tidy (portRegs_end w n)

/-! ### One twin's part in NET_TX_DONE -/

/-- A step of the MAC of one twin: of its port alone, what was sent before is sent, and where no report is due the twins hold what they held. -/
structure TxStep (w : Twin) (n : Fin 4) (s u : State) : Prop where
  step : PortStep (portRing w n) w n s u
  out : s.out ⊆ u.out
  quiet : s.portIdle w n → u.a = s.a ∧ u.b = s.b

theorem TxStep.refl (tidy : s.tidy = true) (w : Twin) (n : Fin 4) : TxStep w n s s := ⟨.refl tidy w n, fun _ => id, fun _ => ⟨rfl, rfl⟩⟩

/-- The MAC of a twin has taken the frame at HEAD. -/
structure FrameTaken (w : Twin) (n : Fin 4) (s u : State) : Prop where
  head : u.txHead w n = (s.txHead w n + 1) % 4096
  misfit : s.txLen w n < 60 ∨ s.netMaxLen w n < s.txLen w n + 4 → u.rdB (s.txPlace w n + 7) = 1
  closed : s.txFits w n → s.rb (Reg.NET_LINK w n) Fld.NET_LINK_LINK_UP = false → u.rdB (s.txPlace w n + 7) = 2
  opened : s.txFits w n → s.rb (Reg.NET_LINK w n) Fld.NET_LINK_LINK_UP = true → u.rdB (s.txPlace w n + 7) = 0 ∧
    (s.portIdle w n → u.reg (Reg.NET_TX_FRAMES w n) = countUp (s.reg (Reg.NET_TX_FRAMES w n)) Fld.NET_TX_FRAMES_COUNT) ∧
    (s.active = some w → .net n (withFcs (s.txBytes w n)) ∈ u.out)

theorem onlyAt.twins {l : List Nat} (h : onlyAt l p s u) : u.a = s.a ∧ u.b = s.b := by
  rw [h.rest]
  exact ⟨rfl, rfl⟩

theorem onlyAt.out {l : List Nat} (h : onlyAt l p s u) : u.out = s.out := by rw [h.rest]

theorem DescDone.txStep {status : Nat} (h : DescDone w n status s u) : TxStep w n s u :=
  ⟨.of_onlyAt h.only h.tidy (by simp [portRegs_head]), by rw [h.only.out]; exact fun _ => id, fun _ => h.only.twins⟩

theorem emitFrom_rdB (w : Twin) (x : Out) (s : State) (a : Nat) : (s.emitFrom w x).rdB a = s.rdB a := by
  unfold State.emitFrom
  split <;> rfl

theorem emitFrom_txHead (w v : Twin) (x : Out) (s : State) (n : Nat) : (s.emitFrom w x).txHead v n = s.txHead v n := by
  unfold State.emitFrom
  split <;> rfl

theorem emitFrom_twins (w : Twin) (x : Out) (s : State) : (s.emitFrom w x).a = s.a ∧ (s.emitFrom w x).b = s.b := by
  unfold State.emitFrom
  split <;> exact ⟨rfl, rfl⟩

theorem PortStep.emitFrom (h : PortStep p o n s u) (w : Twin) (x : Out) : PortStep p o n s (u.emitFrom w x) := by
  rw [emitFrom_eq]
  exact h.trans (.out h.tidy o n _)

/-- A frame that is sent, after the reports before it (R160, R161). -/
theorem txOne_sent (tidy : s.tidy = true) (queued : s.txHead w n ≠ s.txTail w n) (fits : s.txFits w n)
    (up : s.rb (Reg.NET_LINK w n) Fld.NET_LINK_LINK_UP = true) :
    TxStep w n s (txOne n w s) ∧ (txOne n w s).txHead w n = (s.txHead w n + 1) % 4096 ∧ (txOne n w s).rdB (s.txPlace w n + 7) = 0 ∧
      (s.portIdle w n → (txOne n w s).reg (Reg.NET_TX_FRAMES w n) = countUp (s.reg (Reg.NET_TX_FRAMES w n)) Fld.NET_TX_FRAMES_COUNT) ∧
      (s.active = some w → .net n (withFcs (s.txBytes w n)) ∈ (txOne n w s).out) := by
  have reported := txReported_reported tidy w n
  have place : (s.txReported w n).txPlace w n = s.txPlace w n := by rw [State.txPlace, State.txPlace, reported.head]
  have ended := txEnded_ended reported.step.tidy w n (s.txLen w n) (s.txBytes w n) (s.txStart w n (s.txLen w n + 4))
  have idle : s.portIdle w n → s.txReported w n = s := txReported_idle
  rw [txOne_open queued fits up, ← place]
  generalize s.txReported w n = y at reported ended idle
  generalize y.txEnded w n (y.txPlace w n) (s.txLen w n) (s.txBytes w n) (s.txStart w n (s.txLen w n + 4)) = z at ended
  have out : s.out ⊆ z.out := by rw [ended.only.out]; exact reported.out
  have step : PortStep (portRing w n) w n s z := reported.step.trans ended.step
  refine ⟨⟨step.emitFrom w _, List.Subset.trans out (emitFrom_out w _ z), fun quiet => ?_⟩, ?_, (emitFrom_rdB w _ z _).trans ended.status,
    fun quiet => ?_, fun active => ?_⟩
  · obtain ⟨a, b⟩ := emitFrom_twins w (.net n (withFcs (s.txBytes w n))) z
    rw [a, b, ← idle quiet]
    exact ended.only.twins
  · rw [emitFrom_txHead, ended.head, reported.head]
  · rw [emitFrom_reg, ended.frames, idle quiet]
  · rw [emitFrom_active ((active_congr step.role).trans active)]
    exact List.mem_append_right _ (List.mem_singleton_self _)

theorem txOne_taken (tidy : s.tidy = true) (queued : s.txHead w n ≠ s.txTail w n) : TxStep w n s (txOne n w s) ∧ FrameTaken w n s (txOne n w s) := by
  by_cases bad : s.txLen w n < 60 ∨ s.netMaxLen w n < s.txLen w n + 4
  · have unfit : ¬ s.txFits w n := fun fits => by
      obtain ⟨long, short⟩ := fits
      omega
    rw [txOne_misfit queued bad]
    have done := doneDesc_done tidy w n 1
    exact ⟨done.txStep, done.head, fun _ => done.status, fun fits => absurd fits unfit, fun fits => absurd fits unfit⟩
  · have fits : s.txFits w n := ⟨by omega, by omega⟩
    cases link : s.rb (Reg.NET_LINK w n) Fld.NET_LINK_LINK_UP with
    | false =>
      rw [txOne_closed queued fits link]
      have done := doneDesc_done tidy w n 2
      exact ⟨done.txStep, done.head, fun c => absurd c bad, fun _ _ => done.status, fun _ up => by cases link.symm.trans up⟩
    | true =>
      obtain ⟨step, head, sent⟩ := txOne_sent tidy queued fits link
      exact ⟨step, head, fun c => absurd c bad, fun _ down => (by cases link.symm.trans down), fun _ _ => sent⟩

theorem txOne_step (tidy : s.tidy = true) (w : Twin) (n : Fin 4) : TxStep w n s (txOne n w s) := by
  by_cases empty : s.txHead w n = s.txTail w n
  · rw [txOne_empty empty]
    exact .refl tidy w n
  · exact (txOne_taken tidy empty).1

/-! ### What the other twin's MAC leaves of a frame -/

theorem leNat_lt : ∀ l : List Byte, leNat l < 256 ^ l.length
  | [] => Nat.one_pos
  | b :: rest => by
    have tail := leNat_lt rest
    have byte : b.toNat < 256 := b.isLt
    rw [leNat, List.length_cons, Nat.pow_succ']
    omega

theorem length_rdBytes : ∀ (s : State) (a n : Nat), (s.rdBytes a n).length = n
  | _, _, 0 => rfl
  | s, a, n + 1 => congrArg (· + 1) (length_rdBytes s (a + 1) n)

theorem rdLE_lt (s : State) (a n : Nat) : s.rdLE a n < 256 ^ n := by
  have bound := leNat_lt (s.rdBytes a n)
  rwa [length_rdBytes] at bound

theorem dram_add (w : Twin) (off i : Nat) : Addr.dram w off + i = Addr.dram w (off + i) := Nat.add_assoc _ _ _

section
variable (h : PortStep (portRing w.other n) w.other n s u)
include h

theorem PortStep.dram {off : Nat} (low : off < 0x1000000000) : u.rdB (Addr.dram w off) = s.rdB (Addr.dram w off) :=
  h.byte (foreignByte_dram (other_ne w) n low)

/-- The bytes of a descriptor of this twin. -/
theorem PortStep.desc (i : Nat) {k : Nat} (hk : k < 16) : u.rdB (txDesc w n i + k) = s.rdB (txDesc w n i + k) := by
  have few := n.isLt
  rw [txDesc, dram_add]
  refine h.dram ?_
  unfold netRegion
  omega

theorem PortStep.txHead : u.txHead w n = s.txHead w n := h.rf (other_ne w) (portRegs_head w n) _

theorem PortStep.txTail : u.txTail w n = s.txTail w n := h.rf (other_ne w) (portRegs_tail w n) _

theorem PortStep.txPlace : u.txPlace w n = s.txPlace w n := congrArg (txDesc w n) h.txHead

theorem PortStep.txLen : u.txLen w n = s.txLen w n := by
  rw [State.txLen, State.txLen, h.txPlace]
  exact rdLE_congr fun i hi => by
    rw [Nat.add_assoc]
    exact h.desc _ (by omega)

theorem PortStep.txBytes : u.txBytes w n = s.txBytes w n := by
  have start : u.rdLE (s.txPlace w n) 4 = s.rdLE (s.txPlace w n) 4 := rdLE_congr fun i hi => h.desc _ (by omega)
  have short : s.txLen w n < 65536 := rdLE_lt s _ 2
  rw [State.txBytes, State.txBytes, h.txPlace, start, h.txLen]
  refine rdBytes_congr fun i hi => ?_
  rw [dram_add]
  refine h.dram ?_
  unfold netRegion
  omega

theorem PortStep.txFits : u.txFits w n ↔ s.txFits w n := by
  rw [State.txFits, State.txFits, h.txLen, show u.netMaxLen w n = s.netMaxLen w n from h.ent w 5 0 n 2 2]

theorem PortStep.portIdle : u.portIdle w n ↔ s.portIdle w n := by
  rw [State.portIdle, State.portIdle, h.net w (other_ne w).symm, h.now]

end

/-! ### NET_TX_DONE (R161) -/

theorem exec_netTxDone (t : Nat) (n : Fin 4) (runs : s.netStopped = false) :
    exec (.netTxDone t n) s = .next ((s.beginAt t).each (s.beginAt t).takesMirror (txOne n)) :=
  if_neg (fun c => by have stopped : s.netStopped = true := c; rw [runs] at stopped; cases stopped)

/-- Where no report is due in either twin, the twins hold what they held. -/
theorem each_txOne_quiet (tidy : s.tidy = true) (p : Twin → Bool) (idle : ∀ w, s.portIdle w n) :
    (s.each p (txOne n)).a = s.a ∧ (s.each p (txOne n)).b = s.b := by
  have all : (s.each p (txOne n)).tidy = true ∧ (s.each p (txOne n)).now = s.now ∧ (s.each p (txOne n)).a = s.a ∧ (s.each p (txOne n)).b = s.b := by
    refine each_keeps (P := fun x => x.tidy = true ∧ x.now = s.now ∧ x.a = s.a ∧ x.b = s.b) ⟨tidy, rfl, rfl, rfl⟩ fun w x hx => ?_
    obtain ⟨tidy, now, a, b⟩ := hx
    have step := txOne_step tidy w n
    have idle' : x.portIdle w n := by
      have tw : x.tw w = s.tw w := by cases w <;> assumption
      rw [State.portIdle, tw, now]
      exact idle w
    obtain ⟨a', b'⟩ := step.quiet idle'
    exact ⟨step.step.tidy, step.step.now.trans now, a'.trans a, b'.trans b⟩
  exact all.2.2

/-- A twin's MAC has taken its frame, whichever steps the other twin's made before and after. -/
theorem FrameTaken.around {x y : State} (own : FrameTaken w n x y) (before : PortStep (portRing w.other n) w.other n s x)
    (after : PortStep (portRing w.other n) w.other n y u) (out : y.out ⊆ u.out) : FrameTaken w n s u := by
  have ne := other_ne w
  have max_ : x.netMaxLen w n = s.netMaxLen w n := before.ent w 5 0 n 2 2
  have link : x.rb (Reg.NET_LINK w n) Fld.NET_LINK_LINK_UP = s.rb (Reg.NET_LINK w n) Fld.NET_LINK_LINK_UP := before.rb ne (portRegs_link w n) _
  have frames : x.reg (Reg.NET_TX_FRAMES w n) = s.reg (Reg.NET_TX_FRAMES w n) := before.reg ne (portRegs_frames w n)
  have status : u.rdB (s.txPlace w n + 7) = y.rdB (x.txPlace w n + 7) := by
    rw [before.txPlace]
    exact after.desc _ (by decide)
  obtain ⟨head, misfit, closed, opened⟩ := own
  rw [before.txHead] at head
  rw [before.txLen, max_, ← status] at misfit
  rw [before.txFits, link, ← status] at closed
  rw [before.txFits, link, ← status, before.portIdle, frames, active_congr before.role, before.txBytes] at opened
  refine ⟨after.txHead.trans head, misfit, closed, fun fits up => ?_⟩
  obtain ⟨zero, counted, sent⟩ := opened fits up
  exact ⟨zero, fun idle => (after.reg ne (portRegs_frames w n)).trans (counted idle), fun active => out (sent active)⟩

/-- NET_TX_DONE in a twin that transmits and has a frame queued (R161). -/
theorem netTxDone_takes (tidy : s.tidy = true) (t : Nat) (runs : s.netStopped = false) (takes : s.takesMirror w = true)
    (queued : s.txHead w n ≠ s.txTail w n) :
    ∃ u, exec (.netTxDone t n) s = .next u ∧ FrameTaken w n (s.beginAt t) u ∧
      ((∀ y, (s.beginAt t).portIdle y n) → u.a = s.a ∧ u.b = s.b) ∧ framed (netReg n) (netRing n) (s.beginAt t) u := by
  have tidy' : (s.beginAt t).tidy = true := tidy
  have takes' : (s.beginAt t).takesMirror w = true := by cases w <;> exact takes
  obtain ⟨x, before, after⟩ := each_around (p := (s.beginAt t).takesMirror)
    (R := fun s u => s.tidy = true → PortStep (portRing w.other n) w.other n s u ∧ s.out ⊆ u.out) takes' (fun _ tidy => ⟨.refl tidy _ _, fun _ => id⟩)
    (fun x tidy => ⟨(txOne_step tidy w.other n).step, (txOne_step tidy w.other n).out⟩) (s.beginAt t)
  obtain ⟨before, -⟩ := before tidy'
  have queued' : x.txHead w n ≠ x.txTail w n := by rw [before.txHead, before.txTail]; exact queued
  obtain ⟨step, own⟩ := txOne_taken before.tidy queued'
  obtain ⟨after, out⟩ := after step.step.tidy
  exact ⟨_, exec_netTxDone t n runs, own.around before after out, each_txOne_quiet tidy' _,
    each_portFramed tidy' (q := fun o => portRing o n) (fun o _ tidy => (txOne_step tidy o n).step) (fun _ _ => netRing_of_portRing)⟩

theorem txBytes_beginAt (t : Nat) : (s.beginAt t).txBytes w n = s.txBytes w n := by
  have place : (s.beginAt t).txPlace w n = s.txPlace w n := rfl
  have le : ∀ a k, (s.beginAt t).rdLE a k = s.rdLE a k := fun a k => rdLE_congr fun _ _ => rfl
  rw [State.txBytes, State.txBytes, State.txLen, State.txLen, place, le, le]
  exact rdBytes_congr fun _ _ => rfl

/-- Settles O24: a step of a port is a step of that port alone, so that what each twin's MAC does stands after the other's. -/
theorem networkLinksAndTransmitRings : Obligations.NetworkLinksAndTransmitRings := by
  unfold Obligations.NetworkLinksAndTransmitRings
  refine ⟨fun s t n w tidy on => ⟨fun mode down => ?_, fun hiBer up => ?_⟩, fun s t w n tidy =>
    ⟨fun via slot hw => netRxfree_frees t hw slot, fun via v hw => netTxTail_moves tidy t hw n v, fun runs takes queued => ?_,
      fun r rest due => joinReport_taken tidy t due⟩⟩
  · obtain ⟨u, run, own, frame⟩ := netLinkUp_raises (n := n) tidy t on mode down
    exact ⟨u, run, own.up, own.chg, own.lock, own.ber, own.event, own.reports, frame⟩
  · obtain ⟨u, run, own, frame⟩ := netLinkDown_discards (n := n) tidy t on hiBer up
    exact ⟨u, run, own.up, own.chg, own.ber, own.lock, own.event, own.head, frame⟩
  · obtain ⟨u, run, own, quiet, frame⟩ := netTxDone_takes (n := n) tidy t runs takes queued
    refine ⟨u, run, own.head, own.misfit, fun long short down => own.closed ⟨long, short⟩ down, fun long short up => ?_, fun idle => quiet fun y => ?_,
      frame⟩
    · obtain ⟨status, frames, sent⟩ := own.opened ⟨long, short⟩ up
      rw [txBytes_beginAt] at sent
      exact ⟨status, fun idle => frames (by rw [State.portIdle, State.beginAt_tw]; exact idle w), sent⟩
    · rw [State.portIdle, State.beginAt_tw]
      exact idle y

end Sys2Proof.Machine
end

section
/-!
SUPPORT. What raising an event of one twin leaves of the other (R511, R515), and the steps of one twin that follow from it.
-/
namespace Sys2Proof.Machine

set_option Elab.async false

variable {s0 s u : State} {w o v : Twin} {l p : Nat → Bool}

/-! ### What a twin holds beside its registers -/

@[simp] theorem bump_tw (s : State) (a : Nat) (f : Fld) (n : Nat) (v : Twin) : (s.bump a f n).tw v = s.tw v := sf_tw _ _ _ _ _

theorem State.modTw_modTw (s : State) (w : Twin) (f g : TwinState → TwinState) : (s.modTw w f).modTw w g = s.modTw w (g ∘ f) := by cases w <;> rfl

theorem modTw_reg (s : State) (w : Twin) (f : TwinState → TwinState) (a : Nat) : (s.modTw w f).reg a = s.reg a := by cases w <;> rfl

theorem ite_tw {a b : State} {c : Prop} [Decidable c] {x : TwinState} (ha : a.tw v = x) (hb : b.tw v = x) : (if c then a else b).tw v = x := by
  split
  · exact ha
  · exact hb

theorem wrBytes_tw (s : State) (a : Nat) (b : List Byte) (v : Twin) : (s.wrBytes a b).tw v = s.tw v := by
  rw [wrBytes_eq]
  cases v <;> rfl

theorem writeRecords_tw (s : State) (first : Bool) (i : Nat) (rs : List LogRec) (v : Twin) : (s.writeRecords first i rs).tw v = s.tw v := by
  unfold State.writeRecords
  generalize rs.zipIdx = m
  induction m generalizing s with
  | nil => rfl
  | cons e m ih => rw [List.foldl_cons, ih, wrBytes_tw]

theorem sendMsix_tw (s : State) (k n : Nat) (v : Twin) : (s.sendMsix k n).tw v = s.tw v := by
  unfold State.sendMsix
  split <;> cases v <;> rfl

theorem logRecord_tw (s : State) (src n data stamp : Nat) (v : Twin) : (s.logRecord src n data stamp).tw v = s.tw v := by
  unfold State.logRecord
  split
  · exact bump_tw _ _ _ _ _
  · extract_lets head tail old recs s1 s2
    have counted : s1.tw v = s.tw v := ite_tw (bump_tw _ _ _ _ _) rfl
    have written : s2.tw v = s1.tw v := writeRecords_tw _ _ _ _ _
    rw [State.setReg_tw, ← counted, ← written]
    cases v <;> rfl

/-- The Thallus side of a raise changes nothing that a twin holds. -/
theorem accept_tw (s : State) (src n data stamp : Nat) (v : Twin) : (s.accept src n data stamp).tw v = s.tw v := by
  unfold State.accept
  extract_lets route s1 s2
  have pending : s1.tw v = s.tw v := by
    unfold s1
    split <;> cases v <;> rfl
  have sent : s2.tw v = s.tw v := ite_tw ((sendMsix_tw _ _ _ _).trans pending) pending
  exact ite_tw ((logRecord_tw _ _ _ _ _ _).trans sent) sent

theorem pushItem_tw_other (ne : v ≠ w) (q by_ : Nat) (soft : Bool) (k : Nat) (item : Item) (s : State) :
    (pushItem w q by_ soft k item s).2.2.tw v = s.tw v := by
  unfold Machine.pushItem
  extract_lets
  iterate 7
    split
    · rfl
  exact State.modTw_tw_other _ _ ne

/-- The queue route of a twin leaves what the other twin holds. -/
theorem routeTwin_tw_other (ne : v ≠ w) (fuel : Nat) (src n data stamp : Nat) (s : State) :
    (routeTwin fuel w src n data stamp s).tw v = s.tw v := by
  induction fuel generalizing s src n data stamp with
  | zero => rfl
  | succ fuel ih =>
    have raise : ∀ (en : Bool) (m d : Nat) (x : State), x.tw v = s.tw v →
        (if (!en || (x.tw w).marked m) = true then x
          else Machine.routeTwin fuel w (w.code + 1) m d stamp
            (if (x.modTw w (·.mark m d)).roleOf w = .active then (x.modTw w (·.mark m d)).accept (w.code + 1) m d stamp
             else x.modTw w (·.mark m d))).tw v = s.tw v := by
      intro en m d x hx
      have marked : (x.modTw w (·.mark m d)).tw v = s.tw v := (State.modTw_tw_other _ _ ne).trans hx
      exact ite_tw hx ((ih _ _ _ _ _).trans (ite_tw ((accept_tw _ _ _ _ _ _).trans marked) marked))
    simp only [Machine.routeTwin]
    have pending : (s.orReg (Reg.EVT_TPEND w (n / 32)) (2 ^ (n % 32))).tw v = s.tw v := State.setReg_tw _ _ _ _
    generalize s.orReg (Reg.EVT_TPEND w (n / 32)) (2 ^ (n % 32)) = y at pending ⊢
    generalize getFld (y.reg (Reg.EVT_QROUTE w n)) Fld.EVT_QROUTE_QUEUE = q
    have pushed := (pushItem_tw_other ne q reqEvent false y.tickNo
      { typ := 4, prio := y.qPrio w q, more := false, dl := false, flowed := false, flow := 0, seq := 0, tick := 0, body := y.eventBody src n data stamp }
      y).trans pending
    generalize Machine.pushItem w q reqEvent false y.tickNo _ y = r at pushed ⊢
    obtain ⟨result, cut, z⟩ := r
    change z.tw v = s.tw v at pushed
    have drop : ∀ x : State, x.tw v = s.tw v → (x.bump (Reg.EVT_TSTAT w) Fld.EVT_TSTAT_QDROP).tw v = s.tw v := fun x hx => (bump_tw _ _ _ _ _).trans hx
    have overflow : ∀ x : State, x.tw v = s.tw v →
        ((x.bump (Reg.SORUS_QCNT w q) Fld.SORUS_QCNT_OVERFLOW).bump (Reg.SORUS_CNT w) Fld.SORUS_CNT_OVERFLOW).tw v = s.tw v :=
      fun x hx => by rw [bump_tw, bump_tw, hx]
    have bank : ∀ i, (z.bankViol w i).tw v = s.tw v := fun i => by rw [State.bankViol, sf_tw, bump_tw, pushed]
    refine ite_tw pending (ite_tw (raise _ _ _ _ (drop _ pending)) ?_)
    cases result
    case done => exact pushed
    case full => exact raise _ _ _ _ (drop _ (raise _ _ _ _ (overflow _ pushed)))
    case bank => exact raise _ _ _ _ (drop _ (raise _ _ _ _ (raise _ _ _ _ (overflow _ (bank _)))))
    all_goals exact raise _ _ _ _ (drop _ pushed)

theorem raiseTwin_tw_other (ne : v ≠ w) (n data : Nat) (s : State) : (s.raiseTwin w n data).tw v = s.tw v := by
  unfold State.raiseTwin State.raiseTwinAt
  exact (routeTwin_tw_other ne _ _ _ _ _ _).trans (ite_tw (accept_tw _ _ _ _ _ _) rfl)

/-! ### Events of one twin -/

/-- From `s` to `u` twin `w` has raised events. -/
structure Raised (w : Twin) (s u : State) : Prop where
  evt : Evt s u
  other : u.tw w.other = s.tw w.other

theorem Raised.refl (w : Twin) (s : State) : Raised w s s := ⟨.refl s, rfl⟩

theorem Raised.raiseTwin (s : State) (w : Twin) {n : Nat} (data : Nat) (hn : n < 256 := by decide) : Raised w s (s.raiseTwin w n data) :=
  ⟨(Evt.refl s).raiseTwin w n data hn, raiseTwin_tw_other (other_ne w) n data s⟩

theorem Raised.raiseIf (s : State) (w : Twin) (ctl : Nat) (en : Fld) {n : Nat} (data : Nat) (hn : n < 256 := by decide) :
    Raised w s (s.raiseIf w ctl en n data) := by
  unfold State.raiseIf
  split
  · exact .raiseTwin s w data hn
  · exact .refl w s

theorem Raised.raiseOnce (s : State) (w : Twin) (ctl : Nat) (en : Fld) {n : Nat} (data : Nat) (hn : n < 256 := by decide) :
    Raised w s (s.raiseOnce w ctl en n data) := by
  refine ⟨(Evt.refl s).raiseOnce w ctl en n data hn, ?_⟩
  exact ite_tw ((raiseTwin_tw_other (other_ne w) _ _ _).trans (State.modTw_tw_other _ _ (other_ne w))) rfl

/-! ### A step of one twin -/

/-- From `s` to `u` twin `o` has made a step: registers that `l` picks, bytes that `p` picks, what raising events may change, and what that twin
holds. -/
structure TwinStep (l p : Nat → Bool) (o : Twin) (s u : State) : Prop where
  tidy : u.tidy = true
  frame : framed l p s u
  other : u.tw o.other = s.tw o.other

theorem TwinStep.refl (tidy : s.tidy = true) : TwinStep l p o s s := ⟨tidy, ⟨rfl, fun _ _ _ => rfl, fun _ _ _ => rfl⟩, rfl⟩

theorem TwinStep.trans (h : TwinStep l p o s0 s) (g : TwinStep l p o s u) : TwinStep l p o s0 u :=
  ⟨g.tidy, h.frame.trans g.frame, g.other.trans h.other⟩

theorem TwinStep.ite {a b : State} {c : Prop} [Decidable c] (ha : TwinStep l p o s a) (hb : TwinStep l p o s b) :
    TwinStep l p o s (if c then a else b) := by
  split
  · exact ha
  · exact hb

section
variable (h : TwinStep l p o s0 s)
include h

theorem TwinStep.wf : s.regsWf = true := (tidy_iff.1 h.tidy).1

theorem TwinStep.modTw (f : TwinState → TwinState) : TwinStep l p o s0 (s.modTw o f) := by
  refine h.trans ⟨by cases o <;> exact h.tidy, ?_, State.modTw_tw_other _ _ (other_ne o)⟩
  cases o <;> exact ⟨rfl, fun _ _ _ => rfl, fun _ _ _ => rfl⟩

theorem TwinStep.raised (g : Raised o s u) : TwinStep l p o s0 u := h.trans ⟨g.evt.tidy h.tidy, g.evt.framed h.tidy, g.other⟩

theorem TwinStep.setReg {a : Nat} (x : Word) (ha : l a = true) : TwinStep l p o s0 (s.setReg a x) := by
  obtain ⟨wf, mem⟩ := tidy_iff.1 h.tidy
  refine h.trans ⟨tidy_iff.2 ⟨State.regsWf_setReg wf a x, mem⟩, ⟨rfl, fun b hb _ => State.reg_setReg_ne wf (fun e => ?_) x, fun _ _ _ => rfl⟩,
    State.setReg_tw _ _ _ _⟩
  rw [e, ha] at hb
  cases hb

theorem TwinStep.sf {a : Nat} {f : Fld} {x : Nat} (ha : l a = true) (hf : f.hi < 32 := by decide) : TwinStep l p o s0 (s.sf a f x) := by
  rw [State.sf_low _ _ _ _ hf]
  exact h.setReg _ ha

theorem TwinStep.sb {a : Nat} {f : Fld} {b : Bool} (ha : l a = true) (hf : f.hi < 32 := by decide) : TwinStep l p o s0 (s.sb a f b) := h.sf ha hf

end

/-- Where a path reaches a twin, that twin makes its own step, with the other twin's step before it or after it. -/
theorem deliver_around {l : Twin → Nat → Bool} {via : Via} {f : Twin → State → State} (hw : w ∈ (s.reach via).1) (tidy : s.tidy = true)
    (step : ∀ o x, x.tidy = true → TwinStep (l o) p o x (f o x)) :
    ∃ x, TwinStep (l w.other) p w.other s x ∧ TwinStep (l w.other) p w.other (f w x) (s.deliver via f) := by
  obtain ⟨q, qw, each⟩ := deliver_each hw
  obtain ⟨x, before, after⟩ := each_around (R := fun s u => s.tidy = true → TwinStep (l w.other) p w.other s u) qw (fun _ tidy => .refl tidy)
    (fun x tidy => step w.other x tidy) s
  rw [each]
  exact ⟨x, before tidy, after (step w x (before tidy).tidy).tidy⟩

/-! ### The registers of a twin's colour pipeline and Curve Store -/

/-- The address is in the blocks of chapters 8 and 9 of twin `w`. -/
def colourReg (w : Twin) (a : Nat) : Bool := decide (w.base + 0x60000 ≤ a ∧ a < w.base + 0x80000)

theorem colourReg_at (w : Twin) {k : Nat} (lo : 0x60000 ≤ k := by decide) (hi : k < 0x80000 := by decide) : colourReg w (w.base + k) = true :=
  decide_eq_true (by omega)

theorem colourReg_stat (w : Twin) : colourReg w (Reg.COLR_STAT w) = true := colourReg_at w
theorem colourReg_scrub (w : Twin) : colourReg w (Reg.CURV_SCRUB w) = true := colourReg_at w
theorem colourReg_pass (w : Twin) : colourReg w (Reg.CURV_PASS w) = true := colourReg_at w

/-- No event writes them. -/
theorem evtReg_colour {a : Nat} (h : colourReg w a = true) : evtReg a = false := by
  have inside := of_decide_eq_true h
  cases w <;>
  · simp only [Twin.base] at inside
    simp [evtReg, twins, Reg.EVT_PEND, Reg.EVT_LOG_HEAD, Reg.EVT_LOG_STAT, Reg.EVT_TPEND, Reg.EVT_TSTAT, Reg.BANK_VIOL, Reg.SORUS_CNT,
      Reg.SORUS_QCNT, Twin.base]
    omega

theorem colourReg_apart {a : Nat} (h : colourReg w a = true) : colourReg w.other a = false := by
  have inside := of_decide_eq_true h
  refine decide_eq_false ?_
  cases w <;> simp only [Twin.base, Twin.other] at inside ⊢ <;> omega

/-! ### The image of a twin -/

/-- What the image says is what its bytes say. -/
theorem ent_congr_img (same : ∀ ty inst off, u.rdB (Addr.img w ty inst off) = s.rdB (Addr.img w ty inst off)) (ty inst idx off k : Nat) :
    u.ent w ty inst idx off k = s.ent w ty inst idx off k :=
  rdLE_congr fun i _ => by
    have img : entryAddr w ty inst idx + off + i = Addr.img w ty inst (idx * entrySize ty inst + off + i) := by
      simp only [entryAddr, Addr.img]; omega
    rw [img]
    exact same ..

/-- Where only events write bytes, the image stays. -/
theorem ent_framed (h : framed l nowhere s u) (w : Twin) (ty inst idx off k : Nat) : u.ent w ty inst idx off k = s.ent w ty inst idx off k :=
  ent_congr_img (fun ty inst off => h.bytes _ rfl (evtByte_img w ty inst off)) ty inst idx off k

end Sys2Proof.Machine
end

section
/-!
COLR_CMT, COLR_ZONE_FORCE, ZONE_COLD and ZONE_RAMP_END (R231, R232, R239 to R241).
-/
namespace Sys2Proof.Machine

set_option Elab.async false

variable {s0 s u : State} {w o : Twin} {z : Nat} {l p : Nat → Bool}

/-! ### Which sets are refused (R232, R257) -/

/-- A slot that no set may name is not fixed, and is being written or empty. -/
theorem curveState_barred (s : State) (w : Twin) (c : Nat) :
    (s.curveState w c = 0 ∨ s.curveState w c = 3) ↔ 4 ≤ c ∧ (c ∈ (s.tw w).curves.writing ∨ c ∉ (s.tw w).curves.covered) := by
  unfold State.curveState
  extract_lets v
  by_cases fixed : c < 4
  · rw [if_pos fixed]
    omega
  rw [if_neg fixed]
  by_cases writing : c ∈ v.writing
  · rw [if_pos (List.contains_iff_mem.2 writing)]
    exact ⟨fun _ => ⟨by omega, .inl writing⟩, fun _ => .inr rfl⟩
  rw [if_neg (by simpa using writing)]
  by_cases covered : c ∈ v.covered
  · rw [if_neg (by simpa using covered)]
    refine ⟨fun h => ?_, fun ⟨_, h⟩ => (h.elim writing (fun out => out covered)).elim⟩
    split at h <;> simp at h
  · rw [if_pos (by simpa using covered)]
    exact ⟨fun _ => ⟨by omega, .inr covered⟩, fun _ => .inl rfl⟩

/-- A set that is not refused is not refused where the same slots are covered and no further ones are being written. -/
theorem mastersRefused_mono {m : MasterSet} (covered : (u.tw w).curves.covered = (s.tw w).curves.covered)
    (writing : (u.tw w).curves.writing ⊆ (s.tw w).curves.writing) (ok : s.mastersRefused w m = false) : u.mastersRefused w m = false := by
  simp only [State.mastersRefused, Bool.or_eq_false_iff, decide_eq_false_iff_not, curveState_barred] at ok ⊢
  refine ⟨fun barred => ok.1 ⟨barred.1, barred.2.imp (fun h => writing h) fun h => ?_⟩, ok.2⟩
  rwa [← covered]

/-- A capture before a graft of the same clock leaves the masters, and takes slots out of WRITING (R256). -/
theorem captureFirst_modTw (w : Twin) (c : Nat) (s : State) : ∃ f, captureFirst w c s = s.modTw w f ∧
    ∀ t, (f t).masters = t.masters ∧ (f t).curves.covered = t.curves.covered ∧ (f t).curves.writing ⊆ t.curves.writing := by
  have idle : s = s.modTw w id := by cases w <;> rfl
  unfold captureFirst
  split
  · exact ⟨id, idle, fun t => ⟨rfl, rfl, fun _ => id⟩⟩
  · split
    · exact ⟨_, State.modTw_modTw _ _ _ _, fun t => ⟨rfl, rfl, List.filter_subset_self _⟩⟩
    · exact ⟨id, idle, fun t => ⟨rfl, rfl, fun _ => id⟩⟩

/-! ### The shadows, and the cutoff (R185, R231) -/

theorem masterSet_congr (same : ∀ a, colourReg w a = true → u.reg a = s.reg a) : u.masterSet w = s.masterSet w := by
  have gm := rf_congr (Reg.COLR_GM w) Fld.COLR_GM_LEVEL (by decide) (same _ (colourReg_at w))
  have fader := rf_congr (Reg.COLR_FADER w) Fld.COLR_FADER_CURVE (by decide) (same _ (colourReg_at w))
  have level : ∀ n ∈ List.range 256,
      (n, u.rf (Reg.COLR_GRP_LVL w n) Fld.COLR_GRP_LVL_LEVEL) = (n, s.rf (Reg.COLR_GRP_LVL w n) Fld.COLR_GRP_LVL_LEVEL) := fun n hn => by
    have few := List.mem_range.1 hn
    rw [rf_congr _ _ (by decide) (same _ (by rw [Reg.COLR_GRP_LVL, Nat.add_assoc]; exact colourReg_at w (by omega) (by omega)))]
  have source : ∀ n ∈ List.range 256, (n, (u.reg (Reg.COLR_GRP_SRC w n)).toNat) = (n, (s.reg (Reg.COLR_GRP_SRC w n)).toNat) := fun n hn => by
    have few := List.mem_range.1 hn
    rw [same _ (by rw [Reg.COLR_GRP_SRC, Nat.add_assoc]; exact colourReg_at w (by omega) (by omega))]
  rw [State.masterSet, State.masterSet, gm, fader, List.map_congr_left level, List.map_congr_left source]

/-- Where only events write bytes, the cutoff of the next tick stays where it is. -/
theorem lateNow_framed (h : framed l nowhere s u) (w : Twin) : u.lateNow w = s.lateNow w := by
  have tg : u.tg = s.tg := by rw [h.rest]
  have now : ∀ n, u.tbNow n = s.tbNow n := fun n => by rw [h.rest]; rfl
  have guard : u.guard w = s.guard w := by
    rw [State.guard, State.guard, State.guardLines, State.guardLines, State.canvasH, State.canvasH, ent_framed h, ent_framed h, tg]
  rw [State.lateNow, State.lateNow, State.tickPlaced, State.tickPlaced, guard, tg, now]

/-! ### What a commit writes -/

/-- The registers of COLR_STAT, COLR_LATE_TS and COLR_LATE_TICK of a twin. -/
def commitReg (o : Twin) (a : Nat) : Bool := decide (o.base + 0x60014 ≤ a ∧ a < o.base + 0x60024)

theorem commitReg_stat (o : Twin) : commitReg o (Reg.COLR_STAT o) = true := by cases o <;> decide
theorem commitReg_lateTs (o : Twin) : commitReg o (Reg.COLR_LATE_TS o) = true ∧ commitReg o (Reg.COLR_LATE_TS o + 4) = true := by cases o <;> decide
theorem commitReg_lateTick (o : Twin) : commitReg o (Reg.COLR_LATE_TICK o) = true := by cases o <;> decide

theorem colourReg_of_commitReg {a : Nat} (h : commitReg o a = true) : colourReg o a = true := by
  have inside := of_decide_eq_true h
  exact decide_eq_true (by omega)

/-- A commit in one twin leaves the colour registers of the other. -/
theorem TwinStep.colourReg {a : Nat} (h : TwinStep (commitReg w.other) p w.other s u) (ha : colourReg w a = true) : u.reg a = s.reg a := by
  refine h.frame.regs a (Bool.eq_false_iff.2 fun c => ?_) (evtReg_colour ha)
  exact Bool.eq_false_iff.1 (colourReg_apart ha) (colourReg_of_commitReg c)

theorem TwinStep.own (h : TwinStep l p w.other s u) : u.tw w = s.tw w := by
  have back : w.other.other = w := by cases w <;> rfl
  have other := h.other
  rwa [back] at other

/-- What has become of the masters of a twin is as events leave it. -/
theorem Evt.masters (h : Evt s u) (v : Twin) : (u.tw v).masters = (s.tw v).masters := by
  rw [h.rest]
  cases v <;> rfl

theorem watchSpare_raised (w : Twin) (s : State) :
    Raised w (s.modCurves w (fun v => { v with spare := s.curveCount w 0 + s.curveCount w 1 })) (watchSpare w s) := by
  unfold watchSpare
  extract_lets least n s1
  split
  · exact .raiseIf s1 w _ _ _
  · exact .refl w s1

/-- The watch over the spare slots leaves the masters and the colour registers. -/
theorem watchSpare_keeps (wf : s.regsWf = true) (w : Twin) :
    ((watchSpare w s).tw w).masters = (s.tw w).masters ∧ ∀ a, colourReg w a = true → (watchSpare w s).reg a = s.reg a := by
  have raised := (watchSpare_raised w s).evt
  refine ⟨?_, fun a ha => ?_⟩
  · rw [raised.masters, State.modCurves, State.modTw_tw]
  · rw [(raised.regs (by rw [State.modCurves, modTw_regsWf]; exact wf)).2 a (evtReg_colour ha), State.modCurves, modTw_reg]

theorem showPending_shows (wf : s.regsWf = true) (w : Twin) :
    (showPending w s).regsWf = true ∧ (showPending w s).tw w = s.tw w ∧
      (showPending w s).rb (Reg.COLR_STAT w) Fld.COLR_STAT_PEND_NEXT = (s.tw w).masters.next.isSome := by
  unfold showPending
  extract_lets m
  have wf' : (s.sb (Reg.COLR_STAT w) Fld.COLR_STAT_PEND_NEXT m.next.isSome).regsWf = true := State.regsWf_sf wf _ _ _
  refine ⟨State.regsWf_sf wf' _ _ _, ?_, ?_⟩
  · rw [State.sb, State.sb, sf_tw, sf_tw]
  · exact (rb_sb_other wf' _ _ _ _).trans (rb_sb_self wf _ _ _)

/-- LATE of a commit that missed the cutoff. -/
theorem mastersLate_shows (wf : s.regsWf = true) (w : Twin) (stamp : Nat) :
    (mastersLate w stamp s).regsWf = true ∧ ((mastersLate w stamp s).tw w).masters = (s.tw w).masters ∧
      (mastersLate w stamp s).rb (Reg.COLR_STAT w) Fld.COLR_STAT_LATE = true := by
  unfold mastersLate
  generalize flagged : s.sb (Reg.COLR_STAT w) Fld.COLR_STAT_LATE true = x
  extract_lets s1 s2
  have wfx : x.regsWf = true := by rw [← flagged]; exact State.regsWf_sf wf _ _ _
  have wf1 : s1.regsWf = true := State.regsWf_setReg (State.regsWf_setReg wfx _ _) _ _
  have wf2 : s2.regsWf = true := State.regsWf_setReg wf1 _ _
  have wf3 : (s2.modLay w (fun y => { y with lateNext := y.lateNext + 1 })).regsWf = true := (modTw_regsWf _ _ _).trans wf2
  have raised := (Raised.raiseOnce (s2.modLay w (fun y => { y with lateNext := y.lateNext + 1 })) w (Reg.COLR_EVT_CTL w)
    Fld.COLR_EVT_CTL_LATE_EN (n := 52) 0).evt
  have apart : Reg.COLR_STAT w ∉ [Reg.COLR_LATE_TS w, Reg.COLR_LATE_TS w + 4] ∧ Reg.COLR_STAT w ≠ Reg.COLR_LATE_TICK w := by cases w <;> decide
  refine ⟨(raised.regs wf3).1, ?_, ?_⟩
  · have written : s2.tw w = s.tw w := by rw [← sf_tw s (Reg.COLR_STAT w) Fld.COLR_STAT_LATE 1 w]; cases w <;> subst flagged <;> rfl
    rw [raised.masters, State.modLay, State.modTw_tw, written]
  · have raised' := (raised.regs wf3).2 (Reg.COLR_STAT w) (evtReg_colour (colourReg_stat w))
    have stat : s2.reg (Reg.COLR_STAT w) = x.reg (Reg.COLR_STAT w) :=
      (State.reg_setReg_ne wf1 apart.2 _).trans ((onlyRegs_wr64 wfx _ _).regs _ apart.1)
    refine (rb_congr _ _ (by decide) ((raised'.trans (modTw_reg _ _ _ _)).trans stat)).trans ?_
    rw [← flagged]
    exact rb_sb_self wf _ _ _

section
variable (h : TwinStep (commitReg o) p o s0 s)
include h

theorem TwinStep.captureFirst (c : Nat) : TwinStep (commitReg o) p o s0 (captureFirst o c s) := by
  obtain ⟨f, eq, -⟩ := captureFirst_modTw o c s
  rw [eq]
  exact h.modTw f

theorem TwinStep.showPending : TwinStep (commitReg o) p o s0 (showPending o s) := (h.sb (commitReg_stat o)).sb (commitReg_stat o)

theorem TwinStep.watchSpare : TwinStep (commitReg o) p o s0 (watchSpare o s) := (h.modTw _).raised (watchSpare_raised o s)

theorem TwinStep.mastersLate (stamp : Nat) : TwinStep (commitReg o) p o s0 (mastersLate o stamp s) := by
  obtain ⟨low, high⟩ := commitReg_lateTs o
  have flagged : TwinStep (commitReg o) p o s0 (s.sb (Reg.COLR_STAT o) Fld.COLR_STAT_LATE true) := h.sb (commitReg_stat o)
  exact ((((flagged.setReg _ low).setReg _ high).setReg _ (commitReg_lateTick o)).modTw _).raised (.raiseOnce _ o _ _ _)

end

/-- A master commit is a step of its twin alone. -/
theorem commitMasters_step (tidy : s.tidy = true) (v : Word) (w : Twin) : TwinStep (commitReg w) p w s (commitMasters v w s) := by
  have begin_ : TwinStep (commitReg w) p w s s := .refl tidy
  unfold commitMasters
  split
  · exact begin_
  · extract_lets m x late s1 s2
    have hx : TwinStep (commitReg w) p w s x := begin_.captureFirst _
    have h2 : TwinStep (commitReg w) p w s s2 := (hx.modTw _).showPending
    exact .ite ((hx.sb (commitReg_stat w)).raised (.raiseIf _ w _ _ _)) (TwinStep.ite (h2.mastersLate _) h2).watchSpare

/-! ### COLR_CMT (R231) -/

/-- A set of twin `w` has been captured from `s` for the next tick, or for the one after where it is late. -/
structure MastersTaken (w : Twin) (m : MasterSet) (s u : State) : Prop where
  soon : s.lateNow w = false → (u.tw w).masters.next = some m ∧ (u.tw w).masters.after = (s.tw w).masters.after ∧
    u.rb (Reg.COLR_STAT w) Fld.COLR_STAT_PEND_NEXT = true
  late : s.lateNow w = true → (u.tw w).masters.after = some m ∧ (u.tw w).masters.next = (s.tw w).masters.next ∧
    u.rb (Reg.COLR_STAT w) Fld.COLR_STAT_LATE = true

theorem MastersTaken.congr {m : MasterSet} {x y : State} (h : MastersTaken w m x y) (late : x.lateNow w = s.lateNow w)
    (source : (x.tw w).masters = (s.tw w).masters) (result : (u.tw w).masters = (y.tw w).masters) (stat : u.reg (Reg.COLR_STAT w) = y.reg (Reg.COLR_STAT w)) :
    MastersTaken w m s u := by
  have soon := h.soon
  have late' := h.late
  rw [late, source, ← result, ← rb_congr _ _ (by decide) stat] at soon late'
  exact ⟨soon, late'⟩

theorem modMasters_masters (s : State) (w : Twin) (f : Masters → Masters) : ((s.modMasters w f).tw w).masters = f (s.tw w).masters := by
  rw [State.modMasters, State.modTw_tw]

/-- The masters with a set captured. -/
def State.taking (s : State) (w : Twin) (m : MasterSet) (x : Masters) : Masters :=
  if s.lateNow w then { x with after := some m }
  else { x with next := some m, early := if s.tickPlaced then x.early else x.early ++ [(s.now, s.stamp, m)] }

/-- The set is captured, and COLR_STAT shows it. -/
def State.capture (s : State) (w : Twin) (m : MasterSet) : State := showPending w (s.modMasters w (s.taking w m))

theorem capture_shows (wf : s.regsWf = true) (w : Twin) (m : MasterSet) :
    (s.capture w m).regsWf = true ∧ ((s.capture w m).tw w).masters = s.taking w m (s.tw w).masters ∧
      (s.capture w m).rb (Reg.COLR_STAT w) Fld.COLR_STAT_PEND_NEXT = (s.taking w m (s.tw w).masters).next.isSome := by
  have wf' : (s.modMasters w (s.taking w m)).regsWf = true := (modTw_regsWf _ _ _).trans wf
  obtain ⟨wf'', held, shown⟩ := showPending_shows wf' w
  rw [modMasters_masters] at shown
  exact ⟨wf'', by rw [State.capture, held, modMasters_masters], shown⟩

/-- The set is captured, and shown as late where it has missed the cutoff. -/
def State.captureTimed (s : State) (w : Twin) (m : MasterSet) : State :=
  if s.lateNow w then mastersLate w s.stamp (s.capture w m) else s.capture w m

theorem captureTimed_taken (wf : s.regsWf = true) (w : Twin) (m : MasterSet) : MastersTaken w m s (s.captureTimed w m) := by
  obtain ⟨wf', masters, shown⟩ := capture_shows wf w m
  obtain ⟨-, kept, flag⟩ := mastersLate_shows wf' w s.stamp
  rw [masters] at kept
  unfold State.taking at masters shown kept
  unfold State.captureTimed
  cases late : s.lateNow w with
  | false =>
    rw [late, if_neg Bool.false_ne_true] at masters shown
    rw [if_neg Bool.false_ne_true]
    exact ⟨fun _ => ⟨by rw [masters], by rw [masters], shown⟩, fun c => (by cases late.symm.trans c)⟩
  | true =>
    rw [late, if_pos rfl] at kept
    rw [if_pos rfl]
    exact ⟨fun c => (by cases late.symm.trans c), fun _ => ⟨by rw [kept], by rw [kept], flag⟩⟩

theorem TwinStep.captureTimed (h : TwinStep (commitReg w) p w s0 s) (m : MasterSet) : TwinStep (commitReg w) p w s0 (s.captureTimed w m) :=
  have pending : TwinStep (commitReg w) p w s0 (s.capture w m) := (h.modTw _).showPending
  .ite (pending.mastersLate _) pending

/-- A write of GO with a set that is not refused, once a graft of the same clock has given way. -/
theorem commitMasters_go {v : Word} (go : getFld v Fld.COLR_CMT_GO = 1)
    (ok : (captureFirst w (s.masterSet w).fader s).mastersRefused w (s.masterSet w) = false) :
    commitMasters v w s = watchSpare w ((captureFirst w (s.masterSet w).fader s).captureTimed w (s.masterSet w)) :=
  (if_neg (by rw [go]; decide)).trans (if_neg (by rw [ok]; exact Bool.false_ne_true))

theorem commitMasters_taken (tidy : s.tidy = true) {v : Word} (go : getFld v Fld.COLR_CMT_GO = 1) (ok : s.mastersRefused w (s.masterSet w) = false) :
    MastersTaken w (s.masterSet w) s (commitMasters v w s) := by
  obtain ⟨f, first, keeps⟩ := captureFirst_modTw w (s.masterSet w).fader s
  obtain ⟨masters, covered, writing⟩ := keeps (s.tw w)
  have step : TwinStep (commitReg w) nowhere w s (captureFirst w (s.masterSet w).fader s) := (TwinStep.refl tidy).captureFirst _
  have held : (captureFirst w (s.masterSet w).fader s).tw w = f (s.tw w) := by rw [first, State.modTw_tw]
  rw [commitMasters_go go (mastersRefused_mono (by rw [held, covered]) (by rw [held]; exact writing) ok)]
  generalize captureFirst w (s.masterSet w).fader s = x at step held
  obtain ⟨kept, regs⟩ := watchSpare_keeps (step.captureTimed (s.masterSet w)).wf w
  exact (captureTimed_taken step.wf w _).congr (lateNow_framed step.frame w) (by rw [held, masters]) kept (regs _ (colourReg_stat w))

/-- COLR_CMT in a twin that it reaches. -/
theorem colrCmt_taken (tidy : s.tidy = true) (t : Nat) {via : Via} {v : Word} (hw : w ∈ (s.reach via).1) (go : getFld v Fld.COLR_CMT_GO = 1)
    (ok : s.mastersRefused w (s.masterSet w) = false) :
    ∃ u, exec (.colrCmt t via v) s = .next u ∧ MastersTaken w (s.masterSet w) (s.beginAt t) u := by
  obtain ⟨x, before, after⟩ := deliver_around (s := s.beginAt t) (f := commitMasters v) (l := commitReg) (p := nowhere) (by rwa [reach_beginAt]) tidy
    (fun o x tidy => commitMasters_step tidy v o)
  have own : x.tw w = s.tw w := before.own.trans (State.beginAt_tw _ _ _)
  have shadows : x.masterSet w = s.masterSet w := masterSet_congr fun a ha => before.colourReg ha
  have taken := commitMasters_taken (w := w) before.tidy go (by
    rw [shadows]
    exact mastersRefused_mono (by rw [own]) (by rw [own]; exact fun _ => id) ok)
  rw [shadows] at taken
  exact ⟨_, rfl, taken.congr (lateNow_framed before.frame w) (congrArg TwinState.masters before.own) (congrArg TwinState.masters after.own)
    (after.colourReg (colourReg_stat w))⟩

/-! ### COLR_ZONE_FORCE (R241) -/

/-- COLR_ZONE_FORCE changes nothing but what its twin holds beside its registers. -/
theorem forceZone_modTw (v : Word) (w : Twin) (s : State) : ∃ f, forceZone v w s = s.modTw w f := by
  unfold forceZone
  extract_lets z t f
  split
  · exact ⟨_, rfl⟩
  · exact ⟨id, by cases w <;> rfl⟩

/-- A force or release of a zone that a used fixture names joins those that wait. -/
theorem forceZone_waits {v : Word} (used : s.rf (Reg.COLR_ZONE_SEL w) Fld.COLR_ZONE_SEL_ZONE ∈ s.usedZones w) :
    forceZone v w s = s.modTw w (fun x => { x with forces := x.forces ++ [(s.rf (Reg.COLR_ZONE_SEL w) Fld.COLR_ZONE_SEL_ZONE,
      if getFld v Fld.COLR_ZONE_FORCE_FORCE = 1 then some (max (-640) (min 2000 (toSigned 16 (getFld v Fld.COLR_ZONE_FORCE_TEMP)))) else none)] }) :=
  if_pos (List.contains_iff_mem.2 used)

/-- From `s` to `u` only what twin `o` holds beside its registers has changed. -/
def TwinOnly (o : Twin) (s u : State) : Prop := ∃ f, u = s.modTw o f

theorem TwinOnly.refl (o : Twin) (s : State) : TwinOnly o s s := ⟨id, by cases o <;> rfl⟩

theorem TwinOnly.own (h : TwinOnly w.other s u) : u.tw w = s.tw w := by
  obtain ⟨f, rfl⟩ := h
  exact State.modTw_tw_other _ _ (other_ne w).symm

theorem TwinOnly.shared (h : TwinOnly o s u) : u.regs = s.regs ∧ u.mem = s.mem ∧ u.role = s.role := by
  obtain ⟨f, rfl⟩ := h
  cases o <;> exact ⟨rfl, rfl, rfl⟩

theorem TwinOnly.usedZones (h : TwinOnly o s u) (w : Twin) : u.usedZones w = s.usedZones w := by
  obtain ⟨f, rfl⟩ := h
  cases o <;> rfl

theorem colrZoneForce_waits (t : Nat) {via : Via} {v : Word} (hw : w ∈ (s.reach via).1)
    (used : s.rf (Reg.COLR_ZONE_SEL w) Fld.COLR_ZONE_SEL_ZONE ∈ s.usedZones w) :
    ∃ u, exec (.colrZoneForce t via v) s = .next u ∧
      (u.tw w).forces = (s.tw w).forces ++ [(s.rf (Reg.COLR_ZONE_SEL w) Fld.COLR_ZONE_SEL_ZONE,
        if getFld v Fld.COLR_ZONE_FORCE_FORCE = 1 then some (max (-640) (min 2000 (toSigned 16 (getFld v Fld.COLR_ZONE_FORCE_TEMP)))) else none)] ∧
      u.regs = s.regs ∧ u.mem = s.mem ∧ u.role = s.role := by
  obtain ⟨q, qw, each⟩ := deliver_each (s := s.beginAt t) (via := via) (by rwa [reach_beginAt])
  obtain ⟨x, before, after⟩ := each_around (R := TwinOnly w.other) (f := forceZone v) qw (TwinOnly.refl w.other) (forceZone_modTw v w.other) (s.beginAt t)
  rw [← each] at after
  obtain ⟨regs, mem, role⟩ := before.shared
  have zone : x.rf (Reg.COLR_ZONE_SEL w) Fld.COLR_ZONE_SEL_ZONE = s.rf (Reg.COLR_ZONE_SEL w) Fld.COLR_ZONE_SEL_ZONE :=
    rf_congr _ _ (by decide) (by rw [State.reg, regs]; rfl)
  have own : TwinOnly w x (forceZone v w x) := forceZone_modTw v w x
  obtain ⟨regs', mem', role'⟩ := own.shared
  obtain ⟨regs'', mem'', role''⟩ := after.shared
  refine ⟨_, rfl, ?_, regs''.trans (regs'.trans regs), mem''.trans (mem'.trans mem), role''.trans (role'.trans role)⟩
  rw [after.own, forceZone_waits (by rw [zone, before.usedZones]; exact used), State.modTw_tw, before.own, zone, State.beginAt_tw]

/-! ### Zones (R239, R240) -/

theorem zone_putZone (s : State) (w : Twin) (z y : Nat) (x : Zone) :
    (s.putZone w z x).zone w y = if y = z then (s.zone w z).map (fun _ => x) else s.zone w y := by
  have key : ∀ e : Nat × Zone, (if e.1 = z then (z, x) else e).1 = e.1 := fun e => by
    split
    next same => exact same.symm
    next => rfl
  rw [State.zone, State.putZone, State.modTw_tw, List.find?_map, Option.map_map]
  simp only [Function.comp_def, key]
  split
  next same =>
    subst same
    rw [State.zone, Option.map_map]
    refine Option.map_congr fun e he => ?_
    have found : e.1 = y := by simpa using List.find?_some he
    simp [found]
  next ne =>
    refine Option.map_congr fun e he => ?_
    have found : e.1 = y := by simpa using List.find?_some he
    rw [if_neg (by rw [found]; exact ne)]

theorem zone_putZone_self {y : Zone} (held : s.zone w z = some y) (x : Zone) : (s.putZone w z x).zone w z = some x := by
  rw [zone_putZone, if_pos rfl, held]
  rfl

theorem zone_putZone_ne (s : State) (w : Twin) {z y : Nat} (ne : y ≠ z) (x : Zone) : (s.putZone w z x).zone w y = s.zone w y := by
  rw [zone_putZone, if_neg ne]

theorem zone_beginAt (s : State) (t : Nat) (w : Twin) (z : Nat) : (s.beginAt t).zone w z = s.zone w z := by
  rw [State.zone, State.beginAt_tw]
  rfl

theorem Evt.zone (h : Evt s u) (w : Twin) (z : Nat) : u.zone w z = s.zone w z := by
  have zones : (u.tw w).zones = (s.tw w).zones := by
    rw [h.rest]
    cases w <;> rfl
  rw [State.zone, State.zone, zones]

section
variable {z : Fin 4096} {x : Zone} (held : s.zone w z.val = some x) (ran : s.tg.ran = true) (settled : x.fresh = false)
include held ran settled

/-- ZONE_COLD of a zone whose wait ends with no report. -/
theorem zoneCold_enters (st : x.st = 0) (waited : s.profGlobal w 0 ≤ x.ticks + 1) (none_ : s.reportDue w z.val = false) :
    ∃ u, exec (.zoneCold w z) s = .next u ∧ (u.zone w z.val).map (·.st) = some 3 ∧ u.now = max s.now s.nextTickRaw ∧
      ∀ y, y ≠ z.val → u.zone w y = s.zone w y := by
  have run : exec (.zoneCold w z) s = .next (if (s.tw w).zones.any (fun e => e.2.cooled) then
        (s.beginAt s.nextTickRaw).putZone w z.val { x.enter 3 none with fresh := true }
      else ((s.beginAt s.nextTickRaw).putZone w z.val { x.enter 3 none with fresh := true }).raiseIf w (Reg.COLR_EVT_CTL w)
        Fld.COLR_EVT_CTL_COLD_EN 53 0) := by
    change execZoneCold w z s = _
    unfold execZoneCold
    rw [held]
    exact if_pos ⟨st, by rw [settled]; rfl, waited, ran, by rw [none_]; rfl⟩
  have event : Evt ((s.beginAt s.nextTickRaw).putZone w z.val { x.enter 3 none with fresh := true }) _ :=
    .ite (c := (s.tw w).zones.any (fun e => e.2.cooled) = true) (.refl _) ((Evt.refl _).raiseIf w (Reg.COLR_EVT_CTL w) Fld.COLR_EVT_CTL_COLD_EN 53 0 (by decide))
  refine ⟨_, run, ?_, ?_, fun y ne => ?_⟩
  · rw [event.zone, zone_putZone_self ((zone_beginAt _ _ _ _).trans held)]
    rfl
  · rw [event.now]
    cases w <;> rfl
  · rw [event.zone, zone_putZone_ne _ _ ne, zone_beginAt]

/-- ZONE_RAMP_END of a zone whose ramp reaches its end. -/
theorem zoneRampEnd_tracks (st : x.st = 1) (full : rhoAt (x.ticks + 1) s.tg.cur.num s.tg.cur.den = 1024) :
    ∃ u, exec (.zoneRampEnd w z) s = .next u ∧ (u.zone w z.val).map (fun y => (y.st, y.rho)) = some (2, 1024) ∧ u.regs = s.regs ∧ u.mem = s.mem ∧
      ∀ y, y ≠ z.val → u.zone w y = s.zone w y := by
  have run : exec (.zoneRampEnd w z) s =
      .next ((s.beginAt s.nextTickRaw).putZone w z.val { x with st := 2, ticks := 0, rho := 1024, fresh := true }) := by
    change execZoneRampEnd w z s = _
    unfold execZoneRampEnd
    rw [held]
    exact if_pos ⟨st, by rw [settled]; rfl, full, ran⟩
  refine ⟨_, run, ?_, modTw_regs _ _ _, by cases w <;> rfl, fun y ne => ?_⟩
  · rw [zone_putZone_self ((zone_beginAt _ _ _ _).trans held)]
    rfl
  · rw [zone_putZone_ne _ _ ne, zone_beginAt]

end

end Sys2Proof.Machine
end

section
/-!
CURV_SCRUB and CURV_PARITY_RETRY (R262, R263).
-/
namespace Sys2Proof.Machine

set_option Elab.async false

variable {s0 s u : State} {w : Twin} {c i m pos : Nat}

/-! ### The replicas of a point (R251) -/

/-- A list of replicas that hold something else, after more upsets of a point. -/
def addUpsets (c i : Nat) (us : List Upset) (old : List (Nat × Nat × Bool)) : List (Nat × Nat × Bool) :=
  us.foldl (fun l e => ((c * 1024 + i) * 8 + e.lane.val, e.value.toNat, e.good) :: l.filter (fun x => x.1 ≠ (c * 1024 + i) * 8 + e.lane.val)) old

theorem upsetPoint_eq (w : Twin) (c i : Nat) (us : List Upset) (s : State) :
    upsetPoint w c i us s = s.modCurves w (fun v => { v with upset := addUpsets c i us v.upset }) := by
  induction us generalizing s with
  | nil => cases w <;> rfl
  | cons e us ih =>
    rw [upsetPoint, List.foldl_cons, ← upsetPoint, ih]
    exact State.modTw_modTw _ _ _ _

/-- Upsets are nothing but what the twin's replicas hold. -/
theorem upsetPoint_shared (w : Twin) (c i : Nat) (us : List Upset) (s : State) :
    (upsetPoint w c i us s).regs = s.regs ∧ (upsetPoint w c i us s).mem = s.mem ∧ (upsetPoint w c i us s).role = s.role ∧
      (upsetPoint w c i us s).tw w.other = s.tw w.other := by
  rw [upsetPoint_eq]
  cases w <;> exact ⟨rfl, rfl, rfl, rfl⟩

theorem upsetPoint_curves (w : Twin) (c i : Nat) (us : List Upset) (s : State) :
    ((upsetPoint w c i us s).tw w).curves = { (s.tw w).curves with upset := addUpsets c i us (s.tw w).curves.upset } := by
  rw [upsetPoint_eq, State.modCurves, State.modTw_tw]

/-- From `s` to `u` a point reads as before in every lane. -/
structure PointKept (w : Twin) (c i : Nat) (s u : State) : Prop where
  point : u.point w c i = s.point w c i
  replica : ∀ l, u.replica w c i l = s.replica w c i l

theorem point_congr (same : u.ent w 10 0 c (4 * i) 4 = s.ent w 10 0 c (4 * i) 4) : u.point w c i = s.point w c i := by
  rcases c with _ | _ | _ | _ | c
  case succ.succ.succ.succ => exact congrArg (· % 2 ^ 20) same
  all_goals rfl

/-- What a slot that is not fixed holds. -/
theorem point_stored (free : 4 ≤ c) : s.point w c i = s.ent w 10 0 c (4 * i) 4 % 2 ^ 20 := by
  obtain ⟨k, rfl⟩ := Nat.exists_eq_add_of_le' free
  rfl

theorem PointKept.of_ent (upset : (u.tw w).curves.upset = (s.tw w).curves.upset)
    (same : u.ent w 10 0 c (4 * i) 4 = s.ent w 10 0 c (4 * i) 4) : PointKept w c i s u := by
  have point := point_congr same
  exact ⟨point, fun l => by rw [State.replica, State.replica, upset, point]⟩

theorem Evt.curves (h : Evt s u) (v : Twin) : (u.tw v).curves = (s.tw v).curves := by
  rw [h.rest]
  cases v <;> rfl

theorem PointKept.evt (h : Evt s u) (mem : Memory.wf s.mem = true) : PointKept w c i s u :=
  .of_ent (by rw [h.curves]) (ent_congr_img (fun ty inst off => (h.bytes mem).2 _ (evtByte_img w ty inst off)) ..)

theorem ent_of_mem (h : u.mem = s.mem) (w : Twin) (ty inst idx off k : Nat) : u.ent w ty inst idx off k = s.ent w ty inst idx off k :=
  rdLE_congr fun _ _ => by rw [State.rdB, State.rdB, h]

theorem PointKept.of_mem (upset : (u.tw w).curves.upset = (s.tw w).curves.upset) (mem : u.mem = s.mem) : PointKept w c i s u :=
  .of_ent upset (ent_of_mem mem ..)

theorem PointKept.trans (h : PointKept w c i s0 s) (g : PointKept w c i s u) : PointKept w c i s0 u :=
  ⟨g.point.trans h.point, fun l => (g.replica l).trans (h.replica l)⟩

section
variable (h : PointKept w c i s u)
include h

theorem PointKept.replicas : u.replicas w c i = s.replicas w c i := List.map_congr_left fun l _ => h.replica l

theorem PointKept.majority : u.majority w c i = s.majority w c i := by rw [State.majority, State.majority, h.point, h.replicas]

end

/-! ### The write of a point (R263) -/

/-- The memory once a point holds `m`. -/
def State.pointStored (s : State) (w : Twin) (c i m : Nat) : State :=
  if m = s.point w c i then s else s.wrBytes (entryAddr w 10 0 c + 4 * i) (leBytes 4 m)

theorem pointStored_eq (s : State) (w : Twin) (c i m : Nat) : s.pointStored w c i m = { s with mem := (s.pointStored w c i m).mem } := by
  unfold State.pointStored
  split
  · rfl
  · exact wrBytes_eq _ _ _

theorem pointStored_mem (mem : Memory.wf s.mem = true) (w : Twin) (c i m : Nat) : Memory.wf (s.pointStored w c i m).mem = true := by
  unfold State.pointStored
  split
  · exact mem
  · exact memWf_wrBytes mem _ _

/-- The value that a scrub writes is the one that the point then has: a fixed curve only ever has its own. -/
theorem pointStored_point (mem : Memory.wf s.mem = true) (small : m < 2 ^ 20) (fixed : c < 4 → m = s.point w c i) :
    (s.pointStored w c i m).point w c i = m := by
  unfold State.pointStored
  split
  next same => exact same.symm
  next differs =>
    have bytes : ∀ k, k < 4 → (s.wrBytes (entryAddr w 10 0 c + 4 * i) (leBytes 4 m)).rdB (entryAddr w 10 0 c + 4 * i + k) = BitVec.ofNat 8 (m / 256 ^ k) :=
      fun k hk => by rw [rdB_wrBytes_leBytes mem, if_pos (by omega), Nat.add_sub_cancel_left]
    rw [point_stored (Nat.le_of_not_lt fun low => differs (fixed low)), State.ent, rdLE_of_bytes bytes]
    omega

theorem writePoint_eq (w : Twin) (c i m : Nat) (s : State) :
    writePoint w c i m s = (s.pointStored w c i m).modCurves w (fun x => { x with upset := x.upset.filter (fun e => e.1 / 8 ≠ c * 1024 + i) }) := rfl

/-- After the write all eight replicas hold the value. -/
theorem writePoint_replica (mem : Memory.wf s.mem = true) (small : m < 2 ^ 20) (fixed : c < 4 → m = s.point w c i) {l : Nat} (hl : l < 8) :
    (writePoint w c i m s).replica w c i l = (m, true) := by
  have point : (writePoint w c i m s).point w c i = m := by
    rw [writePoint_eq, point_congr (s := s.pointStored w c i m) (ent_of_mem (by cases w <;> rfl) ..)]
    exact pointStored_point mem small fixed
  have clean : ((writePoint w c i m s).tw w).curves.upset.find? (fun e => e.1 = (c * 1024 + i) * 8 + l) = none := by
    rw [writePoint_eq, State.modCurves, State.modTw_tw, List.find?_eq_none]
    intro e he key
    have other : e.1 / 8 ≠ c * 1024 + i := by simpa using (List.mem_filter.1 he).2
    have same : e.1 = (c * 1024 + i) * 8 + l := by simpa using key
    omega
  rw [State.replica, clean, point]

/-! ### What a scrub keeps -/

/-- From `s` to `u` the position of the scrubber, the count of its passes and what the other twin holds have stayed. -/
structure ScrubKept (w : Twin) (s u : State) : Prop where
  tidy : u.tidy = true
  pos : (u.tw w).curves.pos = (s.tw w).curves.pos
  pass : u.reg (Reg.CURV_PASS w) = s.reg (Reg.CURV_PASS w)
  other : u.tw w.other = s.tw w.other

theorem ScrubKept.trans (h : ScrubKept w s0 s) (g : ScrubKept w s u) : ScrubKept w s0 u :=
  ⟨g.tidy, g.pos.trans h.pos, g.pass.trans h.pass, g.other.trans h.other⟩

theorem ScrubKept.refl (tidy : s.tidy = true) (w : Twin) : ScrubKept w s s := ⟨tidy, rfl, rfl, rfl⟩

theorem Raised.colourReg (h : Raised w s u) (wf : s.regsWf = true) {a : Nat} (ha : colourReg w a = true) : u.reg a = s.reg a :=
  (h.evt.regs wf).2 a (evtReg_colour ha)

theorem ScrubKept.raised (tidy : s.tidy = true) (h : Raised w s u) : ScrubKept w s u :=
  ⟨h.evt.tidy tidy, by rw [h.evt.curves], h.colourReg (tidy_iff.1 tidy).1 (colourReg_pass w), h.other⟩

theorem ScrubKept.writePoint (tidy : s.tidy = true) (w : Twin) (c i m : Nat) : ScrubKept w s (writePoint w c i m s) := by
  have mem := pointStored_mem (tidy_iff.1 tidy).2 w c i m
  have wf := (tidy_iff.1 tidy).1
  rw [writePoint_eq, pointStored_eq]
  generalize (s.pointStored w c i m).mem = bytes at mem
  cases w <;> exact ⟨tidy_iff.2 ⟨wf, mem⟩, rfl, rfl, rfl⟩

theorem writePoint_reg (w : Twin) (c i m : Nat) (s : State) (a : Nat) : (writePoint w c i m s).reg a = s.reg a := by
  rw [writePoint_eq, pointStored_eq]
  cases w <;> rfl

theorem ScrubKept.bump (tidy : s.tidy = true) (w : Twin) (f : Fld) (low : f.hi < 32 := by decide) : ScrubKept w s (s.bump (Reg.CURV_SCRUB w) f) := by
  obtain ⟨wf, mem⟩ := tidy_iff.1 tidy
  have apart : Reg.CURV_PASS w ≠ Reg.CURV_SCRUB w := by cases w <;> decide
  exact ⟨tidy_iff.2 ⟨State.regsWf_bump wf _ _ _, by rw [State.bump, State.sf_mem]; exact mem⟩, by rw [bump_tw],
    (onlyRegs_bump wf _ f low).regs _ (by simpa using apart), bump_tw _ _ _ _ _⟩

/-- A health flag leaves memory, what the twins hold, and every register but the health word. -/
theorem setHealth_keeps (tidy : s.tidy = true) (w : Twin) (bit : Nat) :
    (s.setHealth w bit).tidy = true ∧ (s.setHealth w bit).mem = s.mem ∧ (∀ v, (s.setHealth w bit).tw v = s.tw v) ∧
      ∀ a, a ≠ healthReg w → (s.setHealth w bit).reg a = s.reg a := by
  by_cases out : (s.roleOf w = .off ∧ s.peri.lost ≠ some w) ∨ s.roleOf w = .isolated
  · rw [State.setHealth, if_pos out]
    exact ⟨tidy, rfl, fun _ => rfl, fun _ _ => rfl⟩
  · obtain ⟨p, eq⟩ : ∃ p, s.setHealth w bit = { s.orReg (healthReg w) (2 ^ bit) with peri := p } := by
      rw [State.setHealth, if_neg out]
      cases w <;> exact ⟨_, rfl⟩
    obtain ⟨wf, mem⟩ := tidy_iff.1 tidy
    rw [eq]
    exact ⟨tidy_iff.2 ⟨State.regsWf_setReg wf _ _, mem⟩, rfl, fun v => by cases v <;> rfl, fun a ne => State.reg_setReg_ne wf ne _⟩

theorem setHealth_flag (wf : s.regsWf = true) (off : s.roleOf w ≠ .off) (iso : s.roleOf w ≠ .isolated) {bit : Nat} (low : bit < 32 := by decide) :
    bitAt ((s.setHealth w bit).reg (healthReg w)).toNat bit = true := by
  obtain ⟨p, eq⟩ := setHealth_flags off iso bit
  have set : (s.setHealth w bit).reg (healthReg w) = s.reg (healthReg w) ||| BitVec.ofNat 32 (2 ^ bit) := by
    rw [eq]
    exact State.reg_setReg_self wf _ _
  rw [set]
  exact bitAt_or_two_pow _ low

/-! ### The scrub of a point (R263) -/

section
variable (tidy : s.tidy = true)
include tidy

/-- A scrub that finds a value to keep: where a replica differed the point is repaired and counted, and all eight then hold the value. -/
theorem scrubPoint_repairs (found : s.majority w c i = some m) :
    ScrubKept w s (scrubPoint w c i s) ∧
    (scrubPoint w c i s).reg (Reg.CURV_SCRUB w) = (if (s.replicas w c i).all (fun r => decide (r = (m, true))) then s.reg (Reg.CURV_SCRUB w)
      else countUp (s.reg (Reg.CURV_SCRUB w)) Fld.CURV_SCRUB_REPAIRS) ∧
    (m < 2 ^ 20 → ∀ l, l < 8 → (scrubPoint w c i s).replica w c i l = (m, true)) := by
  unfold scrubPoint
  rw [found]
  dsimp only
  split
  next agree =>
    refine ⟨.refl tidy w, rfl, fun _ l hl => ?_⟩
    exact of_decide_eq_true (List.all_eq_true.1 agree _ (List.mem_map_of_mem (List.mem_range.2 hl)))
  next differ =>
    have written := ScrubKept.writePoint tidy w c i m
    have counted := ScrubKept.bump written.tidy w Fld.CURV_SCRUB_REPAIRS
    have raised := Raised.raiseOnce ((writePoint w c i m s).bump (Reg.CURV_SCRUB w) Fld.CURV_SCRUB_REPAIRS) w (Reg.CURV_EVT_CTL w)
      Fld.CURV_EVT_CTL_REPAIR_EN (n := 56) 0
    obtain ⟨wf, mem⟩ := tidy_iff.1 counted.tidy
    refine ⟨(written.trans counted).trans (.raised counted.tidy raised), ?_, fun small l hl => ?_⟩
    · rw [raised.colourReg wf (colourReg_scrub w), reg_bump_countUp (tidy_iff.1 written.tidy).1 _ _ (by decide), writePoint_reg]
    · have fixed : c < 4 → m = s.point w c i := fun low => by
        rw [State.majority, if_pos low] at found
        exact (Option.some.inj found).symm
      have counts : PointKept w c i (writePoint w c i m s) ((writePoint w c i m s).bump (Reg.CURV_SCRUB w) Fld.CURV_SCRUB_REPAIRS) :=
        .of_mem (by rw [bump_tw]) (by rw [State.bump, State.sf_mem])
      rw [(PointKept.evt raised.evt mem).replica, counts.replica, writePoint_replica (tidy_iff.1 tidy).2 small fixed hl]

/-- A scrub that finds no value to keep leaves the point and flags the twin. -/
theorem scrubPoint_flags (none_ : s.majority w c i = none) :
    ScrubKept w s (scrubPoint w c i s) ∧
    (scrubPoint w c i s).reg (Reg.CURV_SCRUB w) = s.reg (Reg.CURV_SCRUB w) ∧
    (s.roleOf w ≠ .off → s.roleOf w ≠ .isolated → bitAt ((scrubPoint w c i s).reg (healthReg w)).toNat 2 = true) ∧
    PointKept w c i s (scrubPoint w c i s) := by
  have raised := Raised.raiseIf s w (Reg.CURV_EVT_CTL w) Fld.CURV_EVT_CTL_FAULT_EN (n := 57) c
  have event : ScrubKept w s _ := .raised tidy raised
  have role : ∀ v, (s.raiseIf w (Reg.CURV_EVT_CTL w) Fld.CURV_EVT_CTL_FAULT_EN 57 c).roleOf v = s.roleOf v := fun v => by
    rw [raised.evt.rest]
    cases v <;> rfl
  have run : scrubPoint w c i s = (s.raiseIf w (Reg.CURV_EVT_CTL w) Fld.CURV_EVT_CTL_FAULT_EN 57 c).setHealth w 2 := by
    unfold scrubPoint
    rw [none_]
  rw [run]
  have point := PointKept.evt (w := w) (c := c) (i := i) raised.evt (tidy_iff.1 tidy).2
  have scrub := raised.colourReg (tidy_iff.1 tidy).1 (colourReg_scrub w)
  generalize s.raiseIf w (Reg.CURV_EVT_CTL w) Fld.CURV_EVT_CTL_FAULT_EN 57 c = x at event role point scrub ⊢
  obtain ⟨tidy', mem, tw, regs⟩ := setHealth_keeps event.tidy w 2
  have apart : Reg.CURV_PASS w ≠ healthReg w ∧ Reg.CURV_SCRUB w ≠ healthReg w := by cases w <;> decide
  refine ⟨event.trans ⟨tidy', by rw [tw], regs _ apart.1, tw _⟩, (regs _ apart.2).trans scrub,
    fun off iso => setHealth_flag (tidy_iff.1 event.tidy).1 (by rwa [role]) (by rwa [role]), point.trans (.of_mem (by rw [tw]) mem)⟩

end

/-! ### The position of the scrubber (R263) -/

theorem nextScrub_congr (h : (u.tw w).curves.writing = (s.tw w).curves.writing) (pos : Nat) : u.nextScrub w pos = s.nextScrub w pos := by
  rw [State.nextScrub, State.nextScrub, h]

/-- The scrubber goes on from a position, and a pass that ends there is counted. -/
def State.scrubMoved (s : State) (w : Twin) (pos : Nat) : State :=
  if s.nextScrub w (pos + 1) = none then scrubPassed w (s.modCurves w (fun v => { v with pos := 0 }))
  else s.modCurves w (fun v => { v with pos := pos + 1 })

/-- What the move changes. -/
structure ScrubMoved (w : Twin) (pos : Nat) (s u : State) : Prop where
  tidy : u.tidy = true
  place : (u.tw w).curves.pos = if s.nextScrub w (pos + 1) = none then 0 else pos + 1
  upset : (u.tw w).curves.upset = (s.tw w).curves.upset
  other : u.tw w.other = s.tw w.other
  pass : u.reg (Reg.CURV_PASS w) = s.reg (Reg.CURV_PASS w) + if s.nextScrub w (pos + 1) = none then 1 else 0
  scrub : u.reg (Reg.CURV_SCRUB w) = s.reg (Reg.CURV_SCRUB w)
  mem : u.mem = s.mem
  role : u.role = s.role

theorem scrubMoved_moves (tidy : s.tidy = true) (w : Twin) (pos : Nat) : ScrubMoved w pos s (s.scrubMoved w pos) := by
  obtain ⟨wf, mem⟩ := tidy_iff.1 tidy
  unfold State.scrubMoved
  split
  next last =>
    have apart : Reg.CURV_SCRUB w ≠ Reg.CURV_PASS w := by cases w <;> decide
    have wf' : (s.modCurves w (fun v => { v with pos := 0 })).regsWf = true := (modTw_regsWf _ _ _).trans wf
    have regs : ∀ a, (s.modCurves w (fun v => { v with pos := 0 })).reg a = s.reg a := modTw_reg _ _ _
    unfold scrubPassed
    refine ⟨tidy_iff.2 ⟨State.regsWf_setReg wf' _ _, ?_⟩, ?_, ?_, ?_, ?_, ?_, ?_, ?_⟩
    · cases w <;> exact mem
    · rw [if_pos last]; cases w <;> rfl
    · cases w <;> rfl
    · cases w <;> rfl
    · rw [State.reg_setReg_self wf', if_pos last, regs]
    · rw [State.reg_setReg_ne wf' apart, regs]
    · cases w <;> rfl
    · cases w <;> rfl
  next more =>
    refine ⟨?_, ?_, ?_, ?_, ?_, ?_, ?_, ?_⟩
    · cases w <;> exact tidy
    · rw [if_neg more]; cases w <;> rfl
    · cases w <;> rfl
    · cases w <;> rfl
    · rw [if_neg more]; exact (modTw_reg _ _ _ _).trans (BitVec.add_zero _).symm
    · cases w <;> rfl
    · cases w <;> rfl
    · cases w <;> rfl

theorem exec_curvScrub (t : Nat) (bad : List Upset) (on : s.rb (Reg.CURV_CFG w) Fld.CURV_CFG_SCRUB_EN = true)
    (next : s.nextScrub w (s.tw w).curves.pos = some pos) :
    exec (.curvScrub t w bad) s =
      .next (scrubPoint w (pos / 1024) (pos % 1024) (upsetPoint w (pos / 1024) (pos % 1024) bad ((s.beginAt t).scrubMoved w pos))) := by
  have at_ : (s.beginAt t).nextScrub w ((s.beginAt t).tw w).curves.pos = some pos := by
    rw [State.beginAt_tw, nextScrub_congr (s := s) (by rw [State.beginAt_tw]), next]
  have on' : (s.beginAt t).rb (Reg.CURV_CFG w) Fld.CURV_CFG_SCRUB_EN = true := on
  change execCurvScrub t w bad s = _
  unfold execCurvScrub State.scrubMoved
  generalize s.beginAt t = s1 at at_ on'
  dsimp only
  rw [if_pos on', at_]
  by_cases last : s1.nextScrub w (pos + 1) = none
  · simp [last]
  · simp [last]

/-! ### A lane's read (R262) -/

theorem exec_curvParityRetry_writing (t : Nat) {slot : Fin 256} (pt : LaneRead) (writing : slot.val ∈ (s.tw w).curves.writing) :
    exec (.curvParityRetry t w slot pt) s = .next (s.beginAt t) :=
  if_pos (by rw [State.beginAt_tw]; exact List.contains_iff_mem.2 writing)

theorem curvParityRetry_counts (wf : s.regsWf = true) (t : Nat) {slot : Fin 256} (pt : LaneRead) (whole : slot.val ∉ (s.tw w).curves.writing) :
    ∃ u, exec (.curvParityRetry t w slot pt) s = .next u ∧
      let v := upsetPoint w slot.val pt.point.val pt.upsets (s.beginAt t)
      u.rf (Reg.CURV_SCRUB w) Fld.CURV_SCRUB_STALLS = min (s.rf (Reg.CURV_SCRUB w) Fld.CURV_SCRUB_STALLS + v.laneHolds w slot.val pt.point.val pt.lane.val)
        (2 ^ (Fld.CURV_SCRUB_STALLS.hi - Fld.CURV_SCRUB_STALLS.lo + 1) - 1) ∧
      onlyRegs [Reg.CURV_SCRUB w] v u := by
  obtain ⟨regs, -⟩ := upsetPoint_shared w slot.val pt.point.val pt.upsets (s.beginAt t)
  have run : exec (.curvParityRetry t w slot pt) s = .next ((upsetPoint w slot.val pt.point.val pt.upsets (s.beginAt t)).bump (Reg.CURV_SCRUB w)
      Fld.CURV_SCRUB_STALLS ((upsetPoint w slot.val pt.point.val pt.upsets (s.beginAt t)).laneHolds w slot.val pt.point.val pt.lane.val)) :=
    if_neg (by rw [State.beginAt_tw]; simpa using whole)
  refine ⟨_, run, ?_⟩
  dsimp only
  generalize upsetPoint w slot.val pt.point.val pt.upsets (s.beginAt t) = v at regs
  have wf' : v.regsWf = true := by rw [State.regsWf, regs]; exact wf
  have stalls : v.rf (Reg.CURV_SCRUB w) Fld.CURV_SCRUB_STALLS = s.rf (Reg.CURV_SCRUB w) Fld.CURV_SCRUB_STALLS :=
    rf_congr _ _ (by decide) (by rw [State.reg, regs]; rfl)
  refine ⟨?_, onlyRegs_sf wf' _ Fld.CURV_SCRUB_STALLS _ (by decide)⟩
  rw [State.bump, State.rf_sf_self wf' _ _ _ (by decide) (by decide), stalls]
  exact Nat.mod_eq_of_lt (Nat.lt_of_le_of_lt (Nat.min_le_right _ _) (by decide))

/-! ### The obligation -/

/-- The scrubber of `s` has gone on from a position and reads point `i` of slot `c` with its upsets. -/
structure ScrubRead (w : Twin) (pos c i : Nat) (bad : List Upset) (s u : State) : Prop where
  tidy : u.tidy = true
  place : (u.tw w).curves.pos = if s.nextScrub w (pos + 1) = none then 0 else pos + 1
  other : u.tw w.other = s.tw w.other
  pass : u.reg (Reg.CURV_PASS w) = s.reg (Reg.CURV_PASS w) + if s.nextScrub w (pos + 1) = none then 1 else 0
  scrub : u.reg (Reg.CURV_SCRUB w) = s.reg (Reg.CURV_SCRUB w)
  role : u.role = s.role
  seen : PointKept w c i (upsetPoint w c i bad s) u

theorem ScrubMoved.read (h : ScrubMoved w pos s u) (c i : Nat) (bad : List Upset) : ScrubRead w pos c i bad s (upsetPoint w c i bad u) := by
  obtain ⟨regs, mem, role, other⟩ := upsetPoint_shared w c i bad u
  obtain ⟨-, mem', -, -⟩ := upsetPoint_shared w c i bad s
  have reg : ∀ a, (upsetPoint w c i bad u).reg a = u.reg a := fun a => by rw [State.reg, State.reg, regs]
  refine ⟨?_, ?_, other.trans h.other, (reg _).trans h.pass, (reg _).trans h.scrub, role.trans h.role, .of_mem ?_ ?_⟩
  · rw [State.tidy, State.regsWf, regs, mem]
    exact h.tidy
  · rw [upsetPoint_curves]
    exact h.place
  · rw [upsetPoint_curves, upsetPoint_curves, h.upset]
  · rw [mem, mem', h.mem]

theorem ScrubRead.of_beginAt {t : Nat} {bad : List Upset} (h : ScrubRead w pos c i bad (s.beginAt t) u) : ScrubRead w pos c i bad s u := by
  have later : (s.beginAt t).nextScrub w (pos + 1) = s.nextScrub w (pos + 1) := nextScrub_congr (by rw [State.beginAt_tw]) _
  have begun : PointKept w c i (upsetPoint w c i bad s) (upsetPoint w c i bad (s.beginAt t)) := by
    refine .of_mem ?_ ((upsetPoint_shared w c i bad (s.beginAt t)).2.1.trans (upsetPoint_shared w c i bad s).2.1.symm)
    rw [upsetPoint_curves, upsetPoint_curves, State.beginAt_tw]
  refine ⟨h.tidy, ?_, h.other.trans (State.beginAt_tw _ _ _), ?_, h.scrub, h.role, begun.trans h.seen⟩
  · rw [← later]
    exact h.place
  · rw [← later]
    exact h.pass

/-- CURV_SCRUB of a twin whose scrubber runs (R263). -/
theorem curvScrub_scrubs (tidy : s.tidy = true) (t : Nat) (on : s.rb (Reg.CURV_CFG w) Fld.CURV_CFG_SCRUB_EN = true)
    (next : s.nextScrub w (s.tw w).curves.pos = some pos) (bad : List Upset) :
    let c := pos / 1024
    let i := pos % 1024
    let v := upsetPoint w c i bad s
    ∃ u, exec (.curvScrub t w bad) s = .next u ∧
      (u.tw w).curves.pos = (if s.nextScrub w (pos + 1) = none then 0 else pos + 1) ∧
      u.reg (Reg.CURV_PASS w) = s.reg (Reg.CURV_PASS w) + (if s.nextScrub w (pos + 1) = none then 1 else 0) ∧
      (∀ m, v.majority w c i = some m →
        u.reg (Reg.CURV_SCRUB w) = (if (v.replicas w c i).all (fun r => decide (r = (m, true))) then s.reg (Reg.CURV_SCRUB w)
          else countUp (s.reg (Reg.CURV_SCRUB w)) Fld.CURV_SCRUB_REPAIRS) ∧
        (m < 2 ^ 20 → ∀ l, l < 8 → u.replica w c i l = (m, true))) ∧
      (v.majority w c i = none → u.reg (Reg.CURV_SCRUB w) = s.reg (Reg.CURV_SCRUB w) ∧
        (s.roleOf w ≠ .off → s.roleOf w ≠ .isolated → bitAt (u.reg (healthReg w)).toNat 2 = true) ∧
        ∀ l, l < 8 → u.replica w c i l = v.replica w c i l) ∧ u.tw w.other = s.tw w.other := by
  extract_lets c i v
  have run : exec (.curvScrub t w bad) s = .next (scrubPoint w c i (upsetPoint w c i bad ((s.beginAt t).scrubMoved w pos))) := exec_curvScrub t bad on next
  obtain ⟨tidy', place, other, pass, scrub, role, seen⟩ := ((scrubMoved_moves (s := s.beginAt t) tidy w pos).read c i bad).of_beginAt
  generalize upsetPoint w c i bad ((s.beginAt t).scrubMoved w pos) = y at run tidy' place other pass scrub role seen
  change PointKept w c i v y at seen
  refine ⟨_, run, ?_⟩
  cases found : v.majority w c i with
  | some m =>
    obtain ⟨kept, counted, held⟩ := scrubPoint_repairs tidy' (seen.majority.trans found)
    rw [seen.replicas, scrub] at counted
    refine ⟨kept.pos.trans place, kept.pass.trans pass, fun n same => ?_, fun none_ => (by cases none_), kept.other.trans other⟩
    cases same
    exact ⟨counted, held⟩
  | none =>
    obtain ⟨kept, counted, flagged, point⟩ := scrubPoint_flags tidy' (seen.majority.trans found)
    rw [roleOf_congr role] at flagged
    exact ⟨kept.pos.trans place, kept.pass.trans pass, fun n some_ => (by cases some_),
      fun _ => ⟨counted.trans scrub, flagged, fun l _ => (seen.trans point).replica l⟩, kept.other.trans other⟩

/-- Settles O23: the twin's own commit between the other's, the zones one by one, and the scrub of a point that is read as it stands. -/
theorem mastersZonesAndCurvesChange : Obligations.MastersZonesAndCurvesChange := by
  unfold Obligations.MastersZonesAndCurvesChange
  refine ⟨fun s t w tidy => ⟨fun via v hw => ⟨fun go ok => ?_, fun used => colrZoneForce_waits t hw used⟩, fun z x held ran settled =>
    ⟨fun st waited none_ => zoneCold_enters held ran settled st waited none_, fun st full => zoneRampEnd_tracks held ran settled st full⟩⟩,
    fun s t w tidy => ⟨fun on pos next bad => curvScrub_scrubs tidy t on next bad, fun slot pt =>
      ⟨exec_curvParityRetry_writing t pt, curvParityRetry_counts (tidy_iff.1 tidy).1 t pt⟩⟩⟩
  obtain ⟨u, run, taken⟩ := colrCmt_taken tidy t hw go ok
  exact ⟨u, run, taken.soon, taken.late⟩

end Sys2Proof.Machine
end

section
/-!
SUPPORT. One Proren port of one twin (chapter 10): what a step of it leaves of everything else, and the two twins' steps together.
-/
namespace Sys2Proof.Machine

set_option Elab.async false

variable {s0 s u : State} {w o v : Twin} {p : Fin 128}

/-! ### The registers of a port -/

/-- The registers of strand port `p` of twin `o`. -/
def strandRegs (o : Twin) (p a : Nat) : Bool := decide (o.base + 0x80000 + p * 0x100 ≤ a ∧ a < o.base + 0x80000 + p * 0x100 + 0x100)

theorem portReg_of_strandRegs {q a : Nat} (h : strandRegs o q a = true) : portReg q a = true :=
  List.any_eq_true.2 ⟨o, by cases o <;> decide, h⟩

/-- A register at its place in the block of a port. -/
theorem strandRegs_at (o : Twin) (q : Nat) {c : Nat} (lo : 0x80000 ≤ c := by decide) (hi : c < 0x80100 := by decide) :
    strandRegs o q (o.base + c + q * 0x100) = true := decide_eq_true (by omega)

theorem strandRegs_upErr (o : Twin) (q : Nat) : strandRegs o q (Reg.STRD_UP_ERR o q) = true := strandRegs_at o q
theorem strandRegs_poll (o : Twin) (q : Nat) : strandRegs o q (Reg.STRD_POLL o q) = true := strandRegs_at o q
theorem strandRegs_evtCtl (o : Twin) (q : Nat) : strandRegs o q (Reg.STRD_EVT_CTL o q) = true := strandRegs_at o q
theorem strandRegs_pstat (o : Twin) (q : Nat) : strandRegs o q (Reg.STRD_PSTAT o q) = true := strandRegs_at o q

/-- No register of a port is one that events change. -/
theorem evtReg_strand {a : Nat} (h : strandRegs w p a = true) : evtReg a = false := by
  have few := p.isLt
  have inside := of_decide_eq_true h
  cases w <;>
  · simp only [Twin.base] at inside
    simp [evtReg, twins, Reg.EVT_PEND, Reg.EVT_LOG_HEAD, Reg.EVT_LOG_STAT, Reg.EVT_TPEND, Reg.EVT_TSTAT, Reg.BANK_VIOL, Reg.SORUS_CNT,
      Reg.SORUS_QCNT, Twin.base]
    omega

/-- The two twins' ports have no register in common. -/
theorem strandRegs_other {a : Nat} (h : strandRegs w p a = true) : strandRegs w.other p a = false := by
  have few := p.isLt
  have inside := of_decide_eq_true h
  refine decide_eq_false ?_
  cases w <;> simp only [Twin.base, Twin.other] at inside ⊢ <;> omega

/-- No register of a port holds pending bits. -/
theorem twinPendReg_strand {a : Nat} (h : strandRegs o p a = true) (v : Twin) : twinPendReg v a = false := by
  have few := p.isLt
  have inside := of_decide_eq_true h
  refine decide_eq_false ?_
  cases o <;> cases v <;> simp only [Twin.base, Reg.EVT_TPEND] at inside ⊢ <;> omega

/-! ### What a port holds beside its registers -/

theorem strand_of_tw (h : u.tw w = s.tw w) (q : Nat) : u.strand w q = s.strand w q := by rw [State.strand, State.strand, h]

theorem strand_beginAt (s : State) (t : Nat) (w : Twin) (q : Nat) : (s.beginAt t).strand w q = s.strand w q := strand_of_tw (State.beginAt_tw _ _ _) q

theorem ent_beginAt (s : State) (t : Nat) (w : Twin) (ty inst idx off n : Nat) : (s.beginAt t).ent w ty inst idx off n = s.ent w ty inst idx off n :=
  ent_of_mem (State.beginAt_mem s t) w ty inst idx off n

theorem strand_begin (s : State) (w : Twin) (q : Nat) : s.begin.strand w q = s.strand w q := strand_of_tw (State.begin_tw _ _) q

/-- What differs from an idle port in one field is not an idle port. -/
theorem Strand.ne_reset {α : Type} (f : Strand → α) {x : Strand} (h : f x ≠ f Strand.reset) : x ≠ Strand.reset := fun c => h (congrArg f c)

/-- A port that holds something reads as what was put there. -/
theorem strand_setStrand {x : Strand} (hx : x ≠ Strand.reset) (s : State) (w : Twin) (q : Nat) : (s.setStrand w q x).strand w q = x := by
  cases w <;> exact Smap.get_put_self hx q _

/-- In a table in canonical form, so does one that holds nothing. -/
theorem strand_setStrand_of_wf (listed : Smap.wf (fun _ => Strand.reset) (s.tw w).strands = true) (q : Nat) (x : Strand) :
    (s.setStrand w q x).strand w q = x := by
  cases w <;> exact Smap.get_set_self (d := fun _ => Strand.reset) listed q x

theorem reg_modTw (s : State) (w : Twin) (f : TwinState → TwinState) (a : Nat) : (s.modTw w f).reg a = s.reg a := by
  rw [State.reg, State.reg, modTw_regs]

theorem reg_setStrand (s : State) (w : Twin) (q : Nat) (x : Strand) (a : Nat) : (s.setStrand w q x).reg a = s.reg a := reg_modTw _ _ _ _

theorem wf_setStrand (h : s.regsWf = true) (w : Twin) (q : Nat) (x : Strand) : (s.setStrand w q x).regsWf = true := (modTw_regsWf _ _ _).trans h

theorem strand_sf (s : State) (a : Nat) (f : Fld) (n : Nat) (w : Twin) (q : Nat) : (s.sf a f n).strand w q = s.strand w q :=
  strand_of_tw (sf_tw _ _ _ _ _) q

theorem strand_withLine (s u : State) (w : Twin) (q : Nat) : (s.withLine u).strand w q = s.strand w q := by cases w <;> rfl

theorem Evt.strand (h : Evt s u) (w : Twin) (q : Nat) : u.strand w q = s.strand w q := by
  rw [h.rest]
  cases w <;> rfl

/-- Where only events write registers, those of a port stay. -/
theorem Evt.strandReg (h : Evt s u) (wf : s.regsWf = true) {a : Nat} (ha : strandRegs w p a = true) : u.reg a = s.reg a :=
  (h.regs wf).2 a (evtReg_strand ha)

/-! ### Events once in an interval -/

theorem Evt.raiseOncePer (h : Evt s0 s) (w : Twin) {n : Nat} (data : Nat) (hn : n < 256 := by decide) : Evt s0 (s.raiseOncePer w n data) :=
  .ite h ((h.mark w n data).raiseTwin w n data hn)

theorem Raised.raiseOncePer (s : State) (w : Twin) {n : Nat} (data : Nat) (hn : n < 256 := by decide) : Raised w s (s.raiseOncePer w n data) :=
  ⟨(Evt.refl s).raiseOncePer w data hn,
    ite_tw rfl ((raiseTwin_tw_other (other_ne w) _ _ _).trans (State.modTw_tw_other _ _ (other_ne w)))⟩

theorem TwinPendKept.raiseOncePer (h : TwinPendKept v s0 s) (w : Twin) (n data : Nat) : TwinPendKept v s0 (s.raiseOncePer w n data) :=
  .ite h ((h.modTw w _).raiseTwin w n data)

theorem evtTwinPending_raiseOncePer (wf : s.regsWf = true) {n data : Nat} (fresh : (s.tw w).once.seen.contains (n, data) = false)
    (hn : n < 256 := by decide) : (s.raiseOncePer w n data).evtTwinPending w n = true := by
  rw [State.raiseOncePer, if_neg (by rw [fresh]; decide)]
  exact evtTwinPending_raiseTwin ((modTw_regsWf _ _ _).trans wf) w data hn

theorem evtTwinPending_raiseIf (wf : s.regsWf = true) {ctl n : Nat} {en : Fld} (on : s.rb ctl en = true) (data : Nat) (hn : n < 256 := by decide) :
    (s.raiseIf w ctl en n data).evtTwinPending w n = true := by
  rw [State.raiseIf, if_pos on]
  exact evtTwinPending_raiseTwin wf w data hn

/-! ### What leaves on the line -/

theorem sendPkt_eq_withLine (w : Twin) (q at_ : Nat) (b : List Byte) (s : State) : sendPkt w q at_ b s = s.withLine (sendPkt w q at_ b s) := by
  unfold sendPkt
  split
  · extract_lets d s1
    have line : s1 = s.withLine s1 := by
      unfold s1
      split <;> rfl
    change s1.withLine (s1.emitPkt q at_ b) = s.withLine _
    rw [line]
    rfl
  · rfl

theorem sendPkts_eq_withLine (w : Twin) (q : Nat) (l : List (List Byte)) :
    ∀ (at_ : Nat) (s : State), (sendPkts w q at_ l s).2 = s.withLine (sendPkts w q at_ l s).2 := by
  induction l with
  | nil => exact fun _ _ => rfl
  | cons b l ih =>
    intro at_ s
    rw [sendPkts, ih, sendPkt_eq_withLine]
    rfl

/-- An output on a port, with the disparity that it leaves. -/
theorem emit_setRd_eq_withLine (s : State) (q : Nat) (plus : Bool) (x : Out) : (s.setRd q plus).emit x = s.withLine ((s.setRd q plus).emit x) := rfl

theorem emit_setRd_out (s : State) (q : Nat) (plus : Bool) (x : Out) : ((s.setRd q plus).emit x).out = s.out ++ [x] := rfl

theorem emitWake_eq_withLine (s : State) (q : Nat) : s.emitWake q = s.withLine (s.emitWake q) := by
  unfold State.emitWake
  extract_lets rd
  exact emit_setRd_eq_withLine s q _ _

theorem emitWake_out (s : State) (q : Nat) : (s.emitWake q).out = s.out ++ [.wake q s.now (s.dev.rd.getLsbD q)] := by
  unfold State.emitWake
  extract_lets rd
  exact emit_setRd_out s q _ _

/-! ### A step of one port -/

/-- What the steps of a command on a port may move beside registers and the twins: the present instant, the lines of the strand ports, and
which frames are forced full. -/
structure Slack where
  now : Bool
  line : Bool
  full : Bool

/-- From `s` to `u` there are events, changes of the twins, registers that `l` picks, and what the slack names. Time does not run back, and no
frame that is to be full is forgotten. -/
structure StrandFrame (k : Slack) (l : Nat → Bool) (s u : State) : Prop where
  tidy : u.tidy = true
  frame : framed l nowhere ({ s with now := u.now, fullDue := u.fullDue }.withLine u) u
  now : k.now = false → u.now = s.now
  later : s.now ≤ u.now
  line : k.line = false → u.dev = s.dev
  full : k.full = false → u.fullDue = s.fullDue
  due : ∀ q, s.fullDue.getLsbD q = true → u.fullDue.getLsbD q = true
  pend : ∀ v, TwinPendKept v s u

/-- A step of port `p` of twin `o`: registers of that port, and nothing of the other twin. -/
structure StrandStep (k : Slack) (o : Twin) (p : Nat) (s u : State) : Prop extends StrandFrame k (strandRegs o p) s u where
  other : u.tw o.other = s.tw o.other

section
variable {k : Slack} {l l' : Nat → Bool}

theorem StrandFrame.refl (tidy : s.tidy = true) : StrandFrame k l s s :=
  ⟨tidy, ⟨rfl, fun _ _ _ => rfl, fun _ _ _ => rfl⟩, fun _ => rfl, le_rfl, fun _ => rfl, fun _ => rfl, fun _ => id, fun v => .refl v s⟩

theorem StrandFrame.trans (h : StrandFrame k l s0 s) (g : StrandFrame k l s u) : StrandFrame k l s0 u := by
  refine ⟨g.tidy, ⟨?_, fun a ha he => (g.frame.regs a ha he).trans (h.frame.regs a ha he),
    fun a ha he => (g.frame.bytes a ha he).trans (h.frame.bytes a ha he)⟩, fun c => (g.now c).trans (h.now c), h.later.trans g.later,
    fun c => (g.line c).trans (h.line c), fun c => (g.full c).trans (h.full c), fun q x => g.due q (h.due q x), fun v => (h.pend v).trans (g.pend v)⟩
  rw [g.frame.rest, h.frame.rest]
  rfl

theorem StrandFrame.mono (h : StrandFrame k l s u) (sub : ∀ a, l a = true → l' a = true) : StrandFrame k l' s u :=
  { h with frame := h.frame.mono sub (fun _ => id) }

/-- A step that moves none of what the slack names. -/
theorem StrandFrame.of_framed (h : framed l nowhere s u) (tidy : u.tidy = true) (pend : ∀ v, TwinPendKept v s u)
    (line : u.dev = s.dev := by rfl) : StrandFrame k l s u := by
  have now : u.now = s.now := by rw [h.rest]
  have full : u.fullDue = s.fullDue := by rw [h.rest]
  refine ⟨tidy, ?_, fun _ => now, now.ge, fun _ => line, fun _ => full, fun q x => by rwa [full], pend⟩
  have lined : { s with now := u.now, fullDue := u.fullDue }.withLine u = { s with out := u.out } := by
    rw [State.withLine, now, full, line]
  rw [lined]
  exact ⟨h.rest, h.regs, h.bytes⟩

/-! ### The frames that the statements name -/

theorem StrandFrame.plain (h : StrandFrame ⟨false, false, false⟩ l s u) : framed l nowhere s u := by
  obtain ⟨rest, regs, bytes⟩ := h.frame
  rw [State.withLine, h.now rfl, h.full rfl, h.line rfl] at rest
  exact ⟨rest, regs, bytes⟩

theorem StrandFrame.lined (h : StrandFrame ⟨false, true, false⟩ l s u) : framed l nowhere (s.withLine u) u := by
  have frame := h.frame
  rw [h.now rfl, h.full rfl] at frame
  exact frame

theorem StrandFrame.timed (h : StrandFrame ⟨true, true, false⟩ l s u) : framed l nowhere ({ s with now := u.now }.withLine u) u := by
  have frame := h.frame
  rw [h.full rfl] at frame
  exact frame

theorem StrandFrame.filled (h : StrandFrame ⟨false, false, true⟩ l s u) : framed l nowhere { s with fullDue := u.fullDue } u := by
  obtain ⟨rest, regs, bytes⟩ := h.frame
  rw [State.withLine, h.now rfl, h.line rfl] at rest
  exact ⟨rest, regs, bytes⟩

/-- What the image says. -/
theorem StrandFrame.ent (h : StrandFrame k l s u) (w : Twin) (ty inst idx off n : Nat) : u.ent w ty inst idx off n = s.ent w ty inst idx off n :=
  ent_congr_img (s := s) (fun ty inst off => h.frame.bytes _ rfl (evtByte_img w ty inst off)) ty inst idx off n

theorem StrandFrame.wf (h : StrandFrame k l s u) : u.regsWf = true := (tidy_iff.1 h.tidy).1

end

/-! ### What a step of the other twin leaves a port -/

section
variable {k : Slack} {q : Nat} (h : StrandStep k w.other p s u)
include h

theorem StrandStep.own : u.tw w = s.tw w := by
  have other := h.other
  cases w <;> exact other

theorem StrandStep.strand : u.strand w q = s.strand w q := strand_of_tw h.own q

theorem StrandStep.reg {a : Nat} (ha : strandRegs w p a = true) : u.reg a = s.reg a := h.frame.regs a (strandRegs_other ha) (evtReg_strand ha)

theorem StrandStep.rf {a : Nat} (f : Fld) (ha : strandRegs w p a = true) (low : f.hi < 32 := by decide) : u.rf a f = s.rf a f :=
  rf_congr a f low (h.reg ha)

theorem StrandStep.rb {a : Nat} (f : Fld) (ha : strandRegs w p a = true) (low : f.hi < 32 := by decide) : u.rb a f = s.rb a f :=
  rb_congr a f low (h.reg ha)

theorem StrandStep.prnState : u.prnState w p = s.prnState w p := h.rf Fld.STRD_PSTAT_STATE (strandRegs_at w p)

theorem StrandStep.pending {n : Nat} (wf : s.regsWf = true) (hn : n < 256 := by decide) (x : s.evtTwinPending w n = true) :
    u.evtTwinPending w n = true := (h.pend w wf).2 n hn x

end

/-! ### The steps of both twins -/

/-- The two twins' steps of one port. -/
theorem each_strandFrame {k : Slack} {q : Twin → Bool} {f : Twin → State → State} (tidy : s.tidy = true)
    (step : ∀ o x, x.tidy = true → StrandStep k o p x (f o x)) : StrandFrame k (portReg p) s (s.each q f) :=
  each_keeps (P := StrandFrame k (portReg p) s) (.refl tidy) fun o x hx => hx.trans ((step o x hx.tidy).mono fun _ => portReg_of_strandRegs)

theorem StrandStep.refl {k : Slack} (tidy : s.tidy = true) : StrandStep k o p s s := ⟨.refl tidy, rfl⟩

/-- A twin that takes part makes its own step, with the other twin's step before it or after it. -/
theorem each_strandStep {k : Slack} {q : Twin → Bool} {f : Twin → State → State} (qw : q w = true) (tidy : s.tidy = true)
    (step : ∀ o x, x.tidy = true → StrandStep k o p x (f o x)) :
    ∃ x, StrandStep k w.other p s x ∧ StrandStep k w.other p (f w x) (s.each q f) := by
  obtain ⟨x, before, after⟩ := each_around (R := fun s u => s.tidy = true → StrandStep k w.other p s u) qw (fun _ tidy => .refl tidy)
    (fun x tidy => step w.other x tidy) s
  exact ⟨x, before tidy, after (step w x (before tidy).tidy).tidy⟩

/-- A twin whose role is not OFF takes upstream traffic. -/
theorem eachUp_strandStep {k : Slack} {f : Twin → State → State} (on : s.roleOf w ≠ .off) (tidy : s.tidy = true)
    (step : ∀ o x, x.tidy = true → StrandStep k o p x (f o x)) :
    ∃ x, StrandStep k w.other p s x ∧ StrandStep k w.other p (f w x) (s.eachUp f) ∧ StrandFrame k (portReg p) s (s.eachUp f) := by
  obtain ⟨x, before, after⟩ := each_strandStep (q := fun w => decide (s.roleOf w ≠ .off)) (decide_eq_true on) tidy step
  exact ⟨x, before, after, each_strandFrame tidy step⟩

theorem on_beginAt (t : Nat) (on : s.roleOf w ≠ .off) : (s.beginAt t).roleOf w ≠ .off := by rwa [State.beginAt_roleOf]

/-! ### The operations of a step -/

section
variable {k : Slack} (h : StrandStep k o p s0 s)
include h

theorem StrandStep.trans (g : StrandStep k o p s u) : StrandStep k o p s0 u := ⟨h.toStrandFrame.trans g.toStrandFrame, g.other.trans h.other⟩

theorem StrandStep.modTw (f : TwinState → TwinState) : StrandStep k o p s0 (s.modTw o f) := by
  have framed : framed (strandRegs o p) nowhere s (s.modTw o f) := by cases o <;> exact ⟨rfl, fun _ _ _ => rfl, fun _ _ _ => rfl⟩
  refine h.trans ⟨.of_framed framed (by cases o <;> exact h.tidy) (fun v => (TwinPendKept.refl v s).modTw o f) (by cases o <;> rfl), ?_⟩
  exact State.modTw_tw_other _ _ (other_ne o)

theorem StrandStep.setStrand (x : Strand) : StrandStep k o p s0 (s.setStrand o p x) := h.modTw _

theorem StrandStep.setRun (r : EnumRun) : StrandStep k o p s0 (setRun o p r s) := h.setStrand _

theorem StrandStep.raised (g : Raised o s u) (pend : ∀ v, TwinPendKept v s u) : StrandStep k o p s0 u :=
  h.trans ⟨.of_framed (g.evt.framed h.tidy) (g.evt.tidy h.tidy) pend (by rw [g.evt.rest]; rfl), g.other⟩

theorem StrandStep.raiseIf {ctl n data : Nat} {en : Fld} (hn : n < 256 := by decide) : StrandStep k o p s0 (s.raiseIf o ctl en n data) :=
  h.raised (.raiseIf s o ctl en data hn) fun v => .ite ((TwinPendKept.refl v s).raiseTwin o n data) (.refl v s)

theorem StrandStep.raiseOncePer {n data : Nat} (hn : n < 256 := by decide) : StrandStep k o p s0 (s.raiseOncePer o n data) :=
  h.raised (.raiseOncePer s o data hn) fun v => (TwinPendKept.refl v s).raiseOncePer o n data

theorem StrandStep.setReg {a : Nat} (x : Word) (ha : strandRegs o p a = true) : StrandStep k o p s0 (s.setReg a x) := by
  have step := (TwinStep.refl (l := strandRegs o p) (p := nowhere) (o := o) h.tidy).setReg x ha
  exact h.trans ⟨.of_framed step.frame step.tidy (fun v => (TwinPendKept.refl v s).setReg (twinPendReg_strand ha v)), step.other⟩

theorem StrandStep.sf {a : Nat} {f : Fld} {x : Nat} (ha : strandRegs o p a = true) (hf : f.hi < 32 := by decide) : StrandStep k o p s0 (s.sf a f x) := by
  rw [State.sf_low _ _ _ _ hf]
  exact h.setReg _ ha

theorem StrandStep.sb {a : Nat} {f : Fld} {b : Bool} (ha : strandRegs o p a = true) (hf : f.hi < 32 := by decide) : StrandStep k o p s0 (s.sb a f b) :=
  h.sf ha hf

theorem StrandStep.bump {a n : Nat} {f : Fld} (ha : strandRegs o p a = true) (hf : f.hi < 32 := by decide) : StrandStep k o p s0 (s.bump a f n) :=
  h.sf ha hf

theorem StrandStep.setPrnState (st : Nat) : StrandStep k o p s0 (setPrnState o p st s) := h.sf (strandRegs_at o p)

theorem StrandStep.ite {c : Prop} [Decidable c] (g : StrandStep k o p s0 u) : StrandStep k o p s0 (if c then s else u) := by
  split
  · exact h
  · exact g

/-- What leaves on the lines. -/
theorem StrandStep.withLine (free : k.line = true) (u : State) : StrandStep k o p s0 (s.withLine u) :=
  h.trans ⟨⟨h.tidy, ⟨rfl, fun _ _ _ => rfl, fun _ _ _ => rfl⟩, fun _ => rfl, le_rfl, fun c => absurd (free.symm.trans c) (by decide), fun _ => rfl,
    fun _ => id, fun v => (TwinPendKept.refl v s).frame⟩, by cases o <;> rfl⟩

theorem StrandStep.sendPkt (free : k.line = true) (at_ : Nat) (b : List Byte) : StrandStep k o p s0 (sendPkt o p at_ b s) := by
  rw [sendPkt_eq_withLine]
  exact h.withLine free _

theorem StrandStep.sendPkts (free : k.line = true) (at_ : Nat) (l : List (List Byte)) : StrandStep k o p s0 (sendPkts o p at_ l s).2 := by
  rw [sendPkts_eq_withLine]
  exact h.withLine free _

/-- Time goes on. -/
theorem StrandStep.at (free : k.now = true) (t : Nat) : StrandStep k o p s0 (s.at t) :=
  h.trans ⟨⟨h.tidy, ⟨rfl, fun _ _ _ => rfl, fun _ _ _ => rfl⟩, fun c => absurd (free.symm.trans c) (by decide), le_max_left _ _, fun _ => rfl, fun _ => rfl,
    fun _ => id, fun v => (TwinPendKept.refl v s).frame⟩, by cases o <;> rfl⟩

/-- A frame is forced full. -/
theorem StrandStep.orFull (free : k.full = true) (m : BitVec 128) : StrandStep k o p s0 { s with fullDue := s.fullDue ||| m } :=
  h.trans ⟨⟨h.tidy, ⟨rfl, fun _ _ _ => rfl, fun _ _ _ => rfl⟩, fun _ => rfl, le_rfl, fun _ => rfl, fun c => absurd (free.symm.trans c) (by decide),
    fun q x => by rw [BitVec.getLsbD_or, x]; rfl, fun v => (TwinPendKept.refl v s).frame⟩, by cases o <;> rfl⟩

end

end Sys2Proof.Machine
end

section
/-!
Upstream slots of a Proren port (R269, R286 to R288).
-/
namespace Sys2Proof.Machine

set_option Elab.async false

variable {s0 s u : State} {w o : Twin} {p : Fin 128} {k : Slack}

/-! ### A discarded packet (R269) -/

/-- A discard is counted, and only an event follows. -/
theorem upDiscard_evt (w : Twin) (q : Nat) (s : State) : Evt (s.bump (Reg.STRD_UP_ERR w q) Fld.STRD_UP_ERR_DISCARD) (upDiscard w q s) :=
  .ite ((Evt.refl _).raiseOncePer w q) (.refl _)

theorem upDiscard_strand (w : Twin) (q : Nat) (s : State) : (upDiscard w q s).strand w q = s.strand w q :=
  ((upDiscard_evt w q s).strand w q).trans (strand_sf _ _ _ _ _ _)

theorem upDiscard_counts (wf : s.regsWf = true) (w : Twin) (p : Fin 128) :
    (upDiscard w p s).reg (Reg.STRD_UP_ERR w p) = countUp (s.reg (Reg.STRD_UP_ERR w p)) Fld.STRD_UP_ERR_DISCARD :=
  ((upDiscard_evt w p s).strandReg (State.regsWf_bump wf _ _ _) (strandRegs_at w p)).trans (reg_bump_countUp wf _ _ (by decide))

/-- The first discard in a tick interval raises E63. -/
theorem upDiscard_pending (wf : s.regsWf = true) (on : s.rb (Reg.STRD_EVT_CTL w p) Fld.STRD_EVT_CTL_UPERR_EN = true)
    (fresh : (s.tw w).once.seen.contains (63, p.val) = false) : (upDiscard w p s).evtTwinPending w 63 = true := by
  have wf1 : (s.bump (Reg.STRD_UP_ERR w p) Fld.STRD_UP_ERR_DISCARD).regsWf = true := State.regsWf_bump wf _ _ _
  have on1 : (s.bump (Reg.STRD_UP_ERR w p) Fld.STRD_UP_ERR_DISCARD).rb (Reg.STRD_EVT_CTL w p) Fld.STRD_EVT_CTL_UPERR_EN = true :=
    (rb_congr _ _ (by decide) (State.reg_sf_ne wf _ _ (by decide) (by simp [Reg.STRD_EVT_CTL, Reg.STRD_UP_ERR]))).trans on
  rw [upDiscard, if_pos on1]
  exact evtTwinPending_raiseOncePer wf1 (by rw [bump_tw]; exact fresh)

theorem StrandStep.upDiscard (h : StrandStep k o p s0 s) : StrandStep k o p s0 (upDiscard o p s) := by
  have counted : StrandStep k o p s0 (s.bump (Reg.STRD_UP_ERR o p) Fld.STRD_UP_ERR_DISCARD) := h.bump (strandRegs_at o p)
  exact counted.raiseOncePer.ite counted

/-! ### A failed slot (R287) -/

/-- The nodes of a port after a slot of `n`, which stands at `addr`, has failed. -/
def failNodes (addr : Nat) (n : Node) (l : List Node) : List Node :=
  l.map (fun m => if m.addr = addr then { m with fails := m.fails + 1, lost := decide (3 ≤ n.fails + 1) } else m)

/-- A failed slot of a node, before the node is found to be lost. -/
def State.nodeFailed (s : State) (w : Twin) (q addr : Nat) (n : Node) : State :=
  (s.bump (Reg.STRD_UP_ERR w q) Fld.STRD_UP_ERR_SLOT_MISS).setStrand w q { s.strand w q with nodes := failNodes addr n (s.strand w q).nodes }

/-- A node is lost: LOST_NODE names it. -/
def State.lostNamed (s : State) (w : Twin) (q addr : Nat) : State := s.sf (Reg.STRD_POLL w q) Fld.STRD_POLL_LOST_NODE addr

/-- E61 of a lost node. -/
def State.lostRaised (s : State) (w : Twin) (q : Nat) : State :=
  if s.rb (Reg.STRD_EVT_CTL w q) Fld.STRD_EVT_CTL_LOST_EN then s.raiseOncePer w 61 q else s

section
variable {addr : Nat}

theorem slotFails_unknown {q : Nat} (none_ : (s.strand w q).nodes.find? (fun n => n.addr = addr) = none) :
    slotFails w q addr s = s.bump (Reg.STRD_UP_ERR w q) Fld.STRD_UP_ERR_SLOT_MISS := by
  rw [slotFails, none_]

theorem slotFails_known {q : Nat} {n : Node} (found : (s.strand w q).nodes.find? (fun n => n.addr = addr) = some n) :
    slotFails w q addr s = if decide (3 ≤ n.fails + 1) && !n.lost then ((s.nodeFailed w q addr n).lostNamed w q addr).lostRaised w q
      else s.nodeFailed w q addr n := by
  rw [slotFails, found]
  rfl

theorem lostRaised_evt (s : State) (w : Twin) (q : Nat) : Evt s (s.lostRaised w q) := .ite ((Evt.refl _).raiseOncePer w q) (.refl _)

theorem nodeFailed_wf (wf : s.regsWf = true) (w : Twin) (q : Nat) (n : Node) : (s.nodeFailed w q addr n).regsWf = true :=
  wf_setStrand (State.regsWf_bump wf _ _ _) _ _ _

theorem nodeFailed_counts (wf : s.regsWf = true) (w : Twin) (q : Nat) (n : Node) :
    (s.nodeFailed w q addr n).reg (Reg.STRD_UP_ERR w q) = countUp (s.reg (Reg.STRD_UP_ERR w q)) Fld.STRD_UP_ERR_SLOT_MISS :=
  (reg_setStrand _ _ _ _ _).trans (reg_bump_countUp wf _ _ (by decide))

theorem slotFails_counts (wf : s.regsWf = true) (w : Twin) (p : Fin 128) :
    (slotFails w p addr s).reg (Reg.STRD_UP_ERR w p) = countUp (s.reg (Reg.STRD_UP_ERR w p)) Fld.STRD_UP_ERR_SLOT_MISS := by
  cases found : (s.strand w p).nodes.find? (fun n => n.addr = addr) with
  | none => rw [slotFails_unknown found, reg_bump_countUp wf _ _ (by decide)]
  | some n =>
    have wf1 : (s.nodeFailed w p addr n).regsWf = true := nodeFailed_wf wf w p n
    have wf2 : ((s.nodeFailed w p addr n).lostNamed w p addr).regsWf = true := State.regsWf_sf wf1 _ _ _
    rw [slotFails_known found]
    split
    · rw [(lostRaised_evt _ w p).strandReg wf2 (strandRegs_upErr w p), State.lostNamed,
        State.reg_sf_ne wf1 _ _ (by decide) (by simp [Reg.STRD_UP_ERR, Reg.STRD_POLL]), nodeFailed_counts wf]
    · exact nodeFailed_counts wf w p n

theorem slotFails_nodes {n : Node} {pl : Poll} (polled : (s.strand w p).poll = some pl)
    (found : (s.strand w p).nodes.find? (fun n => n.addr = addr) = some n) :
    ((slotFails w p addr s).strand w p).nodes = failNodes addr n (s.strand w p).nodes := by
  have kept : (s.nodeFailed w p addr n).strand w p = { s.strand w p with nodes := failNodes addr n (s.strand w p).nodes } :=
    strand_setStrand (Strand.ne_reset Strand.poll (by rw [polled]; exact Option.some_ne_none _)) _ _ _
  rw [slotFails_known found]
  split
  · rw [(lostRaised_evt _ w p).strand, State.lostNamed, strand_sf, kept]
  · rw [kept]

/-- A node that fails a third time in a row is named, and E61 is raised. -/
theorem slotFails_lost (wf : s.regsWf = true) {n : Node} (found : (s.strand w p).nodes.find? (fun n => n.addr = addr) = some n)
    (third : 3 ≤ n.fails + 1) (held : n.lost = false) (low : addr < 4096) :
    (slotFails w p addr s).rf (Reg.STRD_POLL w p) Fld.STRD_POLL_LOST_NODE = addr ∧
    (s.rb (Reg.STRD_EVT_CTL w p) Fld.STRD_EVT_CTL_LOST_EN = true → (s.tw w).once.seen.contains (61, p.val) = false →
      (slotFails w p addr s).evtTwinPending w 61 = true) := by
  have wf1 : (s.nodeFailed w p addr n).regsWf = true := nodeFailed_wf wf w p n
  have wf2 : ((s.nodeFailed w p addr n).lostNamed w p addr).regsWf = true := State.regsWf_sf wf1 _ _ _
  rw [slotFails_known found, if_pos (by rw [held]; simpa using third)]
  refine ⟨?_, fun on fresh => ?_⟩
  · rw [rf_congr _ _ (by decide) ((lostRaised_evt _ w p).strandReg wf2 (strandRegs_poll w p)), State.lostNamed,
      State.rf_sf_self wf1 _ _ _ (by decide) (by decide)]
    exact Nat.mod_eq_of_lt low
  · have ctl : ((s.nodeFailed w p addr n).lostNamed w p addr).reg (Reg.STRD_EVT_CTL w p) = s.reg (Reg.STRD_EVT_CTL w p) := by
      rw [State.lostNamed, State.reg_sf_ne wf1 _ _ (by decide) (by simp [Reg.STRD_EVT_CTL, Reg.STRD_POLL]), State.nodeFailed, reg_setStrand,
        State.bump, State.reg_sf_ne wf _ _ (by decide) (by simp [Reg.STRD_EVT_CTL, Reg.STRD_UP_ERR])]
    have seen : (((s.nodeFailed w p addr n).lostNamed w p addr).tw w).once = (s.tw w).once := by
      rw [State.lostNamed, sf_tw, State.nodeFailed, State.setStrand, State.modTw_tw, bump_tw]
    rw [State.lostRaised, if_pos ((rb_congr _ _ (by decide) ctl).trans on)]
    exact evtTwinPending_raiseOncePer wf2 (by rw [seen]; exact fresh)

theorem StrandStep.slotFails (h : StrandStep k o p s0 s) : StrandStep k o p s0 (slotFails o p addr s) := by
  have counted : StrandStep k o p s0 (s.bump (Reg.STRD_UP_ERR o p) Fld.STRD_UP_ERR_SLOT_MISS) := h.bump (strandRegs_at o p)
  cases found : (s.strand o p).nodes.find? (fun n => n.addr = addr) with
  | none => rwa [slotFails_unknown found]
  | some n =>
    have failed : StrandStep k o p s0 (s.nodeFailed o p addr n) := counted.setStrand _
    have named : StrandStep k o p s0 ((s.nodeFailed o p addr n).lostNamed o p addr) := failed.sf (strandRegs_at o p)
    rw [slotFails_known found]
    exact (named.raiseOncePer.ite named).ite failed

end

/-! ### A good STATUS (R286, R288) -/

/-- A node whose STATUS arrives with the error `e`. -/
def Node.measured (e : Int) (n : Node) : Node :=
  { n with rt := n.rt + e, d := (n.rt + e - n.sig) / 2, u := n.rt + e - (n.rt + e - n.sig) / 2, fails := 0, lost := false }

/-- What a good STATUS leaves in its twin: the node's delays, the report that waits for its tick, and a full frame after a loss. -/
structure StatusTaken (w : Twin) (p : Fin 128) (addr : Nat) (e : Int) (b : List Byte) (s u : State) : Prop where
  nodes : (u.strand w p).nodes = (s.strand w p).nodes.map (fun n => if n.addr = addr then n.measured e else n)
  statuses : (u.tw w).hlth.statuses = (s.tw w).hlth.statuses ++ [(s.now + 30 * s.upChar w p, p.val, b)]
  full : bitAt (byteAt b 1) 0 = true ∨ bitAt (byteAt b 1) 1 = true ∨ bitAt (byteAt b 1) 5 = true → u.fullDue.getLsbD p = true

theorem ite_state {α : Type} (f : State → α) {a b : State} {c : Prop} [Decidable c] {x : α} (ha : f a = x) (hb : f b = x) : f (if c then a else b) = x := by
  split
  · exact ha
  · exact hb

theorem getLsbD_or_two_pow (v : BitVec 128) (p : Fin 128) : (v ||| BitVec.ofNat 128 (2 ^ p.val)).getLsbD p = true := by
  rw [BitVec.getLsbD_or, BitVec.getLsbD_ofNat, Nat.testBit_two_pow_self, decide_eq_true p.isLt]
  exact Bool.or_true _

theorem upChar_of_mem (h : u.mem = s.mem) (w : Twin) (q : Nat) : u.upChar w q = s.upChar w q := by
  rw [State.upChar, State.upChar, State.param, State.param, ent_of_mem h]

theorem takeStatus_taken {addr : Nat} {e : Int} {b : List Byte} {pl : Poll} (polled : (s.strand w p).poll = some pl) :
    StatusTaken w p addr e b s (takeStatus w p addr e b s) := by
  unfold takeStatus
  extract_lets x fl upd nodes moved s1 s2 s3 s4
  have strand1 : s1.strand w p = { x with nodes := nodes, delayDue := (x.delayDue ++ moved).dedup } :=
    strand_setStrand (Strand.ne_reset Strand.poll (by change x.poll ≠ none; rw [polled]; exact Option.some_ne_none _)) _ _ _
  have tw2 : s2.tw w = s1.tw w := ite_tw (bump_tw _ _ _ _ _) rfl
  have tw3 : s3.tw w = s1.tw w := ite_tw ((bump_tw _ _ _ _ _).trans tw2) tw2
  have tw4 : s4.tw w = s1.tw w := ite_tw (by cases w <;> exact tw3) tw3
  have hlth4 : (s4.tw w).hlth = (s.tw w).hlth := by
    rw [tw4]
    cases w <;> rfl
  have clock1 : (s1.now, s1.mem) = (s.now, s.mem) := by cases w <;> rfl
  have clock2 : (s2.now, s2.mem) = (s.now, s.mem) :=
    ite_state (fun y => (y.now, y.mem)) (by rw [State.bump, State.sf_now, State.sf_mem]; exact clock1) clock1
  have clock3 : (s3.now, s3.mem) = (s.now, s.mem) :=
    ite_state (fun y => (y.now, y.mem)) (by rw [State.bump, State.sf_now, State.sf_mem]; exact clock2) clock2
  have clock4 : (s4.now, s4.mem) = (s.now, s.mem) := ite_state (fun y => (y.now, y.mem)) clock3 clock3
  obtain ⟨now, mem⟩ := Prod.mk.inj clock4
  refine ⟨?_, ?_, fun loss => ?_⟩
  · have strand4 : (s4.modHlth w (fun h => { h with statuses := h.statuses ++ [(s4.now + 30 * s4.upChar w p, p.val, b)] })).strand w p = s1.strand w p := by
      rw [← strand_of_tw tw4]
      cases w <;> rfl
    rw [strand4, strand1]
    rfl
  · rw [State.modHlth, State.modTw_tw, now, upChar_of_mem mem]
    exact congrArg (fun h : Health => h.statuses ++ _) hlth4
  · have due : s4 = { s3 with fullDue := s3.fullDue ||| BitVec.ofNat 128 (2 ^ p.val) } := if_pos loss
    have kept : (s4.modHlth w (fun h => { h with statuses := h.statuses ++ [(s4.now + 30 * s4.upChar w p, p.val, b)] })).fullDue = s4.fullDue := by
      cases w <;> rfl
    rw [kept, due]
    exact getLsbD_or_two_pow _ p

theorem StrandStep.takeStatus {addr : Nat} {e : Int} {b : List Byte} (h : StrandStep k o p s0 s) (free : k.full = true) :
    StrandStep k o p s0 (takeStatus o p addr e b s) := by
  unfold Machine.takeStatus
  extract_lets x fl upd nodes moved s1 s2 s3 s4
  have h1 : StrandStep k o p s0 s1 := h.setStrand _
  have h2 : StrandStep k o p s0 s2 := (h1.bump (strandRegs_at o p)).ite h1
  have h3 : StrandStep k o p s0 s3 := (h2.bump (strandRegs_at o p)).ite h2
  have h4 : StrandStep k o p s0 s4 := (h3.orFull free _).ite h3
  exact h4.modTw _

/-! ### The commands -/

/-- PRN_STATUS in one twin. -/
def statusStep (q slot : Nat) (bytes : List Byte) (w : Twin) (x : State) : State :=
  match (x.strand w q).poll with
  | none => x
  | some pl =>
    match pl.owner slot with
    | none => x
    | some addr =>
      let opens := x.slotAtPoll w q pl slot
      if bytes.length ≠ 24 ∨ byteAt bytes 0 ≠ 0x85 then slotFails w q addr (upDiscard w q x)
      else if beAt bytes 2 2 ≠ addr ∨ x.now < opens ∨ opens + x.slotTime w q < x.now + 30 * x.upChar w q then slotFails w q addr x
      else takeStatus w q addr ((x.now : Int) - (opens + 400 : Nat)) bytes x

theorem exec_prnStatus (t : Nat) (p : Fin 128) (slot : Nat) (bytes : List Byte) (s : State) :
    exec (.prnStatus t p slot bytes) s = .next ((s.beginAt t).eachUp (statusStep p slot bytes)) := rfl

/-- PRN_SLOT_MISS in one twin. -/
def missStep (q slot : Nat) (w : Twin) (x : State) : State :=
  match (x.strand w q).poll.bind (fun pl => pl.owner slot) with
  | some addr => slotFails w q addr x
  | none => x

theorem exec_prnSlotMiss (t : Nat) (p : Fin 128) (slot : Nat) (s : State) :
    exec (.prnSlotMiss t p slot) s = .next ((s.beginAt t).eachUp (missStep p slot)) := rfl

/-- PRN_UP_ERR in one twin. -/
def upErrStep (q : Nat) (w : Twin) (x : State) : State := if x.personality w q = 1 then upDiscard w q x else x

theorem exec_prnUpErr (t : Nat) (p : Fin 128) (s : State) : exec (.prnUpErr t p) s = .next ((s.beginAt t).eachUp (upErrStep p)) := rfl

theorem StrandStep.statusStep {slot : Nat} {bytes : List Byte} (h : StrandStep k o p s0 s) (free : bytes.length = 24 → k.full = true) :
    StrandStep k o p s0 (statusStep p slot bytes o s) := by
  unfold Machine.statusStep
  split
  · exact h
  split
  · exact h
  extract_lets opens
  split
  · exact h.upDiscard.slotFails
  next form =>
    have len : bytes.length = 24 := not_not.1 fun c => form (.inl c)
    exact h.slotFails.ite (h.takeStatus (free len))

theorem StrandStep.missStep {slot : Nat} (h : StrandStep k o p s0 s) : StrandStep k o p s0 (missStep p slot o s) := by
  unfold Machine.missStep
  split
  · exact h.slotFails
  · exact h

theorem StrandStep.upErrStep (h : StrandStep k o p s0 s) : StrandStep k o p s0 (upErrStep p o s) := h.upDiscard.ite h

section
variable {pl : Poll} {slot addr : Nat} {bytes : List Byte} (polled : (s.strand w p).poll = some pl) (owned : pl.owner slot = some addr)
include polled owned

theorem statusStep_bad (short : bytes.length ≠ 24) : statusStep p slot bytes w s = slotFails w p addr (upDiscard w p s) := by
  rw [statusStep, polled]
  dsimp only
  rw [owned]
  exact if_pos (.inl short)

theorem statusStep_good (long : bytes.length = 24) (form : byteAt bytes 0 = 0x85) (node : beAt bytes 2 2 = addr)
    (opens : s.slotAtPoll w p pl slot ≤ s.now) (closes : s.now + 30 * s.upChar w p ≤ s.slotAtPoll w p pl slot + s.slotTime w p) :
    statusStep p slot bytes w s = takeStatus w p addr ((s.now : Int) - (s.slotAtPoll w p pl slot + 400 : Nat)) bytes s := by
  rw [statusStep, polled]
  dsimp only
  rw [owned]
  dsimp only
  rw [if_neg (by rw [long, form]; decide), if_neg (by omega)]

theorem missStep_owned : missStep p slot w s = slotFails w p addr s := by
  rw [missStep, polled]
  dsimp only [Option.bind_some]
  rw [owned]

end

section
variable {t : Nat} (tidy : s.tidy = true) (on : s.roleOf w ≠ .off)
include tidy on

/-- A good STATUS in its slot. -/
theorem prnStatus_takes {pl : Poll} {slot addr : Nat} {bytes : List Byte} (polled : (s.strand w p).poll = some pl) (owned : pl.owner slot = some addr)
    (long : bytes.length = 24) (form : byteAt bytes 0 = 0x85) (node : beAt bytes 2 2 = addr) (opens : s.slotAtPoll w p pl slot ≤ max s.now t)
    (closes : max s.now t + 30 * s.upChar w p ≤ s.slotAtPoll w p pl slot + s.slotTime w p) :
    ∃ u, exec (.prnStatus t p slot bytes) s = .next u ∧
      StatusTaken w p addr (((max s.now t : Nat) : Int) - (s.slotAtPoll w p pl slot + 400 : Nat)) bytes (s.beginAt t) u ∧
      framed (portReg p) nowhere { s.beginAt t with fullDue := u.fullDue } u := by
  have step : ∀ o x, x.tidy = true → StrandStep ⟨false, false, true⟩ o p x (statusStep p slot bytes o x) :=
    fun o x tidy => (StrandStep.refl tidy).statusStep fun _ => rfl
  obtain ⟨x, before, after, frame⟩ := eachUp_strandStep (on_beginAt t on) tidy step
  have strand : x.strand w p = s.strand w p := before.strand.trans (strand_beginAt s t w p)
  have now : x.now = max s.now t := before.now rfl
  have image : x.upChar w p = s.upChar w p ∧ x.slotTime w p = s.slotTime w p := by
    have param : ∀ off n, x.param w p off n = s.param w p off n := fun off n => (before.ent w 6 0 p (4 + off) n).trans (ent_beginAt ..)
    exact ⟨by rw [State.upChar, State.upChar, param], by rw [State.slotTime, State.slotTime, param]⟩
  obtain ⟨upChar, slotTime⟩ := image
  have slotAt : x.slotAtPoll w p pl slot = s.slotAtPoll w p pl slot := by rw [State.slotAtPoll, State.slotAtPoll, slotTime]
  have own := statusStep_good (s := x) (slot := slot) (bytes := bytes) (by rw [strand, polled]) owned long form node (by rw [slotAt, now]; exact opens)
    (by rw [slotAt, now, upChar, slotTime]; exact closes)
  obtain ⟨nodes, statuses, full⟩ := takeStatus_taken (s := x) (w := w) (p := p) (addr := addr)
    (e := (x.now : Int) - (x.slotAtPoll w p pl slot + 400 : Nat)) (b := bytes) (by rw [strand, polled])
  rw [own, slotAt, now] at after
  rw [strand, slotAt, now] at nodes
  rw [before.own, upChar, slotAt, now] at statuses
  rw [slotAt, now] at full
  refine ⟨_, exec_prnStatus t p slot bytes s, ⟨?_, ?_, fun loss => after.due _ (full loss)⟩, frame.filled⟩
  · rw [after.strand, strand_beginAt, ← nodes]
  · have upChar' : (s.beginAt t).upChar w p = s.upChar w p := upChar_of_mem rfl w p
    rw [after.own, upChar']
    exact statuses

/-- A packet of another length in a slot. -/
theorem prnStatus_discards {pl : Poll} {slot addr : Nat} {bytes : List Byte} (polled : (s.strand w p).poll = some pl)
    (owned : pl.owner slot = some addr) (short : bytes.length ≠ 24) : ∃ u, exec (.prnStatus t p slot bytes) s = .next u ∧
      u.reg (Reg.STRD_UP_ERR w p) = countUp (countUp (s.reg (Reg.STRD_UP_ERR w p)) Fld.STRD_UP_ERR_DISCARD) Fld.STRD_UP_ERR_SLOT_MISS ∧
      framed (portReg p) nowhere (s.beginAt t) u := by
  have step : ∀ o x, x.tidy = true → StrandStep ⟨false, false, false⟩ o p x (statusStep p slot bytes o x) :=
    fun o x tidy => (StrandStep.refl tidy).statusStep fun long => absurd long short
  obtain ⟨x, before, after, frame⟩ := eachUp_strandStep (on_beginAt t on) tidy step
  have strand : x.strand w p = s.strand w p := before.strand.trans (strand_beginAt s t w p)
  have discarded := (StrandStep.refl (k := ⟨false, false, false⟩) (o := w) (p := p) before.tidy).upDiscard
  rw [statusStep_bad (by rw [strand, polled]) owned short] at after
  refine ⟨_, exec_prnStatus t p slot bytes s, ?_, frame.plain⟩
  rw [after.reg (strandRegs_upErr w p), slotFails_counts discarded.wf, upDiscard_counts before.wf, before.reg (strandRegs_upErr w p)]
  rfl

/-- A slot that stays empty. -/
theorem prnSlotMiss_fails {pl : Poll} {slot addr : Nat} (polled : (s.strand w p).poll = some pl) (owned : pl.owner slot = some addr) :
    ∃ u, exec (.prnSlotMiss t p slot) s = .next u ∧
      u.reg (Reg.STRD_UP_ERR w p) = countUp (s.reg (Reg.STRD_UP_ERR w p)) Fld.STRD_UP_ERR_SLOT_MISS ∧
      framed (portReg p) nowhere (s.beginAt t) u ∧
      ∀ n, (s.strand w p).nodes.find? (fun n => n.addr = addr) = some n →
        (u.strand w p).nodes = failNodes addr n (s.strand w p).nodes ∧
        (3 ≤ n.fails + 1 → n.lost = false → addr < 4096 → u.rf (Reg.STRD_POLL w p) Fld.STRD_POLL_LOST_NODE = addr ∧
          (s.rb (Reg.STRD_EVT_CTL w p) Fld.STRD_EVT_CTL_LOST_EN = true → (s.tw w).once.seen.contains (61, p.val) = false →
            u.evtTwinPending w 61 = true)) := by
  have step : ∀ o x, x.tidy = true → StrandStep ⟨false, false, false⟩ o p x (missStep p slot o x) := fun o x tidy => (StrandStep.refl tidy).missStep
  obtain ⟨x, before, after, frame⟩ := eachUp_strandStep (on_beginAt t on) tidy step
  have strand : x.strand w p = s.strand w p := before.strand.trans (strand_beginAt s t w p)
  have polled' : (x.strand w p).poll = some pl := by rw [strand, polled]
  have failed := (StrandStep.refl (k := ⟨false, false, false⟩) (o := w) (p := p) before.tidy).slotFails (addr := addr)
  rw [missStep_owned polled' owned] at after
  refine ⟨_, exec_prnSlotMiss t p slot s, ?_, frame.plain, fun n found => ⟨?_, fun third held low => ?_⟩⟩
  · rw [after.reg (strandRegs_upErr w p), slotFails_counts before.wf, before.reg (strandRegs_upErr w p)]
    rfl
  · rw [after.strand, slotFails_nodes polled' (by rw [strand]; exact found), strand]
  · obtain ⟨named, event⟩ := slotFails_lost before.wf (n := n) (addr := addr) (by rw [strand]; exact found) third held low
    refine ⟨(after.rf _ (strandRegs_poll w p)).trans named, fun enabled fresh => after.pending failed.wf (x := event ?_ ?_)⟩
    · exact (before.rb _ (strandRegs_evtCtl w p)).trans enabled
    · rw [before.own, State.beginAt_tw]
      exact fresh

/-- A discarded packet outside the slots. -/
theorem prnUpErr_counts (prn : s.personality w p = 1) : ∃ u, exec (.prnUpErr t p) s = .next u ∧
    u.reg (Reg.STRD_UP_ERR w p) = countUp (s.reg (Reg.STRD_UP_ERR w p)) Fld.STRD_UP_ERR_DISCARD ∧
    (s.rb (Reg.STRD_EVT_CTL w p) Fld.STRD_EVT_CTL_UPERR_EN = true → (s.tw w).once.seen.contains (63, p.val) = false →
      u.evtTwinPending w 63 = true) ∧ framed (portReg p) nowhere (s.beginAt t) u := by
  have step : ∀ o x, x.tidy = true → StrandStep ⟨false, false, false⟩ o p x (upErrStep p o x) := fun o x tidy => (StrandStep.refl tidy).upErrStep
  obtain ⟨x, before, after, frame⟩ := eachUp_strandStep (on_beginAt t on) tidy step
  have own : upErrStep p w x = upDiscard w p x := if_pos ((before.ent w 6 0 p 0 1).trans prn)
  have discarded := (StrandStep.refl (k := ⟨false, false, false⟩) (o := w) (p := p) before.tidy).upDiscard
  rw [own] at after
  refine ⟨_, exec_prnUpErr t p s, ?_, fun enabled fresh => after.pending discarded.wf (x := upDiscard_pending before.wf ?_ ?_),
    frame.plain⟩
  · rw [after.reg (strandRegs_upErr w p), upDiscard_counts before.wf, before.reg (strandRegs_upErr w p)]
    rfl
  · exact (before.rb _ (strandRegs_evtCtl w p)).trans enabled
  · rw [before.own, State.beginAt_tw]
    exact fresh

end

/-- Settles O29: the slot is judged in each twin by itself, and what the other twin's port does beside it stays in that twin. -/
theorem upstreamSlotsAreJudged : Obligations.UpstreamSlotsAreJudged := by
  unfold Obligations.UpstreamSlotsAreJudged
  intro s t w p tidy on
  refine ⟨fun pl slot addr bytes polled owned => ⟨fun long form node opens closes => ?_, prnStatus_discards tidy on polled owned,
    prnSlotMiss_fails tidy on polled owned⟩, prnUpErr_counts tidy on⟩
  obtain ⟨u, run, taken, frame⟩ := prnStatus_takes tidy on polled owned long form node opens closes
  refine ⟨u, run, taken.nodes.trans ?_, taken.statuses.trans ?_, taken.full, frame⟩
  · rw [strand_beginAt]
    rfl
  · rw [State.beginAt_tw]
    rfl

end Sys2Proof.Machine
end

section
/-!
Enumeration of a Proren port: its request and its start (R280, R289, R294).
-/
namespace Sys2Proof.Machine

set_option Elab.async false

variable {s0 s u : State} {w o : Twin} {p : Fin 128} {k : Slack}

/-! ### A step that raises no event -/

/-- From `s` to `u` there are changes of the twins, of the registers at `l` and of what the strand lines have been given; where the flag is
clear the lines have been given nothing. -/
structure QuietFrame (line : Bool) (l : List Nat) (s u : State) : Prop where
  tidy : u.tidy = true
  only : onlyRegs l ({ s with a := u.a, b := u.b }.withLine u) u
  still : line = false → u.out = s.out ∧ u.dev = s.dev
  out : s.out ⊆ u.out

/-- Such a step of port `p` of twin `o`, on STRD_PSTAT. Nothing leaves from a twin that is not ACTIVE, nor while the Peristome releases nothing
to strand ports (R42). -/
structure QuietStep (line : Bool) (o : Twin) (p : Nat) (s u : State) : Prop extends QuietFrame line [Reg.STRD_PSTAT o p] s u where
  other : u.tw o.other = s.tw o.other
  shut : s.active ≠ some o ∨ s.portShut = true → u.out = s.out ∧ u.dev = s.dev

section
variable {line : Bool} {l l' : List Nat}

theorem QuietFrame.refl (tidy : s.tidy = true) : QuietFrame line l s s := ⟨tidy, ⟨rfl, fun _ _ => rfl⟩, fun _ => ⟨rfl, rfl⟩, fun _ => id⟩

theorem QuietFrame.trans (h : QuietFrame line l s0 s) (g : QuietFrame line l s u) : QuietFrame line l s0 u := by
  refine ⟨g.tidy, ⟨?_, fun a ha => (g.only.regs a ha).trans (h.only.regs a ha)⟩, fun c => ?_, fun _ mem => g.out (h.out mem)⟩
  · rw [g.only.rest, h.only.rest]
    rfl
  · obtain ⟨out, dev⟩ := h.still c
    obtain ⟨out', dev'⟩ := g.still c
    exact ⟨out'.trans out, dev'.trans dev⟩

theorem QuietFrame.mono (h : QuietFrame line l s u) (sub : l ⊆ l') : QuietFrame line l' s u := { h with only := h.only.mono sub }

theorem QuietFrame.role (h : QuietFrame line l s u) : u.role = s.role := by rw [h.only.rest]; rfl

theorem QuietFrame.now (h : QuietFrame line l s u) : u.now = s.now := by rw [h.only.rest]; rfl

theorem QuietFrame.mem (h : QuietFrame line l s u) : u.mem = s.mem := by rw [h.only.rest]; rfl

theorem QuietFrame.wf (h : QuietFrame line l s u) : u.regsWf = true := (tidy_iff.1 h.tidy).1

/-- Where nothing was given to the lines. -/
theorem QuietFrame.quiet (h : QuietFrame false l s u) : onlyRegs l { s with a := u.a, b := u.b } u := by
  obtain ⟨out, dev⟩ := h.still rfl
  have only := h.only
  rw [State.withLine, out, dev] at only
  exact only

/-- What the Peristome releases does not change. -/
theorem QuietFrame.portShut (h : QuietFrame line l s u) (away : Reg.OUT_CTL ∉ l) : u.portShut = s.portShut := by
  have reg : u.reg Reg.OUT_CTL = s.reg Reg.OUT_CTL := h.only.regs _ away
  have role := active_congr h.role
  have rest : u.pwr = s.pwr ∧ u.peri = s.peri ∧ u.dev.testEn = s.dev.testEn := by
    rw [h.only.rest]
    exact ⟨rfl, rfl, rfl⟩
  obtain ⟨pwr, peri, testEn⟩ := rest
  rw [State.portShut, State.portShut, State.safeOn, State.safeOn, rb_congr _ _ (by decide) reg, rb_congr _ _ (by decide) reg, role, pwr, peri, testEn]

end

theorem pstat_ne_outCtl (o : Twin) (q : Nat) : Reg.OUT_CTL ∉ [Reg.STRD_PSTAT o q] := by
  cases o <;> simp [Reg.OUT_CTL, Reg.STRD_PSTAT, Twin.base] <;> omega

theorem QuietStep.refl {line : Bool} {q : Nat} (tidy : s.tidy = true) : QuietStep line o q s s := ⟨.refl tidy, rfl, fun _ => ⟨rfl, rfl⟩⟩

/-- Such a step is a step of the port. -/
theorem QuietStep.step {line : Bool} (h : QuietStep line o p s u) (free : line = true → k.line = true) : StrandStep k o p s u := by
  have inside : ∀ a, a ∈ [Reg.STRD_PSTAT o p] → strandRegs o p a = true := fun a ha => by
    rw [List.mem_singleton.1 ha]
    exact strandRegs_at o p
  have keep : ∀ a, strandRegs o p a = false → u.reg a = s.reg a := fun a ha =>
    h.only.regs a fun mem => Bool.false_ne_true (ha.symm.trans (inside a mem))
  have full : u.fullDue = s.fullDue := by rw [h.only.rest]; rfl
  refine ⟨⟨h.tidy, ⟨?_, fun a ha _ => keep a ha, fun a _ _ => ?_⟩, fun _ => h.now, h.now.ge, fun c => ?_, fun _ => full, fun q x => by rwa [full],
    fun v => .of_regsKept fun _ => ⟨h.wf, fun a ha => keep a ?_⟩⟩, h.other⟩
  · conv_lhs => rw [h.only.rest]
    rw [h.now, full]
    have rest : (u.mem, u.logFirst, u.logCycle, u.once, u.heldEvents) = (s.mem, s.logFirst, s.logCycle, s.once, s.heldEvents) := by
      rw [h.only.rest]; rfl
    simp only [Prod.mk.injEq] at rest
    obtain ⟨mem, logFirst, logCycle, once, heldEvents⟩ := rest
    rw [mem, logFirst, logCycle, once, heldEvents]
    rfl
  · rw [State.rdB, State.rdB, h.mem]
    rfl
  · cases line
    · exact (h.still rfl).2
    · exact absurd ((free rfl).symm.trans c) (by decide)
  · cases inside : strandRegs o p a
    · rfl
    · exact absurd (ha.symm.trans (twinPendReg_strand inside v)) (by decide)

section
variable {line : Bool} {q : Nat} (h : QuietStep line o q s0 s)
include h

theorem QuietStep.trans (g : QuietStep line o q s u) : QuietStep line o q s0 u := by
  refine ⟨h.toQuietFrame.trans g.toQuietFrame, g.other.trans h.other, fun c => ?_⟩
  obtain ⟨out, dev⟩ := h.shut c
  obtain ⟨out', dev'⟩ := g.shut (by rwa [active_congr h.role, h.portShut (pstat_ne_outCtl o q)])
  exact ⟨out'.trans out, dev'.trans dev⟩

theorem QuietStep.setStrand (x : Strand) : QuietStep line o q s0 (s.setStrand o q x) := by
  refine h.trans ⟨⟨by cases o <;> exact h.tidy, ?_, fun _ => by cases o <;> exact ⟨rfl, rfl⟩, by cases o <;> exact fun _ => id⟩,
    State.modTw_tw_other _ _ (other_ne o), fun _ => by cases o <;> exact ⟨rfl, rfl⟩⟩
  cases o <;> exact ⟨rfl, fun _ _ => rfl⟩

theorem QuietStep.sf {f : Fld} {n : Nat} (hf : f.hi < 32 := by decide) : QuietStep line o q s0 (s.sf (Reg.STRD_PSTAT o q) f n) := by
  obtain ⟨wf, mem⟩ := tidy_iff.1 h.tidy
  have tidy : (s.sf (Reg.STRD_PSTAT o q) f n).tidy = true := tidy_iff.2 ⟨State.regsWf_sf wf _ _ _, by rw [State.sf_mem]; exact mem⟩
  refine h.trans ⟨⟨tidy, ⟨?_, fun a ha => State.reg_sf_ne wf _ _ hf (by simpa using ha)⟩,
    fun _ => ⟨State.sf_out _ _ _ _, State.sf_dev _ _ _ _⟩, by rw [State.sf_out]; exact fun _ => id⟩, sf_tw _ _ _ _ _,
    fun _ => ⟨State.sf_out _ _ _ _, State.sf_dev _ _ _ _⟩⟩
  rw [State.sf_eq]
  rfl

theorem QuietStep.sb {f : Fld} {b : Bool} (hf : f.hi < 32 := by decide) : QuietStep line o q s0 (s.sb (Reg.STRD_PSTAT o q) f b) := h.sf hf

/-- Something leaves on the lines, where the twin's stream is released. -/
theorem QuietStep.lines {x : State} (free : line = true) (given : x = s.withLine x) (more : s.out ⊆ x.out)
    (shut : s.active ≠ some o ∨ s.portShut = true → x = s) : QuietStep line o q s0 x := by
  refine h.trans ⟨⟨?_, ?_, fun c => absurd (free.symm.trans c) (by decide), more⟩, ?_, fun c => by rw [shut c]; exact ⟨rfl, rfl⟩⟩
  · rw [given]; exact h.tidy
  · rw [given]; exact ⟨rfl, fun _ _ => rfl⟩
  · rw [given]; cases o <;> rfl

end

theorem sendPkt_shut (q at_ : Nat) (b : List Byte) (c : s.active ≠ some w ∨ s.portShut = true) : sendPkt w q at_ b s = s := by
  refine if_neg fun open_ => ?_
  obtain ⟨active, shut⟩ := open_
  rcases c with other | held
  · exact other active
  · rw [held] at shut
    cases shut

theorem sendPkt_out (w : Twin) (q at_ : Nat) (b : List Byte) (s : State) : s.out ⊆ (sendPkt w q at_ b s).out := by
  unfold sendPkt
  split
  · extract_lets d s1
    have out : s1.out = s.out := by
      unfold s1
      split <;> rfl
    rw [← out]
    exact List.subset_append_left _ _
  · exact fun _ => id

theorem QuietStep.sendPkt {q : Nat} (h : QuietStep true o q s0 s) (at_ : Nat) (b : List Byte) : QuietStep true o q s0 (sendPkt o q at_ b s) :=
  h.lines rfl (sendPkt_eq_withLine _ _ _ _ _) (sendPkt_out _ _ _ _ _) (sendPkt_shut q at_ b)

/-! ### The fields of STRD_PSTAT -/

/-- STATE leaves the flags above it. -/
theorem rb_setPrnState (wf : s.regsWf = true) (w : Twin) (q st : Nat) (f : Fld) (above : 2 < f.lo := by decide) (hl : f.lo ≤ f.hi := by decide)
    (hf : f.hi < 32 := by decide) : (setPrnState w q st s).rb (Reg.STRD_PSTAT w q) f = s.rb (Reg.STRD_PSTAT w q) f := by
  rw [State.rb, setPrnState, State.rf_sf_other wf _ _ _ _ (by decide) (by decide) hl hf (.inr above)]
  rfl

/-- A flag above STATE leaves it. -/
theorem prnState_sb (wf : s.regsWf = true) (w : Twin) (q : Nat) (f : Fld) (b : Bool) (above : 2 < f.lo := by decide) (hl : f.lo ≤ f.hi := by decide)
    (hf : f.hi < 32 := by decide) : (s.sb (Reg.STRD_PSTAT w q) f b).prnState w q = s.prnState w q :=
  State.rf_sf_other wf _ _ _ _ hl hf (by decide) (by decide) (.inl above)

/-! ### The start of an enumeration (R289) -/

/-- The WAKE of an enumeration, from a twin whose stream is released. -/
def State.wakeSent (s : State) (w : Twin) (q : Nat) : State := if s.active = some w ∧ !s.portShut then s.emitWake q else s

/-- The instants of the RESET packets and of the COUNT request of an enumeration that starts now. -/
def State.resetAt (s : State) (w : Twin) (q : Nat) : Nat := s.now + s.charTime w q 256 + 1000000
def State.countAt (s : State) (w : Twin) (q : Nat) : Nat := s.resetAt w q + 10000 + s.charTime w q (pktChars 8)

/-- What leaves in steps 1 to 3. -/
def State.enumSent (s : State) (w : Twin) (q : Nat) : State :=
  sendPkt w q (s.countAt w q) (enumPkt 1 0 0 0)
    (sendPkt w q (s.resetAt w q + 10000) (enumPkt 0 0 0 0) (sendPkt w q (s.resetAt w q) (enumPkt 0 0 0 0) (s.wakeSent w q)))

/-- The run of an enumeration that waits for COUNT replies. -/
def State.countRun (s : State) (w : Twin) (q : Nat) : EnumRun :=
  { step := 3, at_ := s.countAt w q, counts := [], hub := false, hubSig := 0, todo := [], nodes := [], orphans := 0, ranges := [], fault := false }

/-- STRD_PSTAT of a port in RESET. -/
def State.resetShown (s : State) (w : Twin) (q : Nat) : State :=
  setPrnState w q 1 ((s.enumSent w q).sb (Reg.STRD_PSTAT w q) Fld.STRD_PSTAT_ENUM_FAULT false)

/-- What a port holds when it waits for COUNT replies. -/
def State.countWait (s : State) (w : Twin) (q : Nat) : Strand :=
  { Strand.reset with u := ((s.resetShown w q).strand w q).u, v := ((s.resetShown w q).strand w q).v, w := ((s.resetShown w q).strand w q).w,
                      lockLost := ((s.resetShown w q).strand w q).lockLost, run := some (s.countRun w q) }

theorem startEnum_eq {q : Nat} (prn : s.personality w q = 1) : startEnum w q s = (s.resetShown w q).setStrand w q (s.countWait w q) :=
  if_neg (not_not.2 prn)

theorem startEnum_other {q : Nat} (wire : s.personality w q ≠ 1) : startEnum w q s = s := if_pos wire

theorem wakeSent_eq_withLine (s : State) (w : Twin) (q : Nat) : s.wakeSent w q = s.withLine (s.wakeSent w q) := by
  unfold State.wakeSent
  split
  · exact emitWake_eq_withLine s q
  · rfl

theorem enumSent_eq_withLine (s : State) (w : Twin) (q : Nat) : s.enumSent w q = s.withLine (s.enumSent w q) := by
  unfold State.enumSent
  generalize hx : s.wakeSent w q = x
  have woken : x = s.withLine x := by rw [← hx]; exact wakeSent_eq_withLine s w q
  generalize hy : sendPkt w q (s.resetAt w q) (enumPkt 0 0 0 0) x = y
  have first : y = x.withLine y := by rw [← hy]; exact sendPkt_eq_withLine _ _ _ _ _
  generalize hz : sendPkt w q (s.resetAt w q + 10000) (enumPkt 0 0 0 0) y = z
  have second : z = y.withLine z := by rw [← hz]; exact sendPkt_eq_withLine _ _ _ _ _
  rw [sendPkt_eq_withLine, second, first, woken]
  rfl

theorem QuietStep.wakeSent {q : Nat} (h : QuietStep true o q s0 s) : QuietStep true o q s0 (s.wakeSent o q) := by
  refine h.lines rfl (wakeSent_eq_withLine s o q) ?_ fun c => if_neg fun ⟨active, open_⟩ => ?_
  · unfold State.wakeSent
    split
    · rw [emitWake_out]
      exact List.subset_append_left _ _
    · exact fun _ => id
  · rcases c with other | held
    · exact other active
    · rw [held] at open_
      cases open_

theorem QuietStep.enumSent {q : Nat} (h : QuietStep true o q s0 s) : QuietStep true o q s0 (s.enumSent o q) :=
  ((h.wakeSent.sendPkt _ _).sendPkt _ _).sendPkt _ _

theorem QuietStep.resetShown {q : Nat} (h : QuietStep true o q s0 s) : QuietStep true o q s0 (s.resetShown o q) := by
  unfold State.resetShown setPrnState
  exact h.enumSent.sb.sf

theorem QuietStep.startEnum {q : Nat} (h : QuietStep true o q s0 s) : QuietStep true o q s0 (startEnum o q s) := by
  by_cases prn : s.personality o q = 1
  · rw [startEnum_eq prn]
    exact h.resetShown.setStrand _
  · rwa [startEnum_other prn]

/-- A port in RESET that waits for COUNT replies. -/
structure EnumStarted (w : Twin) (q : Nat) (s u : State) : Prop where
  state : u.prnState w q = 1
  fault : u.rb (Reg.STRD_PSTAT w q) Fld.STRD_PSTAT_ENUM_FAULT = false
  lock : u.rb (Reg.STRD_PSTAT w q) Fld.STRD_PSTAT_UP_LOCK = s.rb (Reg.STRD_PSTAT w q) Fld.STRD_PSTAT_UP_LOCK
  strand : u.strand w q = s.countWait w q
  wake : s.active = some w → s.portShut = false → .wake q s.now (s.dev.rd.getLsbD q) ∈ u.out

theorem startEnum_started {q : Nat} (tidy : s.tidy = true) (prn : s.personality w q = 1) : EnumStarted w q s (startEnum w q s) := by
  have sent : QuietStep true w q s (s.enumSent w q) := (QuietStep.refl tidy).enumSent
  have wf : ((s.enumSent w q).sb (Reg.STRD_PSTAT w q) Fld.STRD_PSTAT_ENUM_FAULT false).regsWf = true := State.regsWf_sf sent.wf _ _ _
  have reg : ∀ a, (startEnum w q s).reg a = (s.resetShown w q).reg a := fun a => by rw [startEnum_eq prn, reg_setStrand]
  refine ⟨?_, ?_, ?_, ?_, fun active open_ => ?_⟩
  · exact (rf_congr _ _ (by decide) (reg _)).trans (State.rf_sf_self wf _ _ _ (by decide) (by decide))
  · rw [rb_congr _ _ (by decide) (reg _), State.resetShown, rb_setPrnState wf _ _ _ _]
    exact rb_sb_self sent.wf _ _ _
  · rw [rb_congr _ _ (by decide) (reg _), State.resetShown, rb_setPrnState wf _ _ _ _]
    refine (rb_sb_other sent.wf _ _ _ _).trans (rb_congr _ _ (by decide) ?_)
    rw [enumSent_eq_withLine]
    rfl
  · rw [startEnum_eq prn]
    exact strand_setStrand (Strand.ne_reset Strand.run (Option.some_ne_none _)) _ _ _
  · have woken : .wake q s.now (s.dev.rd.getLsbD q) ∈ (s.wakeSent w q).out := by
      rw [State.wakeSent, if_pos ⟨active, by rw [open_]; rfl⟩]
      rw [emitWake_out]
      exact List.mem_append_right _ (List.mem_singleton.2 rfl)
    have kept : (startEnum w q s).out = (s.enumSent w q).out := by
      rw [startEnum_eq prn, State.resetShown, setPrnState, State.sb]
      have out : ∀ (x : State) (y : Strand), (x.setStrand w q y).out = x.out := fun x y => by cases w <;> rfl
      rw [out, State.sf_out, State.sf_out]
    rw [kept]
    exact sendPkt_out _ _ _ _ _ (sendPkt_out _ _ _ _ _ (sendPkt_out _ _ _ _ _ woken))

/-! ### The steps of both twins -/

/-- The two twins' steps that raise no event. -/
theorem each_quietFrame {line : Bool} {r : Twin → Bool} {q : Nat} {f : Twin → State → State} (tidy : s.tidy = true)
    (step : ∀ o x, x.tidy = true → QuietStep line o q x (f o x)) :
    QuietFrame line [Reg.STRD_PSTAT .a q, Reg.STRD_PSTAT .b q] s (s.each r f) :=
  each_keeps (P := QuietFrame line [Reg.STRD_PSTAT .a q, Reg.STRD_PSTAT .b q] s) (.refl tidy) fun o x hx =>
    hx.trans ((step o x hx.tidy).mono (by cases o <;> simp))

theorem each_quietStep {line : Bool} {r : Twin → Bool} {q : Nat} {f : Twin → State → State} (rw : r w = true) (tidy : s.tidy = true)
    (step : ∀ o x, x.tidy = true → QuietStep line o q x (f o x)) :
    ∃ x, QuietStep line w.other q s x ∧ QuietStep line w.other q (f w x) (s.each r f) := by
  obtain ⟨x, before, after⟩ := each_around (R := fun s u => s.tidy = true → QuietStep line w.other q s u) rw (fun _ tidy => .refl tidy)
    (fun x tidy => step w.other x tidy) s
  exact ⟨x, before tidy, after (step w x (before tidy).tidy).tidy⟩

theorem personality_of_mem (h : u.mem = s.mem) (w : Twin) (q : Nat) : u.personality w q = s.personality w q := ent_of_mem h _ _ _ _ _ _

/-! ### The requests (R280, R289) -/

theorem exec_strdEnum (t : Nat) (via : Via) (p : Fin 128) (s : State) :
    exec (.strdEnum t via p) s = .next ((s.beginAt t).deliver via (requestEnum p)) := rfl

theorem exec_strdFull (t : Nat) (via : Via) (p : Fin 128) (s : State) :
    exec (.strdFull t via p) s = .next ((s.beginAt t).deliver via (forceFull p)) := rfl

theorem requestEnum_twinOnly (q : Nat) (o : Twin) (s : State) : TwinOnly o s (requestEnum q o s) := by
  unfold requestEnum
  split
  · exact ⟨_, rfl⟩
  · exact .refl o s

/-- STRD_CTL.ENUM in a twin that it reaches. -/
theorem strdEnum_requests (t : Nat) {via : Via} (hw : w ∈ (s.reach via).1) (prn : s.personality w p = 1) :
    ∃ u, exec (.strdEnum t via p) s = .next u ∧ u.strand w p = { s.strand w p with enumReq := true } ∧ u = { s.beginAt t with a := u.a, b := u.b } := by
  obtain ⟨r, rw_, each⟩ := deliver_each (s := s.beginAt t) (via := via) (by rwa [reach_beginAt])
  obtain ⟨x, before, after⟩ := each_around (R := TwinOnly w.other) (f := requestEnum p) rw_ (.refl _) (requestEnum_twinOnly p w.other) (s.beginAt t)
  have held : x.strand w p = s.strand w p := (strand_of_tw before.own p).trans (strand_beginAt s t w p)
  have prn' : x.personality w p = 1 := (personality_of_mem before.shared.2.1 w p).trans prn
  refine ⟨_, (exec_strdEnum t via p s).trans (congrArg _ (each _)), ?_, ?_⟩
  · rw [strand_of_tw after.own, requestEnum, if_pos prn', held]
    exact strand_setStrand (Strand.ne_reset Strand.enumReq (show true ≠ false by decide)) _ _ _
  · refine each_keeps (P := fun x => x = { s.beginAt t with a := x.a, b := x.b }) rfl fun o x hx => ?_
    obtain ⟨f, eq⟩ := requestEnum_twinOnly p o x
    rw [eq, hx]
    cases o <;> rfl

/-- From `s` to `u` at most the next frame of port `q` has been forced full. -/
def FullOnly (q : Nat) (s u : State) : Prop := u = s ∨ u = { s with fullDue := s.fullDue ||| BitVec.ofNat 128 (2 ^ q) }

theorem forceFull_fullOnly (q : Nat) (o : Twin) (s : State) : FullOnly q s (forceFull q o s) := by
  unfold forceFull
  split
  · exact .inr rfl
  · exact .inl rfl

/-- Once forced full, a frame stays so. -/
theorem FullOnly.twice {q : Nat} (h : FullOnly q { s with fullDue := s.fullDue ||| BitVec.ofNat 128 (2 ^ q) } u) :
    u = { s with fullDue := s.fullDue ||| BitVec.ofNat 128 (2 ^ q) } := by
  rcases h with same | again
  · exact same
  · rw [again]
    dsimp only
    rw [BitVec.or_assoc, BitVec.or_self]

/-- STRD_CTL.FULL in a twin that it reaches. -/
theorem strdFull_forces (t : Nat) {via : Via} (hw : w ∈ (s.reach via).1) (prn : s.personality w p = 1) :
    ∃ u, exec (.strdFull t via p) s = .next u ∧ u = { s.beginAt t with fullDue := s.fullDue ||| BitVec.ofNat 128 (2 ^ p.val) } := by
  obtain ⟨r, rw_, each⟩ := deliver_each (s := s.beginAt t) (via := via) (by rwa [reach_beginAt])
  obtain ⟨x, before, after⟩ := each_around (R := FullOnly p) (f := forceFull p) rw_ (fun _ => .inl rfl) (forceFull_fullOnly p w.other) (s.beginAt t)
  have prn' : x.personality w p = 1 := by rcases before with rfl | rfl <;> exact prn
  have own : forceFull p w x = { s.beginAt t with fullDue := s.fullDue ||| BitVec.ofNat 128 (2 ^ p.val) } := by
    have one : FullOnly p.val { s.beginAt t with fullDue := s.fullDue ||| BitVec.ofNat 128 (2 ^ p.val) } (forceFull p w x) ∨
        forceFull p w x = { s.beginAt t with fullDue := s.fullDue ||| BitVec.ofNat 128 (2 ^ p.val) } := by
      rw [forceFull, if_pos prn']
      rcases before with rfl | rfl
      · exact .inr rfl
      · exact .inl (.inr rfl)
    exact one.elim (FullOnly.twice (s := s.beginAt t)) id
  refine ⟨_, (exec_strdFull t via p s).trans (congrArg _ (each _)), ?_⟩
  rw [own] at after
  exact FullOnly.twice (s := s.beginAt t) after

/-! ### PRN_ENUM (R289) -/

/-- The state in which an enumeration that is asked for starts: at the coming tick, or at once while no tick runs. -/
def State.enumDue (s : State) : State := if s.tg.ran then s.beginAt s.nextTickRaw else s.begin

/-- PRN_ENUM in one twin. -/
def enumStep (q : Nat) (w : Twin) (x : State) : State := if (x.strand w q).enumReq then startEnum w q x else x

theorem exec_prnEnum (asked : (s.strand w p).enumReq = true) : exec (.prnEnum p) s = .next (s.enumDue.eachUp (enumStep p)) := by
  have due : twins.any (fun w => (s.strand w p.val).enumReq) = true := List.any_eq_true.2 ⟨w, by cases w <;> decide, asked⟩
  change execPrnEnum p s = _
  rw [execPrnEnum, due]
  rfl

/-- What is taken from the state on which the command is judged. -/
structure EnumDue (s u : State) : Prop where
  only : u = { s with out := [], now := if s.tg.ran then max s.now s.nextTickRaw else s.now, clock := u.clock }
  regs : ∀ a, u.reg a = s.reg a
  strand : ∀ w q, u.strand w q = s.strand w q

theorem enumDue_enumDue (s : State) : EnumDue s s.enumDue := by
  unfold State.enumDue
  by_cases ran : s.tg.ran = true
  · rw [if_pos ran]
    exact ⟨by rw [if_pos ran]; rfl, fun _ => rfl, fun w q => strand_beginAt s _ w q⟩
  · rw [if_neg ran]
    exact ⟨by rw [if_neg ran]; rfl, fun _ => rfl, fun w q => strand_begin s w q⟩

theorem QuietStep.enumStep {q : Nat} (h : QuietStep true o q s0 s) : QuietStep true o q s0 (enumStep q o s) := by
  unfold Machine.enumStep
  split
  · exact h.startEnum
  · exact h

/-- While the Peristome releases nothing, the two twins' steps give the lines nothing. -/
theorem each_enumStep_shut (tidy : s.tidy = true) (shut : s.portShut = true) (r : Twin → Bool) (q : Nat) : (s.each r (enumStep q)).out = s.out := by
  have kept : (s.each r (enumStep q)).tidy = true ∧ (s.each r (enumStep q)).portShut = true ∧ (s.each r (enumStep q)).out = s.out :=
    each_keeps (P := fun x => x.tidy = true ∧ x.portShut = true ∧ x.out = s.out) ⟨tidy, shut, rfl⟩ fun o x hx => by
      obtain ⟨tidy, shut, out⟩ := hx
      have own := (QuietStep.refl (line := true) (o := o) (q := q) tidy).enumStep
      exact ⟨own.tidy, (own.portShut (pstat_ne_outCtl o q)).trans shut, (own.shut (.inr shut)).1.trans out⟩
  exact kept.2.2

/-! ### What a quiet step of the other twin leaves a port -/

theorem QuietStep.own {line : Bool} {q : Nat} (h : QuietStep line w.other q s u) : u.tw w = s.tw w := by
  have other := h.other
  cases w <;> exact other

theorem QuietStep.pstat {line : Bool} (h : QuietStep line w.other p s u) : u.reg (Reg.STRD_PSTAT w p) = s.reg (Reg.STRD_PSTAT w p) := by
  refine h.only.regs _ fun mem => ?_
  have apart := strandRegs_other (strandRegs_pstat w p)
  rw [List.mem_singleton.1 mem, strandRegs_pstat] at apart
  cases apart

theorem QuietStep.prnState {line : Bool} (h : QuietStep line w.other p s u) : u.prnState w p = s.prnState w p := rf_congr _ _ (by decide) h.pstat

theorem EnumDue.tidy (h : EnumDue s u) : u.tidy = s.tidy := by rw [h.only]; rfl

theorem EnumDue.portShut (h : EnumDue s u) : u.portShut = s.portShut := by rw [h.only]; rfl

theorem EnumDue.frame {l : List Nat} {y : State} (h : EnumDue s y) (g : QuietFrame true l y u) :
    onlyRegs l ({ s with now := u.now, a := u.a, b := u.b }.withLine u) u := by
  obtain ⟨rest, keep⟩ := g.only
  refine ⟨rest.trans ?_, fun a ha => (keep a ha).trans (h.regs a)⟩
  rw [g.now, h.only]
  rfl

/-- The enumeration that a twin has been asked for starts. -/
theorem prnEnum_starts (tidy : s.tidy = true) (prn : s.personality w p = 1) (asked : (s.strand w p).enumReq = true) (on : s.roleOf w ≠ .off) :
    ∃ u, ∃ x : State, exec (.prnEnum p) s = .next u ∧ u.prnState w p = 1 ∧ u.rb (Reg.STRD_PSTAT w p) Fld.STRD_PSTAT_ENUM_FAULT = false ∧
      u.strand w p = x.countWait w p ∧ u.now = (if s.tg.ran then max s.now s.nextTickRaw else s.now) ∧
      (s.active = some w → s.portShut = false → .wake p u.now (s.dev.rd.getLsbD p) ∈ u.out) ∧ (s.portShut = true → u.out = []) ∧
      onlyRegs [Reg.STRD_PSTAT .a p, Reg.STRD_PSTAT .b p] ({ s with now := u.now, a := u.a, b := u.b }.withLine u) u := by
  have due := enumDue_enumDue s
  have tidy' : s.enumDue.tidy = true := due.tidy.trans tidy
  have step : ∀ o x, x.tidy = true → QuietStep true o p x (enumStep p o x) := fun o x tidy => (QuietStep.refl tidy).enumStep
  have on' : s.enumDue.roleOf w ≠ .off := by rwa [roleOf_congr (show s.enumDue.role = s.role by rw [due.only])]
  obtain ⟨x, before, after⟩ := each_quietStep (r := fun w => decide (s.enumDue.roleOf w ≠ .off)) (decide_eq_true on') tidy' step
  have held : x.strand w p = s.strand w p := (strand_of_tw before.own p).trans (due.strand w p)
  have prn' : x.personality w p = 1 := by
    rw [personality_of_mem before.mem, personality_of_mem (show s.enumDue.mem = s.mem by rw [due.only]), prn]
  have own : enumStep p w x = startEnum w p x := if_pos (by rw [held]; exact asked)
  have now : x.now = if s.tg.ran then max s.now s.nextTickRaw else s.now := before.now.trans (by rw [due.only])
  have frame := each_quietFrame (r := fun w => decide (s.enumDue.roleOf w ≠ .off)) tidy' step
  have started := startEnum_started (w := w) before.tidy prn'
  have run := exec_prnEnum asked
  rw [State.eachUp] at run
  rw [own] at after
  have later : (s.enumDue.each (fun w => decide (s.enumDue.roleOf w ≠ .off)) (enumStep p)).now = x.now := by
    rw [after.now, ((QuietStep.refl before.tidy).startEnum (o := w) (q := p)).now]
  refine ⟨_, x, run, after.prnState.trans started.state, (rb_congr _ _ (by decide) after.pstat).trans started.fault,
    (strand_of_tw after.own p).trans started.strand, later.trans now, fun active open_ => ?_, fun shut => ?_, due.frame frame⟩
  · have active' : s.enumDue.active = some w := (active_congr (by rw [due.only])).trans active
    have apart : s.enumDue.active ≠ some w.other := fun c => other_ne w (Option.some.inj (c.symm.trans active'))
    have woken := started.wake ((active_congr before.role).trans active')
      ((before.portShut (pstat_ne_outCtl _ _)).trans (due.portShut.trans open_))
    rw [(before.shut (.inl apart)).2, show s.enumDue.dev = s.dev by rw [due.only], ← later] at woken
    exact after.out woken
  · refine (each_enumStep_shut tidy' (due.portShut.trans shut) _ p).trans ?_
    rw [due.only]

/-- Settles O27: the request in the twins that it reaches, and the start in each twin that was asked, with the other twin's step beside it. -/
theorem enumerationIsRequestedAndStarts : Obligations.EnumerationIsRequestedAndStarts := by
  unfold Obligations.EnumerationIsRequestedAndStarts
  intro s t w p tidy prn
  refine ⟨fun via hw => ⟨strdEnum_requests t hw prn, strdFull_forces t hw prn⟩, fun asked on => ?_⟩
  obtain ⟨u, x, run, state, fault, strand, rest⟩ := prnEnum_starts tidy prn asked on
  exact ⟨u, run, state, fault, by rw [strand]; rfl, by rw [strand]; rfl, by rw [strand]; rfl, rest⟩

end Sys2Proof.Machine
end

section
/-!
Enumeration of a Proren port: its replies, its waits and its end (R289, R290).
-/
namespace Sys2Proof.Machine

set_option Elab.async false

variable {s0 s u : State} {w o : Twin} {p : Fin 128} {k : Slack} {r : EnumRun}

/-! ### The run of a port -/

theorem strand_setRun (s : State) (w : Twin) (q : Nat) (r : EnumRun) : (setRun w q r s).strand w q = { s.strand w q with run := some r } :=
  strand_setStrand (Strand.ne_reset Strand.run (Option.some_ne_none r)) _ _ _

theorem reg_setRun (s : State) (w : Twin) (q : Nat) (r : EnumRun) (a : Nat) : (setRun w q r s).reg a = s.reg a := reg_setStrand _ _ _ _ _

theorem reg_sendPkt (w : Twin) (q at_ : Nat) (b : List Byte) (s : State) (a : Nat) : (sendPkt w q at_ b s).reg a = s.reg a := by
  rw [sendPkt_eq_withLine, withLine_reg]

theorem reg_sendPkts (w : Twin) (q at_ : Nat) (l : List (List Byte)) (s : State) (a : Nat) : (sendPkts w q at_ l s).2.reg a = s.reg a := by
  rw [sendPkts_eq_withLine, withLine_reg]

/-! ### A fault (R290) -/

/-- The run of a port is in fault, and STRD_PSTAT shows it from the first fault on. -/
structure EnumFaulted (w : Twin) (q : Nat) (r : EnumRun) (s u : State) : Prop where
  run : (u.strand w q).run = some { r with fault := true }
  state : u.prnState w q = s.prnState w q
  shown : r.fault = false → u.rb (Reg.STRD_PSTAT w q) Fld.STRD_PSTAT_ENUM_FAULT = true

theorem enumFault_again (run : (s.strand w p).run = some r) (faulty : r.fault = true) : enumFault w p s = s := by
  unfold enumFault
  extract_lets x
  rw [show x.run = some r from run]
  exact if_pos faulty

theorem enumFault_first (run : (s.strand w p).run = some r) (sound : r.fault = false) :
    enumFault w p s = ((setRun w p { r with fault := true } s).sb (Reg.STRD_PSTAT w p) Fld.STRD_PSTAT_ENUM_FAULT true).raiseIf w (Reg.STRD_EVT_CTL w p)
      Fld.STRD_EVT_CTL_FAULT_EN 60 p := by
  unfold enumFault
  extract_lets x
  rw [show x.run = some r from run]
  exact if_neg (by rw [sound]; decide)

theorem enumFault_faulted (wf : s.regsWf = true) (run : (s.strand w p).run = some r) : EnumFaulted w p r s (enumFault w p s) := by
  cases faulty : r.fault with
  | true =>
    rw [enumFault_again run faulty]
    exact ⟨run.trans (by rw [← faulty]), rfl, fun c => absurd (faulty.symm.trans c) (by decide)⟩
  | false =>
    have wf1 : (setRun w p { r with fault := true } s).regsWf = true := wf_setStrand wf _ _ _
    have wf2 := State.regsWf_sf wf1 (Reg.STRD_PSTAT w p) Fld.STRD_PSTAT_ENUM_FAULT 1
    have events : Evt ((setRun w p { r with fault := true } s).sb (Reg.STRD_PSTAT w p) Fld.STRD_PSTAT_ENUM_FAULT true) (enumFault w p s) := by
      rw [enumFault_first run faulty]
      exact (Evt.refl _).raiseIf _ _ _ _ _ (by decide)
    have pstat := events.strandReg wf2 (strandRegs_pstat w p)
    refine ⟨?_, ?_, fun _ => (rb_congr _ _ (by decide) pstat).trans (rb_sb_self wf1 _ _ _)⟩
    · rw [events.strand, State.sb, strand_sf, strand_setRun]
    · refine (rf_congr _ _ (by decide) pstat).trans ((prnState_sb wf1 _ _ _ _).trans ?_)
      exact rf_congr _ _ (by decide) (reg_setRun _ _ _ _ _)

theorem StrandStep.enumFault (h : StrandStep k o p s0 s) : StrandStep k o p s0 (enumFault o p s) := by
  cases run : (s.strand o p).run with
  | none =>
    have same : Machine.enumFault o p s = s := by
      unfold Machine.enumFault
      extract_lets x
      rw [show x.run = none from run]
    rwa [same]
  | some r =>
    cases faulty : r.fault with
    | true => rwa [enumFault_again run faulty]
    | false =>
      rw [enumFault_first run faulty]
      exact ((h.setRun _).sb (strandRegs_pstat o p)).raiseIf

/-! ### The next address, or the CFG packets (R289) -/

/-- The port asks the next address for its ECHO; with none left it sends the CFG packets. -/
structure EchoAsked (w : Twin) (q : Nat) (r : EnumRun) (s u : State) : Prop where
  run : ∃ at_, (u.strand w q).run = some { r with step := if r.todo = [] then 7 else 6, at_ := at_ }
  state : u.prnState w q = if r.todo = [] then 3 else s.prnState w q
  fault : u.rb (Reg.STRD_PSTAT w q) Fld.STRD_PSTAT_ENUM_FAULT = s.rb (Reg.STRD_PSTAT w q) Fld.STRD_PSTAT_ENUM_FAULT

/-- An address is left to ask. -/
theorem nextEcho_more {q at_ a x : Nat} {rest : List (Nat × Nat)} (more : r.todo = (a, x) :: rest) (s : State) :
    nextEcho w q at_ r s = setRun w q { r with step := 6, at_ := at_ } (sendPkt w q at_ (enumPkt 3 a 0 0) s) := by
  rw [nextEcho, more]

/-- None is left. -/
theorem nextEcho_last {q at_ : Nat} (last : r.todo = []) (s : State) : ∃ e l,
    nextEcho w q at_ r s = setPrnState w q 3 ((setRun w q { r with step := 7, at_ := e } (sendPkts w q at_ l s).2).bump (Reg.STRD_CFG_CNT w q)
      Fld.STRD_CFG_CNT_CFG_PKTS l.length) := by
  rw [nextEcho, last]
  exact ⟨_, _, rfl⟩

theorem nextEcho_asked (wf : s.regsWf = true) (w : Twin) (p : Fin 128) (at_ : Nat) (r : EnumRun) : EchoAsked w p r s (nextEcho w p at_ r s) := by
  cases todo : r.todo with
  | cons e rest =>
    obtain ⟨a, x⟩ := e
    have reg : ∀ b, (nextEcho w p at_ r s).reg b = s.reg b := fun b => by rw [nextEcho_more todo, reg_setRun, reg_sendPkt]
    refine ⟨⟨at_, ?_⟩, ?_, rb_congr _ _ (by decide) (reg _)⟩
    · rw [nextEcho_more todo, strand_setRun, todo, if_neg (List.cons_ne_nil _ _)]
    · rw [todo, if_neg (List.cons_ne_nil _ _)]
      exact rf_congr _ _ (by decide) (reg _)
  | nil =>
    obtain ⟨e, l, eq⟩ := nextEcho_last (w := w) (q := p) (at_ := at_) todo s
    generalize hx : setRun w p { r with step := 7, at_ := e } (sendPkts w p at_ l s).2 = x at eq
    have regx : ∀ b, x.reg b = s.reg b := fun b => by rw [← hx, reg_setRun, reg_sendPkts]
    have wfx : x.regsWf = true := by
      rw [← hx, setRun]
      refine wf_setStrand ?_ _ _ _
      rw [sendPkts_eq_withLine]
      exact wf
    have wfy : (x.bump (Reg.STRD_CFG_CNT w p) Fld.STRD_CFG_CNT_CFG_PKTS l.length).regsWf = true := State.regsWf_sf wfx _ _ _
    have pstat : (x.bump (Reg.STRD_CFG_CNT w p) Fld.STRD_CFG_CNT_CFG_PKTS l.length).reg (Reg.STRD_PSTAT w p) = s.reg (Reg.STRD_PSTAT w p) :=
      (State.reg_sf_ne wfx _ _ (by decide) (by simp [Reg.STRD_PSTAT, Reg.STRD_CFG_CNT])).trans (regx _)
    rw [eq, setPrnState]
    refine ⟨⟨e, ?_⟩, ?_, ?_⟩
    · rw [strand_sf, State.bump, strand_sf, ← hx, strand_setRun, todo, if_pos rfl]
    · rw [todo, if_pos rfl]
      exact State.rf_sf_self wfy _ _ _ (by decide) (by decide)
    · exact (rb_setPrnState wfy _ _ _ _).trans (rb_congr _ _ (by decide) pstat)

theorem StrandStep.nextEcho {at_ : Nat} (h : StrandStep k o p s0 s) (free : k.line = true) : StrandStep k o p s0 (nextEcho o p at_ r s) := by
  cases todo : r.todo with
  | cons e rest =>
    rw [nextEcho_more todo]
    exact (h.sendPkt free _ _).setRun _
  | nil =>
    obtain ⟨e, l, eq⟩ := nextEcho_last (w := o) (q := p) (at_ := at_) todo s
    rw [eq]
    exact (((h.sendPkts free at_ l).setRun _).bump (strandRegs_at o p)).setPrnState 3

/-! ### Replies (R289, R290) -/

section
variable {b : List Byte} (run : (s.strand w p).run = some r) (len : b.length = 16) (form : byteAt b 0 = 0x81)
include run len form

/-- A COUNT reply in its wait is kept for its branch. -/
theorem enumReply_count (step : r.step = 3) (op : byteAt b 1 = 1) (from_ : r.at_ ≤ s.now) (to_ : s.now ≤ r.at_ + 5000000) :
    ∃ sig, enumReply w p b s = setRun w p { r with counts := r.counts.filter (fun c => c.1 ≠ (if s.prnHub w p then byteAt b 6 else 0)) ++
      [(if s.prnHub w p then byteAt b 6 else 0, beAt b 4 2)], hubSig := sig } s := by
  unfold enumReply
  rw [run]
  dsimp only
  rw [if_neg (by rw [len, form]; decide), if_pos ⟨op, step, from_, to_⟩]
  exact ⟨_, rfl⟩

/-- A reply outside every wait. -/
theorem enumReply_late (out : s.now < r.at_ ∨ r.at_ + 5000000 < s.now) : enumReply w p b s = s := by
  unfold enumReply
  rw [run]
  dsimp only
  rw [if_neg (by rw [len, form]; decide), if_neg (by omega), if_neg (by omega)]

/-- The ECHO that the port has asked for adds its node, and the next address is asked. -/
theorem enumReply_echo (tidy : s.tidy = true) {a start : Nat} {rest : List (Nat × Nat)} (step : r.step = 6) (op : byteAt b 1 = 3)
    (todo : r.todo = (a, start) :: rest) (node : beAt b 2 2 = a) (from_ : r.at_ ≤ s.now) (to_ : s.now ≤ r.at_ + 50000) :
    ∃ y at_ r2 n, enumReply w p b s = nextEcho w p at_ r2 y ∧ StrandStep ⟨false, true, false⟩ w p s y ∧ y.prnState w p = s.prnState w p ∧
      r2.todo = rest ∧ r2.nodes = r.nodes ++ [n] ∧ n.addr = a := by
  unfold enumReply
  split
  next none => exact absurd (run.symm.trans none) (Option.some_ne_none _)
  next r' held =>
  obtain rfl := Option.some.inj (run.symm.trans held)
  rw [if_neg (by rw [len, form]; decide), if_neg (by omega), if_pos ⟨op, step, from_, to_⟩]
  split
  next none => exact absurd (todo.symm.trans none) (List.cons_ne_nil _ _)
  next a' start' rest' held =>
  obtain ⟨first, rfl⟩ := List.cons.inj (todo.symm.trans held)
  obtain ⟨rfl, rfl⟩ := Prod.mk.inj first
  rw [if_neg (not_not.2 node)]
  extract_lets rt sig d nd s1 s2
  have taken : StrandStep ⟨false, true, false⟩ w p s s1 := (StrandStep.refl tidy).setRun _
  have run1 : (s1.strand w p).run = some { r with todo := rest, nodes := r.nodes ++ [nd] } := by rw [strand_setRun]
  have state1 : s1.prnState w p = s.prnState w p := rf_congr _ _ (by decide) (reg_setRun _ _ _ _ _)
  have faulted := enumFault_faulted taken.wf run1
  by_cases far : 18500 < d
  · have eq : s2 = enumFault w p s1 := if_pos far
    rw [eq, faulted.run]
    exact ⟨_, _, _, nd, rfl, taken.enumFault, faulted.state.trans state1, rfl, rfl, rfl⟩
  · have eq : s2 = s1 := if_neg far
    rw [eq, run1]
    exact ⟨_, _, _, nd, rfl, taken, state1, rfl, rfl, rfl⟩

end

theorem StrandStep.enumReply {b : List Byte} (h : StrandStep ⟨false, true, false⟩ o p s0 s) : StrandStep ⟨false, true, false⟩ o p s0 (enumReply o p b s) := by
  unfold Machine.enumReply
  split
  · exact h
  split
  · exact h.upDiscard
  split
  · exact h.setRun _
  split
  · split
    · exact h
    · split
      · exact h
      · extract_lets rt sig d nd s1 s2
        have h1 : StrandStep ⟨false, true, false⟩ o p s0 s1 := h.setRun _
        have h2 : StrandStep ⟨false, true, false⟩ o p s0 s2 := h1.enumFault.ite h1
        split
        · exact h2.nextEcho rfl
        · exact h2
  · exact h

/-! ### The end of the wait for COUNT replies (R289, R290) -/

/-- The replies that count: of a hub those of every branch in order, else the first. -/
def State.countList (s : State) (w : Twin) (q : Nat) (r : EnumRun) : List (Nat × Nat) :=
  if s.prnHub w q then sortBy (fun a b => decide (a.1 < b.1)) r.counts else r.counts.take 1

/-- The nodes that replies tell of. -/
def countTotal (cs : List (Nat × Nat)) : Nat := (cs.map (fun c => if c.2 = 0xFFFF then 0 else c.2 + 1)).sum

/-- The addresses that are then asked for an ECHO, each with the base of its branch. -/
def countTodo (cs : List (Nat × Nat)) : List (Nat × Nat) :=
  (assign 0 cs).flatMap (fun a => (List.range (a.2.2 - a.2.1)).map (fun i => (a.2.1 + i, a.2.1)))

/-- The replies tell of too many nodes, or of another number than the image. -/
def State.countBad (s : State) (w : Twin) (q : Nat) (cs : List (Nat × Nat)) : Bool :=
  cs.any (fun c => decide (c.2 ≠ 0xFFFF ∧ 1024 < c.2 + 1)) || decide (4096 < countTotal cs) ||
    (decide (s.prnNodes w q ≠ 0) && decide (s.prnNodes w q ≠ countTotal cs))

/-- The end of the wait assigns the addresses, and the first is asked. -/
theorem countEnd_assigns (tidy : s.tidy = true) (run : (s.strand w p).run = some r) (step : r.step = 3) :
    ∃ y at_ r2, countEnd w p s = nextEcho w p at_ r2 y ∧ StrandStep ⟨true, true, false⟩ w p (s.at (r.at_ + 5000000)) y ∧ y.prnState w p = 2 ∧
      r2.todo = countTodo (s.countList w p r) ∧ r2.fault = (r.fault || s.countBad w p (s.countList w p r)) := by
  unfold countEnd
  split
  next none => exact absurd (run.symm.trans none) (Option.some_ne_none _)
  next r' held =>
  obtain rfl := Option.some.inj (run.symm.trans held)
  rw [if_neg (not_not.2 step)]
  extract_lets s0 hub cs total as_ given todo bad bases pk r1
  have list : cs = s.countList w p r := rfl
  have badEq : bad = s.countBad w p cs := rfl
  clear_value bad
  have begun : StrandStep ⟨true, true, false⟩ w p s0 s0 := .refl tidy
  have sent := begun.sendPkts rfl s0.now pk
  split
  next e s1 eq =>
  rw [eq] at sent
  extract_lets s2 s3
  have assigned : StrandStep ⟨true, true, false⟩ w p s0 s2 := (sent.setRun r1).setPrnState 2
  have run2 : (s2.strand w p).run = some r1 := by
    change ((setPrnState w p 2 (setRun w p r1 s1)).strand w p).run = _
    rw [setPrnState, strand_sf, strand_setRun]
  have state2 : s2.prnState w p = 2 :=
    State.rf_sf_self (wf_setStrand sent.wf _ _ _ : (setRun w p r1 s1).regsWf = true) _ _ _ (by decide) (by decide)
  have todo1 : r1.todo = countTodo (s.countList w p r) := by rw [← list]; rfl
  have faulted := enumFault_faulted assigned.wf run2
  cases hb : bad with
  | true =>
    have eq : s3 = enumFault w p s2 := if_pos hb
    rw [eq, faulted.run]
    refine ⟨_, _, _, rfl, assigned.enumFault, faulted.state.trans state2, todo1, ?_⟩
    rw [← list, ← badEq, hb, Bool.or_true]
  | false =>
    have eq : s3 = s2 := if_neg (by rw [hb]; decide)
    rw [eq, run2]
    refine ⟨_, _, _, rfl, assigned, state2, todo1, ?_⟩
    rw [← list, ← badEq, hb, Bool.or_false]

theorem StrandStep.countEnd (h : StrandStep ⟨true, true, false⟩ o p s0 s) : StrandStep ⟨true, true, false⟩ o p s0 (countEnd o p s) := by
  cases run : (s.strand o p).run with
  | none =>
    have same : Machine.countEnd o p s = s := by rw [Machine.countEnd, run]
    rwa [same]
  | some r =>
    by_cases step : r.step = 3
    · obtain ⟨y, at_, r2, eq, own, -⟩ := countEnd_assigns h.tidy run step
      rw [eq]
      exact ((h.at rfl _).trans own).nextEcho rfl
    · have same : Machine.countEnd o p s = s := by
        rw [Machine.countEnd, run]
        exact if_pos step
      rwa [same]

theorem countTodo_single {c hop : Nat} (fits : hop + 1 ≤ 1024) : countTodo [(c, hop)] = (List.range (hop + 1)).map (fun i => (i, 0)) := by
  have known : hop ≠ 0xFFFF := by omega
  simp [countTodo, assign, known, Nat.min_eq_left fits, Nat.min_eq_left (fits.trans (by decide : 1024 ≤ 4096))]

theorem countTotal_single {c hop : Nat} (fits : hop + 1 ≤ 1024) : countTotal [(c, hop)] = hop + 1 := by
  have known : hop ≠ 0xFFFF := by omega
  simp [countTotal, known]

theorem countBad_single {c hop : Nat} (fits : hop + 1 ≤ 1024) (s : State) (w : Twin) (q : Nat) :
    s.countBad w q [(c, hop)] = decide (s.prnNodes w q ≠ 0 ∧ s.prnNodes w q ≠ hop + 1) := by
  have small : ¬ 1024 ≤ hop := by omega
  have total : ¬ 4096 < hop + 1 := by omega
  rw [State.countBad, countTotal_single fits]
  simp [small, total]

/-! ### An ECHO that stays away (R290) -/

theorem echoTimeout_faults (tidy : s.tidy = true) (run : (s.strand w p).run = some r) (step : r.step = 6) :
    ∃ y at_, echoTimeout w p s = nextEcho w p at_ { r with todo := r.todo.drop 1, fault := true } y ∧
      StrandStep ⟨true, true, false⟩ w p (s.at (r.at_ + 50000)) y ∧
      (r.fault = false → y.rb (Reg.STRD_PSTAT w p) Fld.STRD_PSTAT_ENUM_FAULT = true) := by
  have begun : StrandStep ⟨true, true, false⟩ w p (s.at (r.at_ + 50000)) (s.at (r.at_ + 50000)) := .refl tidy
  unfold echoTimeout
  rw [run]
  dsimp only
  rw [if_neg (not_not.2 step)]
  have passed := begun.setRun { r with todo := r.todo.drop 1, orphans := r.orphans }
  have faulted := enumFault_faulted passed.wf (r := { r with todo := r.todo.drop 1, orphans := r.orphans }) (by rw [strand_setRun])
  rw [faulted.run]
  exact ⟨_, _, rfl, passed.enumFault, faulted.shown⟩

theorem StrandStep.echoTimeout (h : StrandStep ⟨true, true, false⟩ o p s0 s) : StrandStep ⟨true, true, false⟩ o p s0 (echoTimeout o p s) := by
  cases run : (s.strand o p).run with
  | none =>
    have same : Machine.echoTimeout o p s = s := by rw [Machine.echoTimeout, run]
    rwa [same]
  | some r =>
    by_cases step : r.step = 6
    · obtain ⟨y, at_, eq, own, -⟩ := echoTimeout_faults h.tidy run step
      rw [eq]
      exact ((h.at rfl _).trans own).nextEcho rfl
    · have same : Machine.echoTimeout o p s = s := by
        rw [Machine.echoTimeout, run]
        exact if_pos step
      rwa [same]

/-! ### The end of an enumeration (R289) -/

/-- The registers of a port whose enumeration has ended. -/
def State.enumShown (s : State) (w : Twin) (q : Nat) (r : EnumRun) : State :=
  let s2 := (setPrnState w q 4 s).sb (Reg.STRD_PSTAT w q) Fld.STRD_PSTAT_HUB r.hub
  let c := s2.sf (Reg.STRD_NODES w q) Fld.STRD_NODES_COUNT r.nodes.length
  let s3 := c.sf (Reg.STRD_NODES w q) Fld.STRD_NODES_ORPHAN (min 8191 (s2.orphanCount w q))
  (s3.wr64 (Reg.STRD_ENUM_TS w q) s3.stamp).sf (Reg.STRD_POLL w q) Fld.STRD_POLL_FIRST 0

/-- What a port holds once its enumeration has ended. -/
def Strand.enumerated (x : Strand) (r : EnumRun) : Strand :=
  { x with run := none, nodes := r.nodes, orphans := r.orphans, ranges := r.ranges, rot := 0 }

/-- The port's next frame is forced full. -/
def State.forceFull (s : State) (q : Nat) : State := { s with fullDue := s.fullDue ||| BitVec.ofNat 128 (2 ^ q) }

/-- A port whose enumeration has ended, before E59. -/
def State.enumEnded (s : State) (w : Twin) (q : Nat) (r : EnumRun) : State :=
  ((s.setStrand w q ((s.strand w q).enumerated r)).enumShown w q r).forceFull q

theorem forceFull_tw (s : State) (q : Nat) (w : Twin) : (s.forceFull q).tw w = s.tw w := by
  cases w <;> rfl

theorem forceFull_reg (s : State) (q a : Nat) : (s.forceFull q).reg a = s.reg a := rfl

theorem enumDone_early (run : (s.strand w p).run = some r) (early : s.now < r.at_) : enumDone w p s = s := by
  rw [enumDone, run]
  exact if_pos (.inr early)

theorem enumDone_due (run : (s.strand w p).run = some r) (step : r.step = 7) (left : r.at_ ≤ s.now) :
    enumDone w p s = if r.fault then s.enumEnded w p r else (s.enumEnded w p r).raiseIf w (Reg.STRD_EVT_CTL w p) Fld.STRD_EVT_CTL_DONE_EN 59 p := by
  rw [enumDone, run]
  exact if_neg (by omega)

theorem StrandStep.enumShown (h : StrandStep k o p s0 s) (r : EnumRun) : StrandStep k o p s0 (s.enumShown o p r) := by
  unfold State.enumShown
  extract_lets s2 c s3
  have h2 : StrandStep k o p s0 s2 := (h.setPrnState 4).sb (strandRegs_pstat o p)
  have h3 : StrandStep k o p s0 s3 := (h2.sf (strandRegs_at o p)).sf (strandRegs_at o p)
  have high : strandRegs o p (Reg.STRD_ENUM_TS o p + 4) = true := decide_eq_true (by unfold Reg.STRD_ENUM_TS; omega)
  exact ((h3.setReg _ (strandRegs_at o p)).setReg _ high).sf (strandRegs_poll o p)

theorem StrandStep.enumEnded (h : StrandStep ⟨false, false, true⟩ o p s0 s) (r : EnumRun) : StrandStep ⟨false, false, true⟩ o p s0 (s.enumEnded o p r) :=
  ((h.setStrand _).enumShown r).orFull rfl _

theorem StrandStep.enumDone (h : StrandStep ⟨false, false, true⟩ o p s0 s) : StrandStep ⟨false, false, true⟩ o p s0 (enumDone o p s) := by
  cases run : (s.strand o p).run with
  | none =>
    have same : Machine.enumDone o p s = s := by rw [Machine.enumDone, run]
    rwa [same]
  | some r =>
    by_cases wait : r.step ≠ 7 ∨ s.now < r.at_
    · have same : Machine.enumDone o p s = s := by
        rw [Machine.enumDone, run]
        exact if_pos wait
      rwa [same]
    · rw [enumDone_due run (by omega) (by omega)]
      exact (h.enumEnded r).ite (h.enumEnded r).raiseIf

/-- What STRD_PSTAT and STRD_NODES show after the end, and what stays. -/
theorem enumShown_shows (wf : s.regsWf = true) (w : Twin) (p : Fin 128) (r : EnumRun) :
    (s.enumShown w p r).prnState w p = 4 ∧ (s.enumShown w p r).rf (Reg.STRD_NODES w p) Fld.STRD_NODES_COUNT = r.nodes.length % 8192 ∧
    (s.enumShown w p r).reg (Reg.STRD_EVT_CTL w p) = s.reg (Reg.STRD_EVT_CTL w p) ∧ (s.enumShown w p r).tw w = s.tw w := by
  have wf1 : (setPrnState w p 4 s).regsWf = true := State.regsWf_sf wf _ _ _
  unfold State.enumShown
  extract_lets s2 c s3
  have wf2 : s2.regsWf = true := State.regsWf_sf wf1 _ _ _
  have wfc : c.regsWf = true := State.regsWf_sf wf2 _ _ _
  have wf3 : s3.regsWf = true := State.regsWf_sf wfc _ _ _
  have wf4 : (s3.wr64 (Reg.STRD_ENUM_TS w p) s3.stamp).regsWf = true := State.regsWf_setReg (State.regsWf_setReg wf3 _ _) _ _
  have late : ∀ a, a ≠ Reg.STRD_POLL w p → a ≠ Reg.STRD_ENUM_TS w p → a ≠ Reg.STRD_ENUM_TS w p + 4 →
      ((s3.wr64 (Reg.STRD_ENUM_TS w p) s3.stamp).sf (Reg.STRD_POLL w p) Fld.STRD_POLL_FIRST 0).reg a = s3.reg a := fun a poll low high =>
    (State.reg_sf_ne wf4 _ _ (by decide) poll).trans ((onlyRegs_wr64 wf3 _ _).regs a (by simp [low, high]))
  have mid : ∀ a, a ≠ Reg.STRD_NODES w p → s3.reg a = s2.reg a := fun a nodes =>
    (State.reg_sf_ne wfc _ _ (by decide) nodes).trans (State.reg_sf_ne wf2 _ _ (by decide) nodes)
  have pstat := (late (Reg.STRD_PSTAT w p) (by simp [Reg.STRD_PSTAT, Reg.STRD_POLL]) (by simp [Reg.STRD_PSTAT, Reg.STRD_ENUM_TS])
    (by unfold Reg.STRD_PSTAT Reg.STRD_ENUM_TS; omega)).trans (mid _ (by simp [Reg.STRD_PSTAT, Reg.STRD_NODES]))
  have nodes := late (Reg.STRD_NODES w p) (by simp [Reg.STRD_NODES, Reg.STRD_POLL]) (by simp [Reg.STRD_NODES, Reg.STRD_ENUM_TS])
    (by unfold Reg.STRD_NODES Reg.STRD_ENUM_TS; omega)
  have ctl := (late (Reg.STRD_EVT_CTL w p) (by simp [Reg.STRD_EVT_CTL, Reg.STRD_POLL]) (by simp [Reg.STRD_EVT_CTL, Reg.STRD_ENUM_TS])
    (by unfold Reg.STRD_EVT_CTL Reg.STRD_ENUM_TS; omega)).trans (mid _ (by simp [Reg.STRD_EVT_CTL, Reg.STRD_NODES]))
  refine ⟨?_, ?_, ?_, ?_⟩
  · refine (rf_congr _ _ (by decide) pstat).trans ?_
    refine (prnState_sb wf1 _ _ _ _).trans ?_
    exact State.rf_sf_self wf _ _ _ (by decide) (by decide)
  · refine (rf_congr _ _ (by decide) nodes).trans ?_
    refine (State.rf_sf_other wfc _ _ _ _ (by decide) (by decide) (by decide) (by decide) (by decide)).trans ?_
    exact State.rf_sf_self wf2 _ _ _ (by decide) (by decide)
  · refine ctl.trans ((State.reg_sf_ne wf1 _ _ (by decide) (by simp [Reg.STRD_EVT_CTL, Reg.STRD_PSTAT])).trans ?_)
    exact State.reg_sf_ne wf _ _ (by decide) (by simp [Reg.STRD_EVT_CTL, Reg.STRD_PSTAT])
  · have tw3 : s3.tw w = s.tw w := (sf_tw ..).trans ((sf_tw ..).trans ((sf_tw ..).trans (sf_tw ..)))
    rw [sf_tw, State.wr64, State.setReg_tw, State.setReg_tw, tw3]

/-- A port whose enumeration has ended. -/
structure EnumDone (w : Twin) (p : Fin 128) (r : EnumRun) (s u : State) : Prop where
  state : u.prnState w p = 4
  strand : u.strand w p = (s.strand w p).enumerated r
  full : u.fullDue.getLsbD p = true
  nodes : r.nodes.length ≤ 4096 → u.rf (Reg.STRD_NODES w p) Fld.STRD_NODES_COUNT = r.nodes.length
  event : r.fault = false → s.rb (Reg.STRD_EVT_CTL w p) Fld.STRD_EVT_CTL_DONE_EN = true → u.evtTwinPending w 59 = true

theorem enumDone_done (tidy : s.tidy = true) (listed : Smap.wf (fun _ => Strand.reset) (s.tw w).strands = true) (run : (s.strand w p).run = some r)
    (step : r.step = 7) (left : r.at_ ≤ s.now) : EnumDone w p r s (enumDone w p s) := by
  have wf1 : (s.setStrand w p ((s.strand w p).enumerated r)).regsWf = true := wf_setStrand (tidy_iff.1 tidy).1 _ _ _
  have ended := (StrandStep.refl (k := ⟨false, false, true⟩) (o := w) (p := p) tidy).enumEnded r
  obtain ⟨state, nodes, ctl, tw⟩ := enumShown_shows wf1 w p r
  have held : (s.enumEnded w p r).strand w p = (s.strand w p).enumerated r := by
    rw [State.enumEnded, strand_of_tw ((forceFull_tw _ _ _).trans tw), strand_setStrand_of_wf listed]
  have shown : ∀ a, (s.enumEnded w p r).reg a = ((s.setStrand w p ((s.strand w p).enumerated r)).enumShown w p r).reg a := forceFull_reg _ _
  have ctl' : (s.enumEnded w p r).rb (Reg.STRD_EVT_CTL w p) Fld.STRD_EVT_CTL_DONE_EN = s.rb (Reg.STRD_EVT_CTL w p) Fld.STRD_EVT_CTL_DONE_EN :=
    rb_congr _ _ (by decide) ((shown _).trans <| ctl.trans (reg_setStrand _ _ _ _ _))
  have events : Evt (s.enumEnded w p r) (enumDone w p s) := by
    rw [enumDone_due run step left]
    exact .ite (.refl _) ((Evt.refl _).raiseIf _ _ _ _ _ (by decide))
  have full : (enumDone w p s).fullDue = (s.enumEnded w p r).fullDue := by rw [events.rest]; rfl
  refine ⟨?_, (events.strand w p).trans held, ?_, fun few => ?_, fun sound on => ?_⟩
  · exact (rf_congr _ _ (by decide) ((events.strandReg ended.wf (strandRegs_pstat w p)).trans (shown _))).trans state
  · rw [full]
    exact getLsbD_or_two_pow _ p
  · refine (rf_congr _ _ (by decide) ((events.strandReg ended.wf (strandRegs_at w p)).trans (shown _))).trans (nodes.trans ?_)
    exact Nat.mod_eq_of_lt (by omega)
  · rw [enumDone_due run step left, if_neg (by rw [sound]; decide)]
    exact evtTwinPending_raiseIf ended.wf (ctl'.trans on) _

/-! ### The commands (R289, R290) -/

theorem exec_enumReply (t : Nat) (p : Fin 128) (b : List Byte) (s : State) :
    exec (.enumReply t p b) s = .next ((s.beginAt t).eachUp fun w x => enumReply w p b x) := rfl

theorem exec_enumCountWaitEnd (p : Fin 128) (s : State) : exec (.enumCountWaitEnd p) s = .next (s.begin.eachUp fun w x => countEnd w p x) := rfl

theorem exec_enumEchoTimeout (p : Fin 128) (s : State) : exec (.enumEchoTimeout p) s = .next (s.begin.eachUp fun w x => echoTimeout w p x) := rfl

theorem exec_prnEnumDone (t : Nat) (p : Fin 128) (s : State) :
    exec (.prnEnumDone t p) s = .next ((s.beginAt t).eachUp fun w x => enumDone w p x) := rfl

theorem StrandFrame.prnHub {l : Nat → Bool} (h : StrandFrame k l s u) (w : Twin) (q : Nat) : u.prnHub w q = s.prnHub w q := by
  rw [State.prnHub, State.prnHub, State.param, State.param, h.ent]

theorem StrandFrame.prnNodes {l : Nat → Bool} (h : StrandFrame k l s u) (w : Twin) (q : Nat) : u.prnNodes w q = s.prnNodes w q := by
  rw [State.prnNodes, State.prnNodes, State.param, State.param, h.ent]

section
variable {t : Nat} {b : List Byte} (tidy : s.tidy = true) (on : s.roleOf w ≠ .off) (run : (s.strand w p).run = some r)
include tidy on run

/-- A reply reaches the run of its port: the other twin's step stands before it or after it. -/
theorem enumReply_around (b : List Byte) : ∃ x u, exec (.enumReply t p b) s = .next u ∧ StrandStep ⟨false, true, false⟩ w.other p (s.beginAt t) x ∧
    StrandStep ⟨false, true, false⟩ w.other p (enumReply w p b x) u ∧ framed (portReg p) nowhere ((s.beginAt t).withLine u) u ∧
    x.strand w p = s.strand w p ∧ (x.strand w p).run = some r ∧ x.now = max s.now t := by
  obtain ⟨x, before, after, frame⟩ := eachUp_strandStep (p := p) (f := fun w x => enumReply w p b x) (on_beginAt t on) tidy
    fun o x tidy => (StrandStep.refl tidy).enumReply
  have strand : x.strand w p = s.strand w p := before.strand.trans (strand_beginAt s t w p)
  exact ⟨x, _, exec_enumReply t p b s, before, after, frame.lined, strand, by rw [strand, run], before.now rfl⟩

theorem enumReply_counts (len : b.length = 16) (form : byteAt b 0 = 0x81) (step : r.step = 3) (op : byteAt b 1 = 1) (from_ : r.at_ ≤ max s.now t)
    (to_ : max s.now t ≤ r.at_ + 5000000) : ∃ u, exec (.enumReply t p b) s = .next u ∧
      (u.strand w p).run.map (·.counts) = some (r.counts.filter (fun c => c.1 ≠ (if s.prnHub w p then byteAt b 6 else 0)) ++
        [(if s.prnHub w p then byteAt b 6 else 0, beAt b 4 2)]) ∧ framed (portReg p) nowhere ((s.beginAt t).withLine u) u := by
  obtain ⟨x, u, ran, before, after, frame, -, run', now⟩ := enumReply_around (t := t) tidy on run b
  obtain ⟨sig, eq⟩ := enumReply_count run' len form step op (by rwa [now]) (by rwa [now])
  have hub : x.prnHub w p = s.prnHub w p := before.prnHub w p
  refine ⟨u, ran, ?_, frame⟩
  rw [after.strand, eq, strand_setRun, hub]
  rfl

theorem enumReply_adds (len : b.length = 16) (form : byteAt b 0 = 0x81) {a start : Nat} {rest : List (Nat × Nat)} (step : r.step = 6)
    (op : byteAt b 1 = 3) (todo : r.todo = (a, start) :: rest) (node : beAt b 2 2 = a) (from_ : r.at_ ≤ max s.now t)
    (to_ : max s.now t ≤ r.at_ + 50000) : ∃ u, exec (.enumReply t p b) s = .next u ∧
      (u.strand w p).run.map (fun x => (x.step, x.todo, x.nodes.length, x.nodes.getLast?.map (·.addr))) =
        some (if rest = [] then 7 else 6, rest, r.nodes.length + 1, some a) ∧
      u.prnState w p = (if rest = [] then 3 else s.prnState w p) ∧ framed (portReg p) nowhere ((s.beginAt t).withLine u) u := by
  obtain ⟨x, u, ran, before, after, frame, -, run', now⟩ := enumReply_around (t := t) tidy on run b
  obtain ⟨y, at_, r2, n, eq, own, state, todo2, nodes, addr⟩ :=
    enumReply_echo run' len form before.tidy step op todo node (by rwa [now]) (by rwa [now])
  obtain ⟨⟨e, asked⟩, shown, -⟩ := nextEcho_asked own.wf w p at_ r2
  rw [eq] at after
  refine ⟨u, ran, ?_, ?_, frame⟩
  · rw [after.strand, asked, todo2]
    simp [nodes, addr]
  · rw [after.prnState, shown, todo2, state, before.prnState]
    rfl

theorem enumReply_outside (len : b.length = 16) (form : byteAt b 0 = 0x81) (out : max s.now t < r.at_ ∨ r.at_ + 5000000 < max s.now t) :
    ∃ u, exec (.enumReply t p b) s = .next u ∧ u.strand w p = s.strand w p := by
  obtain ⟨x, u, ran, -, after, -, strand, run', now⟩ := enumReply_around (t := t) tidy on run b
  refine ⟨u, ran, ?_⟩
  rw [after.strand, enumReply_late run' len form (by rwa [now]), strand]

/-- The end of the wait for COUNT replies. -/
theorem enumCountWaitEnd_assigns (step : r.step = 3) : ∃ u, exec (.enumCountWaitEnd p) s = .next u ∧ r.at_ + 5000000 ≤ u.now ∧
    u.prnState w p = (if countTodo (s.countList w p r) = [] then 3 else 2) ∧
    (u.strand w p).run.map (fun x => (x.step, x.todo, x.fault)) = some (if countTodo (s.countList w p r) = [] then 7 else 6,
      countTodo (s.countList w p r), r.fault || s.countBad w p (s.countList w p r)) ∧
    framed (portReg p) nowhere ({ s with now := u.now }.withLine u) u := by
  obtain ⟨x, before, after, frame⟩ := eachUp_strandStep (s := s.begin) (p := p) (f := fun w x => countEnd w p x) on tidy
    fun o x tidy => (StrandStep.refl tidy).countEnd
  have strand : x.strand w p = s.strand w p := before.strand.trans (strand_begin s w p)
  have list : x.countList w p r = s.countList w p r := by rw [State.countList, before.prnHub]; rfl
  have bad : ∀ cs, x.countBad w p cs = s.countBad w p cs := fun cs => by rw [State.countBad, before.prnNodes]; rfl
  obtain ⟨y, at_, r2, eq, own, state, todo, fault⟩ := countEnd_assigns (r := r) before.tidy (by rw [strand, run]) step
  obtain ⟨⟨e, asked⟩, shown, -⟩ := nextEcho_asked own.wf w p at_ r2
  have sent := own.nextEcho (at_ := at_) (r := r2) rfl
  rw [list] at todo fault
  rw [bad] at fault
  rw [eq] at after
  refine ⟨_, exec_enumCountWaitEnd p s, ?_, ?_, ?_, frame.timed⟩
  · exact (le_max_right _ _).trans (sent.later.trans after.later)
  · rw [after.prnState, shown, todo, state]
  · rw [after.strand, asked, ← todo, ← fault]
    rfl

/-- An ECHO that stays away. -/
theorem enumEchoTimeout_faults (step : r.step = 6) : ∃ u, exec (.enumEchoTimeout p) s = .next u ∧ r.at_ + 50000 ≤ u.now ∧
    (u.strand w p).run.map (fun x => (x.step, x.todo, x.fault)) = some (if r.todo.drop 1 = [] then 7 else 6, r.todo.drop 1, true) ∧
    (r.fault = false → u.rb (Reg.STRD_PSTAT w p) Fld.STRD_PSTAT_ENUM_FAULT = true) ∧
    framed (portReg p) nowhere ({ s with now := u.now }.withLine u) u := by
  obtain ⟨x, before, after, frame⟩ := eachUp_strandStep (s := s.begin) (p := p) (f := fun w x => echoTimeout w p x) on tidy
    fun o x tidy => (StrandStep.refl tidy).echoTimeout
  have strand : x.strand w p = s.strand w p := before.strand.trans (strand_begin s w p)
  obtain ⟨y, at_, eq, own, shown⟩ := echoTimeout_faults (r := r) before.tidy (by rw [strand, run]) step
  obtain ⟨⟨e, asked⟩, -, kept⟩ := nextEcho_asked own.wf w p at_ { r with todo := r.todo.drop 1, fault := true }
  have sent := own.nextEcho (at_ := at_) (r := { r with todo := r.todo.drop 1, fault := true }) rfl
  rw [eq] at after
  refine ⟨_, exec_enumEchoTimeout p s, ?_, ?_, fun sound => ?_, frame.timed⟩
  · exact (le_max_right _ _).trans (sent.later.trans after.later)
  · rw [after.strand, asked]
    rfl
  · rw [after.rb _ (strandRegs_pstat w p), kept, shown sound]

/-- The end of an enumeration reaches the run of its port. -/
theorem prnEnumDone_around : ∃ x u, exec (.prnEnumDone t p) s = .next u ∧ StrandStep ⟨false, false, true⟩ w.other p (s.beginAt t) x ∧
    StrandStep ⟨false, false, true⟩ w.other p (enumDone w p x) u ∧ framed (portReg p) nowhere { s.beginAt t with fullDue := u.fullDue } u ∧
    x.strand w p = s.strand w p ∧ (x.strand w p).run = some r ∧ x.now = max s.now t := by
  obtain ⟨x, before, after, frame⟩ := eachUp_strandStep (p := p) (f := fun w x => enumDone w p x) (on_beginAt t on) tidy
    fun o x tidy => (StrandStep.refl tidy).enumDone
  have strand : x.strand w p = s.strand w p := before.strand.trans (strand_beginAt s t w p)
  exact ⟨x, _, exec_prnEnumDone t p s, before, after, frame.filled, strand, by rw [strand, run], before.now rfl⟩

theorem prnEnumDone_early (early : max s.now t < r.at_) :
    ∃ u, exec (.prnEnumDone t p) s = .next u ∧ u.strand w p = s.strand w p ∧ u.prnState w p = s.prnState w p := by
  obtain ⟨x, u, ran, before, after, -, strand, run', now⟩ := prnEnumDone_around (t := t) tidy on run
  rw [enumDone_early run' (by rwa [now])] at after
  exact ⟨u, ran, after.strand.trans strand, after.prnState.trans before.prnState⟩

theorem prnEnumDone_ends (step : r.step = 7) (left : r.at_ ≤ max s.now t) (listed : Smap.wf (fun _ => Strand.reset) (s.tw w).strands = true) :
    ∃ u, exec (.prnEnumDone t p) s = .next u ∧ EnumDone w p r s u ∧ framed (portReg p) nowhere { s.beginAt t with fullDue := u.fullDue } u := by
  obtain ⟨x, u, ran, before, after, frame, strand, run', now⟩ := prnEnumDone_around (t := t) tidy on run
  have done := enumDone_done before.tidy (by rwa [before.own, State.beginAt_tw]) run' step (by rwa [now])
  have wf := ((StrandStep.refl (o := w) before.tidy).enumDone (p := p)).wf
  refine ⟨u, ran, ⟨after.prnState.trans done.state, ?_, after.due _ done.full, fun few => ?_, fun sound enabled => ?_⟩, frame⟩
  · rw [after.strand, done.strand, strand]
  · exact (after.rf _ (strandRegs_at w p)).trans (done.nodes few)
  · exact after.pending wf (x := done.event sound ((before.rb _ (strandRegs_evtCtl w p)).trans enabled))

end

/-- Settles O28: the run of a port takes its replies and the ends of its waits in each twin by itself; the other twin's step, before or after,
reaches nothing of it. -/
theorem enumerationTakesReplies : Obligations.EnumerationTakesReplies := by
  unfold Obligations.EnumerationTakesReplies
  intro s t w p r tidy on run
  refine ⟨fun b len form => ⟨fun step op => enumReply_counts tidy on run len form step op,
    fun a start rest step op => enumReply_adds tidy on run len form step op, enumReply_outside tidy on run len form⟩, fun step none => ?_,
    fun c hop step one noHub fits => ?_, enumEchoTimeout_faults tidy on run, prnEnumDone_early tidy on run, fun step left listed => ?_⟩
  · obtain ⟨u, ran, late, state, held, frame⟩ := enumCountWaitEnd_assigns tidy on run step
    have empty : countTodo (s.countList w p r) = [] := by
      rw [State.countList, none]
      split <;> rfl
    rw [empty] at state held
    refine ⟨u, ran, state, late, ?_, frame⟩
    have pair := congrArg (Option.map fun y : Nat × List (Nat × Nat) × Bool => (y.1, y.2.1)) held
    rw [Option.map_map] at pair
    exact pair
  · obtain ⟨u, ran, late, state, held, frame⟩ := enumCountWaitEnd_assigns tidy on run step
    have list : s.countList w p r = [(c, hop)] := by rw [State.countList, noHub, one]; rfl
    have some_ : (List.range (hop + 1)).map (fun i => (i, 0)) ≠ ([] : List (Nat × Nat)) := by simp
    rw [list, countTodo_single fits, if_neg some_] at state held
    rw [countBad_single fits] at held
    exact ⟨u, ran, state, late, held, frame⟩
  · obtain ⟨u, ran, done, frame⟩ := prnEnumDone_ends tidy on run step left listed
    refine ⟨u, ran, done.state, ?_, ?_, done.full, done.nodes, done.event, frame⟩
    · rw [done.strand, Strand.enumerated]
    · rw [done.strand, Strand.enumerated]

end Sys2Proof.Machine
end

section
/-!
The upstream lock of a Proren port, the WAKE of a node, and the keepalive generator (R281, R289, R294, R349, R44).
-/
namespace Sys2Proof.Machine

set_option Elab.async false

variable {s0 s u : State} {w o : Twin} {p : Fin 128} {k : Slack}

/-! ### The upstream lock (R294) -/

/-- PRN_UP_LOCK_LOSS in one twin. -/
def lockLossStep (q : Nat) (w : Twin) (x : State) : State :=
  if x.personality w q ≠ 1 then x
  else (x.setStrand w q { x.strand w q with lockLost := some x.now }).sb (Reg.STRD_PSTAT w q) Fld.STRD_PSTAT_UP_LOCK false

theorem exec_prnUpLockLoss (t : Nat) (p : Fin 128) (s : State) : exec (.prnUpLockLoss t p) s = .next ((s.beginAt t).eachUp (lockLossStep p)) := rfl

/-- The lock has been away for 10 ms or more. -/
def State.lockLong (s : State) (w : Twin) (q : Nat) : Bool :=
  match (s.strand w q).lockLost with
  | some a => decide (a + 10000000 ≤ s.now)
  | none => false

/-- The lock of a port is back. -/
def State.locked (s : State) (w : Twin) (q : Nat) : State :=
  (s.setStrand w q { s.strand w q with lockLost := none }).sb (Reg.STRD_PSTAT w q) Fld.STRD_PSTAT_UP_LOCK true

/-- PRN_UP_LOCK in one twin. -/
def lockStep (q : Nat) (w : Twin) (x : State) : State :=
  if x.personality w q ≠ 1 then x
  else if x.lockLong w q && x.prnAuto w q then startEnum w q (x.locked w q) else x.locked w q

theorem exec_prnUpLock (t : Nat) (p : Fin 128) (s : State) : exec (.prnUpLock t p) s = .next ((s.beginAt t).eachUp (lockStep p)) := rfl

/-- A twin whose role is not OFF takes upstream traffic. -/
theorem eachUp_quietStep {line : Bool} {q : Nat} {f : Twin → State → State} (on : s.roleOf w ≠ .off) (tidy : s.tidy = true)
    (step : ∀ o x, x.tidy = true → QuietStep line o q x (f o x)) : ∃ x, QuietStep line w.other q s x ∧ QuietStep line w.other q (f w x) (s.eachUp f) ∧
      QuietFrame line [Reg.STRD_PSTAT .a q, Reg.STRD_PSTAT .b q] s (s.eachUp f) := by
  obtain ⟨x, before, after⟩ := each_quietStep (r := fun o => decide (s.roleOf o ≠ .off)) (decide_eq_true on) tidy step
  exact ⟨x, before, after, each_quietFrame tidy step⟩

theorem prnAuto_of_mem (h : u.mem = s.mem) (w : Twin) (q : Nat) : u.prnAuto w q = s.prnAuto w q := by
  rw [State.prnAuto, State.prnAuto, State.param, State.param, ent_of_mem h]

theorem QuietStep.lockLossStep {q : Nat} (h : QuietStep false o q s0 s) : QuietStep false o q s0 (lockLossStep q o s) := by
  unfold Machine.lockLossStep
  split
  · exact h
  · exact (h.setStrand _).sb

theorem QuietStep.locked {line : Bool} {q : Nat} (h : QuietStep line o q s0 s) : QuietStep line o q s0 (s.locked o q) := (h.setStrand _).sb

theorem QuietStep.lockStep {q : Nat} (h : QuietStep true o q s0 s) : QuietStep true o q s0 (lockStep q o s) := by
  unfold Machine.lockStep
  split
  · exact h
  split
  · exact h.locked.startEnum
  · exact h.locked

theorem prnState_setStrand (w : Twin) (q : Nat) (x : Strand) (s : State) : (s.setStrand w q x).prnState w q = s.prnState w q :=
  rf_congr _ _ (by decide) (reg_setStrand _ _ _ _ _)

theorem locked_lock (wf : s.regsWf = true) (w : Twin) (q : Nat) : (s.locked w q).rb (Reg.STRD_PSTAT w q) Fld.STRD_PSTAT_UP_LOCK = true :=
  rb_sb_self (wf_setStrand wf _ _ _) _ _ _

theorem locked_state (wf : s.regsWf = true) (w : Twin) (q : Nat) : (s.locked w q).prnState w q = s.prnState w q :=
  (prnState_sb (wf_setStrand wf _ _ _) w q _ true).trans (prnState_setStrand _ _ _ _)

section
variable {t : Nat} (tidy : s.tidy = true) (on : s.roleOf w ≠ .off) (prn : s.personality w p = 1)
include tidy on prn

/-- A port that loses its lock keeps its state. -/
theorem prnUpLockLoss_loses : ∃ u, exec (.prnUpLockLoss t p) s = .next u ∧ u.rb (Reg.STRD_PSTAT w p) Fld.STRD_PSTAT_UP_LOCK = false ∧
    u.prnState w p = s.prnState w p ∧ (u.strand w p).lockLost = some (max s.now t) ∧
    onlyRegs [Reg.STRD_PSTAT .a p, Reg.STRD_PSTAT .b p] { s.beginAt t with a := u.a, b := u.b } u := by
  obtain ⟨x, before, after, frame⟩ := eachUp_quietStep (s := s.beginAt t) (f := lockLossStep p) (on_beginAt t on) tidy
    fun o x tidy => (QuietStep.refl tidy).lockLossStep
  have own : lockLossStep p w x = (x.setStrand w p { x.strand w p with lockLost := some x.now }).sb (Reg.STRD_PSTAT w p) Fld.STRD_PSTAT_UP_LOCK false :=
    if_neg (not_not.2 ((personality_of_mem before.mem w p).trans prn))
  have now : x.now = max s.now t := before.now
  have wf : (x.setStrand w p { x.strand w p with lockLost := some x.now }).regsWf = true := wf_setStrand before.wf _ _ _
  rw [own] at after
  refine ⟨_, exec_prnUpLockLoss t p s, ?_, ?_, ?_, frame.quiet⟩
  · exact (rb_congr _ _ (by decide) after.pstat).trans (rb_sb_self wf _ _ _)
  · rw [after.prnState, prnState_sb wf _ _ _ _, prnState_setStrand, before.prnState]
    rfl
  · rw [strand_of_tw after.own, State.sb, strand_sf, strand_setStrand (Strand.ne_reset Strand.lockLost (Option.some_ne_none _)), now]

/-- A lock that comes back starts an enumeration when it has been away for 10 ms or more and ENUM_AUTO is set. -/
theorem prnUpLock_locks : ∃ u, exec (.prnUpLock t p) s = .next u ∧ u.rb (Reg.STRD_PSTAT w p) Fld.STRD_PSTAT_UP_LOCK = true ∧
    (∀ a, (s.strand w p).lockLost = some a → a + 10000000 ≤ max s.now t → s.prnAuto w p = true → u.prnState w p = 1) ∧
    (s.prnAuto w p = false → u.prnState w p = s.prnState w p) ∧
    onlyRegs [Reg.STRD_PSTAT .a p, Reg.STRD_PSTAT .b p] ({ s.beginAt t with a := u.a, b := u.b }.withLine u) u := by
  obtain ⟨x, before, after, frame⟩ := eachUp_quietStep (s := s.beginAt t) (f := lockStep p) (on_beginAt t on) tidy
    fun o x tidy => (QuietStep.refl tidy).lockStep
  have prn' : x.personality w p = 1 := (personality_of_mem before.mem w p).trans prn
  have auto : x.prnAuto w p = s.prnAuto w p := prnAuto_of_mem before.mem w p
  have strand : x.strand w p = s.strand w p := (strand_of_tw before.own p).trans (strand_beginAt s t w p)
  have locked : QuietStep true w p x (x.locked w p) := (QuietStep.refl before.tidy).locked
  have started := startEnum_started (w := w) (q := p) locked.tidy ((personality_of_mem locked.mem w p).trans prn')
  have own : lockStep p w x = if x.lockLong w p && x.prnAuto w p then startEnum w p (x.locked w p) else x.locked w p := if_neg (not_not.2 prn')
  have state : (lockStep p w x).prnState w p = if x.lockLong w p && s.prnAuto w p then 1 else s.prnState w p := by
    rw [own, auto]
    split
    · exact started.state
    · exact (locked_state before.wf w p).trans before.prnState
  refine ⟨_, exec_prnUpLock t p s, (rb_congr _ _ (by decide) after.pstat).trans ?_, fun a lost long auto => ?_, fun auto => ?_, frame.only⟩
  · rw [own]
    split
    · exact started.lock.trans (locked_lock before.wf w p)
    · exact locked_lock before.wf w p
  · have away : x.lockLong w p = true := by
      rw [State.lockLong, strand, lost]
      exact decide_eq_true (long.trans_eq before.now.symm)
    rw [after.prnState, state, away, auto]
    rfl
  · rw [after.prnState, state, auto, Bool.and_false]
    rfl

end

/-! ### The WAKE of a node (R289) -/

/-- E62, where it is enabled. -/
def State.woken (s : State) (w : Twin) (q : Nat) : State := s.raiseIf w (Reg.STRD_EVT_CTL w q) Fld.STRD_EVT_CTL_WAKE_EN 62 q

/-- The WAKE of a node in one twin. -/
def wakeStep (q : Nat) (w : Twin) (x : State) : State :=
  if x.personality w q ≠ 1 then x else if x.prnAuto w q then startEnum w q (x.woken w q) else x.woken w q

theorem exec_prnNodeWake (t : Nat) (main : s.mainOff = false) (lit : s.powerState ≠ 3) :
    exec (.prnNodeWake t p) s = .next ((s.beginAt t).eachUp (wakeStep p)) :=
  (if_neg (by rw [show (s.beginAt t).mainOff = s.mainOff from rfl, main]; decide)).trans (if_neg lit)

theorem StrandStep.startEnum (h : StrandStep k o p s0 s) (free : k.line = true) : StrandStep k o p s0 (startEnum o p s) :=
  h.trans ((QuietStep.refl h.tidy).startEnum.step fun _ => free)

theorem StrandStep.woken (h : StrandStep k o p s0 s) : StrandStep k o p s0 (s.woken o p) := h.raiseIf

theorem StrandStep.wakeStep (h : StrandStep k o p s0 s) (free : k.line = true) : StrandStep k o p s0 (wakeStep p o s) := by
  unfold Machine.wakeStep
  split
  · exact h
  · exact (h.woken.startEnum free).ite h.woken

/-- A node wakes its port: E62, and an enumeration where ENUM_AUTO is set. -/
theorem prnNodeWake_wakes {t : Nat} (tidy : s.tidy = true) (on : s.roleOf w ≠ .off) (prn : s.personality w p = 1) (main : s.mainOff = false)
    (lit : s.powerState ≠ 3) : ∃ u, exec (.prnNodeWake t p) s = .next u ∧
      (s.rb (Reg.STRD_EVT_CTL w p) Fld.STRD_EVT_CTL_WAKE_EN = true → u.evtTwinPending w 62 = true) ∧
      (s.prnAuto w p = true → u.prnState w p = 1) ∧ (s.prnAuto w p = false → u.prnState w p = s.prnState w p) ∧
      framed (portReg p) nowhere ((s.beginAt t).withLine u) u := by
  obtain ⟨x, before, after, frame⟩ := eachUp_strandStep (k := ⟨false, true, false⟩) (p := p) (f := wakeStep p) (on_beginAt t on) tidy
    fun o x tidy => (StrandStep.refl tidy).wakeStep rfl
  have prn' : x.personality w p = 1 := (before.ent w 6 0 p 0 1).trans prn
  have auto : x.prnAuto w p = s.prnAuto w p := by
    rw [State.prnAuto, State.param, before.ent]
    rfl
  have woken : StrandStep ⟨false, true, false⟩ w p x (x.woken w p) := (StrandStep.refl before.tidy).woken
  have started := startEnum_started (w := w) (q := p) woken.tidy ((woken.ent w 6 0 p 0 1).trans prn')
  have own : wakeStep p w x = if s.prnAuto w p then startEnum w p (x.woken w p) else x.woken w p := by
    rw [← auto]
    exact if_neg (not_not.2 prn')
  have begun : StrandStep ⟨false, true, false⟩ w p (x.woken w p) (wakeStep p w x) := by
    rw [own]
    exact ((StrandStep.refl woken.tidy).startEnum rfl).ite (.refl woken.tidy)
  refine ⟨_, exec_prnNodeWake t main lit, fun enabled => ?_, fun on => ?_, fun off => ?_, frame.lined⟩
  · have raised : (x.woken w p).evtTwinPending w 62 = true :=
      evtTwinPending_raiseIf before.wf ((before.rb _ (strandRegs_evtCtl w p)).trans enabled) _
    exact after.pending begun.wf (x := (begun.pend w woken.wf).2 62 (by decide) raised)
  · rw [after.prnState, own, if_pos on, started.state]
  · have events : Evt x (x.woken w p) := (Evt.refl _).raiseIf _ _ _ _ _ (by decide)
    rw [after.prnState, own, if_neg (by rw [off]; decide)]
    exact (rf_congr _ _ (by decide) (events.strandReg before.wf (strandRegs_pstat w p))).trans before.prnState

/-! ### The keepalive generator (R281) -/

theorem genHold_gen {e : Nat × Nat × Bool} {q : Nat} (h : e ∈ (genHold q s).dev.gen) : e ∈ s.dev.gen ∨ e.1 = q := by
  change e ∈ s.dev.gen.filter _ ++ [(q, s.now, s.safeOn)] at h
  rcases List.mem_append.1 h with old | new
  · exact .inl (List.mem_filter.1 old).1
  · exact .inr (by rw [List.mem_singleton.1 new])

theorem foldl_genHold_gen {e : Nat × Nat × Bool} (l : List Nat) (s : State) (h : e ∈ (l.foldl (fun x q => genHold q x) s).dev.gen) :
    e ∈ s.dev.gen ∨ e.1 ∈ l := by
  induction l generalizing s with
  | nil => exact .inl h
  | cons q l ih =>
    rcases ih _ h with held | later
    · exact (genHold_gen held).imp_right fun eq => by rw [eq]; exact List.mem_cons_self
    · exact .inr (List.mem_cons_of_mem _ later)

/-- The generator holds entries of the ports that it drives, and of no other. -/
theorem syncGen_gen {e : Nat × Nat × Bool} (h : e ∈ (syncGen s).dev.gen) : e.1 ∈ s.keepalivePorts := by
  rw [syncGen_eq] at h
  rcases foldl_genHold_gen _ _ h with kept | begun
  · exact List.contains_iff_mem.1 (List.mem_filter.1 kept).2
  · exact (List.mem_filter.1 begun).1

theorem foldl_genHold_keeps (l : List Nat) (s : State) : s.out ⊆ (l.foldl (fun x q => genHold q x) s).out := by
  induction l generalizing s with
  | nil => exact fun _ => id
  | cons q l ih => exact List.Subset.trans (List.subset_append_left _ _) (ih (genHold q s))

/-- Each port of the list is sent a HOLD packet. -/
theorem foldl_genHold_sends {q : Nat} (l : List Nat) (s : State) (h : q ∈ l) :
    ∃ at_ plus, Out.strand q at_ plus (withCrc (holdPkt s.safeOn true)) ∈ (l.foldl (fun x q => genHold q x) s).out := by
  induction l generalizing s with
  | nil => cases h
  | cons r l ih =>
    rcases List.mem_cons.1 h with rfl | later
    · obtain ⟨at_, plus, out⟩ := genHold_out q s
      exact ⟨at_, plus, foldl_genHold_keeps l _ (by rw [out]; exact List.mem_append_right _ (List.mem_singleton.2 rfl))⟩
    · exact ih (genHold r s) later

/-- The instant of the next HOLD: 1.000 ms after the oldest of the entries. -/
def genDue (g : Nat × Nat × Bool) (rest : List (Nat × Nat × Bool)) : Nat := rest.foldl (fun t e => min t (e.2.1 + 1000000)) (g.2.1 + 1000000)

theorem le_foldl_due (a : Nat) (l : List (Nat × Nat × Bool)) (t : Nat) :
    a ≤ l.foldl (fun t e => min t (e.2.1 + 1000000)) t ↔ a ≤ t ∧ ∀ e ∈ l, a ≤ e.2.1 + 1000000 := by
  induction l generalizing t with
  | nil => simp
  | cons e l ih => rw [List.foldl_cons, ih, le_min_iff, List.forall_mem_cons, and_assoc]

theorem genDue_of_oldest {g e : Nat × Nat × Bool} {rest : List (Nat × Nat × Bool)} (mem : e ∈ g :: rest)
    (oldest : ∀ d ∈ g :: rest, e.2.1 ≤ d.2.1) : genDue g rest = e.2.1 + 1000000 := by
  have bound : ∀ a, a ≤ genDue g rest ↔ ∀ d ∈ g :: rest, a ≤ d.2.1 + 1000000 := fun a => by
    rw [genDue, le_foldl_due, List.forall_mem_cons]
  exact le_antisymm ((bound _).1 le_rfl e mem) ((bound _).2 fun d hd => Nat.add_le_add_right (oldest d hd) _)

/-- The ports whose HOLD is due. -/
def State.duePorts (s : State) (due : Nat) : List Nat := (s.dev.gen.filter (fun e => decide (e.2.1 + 1000000 ≤ due))).map (·.1)

/-- The generator sends the HOLD packets that are due. -/
def State.keptAlive (s : State) (due : Nat) : State := (s.duePorts due).foldl (fun x q => genHold q x) (s.at due)

theorem holdKeepalive_sent (sent : (syncGen s.begin).out ≠ [] ∨ (syncGen s.begin).dev.gen = []) : exec .holdKeepalive s = .next (syncGen s.begin) := by
  change execHoldKeepalive s = _
  unfold execHoldKeepalive
  extract_lets v
  split
  · rfl
  next g rest gen => exact if_pos (sent.resolve_right (by rw [gen]; exact List.cons_ne_nil _ _))

theorem holdKeepalive_due {g : Nat × Nat × Bool} {rest : List (Nat × Nat × Bool)} (gen : (syncGen s.begin).dev.gen = g :: rest)
    (silent : (syncGen s.begin).out = []) : exec .holdKeepalive s = .next ((syncGen s.begin).keptAlive (genDue g rest)) := by
  change execHoldKeepalive s = _
  unfold execHoldKeepalive
  dsimp only
  rw [gen]
  dsimp only
  rw [if_neg (not_not.2 silent), State.keptAlive, State.duePorts, gen, List.foldl_map]
  rfl

/-- What the generator's step leaves, from `v`, where it has just been brought up to date. -/
structure KeptAlive (v u : State) : Prop where
  only : u = { v with now := u.now, clock := u.clock }.withLine u
  sent : u.holdsSent
  still : v.out ≠ [] → u = v
  due : v.out = [] → ∀ e ∈ v.dev.gen, (∀ d ∈ v.dev.gen, e.2.1 ≤ d.2.1) → u.now = max v.now (e.2.1 + 1000000) ∧
    ∃ at_ plus, Out.strand e.1 at_ plus (withCrc (holdPkt u.safeOn true)) ∈ u.out

theorem keptAlive_only (s : State) (due : Nat) :
    s.keptAlive due = { s with now := max s.now due, clock := (s.at due).clock }.withLine (s.keptAlive due) :=
  foldl_genHold_eq_withLine _ _

theorem keptAlive_kept {v : State} {g : Nat × Nat × Bool} {rest : List (Nat × Nat × Bool)} (gen : v.dev.gen = g :: rest) (silent : v.out = [])
    (driven : ∀ e ∈ v.dev.gen, e.1 ∈ v.keepalivePorts) (served : ∀ q ∈ v.keepalivePorts, v.served q = true) :
    KeptAlive v (v.keptAlive (genDue g rest)) := by
  have only := keptAlive_only v (genDue g rest)
  have ports : (v.keptAlive (genDue g rest)).keepalivePorts = v.keepalivePorts := by rw [only]; rfl
  have safe : (v.keptAlive (genDue g rest)).safeOn = v.safeOn := by rw [only]; rfl
  have now : (v.keptAlive (genDue g rest)).now = max v.now (genDue g rest) := by rw [only]; rfl
  have clock : (v.keptAlive (genDue g rest)).clock = (v.at (genDue g rest)).clock := by rw [only]; rfl
  refine ⟨by rw [now, clock]; exact only, ⟨fun x hx => ?_, fun q hq => ?_⟩, fun c => absurd silent c, fun _ e mem oldest => ⟨?_, ?_⟩⟩
  · rcases foldl_genHold_out _ _ x hx with old | ⟨q, at_, plus, eq, hq⟩
    · have none : (v.at (genDue g rest)).out = [] := silent
      rw [none] at old
      cases old
    · obtain ⟨e, he, rfl⟩ := List.mem_map.1 hq
      exact ⟨e.1, at_, plus, by rw [safe]; exact eq, by rw [ports]; exact driven e (List.mem_filter.1 he).1⟩
  · rw [ports] at hq
    exact foldl_genHold_served _ _ q (.inr (served q hq))
  · rw [gen] at mem oldest
    rw [now, genDue_of_oldest mem oldest]
  · have due : genDue g rest = e.2.1 + 1000000 := by
      rw [gen] at mem oldest
      exact genDue_of_oldest mem oldest
    rw [safe]
    exact foldl_genHold_sends _ _ (List.mem_map.2 ⟨e, List.mem_filter.2 ⟨mem, decide_eq_true due.ge⟩, rfl⟩)

theorem holdKeepalive_keeps (s : State) : ∃ u, exec .holdKeepalive s = .next u ∧ KeptAlive (syncGen s.begin) u := by
  have begun : (syncGen s.begin).holdsSent := syncGen_holdsSent rfl
  by_cases sent : (syncGen s.begin).out ≠ [] ∨ (syncGen s.begin).dev.gen = []
  · refine ⟨_, holdKeepalive_sent sent, ⟨rfl, begun, fun _ => rfl, fun silent e mem => ?_⟩⟩
    rw [sent.resolve_left (not_not.2 silent)] at mem
    cases mem
  · obtain ⟨silent, some_⟩ := not_or.1 sent
    obtain ⟨g, rest, gen⟩ := List.exists_cons_of_ne_nil some_
    refine ⟨_, holdKeepalive_due gen (not_not.1 silent), keptAlive_kept gen (not_not.1 silent) (fun e mem => ?_) begun.2⟩
    rw [syncGen_keepalivePorts]
    exact syncGen_gen mem

/-! ### A stream that is missing (R44, R349) -/

/-- A port that no twin serves joins those that the generator drives. -/
def State.driven (s : State) (q : Nat) : State := { s with peri := { s.peri with keepalive := s.peri.keepalive ++ [q] } }

/-- Every strand port is in HOLD. -/
def State.allParked (s : State) : State := { s with peri := { s.peri with parked := true } }

theorem givenBack_of_portHeld {old new : State} (h : new.portHeld = old.portHeld) : old.givenBack new = new := by
  refine if_neg ?_
  rw [h]
  cases old.portHeld <;> decide

/-- A missing stream parks the ports after a forced swap. -/
def State.parkForced (s : State) : State := if s.peri.forced then s.allParked else s

/-- A missing stream puts a Proren port on the generator. -/
def State.driveProren (s : State) (w : Twin) (q : Nat) : State :=
  if s.personality w q = 1 ∧ !s.peri.keepalive.contains q then s.driven q else s

theorem exec_streamAbsent (t : Nat) (p : Fin 128) (s : State) :
    exec (.streamAbsent t p) s = .next (leaveHold (s.beginAt t) ((s.beginAt t).parkForced.driveProren (s.active.getD .a) p)) :=
  (apply_ite (fun x => Host.Outcome.next (leaveHold (s.beginAt t) x)) _ _ _).symm

theorem parkForced_calm (calm : s.peri.forced = false) : s.parkForced = s := if_neg (by rw [calm]; decide)

theorem parkForced_forced (forced : s.peri.forced = true) : s.parkForced = s.allParked := if_pos forced

theorem driveProren_drives {q : Nat} (prn : s.personality w q = 1) (fresh : s.peri.keepalive.contains q = false) : s.driveProren w q = s.driven q :=
  if_pos ⟨prn, by rw [fresh]; rfl⟩

theorem driveProren_eq (s : State) (w : Twin) (q : Nat) : s.driveProren w q = { s with peri := (s.driveProren w q).peri } := by
  unfold State.driveProren
  split <;> rfl

theorem driveProren_parked (s : State) (w : Twin) (q : Nat) : (s.driveProren w q).peri.parked = s.peri.parked := by
  unfold State.driveProren
  split <;> rfl

/-- A Proren port that no twin serves is driven from then on. -/
theorem streamAbsent_drives (t : Nat) (calm : s.peri.forced = false) (prn : s.personality (s.active.getD .a) p = 1)
    (fresh : s.peri.keepalive.contains p.val = false) : ∃ u, exec (.streamAbsent t p) s = .next u ∧ u.holdsSent ∧
      u = ((s.beginAt t).driven p).withLine u := by
  have held : ((s.beginAt t).driven p).portHeld = (s.beginAt t).portHeld := rfl
  have run := exec_streamAbsent t p s
  rw [parkForced_calm (s := s.beginAt t) calm, driveProren_drives (s := s.beginAt t) prn fresh, leaveHold_eq, givenBack_of_portHeld held] at run
  exact ⟨_, run, syncGen_holdsSent rfl, syncGen_eq_withLine _⟩

/-- After a forced swap a missing stream parks every strand port. -/
theorem streamAbsent_parks (t : Nat) (p : Fin 128) (forced : s.peri.forced = true) : ∃ u, exec (.streamAbsent t p) s = .next u ∧ u.peri.parked = true ∧
    u.holdsSent ∧ (s.safeOn = false → u.holdOn = true) ∧ u.role = s.role ∧ u.regs = s.regs ∧ u.mem = s.mem := by
  have run := exec_streamAbsent t p s
  rw [parkForced_forced (s := s.beginAt t) forced] at run
  have parked : ((s.beginAt t).allParked.driveProren (s.active.getD .a) p).peri.parked = true := driveProren_parked _ _ _
  have only := driveProren_eq (s.beginAt t).allParked (s.active.getD .a) p
  generalize (s.beginAt t).allParked.driveProren (s.active.getD .a) p = x at run parked only
  have only' : leaveHold (s.beginAt t) x = { x with fullDue := ((s.beginAt t).givenBack x).fullDue }.withLine (leaveHold (s.beginAt t) x) := by
    rw [leaveHold_eq, ← givenBack_eq]
    exact syncGen_eq_withLine _
  have safe : x.safeOn = s.safeOn := by rw [only]; rfl
  refine ⟨_, run, ?_, ?_, fun calm => ?_, ?_, ?_, ?_⟩
  · rw [only']
    exact parked
  · rw [leaveHold_eq]
    refine syncGen_holdsSent ?_
    rw [givenBack_eq, only]
    rfl
  · rw [leaveHold_eq, syncGen_holdOn, givenBack_holdOn, State.holdOn, safe, calm, parked]
    simp
  · rw [only', only]
    rfl
  · rw [only', only]
    rfl
  · rw [only', only]
    rfl

/-- Settles O30: lock and WAKE in each twin by itself, with the other twin's step beside it; the generator by what it holds of each port that it
drives. -/
theorem lockWakeAndKeepalive : Obligations.LockWakeAndKeepalive := by
  unfold Obligations.LockWakeAndKeepalive
  intro s t w p tidy
  refine ⟨fun on prn => ⟨prnUpLockLoss_loses tidy on prn, prnUpLock_locks tidy on prn, prnNodeWake_wakes tidy on prn⟩, ?_,
    streamAbsent_drives t, streamAbsent_parks t p⟩
  obtain ⟨u, run, only, sent, still, due⟩ := holdKeepalive_keeps s
  have now : (syncGen s.begin).now = s.now := by rw [syncGen_eq_withLine]; rfl
  refine ⟨u, run, ?_, sent, still, fun silent e mem oldest => ?_⟩
  · rw [syncGen_eq_withLine] at only
    exact only
  · obtain ⟨at_, holds⟩ := due silent e mem oldest
    exact ⟨by rw [at_, now], holds⟩

end Sys2Proof.Machine
end

section
/-!
The start of an RDM request (R304, R305), on a table of ports in canonical form and on one that lists a port twice.
-/
namespace Sys2Proof.Machine

set_option Elab.async false

variable {s s0 : State} {w o : Twin} {p : Fin 128} {k : Slack}

/-! ### What a DMX port holds -/

theorem dmx_of_tw {u : State} (h : u.tw w = s.tw w) (q : Nat) : u.dmx w q = s.dmx w q := by rw [State.dmx, State.dmx, h]

/-- A port that holds something reads as what was put there. -/
theorem dmx_setDmx {x : DmxPort} (hx : x ≠ DmxPort.reset) (s : State) (w : Twin) (q : Nat) : (s.setDmx w q x).dmx w q = x := by
  cases w <;> exact Smap.get_put_self hx q _

/-- In a table in canonical form, so does one that holds nothing. -/
theorem dmx_setDmx_of_wf (listed : Smap.wf (fun _ => DmxPort.reset) (s.tw w).dmx = true) (q : Nat) (x : DmxPort) : (s.setDmx w q x).dmx w q = x := by
  cases w <;> exact Smap.get_set_self (d := fun _ => DmxPort.reset) listed q x

theorem reg_setDmx (s : State) (w : Twin) (q : Nat) (x : DmxPort) (a : Nat) : (s.setDmx w q x).reg a = s.reg a := reg_modTw _ _ _ _

theorem showDmx_tw (s : State) (w : Twin) (q : Nat) : (showDmx w q s).tw w = s.tw w := by
  simp only [showDmx, State.sb, sf_tw]

/-- STRD_WSTAT alone shows the queue, discovery and the table. -/
theorem showDmx_reg (wf : s.regsWf = true) (w : Twin) (q : Nat) {a : Nat} (ha : a ≠ Reg.STRD_WSTAT w q) : (showDmx w q s).reg a = s.reg a := by
  unfold showDmx State.sb
  have wf1 := State.regsWf_sf wf (Reg.STRD_WSTAT w q) Fld.STRD_WSTAT_QUEUED (s.dmx w q).queue.length
  have wf2 := State.regsWf_sf wf1 (Reg.STRD_WSTAT w q) Fld.STRD_WSTAT_UIDS (min 512 (s.dmx w q).uids.length)
  rw [State.reg_sf_ne wf2 _ _ (by decide) ha, State.reg_sf_ne wf1 _ _ (by decide) ha, State.reg_sf_ne wf _ _ (by decide) ha]

/-! ### A step of one DMX port -/

theorem StrandStep.setDmx (h : StrandStep k o p s0 s) (x : DmxPort) : StrandStep k o p s0 (s.setDmx o p x) := h.modTw _

/-- What leaves on the port's line. -/
theorem StrandStep.emit (h : StrandStep k o p s0 s) (x : Out) : StrandStep k o p s0 (s.emit x) :=
  h.trans ⟨.of_framed ⟨rfl, fun _ _ _ => rfl, fun _ _ _ => rfl⟩ h.tidy fun v => (TwinPendKept.refl v s).frame, by cases o <;> rfl⟩

theorem StrandStep.showDmx (h : StrandStep k o p s0 s) : StrandStep k o p s0 (showDmx o p s) :=
  ((h.sf (strandRegs_at o p)).sf (strandRegs_at o p)).sb (strandRegs_at o p)

theorem StrandStep.runRdm (h : StrandStep k o p s0 s) (job : RdmJob) (slots : List Byte) (bc : Bool) :
    StrandStep k o p s0 (runRdm o p job slots bc s) := by
  unfold Machine.runRdm
  extract_lets frame ended s1
  have h1 : StrandStep k o p s0 s1 := (h.emit _).ite h
  exact h1.setDmx _

/-! ### A request takes the line (R304, R305) -/

/-- The slots of a request, from its buffer. -/
def State.reqSlots (s : State) (w : Twin) (r : RdmReq) : List Byte := s.rdBytes (rdmBuf w r.buf 2) (s.rdLE (rdmBuf w r.buf 0) 2)

/-- The gap holds a request with its response. -/
def State.reqFits (s : State) (w : Twin) (q : Nat) (r : RdmReq) : Bool := s.rdmFits w q (s.rdLE (rdmBuf w r.buf 0) 2 + 2) (s.param w q 6 2)

/-- The first request of a port has left its queue. -/
def State.reqTaken (s : State) (w : Twin) (q : Nat) (rest : List RdmReq) : State :=
  s.setDmx w q { s.dmx w q with queue := rest, stepTurn := (s.dmx w q).disc.isSome }

/-- A request that expects a response has left its queue and is on the line. -/
def State.reqRuns (s : State) (w : Twin) (q : Nat) (r : RdmReq) (rest : List RdmReq) : State :=
  runRdm w q (.request r) (s.reqSlots w r) false (s.reqTaken w q rest)

/-- The port once a transaction is on its line. -/
theorem runRdm_dmx (s : State) (w : Twin) (q : Nat) (job : RdmJob) (slots : List Byte) (bc : Bool) : ∃ ended hear,
    (runRdm w q job slots bc s).dmx w q = { s.dmx w q with run := some ⟨job, ended, bc, false⟩, hear := hear } := by
  unfold runRdm
  extract_lets frame ended s1
  have held : s1.dmx w q = s.dmx w q := dmx_of_tw (ite_tw (by cases w <;> rfl) rfl) q
  have busy : ∀ hear, { s1.dmx w q with run := some ⟨job, ended, bc, false⟩, hear := hear } ≠ DmxPort.reset := fun hear c =>
    Option.some_ne_none _ (congrArg DmxPort.run c)
  exact ⟨ended, _, by rw [dmx_setDmx (busy _), held]⟩

theorem runRdm_reg (s : State) (w : Twin) (q : Nat) (job : RdmJob) (slots : List Byte) (bc : Bool) (a : Nat) :
    (runRdm w q job slots bc s).reg a = s.reg a := by
  unfold runRdm
  extract_lets frame ended s1
  exact (reg_setDmx _ _ _ _ _).trans (ite_state (fun x => x.reg a) rfl rfl)

theorem startReq_runs {q : Nat} {r : RdmReq} {rest : List RdmReq} (queue : (s.dmx w q).queue = r :: rest) (fits : s.reqFits w q r = true)
    (single : beAt (s.reqSlots w r) 5 4 ≠ 0xFFFFFFFF) :
    startReq w q s = showDmx w q ((s.reqRuns w q r rest).bump (Reg.STRD_RDM_OK w q) Fld.STRD_RDM_OK_SENT) := by
  have notAll : beAt (s.rdBytes (rdmBuf w r.buf 2) (s.rdLE (rdmBuf w r.buf 0) 2)) 5 4 ≠ 0xFFFFFFFF := single
  unfold startReq
  simp only [queue, notAll, decide_false, Bool.false_eq_true, if_false]
  exact if_pos fits

/-- On a port whose controller runs, with the line free and no discovery, RDM_REQUEST_START starts a request. -/
theorem exec_rdmRequestStart {t : Nat} (runs : (s.beginAt t).rdmRuns w p = true) (free : s.portHeld = false) (idle : (s.dmx w p).run = none)
    (ran : s.tg.ran = true) (still : (s.dmx w p).disc = none) : exec (.rdmRequestStart t w p) s = .next (startReq w p (s.beginAt t)) := by
  have held : (s.beginAt t).dmx w p = s.dmx w p := dmx_of_tw (State.beginAt_tw s t w) p
  change execRdmRequestStart t w p s = _
  unfold execRdmRequestStart
  simp only [held, runs, idle, still, show (s.beginAt t).portHeld = false from free, show (s.beginAt t).tg.ran = true from ran]
  rfl

/-- On a table in canonical form a queued request takes the line and is counted. -/
theorem rdmRequestStart_takes {t : Nat} {r : RdmReq} {rest : List RdmReq} (tidy : s.tidy = true)
    (listed : Smap.wf (fun _ => DmxPort.reset) (s.tw w).dmx = true) (runs : (s.beginAt t).rdmRuns w p = true) (free : s.portHeld = false)
    (idle : (s.dmx w p).run = none) (ran : s.tg.ran = true) (still : (s.dmx w p).disc = none) (queue : (s.dmx w p).queue = r :: rest)
    (fits : (s.beginAt t).rdmFits w p (s.rdLE (rdmBuf w r.buf 0) 2 + 2) (s.param w p 6 2) = true)
    (single : beAt (s.reqSlots w r) 5 4 ≠ 0xFFFFFFFF) :
    ∃ u, exec (.rdmRequestStart t w p) s = .next u ∧ (u.dmx w p).run.map (fun x => (x.job, x.broadcast, x.discard)) = some (.request r, false, false) ∧
      (u.dmx w p).queue = rest ∧ u.reg (Reg.STRD_RDM_OK w p) = countUp (s.reg (Reg.STRD_RDM_OK w p)) Fld.STRD_RDM_OK_SENT ∧
      framed (portReg p) nowhere (s.beginAt t) u := by
  have held : (s.beginAt t).dmx w p = s.dmx w p := dmx_of_tw (State.beginAt_tw s t w) p
  have slots : (s.beginAt t).reqSlots w r = s.reqSlots w r := rdBytes_congr fun _ _ => rfl
  have run := exec_rdmRequestStart runs free idle ran still
  rw [startReq_runs (by rw [held]; exact queue) fits (by rwa [slots])] at run
  have taken : StrandStep ⟨false, false, false⟩ w p (s.beginAt t) ((s.beginAt t).reqTaken w p rest) :=
    (StrandStep.refl (s := s.beginAt t) tidy).setDmx _
  have lined : StrandStep ⟨false, false, false⟩ w p (s.beginAt t) ((s.beginAt t).reqRuns w p r rest) := taken.runRdm _ _ _
  have counted : StrandStep ⟨false, false, false⟩ w p (s.beginAt t)
      (((s.beginAt t).reqRuns w p r rest).bump (Reg.STRD_RDM_OK w p) Fld.STRD_RDM_OK_SENT) :=
    lined.bump (strandRegs_at w p)
  have port : (showDmx w p (((s.beginAt t).reqRuns w p r rest).bump (Reg.STRD_RDM_OK w p) Fld.STRD_RDM_OK_SENT)).dmx w p =
      ((s.beginAt t).reqRuns w p r rest).dmx w p := dmx_of_tw ((showDmx_tw _ _ _).trans (bump_tw _ _ _ _ _)) p
  obtain ⟨ended, hear, line⟩ := runRdm_dmx ((s.beginAt t).reqTaken w p rest) w p (.request r) ((s.beginAt t).reqSlots w r) false
  rw [← State.reqRuns] at line
  refine ⟨_, run, ?_, ?_, ?_, (counted.showDmx.mono fun _ => portReg_of_strandRegs).plain⟩
  · rw [port, line]
    rfl
  · rw [port, line, State.reqTaken, dmx_setDmx_of_wf (by rwa [State.beginAt_tw])]
  · rw [showDmx_reg counted.wf _ _ (by simp [Reg.STRD_RDM_OK, Reg.STRD_WSTAT]), reg_bump_countUp lined.wf _ _ (by decide), State.reqRuns,
      runRdm_reg, State.reqTaken, reg_setDmx, State.beginAt_reg]

/-! ### A port that is listed twice -/

/-- Port 0 of Twin A is a DMX port whose RDM controller runs. Its table lists the port twice, so that the first entry, with a request of buffer 1
and nothing else, hides the second. -/
def listedTwice : State :=
  let base : State := { State.reset with
    now := 3000000
    role := ⟨.active, .ready⟩
    tg := { TickGen.reset with ran := true, cur := { TickAt.reset with raw := 900000 } }
    a := { TwinState.reset with dmx := [(0, { DmxPort.reset with queue := [⟨1, 5⟩] }), (0, { DmxPort.reset with queue := [⟨2, 5⟩] })] } }
  (((base.wrBytes (entryAddr .a 6 0 0) [2, 1]).wrBytes (rdmBuf .a 1 0) [24, 0]).sb (Reg.RDM_CFG .a) Fld.RDM_CFG_EN true).setReg (Reg.RDM_UID_LO .a) 7

/-- The request is taken, its entry holds nothing any more and leaves the table, and the port reads as the second entry. -/
theorem startReq_listedTwice : ((startReq .a 0 (listedTwice.beginAt 3000000)).dmx .a 0).queue = [⟨2, 5⟩] := by decide +kernel

/-- Refutes O31 in its clause on RDM_REQUEST_START, which does not ask for a table of ports in canonical form, as the clauses on the end of a
transaction and of discovery do: where a port is listed twice, the request that leaves the first entry uncovers the queue of the second. On a
table in canonical form the clause holds (`rdmRequestStart_takes`). -/
theorem not_rdmRequestsAndDiscoveryRun : ¬ Obligations.RdmRequestsAndDiscoveryRun := by
  unfold Obligations.RdmRequestsAndDiscoveryRun
  rintro ⟨requests, -⟩
  obtain ⟨-, start, -⟩ := requests listedTwice 3000000 .a (by decide +kernel)
  have runs : (listedTwice.beginAt 3000000).rdmRuns .a 0 = true := by decide +kernel
  have free : listedTwice.portHeld = false := by decide +kernel
  obtain ⟨u, run, -, queue, -⟩ := start 0 ⟨1, 5⟩ [] runs free rfl rfl rfl rfl (by decide +kernel) (by decide +kernel)
  have next : u = startReq .a 0 (listedTwice.beginAt 3000000) :=
    (Host.Outcome.next.inj ((exec_rdmRequestStart (p := 0) runs free rfl rfl rfl).symm.trans run)).symm
  have left : (u.dmx .a 0).queue = [⟨2, 5⟩] := by rw [next]; exact startReq_listedTwice
  exact absurd (left.symm.trans queue) (by decide)

end Sys2Proof.Machine
end
